-- ==== Sys2Proof/Word.lean ====
section
/-! DEFINITION. The byte, the numbers of the module's units, and the sparse table. -/

namespace Sys2Proof

/-- One byte (00 R10). -/
abbrev Byte := BitVec 8

/-- A string of bytes, first byte first (00 R11). -/
abbrev Bytes := List Byte

/-- A lane, L0 to L47 (00 Table 0-5). A port is named by its first lane. -/
abbrev LaneId := Fin 48

/-- A switch engine: 0 is engine A, 1 is engine B (05 R152). -/
abbrev EngId := Fin 2

/-- One of the eight references (09 Table 9-1). -/
abbrev RefId := Fin 8

/-- A governor: 0 system, 1 time (09 R244). -/
abbrev GovId := Fin 2

/-- A trigger output TRIG0 to TRIG7 (10 R271). -/
abbrev TrigId := Fin 8

/-- A feed: 0 is A, 1 is B (16 R410). -/
abbrev FeedId := Fin 2

/-- A cog (13 R327). -/
abbrev CogId := Fin 256

/-- A wheel of sixteen cogs (13 R330). -/
abbrev WheelId := Fin 16

/-- A scratchpad bank (13 R338). -/
abbrev BankId := Fin 64

/-- A bus-matrix master (13 Table 13-2). -/
abbrev MasterId := Fin 23

/-- A bus-matrix target (13 Table 13-3). -/
abbrev TargetId := Fin 16

/-- A sparse table from numbers to values: keys strictly rising, no entry equal to what an unlisted key reads as. -/
abbrev Tab (α : Type) := List (Nat × α)

/-- Slots of one lane (02 R62). -/
def laneSlots : Nat := 768000

/-- Blocks of one frame: 1,000 rows of 97 blocks (02 R31). -/
def frameBlocks : Nat := 97000

end Sys2Proof
end

