-- ==== Sys2Proof/Syntax.lean ====
section
/-! DEFINITION. The commands of the block: one constructor for each row of spec/opcode_table.json, and the operands. -/

namespace Sys2Proof

/-- Who sends one request: an open session and the request's tag (14 R356). -/
structure Rq where
  /-- Session identifier, 32 bits. -/
  session : Nat
  /-- Tag chosen by the client, 16 bits. -/
  tag : Nat
  deriving DecidableEq, Repr

/-- A request record as it comes (14 Table 14-6), less its op byte. -/
structure Req where
  session : Nat
  tag : Nat
  flags : Nat
  index : Nat
  sub : Nat
  /-- Byte 7, reserved. -/
  rsv : Nat
  element : Nat
  length : Nat
  offset : Nat
  total : Nat
  value : Bytes
  deriving DecidableEq, Repr

/-- The source of a datagram: IPv6 address and UDP port. -/
structure Src where
  addr : Nat
  port : Nat
  deriving DecidableEq, Repr

/-- What R350 looks at in the header of an Unryn message (14 Table 14-1). -/
structure Hdr where
  version : Nat
  kind : Nat
  length : Nat
  session : Nat
  sequence : Nat
  /-- Bytes in the UDP payload. -/
  udpLength : Nat
  /-- The bytes after the header. -/
  body : Bytes
  deriving DecidableEq, Repr

/-- An Ethernet frame at MGT0 or MGT1 (14 R346, R347). -/
structure EthFrame where
  src : Nat
  dst : Nat
  etherType : Nat
  length : Nat
  /-- The frame finds the 4 KB queue of its port full (01 Table 1-4). -/
  queueFull : Bool
  deriving DecidableEq, Repr

/-- Where an IPv6 datagram comes from (14 R349). -/
inductive IfId where
  | management
  | lane (l : LaneId)
  deriving DecidableEq, Repr

/-- A supervisor restart's cause, as 8000:01 codes it (13 Table 13-7). -/
inductive RestartCause where
  | powerUp | lockstep | headWatchdog | cogFaults | command | memory
  deriving DecidableEq, Repr

/-- What a die-to-die flit brings (01 R23). -/
inductive FlitCheck where
  | good | corrected | uncorrectable
  deriving DecidableEq, Repr

/-- What went wrong on a die-to-die link (01 R23, Table 1-4). -/
inductive LinkFault where
  | framing | overrun | underrun
  deriving DecidableEq, Repr

/-- The two overhead channels (02 R51). -/
inductive Chan where
  | time | data
  deriving DecidableEq, Repr

/-- A seal record as received (02 Table 2-10). -/
structure SealRec where
  handle : Nat
  newKey : Bool
  /-- Bits [39:0] of the seal counter. -/
  counter : Nat
  /-- The GCM tag, 128 bits. -/
  tag : Nat
  deriving DecidableEq, Repr

/-- What a lane's receiver measures at its sampler during training (03 R77). -/
structure EyeObs where
  /-- The equaliser has converged. -/
  converged : Bool
  /-- Eye height, mV. -/
  height : Nat
  /-- Eye width, thousandths of a UI. -/
  width : Nat
  deriving DecidableEq, Repr

/-- What one lane shows at an internal frame boundary (04 R104). -/
structure LanePhase where
  lane : LaneId
  /-- Phase offset in ns, -62,500 to 62,499. -/
  phase : Int
  deriving DecidableEq, Repr

/-- An upset of an engine's memory that stands while the frame that ends is read (05 R145 to R149). -/
inductive Upset where
  /-- Bits flipped in the 96-bit word of an entry of the active page, companions counted. -/
  | entry (engine : EngId) (index : Nat) (flips : BitVec 96)
  /-- Bits flipped in an 80-bit word of the frame buffer that is read, or of the prompt row ring: data in [63:0], route tag in [71:64], ECC in [79:72]. -/
  | word (engine : EngId) (ring : Bool) (w : Nat) (flips : BitVec 80)
  /-- The word at an address is one written for another place: its tag is that of P and W given here. -/
  | stray (engine : EngId) (ring : Bool) (w p v : Nat)
  deriving DecidableEq, Repr

/-- What the hardware sees at one internal frame boundary: measured phases, and the upsets of the frame just ended. -/
structure BoundaryObs where
  phases : List LanePhase
  upsets : List Upset
  deriving DecidableEq, Repr

/-- An alarm condition that FAILURE_RAISED and FAILURE_CLEARED report (04 R110, 08 R231, 09 R256, 10 R275, 11 R286, 13 R328, R329, 15 R397, 16 R432). -/
inductive AlarmCond where
  | lane (l : LaneId) (bit : Fin 8)
  | noHolder | commonTally | noStandby
  | engineUnusable (e : EngId)
  | standbyStale
  | freeRun | holdover | holdoverLong
  | refUnqualified (r : RefId)
  | disagreement
  | tjr | timeHoldover | timeUnset
  | feedNotValid (f : FeedId)
  | settingsNotRestored | mapNotRestored | checkpointDue
  | flashWear (area : Fin 14)
  | temperature
  | cogHeld (c : CogId)
  | auditUnread
  | counterNear (stream : Fin 65536)
  | txKeyx (stream : Fin 65536)
  | rxSealf (stream : Fin 65536)
  | rxKeyx (stream : Fin 65536)
  deriving DecidableEq, Repr

/-- Which port of a pair a hold-off belongs to (07 R187). -/
inductive PairSide where
  | working | protect
  deriving DecidableEq, Repr

/-- How a wake ended (08 R225). -/
inductive WakeResult where
  | done | older | linkFailed | checkpointBad | railNotGood | replayBad | faulty
  deriving DecidableEq, Repr

/-- The fields of an arm record that its mode uses (06 Table 6-10). -/
structure ArmRec where
  hopper : Nat
  client : Nat
  /-- Superframe; mode 1, otherwise to be 0. -/
  superframe : Nat
  sfi : Nat
  /-- Instant, mode 2: TAI seconds. -/
  seconds : Nat
  nanoseconds : Nat
  deriving DecidableEq, Repr

/-- A trigger arm record (10 Table 10-4), less its mode. -/
structure TrigRec where
  seconds : Nat
  nanoseconds : Nat
  /-- 2^-16 ns. -/
  period : Nat
  width : Nat
  count : Nat
  deriving DecidableEq, Repr

/-- A key-wrapping key as it is delivered (11 R293). -/
structure KwkCipher where
  /-- The 384 bytes written. -/
  bytes : Bytes
  /-- What they decrypt to under the identity key; none where they do not. -/
  decrypted : Option (BitVec 256)
  deriving DecidableEq, Repr

/-- What a cog fault was (13 R328). -/
inductive CogFaultKind where
  | memory | refusedAccess
  deriving DecidableEq, Repr

/-- A monitored entity (12 Table 12-6). -/
inductive Entity where
  | near (l : LaneId)
  | far (l : LaneId)
  | stream (k : Fin 65536)
  deriving DecidableEq, Repr

/-- How a preserving march slice ended (13 R342). -/
inductive SliceResult where
  | passed | failed | suspended
  deriving DecidableEq, Repr

/-- What an uncorrectable scratchpad word belonged to (13 R339). -/
inductive ScratchUse where
  | firmware | dictionary | journal | other
  deriving DecidableEq, Repr

/-- The two tamper inputs (15 R406). -/
inductive TamperInput where
  | loop | pin
  deriving DecidableEq, Repr

/-- The six temperatures of A000:02 in 0.01 degree (16 Table 16-10). -/
structure Temps where
  inlet : Int
  portDie : Int
  engineA : Int
  engineB : Int
  supervisor : Int
  ocxo : Int
  deriving DecidableEq, Repr

/-- The rails that the erasure comparators watch (15 Table 15-9). -/
inductive Rail where
  | supervisor | portDie
  deriving DecidableEq, Repr

/-- What a glitch monitor saw (15 Table 15-9). -/
inductive GlitchKind where
  | rail | sysClock | mtxClock | headClock
  deriving DecidableEq, Repr

/-- What the hardware shows during one start-up (16 Tables 16-3 and 16-4). -/
structure BootObs where
  /-- The rails report good within 100 ms. -/
  railsGood : Bool
  /-- The GCM tag of the payload in slot A, then in slot B, verifies at step 5. -/
  tagA : Bool
  tagB : Bool
  /-- Scratchpad banks that fail the start-up march. -/
  badBanks : List BankId
  /-- Banks of engine A, and of engine B, that fail the march of 640 banks. -/
  badA : List (Fin 640)
  badB : List (Fin 640)
  /-- Engine A, and engine B, comes through links and checks of step 8. -/
  okA : Bool
  okB : Bool
  /-- Flash areas, by element of Table 16-5, whose content is found damaged: its CRC, digest or descriptor does not hold. -/
  damaged : List (Fin 14) := []
  deriving DecidableEq, Repr

/-- The level of the supply pins as measured, in 10 mV (16 A000:01). -/
abbrev Volts := Nat

/-- What a checkpoint refresh finds (08 R222, 05 R150). -/
structure RefreshObs where
  /-- Banks that fail the march, in the order found. -/
  badBanks : List (Fin 640)
  /-- The new image passes its check. -/
  imageOk : Bool
  /-- The image kept in the other area passes its own. -/
  keptOk : Bool
  deriving DecidableEq, Repr

/-- A matrix port's counts over one bandwidth window (13 R344). -/
structure PortCounts where
  /-- 0 to 22 masters, 32 to 47 targets. -/
  port : Nat
  beatsRead : Nat
  beatsWritten : Nat
  stalled : Nat
  grants : Nat
  deriving DecidableEq, Repr

/-- What the matrix had open when a master was reset (13 R335). -/
structure ResetObs where
  /-- Target of the open write burst, 0xFF none. -/
  target : Nat
  beatsWritten : Nat
  beatsLeft : Nat
  responsesOwed : Nat
  deriving DecidableEq, Repr

/-- The commands: one constructor for each row of spec/opcode_table.json, in its order. -/
inductive Instr where
  | identity (h : Hdr) (src : Src) (op : Nat) (q : Req)
  | commissioningFrame (frame : Bytes)
  | hello (h : Hdr) (src : Src)
  | openSession (h : Hdr) (src : Src) (serial : Nat) (signatureOk transportOk : Bool) (key : BitVec 256)
  | secure (h : Hdr) (src : Src) (tagOk : Bool)
  | handshakeLapse (session : Nat)
  | sessionIdleTimeout (session : Nat)
  | read (q : Req)
  | write (q : Req)
  | readMulti (q : Req)
  | domainRead (q : Req)
  | domainWrite (q : Req)
  | describe (q : Req)
  | hopperRead (q : Req)
  | hopperWrite (q : Req)
  | hopperAck (q : Req)
  | subscribe (q : Req)
  | release (q : Req)
  | nop (q : Req)
  | close (q : Req)
  | domainSnapshotExpiry (session index sub element : Nat)
  | domainTransferDrop (session index sub element : Nat)
  | hopperWriteTimeout (session tag : Nat)
  | hopperConfiguration (rq : Rq) (hopper : Nat) (value : Bytes)
  | acknowledgeAlarm (rq : Rq) (number : Nat)
  | acknowledgeAll (rq : Rq)
  | commit (rq : Rq) (arg : Byte)
  | commitComplete (verified : Bool)
  | discardStaged (rq : Rq) (arg : Byte)
  | closeSession (rq : Rq) (target : Nat) (arg : Byte)
  | managementAddressWrite (rq : Rq) (value : Bytes)
  | unrynPortWrite (rq : Rq) (port : Nat)
  | mgtFrame (port : Fin 2) (f : EthFrame)
  | ringCheckTimer
  | ringOpen
  | ringClose
  | flushFrame (port : Fin 2)
  | ipv6Datagram (origin : IfId) (d : Bytes)
  | supervisorRestart (cause : RestartCause)
  | restartSupervisor (rq : Rq) (arg : Byte)
  | supervisorRestartComplete
  | lockstepMismatch
  | headWatchdog
  | portDieFault
  | txQueueFault (lane : LaneId)
  | linkFlit (engine : EngId) (check : FlitCheck)
  | linkFramingLoss (engine : EngId) (fault : LinkFault)
  | blockReceived (lane : LaneId) (header : BitVec 2) (payload : BitVec 64)
  | overheadBlockReceived (lane : LaneId) (row : Fin 1000) (header : BitVec 2) (content : BitVec 64)
  | channelPacket (lane : LaneId) (chan : Chan)
  | sealRecord (lane : LaneId) (r : SealRec) (tagOk : Bool)
  | sealRecordDeadline (stream : Fin 65536)
  | aisHoldEnd (stream : Fin 65536)
  | candidateExpectedPosition (lane : LaneId) (position : Nat) (header : BitVec 2) (content : BitVec 64)
  | expectedFabPosition (lane : LaneId) (header : BitVec 2) (content : BitVec 64)
  | internalFrameBoundary (o : BoundaryObs)
  | framePhaseAlignmentLost
  | laneEnable (rq : Rq) (lane : Nat)
  | laneDisable (rq : Rq) (lane : Nat)
  | signalDetectAssert (lane : LaneId)
  | signalDetectDeassert (lane : LaneId)
  | signalDetectStable (lane : LaneId)
  | losDeclared (lane : LaneId)
  | losCleared (lane : LaneId)
  | cdrLockStable (lane : LaneId)
  | cdrLockTimeout (lane : LaneId)
  | cdrLockLost (lane : LaneId)
  | trainingMessage (lane : LaneId) (symbols : BitVec 304) (eye : EyeObs)
  | responseTimeExpiry (lane : LaneId)
  | trainingTimerExpiry (lane : LaneId)
  | trailingFramesEnd (lane : LaneId)
  | blockLockTimeout (lane : LaneId)
  | restartHoldExpiry (lane : LaneId)
  | retrain (rq : Rq) (lane : Nat) (arg : Byte)
  | rtrPeriodEnd (lane : LaneId)
  | gatherEnd (port : LaneId)
  | loopbackOff (rq : Rq) (lane : Nat)
  | loopbackSerial (rq : Rq) (lane : Nat)
  | loopbackParallel (rq : Rq) (lane : Nat)
  | loopbackFarEnd (rq : Rq) (lane : Nat)
  | equaliserFreeze (rq : Rq) (lane : Nat)
  | equaliserUnfreeze (rq : Rq) (lane : Nat)
  | portWidthWrite (rq : Rq) (port : Nat) (width : Nat)
  | expectedTraceWrite (rq : Rq) (lane : Nat) (text : Bytes)
  | timModeWrite (rq : Rq) (lane : Nat) (mode : Nat)
  | failureRaised (c : AlarmCond)
  | failureCleared (c : AlarmCond)
  | slipCleared (lane : LaneId)
  | transactionTaken (hopper : Fin 8192)
  | transactionComplete (acceptance : Nat)
  | revertShadow (rq : Rq) (arg : Byte)
  | pageCopyEnd
  | armNextFrame (rq : Rq) (r : ArmRec)
  | armNamedMultiframe (rq : Rq) (r : ArmRec)
  | armTaiInstant (rq : Rq) (r : ArmRec)
  | sealPoint
  | commitPoint
  | activation
  | cancelActivation (rq : Rq) (number : Nat)
  | protectPortWrite (rq : Rq) (port : Nat) (protect : Nat)
  | pairWriteTaken (port : LaneId)
  | pairWriteTimeout (port : LaneId)
  | pairModeWrite (rq : Rq) (port : Nat) (mode : Nat)
  | holdOffExpiry (port : LaneId) (side : PairSide)
  | pairEvaluation
  | wtrExpiry (port : LaneId)
  | lineClear (rq : Rq) (port : Nat)
  | lockoutOfProtection (rq : Rq) (port : Nat)
  | forcedSwitch (rq : Rq) (port : Nat)
  | manualSwitchToProtect (rq : Rq) (port : Nat)
  | manualSwitchToWorking (rq : Rq) (port : Nat)
  | modeMismatchDeclared (port : LaneId)
  | modeMismatchCleared (port : LaneId)
  | selectorMismatchDeclared (port : LaneId)
  | selectorMismatchCleared (port : LaneId)
  | circuitWtrTick
  | circuitWtrExpiry (selector : Fin 262144)
  | circuitCommandNone (rq : Rq) (handle : Nat)
  | circuitLockout (rq : Rq) (handle : Nat)
  | circuitForced (rq : Rq) (handle : Nat)
  | circuitManual (rq : Rq) (handle : Nat)
  | circuitRevertiveWrite (rq : Rq) (handle : Nat) (value : Nat)
  | selectorWriteBack
  | perFrameLeaseState (engine : EngId)
  | wakeComplete (engine : EngId) (result : WakeResult)
  | renewal (engine : EngId) (epoch : Nat)
  | claim (engine : EngId) (epoch : Nat)
  | leaseExpiry
  | admission
  | tallyComparison (checkFault : Option (BitVec 32)) (portFault : BitVec 32) (loopDone : Bool)
  | coreRailFault (engine : EngId)
  | islandRailLoss (engine : EngId)
  | refreshDue
  | refreshCheckpoint (rq : Rq) (arg : Byte)
  | refreshComplete (engine : EngId) (o : RefreshObs)
  | heartbeat (sender : EngId)
  | heartbeatLost (receiver : EngId)
  | manualSwitch (rq : Rq) (arg : Byte)
  | handover
  | automaticRestart (engine : EngId)
  | restartEngine (rq : Rq) (engine : Nat)
  | restartMarchComplete (engine : EngId) (badBanks : List (Fin 640))
  | tallyRevocationWrite (rq : Rq)
  | referenceEdgeMissing (ref : RefId)
  | frequencyMeasurement (ref : RefId) (offset : Int)
  | hardLimitExceeded (ref : RefId)
  | softLimitFlag (ref : RefId)
  | referenceWtrExpiry (ref : RefId)
  | referenceSelection
  | disagreementSet (a b : RefId)
  | disagreementCleared (a b : RefId)
  | selectClear (rq : Rq) (ref : Nat)
  | selectForced (rq : Rq) (ref : Nat)
  | selectManual (rq : Rq) (ref : Nat)
  | selectHoldover (rq : Rq) (ref : Nat)
  | selectFreeRun (rq : Rq) (ref : Nat)
  | governorLocked (gov : GovId)
  | noLockTimeout
  | historyEntry (gov : GovId) (mean : Int)
  | calibrationUpdate (mean : Int)
  | ocxoWarm
  | ssmOptionWrite (rq : Rq) (option : Nat)
  | realignFramePhase (rq : Rq) (arg : Byte)
  | realignment (phases : List LanePhase)
  | ppsInEdge
  | todMessage (message : Bytes)
  | todOut
  | delayReqInterval
  | sourceLost
  | permitStep (rq : Rq)
  | permitSlew (rq : Rq)
  | timeSourceWrite (rq : Rq) (source : Nat)
  | ptpSourceLaneWrite (rq : Rq) (lane : Nat)
  | armOneShot (rq : Rq) (trig : Nat) (r : TrigRec)
  | armPeriodic (rq : Rq) (trig : Nat) (r : TrigRec)
  | disarmTrigger (rq : Rq) (trig : Nat) (arg : Byte)
  | triggerFire (trig : TrigId)
  | triggerPulseEnd (trig : TrigId)
  | transmitStreamWrite (rq : Rq) (stream : Nat) (value : Bytes)
  | receiveStreamWrite (rq : Rq) (stream : Nat) (value : Bytes)
  | installKey (rq : Rq) (slot : Nat) (wrapped : Bytes) (switchAt : Nat)
  | keySwitch (slot : Fin 16384)
  | erasePendingKey (rq : Rq) (slot : Nat)
  | eraseSlotKey (rq : Rq) (slot : Nat)
  | eraseAllKeys (rq : Rq) (arg : Byte)
  | installKwk (rq : Rq) (c : KwkCipher)
  | installChannelKey (rq : Rq) (channel : Nat) (wrapped : Bytes)
  | sendMessage (rq : Rq) (channel : Nat) (message : Bytes)
  | tamperDetected (input : TamperInput)
  | temperatureSample (t : Temps)
  | voltageExcursion (rail : Rail)
  | glitchDetected (kind : GlitchKind)
  | clearTamper (rq : Rq) (arg : Byte)
  | authCountDecay
  | secondBoundary
  | secondClassify (entity : Entity)
  | secondCommit
  | wheelDrain (wheel : WheelId)
  | clearCounters (rq : Rq) (index element : Nat)
  | cogWatchdogExpiry (cog : CogId)
  | cogFault (cog : CogId) (kind : CogFaultKind)
  | cogReloaded (cog : CogId)
  | mapAuditPass (mismatches : List Nat) (milliseconds : Nat)
  | matrixTimeout (master : MasterId) (target : TargetId)
  | masterReset (master : MasterId) (o : ResetObs)
  | marchSlice (bank : BankId) (slice : Fin 64) (result : SliceResult)
  | sliceResume
  | marchPassDue
  | startMarchPass (rq : Rq) (arg : Byte)
  | bandwidthWindowEnd (counts : List PortCounts)
  | bandwidthWindowWrite (rq : Rq) (milliseconds : Nat)
  | enrolCertificate (rq : Rq) (record : Bytes)
  | revokeCertificate (rq : Rq) (serial : Nat)
  | makerAccessWrite (rq : Rq) (value : Byte)
  | auditFlush (flashOk : Bool)
  | markRead (rq : Rq) (sequence : Nat)
  | startTrial (rq : Rq) (slot : Nat)
  | confirmImage (rq : Rq) (arg : Byte)
  | enterRecovery (rq : Rq) (arg : Byte)
  | attestationNonce (rq : Rq) (nonce : Bytes)
  | attestationReportReady (session : Nat)
  | flashEraseComplete (area : Fin 14) (ok : Bool)
  | feedValid (feed : FeedId) (volts : Volts) (o : BootObs)
  | feedInvalid (feed : FeedId) (volts : Volts)
  | keepPresent
  | keepLost
  | hotSwapTrip (feed : FeedId)
  | hotSwapRetry (feed : FeedId)
  | holdUpCharged
  | seated (o : BootObs)
  | presentLost (pin : Fin 2)
  | resetAssert
  | resetRelease (o : BootObs)
  | startupRetry (o : BootObs)
  | startupComplete
  | mapCheckpointStart
  | mapCheckpointComplete (verified : Bool)
  | eraseBudgetUnit
  | restoreDefaults (rq : Rq) (value : Byte)
  | powerFail
  | referenceActivityRestored (ref : RefId)
  | tamperConditionEnded (input : TamperInput)
  | voltageConditionEnded (rail : Rail)
  | macAddressAgeing (mac : Nat)
  | mgtLinkChange (port : Fin 2) (up : Bool)
  | keptResponseExpiry (session tag : Nat)
  | overheadQueueFault (lane : LaneId)
  | scratchpadEccUncorrectable (bank : BankId) (use : ScratchUse)
  | slewComplete
  deriving DecidableEq, Repr

end Sys2Proof
end

