-- ==== Sys2Proof/Config.lean ====
section
/-! DEFINITION. What an implementation or its manufacture fixes, and the values the spec leaves free: constants without a body. -/

namespace Sys2Proof.Config

/-- What a longest-time figure has met at a moment: waits of DMA at banks 0 to 63, interrupt entry as number 64 (13 Table 13-7; log entry 6). -/
opaque longest : Nat → Nat → Nat

/-- The value that a maker-reserved object answers with, by the count of free values drawn (14 Table 14-19 describes none of these objects). -/
opaque makerValue : Nat → Bytes

/-- The hop limit of the module's own ICMPv6 answers, where RFC 4861 fixes none (14 R348). -/
opaque hopLimit : BitVec 8

/-- The k-th value that the spec leaves open (log entry 6). -/
opaque freeValue : Nat → Nat

/-- What the adaptation of a lane's receive equaliser has reached at a time (03 R70). -/
opaque equaliser : Nat → Nat → Nat

/-- The tap request that a lane's requester makes at a time: request byte, and preset index (03 R76; the spec gives no rule for which). -/
opaque tapRequest : Nat → Nat → Nat × Nat

/-- The SECDED check byte over the data bits of a memory word (05 R129, R148; the spec names no code). -/
opaque secded : Nat → BitVec 8

/-- The k-th random 32-byte nonce (14 R352). -/
opaque nonce : Nat → BitVec 256

/-- The identity key's RSASSA-PSS signature over a string (15 R405). -/
opaque identitySignature : Bytes → Bytes

/-- Thonik's signature over an image header verifies (15 R399). -/
opaque imageSignatureOk : Bytes → Bool

/-- The firmware key in the key store (15 R398). -/
opaque firmwareKey : BitVec 256

/-- The content of a dictionary copy with the given values (15 Tables 15-6 and 15-8); the spec gives no layout for it. -/
opaque dictionaryBytes : List (Nat × List Nat) → Bytes

/-- The content of a map checkpoint of the given entries (16 R424); the spec gives no layout for it. -/
opaque mapBytes : List (List Nat) → Bytes

/-- The boot ROM's bytes, and its version (15 Tables 15-6 and 15-10). -/
opaque bootRom : Bytes
opaque bootRomVersion : Nat

/-- Set at manufacture: serial number (1000:06), hardware revision (1000:07), MAC address (9100:04), clock identity (5810:06). -/
opaque serialNumber : Bytes
opaque hardwareRevision : Nat
opaque macAddress : Nat
opaque clockIdentity : Nat

/-- The identity key's public modulus and exponent (14 Table 14-3), and Thonik's endorsement of it (15 R404). -/
opaque identityModulus : Nat
opaque identityExponent : Nat
opaque identityEndorsement : Bytes

/-- The RSA decryption of a KWK, for a generic write; none when it fails (11 R293). -/
opaque openKwk : Bytes → Option (BitVec 256)

end Sys2Proof.Config
end

