-- ==== Sys2Proof/Machine/Bits.lean ====
section
/-! DEFINITION. Byte order, fields of values, check sequences, and small arithmetic. -/

namespace Sys2Proof.Machine

/-- A number as n bytes, most significant byte first (00 R11). -/
def beBytes : Nat → Nat → Bytes
  | 0, _ => []
  | n + 1, v => beBytes n (v / 256) ++ [BitVec.ofNat 8 v]

/-- The number that bytes give, most significant byte first (00 R11). -/
def beNat (b : Bytes) : Nat := b.foldl (fun a x => a * 256 + x.toNat) 0

/-- Bytes a to a + n - 1 of a string, as a number. -/
def field (b : Bytes) (a n : Nat) : Nat := beNat ((b.drop a).take n)

/-- n bytes of 0x00. -/
def zeros (n : Nat) : Bytes := List.replicate n 0

/-- A string brought to n bytes: cut, or padded with 0x00. -/
def padTo (n : Nat) (b : Bytes) : Bytes := b.take n ++ zeros (n - b.length)

/-- The signed reading of an n-bit number. -/
def signed (n v : Nat) : Int := if v < 2 ^ (n - 1) then (v : Int) else (v : Int) - (2 ^ n : Nat)

/-- An integer as an n-bit number in two's complement (14 R360). -/
def unsigned (n : Nat) (v : Int) : Nat := (v % ((2 ^ n : Nat) : Int)).toNat

/-- Bit i of a number. -/
def bit (v i : Nat) : Bool := v / 2 ^ i % 2 == 1

/-- Bits hi to lo of a number. -/
def bits (v hi lo : Nat) : Nat := v / 2 ^ lo % 2 ^ (hi - lo + 1)

/-- 1 for true. -/
def b2n (b : Bool) : Nat := if b then 1 else 0

/-- The word whose bit i is set where the i-th flag is. -/
def flagsWord : List Bool → Nat
  | [] => 0
  | b :: bs => b2n b + 2 * flagsWord bs

/-- Field lengths of a value laid over its bytes, each field a number (14 R360). -/
def splitFields : List Nat → Bytes → List Nat
  | [], _ => []
  | n :: ns, b => beNat (b.take n) :: splitFields ns (b.drop n)

/-- The bytes of a value from its fields (14 R360). -/
def joinFields : List Nat → List Nat → Bytes
  | [], _ => []
  | n :: ns, [] => zeros n ++ joinFields ns []
  | n :: ns, v :: vs => beBytes n v ++ joinFields ns vs

/-- One bit of a check-sequence register of n bits. -/
def crcBit (n poly : Nat) (c : Nat) (b : Bool) : Nat :=
  let top := c / 2 ^ (n - 1) % 2 == 1
  let c' := c * 2 % 2 ^ n
  if top != b then Nat.xor c' poly else c'

/-- One byte, most significant bit first. -/
def crcByte (n poly : Nat) (c : Nat) (x : Byte) : Nat :=
  [7, 6, 5, 4, 3, 2, 1, 0].foldl (fun c i => crcBit n poly c (bit x.toNat i)) c

/-- A check sequence over bytes. -/
def crc (n poly init : Nat) (b : Bytes) : Nat := b.foldl (crcByte n poly) init

/-- CRC-8 of the FAB and of the training message: 0x2F from 0xFF (02 R39). -/
def crc8 (b : Bytes) : Nat := crc 8 0x2F 0xFF b

/-- CRC-16 of channel packets, of the trace and of the commissioning frame: 0x1021 from 0xFFFF (02 R49, R53). -/
def crc16 (b : Bytes) : Nat := crc 16 0x1021 0xFFFF b

/-- One copy of the flash header: magic, sequence, preferred slot, trial flags, trial counts, CRC-16 (16 Table 16-6). -/
def headerBytes (seq preferred flags countA countB : Nat) : Bytes :=
  let b := [0x49, 0x44, 0x5A, 0x48] ++ beBytes 4 seq ++ beBytes 1 preferred ++ beBytes 1 flags ++ beBytes 1 countA ++ beBytes 1 countB ++ zeros 50
  b ++ beBytes 2 (crc16 b)

/-- The bytes of a text. -/
def ascii (s : String) : Bytes := s.toList.map fun c => BitVec.ofNat 8 c.toNat

/-- A STRING(n) of a text (14 Table 14-10). -/
def str (n : Nat) (s : String) : Bytes := padTo n (ascii s)

/-- Milliseconds and seconds in ns. -/
def msecs (n : Nat) : Nat := n * 1000000
def secs (n : Nat) : Nat := n * 1000000000

/-- The set bits below n of a mask. -/
def maskBits (n m : Nat) : List Nat := (List.range n).filter fun i => bit m i

/-- How many bits of a mask below n are set. -/
def popCount (n m : Nat) : Nat := (maskBits n m).length

/-- A value lies in lo to hi. -/
def within (lo hi v : Int) : Bool := decide (lo ≤ v) && decide (v ≤ hi)

end Sys2Proof.Machine
end

