-- ==== Sys2Proof/Machine/Crypto.lean ====
section
/-! DEFINITION. The ciphers and digests that the spec takes from published standards: AES (FIPS 197), its modes (NIST SP 800-38A, 38B, 38D, RFC 3394,
RFC 5649) and SHA-256 (FIPS 180-4). A number stands for a byte, a word or a block, most significant bit first. -/

namespace Sys2Proof.Machine

/-! AES, for keys of 16 and 32 bytes (11 R283, R300). -/

/-- A table of 256 bytes, sixteen to a number. -/
def boxByte (rows : List Nat) (b : Nat) : Nat := rows.getD (b / 16) 0 / 256 ^ (15 - b % 16) % 256

/-- The S-box, and its inverse. -/
def sboxRows : List Nat :=
  [
   0x637c777bf26b6fc53001672bfed7ab76, 0xca82c97dfa5947f0add4a2af9ca472c0, 0xb7fd9326363ff7cc34a5e5f171d83115,
   0x04c723c31896059a071280e2eb27b275, 0x09832c1a1b6e5aa0523bd6b329e32f84, 0x53d100ed20fcb15b6acbbe394a4c58cf,
   0xd0efaafb434d338545f9027f503c9fa8, 0x51a3408f929d38f5bcb6da2110fff3d2, 0xcd0c13ec5f974417c4a77e3d645d1973,
   0x60814fdc222a908846eeb814de5e0bdb, 0xe0323a0a4906245cc2d3ac629195e479, 0xe7c8376d8dd54ea96c56f4ea657aae08,
   0xba78252e1ca6b4c6e8dd741f4bbd8b8a, 0x703eb5664803f60e613557b986c11d9e, 0xe1f8981169d98e949b1e87e9ce5528df,
   0x8ca1890dbfe6426841992d0fb054bb16]
def invSboxRows : List Nat :=
  [
   0x52096ad53036a538bf40a39e81f3d7fb, 0x7ce339829b2fff87348e4344c4dee9cb, 0x547b9432a6c2233dee4c950b42fac34e,
   0x082ea16628d924b2765ba2496d8bd125, 0x72f8f66486689816d4a45ccc5d65b692, 0x6c704850fdedb9da5e154657a78d9d84,
   0x90d8ab008cbcd30af7e45805b8b34506, 0xd02c1e8fca3f0f02c1afbd0301138a6b, 0x3a9111414f67dcea97f2cfcef0b4e673,
   0x96ac7422e7ad3585e2f937e81c75df6e, 0x47f11a711d29c5896fb7620eaa18be1b, 0xfc563e4bc6d279209adbc0fe78cd5af4,
   0x1fdda8338807c731b11210592780ec5f, 0x60517fa919b54a0d2de57a9f93c99cef, 0xa0e03b4dae2af5b0c8ebbb3c83539961,
   0x172b047eba77d626e169146355210c7d]
def subByte (b : Nat) : Nat := boxByte sboxRows b
def invSubByte (b : Nat) : Nat := boxByte invSboxRows b

/-- Multiplication by x in the field of AES, and of a byte by a number of n bits. -/
def xtime (a : Nat) : Nat := Nat.xor (2 * a) (a / 128 * 0x11B)
def gmul : Nat → Nat → Nat → Nat
  | 0, _, _ => 0
  | n + 1, a, b => Nat.xor (b % 2 * a) (gmul n (xtime a) (b / 2))

/-- Two strings combined byte by byte, as long as the shorter. -/
def xorNats (a b : List Nat) : List Nat := List.zipWith Nat.xor a b

/-- The rows of a state, four bytes to a column, turned left by their numbers, and turned right. -/
def shiftRows : List Nat → List Nat
  | [s0, s1, s2, s3, s4, s5, s6, s7, s8, s9, s10, s11, s12, s13, s14, s15] =>
    [s0, s5, s10, s15, s4, s9, s14, s3, s8, s13, s2, s7, s12, s1, s6, s11]
  | s => s
def invShiftRows : List Nat → List Nat
  | [s0, s1, s2, s3, s4, s5, s6, s7, s8, s9, s10, s11, s12, s13, s14, s15] =>
    [s0, s13, s10, s7, s4, s1, s14, s11, s8, s5, s2, s15, s12, s9, s6, s3]
  | s => s

/-- The columns of a state, each multiplied by the circulant matrix with a first row. -/
def mixWith (w x y z : Nat) : List Nat → List Nat
  | a :: b :: c :: d :: s =>
    let row (w x y z : Nat) := Nat.xor (Nat.xor (gmul 4 a w) (gmul 4 b x)) (Nat.xor (gmul 4 c y) (gmul 4 d z))
    row w x y z :: row z w x y :: row y z w x :: row x y z w :: mixWith w x y z s
  | s => s

/-- The key schedule, newest word first: each word is the one a key's length before, combined with the last, which is turned and substituted where a
key's length begins anew. -/
def keyWords (nk : Nat) : Nat → Nat → List (List Nat) → List (List Nat)
  | 0, _, ws => ws
  | k + 1, i, ws =>
    let t := ws.headD []
    let t :=
      if i % nk = 0 then xorNats ((t.drop 1 ++ t.take 1).map subByte) [[1, 2, 4, 8, 16, 32, 64, 128, 27, 54].getD (i / nk - 1) 0, 0, 0, 0]
      else if 6 < nk ∧ i % nk = 4 then t.map subByte else t
    keyWords nk k (i + 1) (xorNats (ws.getD (nk - 1) []) t :: ws)

/-- Cut a string into pieces of n. -/
def pieces {α : Type} (n : Nat) : Nat → List α → List (List α)
  | 0, _ => []
  | k + 1, l => l.take n :: pieces n k (l.drop n)

/-- The round keys of a key, first round first. -/
def roundKeys (key : Bytes) : List (List Nat) :=
  let nk := key.length / 4
  let ws := keyWords nk (4 * (nk + 7) - nk) nk (pieces 4 nk (key.map BitVec.toNat)).reverse
  pieces 16 (nk + 7) ws.reverse.flatten

/-- The rounds of the cipher, and of its inverse, over the round keys that remain. -/
def aesRounds : List (List Nat) → List Nat → List Nat
  | [], s => s
  | [k], s => xorNats (shiftRows (s.map subByte)) k
  | k :: ks, s => aesRounds ks (xorNats (mixWith 2 3 1 1 (shiftRows (s.map subByte))) k)
def invRounds : List (List Nat) → List Nat → List Nat
  | [], s => s
  | [k], s => xorNats ((invShiftRows s).map invSubByte) k
  | k :: ks, s => invRounds ks (mixWith 14 11 13 9 (xorNats ((invShiftRows s).map invSubByte) k))

/-- One block under AES, and its inverse. -/
@[irreducible] def aes (key block : Bytes) : Bytes :=
  match roundKeys key with
  | [] => []
  | k :: ks => (aesRounds ks (xorNats (block.map BitVec.toNat) k)).map (BitVec.ofNat 8)
@[irreducible] def invAes (key block : Bytes) : Bytes :=
  match (roundKeys key).reverse with
  | [] => []
  | k :: ks => (invRounds ks (xorNats (block.map BitVec.toNat) k)).map (BitVec.ofNat 8)

/-- Two strings combined byte by byte, as long as the shorter. -/
def xorBytes (a b : Bytes) : Bytes := List.zipWith (· ^^^ ·) a b

/-- The 32 bytes of an AES-256 key. -/
def keyBytes (key : BitVec 256) : Bytes := beBytes 32 key.toNat

/-! GCM with a 96-bit IV and a 128-bit tag (11 R283, R284; NIST SP 800-38D). -/

/-- A block multiplied by a block in the field of GCM, the first bit of a block being the constant term. -/
def ghashMul (x y : Nat) : Nat :=
  ((List.range 128).foldl (fun (r : Nat × Nat) i =>
    (if bit x (127 - i) then Nat.xor r.1 r.2 else r.1, if r.2 % 2 = 1 then Nat.xor (r.2 / 2) (0xE1 * 2 ^ 120) else r.2 / 2)) (0, y)).1

/-- A string cut into blocks, the last one filled with 0x00. -/
def blocksOf (b : Bytes) : List Nat := (pieces 16 ((b.length + 15) / 16) b).map fun p => beNat (padTo 16 p)

/-- GHASH over the AAD, the ciphertext and the length block (11 R284). -/
@[irreducible] def ghash (h : Nat) (aad c : Bytes) : Nat :=
  (blocksOf aad ++ blocksOf c ++ [8 * aad.length * 2 ^ 64 + 8 * c.length]).foldl (fun y x => ghashMul (Nat.xor y x) h) 0

/-- The block of an IV with a block counter (11 Table 11-2). -/
def counterBlock (iv n : Nat) : Bytes := beBytes 12 iv ++ beBytes 4 n

/-- The byte that plaintext byte k is combined with: byte k mod 16 of AES under the counter block 2 + k div 16 (11 R284). -/
def cipherByte (key : BitVec 256) (iv k : Nat) : Byte :=
  (aes (keyBytes key) (counterBlock iv (2 + k / 16))).getD (k % 16) 0

/-- A text enciphered, or a ciphertext deciphered (11 R284). -/
def gcmText (key : BitVec 256) (iv : Nat) (m : Bytes) : Bytes := m.zipIdx.map fun e => e.1 ^^^ cipherByte key iv e.2

/-- The tag over an AAD and a ciphertext (11 R284). -/
def gcmTag (key : BitVec 256) (iv : Nat) (aad c : Bytes) : Bytes :=
  let k := keyBytes key
  padTo 16 (xorBytes (beBytes 16 (ghash (beNat (aes k (zeros 16))) aad c)) (aes k (counterBlock iv 1)))

/-- Ciphertext and tag of a plaintext (11 R284, R303). -/
def gcmSeal (key : BitVec 256) (iv : Nat) (aad m : Bytes) : Bytes :=
  let c := gcmText key iv m
  c ++ gcmTag key iv aad c

/-- The plaintext of a ciphertext with its tag; none where the tag fails (11 R303, Table 11-9). -/
def gcmOpen (key : BitVec 256) (iv : Nat) (aad b : Bytes) : Option Bytes :=
  let c := b.take (b.length - 16)
  if 16 ≤ b.length ∧ b.drop (b.length - 16) = gcmTag key iv aad c then some (gcmText key iv c) else none

/-! The other modes of the byte-serial engines (11 R300, Table 11-9). -/

/-- What a job of an engine ends with. -/
inductive JobEnd where
  | data (b : Bytes)
  | range
  | integrity
  deriving DecidableEq, Repr

/-- A job that goes on where the length is accepted. -/
def job (ok : Bool) (b : Bytes) : JobEnd := if ok then .data b else .range

/-- The 16-byte blocks of a string. -/
def blocks16 (b : Bytes) : List Bytes := pieces 16 (b.length / 16) b

/-- ECB, for lengths that are a multiple of 16, 16 or more. -/
def ecbLength (b : Bytes) : Bool := decide (16 ≤ b.length) && b.length % 16 == 0
def ecbEncrypt (key b : Bytes) : JobEnd := job (ecbLength b) ((blocks16 b).flatMap (aes key))
def ecbDecrypt (key b : Bytes) : JobEnd := job (ecbLength b) ((blocks16 b).flatMap (invAes key))

/-- CBC over whole blocks from a chaining value. -/
def cbcChain (key : Bytes) : Bytes → List Bytes → Bytes
  | _, [] => []
  | v, p :: ps => let c := aes key (xorBytes p v); c ++ cbcChain key c ps
def cbcUnchain (key : Bytes) : Bytes → List Bytes → Bytes
  | _, [] => []
  | v, c :: cs => xorBytes (invAes key c) v ++ cbcUnchain key c cs

/-- CBC with PKCS#7 padding, always added; a bad padding fails and releases nothing. -/
def cbcEncrypt (key iv b : Bytes) : JobEnd :=
  let n := 16 - b.length % 16
  .data (cbcChain key iv (blocks16 (b ++ List.replicate n (BitVec.ofNat 8 n))))
def cbcDecrypt (key iv b : Bytes) : JobEnd :=
  let p := cbcUnchain key iv (blocks16 b)
  let n := (p.getLastD 0).toNat
  if ecbLength b ∧ 1 ≤ n ∧ n ≤ 16 ∧ p.drop (p.length - n) = List.replicate n (BitVec.ofNat 8 n) then .data (p.take (p.length - n)) else .integrity

/-- CTR with the whole 128-bit block as the counter; the last block is cut. -/
def ctrCrypt (key iv b : Bytes) : JobEnd :=
  .data (b.zipIdx.map fun e => e.1 ^^^ (aes key (beBytes 16 (beNat iv + e.2 / 16))).getD (e.2 % 16) 0)

/-- A subkey of CMAC doubled. -/
def cmacDouble (v : Nat) : Nat := if v < 2 ^ 127 then 2 * v else Nat.xor (2 * v % 2 ^ 128) 0x87

/-- CMAC of a string (NIST SP 800-38B). -/
def cmac (key b : Bytes) : JobEnd :=
  let k1 := cmacDouble (beNat (aes key (zeros 16)))
  let whole := decide (0 < b.length) && b.length % 16 == 0
  let n := (b.length - 1) / 16 * 16
  let last := if whole then Nat.xor (beNat (b.drop n)) k1 else Nat.xor (beNat (padTo 16 (b.drop n ++ [0x80]))) (cmacDouble k1)
  .data ((pieces 16 (n / 16) b ++ [beBytes 16 last]).foldl (fun c p => aes key (xorBytes c p)) (zeros 16))

/-- One pass of the key wrap over the halves that remain: the integrity register, and the halves done. The step counter goes up. -/
def wrapPass (key : Bytes) : List Bytes → Nat → Bytes → List Bytes → Bytes × List Bytes
  | [], _, a, done => (a, done.reverse)
  | r :: rs, t, a, done =>
    let b := aes key (a ++ r)
    wrapPass key rs (t + 1) (beBytes 8 (Nat.xor (beNat (b.take 8)) t)) (b.drop 8 :: done)

/-- One pass of the unwrap, over the halves last first; the step counter goes down. -/
def unwrapPass (key : Bytes) : List Bytes → Nat → Bytes → List Bytes → Bytes × List Bytes
  | [], _, a, done => (a, done)
  | r :: rs, t, a, done =>
    let b := invAes key (beBytes 8 (Nat.xor (beNat a) t) ++ r)
    unwrapPass key rs (t - 1) (b.take 8) (b.drop 8 :: done)

/-- The wrap of RFC 3394 from an integrity value, and the unwrap: the value found, and the data. -/
def wrapWith (key a b : Bytes) : Bytes :=
  let n := b.length / 8
  let r := (List.range 6).foldl (fun (r : Bytes × List Bytes) j => wrapPass key r.2 (n * j + 1) r.1 []) (a, pieces 8 n b)
  r.1 ++ r.2.flatten
def unwrapWith (key c : Bytes) : Bytes × Bytes :=
  let n := c.length / 8 - 1
  let r := (List.range 6).foldl (fun (r : Bytes × List Bytes) j => unwrapPass key r.2.reverse (n * (6 - j)) r.1 [])
    (c.take 8, pieces 8 n (c.drop 8))
  (r.1, r.2.flatten)

/-- KW: the wrap of a string of a multiple of 8 bytes, 16 or more. -/
def kwValue : Bytes := beBytes 8 0xA6A6A6A6A6A6A6A6
def kwWrap (key b : Bytes) : JobEnd := job (decide (16 ≤ b.length) && b.length % 8 == 0) (wrapWith key kwValue b)
def kwUnwrap (key c : Bytes) : JobEnd :=
  let r := unwrapWith key c
  if c.length < 24 ∨ c.length % 8 ≠ 0 then .range else if r.1 = kwValue then .data r.2 else .integrity

/-- KWP: the wrap of 1 to 4,096 bytes, padded; a single padded half is one block. -/
def kwpWrap (key b : Bytes) : JobEnd :=
  let a := beBytes 4 0xA65959A6 ++ beBytes 4 b.length
  let p := padTo ((b.length + 7) / 8 * 8) b
  if b.length < 1 ∨ 4096 < b.length then .range
  else .data (if p.length = 8 then aes key (a ++ p) else wrapWith key a p)
def kwpUnwrap (key c : Bytes) : JobEnd :=
  let r := if c.length = 16 then (let b := invAes key c; (b.take 8, b.drop 8)) else unwrapWith key c
  let n := beNat (r.1.drop 4)
  if c.length < 16 ∨ c.length % 8 ≠ 0 ∨ 4104 < c.length then .range
  else if r.1.take 4 = beBytes 4 0xA65959A6 ∧ n ≤ r.2.length ∧ r.2.length < n + 8 ∧ r.2.drop n = zeros (r.2.length - n) then .data (r.2.take n)
  else .integrity

/-- The data of a job that gives any. -/
def JobEnd.bytes? : JobEnd → Option Bytes
  | .data b => some b
  | _ => none

/-! SHA-256 (15 R395, R399, R405; FIPS 180-4). -/

/-- A 32-bit word turned right. -/
def rotr (n x : Nat) : Nat := x / 2 ^ n + x % 2 ^ n * 2 ^ (32 - n)

/-- The constants of the rounds, and the first value of the digest. -/
def shaRounds : List Nat :=
  [0x428a2f98, 0x71374491, 0xb5c0fbcf, 0xe9b5dba5, 0x3956c25b, 0x59f111f1, 0x923f82a4, 0xab1c5ed5,
   0xd807aa98, 0x12835b01, 0x243185be, 0x550c7dc3, 0x72be5d74, 0x80deb1fe, 0x9bdc06a7, 0xc19bf174,
   0xe49b69c1, 0xefbe4786, 0x0fc19dc6, 0x240ca1cc, 0x2de92c6f, 0x4a7484aa, 0x5cb0a9dc, 0x76f988da,
   0x983e5152, 0xa831c66d, 0xb00327c8, 0xbf597fc7, 0xc6e00bf3, 0xd5a79147, 0x06ca6351, 0x14292967,
   0x27b70a85, 0x2e1b2138, 0x4d2c6dfc, 0x53380d13, 0x650a7354, 0x766a0abb, 0x81c2c92e, 0x92722c85,
   0xa2bfe8a1, 0xa81a664b, 0xc24b8b70, 0xc76c51a3, 0xd192e819, 0xd6990624, 0xf40e3585, 0x106aa070,
   0x19a4c116, 0x1e376c08, 0x2748774c, 0x34b0bcb5, 0x391c0cb3, 0x4ed8aa4a, 0x5b9cca4f, 0x682e6ff3,
   0x748f82ee, 0x78a5636f, 0x84c87814, 0x8cc70208, 0x90befffa, 0xa4506ceb, 0xbef9a3f7, 0xc67178f2]
def shaStart : List Nat := [0x6a09e667, 0xbb67ae85, 0x3c6ef372, 0xa54ff53a, 0x510e527f, 0x9b05688c, 0x1f83d9ab, 0x5be0cd19]

/-- The 64 words of a block's schedule, newest first. -/
def shaWords : Nat → List Nat → List Nat
  | 0, ws => ws
  | k + 1, ws =>
    let a := ws.getD 1 0
    let b := ws.getD 14 0
    let s1 := Nat.xor (Nat.xor (rotr 17 a) (rotr 19 a)) (a / 1024)
    let s0 := Nat.xor (Nat.xor (rotr 7 b) (rotr 18 b)) (b / 8)
    shaWords k ((s1 + ws.getD 6 0 + s0 + ws.getD 15 0) % 4294967296 :: ws)

/-- One round over the eight working variables. -/
def shaRound (v : List Nat) (kw : Nat × Nat) : List Nat :=
  match v with
  | [a, b, c, d, e, f, g, h] =>
    let s1 := Nat.xor (Nat.xor (rotr 6 e) (rotr 11 e)) (rotr 25 e)
    let ch := Nat.xor (Nat.land e f) (Nat.land (4294967295 - e) g)
    let t1 := h + s1 + ch + kw.1 + kw.2
    let s0 := Nat.xor (Nat.xor (rotr 2 a) (rotr 13 a)) (rotr 22 a)
    let maj := Nat.xor (Nat.xor (Nat.land a b) (Nat.land a c)) (Nat.land b c)
    [(t1 + s0 + maj) % 4294967296, a, b, c, (d + t1) % 4294967296, e, f, g]
  | _ => v

/-- A block of 64 bytes taken into the digest. -/
def shaBlock (v : List Nat) (p : Bytes) : List Nat :=
  let ws := (shaWords 48 ((pieces 4 16 p).map beNat).reverse).reverse
  List.zipWith (fun a b => (a + b) % 4294967296) v ((shaRounds.zip ws).foldl shaRound v)

/-- SHA-256 of a string. -/
@[irreducible] def sha256 (b : Bytes) : BitVec 256 :=
  let m := b ++ [0x80] ++ zeros ((119 - b.length % 64) % 64) ++ beBytes 8 (8 * b.length)
  BitVec.ofNat 256 (((pieces 64 (m.length / 64) m).foldl shaBlock shaStart).foldl (fun a w => a * 4294967296 + w) 0)

end Sys2Proof.Machine
end

