-- ==== Sys2Proof/Machine/Objects.lean ====
section
/-! DEFINITION. The object dictionary: one row for each object of the object tables, and the look-up of a row. -/

namespace Sys2Proof.Machine

/-- Access codes, in the order of 14 Table 14-11. -/
inductive Access where
  | ro | rw | rwp | wo | cmd
  deriving DecidableEq, Repr

/-- Which element numbers an object takes (14 R362, and the chapter of each object). -/
inductive Elems where
  /-- No elements: element 0. -/
  | one
  /-- 0 to n - 1. -/
  | upTo (n : Nat)
  /-- The first lane of a port (03 R95). -/
  | port
  /-- A working port (07 Table 7-8). -/
  | pair
  /-- A circuit of either page (06 R181). -/
  | circuit
  /-- A circuit with a protected run in the active page (07 R209). -/
  | protRun
  /-- An entry in use of the active page, or of the shadow page (05 R152). -/
  | activeEntry
  | shadowEntry
  /-- 0 to 22 and 32 to 47 (13 R345). -/
  | matrixPort
  /-- An open session (14 R387). -/
  | session
  deriving DecidableEq, Repr

/-- One object. -/
structure Obj where
  index : Nat
  sub : Nat
  name : String
  /-- Type code (14 Table 14-10). -/
  ty : Nat
  access : Access
  /-- The rights byte of the descriptor (14 Table 14-12). -/
  rights : Nat
  elems : Elems
  /-- Bytes of the value; the capacity of a DOMAIN. -/
  size : Nat
  /-- Type code and bytes of each field; one for a plain value, none for a DOMAIN. -/
  fields : List (Nat × Nat)
  /-- Default of each field of an RW or RWP object. -/
  dflt : List Nat
  /-- Per field, the permitted values as first, last and step; empty permits all. -/
  ranges : List (List (Nat × Nat × Nat))
  /-- Counters it holds: 0 the value itself, i its i-th field (12 R321). -/
  ctrs : List Nat
  deriving DecidableEq, Repr

/-- Sixty spaces as one number: the default trace (04 Table 4-5). -/
def sp60 : Nat := (256 ^ 60 - 1) / 255 * 0x20

/-- Identity, family and firmware objects (00 Table 0-3; 15 Table 15-10). -/
def objs1 : List Obj := [
  ⟨0x1000, 0x01, "Vendor", 12, .ro, 21, .one, 16, [(12, 16)], [], [], []⟩,
  ⟨0x1000, 0x02, "Family", 12, .ro, 21, .one, 16, [(12, 16)], [], [], []⟩,
  ⟨0x1000, 0x03, "Member code", 3, .ro, 21, .one, 2, [(3, 2)], [], [], []⟩,
  ⟨0x1000, 0x04, "Ordering code", 12, .ro, 21, .one, 16, [(12, 16)], [], [], []⟩,
  ⟨0x1000, 0x05, "Feature word", 4, .ro, 21, .one, 4, [(4, 4)], [], [], []⟩,
  ⟨0x1000, 0x06, "Serial number", 12, .ro, 21, .one, 24, [(12, 24)], [], [], []⟩,
  ⟨0x1000, 0x07, "Hardware revision", 3, .ro, 21, .one, 2, [(3, 2)], [], [], []⟩,
  ⟨0x1010, 0x01, "Lanes", 3, .ro, 21, .one, 2, [(3, 2)], [], [], []⟩,
  ⟨0x1010, 0x02, "Engines", 2, .ro, 21, .one, 1, [(2, 1)], [], [], []⟩,
  ⟨0x1010, 0x03, "Slots", 4, .ro, 21, .one, 4, [(4, 4)], [], [], []⟩,
  ⟨0x1010, 0x04, "Run entries per page", 4, .ro, 21, .one, 4, [(4, 4)], [], [], []⟩,
  ⟨0x1010, 0x05, "Cogs", 3, .ro, 21, .one, 2, [(3, 2)], [], [], []⟩,
  ⟨0x1010, 0x06, "Hoppers", 3, .ro, 21, .one, 2, [(3, 2)], [], [], []⟩,
  ⟨0x1020, 0x01, "Running image", 14, .ro, 21, .one, 11, [(2, 1), (4, 4), (4, 4), (1, 1), (2, 1)], [], [], []⟩,
  ⟨0x1020, 0x02, "Image slot status", 14, .ro, 21, .upTo 2, 45, [(2, 1), (4, 4), (4, 4), (4, 4), (11, 32)], [], [], []⟩,
  ⟨0x1020, 0x03, "Boot ROM version", 4, .ro, 21, .one, 4, [(4, 4)], [], [], []⟩,
  ⟨0x1020, 0x04, "Security version floor", 4, .ro, 21, .one, 4, [(4, 4)], [], [], []⟩,
  ⟨0x1030, 0x01, "Image", 13, .wo, 40, .upTo 2, 8388608, [], [], [], []⟩,
  ⟨0x1030, 0x02, "Start trial", 2, .cmd, 40, .one, 1, [(2, 1)], [], [[(0, 1, 1)]], []⟩,
  ⟨0x1030, 0x03, "Confirm image", 2, .cmd, 40, .one, 1, [(2, 1)], [], [], []⟩,
  ⟨0x1030, 0x04, "Enter recovery", 2, .cmd, 32, .one, 1, [(2, 1)], [], [], []⟩]

/-- Identity, family and firmware objects (00 Table 0-3; 15 Table 15-10). -/
def objsOf1 : List Obj := objs1

/-- Lane and port objects (03 Tables 3-13 and 3-15). -/
def objs2a : List Obj := [
  ⟨0x2000, 0x01, "Enable", 1, .rwp, 61, .upTo 48, 1, [(1, 1)], [0], [[(0, 1, 1)]], []⟩,
  ⟨0x2000, 0x02, "Training mode", 2, .rwp, 61, .upTo 48, 1, [(2, 1)], [0], [[(0, 1, 1)]], []⟩,
  ⟨0x2000, 0x03, "Fallback without partner", 1, .rwp, 61, .upTo 48, 1, [(1, 1)], [1], [[(0, 1, 1)]], []⟩,
  ⟨0x2000, 0x04, "Training timer", 3, .rwp, 61, .upTo 48, 2, [(3, 2)], [500], [[(100, 2000, 1)]], []⟩,
  ⟨0x2000, 0x05, "Start preset", 2, .rwp, 61, .upTo 48, 1, [(2, 1)], [3], [[(0, 7, 1)]], []⟩,
  ⟨0x2000, 0x06, "Restart hold", 2, .rwp, 61, .upTo 48, 1, [(2, 1)], [10], [[(1, 100, 1)]], []⟩,
  ⟨0x2000, 0x07, "Receive polarity", 2, .rwp, 61, .upTo 48, 1, [(2, 1)], [0], [[(0, 2, 1)]], []⟩,
  ⟨0x2000, 0x08, "Loopback", 2, .rw, 61, .upTo 48, 1, [(2, 1)], [0], [[(0, 3, 1)]], []⟩,
  ⟨0x2000, 0x09, "Retrain", 2, .cmd, 40, .upTo 48, 1, [(2, 1)], [], [], []⟩,
  ⟨0x2010, 0x01, "Coefficient indices", 2, .ro, 21, .upTo 48, 1, [(2, 1)], [], [], []⟩,
  ⟨0x2010, 0x02, "Coefficient indices", 2, .ro, 21, .upTo 48, 1, [(2, 1)], [], [], []⟩,
  ⟨0x2010, 0x03, "Coefficient indices", 2, .ro, 21, .upTo 48, 1, [(2, 1)], [], [], []⟩,
  ⟨0x2010, 0x04, "Fixed coefficients", 14, .rwp, 61, .upTo 48, 3, [(2, 1), (2, 1), (2, 1)], [2, 12, 2], [], []⟩,
  ⟨0x2010, 0x05, "Swing setting", 3, .rwp, 61, .upTo 48, 2, [(3, 2)], [1000], [[(600, 1200, 50)]], []⟩,
  ⟨0x2020, 0x01, "Stage", 2, .ro, 21, .upTo 48, 1, [(2, 1)], [], [], []⟩,
  ⟨0x2020, 0x02, "Highest stage", 2, .ro, 21, .upTo 48, 1, [(2, 1)], [], [], []⟩,
  ⟨0x2020, 0x03, "Polarity found", 2, .ro, 21, .upTo 48, 1, [(2, 1)], [], [], []⟩,
  ⟨0x2020, 0x04, "Logical lane", 2, .ro, 21, .upTo 48, 1, [(2, 1)], [], [], []⟩,
  ⟨0x2020, 0x05, "Skew", 8, .ro, 21, .upTo 48, 4, [(8, 4)], [], [], []⟩,
  ⟨0x2020, 0x06, "Equaliser peaking", 2, .ro, 21, .upTo 48, 1, [(2, 1)], [], [], []⟩,
  ⟨0x2020, 0x07, "Eye height", 3, .ro, 21, .upTo 48, 2, [(3, 2)], [], [], []⟩,
  ⟨0x2020, 0x08, "Eye width", 3, .ro, 21, .upTo 48, 2, [(3, 2)], [], [], []⟩,
  ⟨0x2020, 0x0A, "Lane status", 3, .ro, 21, .upTo 48, 2, [(3, 2)], [], [], []⟩,
  ⟨0x2020, 0x0B, "Partner status", 2, .ro, 21, .upTo 48, 1, [(2, 1)], [], [], []⟩]

/-- Lane and port objects (03 Tables 3-13 and 3-15). -/
def objs2b : List Obj := [
  ⟨0x2020, 0x0C, "Partner coefficients", 14, .ro, 21, .upTo 48, 3, [(2, 1), (2, 1), (2, 1)], [], [], []⟩,
  ⟨0x2020, 0x0D, "Equaliser freeze", 1, .rw, 61, .upTo 48, 1, [(1, 1)], [0], [[(0, 1, 1)]], []⟩,
  ⟨0x2030, 0x01, "Bring-up counters", 4, .ro, 21, .upTo 48, 4, [(4, 4)], [], [], [0]⟩,
  ⟨0x2030, 0x02, "Bring-up counters", 4, .ro, 21, .upTo 48, 4, [(4, 4)], [], [], [0]⟩,
  ⟨0x2030, 0x03, "Bring-up counters", 4, .ro, 21, .upTo 48, 4, [(4, 4)], [], [], [0]⟩,
  ⟨0x2030, 0x04, "Bring-up counters", 4, .ro, 21, .upTo 48, 4, [(4, 4)], [], [], [0]⟩,
  ⟨0x2030, 0x05, "Bring-up counters", 4, .ro, 21, .upTo 48, 4, [(4, 4)], [], [], [0]⟩,
  ⟨0x2800, 0x01, "Width", 2, .rwp, 61, .port, 1, [(2, 1)], [1], [[(1, 2, 1), (4, 4, 1)]], []⟩,
  ⟨0x2800, 0x02, "Bonding group identifier", 4, .rwp, 61, .port, 4, [(4, 4)], [0], [], []⟩,
  ⟨0x2800, 0x03, "Expected group identifier", 4, .rwp, 61, .port, 4, [(4, 4)], [4294967295], [], []⟩,
  ⟨0x2800, 0x04, "Transmit lane order", 2, .rwp, 61, .port, 1, [(2, 1)], [0], [[(0, 1, 1)]], []⟩,
  ⟨0x2800, 0x05, "Receive lane map", 11, .ro, 21, .port, 4, [(11, 4)], [], [], []⟩,
  ⟨0x2800, 0x06, "Lanes in service", 2, .ro, 21, .port, 1, [(2, 1)], [], [], []⟩,
  ⟨0x2800, 0x07, "Skew spread", 4, .ro, 21, .port, 4, [(4, 4)], [], [], []⟩]

/-- Lane and port objects (03 Tables 3-13 and 3-15). -/
def objsOf2 : List Obj := objs2a ++ objs2b

/-- Alignment, defect and protection objects (04 Table 4-5; 07 Table 7-8). -/
def objs3a : List Obj := [
  ⟨0x3000, 0x01, "Consequent policy", 2, .rwp, 61, .upTo 48, 1, [(2, 1)], [0], [[(0, 1, 1)]], []⟩,
  ⟨0x3000, 0x03, "Failure severity", 2, .rwp, 61, .upTo 48, 1, [(2, 1)], [2], [[(0, 3, 1)]], []⟩,
  ⟨0x3010, 0x01, "Frame state", 2, .ro, 21, .upTo 48, 1, [(2, 1)], [], [], []⟩,
  ⟨0x3010, 0x02, "Candidates", 2, .ro, 21, .upTo 48, 1, [(2, 1)], [], [], []⟩,
  ⟨0x3010, 0x03, "Received MFI and SFI", 14, .ro, 21, .upTo 48, 2, [(2, 1), (2, 1)], [], [], []⟩,
  ⟨0x3020, 0x01, "Transmit trace", 11, .rwp, 61, .upTo 48, 60, [(11, 60)], [sp60], [], []⟩,
  ⟨0x3020, 0x02, "Expected trace", 11, .rwp, 61, .upTo 48, 60, [(11, 60)], [sp60], [], []⟩,
  ⟨0x3020, 0x03, "Accepted trace", 11, .ro, 21, .upTo 48, 60, [(11, 60)], [], [], []⟩,
  ⟨0x3020, 0x04, "TIM mode", 2, .rwp, 61, .upTo 48, 1, [(2, 1)], [0], [[(0, 2, 1)]], []⟩,
  ⟨0x3030, 0x01, "Defects", 3, .ro, 21, .upTo 48, 2, [(3, 2)], [], [], []⟩,
  ⟨0x3030, 0x02, "Failures", 3, .ro, 21, .upTo 48, 2, [(3, 2)], [], [], []⟩,
  ⟨0x3040, 0x01, "Forebay depth", 4, .ro, 21, .upTo 48, 4, [(4, 4)], [], [], []⟩,
  ⟨0x3040, 0x02, "Phase offset", 8, .ro, 21, .upTo 48, 4, [(8, 4)], [], [], []⟩,
  ⟨0x3040, 0x03, "Slips", 4, .ro, 21, .upTo 48, 4, [(4, 4)], [], [], [0]⟩,
  ⟨0x3040, 0x04, "Slips", 4, .ro, 21, .upTo 48, 4, [(4, 4)], [], [], [0]⟩,
  ⟨0x3050, 0x01, "Missing FABs", 4, .ro, 21, .upTo 48, 4, [(4, 4)], [], [], [0]⟩,
  ⟨0x3050, 0x02, "Frame moves", 4, .ro, 21, .upTo 48, 4, [(4, 4)], [], [], [0]⟩,
  ⟨0x3050, 0x03, "Candidates refused", 4, .ro, 21, .upTo 48, 4, [(4, 4)], [], [], [0]⟩,
  ⟨0x3050, 0x04, "Disagreeing FABs", 4, .ro, 21, .upTo 48, 4, [(4, 4)], [], [], [0]⟩,
  ⟨0x3050, 0x05, "BIP and REI", 4, .ro, 21, .upTo 48, 4, [(4, 4)], [], [], [0]⟩,
  ⟨0x3050, 0x06, "BIP and REI", 4, .ro, 21, .upTo 48, 4, [(4, 4)], [], [], [0]⟩,
  ⟨0x3050, 0x07, "Channel errors", 4, .ro, 21, .upTo 48, 4, [(4, 4)], [], [], [0]⟩,
  ⟨0x3050, 0x08, "Channel errors", 4, .ro, 21, .upTo 48, 4, [(4, 4)], [], [], [0]⟩,
  ⟨0x3050, 0x09, "Seal record discards", 4, .ro, 21, .upTo 48, 4, [(4, 4)], [], [], [0]⟩]

/-- Alignment, defect and protection objects (04 Table 4-5; 07 Table 7-8). -/
def objs3b : List Obj := [
  ⟨0x3050, 0x0A, "Seal record discards", 4, .ro, 21, .upTo 48, 4, [(4, 4)], [], [], [0]⟩,
  ⟨0x3050, 0x0B, "Seal record discards", 4, .ro, 21, .upTo 48, 4, [(4, 4)], [], [], [0]⟩,
  ⟨0x3050, 0x0C, "Overhead errors", 4, .ro, 21, .upTo 48, 4, [(4, 4)], [], [], [0]⟩,
  ⟨0x3050, 0x0D, "Overhead errors", 4, .ro, 21, .upTo 48, 4, [(4, 4)], [], [], [0]⟩,
  ⟨0x3060, 0x01, "Accepted APS", 11, .ro, 21, .upTo 48, 4, [(11, 4)], [], [], []⟩,
  ⟨0x3060, 0x02, "Accepted SSM", 2, .ro, 21, .upTo 48, 1, [(2, 1)], [], [], []⟩,
  ⟨0x3800, 0x01, "Protect port", 2, .rwp, 61, .pair, 1, [(2, 1)], [255], [[(0, 47, 1), (255, 255, 1)]], []⟩,
  ⟨0x3800, 0x02, "Pair mode", 2, .rwp, 61, .pair, 1, [(2, 1)], [3], [[(0, 3, 1)]], []⟩,
  ⟨0x3800, 0x03, "Wait-to-restore", 2, .rwp, 61, .pair, 1, [(2, 1)], [5], [[(1, 12, 1)]], []⟩,
  ⟨0x3800, 0x04, "Hold-off", 2, .rwp, 61, .pair, 1, [(2, 1)], [0], [[(0, 100, 1)]], []⟩,
  ⟨0x3800, 0x05, "Line command", 2, .cmd, 40, .pair, 1, [(2, 1)], [], [[(0, 4, 1)]], []⟩,
  ⟨0x3800, 0x06, "Pair state", 14, .ro, 21, .pair, 11, [(2, 1), (2, 1), (2, 1), (2, 1), (2, 1), (2, 1), (2, 1), (3, 2), (3, 2)], [], [], []⟩,
  ⟨0x3800, 0x07, "Transmitted APS", 11, .ro, 21, .pair, 4, [(11, 4)], [], [], []⟩,
  ⟨0x3800, 0x08, "Line switches", 4, .ro, 21, .pair, 4, [(4, 4)], [], [], [0]⟩,
  ⟨0x3810, 0x01, "Circuit revertive default", 1, .rwp, 61, .one, 1, [(1, 1)], [1], [[(0, 1, 1)]], []⟩,
  ⟨0x3810, 0x02, "Circuit wait-to-restore", 2, .rwp, 61, .one, 1, [(2, 1)], [5], [[(1, 12, 1)]], []⟩,
  ⟨0x3840, 0x01, "Circuit command", 2, .cmd, 42, .protRun, 1, [(2, 1)], [], [[(0, 3, 1)]], []⟩,
  ⟨0x3840, 0x02, "Circuit revertive", 2, .rw, 61, .protRun, 1, [(2, 1)], [0], [[(0, 2, 1)]], []⟩,
  ⟨0x3840, 0x03, "Selector status", 14, .ro, 21, .protRun, 9, [(4, 4), (4, 4), (2, 1)], [], [], []⟩,
  ⟨0x3840, 0x04, "Circuit switches", 4, .ro, 21, .protRun, 4, [(4, 4)], [], [], [0]⟩,
  ⟨0x3850, 0x01, "PROT_TRIG pulses", 4, .ro, 21, .one, 4, [(4, 4)], [], [], [0]⟩,
  ⟨0x3850, 0x02, "Last pulsed lanes", 5, .ro, 21, .one, 8, [(5, 8)], [], [], []⟩]

/-- Alignment, defect and protection objects (04 Table 4-5; 07 Table 7-8). -/
def objsOf3 : List Obj := objs3a ++ objs3b

/-- Fabric, edit and activation objects (05 Table 5-10; 06 Table 6-16). -/
def objs4a : List Obj := [
  ⟨0x4000, 0x01, "In flight", 3, .ro, 21, .one, 2, [(3, 2)], [], [], []⟩,
  ⟨0x4000, 0x02, "Last acceptance number", 4, .ro, 21, .one, 4, [(4, 4)], [], [], []⟩,
  ⟨0x4000, 0x03, "Applied", 4, .ro, 21, .one, 4, [(4, 4)], [], [], [0]⟩,
  ⟨0x4000, 0x04, "Refused", 4, .ro, 21, .one, 4, [(4, 4)], [], [], [0]⟩,
  ⟨0x4000, 0x05, "Taking state", 2, .ro, 21, .one, 1, [(2, 1)], [], [], []⟩,
  ⟨0x4000, 0x06, "Stray entries", 4, .ro, 21, .one, 4, [(4, 4)], [], [], [0]⟩,
  ⟨0x4010, 0x01, "Revert shadow", 2, .cmd, 42, .one, 1, [(2, 1)], [], [], []⟩,
  ⟨0x4100, 0x01, "Arm activation", 14, .cmd, 42, .one, 26, [(2, 1), (3, 2), (4, 4), (5, 8), (2, 1), (10, 10)], [], [[(0, 2, 1)], [(0, 8191, 1)], [], [], [(0, 124, 1)], []], []⟩,
  ⟨0x4100, 0x02, "Cancel activation", 4, .cmd, 42, .one, 4, [(4, 4)], [], [], []⟩,
  ⟨0x4100, 0x03, "Armed activation", 14, .ro, 21, .one, 16, [(2, 1), (4, 4), (2, 1), (5, 8), (2, 1), (2, 1)], [], [], []⟩,
  ⟨0x4100, 0x04, "Last activation", 11, .ro, 21, .one, 64, [(11, 64)], [], [], []⟩,
  ⟨0x4100, 0x05, "Activations executed", 4, .ro, 21, .one, 4, [(4, 4)], [], [], [0]⟩,
  ⟨0x4100, 0x06, "Activations cancelled", 4, .ro, 21, .one, 4, [(4, 4)], [], [], [0]⟩,
  ⟨0x4110, 0x01, "Frame identity", 14, .ro, 21, .one, 10, [(5, 8), (2, 1), (2, 1)], [], [], []⟩,
  ⟨0x4110, 0x02, "Superframe numbering", 2, .ro, 21, .one, 1, [(2, 1)], [], [], []⟩,
  ⟨0x4110, 0x03, "Transit lag", 3, .ro, 21, .upTo 48, 2, [(3, 2)], [], [], []⟩,
  ⟨0x4200, 0x01, "Circuit summary", 14, .ro, 21, .circuit, 9, [(2, 1), (4, 4), (4, 4)], [], [], []⟩,
  ⟨0x4200, 0x02, "Circuit edit state", 2, .ro, 21, .circuit, 1, [(2, 1)], [], [], []⟩,
  ⟨0x4200, 0x03, "Legs, active", 13, .ro, 21, .circuit, 134217728, [], [], [], []⟩,
  ⟨0x4200, 0x04, "Legs, shadow", 13, .ro, 21, .circuit, 134217728, [], [], [], []⟩,
  ⟨0x4800, 0x01, "Entries, active page", 4, .ro, 21, .one, 4, [(4, 4)], [], [], []⟩,
  ⟨0x4800, 0x02, "Entries, shadow page", 4, .ro, 21, .one, 4, [(4, 4)], [], [], []⟩,
  ⟨0x4800, 0x03, "Circuits", 4, .ro, 21, .one, 4, [(4, 4)], [], [], []⟩,
  ⟨0x4800, 0x04, "Protected runs", 4, .ro, 21, .one, 4, [(4, 4)], [], [], []⟩]

/-- Fabric, edit and activation objects (05 Table 5-10; 06 Table 6-16). -/
def objs4b : List Obj := [
  ⟨0x4810, 0x01, "Active entry", 14, .ro, 21, .activeEntry, 12, [(2, 1), (11, 11)], [], [], []⟩,
  ⟨0x4810, 0x02, "Shadow entry", 14, .ro, 21, .shadowEntry, 12, [(2, 1), (11, 11)], [], [], []⟩,
  ⟨0x4810, 0x03, "Entry circuit", 4, .ro, 21, .activeEntry, 4, [(4, 4)], [], [], []⟩,
  ⟨0x4820, 0x01, "Data ECC corrected", 4, .ro, 21, .upTo 2, 4, [(4, 4)], [], [], [0]⟩,
  ⟨0x4820, 0x02, "Data ECC uncorrectable", 4, .ro, 21, .upTo 2, 4, [(4, 4)], [], [], [0]⟩,
  ⟨0x4820, 0x03, "Map ECC corrected", 4, .ro, 21, .upTo 2, 4, [(4, 4)], [], [], [0]⟩,
  ⟨0x4820, 0x04, "Map ECC uncorrectable", 4, .ro, 21, .upTo 2, 4, [(4, 4)], [], [], [0]⟩,
  ⟨0x4820, 0x05, "Route-tag mismatches", 4, .ro, 21, .upTo 2, 4, [(4, 4)], [], [], [0]⟩,
  ⟨0x4830, 0x01, "Spares in use", 2, .ro, 21, .upTo 2, 1, [(2, 1)], [], [], []⟩,
  ⟨0x4830, 0x02, "Repair record", 11, .ro, 21, .upTo 2, 32, [(11, 32)], [], [], []⟩,
  ⟨0x4830, 0x03, "Engine memory state", 2, .ro, 21, .upTo 2, 1, [(2, 1)], [], [], []⟩,
  ⟨0x4840, 0x01, "Window load", 14, .ro, 21, .upTo 125, 12, [(4, 4), (3, 2), (3, 2), (3, 2), (3, 2)], [], [], []⟩]

/-- Fabric, edit and activation objects (05 Table 5-10; 06 Table 6-16). -/
def objsOf4 : List Obj := objs4a ++ objs4b

/-- Engine, timing, time and sealing objects (08 Table 8-10; 09 Table 9-12; 10 Table 10-6; 11 Tables 11-11 and 11-12). -/
def objs5a : List Obj := [
  ⟨0x5000, 0x01, "Lease expiry", 2, .rwp, 61, .one, 1, [(2, 1)], [4], [[(2, 32, 1)]], []⟩,
  ⟨0x5000, 0x02, "Automatic restart", 1, .rwp, 61, .one, 1, [(1, 1)], [1], [[(0, 1, 1)]], []⟩,
  ⟨0x5000, 0x03, "Manual switch", 2, .cmd, 40, .one, 1, [(2, 1)], [], [], []⟩,
  ⟨0x5000, 0x04, "Restart engine", 2, .cmd, 40, .one, 1, [(2, 1)], [], [[(0, 1, 1)]], []⟩,
  ⟨0x5000, 0x05, "Refresh checkpoint", 2, .cmd, 40, .one, 1, [(2, 1)], [], [], []⟩,
  ⟨0x5000, 0x06, "Checkpoint interval", 2, .rwp, 61, .one, 1, [(2, 1)], [15], [[(1, 60, 1)]], []⟩,
  ⟨0x5000, 0x07, "Checkpoint record limit", 4, .rwp, 61, .one, 4, [(4, 4)], [16384], [[(1024, 16384, 1)]], []⟩,
  ⟨0x5000, 0x08, "Tally revocation", 1, .rw, 61, .one, 1, [(1, 1)], [1], [[(0, 1, 1)]], []⟩,
  ⟨0x5010, 0x01, "Engine state", 2, .ro, 21, .upTo 2, 1, [(2, 1)], [], [], []⟩,
  ⟨0x5010, 0x02, "Checkpoint state", 14, .ro, 21, .upTo 2, 19, [(2, 1), (5, 8), (4, 4), (4, 4), (1, 1), (1, 1)], [], [], []⟩,
  ⟨0x5010, 0x03, "Last failure", 14, .ro, 21, .upTo 2, 15, [(2, 1), (4, 4), (10, 10)], [], [], []⟩,
  ⟨0x5010, 0x04, "Link flits corrected", 4, .ro, 21, .upTo 2, 4, [(4, 4)], [], [], [0]⟩,
  ⟨0x5010, 0x05, "Link flits uncorrectable", 4, .ro, 21, .upTo 2, 4, [(4, 4)], [], [], [0]⟩,
  ⟨0x5010, 0x06, "Automatic restarts", 2, .ro, 21, .upTo 2, 1, [(2, 1)], [], [], []⟩,
  ⟨0x5010, 0x07, "Heartbeat", 14, .ro, 21, .upTo 2, 6, [(1, 1), (1, 1), (4, 4)], [], [], [3]⟩,
  ⟨0x5020, 0x01, "Lease", 14, .ro, 21, .one, 9, [(2, 1), (4, 4), (4, 4)], [], [], []⟩,
  ⟨0x5020, 0x02, "Grants", 4, .ro, 21, .one, 4, [(4, 4)], [], [], [0]⟩,
  ⟨0x5020, 0x03, "Renewals refused", 4, .ro, 21, .one, 4, [(4, 4)], [], [], [0]⟩,
  ⟨0x5020, 0x04, "Claims refused", 4, .ro, 21, .one, 4, [(4, 4)], [], [], [0]⟩,
  ⟨0x5020, 0x05, "Takeovers", 4, .ro, 21, .one, 4, [(4, 4)], [], [], [0]⟩,
  ⟨0x5020, 0x06, "Last takeover", 4, .ro, 21, .one, 4, [(4, 4)], [], [], []⟩,
  ⟨0x5030, 0x01, "Tally window", 2, .ro, 21, .one, 1, [(2, 1)], [], [], []⟩,
  ⟨0x5030, 0x02, "Mismatching frames", 4, .ro, 21, .one, 4, [(4, 4)], [], [], [0]⟩,
  ⟨0x5030, 0x03, "Unevaluated frames", 4, .ro, 21, .one, 4, [(4, 4)], [], [], [0]⟩]

/-- Engine, timing, time and sealing objects (08 Table 8-10; 09 Table 9-12; 10 Table 10-6; 11 Tables 11-11 and 11-12). -/
def objs5b : List Obj := [
  ⟨0x5030, 0x04, "Last comparison", 14, .ro, 21, .one, 18, [(4, 4), (4, 4), (5, 8), (2, 1), (2, 1)], [], [], []⟩,
  ⟨0x5030, 0x05, "Excused route-tag mismatches", 4, .ro, 21, .one, 4, [(4, 4)], [], [], [0]⟩,
  ⟨0x5040, 0x01, "Journal", 14, .ro, 21, .one, 16, [(5, 8), (4, 4), (4, 4)], [], [], []⟩,
  ⟨0x5400, 0x01, "SSM option", 2, .rwp, 61, .one, 1, [(2, 1)], [1], [[(1, 2, 1)]], []⟩,
  ⟨0x5400, 0x02, "QL mode", 2, .rwp, 61, .one, 1, [(2, 1)], [0], [[(0, 1, 1)]], []⟩,
  ⟨0x5400, 0x03, "Revertive", 1, .rwp, 61, .one, 1, [(1, 1)], [0], [[(0, 1, 1)]], []⟩,
  ⟨0x5400, 0x04, "Reference wait-to-restore", 2, .rwp, 61, .one, 1, [(2, 1)], [5], [[(0, 12, 1)]], []⟩,
  ⟨0x5400, 0x05, "Agreement limit", 3, .rwp, 61, .one, 2, [(3, 2)], [100], [[(10, 10000, 10)]], []⟩,
  ⟨0x5400, 0x06, "Pull slope", 3, .rwp, 61, .one, 2, [(3, 2)], [50], [[(1, 1000, 1)]], []⟩,
  ⟨0x5400, 0x07, "Own QL", 2, .rwp, 61, .one, 1, [(2, 1)], [8], [], []⟩,
  ⟨0x5400, 0x08, "Holdover averaging", 2, .rwp, 61, .one, 1, [(2, 1)], [30], [[(1, 60, 1)]], []⟩,
  ⟨0x5400, 0x09, "Soft-limit action", 2, .rwp, 61, .one, 1, [(2, 1)], [0], [[(0, 1, 1)]], []⟩,
  ⟨0x5400, 0x0A, "Selection command", 14, .cmd, 40, .one, 2, [(2, 1), (2, 1)], [], [], []⟩,
  ⟨0x5410, 0x01, "Locked bandwidth", 2, .rwp, 61, .upTo 2, 1, [(2, 1)], [2], [[(0, 6, 1)]], []⟩,
  ⟨0x5410, 0x02, "Acquisition bandwidth", 2, .rwp, 61, .upTo 2, 1, [(2, 1)], [4], [[(0, 6, 1)]], []⟩,
  ⟨0x5410, 0x03, "Time governor base", 2, .rwp, 61, .one, 1, [(2, 1)], [1], [[(0, 1, 1)]], []⟩,
  ⟨0x5420, 0x01, "Enable", 1, .rwp, 61, .upTo 8, 1, [(1, 1)], [0], [[(0, 1, 1)]], []⟩,
  ⟨0x5420, 0x02, "Source lane", 2, .rwp, 61, .upTo 8, 1, [(2, 1)], [255], [[(0, 47, 1), (255, 255, 1)]], []⟩,
  ⟨0x5420, 0x03, "Input frequency", 2, .rwp, 61, .upTo 8, 1, [(2, 1)], [4], [[(1, 5, 1)]], []⟩,
  ⟨0x5420, 0x04, "Priority", 2, .rwp, 61, .upTo 8, 1, [(2, 1)], [8], [[(1, 15, 1)]], []⟩,
  ⟨0x5420, 0x05, "QL source", 2, .rwp, 61, .upTo 8, 1, [(2, 1)], [0], [[(0, 1, 1)]], []⟩,
  ⟨0x5420, 0x06, "Fixed QL", 2, .rwp, 61, .upTo 8, 1, [(2, 1)], [2], [], []⟩,
  ⟨0x5430, 0x01, "Reference status", 14, .ro, 21, .upTo 8, 11, [(1, 1), (1, 1), (2, 1), (8, 4), (3, 2), (3, 2)], [], [], []⟩,
  ⟨0x5430, 0x02, "Reference counters", 14, .ro, 21, .upTo 8, 8, [(4, 4), (4, 4)], [], [], [1, 2]⟩]

/-- Engine, timing, time and sealing objects (08 Table 8-10; 09 Table 9-12; 10 Table 10-6; 11 Tables 11-11 and 11-12). -/
def objs5c : List Obj := [
  ⟨0x5440, 0x01, "Selected reference", 2, .ro, 21, .one, 1, [(2, 1)], [], [], []⟩,
  ⟨0x5440, 0x02, "Governor status", 14, .ro, 21, .upTo 2, 20, [(2, 1), (2, 1), (4, 4), (4, 4), (8, 4), (8, 4), (3, 2)], [], [], []⟩,
  ⟨0x5440, 0x03, "Disagreement", 2, .ro, 21, .one, 1, [(2, 1)], [], [], []⟩,
  ⟨0x5440, 0x04, "Stored command", 14, .ro, 21, .one, 2, [(2, 1), (2, 1)], [], [], []⟩,
  ⟨0x5440, 0x05, "Reference changes", 4, .ro, 21, .one, 4, [(4, 4)], [], [], [0]⟩,
  ⟨0x5440, 0x06, "QL sent", 2, .ro, 21, .one, 1, [(2, 1)], [], [], []⟩,
  ⟨0x5450, 0x01, "OCXO status", 14, .ro, 21, .one, 11, [(1, 1), (3, 2), (8, 4), (4, 4)], [], [], []⟩,
  ⟨0x5460, 0x01, "Frame phase aligned", 1, .ro, 21, .one, 1, [(1, 1)], [], [], []⟩,
  ⟨0x5460, 0x02, "Frame phase offset", 8, .ro, 21, .one, 4, [(8, 4)], [], [], []⟩,
  ⟨0x5460, 0x03, "Realign frame phase", 2, .cmd, 40, .one, 1, [(2, 1)], [], [], []⟩,
  ⟨0x5460, 0x04, "Realignment", 14, .ro, 21, .one, 17, [(1, 1), (5, 8), (4, 4), (4, 4)], [], [], [4]⟩,
  ⟨0x5470, 0x01, "Clock output frequency", 2, .rwp, 61, .upTo 2, 1, [(2, 1)], [0], [[(0, 5, 1)]], []⟩,
  ⟨0x5470, 0x02, "Squelch QL", 2, .rwp, 61, .upTo 2, 1, [(2, 1)], [11], [], []⟩,
  ⟨0x5470, 0x03, "Squelch unless Locked", 1, .rwp, 61, .upTo 2, 1, [(1, 1)], [0], [[(0, 1, 1)]], []⟩,
  ⟨0x5800, 0x01, "Time source", 2, .rwp, 61, .one, 1, [(2, 1)], [0], [[(0, 2, 1)]], []⟩,
  ⟨0x5800, 0x02, "Jump threshold", 4, .rwp, 61, .one, 4, [(4, 4)], [1000], [[(100, 1000000000, 1)]], []⟩,
  ⟨0x5800, 0x03, "Slew slope", 3, .rwp, 61, .one, 2, [(3, 2)], [100], [[(1, 1000, 1)]], []⟩,
  ⟨0x5800, 0x04, "Permit", 2, .cmd, 40, .one, 1, [(2, 1)], [], [], []⟩,
  ⟨0x5800, 0x05, "1PPS_IN compensation", 8, .rwp, 61, .one, 4, [(8, 4)], [0], [[(0, 100000, 1), (4294867296, 4294967295, 1)]], []⟩,
  ⟨0x5810, 0x01, "PTP source lane", 2, .rwp, 61, .one, 1, [(2, 1)], [255], [[(0, 47, 1), (255, 255, 1)]], []⟩,
  ⟨0x5810, 0x02, "PTP domain", 2, .rwp, 61, .one, 1, [(2, 1)], [0], [[(0, 239, 1)]], []⟩,
  ⟨0x5810, 0x03, "Delay_Req interval", 6, .rwp, 61, .one, 1, [(6, 1)], [252], [[(0, 4, 1), (249, 255, 1)]], []⟩,
  ⟨0x5810, 0x04, "Forwarding mask", 5, .rwp, 61, .upTo 48, 8, [(5, 8)], [0], [[(0, 281474976710655, 1)]], []⟩,
  ⟨0x5810, 0x06, "Clock identity", 11, .ro, 21, .one, 8, [(11, 8)], [], [], []⟩]

/-- Engine, timing, time and sealing objects (08 Table 8-10; 09 Table 9-12; 10 Table 10-6; 11 Tables 11-11 and 11-12). -/
def objs5d : List Obj := [
  ⟨0x5820, 0x01, "Present time", 10, .ro, 21, .one, 10, [(10, 10)], [], [], []⟩,
  ⟨0x5820, 0x02, "Time status", 14, .ro, 21, .one, 20, [(2, 1), (1, 1), (1, 1), (2, 1), (9, 8), (9, 8)], [], [], []⟩,
  ⟨0x5820, 0x03, "Last step", 14, .ro, 21, .one, 23, [(9, 8), (10, 10), (2, 1), (4, 4)], [], [], [4]⟩,
  ⟨0x5820, 0x04, "UTC offset", 7, .ro, 21, .one, 2, [(7, 2)], [], [], []⟩,
  ⟨0x5820, 0x05, "Foreign master", 14, .ro, 21, .one, 21, [(11, 8), (2, 1), (3, 2), (11, 10)], [], [], []⟩,
  ⟨0x5820, 0x06, "Sample counters", 14, .ro, 21, .one, 12, [(4, 4), (4, 4), (4, 4)], [], [], [1, 2, 3]⟩,
  ⟨0x5830, 0x01, "Transparent clock counters", 14, .ro, 21, .upTo 48, 16, [(4, 4), (4, 4), (4, 4), (4, 4)], [], [], [1, 2, 3, 4]⟩,
  ⟨0x5840, 0x01, "Arm trigger", 14, .cmd, 40, .upTo 8, 27, [(2, 1), (10, 10), (5, 8), (4, 4), (4, 4)], [], [[(1, 2, 1)], [], [], [], []], []⟩,
  ⟨0x5840, 0x02, "Disarm trigger", 2, .cmd, 40, .upTo 8, 1, [(2, 1)], [], [], []⟩,
  ⟨0x5840, 0x03, "Trigger status", 14, .ro, 21, .upTo 8, 25, [(2, 1), (5, 8), (4, 4), (4, 4), (5, 8)], [], [], [3, 4]⟩,
  ⟨0x5C00, 0x01, "AIS hold", 2, .rwp, 61, .one, 1, [(2, 1)], [2], [[(1, 15, 1)]], []⟩,
  ⟨0x5C00, 0x02, "Streams live", 14, .ro, 21, .one, 104, [(4, 4), (4, 4), (11, 96)], [], [], []⟩,
  ⟨0x5C10, 0x01, "Install key", 11, .cmd, 40, .upTo 16384, 64, [(11, 64)], [], [], []⟩,
  ⟨0x5C10, 0x02, "Binding", 14, .rwp, 61, .upTo 16384, 2, [(2, 1), (2, 1)], [255, 0], [[(0, 47, 1), (255, 255, 1)], [(0, 1, 1)]], []⟩,
  ⟨0x5C10, 0x03, "Key status", 14, .ro, 21, .upTo 16384, 30, [(1, 1), (5, 8), (1, 1), (5, 8), (5, 8), (4, 4)], [], [], []⟩,
  ⟨0x5C10, 0x04, "High-water mark", 5, .ro, 21, .upTo 16384, 8, [(5, 8)], [], [], []⟩,
  ⟨0x5C10, 0x05, "Erase slot key", 2, .cmd, 40, .upTo 16384, 1, [(2, 1)], [], [[(1, 2, 1)]], []⟩,
  ⟨0x5C20, 0x01, "Transmit stream", 14, .rwp, 61, .upTo 65536, 15, [(1, 1), (4, 4), (2, 1), (2, 1), (3, 2), (3, 2), (4, 4)], [0, 0, 0, 0, 0, 0, 0], [[(0, 1, 1)], [], [], [], [], [], []], []⟩,
  ⟨0x5C21, 0x01, "Transmit status", 14, .ro, 21, .upTo 65536, 13, [(2, 1), (5, 8), (4, 4)], [], [], [3]⟩,
  ⟨0x5C30, 0x01, "Receive stream", 14, .rwp, 61, .upTo 65536, 15, [(1, 1), (4, 4), (2, 1), (3, 2), (3, 2), (4, 4), (2, 1)], [0, 0, 0, 0, 0, 0, 0], [[(0, 1, 1)], [], [], [], [], [], [(0, 1, 1)]], []⟩,
  ⟨0x5C31, 0x01, "Receive status", 14, .ro, 21, .upTo 65536, 12, [(2, 1), (1, 1), (1, 1), (2, 1), (5, 8)], [], [], []⟩,
  ⟨0x5C32, 0x01, "Receive counters", 14, .ro, 21, .upTo 65536, 24, [(4, 4), (4, 4), (4, 4), (4, 4), (4, 4), (4, 4)], [], [], [1, 2, 3, 4, 5, 6]⟩,
  ⟨0x5C40, 0x01, "Erase all keys", 2, .cmd, 40, .one, 1, [(2, 1)], [], [], []⟩,
  ⟨0x5C40, 0x02, "Last erasure", 14, .ro, 21, .one, 15, [(2, 1), (10, 10), (4, 4)], [], [], [3]⟩]

/-- Engine, timing, time and sealing objects (08 Table 8-10; 09 Table 9-12; 10 Table 10-6; 11 Tables 11-11 and 11-12). -/
def objs5e : List Obj := [
  ⟨0x5E00, 0x01, "Install KWK", 11, .cmd, 40, .one, 384, [(11, 384)], [], [], []⟩,
  ⟨0x5E00, 0x02, "KWK present", 1, .ro, 21, .one, 1, [(1, 1)], [], [], []⟩,
  ⟨0x5E10, 0x01, "Guarded channel", 14, .rwp, 61, .upTo 8, 11, [(2, 1), (4, 4), (4, 4), (3, 2)], [255, 0, 0, 0], [[(0, 47, 1), (255, 255, 1)], [], [], []], []⟩,
  ⟨0x5E10, 0x02, "Install channel key", 11, .cmd, 40, .upTo 8, 56, [(11, 56)], [], [], []⟩,
  ⟨0x5E10, 0x03, "Send message", 13, .wo, 40, .upTo 8, 1511, [], [], [], []⟩,
  ⟨0x5E10, 0x04, "Channel status", 14, .ro, 21, .upTo 8, 37, [(1, 1), (5, 8), (4, 4), (5, 8), (4, 4), (4, 4), (5, 8)], [], [], [3, 5, 6]⟩,
  ⟨0x5F00, 0x01, "Engine status", 14, .ro, 21, .upTo 2, 18, [(4, 4), (5, 8), (4, 4), (3, 2)], [], [], [1, 3]⟩]

/-- Engine, timing, time and sealing objects (08 Table 8-10; 09 Table 9-12; 10 Table 10-6; 11 Tables 11-11 and 11-12). -/
def objsOf5 : List Obj := objs5a ++ objs5b ++ objs5c ++ objs5d ++ objs5e

/-- Performance monitoring objects (12 Table 12-9). -/
def objs6 : List Obj := [
  ⟨0x6000, 0x02, "24-hour bin offset", 4, .rwp, 61, .one, 4, [(4, 4)], [0], [[(0, 85500, 900)]], []⟩,
  ⟨0x6010, 0x01, "Near end, 15-minute", 14, .ro, 21, .upTo 48, 32, [(11, 6), (4, 4), (4, 4), (4, 4), (4, 4), (4, 4), (4, 4), (3, 2)], [], [], []⟩,
  ⟨0x6010, 0x02, "Near end, 24-hour", 14, .ro, 21, .upTo 48, 32, [(11, 6), (4, 4), (4, 4), (4, 4), (4, 4), (4, 4), (4, 4), (3, 2)], [], [], []⟩,
  ⟨0x6010, 0x03, "Far end, 15-minute", 14, .ro, 21, .upTo 48, 32, [(11, 6), (4, 4), (4, 4), (4, 4), (4, 4), (4, 4), (4, 4), (3, 2)], [], [], []⟩,
  ⟨0x6010, 0x04, "Far end, 24-hour", 14, .ro, 21, .upTo 48, 32, [(11, 6), (4, 4), (4, 4), (4, 4), (4, 4), (4, 4), (4, 4), (3, 2)], [], [], []⟩,
  ⟨0x6010, 0x05, "Second status", 14, .ro, 21, .upTo 48, 4, [(1, 1), (1, 1), (2, 1), (2, 1)], [], [], []⟩,
  ⟨0x6011, 0x01, "Near end, 15-minute history", 13, .ro, 21, .upTo 48, 3072, [], [], [], []⟩,
  ⟨0x6011, 0x02, "Near end, previous 24-hour", 14, .ro, 21, .upTo 48, 32, [(11, 6), (4, 4), (4, 4), (4, 4), (4, 4), (4, 4), (4, 4), (3, 2)], [], [], []⟩,
  ⟨0x6011, 0x03, "Far end, 15-minute history", 13, .ro, 21, .upTo 48, 3072, [], [], [], []⟩,
  ⟨0x6011, 0x04, "Far end, previous 24-hour", 14, .ro, 21, .upTo 48, 32, [(11, 6), (4, 4), (4, 4), (4, 4), (4, 4), (4, 4), (4, 4), (3, 2)], [], [], []⟩,
  ⟨0x6020, 0x01, "Stream, 15-minute", 14, .ro, 21, .upTo 65536, 32, [(11, 6), (4, 4), (4, 4), (4, 4), (4, 4), (4, 4), (4, 4), (3, 2)], [], [], []⟩,
  ⟨0x6020, 0x02, "Stream, 24-hour", 14, .ro, 21, .upTo 65536, 32, [(11, 6), (4, 4), (4, 4), (4, 4), (4, 4), (4, 4), (4, 4), (3, 2)], [], [], []⟩,
  ⟨0x6020, 0x03, "Stream second status", 14, .ro, 21, .upTo 65536, 2, [(1, 1), (2, 1)], [], [], []⟩,
  ⟨0x6021, 0x01, "Stream, previous 15-minute", 14, .ro, 21, .upTo 65536, 32, [(11, 6), (4, 4), (4, 4), (4, 4), (4, 4), (4, 4), (4, 4), (3, 2)], [], [], []⟩,
  ⟨0x6021, 0x02, "Stream, previous 24-hour", 14, .ro, 21, .upTo 65536, 32, [(11, 6), (4, 4), (4, 4), (4, 4), (4, 4), (4, 4), (4, 4), (3, 2)], [], [], []⟩,
  ⟨0x6030, 0x01, "Thresholds", 14, .rwp, 61, .upTo 3, 32, [(4, 4), (4, 4), (4, 4), (4, 4), (4, 4), (4, 4), (4, 4), (4, 4)], [0, 0, 0, 0, 0, 0, 0, 0], [], []⟩,
  ⟨0x6040, 0x01, "Collector status", 14, .ro, 21, .one, 19, [(2, 1), (3, 2), (5, 8), (4, 4), (4, 4)], [], [], [5]⟩,
  ⟨0x6040, 0x02, "Export counters", 14, .ro, 21, .one, 12, [(4, 4), (4, 4), (4, 4)], [], [], [1, 2, 3]⟩,
  ⟨0x6F00, 0x01, "Clear counters", 14, .cmd, 42, .one, 6, [(3, 2), (4, 4)], [], [], []⟩]

/-- Performance monitoring objects (12 Table 12-9). -/
def objsOf6 : List Obj := objs6

/-- Hopper and alarm objects (14 Table 14-20). -/
def objs7 : List Obj := [
  ⟨0x7000, 0x01, "Hopper configuration", 14, .rwp, 61, .upTo 8192, 9, [(2, 1), (3, 2), (2, 1), (3, 2), (1, 1), (3, 2)], [0, 0, 1, 0, 1, 65535], [[(0, 7, 1)], [], [(0, 2, 1)], [], [(0, 1, 1)], [(0, 8191, 1), (65535, 65535, 1)]], []⟩,
  ⟨0x7000, 0x02, "Hopper store", 14, .ro, 21, .one, 8, [(4, 4), (4, 4)], [], [], []⟩,
  ⟨0x7010, 0x01, "Hopper status", 14, .ro, 21, .upTo 8192, 18, [(4, 4), (1, 1), (4, 4), (4, 4), (3, 2), (3, 2), (2, 1)], [], [], []⟩,
  ⟨0x7010, 0x02, "Hopper counters", 14, .ro, 21, .upTo 8192, 20, [(4, 4), (4, 4), (4, 4), (4, 4), (4, 4)], [], [], [1, 2, 3, 4, 5]⟩,
  ⟨0x7800, 0x01, "Alarm table", 14, .ro, 21, .upTo 1024, 24, [(4, 4), (2, 1), (1, 1), (3, 2), (2, 1), (2, 1), (4, 4), (10, 10)], [], [], []⟩,
  ⟨0x7800, 0x02, "Acknowledge alarm", 4, .cmd, 42, .one, 4, [(4, 4)], [], [], []⟩,
  ⟨0x7800, 0x03, "Alarm summary", 14, .ro, 21, .one, 14, [(3, 2), (3, 2), (3, 2), (3, 2), (3, 2), (3, 2), (3, 2)], [], [], []⟩]

/-- Hopper and alarm objects (14 Table 14-20). -/
def objsOf7 : List Obj := objs7

/-- Supervisor objects (13 Table 13-7). -/
def objs8a : List Obj := [
  ⟨0x8000, 0x01, "Supervisor status", 14, .ro, 21, .one, 20, [(2, 1), (4, 4), (4, 4), (2, 1), (10, 10)], [], [], [3]⟩,
  ⟨0x8000, 0x02, "Restart supervisor", 2, .cmd, 40, .one, 1, [(2, 1)], [], [], []⟩,
  ⟨0x8000, 0x03, "Head-core status", 14, .ro, 21, .one, 8, [(3, 2), (4, 4), (3, 2)], [], [], [2]⟩,
  ⟨0x8010, 0x01, "Cog status", 14, .ro, 21, .upTo 256, 8, [(2, 1), (3, 2), (3, 2), (3, 2), (2, 1)], [], [], []⟩,
  ⟨0x8010, 0x02, "Cog faults", 4, .ro, 21, .upTo 256, 4, [(4, 4)], [], [], [0]⟩,
  ⟨0x8020, 0x01, "Wheel status", 14, .ro, 21, .upTo 16, 3, [(3, 2), (2, 1)], [], [], []⟩,
  ⟨0x8030, 0x01, "Audit mismatches", 4, .ro, 21, .one, 4, [(4, 4)], [], [], [0]⟩,
  ⟨0x8030, 0x02, "Audit status", 14, .ro, 21, .one, 13, [(4, 4), (4, 4), (4, 4), (1, 1)], [], [], [1]⟩,
  ⟨0x8100, 0x01, "Bank status", 14, .ro, 21, .upTo 64, 7, [(2, 1), (2, 1), (1, 1), (4, 4)], [], [], []⟩,
  ⟨0x8100, 0x02, "Bank summary", 14, .ro, 21, .one, 4, [(2, 1), (2, 1), (2, 1), (2, 1)], [], [], []⟩,
  ⟨0x8110, 0x01, "March pass interval", 2, .rwp, 61, .one, 1, [(2, 1)], [24], [[(1, 168, 1)]], []⟩,
  ⟨0x8110, 0x02, "Bolter status", 14, .ro, 21, .one, 20, [(2, 1), (2, 1), (2, 1), (4, 4), (4, 4), (4, 4), (4, 4), (2, 1)], [], [], [4, 5, 6, 7]⟩,
  ⟨0x8110, 0x03, "Start march pass", 2, .cmd, 40, .one, 1, [(2, 1)], [], [], []⟩,
  ⟨0x8120, 0x01, "DMA starved cycles", 4, .ro, 21, .upTo 64, 4, [(4, 4)], [], [], [0]⟩,
  ⟨0x8120, 0x02, "ECC corrected", 4, .ro, 21, .upTo 64, 4, [(4, 4)], [], [], [0]⟩,
  ⟨0x8120, 0x03, "ECC uncorrectable", 4, .ro, 21, .upTo 64, 4, [(4, 4)], [], [], [0]⟩,
  ⟨0x8200, 0x01, "Matrix status", 14, .ro, 21, .one, 1, [(2, 1)], [], [], []⟩,
  ⟨0x8200, 0x02, "Master status", 14, .ro, 21, .upTo 23, 10, [(2, 1), (2, 1), (4, 4), (4, 4)], [], [], [3, 4]⟩,
  ⟨0x8200, 0x03, "Target status", 14, .ro, 21, .upTo 16, 9, [(2, 1), (4, 4), (4, 4)], [], [], [2, 3]⟩,
  ⟨0x8200, 0x04, "Last master reset", 14, .ro, 21, .one, 15, [(2, 1), (2, 1), (2, 1), (2, 1), (2, 1), (10, 10)], [], [], []⟩,
  ⟨0x8300, 0x01, "Bandwidth window", 3, .rwp, 61, .one, 2, [(3, 2)], [1000], [[(1, 10000, 1)]], []⟩,
  ⟨0x8300, 0x02, "Operator bandwidth access", 1, .rwp, 61, .one, 1, [(1, 1)], [0], [[(0, 1, 1)]], []⟩,
  ⟨0x8310, 0x01, "Beats read", 4, .ro, 85, .matrixPort, 4, [(4, 4)], [], [], [0]⟩,
  ⟨0x8310, 0x02, "Beats written", 4, .ro, 85, .matrixPort, 4, [(4, 4)], [], [], [0]⟩]

/-- Supervisor objects (13 Table 13-7). -/
def objs8b : List Obj := [
  ⟨0x8310, 0x03, "Cycles stalled", 4, .ro, 85, .matrixPort, 4, [(4, 4)], [], [], [0]⟩,
  ⟨0x8310, 0x04, "Grants", 4, .ro, 85, .matrixPort, 4, [(4, 4)], [], [], [0]⟩]

/-- Supervisor objects (13 Table 13-7). -/
def objsOf8 : List Obj := objs8a ++ objs8b

/-- Security and management objects (14 Table 14-21; 15 Table 15-11). -/
def objs9a : List Obj := [
  ⟨0x9000, 0x01, "Maker access", 1, .rwp, 61, .one, 1, [(1, 1)], [1], [[(0, 1, 1)]], []⟩,
  ⟨0x9010, 0x01, "Enrol certificate", 11, .cmd, 40, .one, 432, [(11, 432)], [], [], []⟩,
  ⟨0x9010, 0x02, "Revoke certificate", 5, .cmd, 40, .one, 8, [(5, 8)], [], [], []⟩,
  ⟨0x9010, 0x03, "Enrolment table", 14, .ro, 21, .upTo 128, 51, [(5, 8), (2, 1), (12, 32), (10, 10)], [], [], []⟩,
  ⟨0x9010, 0x04, "Enrolment summary", 14, .ro, 21, .one, 43, [(2, 1), (2, 1), (2, 1), (5, 8), (11, 32)], [], [], []⟩,
  ⟨0x9020, 0x01, "TAMPER_N enable", 1, .rwp, 61, .one, 1, [(1, 1)], [1], [[(0, 1, 1)]], []⟩,
  ⟨0x9020, 0x02, "Authentication limit", 2, .rwp, 61, .one, 1, [(2, 1)], [32], [[(0, 0, 1), (4, 255, 1)]], []⟩,
  ⟨0x9020, 0x03, "Security status", 14, .ro, 21, .one, 6, [(1, 1), (2, 1), (1, 1), (2, 1), (7, 2)], [], [], []⟩,
  ⟨0x9020, 0x04, "Clear tamper", 2, .cmd, 40, .one, 1, [(2, 1)], [], [], []⟩,
  ⟨0x9020, 0x05, "Security counters", 14, .ro, 21, .one, 16, [(4, 4), (4, 4), (4, 4), (4, 4)], [], [], [1, 2, 3, 4]⟩,
  ⟨0x9030, 0x01, "Audit status", 14, .ro, 20, .one, 28, [(5, 8), (5, 8), (4, 4), (4, 4), (4, 4)], [], [], [4, 5]⟩,
  ⟨0x9030, 0x02, "Audit journal", 13, .ro, 20, .one, 2097152, [], [], [], []⟩,
  ⟨0x9030, 0x03, "Mark read", 5, .cmd, 40, .one, 8, [(5, 8)], [], [], []⟩,
  ⟨0x9040, 0x01, "Attestation nonce", 11, .cmd, 42, .one, 32, [(11, 32)], [], [], []⟩,
  ⟨0x9040, 0x02, "Attestation report", 13, .ro, 21, .one, 676, [], [], [], []⟩,
  ⟨0x9040, 0x03, "Identity public key", 14, .ro, 21, .one, 388, [(11, 384), (4, 4)], [], [], []⟩,
  ⟨0x9040, 0x04, "Identity endorsement", 13, .ro, 21, .one, 4096, [], [], [], []⟩,
  ⟨0x9100, 0x01, "Management address", 14, .rwp, 61, .one, 33, [(11, 16), (2, 1), (11, 16)], [0, 0, 0], [[], [(0, 128, 1)], []], []⟩,
  ⟨0x9100, 0x02, "Unryn port", 3, .rwp, 61, .one, 2, [(3, 2)], [5713], [[(1024, 65535, 1)]], []⟩,
  ⟨0x9100, 0x03, "Session idle timeout", 3, .rwp, 61, .one, 2, [(3, 2)], [60], [[(10, 3600, 1)]], []⟩,
  ⟨0x9100, 0x04, "Management status", 14, .ro, 21, .one, 25, [(11, 6), (11, 16), (2, 1), (2, 1), (2, 1)], [], [], []⟩,
  ⟨0x9100, 0x05, "Ring master", 1, .rwp, 61, .one, 1, [(1, 1)], [0], [[(0, 1, 1)]], []⟩,
  ⟨0x9100, 0x06, "Switch counters", 14, .ro, 21, .upTo 3, 12, [(4, 4), (4, 4), (4, 4)], [], [], [1, 2, 3]⟩,
  ⟨0x9110, 0x01, "In-band route", 14, .rwp, 61, .upTo 16, 18, [(11, 16), (2, 1), (2, 1)], [0, 0, 255], [[], [(0, 128, 1)], [(0, 47, 1), (255, 255, 1)]], []⟩]

/-- Security and management objects (14 Table 14-21; 15 Table 15-11). -/
def objs9b : List Obj := [
  ⟨0x9110, 0x02, "In-band counters", 14, .ro, 21, .upTo 48, 16, [(4, 4), (4, 4), (4, 4), (4, 4)], [], [], [1, 2, 3, 4]⟩,
  ⟨0x9110, 0x03, "In-band enable", 1, .rwp, 61, .upTo 48, 1, [(1, 1)], [0], [[(0, 1, 1)]], []⟩,
  ⟨0x9120, 0x01, "Commit", 2, .cmd, 40, .one, 1, [(2, 1)], [], [], []⟩,
  ⟨0x9120, 0x02, "Discard staged", 2, .cmd, 40, .one, 1, [(2, 1)], [], [], []⟩,
  ⟨0x9120, 0x03, "Persistence status", 14, .ro, 21, .one, 20, [(4, 4), (1, 1), (10, 10), (2, 1), (4, 4)], [], [], [5]⟩,
  ⟨0x9130, 0x01, "Session status", 14, .ro, 21, .session, 40, [(2, 1), (5, 8), (11, 16), (3, 2), (2, 1), (3, 2), (10, 10)], [], [], []⟩,
  ⟨0x9130, 0x02, "Session summary", 14, .ro, 21, .one, 4, [(2, 1), (2, 1), (3, 2)], [], [], []⟩,
  ⟨0x9130, 0x03, "Close session", 2, .cmd, 40, .session, 1, [(2, 1)], [], [], []⟩,
  ⟨0x9130, 0x04, "Unryn counters", 14, .ro, 21, .one, 24, [(4, 4), (4, 4), (4, 4), (4, 4), (4, 4), (4, 4)], [], [], [1, 2, 3, 4, 5, 6]⟩]

/-- Security and management objects (14 Table 14-21; 15 Table 15-11). -/
def objsOf9 : List Obj := objs9a ++ objs9b

/-- Power objects (16 Table 16-10). -/
def objsA : List Obj := [
  ⟨0xA000, 0x01, "Power status", 14, .ro, 21, .one, 11, [(3, 2), (3, 2), (2, 1), (2, 1), (2, 1), (1, 1), (3, 2), (1, 1)], [], [], []⟩,
  ⟨0xA000, 0x02, "Temperatures", 14, .ro, 21, .one, 12, [(7, 2), (7, 2), (7, 2), (7, 2), (7, 2), (7, 2)], [], [], []⟩,
  ⟨0xA000, 0x03, "Power counters", 14, .ro, 21, .one, 20, [(4, 4), (4, 4), (4, 4), (4, 4), (4, 4)], [], [], [1, 2, 3, 4, 5]⟩,
  ⟨0xA010, 0x01, "Start-up status", 14, .ro, 21, .one, 13, [(2, 1), (2, 1), (4, 4), (2, 1), (2, 1), (2, 1), (4, 4)], [], [], []⟩,
  ⟨0xA010, 0x02, "Restore defaults", 2, .cmd, 40, .one, 1, [(2, 1)], [], [[(90, 90, 1)]], []⟩,
  ⟨0xA010, 0x03, "Removed circuits", 13, .ro, 21, .one, 4194304, [], [], [], []⟩,
  ⟨0xA020, 0x01, "Flash area", 14, .ro, 21, .upTo 14, 14, [(2, 1), (5, 8), (4, 4), (2, 1)], [], [], []⟩,
  ⟨0xA020, 0x02, "Map checkpoint", 14, .ro, 21, .one, 33, [(2, 1), (4, 4), (5, 8), (10, 10), (1, 1), (2, 1), (4, 4), (4, 4)], [], [], [7, 8]⟩,
  ⟨0xA020, 0x03, "Flash counters", 14, .ro, 21, .one, 16, [(4, 4), (4, 4), (4, 4), (4, 4)], [], [], [1, 2, 3, 4]⟩]

/-- Power objects (16 Table 16-10). -/
def objsOfA : List Obj := objsA

/-- The objects whose index begins with a hexadecimal digit (14 Table 14-19). -/
def objsAt (d : Nat) : List Obj :=
  if d = 1 then objsOf1
  else if d = 2 then objsOf2
  else if d = 3 then objsOf3
  else if d = 4 then objsOf4
  else if d = 5 then objsOf5
  else if d = 6 then objsOf6
  else if d = 7 then objsOf7
  else if d = 8 then objsOf8
  else if d = 9 then objsOf9
  else if d = 10 then objsOfA
  else []

/-- The object at an index and subindex. -/
def findObj (index sub : Nat) : Option Obj :=
  (objsAt (index / 4096)).find? fun o => o.index == index && o.sub == sub

/-- The objects of one index. -/
def objsOfIndex (index : Nat) : List Obj := (objsAt (index / 4096)).filter fun o => o.index == index

end Sys2Proof.Machine
end

