-- ==== Sys2Proof/Machine/State.lean ====
section
/-! DEFINITION. The state of the module as plain data: every piece of state the spec names, with its value at reset. -/

namespace Sys2Proof.Machine

/-- What a lane's transmitter sends (03 R81). -/
inductive TxMode where
  | idle | training | zasyn
  deriving DecidableEq, Repr

/-- The status of one tap in a training answer (03 Table 3-8). -/
inductive TapStatus where
  | notUpdated | updated | atMin | atMax
  deriving DecidableEq, Repr

/-- Engine states (08 Table 8-1). -/
inductive EngState where
  | unusable | failed | restarting | cold | refreshing | waking | armed | holder | down
  deriving DecidableEq, Repr

/-- Governor states (09 Table 9-8). -/
inductive GovState where
  | freeRun | acquiring | locked | holdover
  deriving DecidableEq, Repr

/-- Time states (10 Table 10-3). -/
inductive TimeState where
  | unset | acquiring | locked | holdover
  deriving DecidableEq, Repr

/-- Receive stream states (11 Table 11-4). -/
inductive RxState where
  | idle | acquire | synced
  deriving DecidableEq, Repr


/-- A counter and its carry bit (12 R320). -/
structure Ctr where
  /-- Count modulo 2^32 (12 R320). -/
  val : BitVec 32 := 0
  /-- Set when the count wraps, until the group is cleared (12 R320). -/
  carry : Bool := false
  deriving DecidableEq, Repr

/-- One received frame of a lane's payload (04 R104). -/
structure RxFrame where
  /-- MFI of the frame (11 R282). -/
  mfi : Nat := 0
  /-- Count of received multiframe starts at its FAB (11 R282). -/
  multi : Nat := 0
  /-- Arrival of its FAB: count of the nearest internal boundary times 125,000 ns, and the phase offset (04 R104). -/
  arr : Int := 0
  /-- Internal frame in which it is read, once a move has fixed it; otherwise the lane's depth gives it (04 R101, R106). -/
  due : Option Int := none
  /-- It was cut by a move: it leaves the forebay as all-ones (04 R101). -/
  ones : Bool := false
  /-- Payload by lane slot as it arrived (04 R104, 03 R93). -/
  raw : Tab Byte := []
  /-- Payload by lane slot as the lane's pipeline unseals it (01 step 5, 11 R290). -/
  bytes : Tab Byte := []
  /-- Place in its interval of each byte of a hold-mode stream, by lane slot, plus 1 (11 R282, R291). -/
  place : Tab Nat := []
  deriving DecidableEq, Repr

/-- A candidate of the frame search (04 R97). -/
structure Cand where
  /-- Block position within the 97,000 blocks of a frame (04 R97). -/
  pos : Nat := 0
  /-- Polarity form: the complemented form (04 R97). -/
  inverted : Bool := false
  /-- Valid FABs seen (04 R97). -/
  count : Nat := 0
  /-- MFI of its last FAB (04 R102). -/
  mfi : Nat := 0
  /-- SFI of its last FAB (04 R102). -/
  sfi : Nat := 0
  /-- Its FABs carry consecutive values (04 R102). -/
  consecutive : Bool := true
  /-- The locked position missed its FAB since this candidate began (04 R100). -/
  missedLock : Bool := false
  /-- Lane tag of its last FAB (03 R88). -/
  tag : Nat := 0
  /-- Consecutive FABs of it with that tag (03 R88). -/
  tagRun : Nat := 1
  /-- The payload that has arrived since its last FAB, in its own frame (04 R101). -/
  frame : RxFrame := {}
  /-- BIP-16 over that payload (02 R45). -/
  bip : BitVec 16 := 0
  /-- Content bytes of the overhead rows of that frame that were not errored (04 R122). -/
  rows : Tab Bytes := []
  deriving DecidableEq, Repr

/-- The position of a timestamp point (10 R269). -/
structure PtpStamp where
  /-- Time of the point in 2^-16 ns, less the steps made so far (10 R269). -/
  time : Int := 0
  /-- Row of the point (10 R269). -/
  row : Nat := 0
  deriving DecidableEq, Repr

/-- Receive side of one overhead channel of a lane (02 R51 to R53). -/
structure ChanRx where
  /-- The receiver knows where the next length field lies (02 R53). -/
  synced : Bool := false
  /-- Stream bytes not yet taken as packets or filler (02 R55). -/
  buf : Bytes := []
  /-- Whole packets, or what was gathered of a bad one, oldest first, not yet taken by CHANNEL_PACKET (02 R53). -/
  ready : List (PtpStamp × Bytes) := []
  /-- Timestamp point of the packet in assembly (02 R56). -/
  start : PtpStamp := {}
  /-- Channel index at which a pointer has told the receiver to resume (02 R53). -/
  resume : Option Nat := none
  /-- Pointer of the present frame; 0xFFFF where it names no length field (02 R51). -/
  pointer : Nat := 65535
  /-- A length field has begun in the present frame (02 R51). -/
  begun : Bool := false
  deriving DecidableEq, Repr

/-- Bring-up of a lane (03 R81 to R91). -/
structure Bring where
  /-- Bring-up stage (2020:01) (03 R81). -/
  stage : Nat := 0
  /-- Highest stage since the lane was enabled (2020:02) (03 R94). -/
  highest : Nat := 0
  /-- Signal detect asserted (03 Table 3-4). -/
  sd : Bool := false
  /-- When signal detect last changed (03 R81). -/
  sdSince : Nat := 0
  /-- Start of the unbroken signal of stage 1 (03 R81). -/
  sdRun : Nat := 0
  /-- Recovered clock locked (03 R81). -/
  cdr : Bool := false
  /-- When the present stage was entered (03 R81). -/
  stageSince : Nat := 0
  /-- Electrical idle, training frames or Zasyn blocks (03 R81). -/
  txMode : TxMode := .idle
  /-- Start of the restart hold (03 R85). -/
  holdSince : Option Nat := none
  /-- Polarity found (2020:03) (03 R86). -/
  polarity : Nat := 0
  /-- Logical lane identified (2020:04) (03 R88). -/
  logical : Option Nat := none
  /-- Accepted lane tag (03 R88). -/
  tag : Nat := 0
  /-- Consecutive valid FABs with the same tag (03 R88). -/
  tagRun : Nat := 0
  /-- That tag (03 R88). -/
  tagSeen : Nat := 0
  /-- Consecutive valid FABs whose tag differs from the accepted one (03 Table 3-11). -/
  diffRun : Nat := 0
  /-- SO10 to SO13 as last received (03 R88). -/
  group : Nat := 0
  /-- SO10 to SO13 of the last three frames, newest first; none while a frame's has not come (03 R88). -/
  groups : List (Option Nat) := []
  /-- Arrival after the start of the port window, ns (2020:05) (03 Table 3-13). -/
  skew : Int := 0
  /-- Arrival measured against the internal boundary (03 R90). -/
  arrival : Int := 0
  /-- Consecutive frames measured in stage 8 (03 R90). -/
  measured : Nat := 0
  /-- Arrival at placement (03 R91). -/
  placedAt : Int := 0
  deriving DecidableEq, Repr

/-- Training of a lane (03 R72 to R79, R84). -/
structure Train where
  /-- Pre-cursor index (2010:01) (03 R66). -/
  txPre : Nat := 2
  /-- Main index (2010:02) (03 R66). -/
  txMain : Nat := 12
  /-- Post-cursor index (2010:03) (03 R66). -/
  txPost : Nat := 2
  /-- PRBS13 generator of the training pattern, as the next pattern field begins (03 R72). -/
  prbs : BitVec 13 := 0
  /-- Thousandths of a UI since the present training frame began (03 R71). -/
  frameUi : Nat := 0
  /-- A preset request has been applied (03 R75). -/
  presetApplied : Bool := false
  /-- Status answered for the pre tap (03 R75). -/
  stPre : TapStatus := .notUpdated
  /-- Status answered for the main tap (03 R75). -/
  stMain : TapStatus := .notUpdated
  /-- Status answered for the post tap (03 R75). -/
  stPost : TapStatus := .notUpdated
  /-- Answered sequence (03 R75). -/
  answered : Nat := 0
  /-- Request sequence of this requester (03 R76). -/
  reqSeq : Nat := 0
  /-- Request byte of the request now out; 0 is hold on every tap (03 Table 3-7). -/
  request : Nat := 0
  /-- Preset index that goes with it (03 Table 3-6). -/
  reqPreset : Nat := 0
  /-- When the request now waiting for its answer was sent (03 R76). -/
  reqSince : Option Nat := none
  /-- Training frames still to begin up to the one that repeats the request; all before it send hold (03 R76). -/
  holdFrames : Nat := 0
  /-- RXREADY of this receiver (03 R77). -/
  rxReady : Bool := false
  /-- Consecutive valid messages with the partner's RXREADY (03 R77). -/
  partnerReady : Nat := 0
  /-- A valid message came in the present stage 3 (03 R79). -/
  validMsg : Bool := false
  /-- Start of the training timer (03 R78). -/
  trainSince : Option Nat := none
  /-- Start of the 256 trailing frames (03 R77). -/
  trailSince : Option Nat := none
  /-- Valid messages in consecutive training frames from stage 4 on (03 R85). -/
  msgRun : Nat := 0
  /-- When the last such message came (03 R85). -/
  msgAt : Nat := 0
  /-- Last training ended by fallback (03 Table 3-14). -/
  withoutPartner : Bool := false
  /-- Tag width differs (03 Table 3-14). -/
  widthMis : Bool := false
  /-- Group differs (03 Table 3-14). -/
  groupMis : Bool := false
  /-- Logical lane already taken (03 Table 3-14). -/
  dupLane : Bool := false
  /-- Not placed in the port window (03 Table 3-14). -/
  skewExc : Bool := false
  /-- Last SO16 received (2020:0B) (03 R84). -/
  partnerStatus : Nat := 0
  /-- Last SO17 received (2020:0C) (03 R84). -/
  partnerPre : Nat := 0
  /-- Last SO18 received (03 R84). -/
  partnerMain : Nat := 0
  /-- Last SO19 received (03 R84). -/
  partnerPost : Nat := 0
  /-- Consecutive frames with RTR received (03 R87). -/
  rtrRun : Nat := 0
  /-- Start of the 8 frames of RTR sent (03 R87). -/
  rtrSince : Option Nat := none
  deriving DecidableEq, Repr

/-- The receive equaliser of a lane (03 R69, R70, R77). -/
structure Equaliser where
  /-- When the adaptation last ended; none while the receiver adapts (03 R70). -/
  fixedAt : Option Nat := none
  /-- Eye height at the sampler, as last measured in training, mV (03 R77). -/
  eyeHeight : Nat := 0
  /-- Eye width at the sampler, as last measured in training, thousandths of a UI (03 R77). -/
  eyeWidth : Nat := 0
  deriving DecidableEq, Repr

/-- Deframer: descrambler, block lock, frame search (02 R28, 03 R82, 04 R96 to R103). -/
structure Deframe where
  /-- Descrambler register (02 R28). -/
  descr : BitVec 58 := 0
  /-- Bits shifted in, up to 58 (02 R29). -/
  descrBits : Nat := 0
  /-- Transmit scrambler register (02 R28). -/
  scr : BitVec 58 := 0
  /-- Block lock (03 R82). -/
  blockLock : Bool := false
  /-- Consecutive valid headers at this alignment (03 R82). -/
  goodRun : Nat := 0
  /-- Validity of the last 64 headers, newest first (03 R82). -/
  heads : List Bool := []
  /-- Bits the search has shifted (03 R82). -/
  bitSlips : Nat := 0
  /-- Position of the next block, modulo 97,000 (04 R96). -/
  blockPos : Nat := 0
  /-- Frame lock (04 R98). -/
  frameLock : Bool := false
  /-- Locked FAB position (04 R99). -/
  lockPos : Nat := 0
  /-- Candidates held (04 R97). -/
  cands : List Cand := []
  /-- Consecutive missing FABs (04 R99). -/
  missRun : Nat := 0
  /-- The last expected FAB was missing (04 R100). -/
  lockMissed : Bool := false
  /-- Expected MFI (04 R103). -/
  expMfi : Nat := 0
  /-- Expected SFI (04 R103). -/
  expSfi : Nat := 0
  /-- Consecutive disagreeing valid FABs (04 R103). -/
  disRun : Nat := 0
  /-- MFI and SFI of the last valid FAB at the locked position (04 R103). -/
  lastFab : Option (Nat × Nat) := none
  /-- MFI and SFI of the last valid FAB, a candidate's included (3010:03) (04 R123). -/
  shownFab : Option (Nat × Nat) := none
  /-- First FAB-form block of stage 5: position and form (03 R86). -/
  pol5 : Option (Nat × Bool) := none
  deriving DecidableEq, Repr

/-- Defects of a lane (04 R108). -/
structure Defects where
  /-- Defect LOS (04 R108). -/
  los : Bool := false
  /-- Defect LOL (04 R108). -/
  lol : Bool := false
  /-- Defect LOF (04 R108). -/
  lof : Bool := false
  /-- Defect LOM (04 R108). -/
  lom : Bool := false
  /-- Defect AIS-L (04 R108). -/
  ais : Bool := false
  /-- Defect RDI-L (04 R108). -/
  rdi : Bool := false
  /-- Defect TIM (04 R108). -/
  tim : Bool := false
  /-- Defect SLIP (04 R108). -/
  slip : Bool := false
  /-- When the last slip fell (04 R108). -/
  slipAt : Nat := 0
  /-- Consecutive frames whose AIS flag differs from the defect (04 R108). -/
  aisRun : Nat := 0
  /-- Consecutive frames whose RDI flag differs from the defect (04 R108). -/
  rdiRun : Nat := 0
  /-- Lane-fail state latched at the last internal boundary (04 R112). -/
  failedLatched : Bool := false
  /-- RDI in the transmitted frame (04 R114). -/
  sentRdi : Bool := false
  deriving DecidableEq, Repr

/-- Forebay of a lane (04 R104 to R107). -/
structure Bay where
  /-- Phase-aligned (04 R105). -/
  aligned : Bool := false
  /-- Consecutive frames within 750 ns (04 R105). -/
  alignRun : Nat := 0
  /-- Phase offset, ns (3040:02) (04 R104). -/
  phase : Int := 0
  /-- Placed in the forebay (04 R106). -/
  placed : Bool := false
  /-- Forebay depth, ns (3040:01) (04 R106). -/
  depth : Nat := 0
  /-- Frame moved and not yet placed again (04 R101). -/
  moved : Bool := false
  /-- Boundaries since the move, while the port's other lanes have not moved (04 R106). -/
  movedFor : Nat := 0
  /-- The frame now arriving (04 R104). -/
  rxFrame : RxFrame := {}
  /-- Whole frames in the forebay, oldest first (04 R104). -/
  rxDone : List RxFrame := []
  /-- Frame read at the last internal boundary (05 R126). -/
  readFrame : RxFrame := {}
  /-- Payload passes; false while it leaves the forebay as all-ones (04 R112). -/
  lanePay : Bool := true
  /-- Count of the boundary nearest the FAB of the frame now arriving (05 R147). -/
  fabN : Nat := 0
  /-- Snapshot of the boundary nearest the FAB of the frame now arriving, less the steps made so far (10 R269). -/
  fabB : Int := 0
  /-- Logical position of the frame read at the last boundary (05 R124). -/
  pos : Option Nat := none
  /-- Hold store: ciphertext and place in the interval, by interval parity, frame and lane slot (11 R291). -/
  held : Tab (Byte × Nat) := []
  deriving DecidableEq, Repr

/-- Received trace, APS and SSM (04 R118 to R120). -/
structure Trace where
  /-- Trace bytes of the present period (04 R118). -/
  traceBuf : Bytes := []
  /-- Text of the previous received trace (04 R118). -/
  traceLast : Option Bytes := none
  /-- Consecutive periods with that text (04 R118). -/
  traceRun : Nat := 0
  /-- Accepted trace (3020:03) (04 R118). -/
  traceAcc : Option Bytes := none
  /-- A trace was accepted since a higher defect last cleared (04 R109). -/
  traceFresh : Bool := false
  /-- APS1 to APS4 of the last frame (04 R120). -/
  apsLast : Nat := 0
  /-- Consecutive frames with those bytes (04 R120). -/
  apsRun : Nat := 0
  /-- Accepted APS (3060:01) (04 R120). -/
  apsAcc : Nat := 0
  /-- Accepted APS is marked invalid (04 R120). -/
  apsInvalid : Bool := true
  /-- SSM code of the last frame (04 R120). -/
  ssmLast : Nat := 0
  /-- Consecutive frames with that code (04 R120). -/
  ssmRun : Nat := 0
  /-- Accepted SSM (3060:02) (04 R120). -/
  ssmAcc : Nat := 0
  /-- Accepted SSM is marked invalid (04 R120). -/
  ssmInvalid : Bool := true
  /-- APS bytes of this frame not yet complete (02 R44). -/
  soBuf : Bytes := []
  deriving DecidableEq, Repr

/-- Parity and REI of a lane (02 R45, R46). -/
structure Parity where
  /-- BIP-16 received in SO0 and SO1 (02 R45). -/
  bipSent : BitVec 16 := 0
  /-- BIP-16 computed over the payload now arriving (02 R45). -/
  bipRx : BitVec 16 := 0
  /-- BIP-16 computed over the previous whole frame (02 R45). -/
  bipPrev : Option (BitVec 16) := none
  /-- BIP-16 of the last transmitted frame's payload (02 R45). -/
  bipTx : BitVec 16 := 0
  /-- Count of the last completed check (02 R46). -/
  bipCount : Nat := 0
  /-- Count to take over for the frame after the next (02 R46). -/
  reiNext : Nat := 0
  /-- REI to send in the next transmitted frame (02 R46). -/
  reiSent : Nat := 0
  deriving DecidableEq, Repr

/-- A time-channel packet waiting to be sent (10 R270). -/
structure TxPkt where
  /-- Ingress time of a Sync or Delay_Req, 2^-16 ns, less the steps made so far (10 R270). -/
  ingress : Option Int := none
  /-- It is the module's own Delay_Req (10 R261). -/
  own : Bool := false
  /-- Type and body (02 Table 2-8). -/
  data : Bytes := []
  deriving DecidableEq, Repr

/-- Overhead, seal and supervisor channels of a lane (02 R51 to R60). -/
structure Chans where
  /-- Time channel, receive (02 R51). -/
  timeRx : ChanRx := {}
  /-- Data channel, receive (02 R51). -/
  dataRx : ChanRx := {}
  /-- Time-channel packets waiting to be sent (10 R270). -/
  timeTx : List TxPkt := []
  /-- Data-channel packets waiting to be sent (14 R349). -/
  dataTx : List Bytes := []
  /-- Bytes in the supervisor's receive queue (04 R120). -/
  dataQueue : Nat := 0
  /-- Packets of a reserved type (02 R53). -/
  oddTypes : Nat := 0
  /-- The sender's AIS flag was set in some frame of the received multiframe (11 R289). -/
  aisSeen : Bool := false
  /-- The same of the previous received multiframe (11 R289). -/
  aisPrev : Bool := false
  /-- Received multiframe starts (11 R289). -/
  multi : Nat := 0
  /-- Time channel of the present transmitted frame (02 R51). -/
  txTime : Bytes := []
  /-- Data channel of the present transmitted frame (02 R51). -/
  txData : Bytes := []
  /-- Bytes of a time-channel packet still to send (02 R55). -/
  timeLeft : Bytes := []
  /-- Bytes of a data-channel packet still to send (02 R55). -/
  dataLeft : Bytes := []
  /-- The lane was failed, or moved, in some frame of the received multiframe (04 R121). -/
  failSeen : Bool := false
  /-- Handles whose record arrived in the present received multiframe (02 R60). -/
  sealSeen : List Nat := []
  /-- Seal-channel bytes of the present received frame, by index SC0 to SC5375, plus 1 (02 R57). -/
  sealIn : Tab Nat := []
  /-- Records of the frames since the last valid FAB, each with where it ended: 1,000 times the MFI, plus the row (04 R122, 11 R291). -/
  sealWait : List (Nat × SealRec) := []
  /-- Records not yet taken by SEAL_RECORD, oldest first, each with where it ended (02 R60). -/
  sealReady : List (Nat × SealRec) := []
  deriving DecidableEq, Repr

/-- Transmit frame of a lane (02 R41, Table 2-6). -/
structure LaneTx where
  /-- FELB in the transmitted frame (02 Table 2-6). -/
  felbTx : Bool := false
  /-- SEAL in the transmitted frame (02 Table 2-6). -/
  sealTx : Bool := false
  /-- AIS in the transmitted frame (02 Table 2-6). -/
  aisTx : Bool := false
  /-- MFI of the present transmitted frame (02 R41). -/
  txMfi : Nat := 0
  /-- SFI of the present transmitted frame (02 R41). -/
  txSfi : Nat := 0
  /-- Count of internal boundaries when the last transmitted frame started (02 R59). -/
  lastNo : Nat := 0
  /-- Transmit frames are running (02 R41). -/
  txRun : Bool := false
  /-- FAB of the present transmitted frame (02 R36). -/
  fab : Bytes := []
  /-- SO0 to SO104 of the present transmitted frame (02 R44). -/
  so : Bytes := []
  /-- SC0 to SC5375 of the present transmitted frame (02 R57, R58). -/
  sc : Bytes := []
  deriving DecidableEq, Repr

/-- One lane (03, 04). -/
structure Lane where
  /-- Bring-up of a lane (03 R81 to R91) (03, 04). -/
  bring : Bring := {}
  /-- Training of a lane (03 R72 to R79, R84) (03, 04). -/
  tr : Train := {}
  /-- Receive equaliser (03 R69, R70) (03, 04). -/
  eq : Equaliser := {}
  /-- Deframer: descrambler, block lock, frame search (02 R28, 03 R82, 04 R96 to R103) (03, 04). -/
  df : Deframe := {}
  /-- Defects of a lane (04 R108) (03, 04). -/
  d : Defects := {}
  /-- Forebay of a lane (04 R104 to R107) (03, 04). -/
  bay : Bay := {}
  /-- Received trace, APS and SSM (04 R118 to R120) (03, 04). -/
  oh : Trace := {}
  /-- Parity and REI of a lane (02 R45, R46) (03, 04). -/
  par : Parity := {}
  /-- Overhead, seal and supervisor channels of a lane (02 R51 to R60) (03, 04). -/
  ch : Chans := {}
  /-- Transmit frame of a lane (02 R41, Table 2-6) (03, 04). -/
  tx : LaneTx := {}
  deriving DecidableEq, Repr

/-- What a port holds beside its lanes (03 R90, 04 R106). -/
structure Port where
  /-- Start of the gather that runs (03 R90). -/
  gather : Option Nat := none
  /-- Lanes taking part in the gather (03 R90). -/
  gatherSet : List LaneId := []
  /-- Earliest arrival of the placed set (03 R90). -/
  window : Int := 0
  /-- Skew between earliest and latest placed lanes (2800:07) (03 Table 3-15). -/
  spread : Nat := 0
  deriving DecidableEq, Repr

/-- A companion entry (05 Table 5-3), less its ECC. -/
structure Companion where
  /-- The run has an alternate source (05 R130). -/
  prot : Bool := false
  /-- Logical lanes of the alternate port (05 R130). -/
  altMask : Nat := 0
  /-- Global address of the first alternate slot (05 R130). -/
  altIn : Nat := 0
  /-- Selector index (05 R130). -/
  selIdx : Nat := 0
  /-- The circuit's idle byte (05 R130). -/
  idle : Nat := 0
  deriving DecidableEq, Repr

/-- A run entry (05 Table 5-2), less its ECC, with its circuit. -/
structure Entry where
  /-- Source kind (05 R129). -/
  kind : Nat := 0
  /-- CLASS: prompt (05 R129). -/
  prompt : Bool := false
  /-- SEAL (05 R129). -/
  sealOn : Bool := false
  /-- UNSEAL (05 R129). -/
  unsealOn : Bool := false
  /-- Consequent-action code (05 R129). -/
  ca : Nat := 0
  /-- Logical lanes of the ingress port (05 R129). -/
  lmask : Nat := 0
  /-- Global address of the first egress slot (05 R129). -/
  egress : Nat := 0
  /-- Slots minus 1 (05 R129). -/
  len : Nat := 0
  /-- Global address of the first ingress slot, or the idle byte (05 R129). -/
  ingress : Nat := 0
  /-- The companion entry (05 R130). -/
  comp : Option Companion := none
  /-- The circuit it belongs to (4810:03) (05 Table 5-10). -/
  handle : Nat := 0
  /-- Its leg (06 R153). -/
  leg : Nat := 0
  /-- It is a head-end mirror (07 R183). -/
  mirror : Bool := false
  /-- Acceptance number of the transaction that brought its leg into the map (06 R175). -/
  born : Nat := 0
  /-- Acceptance number of the transaction that last wrote its run (06 R175). -/
  made : Nat := 0
  deriving DecidableEq, Repr

/-- Selector state byte (07 Table 7-7). -/
structure Sel where
  /-- Alternate selected (07 R199). -/
  sel : Bool := false
  /-- Revertive (07 R199). -/
  rev : Bool := false
  /-- Command (07 R199). -/
  cmd : Nat := 0
  /-- Remaining ticks (07 R199). -/
  wtr : Nat := 0
  deriving DecidableEq, Repr

/-- What step 3 of Table 5-1 latches (05 R128). -/
structure Latch where
  /-- Lane-fail vector by logical position (05 R128). -/
  lf : BitVec 48 := 0
  /-- Prompt-fail vector by logical position (05 R128). -/
  pf : BitVec 48 := 0
  /-- Circuit and port of each source with SEALF (07 R200). -/
  sealf : List (Nat × LaneId) := []
  deriving DecidableEq, Repr

/-- What the tally must know of an internal boundary (08 R219). -/
structure Mark where
  /-- An activation took effect at it (08 R219). -/
  act : Bool := false
  /-- A line selector changed at it (08 R219). -/
  line : Bool := false
  /-- The fanout rebuild was running at it (08 R222). -/
  fan : Bool := false
  /-- No holder was admitted in some part of the frame that ended at it (08 R219). -/
  lapse : Bool := false
  deriving DecidableEq, Repr

/-- The fabric: pages, buffers, selectors, frame identity (05, 06). -/
structure Fabric where
  /-- Active page (05 R129). -/
  active : List Entry := []
  /-- Shadow page (05 R129). -/
  shadow : List Entry := []
  /-- Frame buffer 0, by global address (05 R126). -/
  buf0 : Tab Byte := []
  /-- Frame buffer 1, by global address (05 R126). -/
  buf1 : Tab Byte := []
  /-- Last rows of buffer 0 that a failed lane left as all-ones, by logical position (04 R112). -/
  ones0 : Tab Nat := []
  /-- Last rows of buffer 1 that a failed lane left as all-ones, by logical position (04 R112). -/
  ones1 : Tab Nat := []
  /-- Prompt row ring: by frame parity, logical position, row and byte (05 R127). -/
  ring : Tab Byte := []
  /-- Count of internal boundaries since the port die started (05 R126). -/
  frameNo : Nat := 0
  /-- Circuit selector state, by selector index (07 R199). -/
  sel : Tab Sel := []
  /-- Line selector table, by working port (05 R139). -/
  lineSel : Tab Bool := []
  /-- Vectors latched at the last boundary (05 R128). -/
  latch : Latch := {}
  /-- N of the present internal frame (06 R170). -/
  superframe : Nat := 0
  /-- s of the present internal frame (06 R170). -/
  sfi : Nat := 0
  /-- m of the present internal frame (06 R170). -/
  mfi : Nat := 0
  /-- Time-counter snapshot of the last internal boundary (10 R269). -/
  boundaryAt : Nat := 0
  /-- When FP8K last rose (09 R252). -/
  fpAt : Option Nat := none
  /-- The page copy runs (06 R169). -/
  copyBusy : Bool := false
  /-- The fanout rebuild runs (08 R222). -/
  fanoutBusy : Bool := false
  /-- A circuit WTR tick falls in the coming frame (07 R200). -/
  wtrTick : Bool := false
  /-- When the last circuit WTR tick fell (07 R200). -/
  tickAt : Nat := 0
  /-- Marks of the last three internal boundaries, newest first (08 R219). -/
  hist : List Mark := []
  /-- An activation takes effect at the coming boundary (08 R219). -/
  acted : Bool := false
  /-- Unexcused route-tag mismatches of the last frame (08 R220). -/
  tagBurst : Nat := 0
  /-- Superframes of the port die's own frame sequence (06 R170). -/
  localN : Nat := 0
  /-- Coming boundaries up to which every egress slot carries all-ones after a cut (09 R254). -/
  cutOnes : Nat := 0
  /-- Circuit revertive setting 3840:02, by handle (07 R209). -/
  revTbl : Tab Nat := []
  /-- Circuit switches 3840:04, by handle (07 R209). -/
  swCount : Tab Ctr := []
  deriving DecidableEq, Repr

/-- A transaction in flight (06 R161). -/
structure Trans where
  /-- Count of transactions taken before it (06 R161). -/
  seq : Nat := 0
  /-- Acceptance number; none when refused under R160 or R162 (06 R161). -/
  acc : Option Nat := none
  /-- Edit hopper (06 R161). -/
  hopper : Nat := 0
  /-- Tag (06 R156). -/
  tag : Nat := 0
  /-- Client reference (06 R156). -/
  client : Nat := 0
  /-- Completion hopper named (06 R156). -/
  completion : Nat := 0
  /-- CHECK (06 R156). -/
  check : Bool := false
  /-- Status (06 R164). -/
  status : Nat := 0
  /-- Failing operation (06 R164). -/
  op : Nat := 65535
  /-- Failing leg (06 R164). -/
  leg : Nat := 255
  /-- Detail code (06 R164). -/
  detail : Nat := 0
  /-- Detail value (06 R164). -/
  detailValue : Nat := 0
  /-- Bank of detail code 0x0A (06 R164). -/
  bank : Nat := 0
  /-- Entries in the shadow page after it (06 R164). -/
  shadowEntries : Nat := 0
  /-- Circuits in the shadow page after it (06 R164). -/
  shadowCircuits : Nat := 0
  /-- Entries it inserted (08 R221). -/
  inserted : List Entry := []
  /-- Entries it removed (08 R221). -/
  removed : List Entry := []
  /-- Its records are in the edit journal (06 R164). -/
  journaled : Bool := false
  /-- It is written and waits for room in its completion hopper (06 R166). -/
  finished : Bool := false
  /-- Highest acceptance number included before it, where it has been included in the next activation (06 Table 6-12, 01 R17). -/
  prevIncl : Option Nat := none
  deriving DecidableEq, Repr

/-- The armed activation (06 R171 to R173). -/
structure Armed where
  /-- Activation number (06 R171). -/
  number : Nat := 0
  /-- Mode (06 R171). -/
  mode : Nat := 0
  /-- Completion hopper (06 R171). -/
  hopper : Nat := 0
  /-- Client reference (06 R171). -/
  client : Nat := 0
  /-- 1 before the seal point; 2 sealing; 3 sealed; 4 committed (06 Table 6-16). -/
  state : Nat := 1
  /-- Target boundary as a count of internal boundaries (06 R173). -/
  target : Option Nat := none
  /-- N of the target (06 R171). -/
  superframe : Nat := 0
  /-- s of the target (06 R171). -/
  sfi : Nat := 0
  /-- m of the target (06 R171). -/
  mfi : Nat := 0
  /-- Boundary count when the shadow page was sealed (06 R171). -/
  sealedAt : Nat := 0
  deriving DecidableEq, Repr

/-- An edit-journal record (08 Table 8-7). -/
structure Rec where
  /-- Journal position (08 R221). -/
  pos : Nat := 0
  /-- 1 insert; 2 remove; 3 activation executed; 4 shadow reverted (08 R221). -/
  kind : Nat := 0
  /-- The entry inserted or removed, companion included (08 R221). -/
  entry : Entry := {}
  /-- Activation number of kind 3 (08 R221). -/
  number : Nat := 0
  /-- Acceptance number of the transaction it belongs to (06 R161). -/
  acc : Nat := 0
  deriving DecidableEq, Repr

/-- An image of the active page: an engine's checkpoint area or a map checkpoint (08 R222, 16 R424). -/
structure Image where
  /-- The image is valid (08 R222). -/
  valid : Bool := false
  /-- The page (08 R222). -/
  page : List Entry := []
  /-- Journal position that follows its activation record: c plus 1 (08 R222). -/
  c : Nat := 0
  /-- Activation number of the page (16 R424). -/
  number : Nat := 0
  /-- Sequence of the descriptor (16 R424). -/
  seq : Nat := 0
  /-- Content length of the descriptor (16 R424). -/
  length : Nat := 0
  /-- SHA-256 digest of the descriptor (16 R424). -/
  digest : Bytes := []
  /-- Stamp at which it was written (16 Table 16-10). -/
  written : Nat := 0
  /-- First lane of the port that held each lane then (16 R421). -/
  ports : List Nat := []
  deriving DecidableEq, Repr

/-- Edit transactions, journal and activation (06, 08 R221). -/
structure Edit where
  /-- Transactions in flight, in acceptance order (06 R161). -/
  flight : List Trans := []
  /-- Count of transactions taken (06 R161). -/
  taken : Nat := 0
  /-- Next acceptance number (06 R161). -/
  nextAcc : Nat := 1
  /-- Last acceptance number (4000:02) (06 Table 6-16). -/
  lastAcc : Nat := 0
  /-- Hopper from which a transaction was last taken (06 R161). -/
  lastHopper : Nat := 8191
  /-- The armed activation (06 R172). -/
  armed : Option Armed := none
  /-- Next activation number (06 R171). -/
  nextAct : Nat := 1
  /-- Activation number of the active page (16 R426). -/
  activeNo : Nat := 0
  /-- Applied transactions since the last activation (06 Table 6-12). -/
  included : Nat := 0
  /-- Highest acceptance number applied since the last activation (06 Table 6-12). -/
  lastIncl : Nat := 4294967295
  /-- The last activation entry (4100:04) (06 Table 6-16). -/
  lastEntry : Bytes := []
  /-- The edit journal, oldest first (08 R221). -/
  journal : List Rec := []
  /-- Journal head position (08 R221). -/
  head : Nat := 0
  /-- Journal position that follows the last activation record (08 R222). -/
  actPos : Nat := 0
  /-- Records in an island's mirror (08 R221). -/
  mirror : Nat := 0
  /-- Hopper and tag of the transactions a restart discarded (01 R17). -/
  discarded : List (Nat × Nat) := []
  /-- The active page differs from its checkpoint by a reconciliation (16 R426). -/
  reconciled : Bool := false
  deriving DecidableEq, Repr

/-- A line 1+1 pair (07). -/
structure Pair where
  /-- Protect port in force, 0xFF none (07 R182). -/
  protect : Nat := 255
  /-- Protect port written and not yet in force, 0xFF removal (07 R185). -/
  next : Nat := 255
  /-- A pair or its removal waits for the next activation (07 R185). -/
  pending : Bool := false
  /-- State, as a request code (07 R190). -/
  state : Nat := 0
  /-- The cogs' selector: protect (07 R189). -/
  selector : Bool := false
  /-- Stored command, as 3800:05 codes it (07 R190). -/
  stored : Nat := 0
  /-- SF-W raised as a request (07 R187). -/
  sfW : Bool := false
  /-- SF-P raised as a request (07 R187). -/
  sfP : Bool := false
  /-- SF-W condition at the last evaluation (07 R186). -/
  condW : Bool := false
  /-- SF-P condition at the last evaluation (07 R186). -/
  condP : Bool := false
  /-- Start of the hold-off of SF-W (07 R187). -/
  holdW : Option Nat := none
  /-- Start of the hold-off of SF-P (07 R187). -/
  holdP : Option Nat := none
  /-- Start of the wait-to-restore (07 R191). -/
  wtr : Option Nat := none
  /-- Far request (07 R193). -/
  far : Nat := 0
  /-- Mode mismatch (07 R195). -/
  modeMis : Bool := false
  /-- Selector mismatch (07 R195). -/
  selMis : Bool := false
  /-- Start of the timer of the mode mismatch (07 R195). -/
  modeSince : Option Nat := none
  /-- Start of the timer of the selector mismatch (07 R195). -/
  selSince : Option Nat := none
  /-- APS1 sent (07 R188). -/
  aps1 : Nat := 0
  /-- APS2 sent (07 R188). -/
  aps2 : Nat := 0
  /-- APS3 sent (07 R188). -/
  aps3 : Nat := 0
  /-- Governing request told to the port die (07 R206). -/
  governing : Nat := 0
  deriving DecidableEq, Repr

/-- A pair write waiting to be taken (07 R185). -/
structure PairWrite where
  /-- Working port (07 R185). -/
  port : Nat := 0
  /-- Value written (07 R185). -/
  protect : Nat := 255
  /-- Session owed the response (07 R185). -/
  session : Nat := 0
  /-- Tag of the request (07 R185). -/
  tag : Nat := 0
  /-- When it was accepted (07 R185). -/
  since : Nat := 0
  deriving DecidableEq, Repr

/-- Line and circuit protection (07). -/
structure Protection where
  /-- Pairs, by working port (07 R182). -/
  pairs : Tab Pair := []
  /-- Pair writes waiting to be taken (07 R185). -/
  writes : List PairWrite := []
  /-- The cogs' copy of CMD, by handle (07 R202). -/
  cmdTbl : Tab Nat := []
  /-- The cogs' copy of REV, by selector index: 1 revertive, 2 not (07 R203, R204). -/
  revs : Tab Nat := []
  /-- Lanes pulsed at the most recent pulsing boundary (3850:02) (07 R209). -/
  lastPulsed : BitVec 48 := 0
  /-- Selectors are still to be written back to the new holder (07 R198). -/
  writeBack : Bool := false
  deriving DecidableEq, Repr

/-- A switch engine and its island (08). -/
structure Engine where
  /-- Engine state (08 R210). -/
  state : EngState := .down
  /-- Cause of the last failure (08 R216). -/
  cause : Nat := 0
  /-- Epoch of the last failure (08 R216). -/
  failEpoch : Nat := 0
  /-- Stamp of the last failure (08 R216). -/
  failStamp : Nat := 0
  /-- When it failed (08 R228). -/
  failedAt : Nat := 0
  /-- Times of its automatic restarts (08 R228). -/
  restarts : List Nat := []
  /-- Checkpoint area 0 (08 R222). -/
  area0 : Image := {}
  /-- Checkpoint area 1 (08 R222). -/
  area1 : Image := {}
  /-- When it was last refreshed (08 R222). -/
  refreshedAt : Nat := 0
  /-- Journal head at the last refresh (08 R222). -/
  refreshHead : Nat := 0
  /-- Heartbeat received from the other island (08 R226). -/
  hbReceived : Bool := false
  /-- Heartbeat lost (08 R226). -/
  hbLost : Bool := false
  /-- When the last heartbeat came (08 R226). -/
  hbAt : Nat := 0
  /-- Engine state that the last heartbeat carried (08 R226). -/
  hbPeer : Nat := 0
  /-- Values of 5010:02 and 5010:06 as they stood when the engine went Down (08 R210). -/
  held : List Nat := []
  /-- Banks replaced by spares, in the order of the spares (05 R150). -/
  repairs : List Nat := []
  /-- When it became Armed (08 R227). -/
  armedAt : Nat := 0
  /-- Its wake is a manual switch (08 R227). -/
  switching : Bool := false
  /-- Its mirror filled since its last refresh (08 R222). -/
  mirrorFull : Bool := false
  deriving DecidableEq, Repr

/-- The lease at the sluice (08 R212). -/
structure Lease where
  /-- Holder (08 R212). -/
  holder : Option EngId := none
  /-- Lease epoch E (08 R212). -/
  epoch : Nat := 0
  /-- The holder's egress is admitted (08 R214). -/
  admitted : Bool := false
  /-- When the lease was granted (08 R214). -/
  grantAt : Nat := 0
  /-- When a renewal was last accepted (08 R212). -/
  renewedAt : Nat := 0
  /-- Expiry in force, ms (08 R212). -/
  expiry : Nat := 4
  /-- When the lease was revoked, until the admission that follows (08 R232). -/
  revokedAt : Option Nat := none
  /-- Cause of that revocation (08 R230). -/
  revokeCause : Nat := 0
  /-- When a holder was admitted by a takeover caused by TALLY (08 R230). -/
  tallyTakeover : Option Nat := none
  /-- Tally window, newest first (08 R219). -/
  window : List Bool := []
  /-- P of the last comparison (08 Table 8-10). -/
  lastP : Nat := 0
  /-- M of the last comparison (08 Table 8-10). -/
  lastM : Nat := 0
  /-- Frame index of the egress frame of the last comparison (08 Table 8-10). -/
  lastFrame : Nat := 0
  /-- Duration of the last takeover, microseconds (08 Table 8-10). -/
  lastTakeover : Nat := 0
  /-- Common tally fault (08 R230). -/
  commonTally : Bool := false
  /-- No holder was admitted in some part of the present frame (08 R219). -/
  lapsed : Bool := true
  /-- Rows of the present egress frame in which the sluice passes the holder's egress (08 R214). -/
  rowsHeld : Nat := 0
  /-- Rows of the egress frame after it that had passed the sluice when the lease was revoked (08 R214, Table 8-9). -/
  ahead : Nat := 0
  /-- The check path's sum over the source frame last received, before the subtraction loop (08 R218). -/
  arriving : BitVec 32 := 0
  /-- P of the egress frame that ended at the last boundary (08 R218). -/
  sumP : BitVec 32 := 0
  /-- M of that frame (08 R217). -/
  sumM : BitVec 32 := 0
  deriving DecidableEq, Repr

/-- A reference and its monitors (09 R238). -/
structure Ref where
  /-- Edges present (REF0 and REF1) (09 R238). -/
  active : Bool := false
  /-- Last frequency result, 10^-12 (09 R238). -/
  offset : Int := 0
  /-- Consecutive results beyond the hard limit (09 R238). -/
  hardBad : Nat := 0
  /-- Consecutive results within the hard limit (09 R238). -/
  hardGood : Nat := 0
  /-- Consecutive results beyond the soft limit (09 R238). -/
  softBad : Nat := 0
  /-- Consecutive results within the soft limit's return (09 R238). -/
  softGood : Nat := 0
  /-- Disqualified at the hard limit (09 R238). -/
  hardDis : Bool := false
  /-- Soft-limit flag (09 R238). -/
  softFlag : Bool := false
  /-- Disqualified for no lock (09 R238). -/
  noLock : Bool := false
  /-- Disqualified for activity (09 R238). -/
  actLost : Bool := false
  /-- Qualified, as last evaluated (09 R238). -/
  qual : Bool := false
  /-- It has been qualified before (09 R239). -/
  seen : Bool := false
  /-- Start of its wait-to-restore (09 R239). -/
  wtrSince : Option Nat := none
  deriving DecidableEq, Repr

/-- A governor (09 R246, R248). -/
structure Gov where
  /-- State (09 R246). -/
  state : GovState := .freeRun
  /-- Reference, 0xFF none (09 Table 9-12). -/
  ref : Nat := 255
  /-- When the state was entered (09 R246). -/
  since : Nat := 0
  /-- Mean frequency of each Locked minute, newest first (09 R248). -/
  history : List Int := []
  /-- When each of those minutes ended, newest first (09 R248). -/
  minutes : List Nat := []
  /-- Holdover frequency, 10^-12 (09 R248). -/
  holdFreq : Int := 0
  /-- Phase still to pull at the entry into Acquiring, ns (09 R247). -/
  pull : Int := 0
  /-- Length of the last time Locked (09 Table 9-12). -/
  lockedFor : Nat := 0
  deriving DecidableEq, Repr

/-- Fantail, governors, OCXO and frame phase (09). -/
structure Timing where
  /-- References (09 R233). -/
  refs : Tab Ref := []
  /-- Selected reference (09 R241). -/
  selected : Option RefId := none
  /-- Stored selection command (09 R243). -/
  cmd : Nat := 0
  /-- Its reference (09 R243). -/
  cmdRef : Nat := 0
  /-- System governor (09 R246). -/
  sys : Gov := {}
  /-- Time governor (09 R246). -/
  time : Gov := {}
  /-- Pairs of references in disagreement (09 R242). -/
  disagree : List (RefId × RefId) := []
  /-- Since when two references have differed beyond the limit, plus 1; by 8a + b (09 R242). -/
  apart : Tab Nat := []
  /-- Since when they have not, plus 1 (09 R242). -/
  near : Tab Nat := []
  /-- Since when the system governor has been Locked to a reference of rank 1 (09 R250). -/
  rankOne : Option Nat := none
  /-- When the OCXO supply became good (09 R251). -/
  ocxoOn : Option Nat := none
  /-- The OCXO is warm (09 R251). -/
  warm : Bool := false
  /-- Calibration offset, 10^-12 (09 R250). -/
  calibration : Int := 0
  /-- When it was last replaced (09 R250). -/
  calibratedAt : Nat := 0
  /-- Frame phase aligned to TAI (09 R253). -/
  aligned : Bool := false
  /-- Frame phase offset, ns (5460:02) (09 R253). -/
  diff : Int := 0
  /-- Consecutive frames beyond 1,000 ns (09 R253). -/
  outRun : Nat := 0
  /-- TAI second of the pending realignment (09 R254). -/
  realignAt : Option Nat := none
  /-- Last cut, ns (09 R254). -/
  lastCut : Nat := 0
  deriving DecidableEq, Repr

/-- A trigger output (10 R271, R272). -/
structure Trig where
  /-- Armed (10 R272). -/
  armed : Bool := false
  /-- Mode 2 (10 R271). -/
  periodic : Bool := false
  /-- Next target, short time in 2^-16 ns (10 R272). -/
  target : Nat := 0
  /-- Period, 2^-16 ns (10 R271). -/
  period : Nat := 0
  /-- Width, ns (10 R271). -/
  width : Nat := 0
  /-- Pulses left, 0 endless (10 R272). -/
  left : Nat := 0
  /-- The output is high (10 R272). -/
  high : Bool := false
  /-- When it falls (10 R272). -/
  highEnd : Nat := 0
  /-- A step has overtaken its target (10 R273). -/
  overtaken : Bool := false
  /-- Short time of the last edge (10 Table 10-6). -/
  lastEdge : Nat := 0
  deriving DecidableEq, Repr

/-- A foreign master heard on the source lane (10 R261). -/
structure Foreign where
  /-- Port identity (10 R261). -/
  ident : Bytes := []
  /-- Its rank in the data set comparison, lower is better (10 R261). -/
  key : Nat := 0
  /-- Grandmaster identity (10 Table 10-6). -/
  gm : Nat := 0
  /-- clockClass (10 Table 10-6). -/
  cls : Nat := 0
  /-- stepsRemoved (10 Table 10-6). -/
  steps : Nat := 0
  /-- currentUtcOffset (10 R261). -/
  utc : Int := 0
  /-- Announce interval, log2 s (10 R265). -/
  logInt : Int := 0
  /-- When its Announce last came (10 R265). -/
  last : Nat := 0
  /-- When the one before came (10 R261). -/
  prev : Option Nat := none
  deriving DecidableEq, Repr

/-- Time of day, PTP and triggers (10). -/
structure Tod where
  /-- Time counter in 2^-16 ns (10 R258). -/
  counter : Nat := 0
  /-- Time state (10 R266). -/
  state : TimeState := .unset
  /-- Ever locked (10 R266). -/
  ever : Bool := false
  /-- TJR (10 R266). -/
  tjr : Bool := false
  /-- Permission pending: 1 step, 2 slew (10 R267). -/
  permit : Nat := 0
  /-- Samples since the permission (10 R267). -/
  permitSamples : List Int := []
  /-- A permitted slew runs (10 R267). -/
  slewing : Bool := false
  /-- Offset the slew pulls out, 2^-16 ns (10 R267). -/
  slewLeft : Int := 0
  /-- Samples of the present run, newest first (10 R265). -/
  run : List Int := []
  /-- The source has qualified (10 R265). -/
  qualified : Bool := false
  /-- Consecutive samples within the limit that the state counts (10 R266). -/
  within : Nat := 0
  /-- Consecutive outliers (10 R266). -/
  outliers : Nat := 0
  /-- Last sample, 2^-16 ns (10 Table 10-6). -/
  lastSample : Int := 0
  /-- When the last sample was formed (10 R265). -/
  lastSampleAt : Nat := 0
  /-- When 1PPS_IN last rose (10 R263). -/
  edgeAt : Option Nat := none
  /-- Time counter at that edge, compensated, less the steps made so far, 2^-16 ns (10 R263). -/
  edgeTime : Int := 0
  /-- That edge came 1 s, to 10 microseconds, after the one before (10 R263). -/
  edgeOnTime : Bool := false
  /-- A valid message has named that edge (10 R263). -/
  edgeNamed : Bool := false
  /-- Edge of the previous sample (10 R263). -/
  prevEdge : Option Nat := none
  /-- Second that sample named (10 R263). -/
  prevSecond : Nat := 0
  /-- UTC offset (10 Table 10-6). -/
  utc : Int := 0
  /-- Size of the last step, ns (10 R268). -/
  lastStep : Int := 0
  /-- Time at which it was applied (10 R268). -/
  lastStepAt : Nat := 0
  /-- Kind of the last step (10 Table 10-6). -/
  stepKind : Nat := 0
  /-- Sum of the steps, 2^-16 ns (10 R268). -/
  stepTotal : Int := 0
  /-- Path delays of the most recent delay exchanges, 2^-16 ns (10 R262). -/
  delays : List Int := []
  /-- Origin timestamp of the last Sync, 2^-16 ns (10 R262). -/
  t1 : Int := 0
  /-- Its ingress time, 2^-16 ns (10 R262). -/
  t2 : Int := 0
  /-- Its correction, 2^-16 ns (10 R262). -/
  cS : Int := 0
  /-- Sync waiting for its Follow_Up (10 R262). -/
  syncSeq : Option Nat := none
  /-- Egress time of the last Delay_Req, 2^-16 ns (10 R262). -/
  t3 : Option Int := none
  /-- Sequence of the last Delay_Req (10 R261). -/
  dreqSeq : Nat := 0
  /-- t4 - t3 - cD of the last delay exchange, 2^-16 ns (10 R262). -/
  dcorr : Int := 0
  /-- A delay exchange has been made (10 R262). -/
  dvalid : Bool := false
  /-- Foreign masters heard on the source lane (10 R261). -/
  foreign : List Foreign := []
  /-- Port identity of the selected foreign master (10 R261). -/
  master : Option Bytes := none
  /-- Sum of the steps when the t3 of the last delay exchange was taken (10 R268). -/
  reqTotal : Int := 0
  /-- Sum of the steps when the Delay_Req that waits for its Delay_Resp was sent (10 R268). -/
  sentTotal : Int := 0
  /-- Sum of the steps when t2 was taken (10 R268). -/
  syncTotal : Int := 0
  /-- t1, t2 and cS are those of a whole Sync, with its Follow_Up where it has two steps (10 R262). -/
  syncOk : Bool := false
  /-- When the module last sent a Delay_Req (10 R261). -/
  reqAt : Option Nat := none
  /-- Correction of the time governor's rate by its time input, 10^-12 (10 R266; log entry 164). -/
  rate : Int := 0
  /-- Part of a unit of the counter that the frequency has gained, in 10^-12 of 2^-16 ns (10 R258). -/
  frac : Int := 0
  /-- Residual phase that the time governor has still to correct on base 1, in 10^-12 of 2^-16 ns (09 R245). -/
  pull : Int := 0
  /-- Part of a unit that the slew has gained, in 10^-9 of 2^-16 ns (10 R267). -/
  slewFrac : Nat := 0
  /-- Trigger outputs (10 R271). -/
  trigs : Tab Trig := []
  /-- Time-counter second last seen by SECOND_BOUNDARY (12 R307). -/
  secondNo : Nat := 0
  /-- When 1PPS_OUT last rose (09 R252). -/
  ppsAt : Option Nat := none
  /-- When the pulse rose whose message is sent next (10 R264). -/
  todAt : Nat := 0
  /-- The message of that pulse is still to be sent (10 R264). -/
  todPending : Bool := false
  /-- Second nearest the counter at that rise (10 R264). -/
  todSecond : Nat := 0
  deriving DecidableEq, Repr

/-- A data key with its serial (11 R296). -/
structure KeyVal where
  /-- Key serial (11 R294). -/
  serial : Nat := 0
  /-- AES-256 key (11 R294). -/
  key : BitVec 256 := 0
  deriving DecidableEq, Repr

/-- The unwrapped key plaintext (11 Table 11-7). -/
structure KeyPlain where
  serial : Nat
  slot : Nat
  lane : Nat
  direction : Nat
  key : BitVec 256
  deriving DecidableEq, Repr

/-- A key slot (11 R279, R296). -/
structure KeySlot where
  /-- Current key (11 R296). -/
  cur : Option KeyVal := none
  /-- Pending key (11 R296). -/
  pend : Option KeyVal := none
  /-- Switch superframe (11 R296). -/
  switchAt : Nat := 0
  /-- High-water mark (flash) (11 R295). -/
  mark : Nat := 0
  deriving DecidableEq, Repr

/-- A live transmit stream (11 R285, R287). -/
structure TxStream where
  /-- It lies in the active page and is enabled (11 R281). -/
  live : Bool := false
  /-- Its first multiframe has started (11 R281). -/
  begun : Bool := false
  /-- Seal counter (11 R285). -/
  counter : Nat := 0
  /-- It has sealed under the slot's current key (11 R285). -/
  sealed : Bool := false
  /-- NEWKEY of the present interval (11 R287). -/
  newKey : Bool := false
  /-- Plaintext of the present interval so far (11 R282). -/
  text : Bytes := []
  /-- Its present interval is cut or lost a frame (11 R287). -/
  cut : Bool := false
  /-- KEYX (11 R286). -/
  keyx : Bool := false
  /-- The counter passed 2^32 - 2^20 (11 R286). -/
  near : Bool := false
  /-- An activation has removed the stream within an interval, whose record is still to be sent, empty (11 R281). -/
  last : Bool := false
  /-- Key slots that it has left: slot, serial of the current key then, and counter (11 R285). -/
  past : List (Nat × Nat × Nat) := []
  deriving DecidableEq, Repr

/-- A live receive stream (11 R288 to R292). -/
structure RxStream where
  /-- It lies in the active page and is enabled (11 R281). -/
  live : Bool := false
  /-- Its first multiframe has started (11 R281). -/
  begun : Bool := false
  /-- State (11 R292). -/
  state : RxState := .idle
  /-- Expected counter (11 R289). -/
  expected : Nat := 0
  /-- Last verified counter under the present key (11 R288). -/
  verified : Option Nat := none
  /-- Failed intervals in a run (11 R292). -/
  failRun : Nat := 0
  /-- Verified intervals in a run (11 R292). -/
  okRun : Nat := 0
  /-- SEALF (11 R292). -/
  sealf : Bool := false
  /-- KEYX (11 R286). -/
  keyx : Bool := false
  /-- Interval starts of AIS hold left, plus 1; 0 no hold; 1 due to end (11 R290). -/
  hold : Nat := 0
  /-- Interval ends left before it passes bytes again in Synced (11 R292). -/
  waitSync : Nat := 0
  /-- The record of the previous interval has come (11 R289). -/
  recordIn : Bool := false
  /-- Plaintext bytes of the present interval before this frame (11 R282). -/
  base : Nat := 0
  /-- NEWKEY due in the previous interval: 0 clear; 1 set; 2 either, in the stream's first interval (11 R289). -/
  nkPrev : Nat := 0
  /-- The same for the present interval (11 R289). -/
  nkNow : Nat := 0
  /-- The previous interval lies under the key before the switch (11 R296). -/
  oldKey : Bool := false
  /-- Last verified counter under that key (11 R288). -/
  oldVerified : Option Nat := none
  /-- That key (11 R296). -/
  oldVal : Option KeyVal := none
  /-- Expected counter of the present interval had it stayed (11 R288). -/
  oldExpected : Nat := 0
  /-- Verified intervals that hold mode releases: received multiframe, counter and key, newest first (11 R291). -/
  releases : List (Nat × Nat × KeyVal) := []
  /-- Ciphertext of the present interval so far, as received (11 R282, R288). -/
  cipher : Bytes := []
  /-- Ciphertext of the previous interval, whose record is due (11 R288). -/
  cipherPrev : Bytes := []
  /-- Key slots that it has left: slot, serial of the current key then, and last verified counter plus 1 (11 R288). -/
  past : List (Nat × Nat × Nat) := []
  /-- The frame now read from the forebay passes (11 R290). -/
  pass : Bool := false
  /-- The present interval is unverifiable for this stream (11 R289). -/
  unverNow : Bool := false
  /-- The previous interval is unverifiable (11 R289). -/
  unver : Bool := false
  deriving DecidableEq, Repr

/-- What the frame now leaving is read with, where an activation or a handover has already changed it (05 R128, 06 R174). -/
structure Ending where
  /-- Its page (05 R128). -/
  page : List Entry := []
  /-- Its circuit selectors (05 R128). -/
  sel : Tab Sel := []
  /-- Its line selectors (05 R128). -/
  lineSel : Tab Bool := []
  /-- The pairs in force in it (07 R182). -/
  pairs : Tab Pair := []
  /-- Its transmit streams (11 R281). -/
  tx : Tab TxStream := []
  deriving DecidableEq, Repr

/-- A guarded data channel (11 R302, R303). -/
structure Channel where
  /-- Key (11 R302). -/
  key : Option KeyVal := none
  /-- Next sequence (11 R303). -/
  next : Nat := 1
  /-- Last accepted sequence (11 R303). -/
  last : Nat := 0
  /-- Messages waiting to be sent (11 R302). -/
  queue : List Bytes := []
  deriving DecidableEq, Repr

/-- Keys, streams and guarded channels (11). -/
structure Sealing where
  /-- Key slots (11 R279). -/
  slots : Tab KeySlot := []
  /-- Key-wrapping key (11 R293). -/
  kwk : Option (BitVec 256) := none
  /-- Transmit streams (11 R277). -/
  tx : Tab TxStream := []
  /-- Receive streams (11 R277). -/
  rx : Tab RxStream := []
  /-- Guarded channels (11 R302). -/
  channels : Tab Channel := []
  /-- High-water mark of each channel (flash) (11 R295). -/
  chanMark : Tab Nat := []
  /-- Cause of the last erasure (11 Table 11-11). -/
  eraseCause : Nat := 0
  /-- Stamp of the last erasure (11 Table 11-11). -/
  eraseStamp : Nat := 0
  /-- The erasure alarm is raised (11 R299). -/
  eraseAlarm : Bool := false
  /-- Records that the last multiframe start put on the lanes (11 R287). -/
  records : List (LaneId × Bytes) := []
  /-- What an erasure within the present transmit frame left of the cipher: the byte already combined with a sealed slot that had gone out, plus 1, by
  lane and lane slot (11 R299). -/
  sent : Tab Nat := []
  deriving DecidableEq, Repr

/-- Raw data of a second (12 Table 12-1). -/
structure Raw where
  /-- Blocks checked, or verdicts (12 R307). -/
  blocks : Nat := 0
  /-- Errored blocks, or failed intervals (12 R307). -/
  errored : Nat := 0
  /-- Bit errors, REI sum, or failed intervals (12 R307). -/
  bits : Nat := 0
  /-- Defect seen, RDI seen, or seal defect seen (12 R307). -/
  defect : Bool := false
  /-- Slip seen (12 R307). -/
  slip : Bool := false
  /-- The entity was disabled, or its circuit in neither page, in some part (12 R308). -/
  off : Bool := false
  /-- The time state had never been Locked when it ended (12 Table 12-4). -/
  unlocked : Bool := false
  deriving DecidableEq, Repr

/-- A classified second on its way to the bins (12 R310). -/
structure Second where
  /-- Time-counter second at which it began (12 R310). -/
  start : Nat := 0
  /-- Boundary that ended it (12 R310). -/
  ended : Nat := 0
  /-- 0 not classified; 1 clean; 2 ES; 3 SES (12 R308). -/
  cls : Nat := 0
  /-- Background block errors (12 R308). -/
  bbe : Nat := 0
  /-- Errors (12 R312). -/
  bits : Nat := 0
  /-- A defect was seen in it (12 Table 12-2). -/
  defect : Bool := false
  /-- It fell in a restart (12 R319). -/
  restart : Bool := false
  /-- The time state had never been Locked when it ended (12 Table 12-4). -/
  unlocked : Bool := false
  deriving DecidableEq, Repr

/-- A bin (12 Table 12-3). -/
structure Bin where
  /-- A second has been committed to it (12 R311). -/
  used : Bool := false
  /-- Start of its span (12 R312). -/
  start : Nat := 0
  /-- Classified seconds (12 R312). -/
  elapsed : Nat := 0
  /-- ES (12 R312). -/
  es : Nat := 0
  /-- SES (12 R312). -/
  ses : Nat := 0
  /-- BBE (12 R312). -/
  bbe : Nat := 0
  /-- UAS (12 R312). -/
  uas : Nat := 0
  /-- Errors (12 R312). -/
  errors : Nat := 0
  /-- Flags (12 R312). -/
  flags : Nat := 0
  /-- Parameters that have crossed (12 R316). -/
  crossed : List Nat := []
  deriving DecidableEq, Repr

/-- A monitored entity (12). -/
structure Mon where
  /-- Raw data of the present second (12 R307). -/
  raw : Raw := {}
  /-- Raw data of the second last latched, not yet classified (12 R307). -/
  latched : Option Raw := none
  /-- Start of that second (12 R307). -/
  latchedAt : Nat := 0
  /-- Boundary that ended it (12 R307). -/
  latchedEnd : Nat := 0
  /-- Seconds classified and not yet committed, oldest first (12 R310). -/
  queue : List Second := []
  /-- Unavailable, as last committed (12 R309). -/
  unavail : Bool := false
  /-- Committed seconds at the end of a run towards the other availability (12 R309). -/
  run : Nat := 0
  /-- Class of the last committed second (12 Table 12-9). -/
  lastCls : Nat := 0
  /-- Current 15-minute bin (12 R311). -/
  q15 : Bin := {}
  /-- Current 24-hour bin (12 R311). -/
  q24 : Bin := {}
  /-- 15-minute bins closed and not yet drained, oldest first (12 R317). -/
  closed15 : List Bin := []
  /-- 24-hour bins closed and not yet drained, oldest first (12 R317). -/
  closed24 : List Bin := []
  /-- 15-minute history, newest first (12 R315). -/
  hist15 : List Bin := []
  /-- Previous 24-hour bin (12 R315). -/
  hist24 : List Bin := []
  deriving DecidableEq, Repr

/-- Performance monitoring (12). -/
structure Pm where
  /-- Near end of each lane (12 R307). -/
  near : Tab Mon := []
  /-- Far end of each lane (12 R307). -/
  far : Tab Mon := []
  /-- Receive streams (12 R307). -/
  stream : Tab Mon := []
  /-- 24-hour bin offset in force (12 Table 12-9). -/
  offset : Nat := 0
  /-- 15-minute span of the last committed second (12 Table 12-9). -/
  quarter : Nat := 0
  /-- The collector drains (12 R317). -/
  draining : Bool := false
  /-- Wheels drained (12 R317). -/
  wheels : List WheelId := []
  /-- Closing second (12 Table 12-9). -/
  closing : Nat := 0
  /-- When the drain began (12 R317). -/
  drainSince : Nat := 0
  /-- Last drain, microseconds (12 Table 12-9). -/
  lastDrain : Nat := 0
  deriving DecidableEq, Repr

/-- A cog (13 R328). -/
structure Cog where
  /-- 0 running; 1 restarting; 2 held in reset (13 Table 13-7). -/
  state : Nat := 0
  /-- Last fault (13 Table 13-7). -/
  lastFault : Nat := 0
  /-- Times of its recent faults (13 R328). -/
  faults : List Nat := []
  /-- Its faults have already restarted the supervisor (13 R328). -/
  second : Bool := false
  deriving DecidableEq, Repr

/-- A scratchpad bank (13 R338). -/
structure Bank where
  /-- 0 off; 1 retention; 2 on (13 R338). -/
  power : Nat := 0
  /-- Retired (13 R339). -/
  retired : Bool := false
  /-- Slices tested in the present pass (13 R342). -/
  tested : Nat := 0
  /-- Times the present slice has been suspended in a row (13 R342). -/
  suspended : Nat := 0
  /-- Longest DMA wait that a timeout has shown, ns (13 R337). -/
  wait : Nat := 0
  deriving DecidableEq, Repr

/-- Supervisor, matrix, memory (13). -/
structure Sup where
  /-- 0 start-up; 1 normal service; 2 test; 3 recovery (13 Table 13-7). -/
  state : Nat := 0
  /-- The supervisor serves requests (01 R16). -/
  up : Bool := false
  /-- A restart runs (01 R16). -/
  restarting : Bool := false
  /-- Severities whose alarm output was driven when it began: the outputs hold until it ends (01 Table 1-2). -/
  alm : List Nat := []
  /-- Cause of the last restart (13 Table 13-7). -/
  lastCause : Nat := 0
  /-- Stamp of the last restart, the last one taken before it (13 Table 13-7, 10 R274). -/
  lastRestart : Nat := 0
  /-- When the supervisor last started (13 Table 13-7). -/
  startedAt : Nat := 0
  /-- When the boot ROM last handed off (15 R402). -/
  handoffAt : Nat := 0
  /-- Cogs (13 R328). -/
  cogs : Tab Cog := []
  /-- Scratchpad banks (13 R338). -/
  banks : Tab Bank := []
  /-- A preserving march pass runs (13 R343). -/
  passing : Bool := false
  /-- When the last pass began (13 R343). -/
  passAt : Nat := 0
  /-- A pass fell due while one ran (13 R343). -/
  passDue : Bool := false
  /-- Bank under test (13 Table 13-7). -/
  bolterBank : Nat := 0
  /-- Slice under test (13 Table 13-7). -/
  bolterSlice : Nat := 0
  /-- Last processor access to the suspended slice (13 R342). -/
  suspendedAt : Option Nat := none
  /-- Parked master of a target, plus 1; 0 is the default master (13 R334). -/
  parked : Tab Nat := []
  /-- The record 8200:04 (13 Table 13-7). -/
  lastReset : List Nat := []
  /-- Start of the bandwidth window (13 R344). -/
  windowAt : Nat := 0
  /-- Entry of the last audit mismatch (13 R329). -/
  auditEntry : Nat := 0
  /-- Duration of the last audit pass, ms (13 R329). -/
  auditMs : Nat := 0
  /-- Map audit mismatch (13 R329). -/
  auditBad : Bool := false
  /-- Audit record of the boot of a restart, written once the firmware runs: slot in bits [15:8], result in bits [7:0] (15 R400). -/
  bootRec : Option Nat := none
  /-- A supervisor restart has occurred since the supervisor started from power-up (01 R17). -/
  again : Bool := false
  /-- Event number of the restart event of the last supervisor restart (14 R382). -/
  restartNo : Nat := 0
  deriving DecidableEq, Repr

/-- An open session (14 R353 to R355). -/
structure Session where
  /-- 1 operator; 2 installer; 3 maker (15 R388). -/
  role : Nat := 0
  /-- Certificate serial (14 R353). -/
  cert : Nat := 0
  /-- Source address of the OPEN (14 R354). -/
  addr : Nat := 0
  /-- Source port of the OPEN (14 R354). -/
  port : Nat := 0
  /-- Session key (14 R354). -/
  key : BitVec 256 := 0
  /-- Stamp at which it was opened (14 Table 14-21). -/
  opened : Nat := 0
  /-- When a message was last accepted (14 R355). -/
  lastAt : Nat := 0
  /-- Greatest sequence accepted (14 R354). -/
  recvMax : Nat := 0
  /-- Sequences accepted within 64 of it (14 R354). -/
  recvSeen : List Nat := []
  /-- Next sequence of the module (14 R354). -/
  sendSeq : Nat := 0
  deriving DecidableEq, Repr

/-- A pending handshake (14 R352). -/
structure Handshake where
  /-- Source address (14 R352). -/
  addr : Nat := 0
  /-- Source port (14 R352). -/
  port : Nat := 0
  /-- Module nonce (14 R352). -/
  nonce : BitVec 256 := 0
  /-- When the CHALLENGE was sent (14 R352). -/
  since : Nat := 0
  deriving DecidableEq, Repr

/-- A response record (14 Table 14-7). -/
structure Resp where
  /-- The request's op (14 R357). -/
  op : Nat := 0
  /-- Status (14 R357). -/
  status : Nat := 0
  /-- Tag (14 R357). -/
  tag : Nat := 0
  /-- Index (14 R357). -/
  index : Nat := 0
  /-- Subindex (14 R357). -/
  sub : Nat := 0
  /-- Detail code (14 R357). -/
  detail : Nat := 0
  /-- Element (14 R357). -/
  element : Nat := 0
  /-- Offset (14 R357). -/
  offset : Nat := 0
  /-- Detail value (14 R357). -/
  detailValue : Nat := 0
  /-- Blocking index (14 R357). -/
  blkIndex : Nat := 0
  /-- Blocking subindex (14 R357). -/
  blkSub : Nat := 0
  /-- Blocking element (14 R357). -/
  blkElement : Nat := 0
  /-- Value bytes (14 R357). -/
  value : Bytes := []
  deriving DecidableEq, Repr

/-- A response kept for retransmission (14 R358). -/
structure Kept where
  /-- Session (14 R358). -/
  session : Nat := 0
  /-- Op of the request (14 R358). -/
  op : Nat := 0
  /-- The request (14 R358). -/
  req : Req := ⟨0,0,0,0,0,0,0,0,0,0,[]⟩
  /-- The response (14 R358). -/
  resp : Resp := {}
  /-- When it was sent (14 R358). -/
  since : Nat := 0
  deriving DecidableEq, Repr

/-- A request in flight past its own command (14 R358). -/
structure Flight where
  /-- Session (14 R358). -/
  session : Nat := 0
  /-- Op (14 R358). -/
  op : Nat := 0
  /-- The request (14 R358). -/
  req : Req := ⟨0,0,0,0,0,0,0,0,0,0,[]⟩
  /-- When it was accepted (14 R359). -/
  since : Nat := 0
  deriving DecidableEq, Repr

/-- A DOMAIN snapshot (14 R368). -/
structure Snapshot where
  /-- Session (14 R368). -/
  session : Nat := 0
  /-- Index (14 R368). -/
  index : Nat := 0
  /-- Subindex (14 R368). -/
  sub : Nat := 0
  /-- Element (14 R368). -/
  element : Nat := 0
  /-- Its bytes (14 R368). -/
  data : Bytes := []
  /-- When it was last read (14 R368). -/
  readAt : Nat := 0
  deriving DecidableEq, Repr

/-- An open DOMAIN transfer (14 R369). -/
structure Transfer where
  /-- Session (14 R369). -/
  session : Nat := 0
  /-- Index (14 R369). -/
  index : Nat := 0
  /-- Subindex (14 R369). -/
  sub : Nat := 0
  /-- Element (14 R369). -/
  element : Nat := 0
  /-- Declared total (14 R369). -/
  total : Nat := 0
  /-- Staged segments, by offset (14 R369). -/
  segs : List (Nat × Bytes) := []
  /-- When its last segment came (14 R369). -/
  lastAt : Nat := 0
  deriving DecidableEq, Repr

/-- Messages answered to one source in the present second (14 R351, R354). -/
structure Rate where
  /-- Source address (14 R351). -/
  addr : Nat := 0
  /-- Second of the clock (14 R351). -/
  second : Nat := 0
  /-- IDENTITY messages answered (14 R351). -/
  identity : Nat := 0
  /-- REJECTs of unknown sessions sent (14 R354). -/
  rejects : Nat := 0
  deriving DecidableEq, Repr

/-- Jobs, bytes and integrity failures of a byte-serial cipher engine (11 Table 11-12). -/
structure CipherWork where
  /-- Jobs (11 Table 11-12). -/
  jobs : Ctr := {}
  /-- Bytes, modulo 2^64 (11 Table 11-12). -/
  bytes : Nat := 0
  /-- Integrity failures (11 Table 11-12). -/
  fails : Ctr := {}
  deriving DecidableEq, Repr

/-- Management: switch, sessions, requests (14). -/
structure Mgmt where
  /-- Learned MAC address, its port, and when it was last seen (14 R346). -/
  macs : List (Nat × Nat × Nat) := []
  /-- Link state of MGT0 and MGT1 (14 R346). -/
  link : List Bool := [false, false]
  /-- The ring master has opened MGT1 (14 R347). -/
  ringOpen : Bool := false
  /-- When a check frame last arrived (14 R347). -/
  checkAt : Nat := 0
  /-- Start of the run of check frames without a gap (14 R347). -/
  checkFrom : Nat := 0
  /-- When a check frame was last sent (14 R347). -/
  checkSent : Nat := 0
  /-- Pending handshakes, by session identifier (14 R352). -/
  handshakes : Tab Handshake := []
  /-- Open sessions, by identifier (14 R353). -/
  sessions : Tab Session := []
  /-- Highest identifier that a session has opened with (14 R355). -/
  opens : Nat := 0
  /-- Requests in flight (14 R358). -/
  flight : List Flight := []
  /-- Responses kept (14 R358). -/
  kept : List Kept := []
  /-- DOMAIN snapshots held (14 R368). -/
  snapshots : List Snapshot := []
  /-- DOMAIN transfers open (14 R369). -/
  transfers : List Transfer := []
  /-- Rate limits by source (14 R351). -/
  rates : List Rate := []
  /-- Work of cipher engine 0 (11 Table 11-12). -/
  cipher0 : CipherWork := {}
  /-- Work of cipher engine 1 (11 Table 11-12). -/
  cipher1 : CipherWork := {}
  /-- The next job goes to engine 1 (log entry 178). -/
  cipherNext : Bool := false
  deriving DecidableEq, Repr

/-- A HOPPER_WRITE held under hold producer (14 R379). -/
structure Held where
  /-- Session (14 R379). -/
  session : Nat := 0
  /-- Tag (14 R379). -/
  tag : Nat := 0
  /-- The request (14 R379). -/
  req : Req := ⟨0,0,0,0,0,0,0,0,0,0,[]⟩
  /-- Its expected producer index (14 R379). -/
  offset : Nat := 0
  /-- Its entries (14 R379). -/
  entries : List Bytes := []
  /-- When it arrived (14 R379). -/
  since : Nat := 0
  deriving DecidableEq, Repr

/-- A hopper (14 R375). -/
structure Hopper where
  /-- Entries from C to P, oldest first; true marks the first of a unit (14 R375). -/
  entries : List (Bool × Bytes) := []
  /-- Producer index P (14 R375). -/
  p : Nat := 0
  /-- Owner session, 0 none (14 R377). -/
  owner : Nat := 0
  /-- Highest fill (14 Table 14-20). -/
  highest : Nat := 0
  /-- Units in the overflow queue (14 R379). -/
  overflow : List (List Bytes) := []
  /-- HOPPER_WRITEs held (14 R379). -/
  held : List Held := []
  /-- A NOTIFY was sent and the fill has not fallen below half the watermark (14 R380). -/
  quiet : Bool := false
  /-- It has been subscribed since the last supervisor restart (14 R377). -/
  greeted : Bool := false
  deriving DecidableEq, Repr

/-- A raised alarm (14 R383). -/
structure Alarm where
  /-- The condition, of those that FAILURE_RAISED reports (14 R383). -/
  cond : Option AlarmCond := none
  /-- Alarm number (14 R383). -/
  number : Nat := 0
  /-- 1 minor; 2 major; 3 critical (14 R383). -/
  severity : Nat := 0
  /-- Acknowledged (14 R384). -/
  acked : Bool := false
  /-- Object named (14 R383). -/
  index : Nat := 0
  /-- Its subindex (14 R383). -/
  sub : Nat := 0
  /-- Condition (14 R383). -/
  bit : Nat := 0
  /-- Its element (14 R383). -/
  element : Nat := 0
  /-- Stamp at which it was raised (14 R383). -/
  raised : Nat := 0
  /-- Slot of the alarm table (14 R383). -/
  slot : Option Nat := none
  deriving DecidableEq, Repr

/-- The presence of an alarm condition (04 R110). -/
structure Cond where
  /-- The condition (04 R110). -/
  cond : AlarmCond := .noHolder
  /-- Present (04 R110). -/
  present : Bool := false
  /-- Since when it has been so (04 R110). -/
  since : Nat := 0
  /-- Raised as a failure (04 R110). -/
  failed : Bool := false
  deriving DecidableEq, Repr

/-- Hoppers, events and alarms (14). -/
structure Store where
  /-- Hoppers (14 R374). -/
  hoppers : Tab Hopper := []
  /-- Next event number (14 R382). -/
  nextEvent : Nat := 1
  /-- Next alarm number (14 R383). -/
  nextAlarm : Nat := 1
  /-- Raised alarms (14 R383). -/
  alarms : List Alarm := []
  /-- Alarm conditions and their times (04 R110). -/
  conds : List Cond := []
  deriving DecidableEq, Repr

/-- A dictionary copy in flash (16 R424). -/
structure DictCopy where
  /-- Its descriptor is present, and the digest in it matches the content (16 R424). -/
  valid : Bool := false
  /-- Sequence of its descriptor (16 R424). -/
  seq : Nat := 0
  /-- Content length of its descriptor (16 R424). -/
  length : Nat := 0
  /-- SHA-256 digest of its descriptor (16 R424). -/
  digest : Bytes := []
  /-- Values that differ from their defaults (14 R371). -/
  values : Tab (List Nat) := []
  deriving DecidableEq, Repr

/-- Settings, staging and flash (14 R370, 16). -/
structure Persist where
  /-- Values of RW and RWP objects that differ from their defaults (14 R370). -/
  dict : Tab (List Nat) := []
  /-- Staged objects and elements (14 R370). -/
  staged : List Nat := []
  /-- A commit runs (14 R371). -/
  committing : Bool := false
  /-- Values captured by the commit (14 R371). -/
  capture : Tab (List Nat) := []
  /-- Staged elements that the commit captured (14 R371). -/
  captureKeys : List Nat := []
  /-- Stamp of the last commit (14 Table 14-21). -/
  lastCommit : Nat := 0
  /-- Result of the last commit (14 Table 14-21). -/
  lastResult : Nat := 0
  /-- Dictionary copy 0 (16 R422). -/
  copy0 : DictCopy := {}
  /-- Dictionary copy 1 (16 R422). -/
  copy1 : DictCopy := {}
  /-- Map checkpoint 0 (16 R422). -/
  map0 : Image := {}
  /-- Map checkpoint 1 (16 R422). -/
  map1 : Image := {}
  /-- Area that a map checkpoint is writing (16 R426). -/
  mapWriting : Option Nat := none
  /-- The image it is programming (16 R426). -/
  mapImage : Image := {}
  /-- When the last map checkpoint started (16 R426). -/
  mapAt : Nat := 0
  /-- Since when a checkpoint has been due (16 R426). -/
  mapDueAt : Option Nat := none
  /-- Areas 8 to 11 are erased ahead (16 R425). -/
  erased : List Bool := [true,true,true,true]
  /-- When the erase of areas 8 to 11 that runs began (16 R425). -/
  eraseAt : List (Option Nat) := [none,none,none,none]
  /-- Erase budget of areas 8 to 11 (16 R427). -/
  budget : List Nat := [24,24,24,24]
  /-- When the budgets last gained a unit (16 R427). -/
  budgetAt : Nat := 0
  /-- Highest sector erase count, by area (16 R427). -/
  erases : Tab Nat := []
  /-- Areas left invalid (16 Table 16-10). -/
  badArea : List Nat := []
  /-- The last start-up follows a restoration of defaults (16 R429). -/
  restored : Bool := false
  /-- Records of 16 bytes for which the key-mark log has erased space (16 R428). -/
  markFree : Nat := 8192
  /-- Writes to the enrolment area verify (15 R391). -/
  enrolOk : Bool := true
  /-- Writes to the key-mark area verify (11 R295). -/
  markOk : Bool := true
  /-- Dictionary copy taken at the last start-up (16 Table 16-10). -/
  copyTaken : Nat := 255
  /-- Checkpoint area taken at the last start-up (16 Table 16-10). -/
  mapTaken : Nat := 255
  /-- Header copy taken at the last start-up (16 Table 16-10). -/
  headerTaken : Nat := 0
  deriving DecidableEq, Repr

/-- An enrolled certificate (15 R390). -/
structure Cert where
  /-- Serial (15 R390). -/
  serial : Nat := 0
  /-- Role (15 R390). -/
  role : Nat := 0
  /-- Label (15 R390). -/
  label : Bytes := []
  /-- Modulus (15 R390). -/
  modulus : Bytes := []
  /-- Public exponent (15 R390). -/
  exponent : Nat := 0
  /-- Stamp at which it was enrolled (15 Table 15-11). -/
  since : Nat := 0
  deriving DecidableEq, Repr

/-- An audit record (15 Table 15-3), less its chain, which is a function of the records. -/
structure AuditRec where
  /-- Sequence (15 R394). -/
  seq : Nat := 0
  /-- Stamp (15 R394). -/
  stamp : Nat := 0
  /-- Kind (15 R394). -/
  kind : Nat := 0
  /-- Role (15 R394). -/
  role : Nat := 0
  /-- Session (15 R394). -/
  session : Nat := 0
  /-- Certificate serial (15 R394). -/
  cert : Nat := 0
  /-- Index (15 R394). -/
  index : Nat := 0
  /-- Subindex (15 R394). -/
  sub : Nat := 0
  /-- Status (15 R394). -/
  status : Nat := 0
  /-- Element (15 R394). -/
  element : Nat := 0
  /-- Value before the change, whole (15 R394). -/
  oldVal : Bytes := []
  /-- Value written, whole (15 R394). -/
  newVal : Bytes := []
  /-- Length of the value written (15 R394). -/
  length : Nat := 0
  /-- Values withheld (15 R395). -/
  withheld : Bool := false
  /-- Detail value (15 R394). -/
  detail : Nat := 0
  deriving DecidableEq, Repr

/-- An image slot (15 Table 15-10). -/
structure Slot where
  /-- 0 empty; 1 valid; 2 invalid; 3 writing (15 R401). -/
  state : Nat := 0
  /-- Version (15 R398). -/
  version : Nat := 0
  /-- Security version (15 R398). -/
  secVersion : Nat := 0
  /-- Length (15 R398). -/
  length : Nat := 0
  /-- Header (15 R398). -/
  header : Bytes := []
  /-- When the erase of its next sector began (15 R401). -/
  erasing : Option Nat := none
  /-- Sectors erased for the image that is written, from the first (15 R401). -/
  erased : Nat := 0
  /-- Sectors that image needs (15 R401). -/
  need : Nat := 0
  /-- Encrypted payload (15 R398). -/
  payload : Bytes := []
  deriving DecidableEq, Repr

/-- The flash header in force (16 Table 16-6). -/
structure Header where
  /-- Sequence (16 R423). -/
  seq : Nat := 0
  /-- Copy that holds it (16 R423). -/
  copy : Nat := 0
  /-- Preferred slot (15 R400). -/
  preferred : Nat := 0
  /-- Trial pending in A (15 R400). -/
  pendA : Bool := false
  /-- Trial pending in B (15 R400). -/
  pendB : Bool := false
  /-- Trial count of A (15 R400). -/
  countA : Nat := 0
  /-- Trial count of B (15 R400). -/
  countB : Nat := 0
  deriving DecidableEq, Repr

/-- An attestation report asked for by a session (15 R405). -/
structure Attest where
  /-- Nonce (15 R405). -/
  nonce : Bytes := []
  /-- When it was written (15 R405). -/
  since : Nat := 0
  /-- The report (15 R405). -/
  report : Option Bytes := none
  deriving DecidableEq, Repr

/-- Certificates, audit, images, tamper (15). -/
structure Security where
  /-- Enrolled certificates (15 R393). -/
  certs : List Cert := [⟨1, 3, [], [], 65537, 0⟩]
  /-- Enrolment high-water mark (flash) (15 R391). -/
  mark : Nat := 1
  /-- Audit journal in flash, newest first (15 R394). -/
  audit : List AuditRec := []
  /-- Chain of the oldest record in flash; empty stands for the zeros of record 1 (15 Table 15-3). -/
  auditChain : Bytes := []
  /-- Audit records not yet in flash, newest first (15 R396). -/
  buffer : List AuditRec := []
  /-- The last write of the journal to flash failed (15 R396). -/
  flushBad : Bool := false
  /-- When the oldest of them was buffered (15 R396). -/
  bufferAt : Nat := 0
  /-- Next audit sequence (15 R394). -/
  nextSeq : Nat := 1
  /-- Highest sequence marked as read (15 R397). -/
  readTo : Nat := 0
  /-- Tamper latched (15 R407). -/
  latched : Bool := false
  /-- The internal tamper loop is open (15 R406). -/
  loopOpen : Bool := false
  /-- TAMPER_N is low (15 R406). -/
  pinLow : Bool := false
  /-- A temperature condition is present (15 R406). -/
  hot : Bool := false
  /-- Rails outside their window (15 R406). -/
  volt : List Rail := []
  /-- Failed-authentication count (15 R408). -/
  authCount : Nat := 0
  /-- When the count last fell or began (15 R408). -/
  authAt : Nat := 0
  /-- Image slot A (15 R401). -/
  slotA : Slot := { state := 1, version := 1, length := 513, payload := [0] }
  /-- Image slot B (15 R401). -/
  slotB : Slot := {}
  /-- Running slot, 0xFF recovery (15 R400). -/
  running : Nat := 0
  /-- Security version floor (15 R402). -/
  floor : Nat := 0
  /-- Flash header in force (16 R423). -/
  header : Header := {}
  /-- Bytes of header copy 0 (16 Table 16-6). -/
  hdr0 : Bytes := headerBytes 0 0 0 0 0
  /-- Bytes of header copy 1 (16 Table 16-6). -/
  hdr1 : Bytes := List.replicate 64 0xFF
  /-- Boot measurement 3: the dictionary copy restored at start-up (15 R399). -/
  measured : Tab (List Nat) := []
  /-- Attestation reports, by session (15 R405). -/
  reports : Tab Attest := []
  deriving DecidableEq, Repr

/-- Feeds, presence, reset, start-up (16). -/
structure Power where
  /-- Voltage of feed A and feed B, 10 mV (16 Table 16-10). -/
  volts : List Nat := [0, 0]
  /-- Feed valid (16 R410). -/
  valid : List Bool := [false, false]
  /-- Feed in use (16 Table 16-10). -/
  inUse : Nat := 0
  /-- KEEP present (16 R410). -/
  keep : Bool := false
  /-- Hot-swap switch opened by a trip (16 R411). -/
  hsOpen : List Bool := [false, false]
  /-- Times of the trips of each switch (16 R411). -/
  trips : List (List Nat) := [[], []]
  /-- Switch stays open after three trips (16 R411). -/
  locked : List Bool := [false, false]
  /-- When each feed became invalid (16 R411). -/
  invalidAt : List Nat := [0, 0]
  /-- Hold-up store charged (16 R412). -/
  holdUp : Bool := false
  /-- When the last start-up began (16 R418). -/
  startAt : Nat := 0
  /-- Level of PRESENT_1 and PRESENT_2; true is high (16 R414). -/
  present : List Bool := [true, true]
  /-- Seated (16 R414). -/
  seated : Bool := false
  /-- Level of RESET_N (16 R415). -/
  resetN : Bool := true
  /-- An internal reset runs (16 R415). -/
  internal : Bool := false
  /-- When it began (16 R415). -/
  internalAt : Nat := 0
  /-- A thermal reset is held (17 R448). -/
  thermal : Bool := false
  /-- Supervisor rail up (16 R410). -/
  supRail : Bool := false
  /-- Port rail up and port die running (01 R18). -/
  portRail : Bool := false
  /-- Port die fault (01 R18). -/
  portFault : Bool := false
  /-- Cause of the last start-up (16 Table 16-10). -/
  cause : Nat := 0
  /-- Start-up step, 9 complete (16 Table 16-10). -/
  step : Nat := 1
  /-- Time to traffic, ms (16 Table 16-10). -/
  toTraffic : Nat := 0
  /-- Circuits removed by the last reconciliation (16 R421). -/
  removed : List Nat := []
  /-- Power-fail is in force (16 R430). -/
  fail : Bool := false
  /-- Temperatures (16 Table 16-10). -/
  temps : Temps := ⟨0,0,0,0,0,0⟩
  /-- When start-up may be tried again, after an internal reset (16 R418). -/
  retryAt : Option Nat := none
  /-- Feature bit 0: circuit sealing present (IDZ48-M1); which code the module has at reset is the model's choice (00 R1, log entry 14). -/
  ordering : Bool := true
  deriving DecidableEq, Repr


/-- What the module sends, as one command leaves it. -/
inductive Output where
  /-- A response in a SECURE message (14 R357). -/
  | response (session : Nat) (r : Resp)
  /-- A REJECT message (14 Table 14-2). -/
  | reject (session status detail : Nat)
  /-- A CHALLENGE (14 R352). -/
  | challenge (session : Nat) (body : Bytes)
  /-- An OPENED record (14 R353). -/
  | opened (session role idle requests : Nat)
  /-- An IDENTITY REPLY (14 R351). -/
  | identityReply (r : Resp)
  /-- The SECURE message that a record leaves in: its header, the record enciphered, and the tag (14 R354). -/
  | secure (session sequence : Nat) (message : Bytes)
  /-- A NOTIFY record (14 R380). -/
  | notify (session hopper fill : Nat)
  /-- The one-byte answer on UART_DBG (15 R393). -/
  | uart (status : Nat)
  /-- A frame out of a switch port: 0 MGT0, 1 MGT1, 2 supervisor (14 R346). -/
  | frame (port : Nat) (f : EthFrame)
  /-- A ring check frame, or a flush frame, out of a port (14 R347). -/
  | ringCheck (port : Nat)
  | flush (port : Nat)
  /-- A datagram given to the module itself, or sent to the management side, through the gateway or not (14 R349). -/
  | handled (d : Bytes)
  | toManagement (d : Bytes) (viaGateway : Bool)
  /-- A transmit frame that starts on a lane: its FAB, and its section overhead SO0 to SO19 (02 R36, R44). -/
  | frameStart (l : LaneId) (fab so : Bytes)
  /-- The payload of the transmit frame that has just ended, by lane slot, as sealed (02 R62, 11 R284). -/
  | payload (l : LaneId) (bytes : Bytes)
  /-- The blocks of that frame as they crossed the pin: sync header, and scrambled payload (02 R26 to R34). -/
  | blocks (l : LaneId) (bs : List (BitVec 2 × BitVec 64))
  /-- A training frame that begins, UI by UI (03 R71, R72). -/
  | trainingFrame (l : LaneId) (ui : List Bool)
  /-- The seal records of a lane's transmit multiframe that starts, in order of position (02 R59). -/
  | records (l : LaneId) (bytes : List Bytes)
  /-- A rise of 1PPS_OUT, and one of FP8K (09 R252). -/
  | ppsOut
  | fp8k
  /-- A time-channel or data-channel packet given to a lane's transmitter (02 R52). -/
  | packet (l : LaneId) (c : Chan) (bytes : Bytes)
  /-- A ToD_OUT message (10 R264). -/
  | tod (bytes : Bytes)
  /-- A PROT_TRIG pulse for a lane (07 R208). -/
  | protTrig (l : LaneId)
  /-- A rising edge of a trigger output, and its fall (10 R272). -/
  | trigRise (t : TrigId)
  | trigFall (t : TrigId)
  /-- An answering training message: status byte, answered sequence (03 R75). -/
  | training (l : LaneId) (status answered : Nat)
  /-- A lease message from the sluice: accepted or refused, with epoch and holder (08 R213). -/
  | lease (engine : EngId) (granted : Bool) (epoch : Nat) (holder : Option EngId)
  deriving DecidableEq, Repr


/-- The module. -/
structure State where
  /-- Commands waiting, first in first out ((the block's queue)). -/
  pending : List Instr := []
  /-- The model's clock, ns ((the model's own)). -/
  now : Nat := 0
  /-- Count of free values used ((the model's own)). -/
  fresh : Nat := 0
  /-- What the last command sent, in order ((the model's own)). -/
  out : List Output := []
  /-- Power and start-up (16). -/
  power : Power := {}
  /-- Supervisor (13). -/
  sup : Sup := {}
  /-- Management (14). -/
  mgmt : Mgmt := {}
  /-- Hoppers and alarms (14). -/
  store : Store := {}
  /-- Settings and flash (14, 16). -/
  persist : Persist := {}
  /-- Counters, by object, field and element (12 R320). -/
  cnt : Tab Ctr := []
  /-- Restarted bit of counter groups (12 R321). -/
  restarted : Tab Bool := []
  /-- Lanes (03, 04). -/
  lanes : Tab Lane := []
  /-- Ports (03). -/
  ports : Tab Port := []
  /-- Fabric (05, 06). -/
  fab : Fabric := {}
  /-- Edits and activation (06). -/
  edit : Edit := {}
  /-- Protection (07). -/
  prot : Protection := {}
  /-- What the frame now leaving is still read with (05, 06). -/
  ending : Option Ending := none
  /-- Engine A (08). -/
  engA : Engine := {}
  /-- Engine B (08). -/
  engB : Engine := {}
  /-- Lease and tally (08). -/
  lease : Lease := {}
  /-- Timing (09). -/
  tim : Timing := {}
  /-- Time of day (10). -/
  tod : Tod := {}
  /-- Sealing (11). -/
  sealing : Sealing := {}
  /-- Performance monitoring (12). -/
  pm : Pm := {}
  /-- Security (15). -/
  sec : Security := {}
  deriving DecidableEq, Repr


/-- Why the machine stops with a fault. No command of a well-formed queue reaches one; the type is kept closed and small.
Safe: a stop proves nothing false. -/
inductive Fault where
  /-- Raised by no meaning of this model. Safe. -/
  | none
  deriving DecidableEq, Repr

/-- Why the machine refuses a command. -/
inductive Refusal where
  /-- A row of the table that has no meaning yet, by its mnemonic: raised by exec's own arms only. Safe. -/
  | notModelled (mnemonic : String)
  deriving DecidableEq, Repr

/-- The module right after reset: unpowered and out of its shelf, as it is delivered, with every volatile state lost (16 R415, R418). -/
def State.reset : State := {}

end Sys2Proof.Machine
end

