-- ==== Sys2Proof/Machine/Table.lean ====
section
/-! DEFINITION. Reading and writing the sparse tables that State holds, and their canonical form. -/

namespace Sys2Proof.Machine

variable {α : Type}

/-- The entry at a key; an unlisted key reads as the given value. -/
def tget (d : α) : Tab α → Nat → α
  | [], _ => d
  | (k, v) :: t, n => if n = k then v else tget d t n

/-- The table without its entry at a key. -/
def tdel : Tab α → Nat → Tab α
  | [], _ => []
  | (k, v) :: t, n => if n = k then tdel t n else (k, v) :: tdel t n

/-- The table with an entry put in its place of the order. -/
def tins : Tab α → Nat → α → Tab α
  | [], n, a => [(n, a)]
  | (k, v) :: t, n, a =>
    if n < k then (n, a) :: (k, v) :: t
    else if n = k then (n, a) :: t
    else (k, v) :: tins t n a

/-- Write one entry: a value equal to what an unlisted key reads as removes it. -/
def tput [DecidableEq α] (d : α) (t : Tab α) (n : Nat) (a : α) : Tab α :=
  if a = d then tdel t n else tins t n a

/-- Change one entry. -/
def tmod [DecidableEq α] (d : α) (t : Tab α) (n : Nat) (f : α → α) : Tab α :=
  tput d t n (f (tget d t n))

/-- Change every listed entry, dropping those that become what an unlisted key reads as. -/
def tmap [DecidableEq α] (d : α) (t : Tab α) (f : Nat → α → α) : Tab α :=
  (t.map fun e => (e.1, f e.1 e.2)).filter fun e => decide (e.2 ≠ d)

/-- Every key of a table lies above a bound. -/
def tabove (t : Tab α) (n : Nat) : Prop := ∀ e ∈ t, n < e.1

/-- The canonical form: keys strictly rising, no entry equal to what an unlisted key reads as. -/
def twf (d : α) (t : Tab α) : Prop := t.Pairwise (fun a b => a.1 < b.1) ∧ ∀ e ∈ t, e.2 ≠ d

/-- Write the keys from a first one on. -/
def tputs [DecidableEq α] (d : α) (t : Tab α) (n : Nat) : List α → Tab α
  | [] => t
  | a :: as => tputs d (tput d t n a) (n + 1) as

end Sys2Proof.Machine
end

