-- ==== Sys2Proof/Machine/Ops.lean ====
section
/-! DEFINITION. The named operations over the state: registers, settings, counters, hoppers, events, alarms, audit, sessions. -/

namespace Sys2Proof.Machine

/-- What a command answers. -/
abbrev Out := Host.Outcome State Fault Refusal

/-- The state with nothing sent yet (log entry 2). -/
def State.quiet (s : State) : State := { s with out := [] }

/-- What no command touches: the queue, the clock (log entry 1), and the ordering code and feature word set at manufacture (00 R1). -/
def State.fixed (s t : State) : State :=
  { t with pending := s.pending, now := s.now, power.ordering := s.power.ordering }

/-- A command runs to its next state: `out` holds what this command sends. -/
def run (f : State → State) (s : State) : Out := .next (s.fixed (f s.quiet))

/-- Send one thing. -/
def State.emit (s : State) (o : Output) : State := { s with out := s.out ++ [o] }

/-- Send several things. -/
def State.emits (s : State) (os : List Output) : State := { s with out := s.out ++ os }

/-- Apply a function for each item, in order. -/
def State.each {α : Type} (s : State) (l : List α) (f : α → State → State) : State := l.foldl (fun s a => f a s) s

/-- Do something only where a condition holds. -/
def State.when (s : State) (b : Bool) (f : State → State) : State := if b then f s else s

/-- One value that the spec leaves open, and the state in which the next one is another (log entry 6). -/
def State.free (s : State) : Nat × State := (Config.freeValue s.fresh, { s with fresh := s.fresh + 1 })

/-- A duration that began at `start` is over (log entry 3). -/
def State.over (s : State) (start dur : Nat) : Bool := decide (start + dur ≤ s.now)

/-- A longest-time figure below n: it never falls while free values are drawn (log entry 6). -/
def State.longest (s : State) (i n : Nat) : Nat := ((List.range (s.fresh + 1)).map fun k => Config.longest i k % n).foldl max 0

/-- The cog of a number runs (13 R328). -/
def State.cogServes (s : State) (c : Nat) : Bool := (tget {} s.sup.cogs c).state == 0

/-! Lanes and ports. -/

/-- A lane. -/
def State.lane (s : State) (l : Nat) : Lane := tget {} s.lanes l

/-- Write a lane. -/
def State.setLane (s : State) (l : Nat) (x : Lane) : State := { s with lanes := tput {} s.lanes l x }

/-- Change a lane. -/
def State.modLane (s : State) (l : Nat) (f : Lane → Lane) : State := s.setLane l (f (s.lane l))

/-- A port's own state, by its first lane. -/
def State.port (s : State) (p : Nat) : Port := tget {} s.ports p

/-- Change a port's own state. -/
def State.modPort (s : State) (p : Nat) (f : Port → Port) : State := { s with ports := tmod {} s.ports p f }

/-- An engine. -/
def State.engine (s : State) (e : EngId) : Engine := if e = 0 then s.engA else s.engB

/-- Change an engine. -/
def State.modEngine (s : State) (e : EngId) (f : Engine → Engine) : State :=
  if e = 0 then { s with engA := f s.engA } else { s with engB := f s.engB }

/-- The other engine. -/
def otherEng (e : EngId) : EngId := if e = 0 then 1 else 0

/-! Settings (14 R370, R373). -/

/-- The key of an object's element in the tables of settings and staging. -/
def objKey (index sub el : Nat) : Nat := (index * 256 + sub) * 4294967296 + el

/-- The SSM option in force: 1 or 2 (09 R235). -/
def ssmOption (d : Tab (List Nat)) : Nat :=
  match tget [] d (objKey 0x5400 1 0) with
  | [] => 1
  | v :: _ => v

/-- The default value of an object's element (14 R373, and the object's table). -/
def objDefault (opt index sub el : Nat) : List Nat :=
  if index = 0x2800 ∧ sub = 2 then [el]
  else if index = 0x5400 ∧ sub = 7 then [if opt = 2 then 0x0D else 0x08]
  else if index = 0x5410 ∧ sub = 1 then [if el = 0 then 2 else 1]
  else if index = 0x5410 ∧ sub = 2 then [if el = 0 then 4 else 3]
  else if index = 0x5420 ∧ sub = 3 then [if el < 2 then 4 else 0]
  else if index = 0x5420 ∧ sub = 5 then [if el < 2 then 1 else 0]
  else if index = 0x5420 ∧ sub = 6 then [if opt = 2 then 0x01 else 0x02]
  else if index = 0x5470 ∧ sub = 2 then [if opt = 2 then 0x0C else 0x0B]
  else match findObj index sub with
    | some o => o.dflt
    | none => []

/-- The fields of a setting in a table of values. -/
def dictVal (d : Tab (List Nat)) (index sub el : Nat) : List Nat :=
  match tget [] d (objKey index sub el) with
  | [] => objDefault (ssmOption d) index sub el
  | v => v

/-- The fields of a setting. -/
def State.val (s : State) (index sub el : Nat) : List Nat := dictVal s.persist.dict index sub el

/-- The first field of a setting. -/
def State.cfg (s : State) (index sub el : Nat) : Nat := (s.val index sub el).headD 0

/-- The i-th field of a setting, from 0. -/
def State.cfgF (s : State) (index sub el i : Nat) : Nat := (s.val index sub el).getD i 0

/-- Write the fields of a setting; a default value is not listed. -/
def State.setVal (s : State) (index sub el : Nat) (v : List Nat) : State :=
  let d := s.persist.dict
  let v' := if v = objDefault (ssmOption d) index sub el then [] else v
  { s with persist.dict := tput [] d (objKey index sub el) v' }

/-- Put a key into a rising list of keys. -/
def insKey (k : Nat) : List Nat → List Nat
  | [] => [k]
  | x :: xs => if k < x then k :: x :: xs else if k = x then x :: xs else x :: insKey k xs

/-- Mark an object and element as staged (14 R370). -/
def State.stage (s : State) (index sub el : Nat) : State :=
  { s with persist.staged := insKey (objKey index sub el) s.persist.staged }

/-! Counters (12 R320 to R323). -/

/-- The key of a counter: object, field (0 the value itself), element. -/
def ctrKey (index sub fld el : Nat) : Nat := ((index * 256 + sub) * 64 + fld) * 4294967296 + el

/-- A counter advances by n modulo 2^32; a wrap sets its carry. -/
def Ctr.add (c : Ctr) (n : Nat) : Ctr :=
  { val := c.val + BitVec.ofNat 32 n, carry := c.carry || decide (4294967296 ≤ c.val.toNat + n % 4294967296) }

/-- Advance a counter. -/
def State.countN (s : State) (index sub fld el n : Nat) : State :=
  { s with cnt := tmod {} s.cnt (ctrKey index sub fld el) (·.add n) }

/-- Advance a counter by one. -/
def State.count (s : State) (index sub fld el : Nat) : State := s.countN index sub fld el 1

/-- The value of a counter. -/
def State.ctr (s : State) (index sub fld el : Nat) : Nat := (tget {} s.cnt (ctrKey index sub fld el)).val.toNat

/-- The counters of an index, as subindex and field (12 R321). -/
def groupOf (index : Nat) : List (Nat × Nat) :=
  (objsOfIndex index).flatMap fun o => o.ctrs.map fun f => (o.sub, f)

/-- Zero every counter and carry of a group, and its Restarted bit (12 R323). -/
def State.clearGroup (s : State) (index el : Nat) : State :=
  { s with
    cnt := (groupOf index).foldl (fun c g => tput {} c (ctrKey index g.1 g.2 el) {}) s.cnt
    restarted := tput false s.restarted (objKey index 0 el) false }

/-- A group returns to 0 by a restart of the block that holds it: Restarted sets (12 Table 12-8). -/
def State.restartGroup (s : State) (index el : Nat) : State :=
  let s := s.clearGroup index el
  { s with restarted := tput false s.restarted (objKey index 0 el) true }

/-- The group status word of an index and element (12 Table 12-8); Disturbed is never set (log entry 12). -/
def State.groupStatus (s : State) (index el : Nat) : Nat :=
  let carries := (groupOf index).filterMap fun g =>
    let i := if g.2 = 0 then g.1 else g.2
    if (tget {} s.cnt (ctrKey index g.1 g.2 el)).carry && decide (1 ≤ i ∧ i ≤ 13) then some i else none
  let word := (List.range 14).foldl (fun w i => w + (if carries.contains i then 2 ^ i else 0)) 0
  word + (if tget false s.restarted (objKey index 0 el) then 32768 else 0)

/-! Time stamps (10 R258, R259). -/

/-- One second of the time counter in 2^-16 ns. -/
def tcSecond : Nat := 65536 * 1000000000

/-- A counter value in 2^-16 ns as TIME80: seconds in 48 bits, then nanoseconds in 32. -/
def time80 (c : Nat) : Nat := c / tcSecond % 281474976710656 * 4294967296 + c % tcSecond / 65536

/-- A TIME80 as a counter value in 2^-16 ns. -/
def fromTime80 (t : Nat) : Nat := t / 4294967296 * tcSecond + t % 4294967296 * 65536

/-- A software stamp now; while the supervisor restarts none is taken, and what is written carries the last one (10 R274). -/
def State.stamp (s : State) : Nat := if s.sup.restarting then s.sup.lastRestart else time80 s.tod.counter

/-- Whole seconds of the time counter. -/
def State.second (s : State) : Nat := s.tod.counter / tcSecond

/-! Sessions (14 R353, R354). -/

/-- An open session. -/
def State.session? (s : State) (id : Nat) : Option Session :=
  (s.mgmt.sessions.find? fun e => e.1 == id).map Prod.snd

/-- Change an open session. -/
def State.modSession (s : State) (id : Nat) (f : Session → Session) : State :=
  if (s.session? id).isSome then { s with mgmt.sessions := tmod {} s.mgmt.sessions id f } else s

/-- The sequence number of one more message to a session (14 R354). -/
def State.sentTo (s : State) (id : Nat) : State := s.modSession id fun x => { x with sendSeq := x.sendSeq + 1 }

/-! Hoppers (14 R374 to R381). -/

/-- A hopper. -/
def State.hop (s : State) (h : Nat) : Hopper := tget {} s.store.hoppers h

/-- Change a hopper. -/
def State.modHop (s : State) (h : Nat) (f : Hopper → Hopper) : State :=
  { s with store.hoppers := tmod {} s.store.hoppers h f }

/-- Kind, depth, overflow policy, watermark of a hopper (14 Table 14-20). -/
def State.hopKind (s : State) (h : Nat) : Nat := s.cfgF 0x7000 1 h 0
def State.hopDepth (s : State) (h : Nat) : Nat := s.cfgF 0x7000 1 h 1
def State.hopPolicy (s : State) (h : Nat) : Nat := s.cfgF 0x7000 1 h 2
def State.hopMark (s : State) (h : Nat) : Nat := s.cfgF 0x7000 1 h 3
def State.hopEventN (s : State) (h : Nat) : Bool := s.cfgF 0x7000 1 h 4 == 1
def State.hopDefault (s : State) (h : Nat) : Nat := s.cfgF 0x7000 1 h 5

/-- The fill of a hopper. -/
def Hopper.fill (h : Hopper) : Nat := h.entries.length

/-- The consumer index C (14 R375). -/
def Hopper.c (h : Hopper) : Nat := (h.p + 4294967296 - h.fill % 4294967296) % 4294967296

/-- Its subscribed flag: owned, of kind 1 to 7 (14 R377). -/
def State.subscribed (s : State) (h : Nat) : Bool := (s.hop h).owner != 0 && s.hopKind h != 0

/-- Room for n more entries. -/
def State.hopRoom (s : State) (h n : Nat) : Bool := decide ((s.hop h).fill + n ≤ s.hopDepth h)

/-- The bytes of a response record (14 Table 14-7). -/
def Resp.bytes (r : Resp) : Bytes :=
  beBytes 1 r.op ++ beBytes 1 r.status ++ beBytes 2 r.tag ++ beBytes 2 r.index ++ beBytes 1 r.sub ++ beBytes 1 r.detail ++ beBytes 4 r.element
    ++ beBytes 4 r.value.length ++ beBytes 4 r.offset ++ beBytes 4 r.detailValue ++ beBytes 2 r.blkIndex ++ beBytes 1 r.blkSub ++ [0]
    ++ beBytes 4 r.blkElement ++ r.value

/-- A header of Unryn (14 Table 14-1). -/
def unrynHeader (kind length session sequence : Nat) : Bytes :=
  beBytes 1 1 ++ beBytes 1 kind ++ beBytes 2 length ++ beBytes 4 session ++ beBytes 8 sequence

/-- A SECURE message of the module: the IV is 0x0000_0002 and the sequence, the AAD the header (14 R354). -/
def secureMessage (key : BitVec 256) (session sequence : Nat) (record : Bytes) : Bytes :=
  let h := unrynHeader 0x10 (32 + record.length) session sequence
  h ++ gcmSeal key (2 * 18446744073709551616 + sequence) h record

/-- One job of a byte-serial engine, which the two take in turn (11 R300; log entry 178). -/
def CipherWork.add (x : CipherWork) (bytes : Nat) (good : Bool) : CipherWork :=
  { jobs := x.jobs.add 1, bytes := (x.bytes + bytes) % 18446744073709551616, fails := if good then x.fails else x.fails.add 1 }
def State.cipherJob (s : State) (bytes : Nat) (good : Bool := true) : State :=
  if s.mgmt.cipherNext then { s with mgmt.cipherNext := false, mgmt.cipher1 := s.mgmt.cipher1.add bytes good }
  else { s with mgmt.cipherNext := true, mgmt.cipher0 := s.mgmt.cipher0.add bytes good }

/-- The work of an engine, as a state holds it. -/
def State.cipherWork (s : State) (e : Nat) : CipherWork := if e = 0 then s.mgmt.cipher0 else s.mgmt.cipher1

/-- A record goes out to a session in its next SECURE message; the record is shown beside it. -/
def State.sendSecure (s : State) (id : Nat) (shown : Output) (r : Resp) : State :=
  match s.session? id with
  | some x => (((s.cipherJob r.bytes.length).sentTo id).emit shown).emit (.secure id x.sendSeq (secureMessage x.key id x.sendSeq r.bytes))
  | none => s.emit shown

/-- Below half the watermark the next NOTIFY is allowed again (14 R380). -/
def Hopper.rearm (x : Hopper) (mark : Nat) : Hopper := { x with quiet := x.quiet && decide (mark ≤ 2 * x.fill) }

/-- NOTIFY the owner when the fill has risen to the watermark (14 R380). -/
def State.notifyOwner (s : State) (h : Nat) : State :=
  let x := s.hop h
  if x.owner != 0 && s.hopMark h != 0 && !x.quiet && decide (s.hopMark h ≤ x.fill) then
    (s.modHop h fun x => { x with quiet := true }).sendSecure x.owner (.notify x.owner h x.fill)
      { op := 0xC0, tag := 0xFFFF, element := h, detailValue := x.fill }
  else s

/-- Write one unit that fits: entries in order, P past them (14 R375, R379). -/
def State.writeUnit (s : State) (h : Nat) (es : List Bytes) : State :=
  let s := s.modHop h fun x =>
    let ents := x.entries ++ es.zipIdx.map fun e => (e.2 == 0, e.1)
    { x with entries := ents, p := (x.p + es.length) % 4294967296, highest := max x.highest ents.length }
  (s.countN 0x7010 2 1 h es.length).notifyOwner h

/-- Entries of the oldest unit of a hopper. -/
def firstUnit : List (Bool × Bytes) → Nat
  | [] => 0
  | _ :: t => 1 + (t.takeWhile fun e => !e.1).length

/-- Drop whole units from C until n entries fit (14 R379); fuel is the fill. -/
def dropUnits (depth n : Nat) : Nat → List (Bool × Bytes) → List (Bool × Bytes)
  | 0, l => l
  | k + 1, l => if l.length + n ≤ depth then l else dropUnits depth n k (l.drop (firstUnit l))

/-- Entries waiting in the overflow queue. -/
def Hopper.overflowFill (h : Hopper) : Nat := (h.overflow.map List.length).sum

/-- A module unit comes to a hopper and follows its overflow policy (14 R379). `queued` is false for PM exports, which are refused in place of waiting (12 R317). -/
def State.postUnit (s : State) (h : Nat) (es : List Bytes) (queued : Bool := true) : State :=
  let n := es.length
  let x := s.hop h
  if s.hopRoom h n && x.overflow.isEmpty then s.writeUnit h es
  else if s.hopPolicy h = 0 then
    if n ≤ s.hopDepth h then
      let kept := dropUnits (s.hopDepth h) n x.fill x.entries
      let s := s.countN 0x7010 2 2 h (x.fill - kept.length)
      (s.modHop h fun x => ({ x with entries := kept } : Hopper).rearm (s.hopMark h)).writeUnit h es
    else s.countN 0x7010 2 3 h n
  else if s.hopPolicy h = 2 && queued then
    if x.overflowFill + n ≤ 64 then s.modHop h fun x => { x with overflow := x.overflow ++ [es] }
    else s.countN 0x7010 2 4 h n
  else s.countN 0x7010 2 3 h n

/-- Write the waiting units that now fit, in order (14 R379); fuel is their number. -/
def State.drainOverflow (h : Nat) : Nat → State → State
  | 0, s => s
  | k + 1, s =>
    match (s.hop h).overflow with
    | [] => s
    | u :: us =>
      if s.hopRoom h u.length then
        State.drainOverflow h k ((s.modHop h fun x => { x with overflow := us }).writeUnit h u)
      else s

/-- The configured hoppers of a kind that are subscribed, in order (14 R376, R377). -/
def State.hoppersOf (s : State) (kind : Nat) : List Nat :=
  (s.store.hoppers.filter fun e => e.2.owner != 0 && s.hopKind e.1 == kind).map Prod.fst

/-- EVENT_N is low: some subscribed hopper with its bit set holds entries, and no supervisor restart runs (14 R381). -/
def State.eventNLow (s : State) : Bool :=
  s.sup.up && s.store.hoppers.any fun e => e.2.owner != 0 && s.hopEventN e.1 && !e.2.entries.isEmpty

/-! Events (14 R382). -/

/-- The continuation entries of a payload beyond 36 bytes (14 R382); fuel is the number of entries. -/
def eventConts (number : Nat) : Nat → Bytes → List Bytes
  | 0, _ => []
  | k + 1, p => ([0xB1, 0, 0, 0] ++ beBytes 4 number ++ padTo 56 p) :: eventConts number k (p.drop 56)

/-- The entries of an event (14 Table 14-17). -/
def eventUnit (cls number index sub el stamp kind : Nat) (payload : Bytes) : List Bytes :=
  let k := (payload.length - 36 + 55) / 56
  ([0xB0] ++ beBytes 1 cls ++ beBytes 2 k ++ beBytes 4 number ++ beBytes 2 index ++ beBytes 1 sub ++ [0] ++ beBytes 4 el
    ++ beBytes 10 stamp ++ beBytes 1 kind ++ [0] ++ padTo 36 payload) :: eventConts number k (payload.drop 36)

/-- The event number after one: 32 bits, past 0. -/
def eventAfter (n : Nat) : Nat := if n + 1 = 4294967296 then 1 else n + 1

/-- Write an event with a given stamp: 0 software, 1 hardware (14 R382, 10 R274). -/
def State.eventAt (s : State) (cls index sub el stamp kind : Nat) (payload : Bytes) : State :=
  let n := s.store.nextEvent
  let u := eventUnit cls n index sub el stamp kind payload
  let s := { s with store.nextEvent := eventAfter n }
  s.each (s.hoppersOf 3) fun h s => s.postUnit h u

/-- Write an event with a software stamp. -/
def State.event (s : State) (cls index sub el : Nat) (payload : Bytes) : State :=
  s.eventAt cls index sub el s.stamp 0 payload

/-! Alarms (14 R383, R384). -/

/-- The alarm entry (14 Table 14-18). -/
def alarmEntry (action : Nat) (a : Alarm) (stamp session : Nat) : Bytes :=
  [0xC0] ++ beBytes 1 action ++ beBytes 1 a.severity ++ [0] ++ beBytes 4 a.number ++ beBytes 2 a.index ++ beBytes 1 a.sub
    ++ beBytes 1 a.bit ++ beBytes 4 a.element ++ beBytes 10 stamp ++ [0, 0] ++ beBytes 4 session ++ zeros 32

/-- Write an alarm entry to every subscribed alarm hopper. -/
def State.alarmOut (s : State) (action : Nat) (a : Alarm) (session : Nat) : State :=
  let e := alarmEntry action a s.stamp session
  s.each (s.hoppersOf 4) fun h s => s.postUnit h [e]

/-- The lowest free slot of the alarm table (14 R383). -/
def State.freeAlarmSlot (s : State) : Option Nat :=
  (List.range 1024).find? fun i => !(s.store.alarms.any fun a => a.slot == some i)

/-- Raise an alarm (14 R383): a new number, a slot where one is free, the entry. -/
def State.raiseAlarm (s : State) (cond : Option AlarmCond) (severity index sub bitNo el : Nat) : State :=
  let n := s.store.nextAlarm
  let a : Alarm := { cond := cond, number := n, severity := severity, index := index, sub := sub, bit := bitNo, element := el,
                     raised := s.stamp, slot := s.freeAlarmSlot }
  let s := { s with store.nextAlarm := if n + 1 = 4294967295 then 1 else n + 1, store.alarms := s.store.alarms ++ [a] }
  s.alarmOut 1 a 0

/-- A raised alarm about an object and condition. -/
def State.findAlarm (s : State) (index sub bitNo el : Nat) : Option Alarm :=
  s.store.alarms.find? fun a => a.index == index && a.sub == sub && a.bit == bitNo && a.element == el

/-- Clear an alarm: its entry, and it leaves the table (14 R383, R384). -/
def State.clearAlarm (s : State) (a : Alarm) : State :=
  { s with store.alarms := s.store.alarms.filter fun b => b.number != a.number }.alarmOut 2 a 0

/-- Raise an alarm about an object and condition unless it is raised. -/
def State.raiseOnce (s : State) (severity index sub bitNo el : Nat) : State :=
  if (s.findAlarm index sub bitNo el).isSome then s else s.raiseAlarm none severity index sub bitNo el

/-- Clear the alarm about an object and condition if it is raised. -/
def State.clearIf (s : State) (index sub bitNo el : Nat) : State :=
  match s.findAlarm index sub bitNo el with
  | some a => s.clearAlarm a
  | none => s

/-- An unacknowledged alarm of a severity is raised. -/
def State.almRaised (s : State) (severity : Nat) : Bool := s.store.alarms.any fun a => a.severity == severity && !a.acked

/-- ALM output of a severity: driven while an unacknowledged alarm of it is raised (04 R110); held while the supervisor restarts (01 Table 1-2). -/
def State.almOutput (s : State) (severity : Nat) : Bool :=
  if s.sup.restarting then s.sup.alm.contains severity else s.almRaised severity

/-- Note whether an alarm condition is present, and since when (04 R110). -/
def State.noteCond (s : State) (c : AlarmCond) (present : Bool) : State :=
  match s.store.conds.find? fun x => x.cond == c with
  | some x =>
    if x.present == present then s
    else if !present && !x.failed then { s with store.conds := s.store.conds.filter fun y => y.cond != c }
    else { s with store.conds := s.store.conds.map fun y => if y.cond == c then { y with present := present, since := s.now } else y }
  | none => if present then { s with store.conds := s.store.conds ++ [{ cond := c, present := true, since := s.now }] } else s

/-- The condition has been present, or absent, for a time. -/
def State.condFor (s : State) (c : AlarmCond) (present : Bool) (dur : Nat) : Bool :=
  match s.store.conds.find? fun x => x.cond == c with
  | some x => x.present == present && s.over x.since dur
  | none => !present

/-- A condition is present. -/
def State.condNow (s : State) (c : AlarmCond) : Bool := s.store.conds.any fun x => x.cond == c && x.present

/-! The audit journal (15 R394 to R397). -/

/-- SHA-256 of a string, as 32 bytes. -/
def digest (b : Bytes) : Bytes := beBytes 32 (sha256 b).toNat

/-- A value as a record holds it: itself, or its digest (15 R395). -/
def recValue (v : Bytes) : Bytes := if v.length ≤ 32 then padTo 32 v else digest v

/-- The 128 bytes of a record with its chain (15 Table 15-3). -/
def AuditRec.bytes (r : AuditRec) (chain : Bytes) : Bytes :=
  beBytes 8 r.seq ++ beBytes 10 r.stamp ++ beBytes 1 r.kind ++ beBytes 1 r.role ++ beBytes 4 r.session ++ beBytes 8 r.cert
    ++ beBytes 2 r.index ++ beBytes 1 r.sub ++ beBytes 1 r.status ++ beBytes 4 r.element ++ beBytes 2 r.length
    ++ beBytes 1 (flagsWord [decide (32 < r.oldVal.length), decide (32 < r.newVal.length), r.withheld]) ++ [0]
    ++ recValue r.oldVal ++ recValue r.newVal ++ beBytes 4 r.detail ++ padTo 16 chain

/-- The chain of the record after one (15 Table 15-3). -/
def AuditRec.chainAfter (r : AuditRec) (chain : Bytes) : Bytes := (digest (r.bytes chain)).take 16

/-- Put records, oldest first, on the ring of 16,384; an unread record overwritten is counted (15 R394, R397). -/
def State.auditWrite (s : State) (rs : List AuditRec) : State :=
  let all := rs.reverse ++ s.sec.audit
  let gone := all.drop 16384
  let lost := gone.countP fun r => decide (s.sec.readTo < r.seq)
  ({ s with
      sec.audit := all.take 16384
      sec.auditChain := gone.reverse.foldl (fun (c : Bytes) (r : AuditRec) => r.chainAfter c) s.sec.auditChain }).countN 0x9030 1 4 0 lost

/-- Number of unread records (15 R397). -/
def State.auditUnread (s : State) : Nat :=
  (s.sec.audit ++ s.sec.buffer).countP fun r => decide (s.sec.readTo < r.seq)

/-- Follow the condition of the unread alarm (15 R397). -/
def State.auditCond (s : State) : State :=
  let n := s.auditUnread
  if 15360 ≤ n then s.noteCond .auditUnread true
  else if n < 14336 then s.noteCond .auditUnread false else s

/-- Write an audit record: kinds 4, 6 and 7 at once, with those before it, unless flash fails; others into the buffer of 256, where a full one takes no
more (15 R396; log entry 174). -/
def State.audit (s : State) (r : AuditRec) : State :=
  let now := decide (r.kind = 4 ∨ r.kind = 6 ∨ r.kind = 7) && !s.sec.flushBad
  if !now && decide (256 ≤ s.sec.buffer.length) then s
  else
    let r := { r with seq := s.sec.nextSeq, stamp := s.stamp }
    let s := { s with sec.nextSeq := s.sec.nextSeq + 1 }
    if now then (({ s with sec.buffer := [] }).auditWrite (s.sec.buffer.reverse ++ [r])).auditCond
    else ({ s with sec.buffer := r :: s.sec.buffer, sec.bufferAt := if s.sec.buffer.isEmpty then s.now else s.sec.bufferAt }).auditCond

/-- The record of an event of the module (15 Table 15-4). -/
def moduleRec (kind index sub el detail : Nat) : AuditRec :=
  { kind := kind, index := index, sub := sub, element := el, detail := detail }

/-- Log an event of kind 0x0B, with its object as the detail value (15 Table 15-4). -/
def State.auditObj (s : State) (index sub el : Nat) : State := s.audit (moduleRec 0x0B index sub el (index * 256 + sub))

/-! The close of a session (14 R355). -/

/-- Drop a released hopper's held writes of a session (14 R355: responses still owed are discarded). -/
def State.releaseHoppers (s : State) (id : Nat) : State :=
  { s with store.hoppers := tmap {} s.store.hoppers fun _ x =>
      { x with owner := if x.owner = id then 0 else x.owner, held := x.held.filter fun w => w.session != id } }

/-- An image slot, and a change of one (15 R401). -/
def State.slot (s : State) (t : Nat) : Slot := if t = 0 then s.sec.slotA else s.sec.slotB
def State.modSlot (s : State) (t : Nat) (f : Slot → Slot) : State :=
  if t = 0 then { s with sec.slotA := f s.sec.slotA } else { s with sec.slotB := f s.sec.slotB }

/-- An image that is found damaged: the slot is invalid (15 R399). -/
def State.spoilSlot (s : State) (t : Nat) : State := s.modSlot t fun x => if x.state = 1 then { x with state := 2 } else x

/-- A dropped transfer of an image leaves its slot invalid (15 R401). -/
def State.dropTransfer (s : State) (x : Transfer) : State :=
  if x.index = 0x1030 then s.modSlot x.element fun t => if t.state = 3 then { t with state := 2, erasing := none } else t else s

/-- Drop a session's transfers (14 R369). -/
def State.dropTransfers (s : State) (id : Nat) : State :=
  let s := s.each (s.mgmt.transfers.filter fun x => x.session == id) fun x s => s.dropTransfer x
  { s with mgmt.transfers := s.mgmt.transfers.filter fun x => x.session != id }

/-- Close a session: its responses discarded, its hoppers released, a record of kind 5 (14 R355, 15 Table 15-4). -/
def State.closeSess (s : State) (id cause : Nat) : State :=
  if s.mgmt.sessions.any fun e => e.1 == id then
    let x := tget {} s.mgmt.sessions id
    let s := { s with
      mgmt.sessions := tdel s.mgmt.sessions id
      mgmt.flight := s.mgmt.flight.filter fun f => f.session != id
      mgmt.kept := s.mgmt.kept.filter fun f => f.session != id
      mgmt.snapshots := s.mgmt.snapshots.filter fun f => f.session != id
      sec.reports := tdel s.sec.reports id }
    ((s.dropTransfers id).releaseHoppers id).audit { kind := 5, role := x.role, session := id, cert := x.cert, detail := cause }
  else s

/-- Close every session (14 R355). -/
def State.closeAll (s : State) (cause : Nat) : State :=
  s.each (s.mgmt.sessions.map Prod.fst) fun id s => s.closeSess id cause

end Sys2Proof.Machine
end

