-- ==== Sys2Proof/Machine/Requests.lean ====
section
/-! DEFINITION. The course of a request: the checks of 14 Table 14-13, the answer, and what is kept for retransmission. -/

namespace Sys2Proof.Machine

/-- Status codes (14 Table 14-14). -/
abbrev stOk : Nat := 0
abbrev stBusy : Nat := 1
abbrev stState : Nat := 2
abbrev stRange : Nat := 3
abbrev stAccess : Nat := 4
abbrev stAbsent : Nat := 5
abbrev stType : Nat := 6
abbrev stConflict : Nat := 7
abbrev stIntegrity : Nat := 8
abbrev stLimit : Nat := 9
abbrev stPending : Nat := 10
abbrev stInternal : Nat := 15

/-- What a response says beside the fields it copies from the request (14 Table 14-7). -/
structure Ans where
  status : Nat := 0
  detail : Nat := 0
  detailValue : Nat := 0
  offset : Nat := 0
  blkIndex : Nat := 0
  blkSub : Nat := 0
  blkElement : Nat := 0
  value : Bytes := []
  /-- An ACCESS refusal made after step 7, which the journal does not record (15 R394). -/
  late : Bool := false
  deriving DecidableEq, Repr

/-- A refusal with a detail code and value. -/
def refusal (status : Nat) (detail : Nat := 0) (detailValue : Nat := 0) : Ans :=
  { status := status, detail := detail, detailValue := detailValue }

/-- A refusal that names an object (14 Table 14-9). -/
def naming (status index sub el : Nat) (detail : Nat := 0) (detailValue : Nat := 0) : Ans :=
  { status := status, detail := detail, detailValue := detailValue, blkIndex := index, blkSub := sub, blkElement := el }

/-- How a request ends: applied, refused without effect, or held until later. -/
inductive Act where
  /-- Applied, with the answer, and what follows once the response has been sent. -/
  | done (s : State) (a : Ans) (post : State → State)
  | refuse (a : Ans)
  /-- In flight until a later command answers it. -/
  | hold (s : State)

/-- Applied, answered OK. -/
def ok (s : State) : Act := .done s {} id

/-- The answer with a detail code and value. -/
def okWith (s : State) (detail detailValue : Nat) : Act := .done s { detail := detail, detailValue := detailValue } id

/-- Refuse where a condition holds; otherwise go on. -/
def guardAct (b : Bool) (a : Ans) (k : Act) : Act := if b then .refuse a else k

/-! Ports (03 R89, R95). -/

/-- Width of the port element p. -/
def State.width (s : State) (p : Nat) : Nat := s.cfg 0x2800 1 p

/-- The port that holds a lane. -/
def State.portOf (s : State) (l : Nat) : Nat :=
  if s.width (l / 4 * 4) = 4 then l / 4 * 4
  else if s.width (l / 2 * 2) = 2 then l / 2 * 2
  else l

/-- The lanes of a port. -/
def State.lanesOf (s : State) (p : Nat) : List Nat := (List.range (s.width p)).map (p + ·)

/-- The first lanes of all ports, in order. -/
def State.portList (s : State) : List Nat := (List.range 48).filter fun l => s.portOf l == l

/-! Circuits in the pages (05, 06). -/

/-- A circuit has an entry in a page. -/
def inPage (page : List Entry) (h : Nat) : Bool := page.any fun e => e.handle == h

/-- Entries of a page, companions included (05 Table 5-10). -/
def pageCount (page : List Entry) : Nat := (page.map fun e => if e.comp.isSome then 2 else 1).sum

/-- A circuit has a protected run in the active page. -/
def State.hasProt (s : State) (h : Nat) : Bool :=
  s.fab.active.any fun e => e.handle == h && (match e.comp with | some c => c.prot | none => false)

/-! Objects, elements and rights (14 R361 to R364). -/

/-- An object of circuit sealing (11 R304; 12 R324). -/
def sealingObj (index : Nat) : Bool :=
  decide (0x5C00 ≤ index ∧ index ≤ 0x5C40) || index == 0x6020 || index == 0x6021

/-- An index can be reached: it is not absent by the ordering code (00 R2) or by recovery (15 R403). -/
def State.reachable (s : State) (index : Nat) : Bool :=
  (s.power.ordering || !sealingObj index)
    && (s.sup.state != 3 || index / 4096 == 1 || index / 4096 == 9)

/-- The object, with subindex 0x00 and the group status 0xFE of every index that has them (14 R362, 12 R321). -/
def State.object? (s : State) (index sub : Nat) : Option Obj :=
  if !s.reachable index then none
  else if sub = 0 then
    if (objsOfIndex index).isEmpty then none
    else some ⟨index, 0, "Highest subindex", 2, .ro, 21, .one, 1, [(2, 1)], [], [], []⟩
  else if sub = 0xFE then
    if (groupOf index).isEmpty then none
    else some ⟨index, 0xFE, "Counter group status", 3, .ro, 21, .one, 2, [(3, 2)], [], [], []⟩
  else findObj index sub

/-- An element that is a circuit-sealing object of its own, absent by the ordering code: profile element 2 of 6030:01 (12 R324; 00 R2). -/
def State.sealElem (s : State) (o : Obj) (el : Nat) : Bool := o.index == 0x6030 && o.sub == 1 && el == 2 && !s.power.ordering

/-- Whether one object takes an element: none when it does, otherwise the refusal (14 R362 and the object's chapter). -/
def State.elemOf (s : State) (o : Obj) (el : Nat) : Option Ans :=
  match o.elems with
  | .one => if el = 0 then none else some (refusal stRange)
  | .upTo n =>
    if n ≤ el then some (refusal stRange)
    else if s.sealElem o el then some (refusal stAbsent)
    else none
  | .port =>
    if 48 ≤ el then some (refusal stRange)
    else if s.portOf el = el then none else some (naming stState 0x2800 1 (s.portOf el))
  | .pair =>
    if 48 ≤ el then some (refusal stRange)
    else if s.portOf el ≠ el then some (naming stState 0x2800 1 (s.portOf el))
    else match s.prot.pairs.find? fun p => p.2.protect == el || (p.2.pending && p.2.next == el) with
      | some p => some (naming stState 0x3800 6 p.1)
      | none => none
  | .circuit => if inPage s.fab.active el || inPage s.fab.shadow el then none else some (refusal stAbsent)
  | .protRun => if s.hasProt el then none else some (refusal stAbsent)
  | .activeEntry => if el < pageCount s.fab.active then none else some (refusal stRange)
  | .shadowEntry => if el < pageCount s.fab.shadow then none else some (refusal stRange)
  | .matrixPort => if el < 23 ∨ (32 ≤ el ∧ el < 48) then none else some (refusal stAbsent)
  | .session =>
    if el = 0 ∨ 4294967294 < el then some (refusal stRange)
    else if (s.session? el).isSome then none else some (refusal stAbsent)

/-- Step 4 of Table 14-13. -/
def State.elemCheck (s : State) (o : Obj) (el : Nat) : Option Ans :=
  if o.sub = 0 then
    if el = 0 ∨ (objsOfIndex o.index).any (fun x => (s.elemOf x el).isNone) then none else some (refusal stRange)
  else if o.sub = 0xFE then
    let cs := (objsOfIndex o.index).filter fun x => !x.ctrs.isEmpty
    if cs.any (fun x => (s.elemOf x el).isNone) then none
    else match cs with
      | x :: _ => s.elemOf x el
      | [] => some (refusal stRange)
  else s.elemOf o el

/-- The role may read an object (14 R361; 13 R344). -/
def State.mayRead (s : State) (o : Obj) (role : Nat) : Bool :=
  bit o.rights (2 * role - 2) && (!(bit o.rights 6 && role == 1) || s.cfg 0x8300 2 0 == 1)

/-- The role may write or invoke an object. -/
def mayWrite (o : Obj) (role : Nat) : Bool := bit o.rights (2 * role - 1)

/-- The access code permits reads; it permits writes (14 Table 14-11). -/
def Access.reads : Access → Bool
  | .ro | .rw | .rwp => true
  | _ => false

def Access.writes : Access → Bool
  | .ro => false
  | _ => true

/-- A field value lies in one of its permitted ranges. -/
def inRanges (r : List (Nat × Nat × Nat)) (v : Nat) : Bool :=
  r.isEmpty || r.any fun t => decide (t.1 ≤ v ∧ v ≤ t.2.1 ∧ (v - t.1) % t.2.2 = 0)

/-- Every field of a value lies in its ranges (00 R12). -/
def fieldsOk (ranges : List (List (Nat × Nat × Nat))) (vs : List Nat) : Bool :=
  ranges.isEmpty || (ranges.zip vs).all fun p => inRanges p.1 p.2

/-- The fields of a value. -/
def Obj.split (o : Obj) (b : Bytes) : List Nat := splitFields (o.fields.map Prod.snd) b

/-- The bytes of a value. -/
def Obj.join (o : Obj) (vs : List Nat) : Bytes := joinFields (o.fields.map Prod.snd) vs

/-! Steps 1 and 2, and the response. -/

/-- Ops (14 Table 14-8). -/
def knownOp (op : Nat) : Bool := [1, 2, 3, 4, 5, 6, 0x10, 0x11, 0x12, 0x13, 0x20, 0x21].contains op

/-- The length field agrees with the op and the value (14 Table 14-8). -/
def lengthOk (op : Nat) (q : Req) : Bool :=
  match op with
  | 1 => q.length == 0 && q.value.isEmpty
  | 2 => q.length == q.value.length
  | 3 => decide (1 ≤ q.length ∧ q.length ≤ 254) && q.value.isEmpty
  | 4 => q.value.isEmpty
  | 5 => q.length == q.value.length
  | 6 => q.length == 0 && q.value.isEmpty
  | 0x10 => decide (1 ≤ q.length ∧ q.length ≤ 21) && q.value.isEmpty
  | 0x11 => q.length == q.value.length && q.length % 64 == 0 && decide (64 ≤ q.length ∧ q.length ≤ 1344)
  | 0x12 => q.length == 4 && q.value.length == 4
  | 0x13 => q.length == 1 && q.value.length == 1
  | _ => q.length == 0 && q.value.isEmpty

/-- Step 1 of Table 14-13. -/
def step1 (op : Nat) (q : Req) : Bool :=
  knownOp op && q.tag != 0xFFFF && (q.flags == 0 || (op == 3 && q.flags == 1)) && q.rsv == 0
    && lengthOk op q && decide (q.value.length ≤ 1396)

/-- The response record of a request (14 Table 14-7). -/
def respOf (op : Nat) (q : Req) (a : Ans) : Resp :=
  { op := op % 128 + 128, status := a.status, tag := q.tag, index := q.index, sub := q.sub, detail := a.detail, element := q.element,
    offset := a.offset, detailValue := a.detailValue, blkIndex := a.blkIndex, blkSub := a.blkSub, blkElement := a.blkElement,
    value := a.value }

/-- Close a session whose sequence has reached 2^48 (14 R355). -/
def State.seqLimit (s : State) (id : Nat) : State :=
  match s.session? id with
  | some x => if 281474976710656 ≤ x.sendSeq ∨ 281474976710656 ≤ x.recvMax then s.closeSess id 5 else s
  | none => s

/-- Send the response of a request to its session and keep it for 2 s (14 R358). -/
def State.respond (s : State) (op : Nat) (q : Req) (a : Ans) : State :=
  if (s.session? q.session).isSome then
    let r := respOf op q a
    let s := { s with mgmt.kept := s.mgmt.kept ++ [(⟨q.session, op, q, r, s.now⟩ : Kept)] }
    (s.sendSecure q.session (.response q.session r) r).seqLimit q.session
  else s

/-- A kept response to a byte-identical record (14 R358). -/
def State.keptFor (s : State) (op : Nat) (q : Req) : Option Kept :=
  s.mgmt.kept.find? fun k => k.op == op && k.req == q && !s.over k.since (secs 2)

/-- Requests in flight of a session. -/
def State.inFlight (s : State) (id : Nat) : Nat := s.mgmt.flight.countP fun f => f.session == id

/-- Answer a request that was held (14 R358). -/
def State.answerHeld (s : State) (session tag : Nat) (a : Ans) : State :=
  match s.mgmt.flight.find? fun f => f.session == session && f.req.tag == tag with
  | some f =>
    let s := { s with mgmt.flight := s.mgmt.flight.filter fun g => !(g.session == session && g.req.tag == tag) }
    s.respond f.op f.req a
  | none => s

/-- A refusal with ACCESS is recorded (15 R394). -/
def State.auditAccess (s : State) (op : Nat) (q : Req) (x : Session) (a : Ans) : State :=
  if a.status = stAccess ∧ a.late = false then
    s.audit { kind := 2, role := x.role, session := q.session, cert := x.cert, index := q.index, sub := q.sub,
              status := stAccess, element := q.element, detail := op }
  else s

/-- Requests are served: by the firmware, or in recovery by the boot ROM (15 R403). -/
def State.serves (s : State) : Bool := s.sup.up || s.sup.state == 3

/-- A request of a maker session for an object of F000 to FFFF (14 R385). -/
def makerOwn (op : Nat) (q : Req) (x : Session) : Bool := decide (op ≤ 6 ∧ x.role = 3 ∧ 0xF000 ≤ q.index)

/-- The manual describes none of those objects: what one answers is a free value, and it changes nothing that the manual gives (log entry 16). -/
def State.makerAct (s : State) : Act :=
  .done s.free.2 { status := s.free.1 % 16, value := Config.makerValue s.fresh } id

/-- A request from an open session: kept response, step 1, step 2, then its own checks and effect (14 R358, R364). -/
def request (op : Nat) (q : Req) (body : Session → State → Act) (s : State) : State :=
  match s.serves, s.session? q.session with
  | true, some x =>
    let s := s.modSession q.session fun y => { y with lastAt := s.now }
    if !step1 op q then s.respond op q (refusal stRange)
    else match s.keptFor op q with
    | some k => (s.sendSecure q.session (.response q.session k.resp) k.resp).seqLimit q.session
    | none =>
      if 32 ≤ s.inFlight q.session ∨ 512 ≤ s.mgmt.flight.length then
        (s.count 0x9130 4 5 0).respond op q (refusal stBusy 0x46 s.mgmt.flight.length)
      else if s.mgmt.flight.any (fun f => f.session == q.session && f.req.tag == q.tag) then
        s.respond op q (refusal stConflict 0x41)
      else match (if makerOwn op q x then s.makerAct else body x s) with
        | .done s a post => post (s.respond op q a)
        | .refuse a => (s.auditAccess op q x a).respond op q a
        | .hold s => { s with mgmt.flight := s.mgmt.flight ++ [(⟨q.session, op, q, s.now⟩ : Flight)] }
  | _, _ => s

/-! Writes. -/

/-- A write whose values the audit journal withholds (15 R395). -/
def withheld (index sub : Nat) : Bool :=
  (index == 0x5E00 && sub == 1) || (index == 0x5C10 && sub == 1) || (index == 0x5E10 && sub == 2)

/-- The fields of a setting; REV of a circuit has a table of its own (07 R203). -/
def State.settingOf (s : State) (index sub el : Nat) : List Nat :=
  if index = 0x3840 ∧ sub = 2 then [tget 0 s.fab.revTbl el] else s.val index sub el

/-- The record of an accepted write (15 R394, R395). `detail` is the detail code of the response, or bits [31:0] of the key serial. -/
def writeRec (s : State) (q : Req) (x : Session) (o : Obj) (detail : Nat) : AuditRec :=
  let w := withheld q.index q.sub
  { kind := 1, role := x.role, session := q.session, cert := x.cert, index := q.index, sub := q.sub, status := 0,
    element := q.element, oldVal := if w || !o.access.reads then [] else o.join (s.settingOf q.index q.sub q.element),
    newVal := if w then [] else q.value, length := q.value.length, withheld := w, detail := detail }

/-- Least size of a DOMAIN (14 R369). -/
def leastSize (index : Nat) : Nat := if index = 0x1030 then 513 else 1

/-- The port die is up (01 R18). -/
def State.portUp (s : State) : Bool := s.power.portRail && !s.power.portFault

/-- A write needs the port die or an engine and there is none (16 R431; log entry 55). -/
def State.lacksDies (s : State) (index : Nat) : Bool :=
  !s.portUp && decide (0x2000 ≤ index ∧ index ≤ 0x5CFF) && index != 0x5C40

/-- Steps 3 to 7 for a WRITE, reserved encodings, and the dies it needs: the object, or the refusal. -/
def State.writeCheck (s : State) (q : Req) (role : Nat) : Except Ans Obj :=
  match s.object? q.index q.sub with
  | none => .error (refusal stAbsent)
  | some o =>
    match s.elemCheck o q.element with
    | some a => .error a
    | none =>
      if !mayWrite o role then .error (refusal stAccess)
      else if !o.access.writes then .error (refusal stAccess)
      else if o.ty ≠ 13 ∧ q.value.length ≠ o.size then .error (refusal stType)
      else if o.ty = 13 ∧ (q.value.length < leastSize q.index ∨ o.size < q.value.length) then .error (refusal stRange)
      else if !fieldsOk o.ranges (o.split q.value) then .error (refusal stRange)
      else if s.lacksDies q.index then .error (refusal stState)
      else .ok o

/-- Step 9 and the record: an accepted write of consequence needs room in the audit buffer (14 Table 14-13, 15 R396). A refusal that counts something is answered without a record. -/
def audited (q : Req) (x : Session) (o : Obj) (s0 : State) : Act → Act
  | .refuse a => .refuse a
  | .done s a post =>
    if (q.index = 0x5E10 ∧ q.sub = 3) ∨ a.status ≠ stOk then .done s a post
    else if 256 ≤ s0.sec.buffer.length then .refuse (refusal stInternal)
    else .done (s.audit (writeRec s0 q x o (if withheld q.index q.sub then a.offset else a.detail))) { a with offset := 0 } post
  | .hold s =>
    if 256 ≤ s0.sec.buffer.length then .refuse (refusal stInternal) else .hold (s.audit (writeRec s0 q x o 0))

/-- The body of a WRITE whose own checks and effect are `eff`, over the session, the object and the fields of the value. -/
def writeBody (q : Req) (eff : Session → List Nat → State → Act) (x : Session) (s : State) : Act :=
  match s.writeCheck q x.role with
  | .error a => .refuse a
  | .ok o => audited q x o s (eff x (o.split q.value) s)

/-- The request record of a WRITE. -/
def writeReq (rq : Rq) (index sub el : Nat) (value : Bytes) : Req :=
  ⟨rq.session, rq.tag, 0, index, sub, 0, el, value.length, 0, 0, value⟩

/-- The WRITE of one object from a session. -/
def writeOf (rq : Rq) (index sub el : Nat) (value : Bytes) (eff : Session → List Nat → State → Act) (s : State) : State :=
  request 2 (writeReq rq index sub el value) (writeBody (writeReq rq index sub el value) eff) s

/-- Store a setting: the value takes effect, and an RWP element is staged (14 R370). -/
def State.setStaged (s : State) (index sub el : Nat) (v : List Nat) (persist : Bool := true) : State :=
  let s := s.setVal index sub el v
  if persist then s.stage index sub el else s

/-- The one byte of a U8 value. -/
def u8 (v : Nat) : Bytes := beBytes 1 v

end Sys2Proof.Machine
end

