-- ==== Sys2Proof/Machine/Pages.lean ====
section
/-! DEFINITION. Map pages: addresses, the entries of a page, what a circuit uses, and the limits of a page. -/

namespace Sys2Proof.Machine

/-- A global address (05 R124). -/
def gaddr (p q : Nat) : Nat := p * 768000 + q

/-- The place of a byte in the prompt row ring: frame parity, logical position, port slot (05 R127, R147). -/
def ringKey (frame p q : Nat) : Nat := (frame % 2 * 48 + p) * 768000 + q

/-- The logical position of a global address (05 R124). -/
def posOf (g : Nat) : Nat := g / 768000

/-- Slots of an entry. -/
def Entry.slots (e : Entry) : Nat := e.len + 1

/-- The alternate source of an entry, if it has one. -/
def Entry.alt (e : Entry) : Option Companion :=
  match e.comp with
  | some c => if c.prot then some c else none
  | none => none

/-- Two ranges of slots meet. -/
def meets (a n b m : Nat) : Bool := decide (a < b + m ∧ b < a + n)

/-- An entry touches a range of global addresses as egress, ingress or alternate. -/
def Entry.touches (e : Entry) (a n : Nat) : Bool :=
  meets e.egress e.slots a n || (e.kind == 0 && meets e.ingress e.slots a n)
    || (match e.alt with | some c => meets c.altIn e.slots a n | none => false)

/-- A circuit of either page that uses a slot of a range of lanes. -/
def State.userOf (s : State) (p w : Nat) : Option Nat :=
  ((s.fab.active ++ s.fab.shadow).find? fun e => e.touches (gaddr p 0) (w * 768000)).map Entry.handle

/-- Number of circuits of a page. -/
def circuitsOf (page : List Entry) : List Nat := (page.map Entry.handle).eraseDups

/-- Number of protected runs of a page; mirrors do not count (07 R183). -/
def protRuns (page : List Entry) : Nat := page.countP fun e => e.alt.isSome && !e.mirror

/-- Put an entry into its place by EGRESS (05 R131). -/
def insEntry (e : Entry) : List Entry → List Entry
  | [] => [e]
  | x :: xs => if e.egress < x.egress then e :: x :: xs else x :: insEntry e xs

/-- Put entries into a page. -/
def insEntries (es page : List Entry) : List Entry := es.foldl (fun p e => insEntry e p) page

/-! Entry bits (05 Tables 5-2 and 5-3). -/

/-- Bits [87:0] of a run entry. -/
def Entry.runBits (e : Entry) : Nat :=
  e.kind * 2 ^ 86 + b2n e.prompt * 2 ^ 85 + b2n e.sealOn * 2 ^ 84 + b2n e.unsealOn * 2 ^ 83 + e.ca * 2 ^ 81
    + b2n e.comp.isSome * 2 ^ 80 + e.lmask * 2 ^ 76 + e.egress * 2 ^ 50 + e.len * 2 ^ 28 + e.ingress * 4

/-- Bits [87:0] of a companion entry. -/
def Companion.bits (c : Companion) : Nat :=
  b2n c.prot * 2 ^ 87 + c.altMask * 2 ^ 83 + c.altIn * 2 ^ 57 + c.selIdx * 2 ^ 39 + c.idle * 2 ^ 31

/-- The 96-bit word of an entry or companion: its ECC byte over bits [87:0] (05 R129, R130, R132). -/
def entryWord (bits : Nat) : BitVec 96 := Config.secded bits ++ BitVec.ofNat 88 bits

/-- The n-th entry of a page, companions counted: 0 run or 1 companion, its bits, its circuit (05 Table 5-10). -/
def pageEntry : List Entry → Nat → Option (Nat × Nat × Nat)
  | [], _ => none
  | e :: es, n =>
    match e.comp, n with
    | _, 0 => some (0, e.runBits, e.handle)
    | some c, 1 => some (1, c.bits, e.handle)
    | some _, n + 2 => pageEntry es n
    | none, n + 1 => pageEntry es n

/-! Fanout (05 R137). -/

/-- How many egress slots of a page name an ingress slot as a source, primary or alternate. -/
def fanoutAt (page : List Entry) (g : Nat) : Nat :=
  (page.map fun e =>
    (if e.kind = 0 ∧ e.ingress ≤ g ∧ g < e.ingress + e.slots then 1 else 0)
      + (match e.alt with | some c => if c.altIn ≤ g ∧ g < c.altIn + e.slots then 1 else 0 | none => 0)).sum

/-- How many egress slots of a page name an ingress slot as primary source: the fanout table of the check path (05 R137, 08 R222). -/
def fanoutTable (page : List Entry) (g : Nat) : Nat :=
  page.countP fun e => decide (e.kind = 0 ∧ e.ingress ≤ g ∧ g < e.ingress + e.slots)

/-- The source ranges of a page, as first slot and number. -/
def sourcesOf (e : Entry) : List (Nat × Nat) :=
  (if e.kind = 0 then [(e.ingress, e.slots)] else [])
    ++ (match e.alt with | some c => [(c.altIn, e.slots)] | none => [])

/-- The points at which the fanout of a page can rise: the first slots of its source ranges. -/
def fanoutPoints (page : List Entry) : List Nat := (page.flatMap sourcesOf).map Prod.fst

/-- Some ingress slot is named more than fifteen times (05 R137). -/
def fanoutBroken (page : List Entry) : Bool := (fanoutPoints page).any fun g => decide (15 < fanoutAt page g)

/-! Read windows (05 R145, R146). -/

/-- The part of a run's egress range in the lane-window share that begins at global address a: first offset and slots. -/
def sharePart (e : Entry) (a : Nat) : Option (Nat × Nat) :=
  let lo := max e.egress a
  let hi := min (e.egress + e.slots) (a + 6144)
  if lo < hi then some (lo - e.egress, hi - lo) else none

/-- The lane-window shares of read window w: one for each logical position. -/
def shareStarts (w : Nat) : List Nat := (List.range 48).map fun p => gaddr p (w * 6144)

/-- Words first to last that m slots from global address g touch. -/
def wordsOf (g m : Nat) : Nat × Nat := (g / 8, (g + m - 1) / 8)

/-- How many words of a stretch fall on a data bank (05 R145). -/
def bankHits (f l bank : Nat) : Nat := (l + 176 - bank) / 176 - (f + 175 - bank) / 176

/-- The sources of a run that count towards the budget: primary, alternate, and each again at its protect address (05 R146). -/
def budgetSources (remap : List (Nat × Nat × Nat)) (e : Entry) : List Nat :=
  let one (g : Nat) : List Nat :=
    g :: remap.filterMap fun r => if gaddr r.1 0 ≤ g ∧ g < gaddr (r.1 + r.2.2) 0 then some (g + gaddr r.2.1 0 - gaddr r.1 0) else none
  (if e.kind = 0 then one e.ingress else []) ++ (match e.alt with | some c => one c.altIn | none => [])

/-- Word stretches that the constant-class reads, or the prompt reads, of window w make. -/
def windowReads (remap : List (Nat × Nat × Nat)) (page : List Entry) (prompt : Bool) (w : Nat) : List (Nat × Nat) :=
  page.flatMap fun e =>
    if e.kind = 0 ∧ e.prompt = prompt then
      (shareStarts w).flatMap fun a =>
        match sharePart e a with
        | some (off, n) => (budgetSources remap e).map fun g => wordsOf (g + off) n
        | none => []
    else []

/-- Reads of window w on one bank. -/
def windowBank (remap : List (Nat × Nat × Nat)) (page : List Entry) (w bank : Nat) : Nat :=
  ((windowReads remap page false w).map fun p => bankHits p.1 p.2 bank).sum

/-- Entries, companions included, that begin in window w: the row of their first egress slot lies in it (05 R146). -/
def windowEntries (page : List Entry) (w : Nat) : Nat :=
  (page.map fun e => if e.egress % 768000 / 768 / 8 = w then (if e.comp.isSome then 2 else 1) else 0).sum

/-- The source ranges of a run, each again at its protect address (05 R127, R146). -/
def budgetRanges (remap : List (Nat × Nat × Nat)) (e : Entry) : List (Nat × Nat) := (budgetSources remap e).map fun g => (g, e.slots)

/-- Prompt reads of window w. -/
def windowPrompt (remap : List (Nat × Nat × Nat)) (page : List Entry) (w : Nat) : Nat :=
  ((windowReads remap page true w).map fun p => p.2 - p.1 + 1).sum

/-- Words tapped into the ring from the ingress rows of window w: each word with a prompt ingress slot once (05 R127). -/
def windowTapped (remap : List (Nat × Nat × Nat)) (page : List Entry) (w : Nat) : Nat :=
  let stretches := (page.filter fun e => e.prompt).flatMap fun e =>
    (budgetRanges remap e).flatMap fun r => (shareStarts w).filterMap fun a =>
      let lo := max r.1 a
      let hi := min (r.1 + r.2) (a + 6144)
      if lo < hi then some (wordsOf lo (hi - lo)) else none
  (stretches.flatMap fun p => (List.range (p.2 - p.1 + 1)).map (p.1 + ·)).eraseDups.length

/-- The first window and bank that break a budget of R146; bank 0xFFFF where no bank is concerned (05 Table 5-5, check 10). -/
def budgetBreach (remap : List (Nat × Nat × Nat)) (page : List Entry) : Option (Nat × Nat) :=
  (List.range 125).findSome? fun w =>
    if 32768 < windowEntries page w then some (w, 0xFFFF)
    else match (List.range 176).find? fun b => decide (1024 < windowBank remap page w b) with
      | some b => some (w, b)
      | none => if 2048 < windowPrompt remap page w ∨ 2048 < windowTapped remap page w then some (w, 0xFFFF) else none

/-- Pairs in force: working port, protect port, width. -/
def State.pairsInForce (s : State) : List (Nat × Nat × Nat) :=
  s.prot.pairs.filterMap fun p => if p.2.protect = 255 then none else some (p.1, p.2.protect, s.width p.1)

/-- Pairs that count for the budget of the shadow page: working port, protect port, width. -/
def State.remaps (s : State) : List (Nat × Nat × Nat) :=
  s.prot.pairs.filterMap fun e =>
    let q := if e.2.pending then e.2.next else e.2.protect
    if q = 255 then none else some (e.1, q, s.width e.1)

end Sys2Proof.Machine
end

