-- ==== Sys2Proof/Machine/LaneOps.lean ====
section
/-! DEFINITION. Operations on a lane: stages, defects, the failed state, restart, placement. -/

namespace Sys2Proof.Machine

/-- The lane is enabled (2000:01), in a port die that runs. -/
def State.enabled (s : State) (l : Nat) : Bool := s.cfg 0x2000 1 l == 1 && s.portUp

/-- The lane does not train (2000:02; 03 R80). -/
def State.fixedMode (s : State) (l : Nat) : Bool := s.cfg 0x2000 2 l == 1

/-- The loopback of a lane: 0 none, 1 near-end serial, 2 near-end parallel, 3 far-end (03 Table 3-12). -/
def State.loopback (s : State) (l : Nat) : Nat := s.cfg 0x2000 8 l

/-- A near-end loopback is active. -/
def State.nearLoop (s : State) (l : Nat) : Bool := s.loopback l == 1 || s.loopback l == 2

/-- The lane trains: neither fixed coefficients nor a near-end loopback keep it from it (03 R80, Table 3-12). -/
def State.trains (s : State) (l : Nat) : Bool := !s.fixedMode l && !s.nearLoop l

/-- Indices of a preset: pre, main, post (03 Table 3-3). -/
def presetTaps (p : Nat) : Nat × Nat × Nat :=
  match p with
  | 0 => (0, 16, 0)
  | 1 => (0, 14, 2)
  | 2 => (0, 12, 4)
  | 3 => (2, 12, 2)
  | 4 => (2, 10, 4)
  | 5 => (0, 8, 8)
  | 6 => (2, 6, 8)
  | _ => (4, 4, 8)

/-- A coefficient set lies in Table 3-2 and is legal by R67, in steps of 0.025. -/
def tapsOk (t : Nat × Nat × Nat) : Bool :=
  decide (t.1 ≤ 8 ∧ t.2.1 ≤ 16 ∧ t.2.2 ≤ 16 ∧ t.1 + t.2.1 + t.2.2 ≤ 16 ∧ t.1 + t.2.2 ≤ t.2.1 + 16)

/-- Set the transmit taps. -/
def Train.setTaps (x : Train) (t : Nat × Nat × Nat) : Train := { x with txPre := t.1, txMain := t.2.1, txPost := t.2.2 }

/-- The transmit taps. -/
def Train.taps (x : Train) : Nat × Nat × Nat := (x.txPre, x.txMain, x.txPost)

/-- Coefficients of 2010:04 (03 R80, Table 3-12). -/
def State.fixedTaps (s : State) (l : Nat) : Nat × Nat × Nat := (s.cfgF 0x2010 4 l 0, s.cfgF 0x2010 4 l 1, s.cfgF 0x2010 4 l 2)

/-! Defects (04 R108, R109). -/

/-- Rank the defects: what a higher one suppresses is not present, and its detection starts from nothing (04 R109). -/
def Lane.rank (x : Lane) : Lane :=
  let lol := x.d.lol && !x.d.los
  let lof := x.d.lof && !x.d.los && !lol
  if x.d.los || lol || lof then
    { x with
      d := { x.d with lol := lol, lof := lof, lom := false, ais := false, rdi := false, tim := false, aisRun := 0, rdiRun := 0 }
      oh := { x.oh with traceBuf := [], traceLast := none, traceRun := 0, traceFresh := false, apsRun := 0, ssmRun := 0 } }
  else x

/-- A packet in assembly is discarded after LOS, LOL or LOF, and nothing gathered is delivered (04 Table 4-4). -/
def ChanRx.flush (c : ChanRx) : ChanRx := { c with synced := false, buf := [], ready := [], resume := none, pointer := 0xFFFF }

/-- Packets in assembly on both channels. -/
def Lane.assembling (x : Lane) : Nat := b2n (!x.ch.timeRx.buf.isEmpty) + b2n (!x.ch.dataRx.buf.isEmpty)

/-- LOS, LOL or LOF is present. -/
def Lane.noFrame (x : Lane) : Bool := x.d.los || x.d.lol || x.d.lof

/-- The present state of a lane's defects (04 Table 4-6, bits [7:0]). -/
def Lane.defectBits (x : Lane) : List Bool := [x.d.los, x.d.lol, x.d.lof, x.d.lom, x.d.ais, x.d.rdi, x.d.tim, x.d.slip]

/-- The lane is failed (04 R111). -/
def State.laneFailed (s : State) (l : Nat) : Bool :=
  let x := s.lane l
  s.enabled l && (x.d.los || x.d.lol || x.d.lof || x.d.lom || x.d.ais || (x.d.tim && s.cfg 0x3020 4 l == 2)
    || decide (x.bring.stage < 9) || s.nearLoop l)

/-- "Prompt phase lost" (04 R105). -/
def State.promptLost (s : State) (l : Nat) : Bool := s.enabled l && !(s.lane l).bay.aligned

/-- 3030:01 (04 Table 4-6). -/
def State.defectWord (s : State) (l : Nat) : Nat :=
  if s.enabled l then
    flagsWord ((s.lane l).defectBits ++ [decide ((s.lane l).bring.stage < 9), s.promptLost l, s.laneFailed l])
  else 0

/-- 3030:02: the failures raised on a lane (04 R110). -/
def State.failureWord (s : State) (l : Nat) : Nat :=
  if s.enabled l then
    flagsWord ((List.finRange 8).map fun i => s.store.conds.any fun c => c.cond == .lane (Fin.ofNat 48 l) i && c.failed)
  else 0

/-- Note the presence of each defect of a lane for the failures of 04 R110. -/
def State.noteLane (s : State) (l : LaneId) : State :=
  s.each (List.finRange 8) fun i s => s.noteCond (.lane l i) (s.enabled l && ((s.lane l).defectBits.getD i false))

/-! References as the lanes qualify them (09 R234 to R240). -/

/-- A reference. -/
def State.ref (s : State) (r : Nat) : Ref := tget {} s.tim.refs r

/-- Change a reference. -/
def State.modRef (s : State) (r : Nat) (f : Ref → Ref) : State := { s with tim.refs := tmod {} s.tim.refs r f }

/-- The lane of a lane reference. -/
def State.refLane (s : State) (r : Nat) : Option Nat :=
  let l := s.cfg 0x5420 2 r
  if r < 2 ∨ 48 ≤ l then none else some l

/-- The reference is enabled (5420:01). -/
def State.refOn (s : State) (r : Nat) : Bool := s.cfg 0x5420 1 r == 1 && s.portUp

/-- The lane of a lane reference is disabled, or failed (09 R234). -/
def State.refLaneBad (s : State) (r : Nat) : Bool :=
  match s.refLane r with
  | some l => !s.enabled l || s.laneFailed l
  | none => false

/-- No activity: no edges on REF0 or REF1, or no lane named (09 Table 9-5). -/
def State.refIdle (s : State) (r : Nat) : Bool :=
  if r < 2 then !(s.ref r).active || (s.ref r).actLost else (s.refLane r).isNone

/-- The reference is qualified (09 R238). -/
def State.refQual (s : State) (r : Nat) : Bool :=
  let x := s.ref r
  s.refOn r && !s.refIdle r && !s.refLaneBad r && !x.hardDis && !(x.softFlag && s.tim.warm && s.cfg 0x5400 9 0 == 1) && !x.noLock

/-- Follow the qualification of a reference: a loss is counted and stops its wait-to-restore, a return starts one, but for the first time (09 R239). -/
def State.evalRef (s : State) (r : RefId) : State :=
  let q := s.refQual r
  let x := s.ref r
  let s :=
    if q && !x.qual then
      s.modRef r fun x => { x with qual := true, seen := true, wtrSince := if x.seen && s.cfg 0x5400 4 0 != 0 then some s.now else none }
    else if !q && x.qual then
      (if s.refOn r then s.count 0x5430 2 1 r else s).modRef r fun x => { x with qual := false, wtrSince := none }
    else s
  s.noteCond (.refUnqualified r) (s.refOn r && !q)

/-- Follow every reference. -/
def State.evalRefs (s : State) : State := s.each (List.finRange 8) fun r s => s.evalRef r

/-! Stages (03 R81, R83, R85). -/

/-- Lose what a receiver below a stage does not have. -/
def Lane.below (x : Lane) (st : Nat) : Lane :=
  let x := if st < 9 then
      { x with
        bay := { x.bay with placed := false, depth := 0, moved := false, movedFor := 0, rxDone := [] }
        bring := { x.bring with measured := 0 }
        tr := { x.tr with skewExc := false } } else x
  let x := if st < 8 then
      { x with
        bring := { x.bring with logical := none, tagRun := 0, diffRun := 0, groups := [] }
        tr := { x.tr with widthMis := false, groupMis := false, dupLane := false } }
    else x
  let x := if st < 6 then
      { x with
        df := { x.df with frameLock := false, cands := [], missRun := 0, lockMissed := false, disRun := 0, pol5 := none }
        bring := { x.bring with polarity := 0 }
        bay := { x.bay with aligned := false, alignRun := 0, rxFrame := {} }
        par := { x.par with bipPrev := none }
        ch := { x.ch with sealIn := [], sealWait := [] }
        tr := { x.tr with rtrRun := 0 } } else x
  if st < 5 then { x with df := { x.df with blockLock := false, goodRun := 0, heads := [] } } else x

/-- The receiver goes to a stage; signal detect is timed from the entry (03 R81; log entry 195). -/
def Lane.goto (x : Lane) (st now : Nat) : Lane :=
  let x := x.below st
  { x with bring := { x.bring with stage := st, stageSince := now, highest := max x.bring.highest st, sdRun := if st = 1 then now else x.bring.sdRun } }

/-- A request byte that may be sent: a code 11b of a tap is hold, bit [0] is 0 (03 Table 3-7). -/
def requestByte (v : Nat) : Nat :=
  let tap (c : Nat) : Nat := if c = 3 then 0 else c
  tap (bits v 7 6) * 64 + tap (bits v 5 4) * 16 + tap (bits v 3 2) * 4 + bits v 1 1 * 2

/-- The requester makes a new request, with the next sequence; which, the spec leaves to the receiver (03 R76; log entry 21). Hold on every tap asks for nothing. -/
def Train.newRequest (x : Train) (l now : Nat) : Train :=
  let r := Config.tapRequest l now
  if requestByte r.1 = 0 then { x with request := 0, reqSince := none }
  else { x with reqSeq := (x.reqSeq + 1) % 256, request := requestByte r.1, reqPreset := r.2 % 8, reqSince := some now }

/-- No exchange of training messages is under way: nothing asked, nothing answered, not ready (03 R75 to R77). -/
def Train.quiet (x : Train) : Train :=
  { x with
    presetApplied := false, stPre := .notUpdated, stMain := .notUpdated, stPost := .notUpdated
    rxReady := false, partnerReady := 0, trainSince := none, trailSince := none, reqSince := none, holdFrames := 0 }

/-- Training begins (03 R75 to R78): a new training timer, and the module's first request, which waits for no status (log entry 194). -/
def Lane.startTraining (x : Lane) (l now : Nat) : Lane :=
  { x with tr := { x.tr.quiet with validMsg := false, trainSince := some now }.newRequest l now }

/-- The lanes of a port, as lanes of the module. -/
def State.portLanes (s : State) (p : Nat) : List LaneId := (List.finRange 48).filter fun l => s.portOf l == p

/-- Frames in one superframe, and the index of a frame identity. -/
def frameIdx (n s m : Nat) : Nat := n * 16000 + s * 128 + m

/-- The index of the present internal frame. -/
def State.frameNow (s : State) : Nat := frameIdx s.fab.superframe s.fab.sfi s.fab.mfi

/-- The difference of two arrivals, which repeat every superframe of 2 s. -/
def arrDiff (a b : Int) : Int := (a - b + 1000000000) % 2000000000 - 1000000000

/-- The earliest of some arrivals. -/
def earliest : List Int → Int
  | [] => 0
  | a :: as => as.foldl (fun e b => if arrDiff b e < 0 then b else e) a

/-- The spread of some arrivals. -/
def spreadOf (as : List Int) : Nat := (as.map fun a => (arrDiff a (earliest as)).toNat).foldl max 0

/-- The lanes of a port in service. -/
def State.inService (s : State) (p : Nat) : List LaneId := (s.portLanes p).filter fun l => (s.lane l).bring.stage == 9

/-- What a port does when one of its lanes changes stage: a lane that has left stage 8 drops out of the chosen set, the spread is that of the lanes
placed now, and a gather starts when a lane waits in stage 8, none is in service and none runs (03 R90, Table 3-15). -/
def State.watchPort (s : State) (p : Nat) : State :=
  let ls := s.portLanes p
  let s := if s.width p = 1 then s else s.modPort p fun q => { q with
    gatherSet := q.gatherSet.filter fun l => (s.lane l).bring.stage == 8
    spread := spreadOf ((s.inService p).map fun l => (s.lane l).bring.arrival) }
  let q := s.port p
  if s.width p = 1 then s
  else if ls.any (fun l => (s.lane l).bring.stage == 9) then s
  else if q.gather.isSome || !q.gatherSet.isEmpty then s
  else if ls.any (fun l => (s.lane l).bring.stage == 8) then s.modPort p fun q => { q with gather := some s.now }
  else s

/-- Change the raw PM data of a near end, of a far end, of a stream (12 R307). -/
def State.modNear (s : State) (l : Nat) (f : Raw → Raw) : State :=
  { s with pm.near := tmod {} s.pm.near l fun m => { m with raw := f m.raw } }
def State.modFar (s : State) (l : Nat) (f : Raw → Raw) : State :=
  { s with pm.far := tmod {} s.pm.far l fun m => { m with raw := f m.raw } }
def State.modStream (s : State) (k : Nat) (f : Raw → Raw) : State :=
  { s with pm.stream := tmod {} s.pm.stream k fun m => { m with raw := f m.raw } }

/-- Set flags in a bin in use; any of bits [6:1] makes it suspect (12 Table 12-4). -/
def Bin.mark (b : Bin) (flags : Nat) : Bin :=
  if b.used then
    let f := Nat.lor b.flags flags
    { b with flags := if bits f 6 1 = 0 then f else Nat.lor f 1 }
  else b

/-- A PM entity is cleared: its current bins are zeroed and marked (12 R323). -/
def Bin.clear (b : Bin) : Bin := if b.used then { used := true, start := b.start, flags := 17 } else b
def Mon.clear (m : Mon) : Mon := { m with q15 := m.q15.clear, q24 := m.q24.clear }

/-- Set flags in the open bins of an entity, of every entity (12 R314, R319). -/
def Mon.mark (m : Mon) (flags : Nat) : Mon := { m with q15 := m.q15.mark flags, q24 := m.q24.mark flags }
def State.markBins (s : State) (flags : Nat) : State :=
  { s with
    pm.near := tmap {} s.pm.near fun _ m => m.mark flags
    pm.far := tmap {} s.pm.far fun _ m => m.mark flags
    pm.stream := tmap {} s.pm.stream fun _ m => m.mark flags }

/-- A lane is enabled or disabled within the present second (12 Table 12-2). -/
def State.lanePartly (s : State) (l : Nat) : State := (s.modNear l fun r => { r with off := true }).modFar l fun r => { r with off := true }

/-- The first bit of a transmit frame leaves the pins this long after its internal boundary, ns (05 R125). INTERNAL_FRAME_BOUNDARY and REALIGNMENT
are given at that moment (log entry 85). -/
def frameLead : Nat := 2300

/-- Age of the present transmit frame, ns. -/
def State.frameAge (s : State) : Nat := s.now - s.fab.fpAt.getD s.now

/-- Rows of the present internal frame whose payload still leaves the forebay of a lane that fails now: the row now read, and two more (04 R112). -/
def State.rowsPassed (s : State) : Nat := min 1000 ((s.frameAge + frameLead) / 125 + 2)

/-- The payload of a lane that has just failed leaves the forebay as all-ones from here on (04 R112). -/
def State.cutPayload (s : State) (l : LaneId) : State :=
  let b := (s.lane l).bay
  let s := s.modLane l fun x => { x with bay := { x.bay with lanePay := false } }
  match b.pos with
  | some p =>
    let n := 1000 - s.rowsPassed
    if s.fab.frameNo % 2 = 0 then { s with fab.ones0 := tmod 0 s.fab.ones0 p (max n) }
    else { s with fab.ones1 := tmod 0 s.fab.ones1 p (max n) }
  | none => s

/-- The receiver adapts: in stage 2 and later, while its equaliser is not frozen (03 R70). -/
def State.adapts (s : State) (l : Nat) : Bool := decide (2 ≤ (s.lane l).bring.stage) && s.cfg 0x2020 0x0D l != 1

/-- The settings of an equaliser stand still from the moment at which it ceases to adapt (03 R70, R83). -/
def State.followEq (s : State) (l : LaneId) : State :=
  let a := s.adapts l
  s.modLane l fun x => { x with eq := { x.eq with fixedAt :=
    if a || x.bring.stage == 0 then none else some (x.eq.fixedAt.getD s.now) } }

/-- After a change of a lane: defects ranked, channels flushed, what follows from the failed state, conditions noted, the port watched. -/
def State.settle (s : State) (l : LaneId) : State :=
  let s := (s.modLane l fun x => x.rank).followEq l
  let x := s.lane l
  let s := if x.noFrame then
      (s.countN 0x3050 7 0 l x.assembling).modLane l fun x =>
        { x with ch := { x.ch with timeRx := x.ch.timeRx.flush, dataRx := x.ch.dataRx.flush, dataQueue := 0 } }
    else s
  let s := if s.laneFailed l then
      let s := if x.bay.lanePay then s.cutPayload l else s
      (s.modNear l fun r => { r with defect := true }).modLane l fun x => { x with
        oh := { x.oh with apsInvalid := true, ssmInvalid := true }
        par := { x.par with reiNext := 0, reiSent := 0 }
        ch := { x.ch with failSeen := true } }
    else s
  let s := if x.d.rdi then s.modFar l fun r => { r with defect := true } else s
  (s.noteLane l).evalRefs.watchPort (s.portOf l)

/-- Change a lane and settle. -/
def State.change (s : State) (l : LaneId) (f : Lane → Lane) : State := (s.modLane l f).settle l

/-- The defects that the loss or the gain of a lock brings (04 Table 4-1): LOL below block lock with a signal, LOF below frame lock. -/
def Lane.lockDefects (x : Lane) : Lane :=
  { x with d := { x.d with lol := x.bring.sd && !x.df.blockLock, lof := x.df.blockLock && !x.df.frameLock } }

/-- Thousandths of a UI in a training frame of 4,400 UI, and in a nanosecond (03 R65, R71). -/
def trainingFrameUi : Nat := 4400000
def uiPerNs : Nat := 51216

/-- The transmitter starts Zasyn blocks, its scrambler loaded with all ones; one that sends them already goes on (02 R29, 03 R77, R83). -/
def Lane.startZasyn (x : Lane) : Lane :=
  if x.bring.txMode = .zasyn then x
  else { x with bring := { x.bring with txMode := .zasyn }, df := { x.df with scr := BitVec.allOnes 58 }, tx := { x.tx with txRun := false } }

/-- The transmitter turns to training frames, its generator loaded; one that sends them already goes on (03 R72). -/
def Lane.sendTraining (x : Lane) (l : Nat) : Lane :=
  if x.bring.txMode = .training then x
  else { x with
    bring := { x.bring with txMode := .training }
    tr := { x.tr with prbs := BitVec.ofNat 13 (0x1000 + l), frameUi := trainingFrameUi }
    tx := { x.tx with txRun := false } }

/-- The lane sends with the coefficients of 2010:04: under fixed coefficients and in near-end serial loopback (03 R80, Table 3-12). -/
def State.usesFixedTaps (s : State) (l : Nat) : Bool := s.fixedMode l || s.loopback l == 1

/-- The transmitter of a lane whose receiver is in stages 1 to 3: training frames with the start preset where the lane trains, otherwise Zasyn
blocks, with the coefficients of 2010:04 where those rule and with those it has in near-end parallel loopback (03 R80, R81, R83, Table 3-12). -/
def State.trainTx (s : State) (l : Nat) (x : Lane) : Lane :=
  if s.trains l then let y := x.sendTraining l; { y with tr := y.tr.setTaps (presetTaps (s.cfg 0x2000 5 l)) }
  else
    let y := x.startZasyn
    if s.usesFixedTaps l then { y with tr := y.tr.setTaps (s.fixedTaps l) } else y

/-- Lane restart (03 R83): the receiver to stage 1 with its equaliser kept, the transmitter to training frames. -/
def State.laneRestart (s : State) (l : LaneId) (counted : Bool := true) : State :=
  if s.enabled l then
    let s := if counted then s.count 0x2030 1 0 l else s
    s.change l fun x =>
      let x := s.trainTx l ((x.goto 1 s.now).lockDefects)
      { x with
        bring := { x.bring with holdSince := none, cdr := false }
        tr := { x.tr.quiet with rtrSince := none, rtrRun := 0, msgRun := 0 } }
  else s

/-- The receiver of a lane past stage 3 falls back with a restart hold, unless one runs (03 R85). -/
def State.fallHold (s : State) (l : LaneId) (st : Nat) : State :=
  s.change l fun x =>
    let x := x.goto st s.now
    { x with bring := { x.bring with holdSince := some (x.bring.holdSince.getD s.now) } }

/-- Stage 4 entered. -/
def Lane.toBlockLock (x : Lane) (now : Nat) : Lane := x.goto 4 now

/-! Arrival and placement (03 R90, R91, 04 R106). -/

/-- The first internal frame boundary 93.75 microseconds or more after an arrival, both against the same boundary (04 R106). -/
def readBoundary (latest : Int) : Int := (93750 + latest + 124999) / 125000 * 125000

/-- Place one lane with a depth: stage 9, where it is not there already. -/
def Lane.place (x : Lane) (depth : Int) (now : Nat) (first : Int) : Lane :=
  let x := if x.bring.stage = 9 then x else x.goto 9 now
  { x with
    bring := { x.bring with placedAt := x.bring.arrival, skew := arrDiff x.bring.arrival first }
    bay := { x.bay with placed := true, moved := false, movedFor := 0, depth := depth.toNat } }

/-- The lane of some lanes that arrives first. -/
def State.firstLane (s : State) : List LaneId → Nat
  | [] => 0
  | l :: ls => ls.foldl (fun e k => if arrDiff (s.lane k).bring.arrival (s.lane e).bring.arrival < 0 then (k : Nat) else e) l

/-- The depth that placement gives a lane of a set: from its arrival to the first boundary 93.75 microseconds or more after the arrival of the latest
lane of the set. Arrivals are counted from the boundary nearest to the earliest lane's (04 R106). -/
def State.placeDepth (s : State) (ls : List LaneId) (l : Nat) : Int :=
  let e := s.lane (s.firstLane ls)
  let since (k : Nat) : Int := e.bay.phase + arrDiff (s.lane k).bring.arrival e.bring.arrival
  readBoundary (ls.foldl (fun m k => max m (since k)) e.bay.phase) - since l

/-- Place a set of lanes of a port together (03 R90). -/
def State.placeSet (s : State) (p : Nat) (ls : List LaneId) : State :=
  let arr := ls.map fun l => (s.lane l).bring.arrival
  let first := earliest arr
  let ds : List (LaneId × Int) := ls.map fun l => (l, s.placeDepth ls l)
  let s := s.each ds fun d s => s.change d.1 fun x => x.place d.2 s.now first
  s.modPort p fun q => { q with gather := none, gatherSet := [], window := first, spread := spreadOf arr }

/-- The largest set of lanes whose arrivals lie within 16 microseconds; a tie goes to the set with the lowest logical lane, and
between two that hold it to the one found first by physical lane (03 R90; log entry 196). -/
def State.gatherChoice (s : State) (ls : List LaneId) : List LaneId :=
  let arrival (l : LaneId) := (s.lane l).bring.arrival
  let low (set : List LaneId) := (set.map fun l => (s.lane l).bring.logical.getD 4).foldl min 4
  let sets := ls.map fun l => ls.filter fun k => decide (0 ≤ arrDiff (arrival k) (arrival l) ∧ arrDiff (arrival k) (arrival l) ≤ 16000)
  sets.foldl (fun best set =>
    if best.length < set.length ∨ (best.length = set.length ∧ low set < low best) then set else best) []

/-- How far a lane has wandered from its placed arrival (03 R91). -/
def Lane.wander (x : Lane) : Int := arrDiff x.bring.arrival x.bring.placedAt

/-- The wander that the lanes of a port in service have in common: that of the lane which has wandered least (03 R91, 04 R107; log entry 155). -/
def State.portWander (s : State) (p : Nat) : Int :=
  match (s.inService p).map fun l => (s.lane l).wander with
  | [] => 0
  | w :: ws => ws.foldl (fun m w => if w.natAbs < m.natAbs then w else m) w

/-- The start of a port's window now: it drifts with the port (03 R90, R91). -/
def State.windowNow (s : State) (p : Nat) : Int := (s.port p).window + s.portWander p

/-- A lane of stage 8 is placed when it may be: at once on a x1 port; with its set once all are measured; inside the window of a port in service,
at that port's read boundary (03 R90, 04 R106). -/
def State.tryPlace (s : State) (l : LaneId) : State :=
  let p := s.portOf l
  let x := s.lane l
  if x.bring.stage ≠ 8 then s
  else if s.width p = 1 then s.placeSet p [l]
  else
    match s.inService p with
    | k :: _ =>
      let d := arrDiff x.bring.arrival (s.windowNow p)
      if 8 ≤ x.bring.measured then
        if 0 ≤ d ∧ d ≤ 16000 then
          let k0 := s.lane k
          s.change l fun x => x.place (k0.bay.depth + arrDiff k0.bring.arrival x.bring.arrival) s.now (s.windowNow p)
        else s.change l fun x => { x with tr := { x.tr with skewExc := true } }
      else s
    | [] =>
      let set : List LaneId := (s.port p).gatherSet.filter fun k => (s.lane k).bring.stage == 8
      if !set.isEmpty && set.all (fun k => decide (8 ≤ (s.lane k).bring.measured)) then s.placeSet p set else s

end Sys2Proof.Machine
end

