-- ==== Sys2Proof/Machine/Operands.lean ====
section
/-! DEFINITION. The forms in which operands arrive: blocks, FABs, lane tags, section overhead, channel packets. -/

namespace Sys2Proof.Machine

/-- The eight bytes of a block, byte k in block bits [8k+7:8k] (02 R27). -/
def blockBytes (w : BitVec 64) : Bytes := [0, 8, 16, 24, 32, 40, 48, 56].map fun k => w.extractLsb' k 8

/-- The block of eight bytes. -/
def bytesBlock (b : Bytes) : BitVec 64 :=
  ((List.range 8).map fun k => ((b.getD k 0).zeroExtend 64) <<< (8 * k)).foldl (· ||| ·) 0

/-- The four 16-bit words that a block adds to the BIP-16, byte 2k high (02 R45). -/
def blockBip (w : BitVec 64) : BitVec 16 :=
  let b := blockBytes w
  [0, 2, 4, 6].foldl (fun a k => a ^^^ ((b.getD k 0) ++ (b.getD (k + 1) 0))) 0

/-- A lane tag without a reserved encoding (02 R40). -/
def tagOk (t : Nat) : Bool := decide (bits t 5 4 ≠ 3 ∧ bits t 7 6 < 2 ^ bits t 5 4)

/-- Lane tag of a width, a logical lane and a group (02 Table 2-4). -/
def laneTag (width logical group : Nat) : Nat :=
  logical % 4 * 64 + (if width = 4 then 2 else if width = 2 then 1 else 0) * 16 + group % 16

/-- A FAB's fields (02 Table 2-3). -/
structure Fab where
  mfi : Nat
  sfi : Nat
  tag : Nat
  deriving DecidableEq, Repr

/-- The FAB of a block, where it is valid (02 R38). -/
def fabOf (header : BitVec 2) (content : BitVec 64) : Option Fab :=
  let b := blockBytes content
  if header = 2 ∧ field b 0 1 = 0xC3 ∧ field b 1 3 = 0x5BA63C ∧ field b 4 1 ≤ 127 ∧ field b 5 1 ≤ 124
      ∧ crc8 ((b.drop 1).take 6) = field b 7 1 ∧ tagOk (field b 6 1) = true then
    some ⟨field b 4 1, field b 5 1, field b 6 1⟩
  else none

/-- The eight bytes of a FAB (02 R36, R37). -/
def fabBytes (f : Fab) : Bytes :=
  let b := beBytes 3 0x5BA63C ++ beBytes 1 f.mfi ++ beBytes 1 f.sfi ++ beBytes 1 f.tag
  [0xC3] ++ b ++ beBytes 1 (crc8 b)

/-- The MFI and SFI that follow (02 R41). -/
def nextMulti (m : Nat × Nat) : Nat × Nat :=
  if m.1 = 127 then (0, if m.2 = 124 then 0 else m.2 + 1) else (m.1 + 1, m.2)

/-- The content bytes 1 to 7 of an overhead block of rows 1 to 999; none where it is errored (02 R35). -/
def overheadOf (header : BitVec 2) (content : BitVec 64) : Option Bytes :=
  let b := blockBytes content
  if header = 2 ∧ field b 0 1 = 0x96 then some (b.drop 1) else none

/-- A trace period's text: 62 bytes and the CRC-16 that matches them (02 R49). -/
def traceText (b : Bytes) : Option Bytes :=
  if b.length = 64 ∧ crc16 (b.take 62) = field b 62 2 then some (b.take 60) else none

/-- The 64 bytes of a sent trace (02 R49). -/
def traceBytes (text : Bytes) : Bytes :=
  let b := text ++ zeros 2
  b ++ beBytes 2 (crc16 b)

/-- Rank of a quality level under an option, 1 the best; none for a code that the option does not assign (09 Table 9-2). -/
def qlRankOf (opt code : Nat) : Option Nat :=
  if opt = 2 then
    match code with
    | 0x00 => some 2
    | 0x01 => some 1
    | 0x04 => some 4
    | 0x07 => some 3
    | 0x0A => some 6
    | 0x0C => some 7
    | 0x0D => some 5
    | 0x0E => some 8
    | 0x0F => some 9
    | _ => none
  else
    match code with
    | 0x02 => some 1
    | 0x04 => some 2
    | 0x08 => some 3
    | 0x0B => some 4
    | 0x0F => some 5
    | _ => none

/-- The option assigns a code. -/
def qlAssigned (opt code : Nat) : Bool := (qlRankOf opt code).isSome

/-- Rank of a QL in use; QL-FAILED (0x10) ranks lowest. -/
def qlRank (opt code : Nat) : Nat := (qlRankOf opt code).getD 10

/-- A channel packet of type and body (02 Table 2-8). -/
def packetOf (data : Bytes) : Bytes :=
  let b := beBytes 2 data.length ++ data
  b ++ beBytes 2 (crc16 b)

/-- Type and body of a whole packet whose length lies within the channel's limit and whose CRC matches (02 R53). -/
def packetData (limit : Nat) (p : Bytes) : Option Bytes :=
  let n := field p 0 2
  if 1 ≤ n ∧ n ≤ limit ∧ p.length = n + 4 ∧ crc16 (p.take (n + 2)) = field p (n + 2) 2 then some ((p.drop 2).take n) else none

/-! The scrambler x^58 + x^39 + 1 (02 R28): bit 0 of the register is S[1]. -/

/-- Receive: the block bits, and the register after them. -/
def descramble (reg : BitVec 58) (w : BitVec 64) : BitVec 64 × BitVec 58 :=
  (List.range 64).foldl (fun (p : BitVec 64 × BitVec 58) i =>
    let r := w.getLsbD i
    let b := r ^^ p.2.getLsbD 38 ^^ p.2.getLsbD 57
    (p.1 ||| (if b then 1#64 <<< i else 0), (p.2 <<< 1) ||| (if r then 1#58 else 0))) (0, reg)

/-- Transmit: the bits sent, and the register after them. -/
def scramble (reg : BitVec 58) (w : BitVec 64) : BitVec 64 × BitVec 58 :=
  (List.range 64).foldl (fun (p : BitVec 64 × BitVec 58) i =>
    let b := w.getLsbD i ^^ p.2.getLsbD 38 ^^ p.2.getLsbD 57
    (p.1 ||| (if b then 1#64 <<< i else 0), (p.2 <<< 1) ||| (if b then 1#58 else 0))) (0, reg)

/-! Rows and blocks of a transmitted frame (02 R26 to R34, R61, R62). -/

/-- A block as it is sent: sync header, and content. -/
abbrev Block := BitVec 2 × BitVec 64

/-- The content bytes of n overhead blocks, seven to a row (02 R34). -/
def rowsOf : Nat → Bytes → List Bytes
  | 0, _ => []
  | n + 1, b => padTo 7 b :: rowsOf n (b.drop 7)

/-- The eight bytes of every overhead block of a frame: FAB, then rows 1 to 895 of the regions, then the reserved rows (02 R33, R34, R61, Table 2-2). -/
def overheadRows (fab so tc dc sc : Bytes) : List Bytes :=
  fab :: (rowsOf 895 (padTo 105 so ++ padTo 336 tc ++ padTo 448 dc ++ padTo 5376 sc)).map (0x96 :: ·)
    ++ (List.range 104).map fun i => 0x96 :: (beBytes 2 (896 + i) ++ zeros 5)

/-- n data blocks of payload (02 R31, R62). -/
def dataBlocks : Nat → Bytes → List Block
  | 0, _ => []
  | n + 1, b => (1, bytesBlock (b.take 8)) :: dataBlocks n (b.drop 8)

/-- Rows of 97 blocks: the overhead block, and 96 data blocks (02 R31). -/
def layRows : List Bytes → Bytes → List Block
  | [], _ => []
  | o :: os, p => (2, bytesBlock o) :: dataBlocks 96 (p.take 768) ++ layRows os (p.drop 768)

/-- Scramble the contents of blocks one after another; headers are sent as they are (02 R28). -/
def scrambleAll (reg : BitVec 58) : List Block → List Block × BitVec 58
  | [] => ([], reg)
  | b :: bs =>
    let x := scramble reg b.2
    let r := scrambleAll x.2 bs
    ((b.1, x.1) :: r.1, r.2)

/-- The line bits of a block, first sent first: the header's first bit is its left one, the content goes from bit 0 on (02 R26, R27). -/
def lineBits (b : Block) : List Bool := [b.1.getLsbD 1, b.1.getLsbD 0] ++ (List.range 64).map b.2.getLsbD

/-! The training frame (03 R71 to R74). -/

/-- A cell: 1100 for a 1, 0011 for a 0 (03 R72). -/
def cell (b : Bool) : List Bool := [b, b, !b, !b]

/-- The bits of a message in the order in which they are sent: bytes in order, bit 0 first (03 R72). -/
def messageBits (m : Bytes) : List Bool := m.flatMap fun b => (List.range 8).map b.getLsbD

/-- Marker and message field, 304 UI (03 Table 3-5). -/
def trainingHead (m : Bytes) : List Bool := List.replicate 24 true ++ List.replicate 24 false ++ (messageBits (padTo 8 m)).flatMap cell

/-- One step of the PRBS13 x^13 + x^12 + x^2 + x + 1: the bit sent, which is the new one, and the register after it, whose bit 0 it is (log entry 146). -/
def prbsStep (r : BitVec 13) : Bool × BitVec 13 :=
  let b := r.getLsbD 0 ^^ r.getLsbD 1 ^^ r.getLsbD 11 ^^ r.getLsbD 12
  (b, (r <<< 1) ||| (if b then 1#13 else 0))

/-- n bits of the pattern, and the register after them (03 R72). -/
def prbsBits : Nat → BitVec 13 → List Bool × BitVec 13
  | 0, r => ([], r)
  | n + 1, r => let x := prbsStep r; let y := prbsBits n x.2; (x.1 :: y.1, y.2)

/-- A whole training frame of 4,400 UI, and the generator as its pattern field leaves it (03 R71). -/
def trainingUi (m : Bytes) (r : BitVec 13) : List Bool × BitVec 13 :=
  let p := prbsBits 4096 r
  (trainingHead m ++ p.1, p.2)

/-- The bits of cells; none where a cell is neither 1100 nor 0011 (03 R74). -/
def cellBits : List Bool → Option (List Bool)
  | [] => some []
  | a :: b :: c :: d :: t => if a == b && c == d && a != c then (cellBits t).map (a :: ·) else none
  | _ => none

/-- Bytes of bits, bit 0 first; fuel is their number. -/
def bitsBytes : Nat → List Bool → Bytes
  | 0, _ => []
  | n + 1, l => BitVec.ofNat 8 (flagsWord (l.take 8)) :: bitsBytes n (l.drop 8)

/-- A message of the training layout: type 0x51 and a CRC-8 that matches (03 R74, Table 3-6). -/
def messageOk (m : Bytes) : Bool := m.length == 8 && field m 0 1 == 0x51 && crc8 (m.take 7) == field m 7 1

/-- The message of 304 received UI, UI 0 in bit 0: a complete marker and valid cells, straight or complemented, then a valid message (03 R74). -/
def trainingMessageOf (w : BitVec 304) : Option Bytes :=
  let ui := (List.range 304).map w.getLsbD
  let straight := ui.take 48 == List.replicate 24 true ++ List.replicate 24 false
  let turned := ui.take 48 == List.replicate 24 false ++ List.replicate 24 true
  if straight || turned then
    ((cellBits (if turned then (ui.drop 48).map (!·) else ui.drop 48)).map (bitsBytes 8)).filter messageOk
  else none

/-! Seal records (02 R57, R58). -/

/-- A seal record as received (02 Table 2-10). -/
def sealRecOf (b : Bytes) : SealRec := ⟨field b 0 2, bit (field b 2 1) 7, field b 3 5, field b 8 16⟩

/-- The 24 bytes of an empty record (02 R58). -/
def emptyRecord : Bytes := beBytes 2 0xFFFF ++ zeros 22

/-- The seal channel of the frame with an MFI: positions 224 MFI on of a multiframe's records, the rest empty (02 R57 to R59). -/
def sealRegion (records : List Bytes) (mfi : Nat) : Bytes :=
  ((List.range 224).map fun j => records.getD (224 * mfi + j) emptyRecord).flatten

end Sys2Proof.Machine
end

