-- ==== Sys2Proof/Machine/Lanes.lean ====
section
/-! DEFINITION. The lane commands: enable, bring-up, training, loopbacks, port width, trace and TIM settings (03, 04). -/

namespace Sys2Proof.Machine

/-- The lane of an element that has passed its check. -/
def laneOf (n : Nat) : LaneId := Fin.ofNat 48 n

/-! LANE_ENABLE and LANE_DISABLE (03 R81, R29, 02 R42). -/

/-- A lane just enabled: stage 1, the scrambler loaded with all ones; its transmit frames start at the next boundary. Time without signal counts
from the enabling on (log entry 147). A near-end loopback that is selected gives it its own signal, and so LOL until block lock (log entry 148). -/
def State.freshLane (s : State) (l : Nat) : Lane :=
  let x : Lane := {}
  let x := s.trainTx l { x with
    bring := { x.bring with stage := 1, highest := 1, stageSince := s.now, sdRun := s.now, sdSince := s.now, sd := s.nearLoop l }
    tr := x.tr.setTaps (presetTaps (s.cfg 0x2000 5 l)) }
  Lane.lockDefects { x with df := { x.df with scr := BitVec.allOnes 58 } }

/-- A lane that has become disabled: stage 0, electrical idle, nothing kept. -/
def State.laneOff (s : State) (l : LaneId) : State := (s.setLane l {}).settle l

/-- The write of 2000:01. -/
def effEnable (el : Nat) (_ : Session) (vs : List Nat) (s : State) : Act :=
  let l := laneOf el
  let was := s.cfg 0x2000 1 el == 1
  let s := s.setStaged 0x2000 1 el vs
  if !s.portUp then ok s
  else if vs.headD 0 = 1 then
    if was then ok s
    else ok ((((s.clearGroup 0x2030 el).setLane l (s.freshLane el)).lanePartly l).settle l)
  else if was then ok ((s.lanePartly l).laneOff l) else ok s

/-- The write of 2000:02 (03 R80). A lane in stages 1 to 3, outside a restart hold, turns its transmitter at once; one that trains leaves stage 3 for
stage 4. A lane past stage 3 takes the coefficients of 2010:04 at once, and goes back to training at its next restart (log entry 132). -/
def effTrainMode (el : Nat) (_ : Session) (vs : List Nat) (s : State) : Act :=
  let l := laneOf el
  let old := s.cfg 0x2000 2 el
  let s := s.setStaged 0x2000 2 el vs
  let st := (s.lane l).bring.stage
  if !s.enabled el || s.nearLoop el || old == s.cfg 0x2000 2 el then ok s
  else if 1 ≤ st ∧ st ≤ 3 ∧ (s.lane l).bring.holdSince = none then
    ok (s.change l fun x =>
      let x := s.trainTx l x
      if st = 3 ∧ s.fixedMode el = true then
        { x with tr := x.tr.quiet }.goto 4 s.now
      else x)
  else if s.fixedMode el then ok (s.modLane l fun x => { x with tr := x.tr.setTaps (s.fixedTaps l) })
  else ok s

/-- The write of 2000:05: a lane that sends training frames in stage 1 or 2 takes the new start preset at once (03 R81, Table 3-9). -/
def effPreset (el : Nat) (_ : Session) (vs : List Nat) (s : State) : Act :=
  let s := s.setStaged 0x2000 5 el vs
  let x := s.lane el
  if x.bring.txMode = .training ∧ 1 ≤ x.bring.stage ∧ x.bring.stage ≤ 2 then
    ok (s.modLane el fun x => { x with tr := x.tr.setTaps (presetTaps (s.cfg 0x2000 5 el)) })
  else ok s

/-- LANE_ENABLE (03 R81). -/
def execLaneEnable (rq : Rq) (lane : Nat) (s : State) : Out :=
  run (writeOf rq 0x2000 1 lane (u8 1) (effEnable lane)) s

/-- LANE_DISABLE (03 R81, Table 3-11). -/
def execLaneDisable (rq : Rq) (lane : Nat) (s : State) : Out :=
  run (writeOf rq 0x2000 1 lane (u8 0) (effEnable lane)) s

/-! Signal detect and CDR (03 R81, R85; 04 Table 4-1). -/

/-- The receiver of a lane looks at its J1 pins: it is enabled, and no near-end loopback is active (03 Table 3-12). -/
def State.listens (s : State) (l : LaneId) : Bool := s.enabled l && !s.nearLoop l

/-- Signal detect asserts. -/
def sdAssert (l : LaneId) (s : State) : State :=
  if s.listens l && !(s.lane l).bring.sd then
    s.change l fun x =>
      let x := { x with bring := { x.bring with sd := true, sdSince := s.now, sdRun := s.now } }
      if x.d.los then x else x.lockDefects
  else s

/-- SIGNAL_DETECT_ASSERT (04 R108: LOL from this moment until block lock). -/
def execSignalDetectAssert (lane : LaneId) (s : State) : Out := run (sdAssert lane) s

/-- Signal detect deasserts (03 R85, Table 3-11). -/
def sdDeassert (l : LaneId) (s : State) : State :=
  if s.listens l && (s.lane l).bring.sd then
    let st := (s.lane l).bring.stage
    let s := s.modLane l fun x => { x with bring := { x.bring with sd := false, sdSince := s.now, cdr := false } }
    if 4 ≤ st ∨ (s.lane l).bring.holdSince.isSome = true then s.fallHold l 1
    else if 2 ≤ st then s.laneRestart l false
    else s.settle l
  else s

/-- SIGNAL_DETECT_DEASSERT. -/
def execSignalDetectDeassert (lane : LaneId) (s : State) : Out := run (sdDeassert lane) s

/-- Signal detect asserted for 100 microseconds in stage 1 (03 Table 3-10); a near-end loopback's own signal counts (log entry 148). -/
def sdStable (l : LaneId) (s : State) : State :=
  let x := s.lane l
  if s.enabled l && x.bring.sd && x.bring.stage == 1 && s.over x.bring.sdRun 100000 then
    s.change l fun x => x.goto 2 s.now
  else s

/-- SIGNAL_DETECT_STABLE. -/
def execSignalDetectStable (lane : LaneId) (s : State) : Out := run (sdStable lane) s

/-- LOS after 10 microseconds without signal (04 Table 4-1). -/
def declareLos (l : LaneId) (s : State) : State :=
  let x := s.lane l
  if s.listens l && !x.bring.sd && !x.d.los && s.over x.bring.sdSince 10000 then
    s.change l fun x => { x with d := { x.d with los := true } }
  else s

/-- LOS_DECLARED. -/
def execLosDeclared (lane : LaneId) (s : State) : Out := run (declareLos lane) s

/-- LOS clears after 100 microseconds of signal (04 Table 4-1). -/
def clearLos (l : LaneId) (s : State) : State :=
  let x := s.lane l
  if x.d.los && x.bring.sd && s.over x.bring.sdSince 100000 then
    s.change l fun x => ({ x with d := { x.d with los := false } }).lockDefects
  else s

/-- LOS_CLEARED. -/
def execLosCleared (lane : LaneId) (s : State) : Out := run (clearLos lane) s

/-- The clock is locked: stage 4 within a restart hold, under fixed coefficients and in near-end serial loopback; otherwise stage 3 (03 R80, R85, Table 3-12). -/
def cdrStable (l : LaneId) (s : State) : State :=
  let x := s.lane l
  if s.enabled l && x.bring.stage == 2 then
    let skip := x.bring.holdSince.isSome || s.fixedMode l || s.nearLoop l
    s.change l fun x =>
      let x := { x with bring := { x.bring with cdr := true, highest := max x.bring.highest 3 } }
      if skip then x.startZasyn.goto 4 s.now else s.trainTx l ((x.goto 3 s.now).startTraining l s.now)
  else s

/-- CDR_LOCK_STABLE (03 Table 3-10). -/
def execCdrLockStable (lane : LaneId) (s : State) : Out := run (cdrStable lane) s

/-- No lock within 10 ms of stage 2: back to stage 1, counted (03 Table 3-10). -/
def cdrTimeout (l : LaneId) (s : State) : State :=
  let x := s.lane l
  if x.bring.stage == 2 && s.over x.bring.stageSince (msecs 10) then
    (s.count 0x2030 5 0 l).change l fun x => x.goto 1 s.now
  else s

/-- CDR_LOCK_TIMEOUT. -/
def execCdrLockTimeout (lane : LaneId) (s : State) : Out := run (cdrTimeout lane) s

/-- The clock is lost: restart from stage 3, stage 2 with a restart hold from stage 4 on (03 R85). In near-end parallel loopback the receive block
path takes no clock from J1 (03 Table 3-12). -/
def cdrLost (l : LaneId) (s : State) : State :=
  let x := s.lane l
  if s.loopback l = 2 then s
  else
    let s := s.modLane l fun x => { x with bring := { x.bring with cdr := false } }
    if 4 ≤ x.bring.stage then
      (s.fallHold l 2).change l fun x => x.lockDefects
    else if x.bring.stage = 3 then s.laneRestart l false
    else s

/-- CDR_LOCK_LOST. -/
def execCdrLockLost (lane : LaneId) (s : State) : Out := run (cdrLost lane) s

/-! Training (03 R72 to R79). -/

/-- One tap request: 0 hold, 1 increment, 2 decrement, 3 reserved (03 Table 3-7). -/
def stepTap (req : Nat) (t : Nat × Nat × Nat) (which : Nat) : Option (Nat × Nat × Nat) :=
  let up := req == 1
  let mv (v : Nat) : Option Nat := if up then some (v + 1) else if v = 0 then none else some (v - 1)
  let t' := match which with
    | 0 => (mv t.1).map fun v => (v, t.2.1, t.2.2)
    | 1 => (mv t.2.1).map fun v => (t.1, v, t.2.2)
    | _ => (mv t.2.2).map fun v => (t.1, t.2.1, v)
  t'.filter tapsOk

/-- The answer to one tap's request: its new status and the taps (03 R75). -/
def answerTap (req : Nat) (st : TapStatus) (t : Nat × Nat × Nat) (which : Nat) : TapStatus × (Nat × Nat × Nat) :=
  if req = 0 ∨ req = 3 then (.notUpdated, t)
  else if st ≠ .notUpdated then (st, t)
  else match stepTap req t which with
    | some t' => (.updated, t')
    | none => (if req = 1 then .atMax else .atMin, t)

/-- The responder's action on a valid message (03 R75). -/
def respondTap (x : Train) (m : Bytes) : Train :=
  let r := field m 1 1
  let x := { x with answered := field m 4 1 }
  if bit r 1 then
    let x := if x.presetApplied then x else { x.setTaps (presetTaps (bits (field m 3 1) 2 0)) with presetApplied := true }
    { x with stPre := .updated, stMain := .updated, stPost := .updated }
  else
    let a := answerTap (bits r 7 6) x.stPre x.taps 0
    let b := answerTap (bits r 5 4) x.stMain a.2 1
    let c := answerTap (bits r 3 2) x.stPost b.2 2
    { x.setTaps c.2 with presetApplied := false, stPre := a.1, stMain := b.1, stPost := c.1 }

/-- The code of a tap status (03 Table 3-8). -/
def TapStatus.code : TapStatus → Nat
  | .notUpdated => 0
  | .updated => 1
  | .atMin => 2
  | .atMax => 3

/-- The status byte that the module sends (03 Table 3-8). -/
def statusByte (x : Train) : Nat :=
  x.stPre.code * 64 + x.stMain.code * 16 + x.stPost.code * 4 + (if x.rxReady then 2 else 0)

/-- Every tap that a request byte asks for shows another status than "not updated"; a preset asks for all three (03 R76). -/
def answersAll (request status : Nat) : Bool :=
  let done (hi : Nat) : Bool := bits status hi (hi - 1) != 0 || (bits request hi (hi - 1) == 0 && !bit request 1)
  done 7 && done 5 && done 3

/-- The requester's side of a message (03 R76): an answer ends the request; when all statuses read "not updated" and the receiver is not ready, the
next request goes out. While hold is sent after a missing answer, neither happens. -/
def requester (x : Train) (l : Nat) (m : Bytes) (now : Nat) : Train :=
  let st := field m 2 1
  if x.holdFrames ≠ 0 then x
  else if x.reqSince.isSome then
    if field m 5 1 = x.reqSeq ∧ answersAll x.request st = true then { x with request := 0, reqSince := none } else x
  else if bits st 7 2 = 0 ∧ !x.rxReady then x.newRequest l now else x

/-- Both ends are ready, the partner three messages running: the trailing frames begin (03 R77). -/
def Train.startTrail (x : Train) (now : Nat) : Train :=
  if x.rxReady && x.partnerReady == 3 && x.trailSince.isNone then { x with trailSince := some now } else x

/-- The ready condition: converged, an eye of 30 mV and 0.30 UI at the sampler (03 R77). -/
def eyeReady (e : EyeObs) : Bool := e.converged && decide (30 ≤ e.height ∧ 300 ≤ e.width)

/-- What a message says of the partner's receiver, with this receiver's own condition (03 R77). -/
def Train.hear (x : Train) (m : Bytes) (rxReady : Bool) : Train :=
  { x with rxReady := rxReady, validMsg := true, partnerReady := if bit (field m 2 1) 1 then min 3 (x.partnerReady + 1) else 0 }

/-- A message in stage 3 (03 R75 to R77). -/
def trainMessage (x : Lane) (l : Nat) (m : Bytes) (rxReady : Bool) (now : Nat) : Lane :=
  { x with tr := (requester ((respondTap x.tr m).hear m rxReady) l m now).startTrail now }

/-- What the sampler shows is kept (03 R77). -/
def Lane.seeEye (x : Lane) (e : EyeObs) : Lane := { x with eq := { x.eq with eyeHeight := e.height, eyeWidth := e.width } }

/-- A training frame's marker and message field arrive. A frame without a valid message breaks the run of the partner's RXREADY (log entry 149). -/
def recvTraining (l : LaneId) (w : BitVec 304) (e : EyeObs) (s : State) : State :=
  let x := s.lane l
  if !s.listens l then s
  else if x.bring.stage = 3 then
    let s := s.modLane l fun x => x.seeEye e
    match trainingMessageOf w with
    | some m =>
      let s := s.change l fun x => trainMessage x l m (eyeReady e) s.now
      s.emit (.training l (statusByte (s.lane l).tr) (s.lane l).tr.answered)
    | none => s.modLane l fun x => { x with tr := { x.tr with partnerReady := 0, rxReady := (eyeReady e) } }
  else if 4 ≤ x.bring.stage then
    if (trainingMessageOf w).isSome then
      let n := if x.tr.msgRun ≠ 0 ∧ s.now ≤ x.tr.msgAt + 86 then x.tr.msgRun + 1 else 1
      let s := s.modLane l fun x => { x with tr := { x.tr with msgRun := n, msgAt := s.now } }
      if 3 ≤ n then s.laneRestart l else s
    else s.modLane l fun x => { x with tr := { x.tr with msgRun := 0 } }
  else s

/-- TRAINING_MESSAGE (03 R74 to R77, Table 3-11). -/
def execTrainingMessage (lane : LaneId) (symbols : BitVec 304) (eye : EyeObs) (s : State) : Out :=
  run (recvTraining lane symbols eye) s

/-- No answer within 1 ms: hold for 16 training frames, after which the request is repeated with a new sequence (03 R76). -/
def responseTime (l : LaneId) (s : State) : State :=
  let x := s.lane l
  match x.bring.stage, x.tr.reqSince with
  | 3, some t =>
    if s.over t (msecs 1) then s.modLane l fun x => { x with tr := { x.tr with holdFrames := 17, reqSince := none } }
    else s
  | _, _ => s

/-- RESPONSE_TIME_EXPIRY. -/
def execResponseTimeExpiry (lane : LaneId) (s : State) : Out := run (responseTime lane) s

/-- The message that a training frame carries (03 R73): the request while it is out, otherwise hold; the statuses; the sequences; the sender's lane. -/
def Train.message (x : Train) (l : Nat) : Bytes :=
  let b := [0x51] ++ beBytes 1 (if x.reqSince.isSome then x.request else 0) ++ beBytes 1 (statusByte x) ++ beBytes 1 x.reqPreset
    ++ beBytes 1 x.reqSeq ++ beBytes 1 x.answered ++ beBytes 1 l
  b ++ beBytes 1 (crc8 b)

/-- A training frame begins: after 16 frames of hold the request is repeated with a new sequence (03 R76). -/
def Train.nextFrame (x : Train) (now : Nat) : Train :=
  if x.holdFrames = 1 then { x with holdFrames := 0, reqSeq := (x.reqSeq + 1) % 256, reqSince := some now }
  else { x with holdFrames := x.holdFrames - 1 }

/-- A lane sends a training frame: marker, message and pattern; the generator runs on from frame to frame (03 R71, R72). -/
def State.trainingFrame (s : State) (l : LaneId) : State :=
  let x := (s.lane l).tr.nextFrame s.now
  let f := trainingUi (x.message l) x.prbs
  (s.modLane l fun y => { y with tr := { x with prbs := f.2 } }).emit (.trainingFrame l f.1)

/-- One nanosecond of a lane that sends training frames, which follow one another without a gap (03 R71). -/
def State.tickTraining (s : State) (l : LaneId) : State :=
  let n := (s.lane l).tr.frameUi + uiPerNs
  if n < trainingFrameUi then s.modLane l fun x => { x with tr := { x.tr with frameUi := n } }
  else s.trainingFrame l |>.modLane l fun x => { x with tr := { x.tr with frameUi := n - trainingFrameUi } }

/-- The training timer of stage 3 expires (03 R79). -/
def trainingTimer (l : LaneId) (s : State) : State :=
  let x := s.lane l
  match x.bring.stage, x.tr.trainSince, x.tr.trailSince with
  | 3, some t, none =>
    if s.over t (msecs (s.cfg 0x2000 4 l)) then
      if x.tr.validMsg || s.cfg 0x2000 3 l != 1 then
        ((s.count 0x2030 2 0 l).modLane l fun x => { x with tr := { x.tr with withoutPartner := false } }).laneRestart l
      else (s.count 0x2030 3 0 l).change l fun x =>
        let x := { x with tr := { x.tr.setTaps (presetTaps (s.cfg 0x2000 5 l)) with withoutPartner := true, trainSince := none } }
        x.startZasyn.toBlockLock s.now
    else s
  | _, _, _ => s

/-- TRAINING_TIMER_EXPIRY. -/
def execTrainingTimerExpiry (lane : LaneId) (s : State) : Out := run (trainingTimer lane) s

/-- The 256 trailing frames have been sent: Zasyn blocks start, and the receiver enters stage 4 (03 R77). -/
def trailingEnd (l : LaneId) (s : State) : State :=
  let x := s.lane l
  match x.bring.stage, x.tr.trailSince with
  | 3, some t =>
    if s.over t 21990 then
      s.change l fun x =>
        let x := { x with tr := { x.tr with withoutPartner := false, trailSince := none, trainSince := none } }
        x.startZasyn.toBlockLock s.now
    else s
  | _, _ => s

/-- TRAILING_FRAMES_END. -/
def execTrailingFramesEnd (lane : LaneId) (s : State) : Out := run (trailingEnd lane) s

/-- No block lock within 5 ms of stage 3, outside a restart hold (03 Table 3-9). -/
def blockLockTimeout (l : LaneId) (s : State) : State :=
  let x := s.lane l
  if x.bring.stage == 4 && x.bring.holdSince.isNone && s.over x.bring.stageSince (msecs 5) then s.laneRestart l else s

/-- BLOCK_LOCK_TIMEOUT. -/
def execBlockLockTimeout (lane : LaneId) (s : State) : Out := run (blockLockTimeout lane) s

/-- The restart hold expires without block lock (03 R85). -/
def holdExpiry (l : LaneId) (s : State) : State :=
  match (s.lane l).bring.holdSince with
  | some t => if s.over t (msecs (s.cfg 0x2000 6 l)) then s.laneRestart l else s
  | none => s

/-- RESTART_HOLD_EXPIRY. -/
def execRestartHoldExpiry (lane : LaneId) (s : State) : Out := run (holdExpiry lane) s

/-! Retraining (03 R87). -/

/-- The write of 2000:09: RTR for 8 frames; a lane that sends training frames restarts at once. -/
def effRetrain (el : Nat) (_ : Session) (_ : List Nat) (s : State) : Act :=
  let l := laneOf el
  if !s.enabled el then ok s
  else if (s.lane el).bring.txMode = .zasyn then ok (s.modLane el fun x => { x with tr := { x.tr with rtrSince := some s.now } })
  else ok (s.laneRestart l)

/-- RETRAIN. -/
def execRetrain (rq : Rq) (lane : Nat) (arg : Byte) (s : State) : Out :=
  run (writeOf rq 0x2000 9 lane [arg] (effRetrain lane)) s

/-- The 8 frames of RTR have been sent: the lane restarts. -/
def rtrEnd (l : LaneId) (s : State) : State :=
  match (s.lane l).tr.rtrSince with
  | some t => if s.over t (msecs 1) then s.laneRestart l else s
  | none => s

/-- RTR_PERIOD_END. -/
def execRtrPeriodEnd (lane : LaneId) (s : State) : Out := run (rtrEnd lane) s

/-! Deskew (03 R90). -/

/-- The 4 ms gather of a port ends: the set is chosen, and placed once every lane of it is measured. -/
def gatherEnd (p : LaneId) (s : State) : State :=
  match (s.port p).gather with
  | some t =>
    if s.over t (msecs 4) then
      let waiting : List LaneId := (s.portLanes p).filter fun l => (s.lane l).bring.stage == 8
      let set := s.gatherChoice waiting
      let s := s.modPort p fun q => { q with gather := none, gatherSet := set }
      let s := s.each waiting fun l s => if set.contains l then s else s.modLane l fun x => { x with tr := { x.tr with skewExc := true } }
      match set with
      | l :: _ => s.tryPlace l
      | [] => s
    else s
  | none => s

/-- GATHER_END. -/
def execGatherEnd (port : LaneId) (s : State) : Out := run (gatherEnd port) s

/-! Loopbacks (03 R92, R93). -/

/-- A near-end loopback begins on a lane: the receiver goes to its stage without a restart hold, the transmitter sends Zasyn blocks, and the looped
signal is what signal detect sees from here on (03 R92, Table 3-12; log entry 148). -/
def Lane.loopIn (x : Lane) (st now : Nat) : Lane :=
  let y := x.startZasyn.goto st now
  Lane.lockDefects { y with
    bring := { y.bring with holdSince := none, sd := true, sdSince := now, sdRun := now }
    tr := { y.tr with trainSince := none, trailSince := none, rtrSince := none } }

/-- The write of 2000:08. -/
def effLoopback (el : Nat) (_ : Session) (vs : List Nat) (s : State) : Act :=
  let l := laneOf el
  let v := vs.headD 0
  let cur := s.loopback el
  if v ≠ 0 ∧ cur ≠ 0 ∧ v ≠ cur then .refuse (naming stState 0x2020 1 el)
  else
    let t := s.setVal 0x2000 8 el [v]
    if v = cur ∨ !s.enabled el then ok t
    else if v = 1 then
      ok (t.change l fun x => let y := x.loopIn 2 s.now; { y with tr := y.tr.setTaps (s.fixedTaps el) })
    else if v = 2 then ok (t.change l fun x => x.loopIn 4 s.now)
    else if v = 3 then ok (t.modLane el fun x => { x with tx := { x.tx with felbTx := true } })
    else if cur = 3 then ok (t.modLane el fun x => { x with tx := { x.tx with felbTx := false } })
    else ok ((t.modLane el fun x => { x with bring := { x.bring with sd := false, sdSince := s.now } }).laneRestart l)

/-- LOOPBACK_OFF. -/
def execLoopbackOff (rq : Rq) (lane : Nat) (s : State) : Out := run (writeOf rq 0x2000 8 lane (u8 0) (effLoopback lane)) s

/-- LOOPBACK_SERIAL. -/
def execLoopbackSerial (rq : Rq) (lane : Nat) (s : State) : Out := run (writeOf rq 0x2000 8 lane (u8 1) (effLoopback lane)) s

/-- LOOPBACK_PARALLEL. -/
def execLoopbackParallel (rq : Rq) (lane : Nat) (s : State) : Out := run (writeOf rq 0x2000 8 lane (u8 2) (effLoopback lane)) s

/-- LOOPBACK_FAR_END. -/
def execLoopbackFarEnd (rq : Rq) (lane : Nat) (s : State) : Out := run (writeOf rq 0x2000 8 lane (u8 3) (effLoopback lane)) s

/-! Equaliser freeze (03 R70). -/

/-- The write of 2020:0D, a volatile setting: the equaliser stands still from here on, or adapts again. -/
def effFreeze (el : Nat) (_ : Session) (vs : List Nat) (s : State) : Act := ok ((s.setVal 0x2020 0x0D el vs).followEq (laneOf el))

/-- EQUALISER_FREEZE. -/
def execEqualiserFreeze (rq : Rq) (lane : Nat) (s : State) : Out := run (writeOf rq 0x2020 0x0D lane (u8 1) (effFreeze lane)) s

/-- EQUALISER_UNFREEZE. -/
def execEqualiserUnfreeze (rq : Rq) (lane : Nat) (s : State) : Out := run (writeOf rq 0x2020 0x0D lane (u8 0) (effFreeze lane)) s

/-! Port width (03 R95). -/

/-- A pair is in force, or written and not yet in force. -/
def Pair.alive (x : Pair) : Bool := x.protect != 255 || (x.pending && x.next != 255)

/-- A port belongs to a protection pair, in force or pending (07 R182). -/
def State.inPair (s : State) (p : Nat) : Bool :=
  s.prot.pairs.any fun e => e.2.alive && (e.1 == p || e.2.protect == p || (e.2.pending && e.2.next == p))

/-- The port objects of a lane go back to their defaults (14 R373), and count as staged. -/
def State.portDefaults (s : State) (p : Nat) : State :=
  s.each [1, 2, 3, 4] fun sub s => s.setStaged 0x2800 sub p (objDefault (ssmOption s.persist.dict) 0x2800 sub p)

/-- The write of 2800:01. -/
def effWidth (el : Nat) (_ : Session) (vs : List Nat) (s : State) : Act :=
  let w := vs.headD 0
  let old := s.width el
  let range := (List.range w).map (el + ·)
  let ports := (range.map s.portOf).eraseDups.filter (· != el)
  let across := ports.any fun p => decide (p < el ∨ el + w < p + s.width p)
  if w = 3 then .refuse (refusal stRange)
  else if el % w ≠ 0 ∨ 48 < el + w ∨ across then .refuse (refusal stConflict)
  else match s.userOf el (max w old) with
    | some h => .refuse (naming stState 0x4200 1 h)
    | none =>
      match (el :: ports).find? s.inPair with
      | some p => .refuse (naming stState 0x3800 6 p)
      | none =>
        let s := s.each ports fun p s => s.portDefaults p
        let s := s.setStaged 0x2800 1 el [w]
        let s := s.each ((List.range old).map (el + ·)) fun p s => if el + w ≤ p then s.portDefaults p else s
        let s := s.each ((List.range (max w old)).map (el + ·)) fun p s => s.modPort p fun _ => {}
        ok (s.each ((List.range (max w old)).map (el + ·)) fun l s => s.laneRestart (laneOf l))

/-- PORT_WIDTH_WRITE. -/
def execPortWidthWrite (rq : Rq) (port : Nat) (width : Nat) (s : State) : Out :=
  run (writeOf rq 0x2800 1 port (u8 width) (effWidth port)) s

/-! Trace and TIM (04 R118, R119). -/

/-- TIM against the accepted trace (04 R119). -/
def State.evalTim (s : State) (l : LaneId) : State :=
  s.change l fun x =>
    let t := match x.oh.traceAcc with
      | some a => s.cfg 0x3020 4 l != 0 && x.oh.traceFresh && beNat a != s.cfg 0x3020 2 l
      | none => false
    { x with d := { x.d with tim := t } }

/-- Every byte of a value is printable ASCII (04 Table 4-5). -/
def printable (n v : Nat) : Bool := (beBytes n v).all fun b => decide (0x20 ≤ b.toNat ∧ b.toNat ≤ 0x7E)

/-- The write of 3020:02. -/
def effExpectedTrace (el : Nat) (_ : Session) (vs : List Nat) (s : State) : Act :=
  guardAct (!printable 60 (vs.headD 0)) (refusal stRange) (ok ((s.setStaged 0x3020 2 el vs).evalTim (laneOf el)))

/-- EXPECTED_TRACE_WRITE. -/
def execExpectedTraceWrite (rq : Rq) (lane : Nat) (text : Bytes) (s : State) : Out :=
  run (writeOf rq 0x3020 2 lane text (effExpectedTrace lane)) s

/-- The write of 3020:04. -/
def effTimMode (el : Nat) (_ : Session) (vs : List Nat) (s : State) : Act :=
  ok ((s.setStaged 0x3020 4 el vs).evalTim (laneOf el))

/-- TIM_MODE_WRITE. -/
def execTimModeWrite (rq : Rq) (lane : Nat) (mode : Nat) (s : State) : Out :=
  run (writeOf rq 0x3020 4 lane (u8 mode) (effTimMode lane)) s

/-! SLIP clears 10 s after the last slip (04 Table 4-1). -/

/-- The SLIP defect ends. -/
def slipEnd (l : LaneId) (s : State) : State :=
  let x := s.lane l
  if x.d.slip && s.over x.d.slipAt (secs 10) then s.change l fun x => { x with d := { x.d with slip := false } } else s

/-- SLIP_CLEARED. -/
def execSlipCleared (lane : LaneId) (s : State) : Out := run (slipEnd lane) s

/-- Internal fault of a lane's transmit queue: its transmitter is restarted, and the fault is logged (01 R20, Table 1-4). -/
def txQueueFault (l : LaneId) (s : State) : State :=
  let s := s.auditObj 0x2020 1 l
  if s.enabled l then s.modLane l fun x => { x with df := { x.df with scr := BitVec.allOnes 58 }, tx := { x.tx with txRun := false } }
  else s

/-- TX_QUEUE_FAULT. -/
def execTxQueueFault (lane : LaneId) (s : State) : Out := run (txQueueFault lane) s

/-- A lane is taken to LOF: frame lock is lost (01 Table 1-4). -/
def overheadQueueFault (l : LaneId) (s : State) : State :=
  let s := s.auditObj 0x2020 1 l
  if s.enabled l && (s.lane l).df.frameLock then s.change l fun x => (x.goto 5 s.now).lockDefects else s

/-- OVERHEAD_QUEUE_FAULT. -/
def execOverheadQueueFault (lane : LaneId) (s : State) : Out := run (overheadQueueFault lane) s

end Sys2Proof.Machine
end

