-- ==== Sys2Proof/Machine/SealOps.lean ====
section
/-! DEFINITION. Operations of circuit sealing: streams, keys, counters, verdicts (11). -/

namespace Sys2Proof.Machine

/-! Lanes and logical positions (03 R89, 05 R124). -/

/-- The logical position of the frames that a lane receives. -/
def State.rxPos (s : State) (l : Nat) : Option Nat := (s.lane l).bring.logical.map (s.portOf l + ·)

/-- The logical position whose egress slots a lane sends (03 R89). -/
def State.txPos (s : State) (l : Nat) : Nat :=
  let p := s.portOf l
  if s.cfg 0x2800 4 p = 1 then p + (s.width p - 1 - (l - p)) else l

/-- The lane that carries a logical position in the receive direction: the one identified as it, otherwise the one of normal order (03 R88; log entry 43). -/
def State.rxLane (s : State) (pos : Nat) : Nat :=
  ((List.range 48).find? fun l => s.rxPos l == some pos).getD pos

/-- The lane that carries a logical position in the transmit direction: reversal is its own inverse. -/
def State.txLane (s : State) (pos : Nat) : Nat := s.txPos pos

/-! Configured streams (11 R277, R278, Table 11-11). -/

/-- Elements of an object that hold a value other than the default. -/
def State.elemsOf (s : State) (index sub : Nat) : List Nat :=
  s.persist.dict.filterMap fun e => if e.1 / 4294967296 = index * 256 + sub then some (e.1 % 4294967296) else none

/-- Fields of a transmit stream: enable, circuit, leg, lane, handle, slot, salt. -/
def State.txF (s : State) (k i : Nat) : Nat := s.cfgF 0x5C20 1 k i

/-- Fields of a receive stream: enable, circuit, lane, handle, slot, salt, mode. -/
def State.rxF (s : State) (k i : Nat) : Nat := s.cfgF 0x5C30 1 k i

/-- Enabled transmit streams, and enabled receive streams. -/
def State.txStreams (s : State) : List Nat := (s.elemsOf 0x5C20 1).filter fun k => s.txF k 0 == 1
def State.rxStreams (s : State) : List Nat := (s.elemsOf 0x5C30 1).filter fun k => s.rxF k 0 == 1

/-- The receive stream of a lane with a lane seal handle. -/
def State.rxByHandle (s : State) (l h : Nat) : Option Nat :=
  s.rxStreams.find? fun k => s.rxF k 2 == l && s.rxF k 3 == h

/-- A key slot. -/
def State.keySlot (s : State) (k : Nat) : KeySlot := tget {} s.sealing.slots k

/-- The current key of a slot. -/
def State.curKey (s : State) (k : Nat) : Option KeyVal := (s.keySlot k).cur

/-- A live transmit stream, a live receive stream. -/
def State.txS (s : State) (k : Nat) : TxStream := tget {} s.sealing.tx k
def State.rxS (s : State) (k : Nat) : RxStream := tget {} s.sealing.rx k

/-- Change one. -/
def State.modTx (s : State) (k : Nat) (f : TxStream → TxStream) : State :=
  { s with sealing.tx := tmod {} s.sealing.tx k f }
def State.modRx (s : State) (k : Nat) (f : RxStream → RxStream) : State :=
  { s with sealing.rx := tmod {} s.sealing.rx k f }

/-! Slots of a stream (11 R277, R281). -/

/-- The part of a range of global addresses that lies at a logical position, as lane slots. -/
def atPos (pos g n : Nat) : Option (Nat × Nat) :=
  let lo := max g (gaddr pos 0)
  let hi := min (g + n) (gaddr (pos + 1) 0)
  if lo < hi then some (lo - gaddr pos 0, hi - lo) else none

/-- Put a range into ascending order, joined with those it meets. -/
def insRange (r : Nat × Nat) : List (Nat × Nat) → List (Nat × Nat)
  | [] => [r]
  | x :: xs =>
    if r.1 + r.2 < x.1 then r :: x :: xs
    else if x.1 + x.2 < r.1 then x :: insRange r xs
    else insRange (min r.1 x.1, max (r.1 + r.2) (x.1 + x.2) - min r.1 x.1) xs

/-- Lane slots that a page's circuit draws from a logical position under UNSEAL. -/
def drawn (page : List Entry) (circuit pos : Nat) : List (Nat × Nat) :=
  ((page.filter fun e => e.handle == circuit && e.unsealOn && !e.mirror).flatMap fun e =>
    (sourcesOf e).filterMap fun r => atPos pos r.1 r.2).foldl (fun l r => insRange r l) []

/-- Lane slots that a leg of a circuit places on a logical position under SEAL. -/
def placedOn (page : List Entry) (circuit leg pos : Nat) : List (Nat × Nat) :=
  ((page.filter fun e => e.handle == circuit && e.leg == leg && e.sealOn).filterMap fun e =>
    atPos pos e.egress e.slots).foldl (fun l r => insRange r l) []

/-- The slots of ranges, in ascending order. -/
def slotList (r : List (Nat × Nat)) : List Nat := r.flatMap fun x => (List.range x.2).map (x.1 + ·)

/-- Number of slots of ranges. -/
def slotCount (r : List (Nat × Nat)) : Nat := (r.map Prod.snd).sum

/-- The rank of a lane slot among the slots of ranges. -/
def slotRank : List (Nat × Nat) → Nat → Option Nat
  | [], _ => none
  | r :: rs, q => if r.1 ≤ q ∧ q < r.1 + r.2 then some (q - r.1) else (slotRank rs q).map (r.2 + ·)

/-- Slots of a receive stream on its lane, and of a transmit stream. -/
def State.rxSlots (s : State) (k : Nat) : List (Nat × Nat) :=
  match s.rxPos (s.rxF k 2) with
  | some p => drawn s.fab.active (s.rxF k 1) p
  | none => []
def State.txSlots (s : State) (k : Nat) : List (Nat × Nat) :=
  placedOn s.fab.active (s.txF k 1) (s.txF k 2) (s.txPos (s.txF k 3))

/-- A stream lies in the active page and is enabled (11 R281). -/
def State.rxLive (s : State) (k : Nat) : Bool :=
  s.rxF k 0 == 1 && s.fab.active.any fun e => e.handle == s.rxF k 1 && e.unsealOn && !e.mirror
    && (sourcesOf e).any fun r => (List.range 48).any fun p => s.rxLane p == s.rxF k 2 && (atPos p r.1 r.2).isSome
def State.txLive (s : State) (k : Nat) : Bool :=
  s.txF k 0 == 1 && !(s.txSlots k).isEmpty

/-! IV, AAD and record (11 Table 11-2, 02 Table 2-10). -/

/-- The 96-bit IV of a salt and a counter. -/
def ivOf (salt counter : Nat) : Nat := salt % 4294967296 * 18446744073709551616 + counter % 18446744073709551616

/-- The AAD of an interval (11 Table 11-2). -/
def aadOf (handle group logical counter : Nat) : Bytes :=
  beBytes 2 handle ++ beBytes 4 group ++ beBytes 1 (logical % 4) ++ [0] ++ beBytes 8 counter

/-- The 24 bytes of a record (02 Table 2-10). -/
def recordBytes (handle : Nat) (newKey : Bool) (counter : Nat) (tag : Bytes) : Bytes :=
  beBytes 2 handle ++ beBytes 1 (if newKey then 0x80 else 0) ++ beBytes 5 counter ++ padTo 16 tag

/-- 2^32 seals, and the point at which a stream nears them (11 R286). -/
def keyxCount : Nat := 4294967296
def nearCount : Nat := 4294967296 - 1048576

/-! Conditions that follow a stream (11 R286, R292; 12 Table 12-1). -/

/-- The seal defect of an enabled receive stream: SEALF or KEYX, or no current key in its slot (12 Table 12-1). -/
def State.sealDefect (s : State) (k : Nat) : Bool :=
  let x := s.rxS k
  s.rxF k 0 == 1 && ((x.live && (x.sealf || x.keyx)) || (s.curKey (s.rxF k 4)).isNone)

/-- Note SEALF and KEYX of a receive stream, and its seal defect of this second. -/
def State.settleRx (s : State) (k : Nat) : State :=
  let x := s.rxS k
  let i : Fin 65536 := Fin.ofNat 65536 k
  let s := (s.noteCond (.rxSealf i) x.sealf).noteCond (.rxKeyx i) x.keyx
  if s.sealDefect k then s.modStream k fun r => { r with defect := true } else s

/-- Note KEYX and the near exhaustion of a transmit stream. -/
def State.settleTx (s : State) (k : Nat) : State :=
  let x := s.txS k
  let i : Fin 65536 := Fin.ofNat 65536 k
  (s.noteCond (.counterNear i) x.near).noteCond (.txKeyx i) x.keyx

/-- A live receive stream without a current key, or with KEYX: SEALF, Acquire (11 Table 11-4). -/
def State.checkRxKey (s : State) (k : Nat) : State :=
  let x := s.rxS k
  let s := if x.live && x.begun && (x.keyx || (s.curKey (s.rxF k 4)).isNone) then
      s.modRx k fun x => { x with state := .acquire, sealf := true, okRun := 0, waitSync := 0 }
    else s
  s.settleRx k

/-- A receive stream whose circuit is in neither page is not classified in this second (12 Table 12-2). -/
def State.orphanStreams (s : State) : State :=
  s.each (s.rxStreams.filter fun k => !(inPage s.fab.active (s.rxF k 1) || inPage s.fab.shadow (s.rxF k 1))) fun k s =>
    s.modStream k fun r => { r with off := true }

/-- Live streams follow the active page and the stream tables (11 R281). -/
def State.reloadStreams (s : State) : State :=
  let s := s.orphanStreams
  let s := s.each ((s.sealing.rx.map Prod.fst).filter fun k => !s.rxLive k) fun k s =>
    ((if (s.rxS k).begun then s.count 0x5C32 1 6 k else s).modRx k fun x => { verified := x.verified, past := x.past }).settleRx k
  let s := s.each (s.rxStreams.filter fun k => s.rxLive k) fun k s => s.modRx k fun x => if x.live then x else { live := true, verified := x.verified, past := x.past }
  let s := s.each ((s.sealing.tx.map Prod.fst).filter fun k => !s.txLive k) fun k s => 
    (s.modTx k fun x => { counter := x.counter, sealed := x.sealed, last := x.last || x.begun, past := x.past }).settleTx k
  s.each (s.txStreams.filter fun k => s.txLive k) fun k s => s.modTx k fun x => if x.live then x else { live := true, counter := x.counter, sealed := x.sealed, last := x.last, past := x.past }

/-! Bytes of receive streams (11 R283, R290). -/

/-- A release-mode stream passes its bytes: Synced, no hold, no SEALF, no KEYX, a current key (11 R290, R292). -/
def State.rxPasses (s : State) (k : Nat) : Bool :=
  let x := s.rxS k
  x.live && x.begun && x.state == .synced && x.hold == 0 && !x.sealf && !x.keyx && (s.curKey (s.rxF k 4)).isSome

/-- The live receive stream of a lane that owns a lane slot, with the slot's rank. -/
def State.streamAt (s : State) (l q : Nat) : Option (Nat × Nat) :=
  (s.rxStreams.filter fun k => s.rxF k 2 == l && (s.rxS k).live).findSome? fun k => (slotRank (s.rxSlots k) q).map fun r => (k, r)

/-- A received byte as the lane's pipeline leaves it on arrival: ciphertext in hold mode; in release mode deciphered with the expected counter, and 0xFF
while the stream does not pass. What a verdict takes away it takes from the first internal boundary after it (11 R284, R290, R292). -/
def State.unseal (s : State) (l q : Nat) (b : Byte) : Byte :=
  match s.streamAt l q with
  | some (k, r) =>
    if s.rxF k 6 = 1 then b
    else match s.curKey (s.rxF k 4) with
      | some key =>
        if (s.rxS k).pass || s.rxPasses k then b ^^^ cipherByte key.key (ivOf (s.rxF k 5) (s.rxS k).expected) ((s.rxS k).base + r) else 0xFF
      | none => 0xFF
  | none => b

/-- The place in its interval of a byte of a hold-mode stream, plus 1; 0 for any other byte (11 R282, R291). -/
def State.placeOf (s : State) (l q : Nat) : Nat :=
  match s.streamAt l q with
  | some (k, r) => if s.rxF k 6 = 1 then (s.rxS k).base + r + 1 else 0
  | none => 0

/-- Live receive streams of a lane. -/
def State.rxOn (s : State) (l : Nat) : List Nat := s.rxStreams.filter fun k => s.rxF k 2 == l && (s.rxS k).live

/-- A frame's payload as the lane's pipeline leaves it. -/
def State.unsealFrame (s : State) (l : Nat) (raw : Tab Byte) : Tab Byte :=
  ((s.rxOn l).flatMap fun k => slotList (s.rxSlots k)).foldl (fun t q => tput 0 t q (s.unseal l q (tget 0 raw q))) raw

/-! Another key slot for a stream (11 R285, R288). -/

/-- A transmit stream changes its slot, whose current keys are given: the slot it leaves is remembered with its counter, so that it goes on there should
it come back to the same key, and a counter value is never sealed twice under one key. -/
def TxStream.changeSlot (x : TxStream) (a b : Nat) (ka kb : Option KeyVal) : TxStream :=
  let past := match ka with
    | some k => if x.sealed then (a, k.serial, x.counter) :: x.past.filter fun e => e.1 != a else x.past
    | none => x.past
  let known := kb.bind fun k => past.find? fun e => e.1 == b && e.2.1 == k.serial
  { x with
    past := past, begun := false, newKey := false, keyx := false, near := false
    counter := (known.map fun e => e.2.2).getD 0, sealed := known.isSome }

/-- A receive stream changes its slot: the last counter verified under the key it leaves is remembered for its return. -/
def RxStream.changeSlot (x : RxStream) (a b : Nat) (ka kb : Option KeyVal) : RxStream :=
  let past := match ka, x.verified with
    | some k, some c => (a, k.serial, c + 1) :: x.past.filter fun e => e.1 != a
    | _, _ => x.past
  let known := kb.bind fun k => past.find? fun e => e.1 == b && e.2.1 == k.serial
  { x with past := past, begun := false, verified := known.map fun e => e.2.2 - 1 }

/-! Verdicts (11 R288 to R292). Counters of 5C32:01: 1 verified, 2 tag, 3 missing, 4 counter, 5 key mismatch, 6 unverifiable. -/

/-- Interval M fails. -/
def State.verdictFail (s : State) (k kind : Nat) : State :=
  let h := s.cfg 0x5C00 1 0
  let hold := s.rxF k 6 == 1
  let s := s.count 0x5C32 1 kind k
  let s := s.modStream k fun r => { r with blocks := r.blocks + 1, errored := r.errored + 1, bits := r.bits + 1 }
  let s := s.modRx k fun x =>
    let run := min 3 (x.failRun + 1)
    let x := { x with recordIn := true, failRun := run, okRun := 0, hold := if x.state = .synced ∨ hold = true then h + 2 else x.hold }
    if run = 3 then { x with sealf := true, state := .acquire, waitSync := 0 } else x
  s.settleRx k

/-- The key that the previous interval of a stream lies under (11 R296). -/
def State.intervalKey (s : State) (k : Nat) : Option KeyVal :=
  if (s.rxS k).oldKey then (s.rxS k).oldVal else s.curKey (s.rxF k 4)

/-- Interval M verifies with counter c. -/
def State.verdictOk (s : State) (k c : Nat) : State :=
  let hold := s.rxF k 6 == 1
  let multi := (s.lane (s.rxF k 2)).ch.multi - 1
  let stuck := (s.rxS k).keyx || (s.curKey (s.rxF k 4)).isNone
  let key := s.intervalKey k
  let s := s.count 0x5C32 1 1 k
  let s := s.modStream k fun r => { r with blocks := r.blocks + 1 }
  let s := s.modRx k fun x =>
    let ok := min 2 (x.okRun + 1)
    let x := { x with recordIn := true, failRun := 0, okRun := ok, sealf := x.sealf && !(ok == 2 && !stuck) }
    let x := if x.oldKey then { x with oldVerified := some c } else { x with verified := some c }
    if hold then { x with state := .synced, releases := (key.map fun v => (multi, c, v)).toList ++ x.releases.take 1 }
    else if x.state = .acquire ∧ !x.oldKey then { x with expected := c + 1, waitSync := 1 }
    else x
  s.settleRx k

/-- Interval M is unverifiable. -/
def State.verdictNone (s : State) (k : Nat) : State :=
  (s.count 0x5C32 1 6 k).modRx k fun x => { x with recordIn := true }

/-- The tag of interval M as the receiver forms it: over the ciphertext that arrived, with the AAD of SO10 to SO13 and the lane tag as received, and the
record's counter (11 R283, R284, R288; log entry 170). -/
def State.tagFits (s : State) (k : Nat) (r : SealRec) : Bool :=
  let x := (s.lane (s.rxF k 2)).bring
  match s.intervalKey k with
  | some v =>
    beBytes 16 r.tag == gcmTag v.key (ivOf (s.rxF k 5) r.counter) (aadOf r.handle x.group (bits x.tag 7 6) r.counter) (s.rxS k).cipherPrev
  | none => false

/-- The verdict on interval M from its record and where that ended (11 R288, R289, R291). -/
def State.judge (s : State) (k at_ : Nat) (r : SealRec) : State :=
  let x := s.rxS k
  let last := if x.oldKey then x.oldVerified else x.verified
  let fresh := match last with | some c => decide (c < r.counter) | none => true
  let due := if x.oldKey then x.oldExpected else x.expected
  let inTurn := !(s.rxF k 6 == 0 && x.state == .synced) || r.counter + 1 == due
  let keyOk := x.nkPrev == 2 || r.newKey == (x.nkPrev == 1)
  if x.unver then s.verdictNone k
  else if s.rxF k 6 = 1 ∧ 700 < at_ then s.verdictFail k 3
  else if !s.tagFits k r || (s.curKey (s.rxF k 4)).isNone then s.verdictFail k 2
  else if !(fresh && inTurn) then s.verdictFail k 4
  else if !keyOk then s.verdictFail k 5
  else s.verdictOk k r.counter

/-- One record, while the lane is not failed, with where it ended (02 R60, 04 Table 4-4). -/
def State.takeRecord (s : State) (l : LaneId) (at_ : Nat) (r : SealRec) : State :=
  let x := s.lane l
  if s.laneFailed l then s
  else if 16384 ≤ r.handle then s.count 0x3050 0xB 0 l
  else if x.ch.sealSeen.contains r.handle then s.count 0x3050 9 0 l
  else
    let s := s.modLane l fun x => { x with ch := { x.ch with sealSeen := r.handle :: x.ch.sealSeen } }
    match s.rxByHandle l r.handle with
    | none => s.count 0x3050 0xA 0 l
    | some k =>
      let y := s.rxS k
      if y.live && y.begun && !y.recordIn then s.judge k at_ r else s

/-- The interval of a stream ends without its record: it fails, unless it is unverifiable, as an empty record under AIS leaves it (02 R60, 11 R289). -/
def State.noRecord (s : State) (k : Nat) : State :=
  if (s.rxS k).unver || (s.lane (s.rxF k 2)).ch.aisPrev then s.verdictNone k else s.verdictFail k 3

/-- Multiframe M + 1 has ended on a lane: the records of interval M that are still at hand are judged, and the streams without one are (02 R60). -/
def State.closeInterval (s : State) (l : LaneId) : State :=
  let ch := (s.lane l).ch
  let s := s.modLane l fun x => { x with ch := { x.ch with sealReady := [], sealWait := [] } }
  let s := s.each (ch.sealReady ++ ch.sealWait) fun p s => s.takeRecord l p.1 p.2
  s.each ((s.rxOn l).filter fun k => (s.rxS k).begun && !(s.rxS k).recordIn) fun k s => s.noRecord k

/-- A received multiframe starts on a lane (11 R281, R289, R290). -/
def State.rxMultiframe (s : State) (l : LaneId) : State :=
  let s := s.closeInterval l
  let failed := (s.lane l).ch.failSeen
  let now := s.laneFailed l || (s.lane l).bay.moved
  let s := s.modLane l fun x =>
    { x with
      bay := { x.bay with rxFrame := { x.bay.rxFrame with multi := x.ch.multi + 1 } }
      ch := { x.ch with multi := x.ch.multi + 1, aisPrev := x.ch.aisSeen, aisSeen := false, failSeen := now, sealSeen := [] } }
  s.each (s.rxOn l) fun k s =>
    (s.modRx k fun x =>
      if x.begun then
        let e := x.expected + 1
        { x with
          unver := x.unverNow || failed, unverNow := false, recordIn := false
          nkPrev := x.nkNow, nkNow := 0, oldKey := false, oldVal := none, base := 0, cipher := [], cipherPrev := x.cipher
          expected := e, keyx := x.keyx || decide (keyxCount ≤ e)
          hold := if 1 < x.hold then x.hold - 1 else x.hold
          state := if x.waitSync = 1 then .synced else x.state
          waitSync := 0 }
      else { x with begun := true, state := .acquire, unver := true, recordIn := false, nkNow := 2, base := 0, cipher := [] }).checkRxKey k

/-- A frame has arrived: its bytes of each stream, in ascending slot order, join the interval (11 R282, R288). -/
def State.rxFrameBase (s : State) (l : LaneId) : State :=
  s.each (s.rxStreams.filter fun k => s.rxF k 2 == (l : Nat) && (s.rxS k).begun) fun k s =>
    s.modRx k fun x => { x with
      base := x.base + slotCount (s.rxSlots k)
      cipher := x.cipher ++ (slotList (s.rxSlots k)).map fun q => tget 0 (s.lane l).bay.rxFrame.raw q }

/-! Erasure and failed authentications (11 R299; 15 R406, R408). -/

/-- The object that the erasure alarm and event name (14 Table 14-22). -/
def State.eraseObj (s : State) : Nat × Nat := if s.power.ordering then (0x5C40, 2) else (0x9020, 5)

/-- The value of 5C40:02, or of 9020:05 (11 Table 11-11, 15 Table 15-11). -/
def State.eraseValue (s : State) : Bytes :=
  if s.power.ordering then
    beBytes 1 s.sealing.eraseCause ++ beBytes 10 s.sealing.eraseStamp ++ beBytes 4 (s.ctr 0x5C40 2 3 0)
  else ([1, 2, 3, 4].map fun f => beBytes 4 (s.ctr 0x9020 5 f 0)).flatten

/-- What the sealed slots of the present transmit frame that have gone out, up to the next row boundary, were combined with: read with the page and
streams that the frame has (11 R284, R299). -/
def State.sentCipher (s : State) : Tab Nat :=
  let o := match s.ending with
    | some e => { s with fab.active := e.page, sealing.tx := e.tx }
    | none => s
  let rows := o.frameAge / 125 + 1
  (o.txStreams.filter fun k => (o.txS k).live && (o.txS k).begun && !(o.txS k).keyx).foldl (fun t k =>
    match o.curKey (o.txF k 5) with
    | some key => ((slotList (o.txSlots k)).zipIdx.filter fun e => decide (e.1 < 768 * rows)).foldl (fun t e =>
        tput 0 t (o.txF k 3 * laneSlots + e.1)
          ((cipherByte key.key (ivOf (o.txF k 6) (o.txS k).counter) ((o.txS k).text.length + e.2)).toNat + 1)) t
    | none => t) s.sealing.sent

/-- Every record is sent empty from the next row boundary: those of the present frame that are still to go out, and those of the frames to come
(11 R299). -/
def State.emptyRecords (s : State) : State :=
  let gone := (s.frameAge / 125 + 1 - 128) * 7
  let s := { s with sealing.records := s.sealing.records.map fun (r : LaneId × Bytes) => ((r.1, emptyRecord) : LaneId × Bytes) }
  s.each (List.finRange 48) fun l s => s.modLane l fun x => { x with
    tx := { x.tx with sc := x.tx.sc.take gone ++ (sealRegion [] 0).drop gone |>.take x.tx.sc.length } }

/-- Take the keys away: data keys, KWK, channel keys, and the counters that ran under them (11 R299, Table 11-8). Sealed bytes go out as 0xFF and
records empty from the next row boundary. -/
def State.dropDataKeys (s : State) : State :=
  let s := { s with sealing.sent := s.sentCipher }.emptyRecords
  let s := { s with sealing.slots := tmap {} s.sealing.slots fun _ x => { x with cur := none, pend := none } }
  let s := { s with sealing.channels := tmap {} s.sealing.channels fun _ x => { x with key := none, next := 1, last := 0 } }
  let s := { s with sealing.tx := tmap {} s.sealing.tx fun _ x =>
    { x with counter := 0, sealed := false, begun := false, newKey := false, text := [], keyx := false, near := false, past := [] } }
  let s := s.each (s.sealing.tx.map Prod.fst) fun k s => s.settleTx k
  let s := { s with sealing.rx := tmap {} s.sealing.rx fun _ x =>
    { x with verified := none, oldKey := false, oldVal := none, oldVerified := none, expected := 0, releases := [], past := [] } }
  s.each (s.rxStreams.filter s.sealDefect) fun k s => s.modStream k fun r => { r with defect := true }

/-- A key erasure with its cause: keys, sessions, handshakes, records, event and alarm (11 R299, 15 R406). -/
def State.eraseKeys (s : State) (cause : Nat) : State :=
  let s := s.audit (moduleRec 6 s.eraseObj.1 s.eraseObj.2 0 cause)
  let s := s.dropDataKeys
  let s := { s with sealing.kwk := none, sealing.eraseCause := cause, sealing.eraseStamp := s.stamp, sealing.eraseAlarm := true, mgmt.handshakes := [] }
  let s := s.count 0x5C40 2 3 0
  let s := s.closeAll 8
  let s := s.event 2 s.eraseObj.1 s.eraseObj.2 0 s.eraseValue
  s.raiseAlarm none 3 s.eraseObj.1 s.eraseObj.2 1 0

/-- The erasure alarm clears when the first key is installed again (11 R299). -/
def State.keyInstalled (s : State) : State :=
  if s.sealing.eraseAlarm then
    let s := { s with sealing.eraseAlarm := false }
    let o := s.eraseObj
    s.each (s.store.alarms.filter fun a => a.index == o.1 && a.sub == o.2 && a.bit == 1) fun a s => s.clearAlarm a
  else s

/-- A failed authentication is counted; at the limit the keys are erased with cause 5 (15 R408). -/
def State.authFail (s : State) : State :=
  let s := s.count 0x9020 5 1 0
  let s := { s with sec.authCount := s.sec.authCount + 1, sec.authAt := if s.sec.authCount = 0 then s.now else s.sec.authAt }
  let limit := s.cfg 0x9020 2 0
  if limit ≠ 0 ∧ limit ≤ s.sec.authCount then { s with sec.authCount := 0 }.eraseKeys 5 else s

/-- Key installations are refused: tamper is latched, or a temperature or voltage condition is present (15 R406, R407). -/
def State.keysBarred (s : State) : Bool := s.sec.latched || s.sec.hot || !s.sec.volt.isEmpty

end Sys2Proof.Machine
end

