-- ==== Sys2Proof/Machine/Deframer.lean ====
section
/-! DEFINITION. The deframer: blocks, frame search, frame lock, identity, received overhead (02, 03 R82 to R91, 04). -/

namespace Sys2Proof.Machine

/-! BLOCK_RECEIVED (02 R28, R35; 03 R82; 04 R96, R97). -/

/-- The receiver complements what it receives: set, or decided, as inverted (03 R86). A write of 2000:07 acts at once, in every stage: the spec gives
no moment for a lane past stage 5 (log entry 150). -/
def State.inverts (s : State) (l : Nat) : Bool :=
  s.cfg 0x2000 7 l == 2 || (s.cfg 0x2000 7 l == 0 && (s.lane l).bring.polarity == 2)

/-- A sync header is valid (02 R26): 01 data, 10 control. -/
def headerOk (h : BitVec 2) : Bool := h == 1 || h == 2

/-- Block lock is declared: stage 5, and a fast relock where a restart hold runs (03 R82, R85). -/
def State.blockLocked (s : State) (l : LaneId) : State :=
  let s := if (s.lane l).bring.holdSince.isSome then s.count 0x2030 4 0 l else s
  s.change l fun x =>
    let x := x.goto 5 s.now
    Lane.lockDefects { x with
      bring := { x.bring with holdSince := none }
      df := { x.df with blockLock := true, goodRun := 0, heads := [], blockPos := 0 } }

/-- One header while block lock is searched for (03 R82). -/
def State.searchBlock (s : State) (l : LaneId) (valid : Bool) : State :=
  let x := s.lane l
  if valid then
    if 64 ≤ x.df.goodRun + 1 then s.blockLocked l
    else s.modLane l fun x => { x with df := { x.df with goodRun := x.df.goodRun + 1 } }
  else s.modLane l fun x => { x with df := { x.df with goodRun := 0, bitSlips := (x.df.bitSlips + 1) % 66, descrBits := 0 } }

/-- Some prompt run reads the word at a global address, at its source or at the source's protect address. The words of the shadow page are tapped too, so
that what an activation brings finds the rows that arrive before its boundary (05 R127, R144, R146; 06 R174; log entry 173). -/
def State.promptWord (s : State) (g : Nat) : Bool :=
  let taps (page : List Entry) (remap : List (Nat × Nat × Nat)) : Bool :=
    page.any fun e => e.prompt && (budgetRanges remap e).any fun r => meets r.1 r.2 (g / 8 * 8) 8
  taps s.fab.active s.pairsInForce || taps s.fab.shadow s.remaps

/-- The eight bytes of a data block go to the frame now arriving, and to the prompt row ring where they are tapped (02 R62, 05 R127). -/
def State.payload (s : State) (l : LaneId) (row blk : Nat) (w : BitVec 64) : State :=
  let q := row * 768 + (blk - 1) * 8
  let raw := blockBytes w
  let plain := raw.zipIdx.map fun e => s.unseal l (q + e.2) e.1
  let ring := if (s.lane l).bay.lanePay then plain else plain.map fun _ => 0xFF
  let s := match s.rxPos l with
    | some p =>
      if s.promptWord (gaddr p q) then
        { s with fab.ring := tputs 0 s.fab.ring (ringKey (s.lane l).bay.fabN p q) ring }
      else s
    | none => s
  s.modLane l fun x => { x with
    bay := { x.bay with rxFrame := { x.bay.rxFrame with
      raw := tputs 0 x.bay.rxFrame.raw q raw, bytes := tputs 0 x.bay.rxFrame.bytes q plain
      place := tputs 0 x.bay.rxFrame.place q ((List.range 8).map fun i => s.placeOf l (q + i)) } }
    par := { x.par with bipRx := x.par.bipRx ^^^ blockBip w } }

/-- A block by its place in a candidate's own frame: should lock move there, this frame is the first at the new position (04 R101, R122). -/
def Cand.take (c : Cand) (pos : Nat) (h : BitVec 2) (w : BitVec 64) : Cand :=
  let k := (pos + 97000 - c.pos) % 97000
  if k = 0 then c
  else if k % 97 = 0 then
    match overheadOf h w with
    | some b => { c with rows := tput [] c.rows (k / 97) b }
    | none => c
  else
    let q := k / 97 * 768 + (k % 97 - 1) * 8
    { c with frame := { c.frame with raw := tputs 0 c.frame.raw q (blockBytes w) }, bip := c.bip ^^^ blockBip w }

/-- A block of a frame-locked lane is delivered by its place in the frame (02 R35). -/
def State.deliver (s : State) (l : LaneId) (pos : Nat) (h : BitVec 2) (w : BitVec 64) : State :=
  let k := (pos + 97000 - (s.lane l).df.lockPos) % 97000
  if k % 97 = 0 then s
  else
    let s := if h = 1 then s else s.count 0x3050 0xD 0 l
    s.payload l (k / 97) (k % 97) w

/-- The form in which a block would start a candidate: the FAB, and whether complemented (04 R96). -/
def State.fabForm (s : State) (l : Nat) (h : BitVec 2) (w : BitVec 64) : Option (Fab × Bool) :=
  let x := s.lane l
  match fabOf h w with
  | some f => some (f, false)
  | none =>
    if x.bring.stage = 5 ∧ s.cfg 0x2000 7 l = 0 ∧ h = 1 then (fabOf 2 (~~~w)).map fun f => (f, true) else none

/-- Arrival of a FAB at a block position, by its distance from the FAB of the frame now arriving (04 R101). -/
def Lane.arrivalOf (x : Lane) (pos : Nat) : Int :=
  x.bay.rxFrame.arr + (((pos + 97000 - x.df.lockPos) % 97000 : Nat) : Int) * 125000 / 97000

/-- A block may start a candidate (04 R96, R97, R100); every valid FAB is shown in 3010:03. -/
def State.startCand (s : State) (l : LaneId) (pos : Nat) (h : BitVec 2) (w : BitVec 64) : State :=
  let x := s.lane l
  match s.fabForm l h w with
  | none => s
  | some (f, inv) =>
    let s := s.modLane l fun x => { x with df := { x.df with shownFab := some (f.mfi, f.sfi) } }
    if x.df.cands.any (fun c => c.pos == pos) || (x.df.frameLock && x.df.lockPos == pos) then s
    else if 4 ≤ x.df.cands.length then s.count 0x3050 3 0 l
    else
      let c : Cand := { pos := pos, inverted := inv, count := 1, mfi := f.mfi, sfi := f.sfi, tag := f.tag
                        frame := { mfi := f.mfi, arr := x.arrivalOf pos } }
      let s := s.modLane l fun x => { x with df := { x.df with
        cands := x.df.cands ++ [c], pol5 := if x.bring.stage = 5 then x.df.pol5.or (some (pos, inv)) else x.df.pol5 } }
      if x.bring.stage = 5 ∧ s.cfg 0x2000 7 l ≠ 0 then
        s.change l fun x => let y := x.goto 6 s.now; { y with bring := { y.bring with polarity := s.cfg 0x2000 7 l } }
      else s

/-- A received block. -/
def recvBlock (l : LaneId) (header : BitVec 2) (payload : BitVec 64) (s : State) : State :=
  let x := s.lane l
  if s.enabled l && decide (4 ≤ x.bring.stage) then
    let inv := s.inverts l
    let h := if inv then ~~~header else header
    let r := descramble x.df.descr (if inv then ~~~payload else payload)
    let clear := decide (58 ≤ x.df.descrBits)
    let s := s.modLane l fun x => { x with df := { x.df with descr := r.2, descrBits := 58 } }
    if !x.df.blockLock then s.searchBlock l (headerOk h)
    else
      let heads := (headerOk h :: x.df.heads).take 64
      if 16 ≤ heads.countP (!·) then (s.fallHold l 4).change l fun x => x.lockDefects
      else
        let pos := x.df.blockPos
        let s := s.modLane l fun x => { x with df := { x.df with heads := heads, blockPos := (pos + 1) % 97000 } }
        if !clear then s
        else
          let s := if x.df.frameLock then
              (s.deliver l pos h r.1).modLane l fun x => { x with df := { x.df with cands := x.df.cands.map fun c => c.take pos h r.1 } }
            else s
          s.startCand l pos h r.1
  else s

/-- BLOCK_RECEIVED. -/
def execBlockReceived (lane : LaneId) (header : BitVec 2) (payload : BitVec 64) (s : State) : Out :=
  run (recvBlock lane header payload) s

/-! The identity of a lane (03 R88). -/

/-- The group that a lane's port expects, in the tag and in SO10 to SO13 of the same frames, and the nibbles of its other lanes past stage 7. -/
def State.groupOk (s : State) (l : LaneId) (tag : Nat) : Bool :=
  let p := s.portOf l
  let g := s.cfg 0x2800 3 p
  (g == 0xFFFFFFFF || (tag % 16 == g % 16 && (s.lane l).bring.groups.all (· == some g)))
    && (s.portLanes p).all fun k => k == l || decide ((s.lane k).bring.stage < 8) || (s.lane k).bring.tag % 16 == tag % 16

/-- The lane tag seen in three consecutive valid FABs is accepted or not. -/
def State.identify (s : State) (l : LaneId) (tag : Nat) : State :=
  let p := s.portOf l
  let wide := 2 ^ bits tag 5 4 != s.width p
  let group := !(s.groupOk l tag)
  let dup := (s.portLanes p).any fun k => k != l && decide (8 ≤ (s.lane k).bring.stage) && (s.lane k).bring.logical == some (bits tag 7 6)
  s.change l fun x =>
    if wide || group || dup then { x with tr := { x.tr with widthMis := wide, groupMis := group, dupLane := dup } }
    else
      let x := x.goto 8 s.now
      { x with
        bring := { x.bring with logical := some (bits tag 7 6), tag := tag, diffRun := 0, measured := 0 }
        tr := { x.tr with widthMis := false, groupMis := false, dupLane := false } }

/-- All that the identity needs has come: three FABs with one tag and, where the port expects a group, SO10 to SO13 of their frames. -/
def State.mayIdentify (s : State) (l : LaneId) : Bool :=
  let x := (s.lane l).bring
  x.stage == 7 && x.tagRun == 3
    && (s.cfg 0x2800 3 (s.portOf l) == 0xFFFFFFFF || (x.groups.length == 3 && x.groups.all Option.isSome))

/-- The identity is taken as soon as it can be. -/
def State.tryIdentify (s : State) (l : LaneId) : State := if s.mayIdentify l then s.identify l (s.lane l).bring.tagSeen else s

/-! CANDIDATE_EXPECTED_POSITION (04 R97, R98, R100 to R102; 03 R86). -/

/-- A frame begins at a FAB: what arrives from here belongs to it. -/
def Lane.newFrame (x : Lane) (mfi : Nat) (arr : Int) : Lane :=
  { x with
    bay := { x.bay with rxFrame := { mfi := mfi, multi := x.ch.multi, arr := arr } }
    par := { x.par with bipRx := 0 }
    ch := { x.ch with sealIn := [] } }

/-- The count of the boundary nearest the FAB that arrives now: by the last phase, and where that lies near the moment at which a transmit frame
starts, by the FAB before it, since boundaries and FABs then follow one another in turn (10 R269). -/
def State.fabFrame (s : State) (l : Nat) : Nat :=
  let x := s.lane l
  let n := s.fab.frameNo
  let near := x.df.frameLock && decide (-28950 < x.bay.phase ∧ x.bay.phase < 33550)
  if near && x.bay.fabN == n then n + 1
  else if near && x.bay.fabN + 1 == n then n
  else if x.bay.phase < frameLead then n + 1 else n

/-- The snapshot of that boundary; one that is still to come lies 125 microseconds after the last, until it comes. -/
def State.fabSnapshot (s : State) (l : Nat) : Int :=
  (s.fab.boundaryAt : Int) + (if s.fabFrame l = s.fab.frameNo then 0 else 125000 * 65536) - s.tod.stepTotal

/-- The arrival of the FAB on the count of the boundaries. -/
def State.fabArrival (s : State) (l : Nat) : Int := (s.fabFrame l : Int) * 125000 + (s.lane l).bay.phase

/-- A FAB with MFI 0 starts a received multiframe. -/
def State.multiframeAt (s : State) (l : LaneId) (mfi : Nat) : State := if mfi = 0 then s.rxMultiframe l else s

/-- Frame lock is declared on a candidate, whose FABs count for the identity too (04 R98, R102; 03 R88). -/
def State.frameLocked (s : State) (l : LaneId) (c : Cand) : State :=
  let t := s.change l fun x =>
    let x := if x.bring.stage < 7 then x.goto 7 s.now else x
    let x := Lane.lockDefects { x with df := { x.df with
      frameLock := true, lockPos := c.pos, cands := [], missRun := 0, lockMissed := false, disRun := 0
      expMfi := c.mfi, expSfi := c.sfi, lastFab := some (c.mfi, c.sfi) } }
    let x := { x with
      d := { x.d with lom := !c.consecutive }
      bring := { x.bring with tagRun := min 3 c.tagRun, tagSeen := c.tag, groups := [none] }
      bay := { x.bay with aligned := false, alignRun := 0, fabB := s.fabSnapshot l, fabN := s.fabFrame l }
      par := { x.par with bipPrev := none } }
    x.newFrame c.mfi (s.fabArrival l)
  (t.multiframeAt l c.mfi).tryIdentify l

/-! The time and data channels of a received frame (02 R51 to R55). -/

/-- The ingress time of the overhead block of a row of the frame now arriving (10 R269). -/
def Lane.ingressTime (x : Lane) (row : Nat) : Int :=
  x.bay.fabB + (x.bay.phase - 300 + (row : Int) * 125) * 65536

/-- A bad packet: what was gathered of it waits to be counted, and the stream is ignored until the next pointer (02 R53). -/
def ChanRx.fail (c : ChanRx) (p : Bytes) : ChanRx :=
  { c with synced := false, buf := [], resume := none, ready := c.ready ++ [(c.start, p)] }

/-- A stream byte at a channel index, where the receiver knows what it is (02 R52, R53). -/
def ChanRx.accept (c : ChanRx) (limit i : Nat) (at_ : PtpStamp) (b : Byte) : ChanRx :=
  if c.buf = [] then
    if b = 0xFF then c
    else if !c.begun ∧ c.pointer ≠ 0xFFFF ∧ i < c.pointer then { { c with start := at_ }.fail [b] with resume := some c.pointer }
    else { c with begun := true, buf := [b], start := at_ }
  else
    let p := c.buf ++ [b]
    let n := field p 0 2
    if p.length = 2 ∧ (n = 0 ∨ limit < n) then c.fail p
    else if p.length = n + 4 then
      if (packetData limit p).isSome then { c with buf := [], ready := c.ready ++ [(c.start, p)] } else c.fail p
    else { c with buf := p }

/-- A stream byte: a pointer that names it starts the receiver there; one that names it inside a packet ends that packet as bad (02 R53). -/
def ChanRx.byte (c : ChanRx) (limit i : Nat) (at_ : PtpStamp) (b : Byte) : ChanRx :=
  let c := if c.resume = some i then { c with synced := true, buf := [], resume := none }
    else if c.synced ∧ c.pointer = i ∧ c.buf ≠ [] then { c.fail c.buf with synced := true }
    else c
  if c.synced then c.accept limit i at_ b else c

/-- The pointer of a frame of n channel bytes. A reserved value is taken as 0xFFFF (02 R51; log entry 33). -/
def ChanRx.point (c : ChanRx) (n p : Nat) : ChanRx :=
  let v := if 2 ≤ p ∧ p < n then p else 0xFFFF
  { c with pointer := v, begun := false, resume := if !c.synced ∧ v ≠ 0xFFFF then some v else none }

/-- Seven bytes from index i on are lost: a packet in assembly is bad, and the receiver goes on at this frame's pointer where that lies ahead,
otherwise at the next one (02 R35, R53; log entry 29). -/
def ChanRx.lost (c : ChanRx) (i : Nat) : ChanRx :=
  let c := if i = 0 then { c with pointer := 0xFFFF, begun := false } else c
  let c := if c.buf = [] then { c with synced := false } else c.fail c.buf
  { c with resume := if c.pointer ≠ 0xFFFF ∧ i + 7 ≤ c.pointer then some c.pointer else none }

/-- The overhead block of a channel's row, or none where it is errored. -/
def ChanRx.row (c : ChanRx) (x : Lane) (limit row0 rows row : Nat) (b : Option Bytes) : ChanRx :=
  let i := (row - row0) * 7
  match b with
  | none => c.lost i
  | some b =>
    let at_ : PtpStamp := ⟨x.ingressTime row, row⟩
    let c := if i = 0 then c.point (rows * 7) (field b 0 2) else c
    ((b.take 7).zipIdx.drop (if i = 0 then 2 else 0)).foldl (fun c e => c.byte limit (i + e.2) at_ e.1) c

/-- A packet that finds the data channel's queue of 16 KB full is dropped and counted (04 Table 4-4); a bad packet takes no place in it. -/
def queueDrop : List (PtpStamp × Bytes) → Nat → List (PtpStamp × Bytes) × Nat × Nat
  | [], n => ([], n, 0)
  | p :: ps, n =>
    if (packetData 1536 p.2).isNone then let r := queueDrop ps n; (p :: r.1, r.2.1, r.2.2)
    else if n + p.2.length ≤ 16384 then let r := queueDrop ps (n + p.2.length); (p :: r.1, r.2.1, r.2.2)
    else let r := queueDrop ps n; (r.1, r.2.1, r.2.2 + 1)

/-- Rows 16 to 63: the time channel. -/
def State.timeRow (s : State) (l : LaneId) (row : Nat) (b : Option Bytes) : State :=
  s.modLane l fun x => { x with ch := { x.ch with timeRx := x.ch.timeRx.row x 512 16 48 row b } }

/-- Rows 64 to 127: the data channel, with its queue. -/
def State.dataRow (s : State) (l : LaneId) (row : Nat) (b : Option Bytes) : State :=
  let x := s.lane l
  let old := x.ch.dataRx.ready
  let c := x.ch.dataRx.row x 1536 64 64 row b
  let r := queueDrop (c.ready.drop old.length) x.ch.dataQueue
  (s.countN 0x3050 8 0 l r.2.2).modLane l fun x =>
    { x with ch := { x.ch with dataRx := { c with ready := old ++ r.1 }, dataQueue := r.2.1 } }

/-- A row of one of the two channels. -/
def State.channelRow (s : State) (l : LaneId) (row : Nat) (b : Option Bytes) : State :=
  if row ≤ 63 then s.timeRow l row b else s.dataRow l row b

/-! A move (04 R100, R101, R122). -/

/-- The internal frame in which a frame of the forebay is read; none while a move leaves it open (04 R101, R106). -/
def Lane.dueOf (x : Lane) (f : RxFrame) : Option Int :=
  f.due.or (if x.bay.moved then none else some ((f.arr + (x.bay.depth : Int) + 62500) / 125000))

/-- A frame is cut by a FAB that arrives at a: its own position lies less than a frame before. -/
def RxFrame.cutAt (f : RxFrame) (a : Int) : Bool := decide (f.arr < a ∧ a < f.arr + 125000)

/-- The forebay at a move: older frames keep the boundary at which they are read, the cut one leaves as all-ones, and what was gathered after the first
new FAB at the old position is dropped for the candidate's own frame. -/
def Lane.cutBay (x : Lane) (c : Cand) : Lane :=
  let a := c.frame.arr
  let old := (x.bay.rxDone.filter fun f => decide (f.arr < a)).map fun f => { f with due := x.dueOf f, ones := f.ones || f.cutAt a }
  { x with bay := { x.bay with
    rxDone := old, rxFrame := { c.frame with multi := x.ch.multi }, moved := true, movedFor := 0
    phase := (a + 62500) % 125000 - 62500 } }

/-- The frame now arriving is whole: the forebay takes it, where the lane has been placed, and its parity is kept for the check (02 R45, 04 R104). -/
def State.closeFrame (s : State) (l : LaneId) (keep : Bool) : State :=
  (s.rxFrameBase l).modLane l fun x => { x with
    bay := { x.bay with rxDone := if keep && x.bay.placed then x.bay.rxDone ++ [x.bay.rxFrame] else [] }
    par := { x.par with bipPrev := some x.par.bipRx } }

/-- A multiframe start that was counted at the position which a move leaves: no interval verifies across it, and where the frames of the new position do
not start a multiframe the expected counters do not keep the step (04 R122, 11 R289; log entry 152). -/
def State.voidStart (s : State) (l : LaneId) (starts : Bool) : State :=
  s.each ((s.rxOn l).filter fun k => (s.rxS k).begun) fun k s => s.modRx k fun x =>
    { x with unver := true, unverNow := true, expected := if starts then x.expected else x.expected - 1 }

/-- Frame lock moves to a candidate position. The candidate's frame so far, begun at its last FAB, is the first of the new position: it is received
whole, and the channels take its rows. The runs of the APS, SSM and trace start again (log entry 151). -/
def State.frameMoved (s : State) (l : LaneId) (old c : Cand) : State :=
  let fly := (s.lane l).df.expMfi == 0 && (s.lane l).df.lockMissed
  let s := s.count 0x3050 2 0 l
  let s := match (s.lane l).bay.pos with
    | some p => if (s.lane l).bay.readFrame.cutAt old.frame.arr then
        (if s.fab.frameNo % 2 = 1 then { s with fab.ones0 := tput 0 s.fab.ones0 p 1000 } else { s with fab.ones1 := tput 0 s.fab.ones1 p 1000 })
      else s
    | none => s
  let s := s.modLane l fun x =>
    let x := x.cutBay old
    { x with
      df := { x.df with
        lockPos := c.pos, cands := x.df.cands.filter fun d => d.pos != c.pos, missRun := 0, lockMissed := false, disRun := 0
        expMfi := c.mfi, expSfi := c.sfi, lastFab := some (c.mfi, c.sfi) }
      par := { x.par with bipRx := old.bip }
      oh := { x.oh with apsRun := 0, ssmRun := 0, traceBuf := [], traceLast := none, traceRun := 0 }
      ch := { x.ch with failSeen := true, sealWait := [], sealIn := [] } }
  let s := if fly then s.voidStart l (old.mfi == 0) else s.multiframeAt l old.mfi
  let s := s.modLane l fun x => { x with bay := { x.bay with
    rxFrame := { x.bay.rxFrame with bytes := s.unsealFrame l x.bay.rxFrame.raw } } }
  let s := s.each ((List.range 112).map (16 + ·)) fun r s => s.channelRow l r (old.rows.lookup r)
  let s := (s.closeFrame l true).modLane l fun x =>
    { x with bay := { x.bay with fabB := s.fabSnapshot l, fabN := s.fabFrame l } }.newFrame c.mfi (old.frame.arr + 125000)
  (s.multiframeAt l c.mfi).settle l

/-- A candidate at its expected position. -/
def candAt (l : LaneId) (pos : Nat) (header : BitVec 2) (content : BitVec 64) (s : State) : State :=
  let x := s.lane l
  match x.df.cands.find? fun c => c.pos == pos with
  | none => s
  | some c =>
    match (if c.inverted then (if header = 1 then fabOf 2 (~~~content) else none) else fabOf header content) with
    | none => s.modLane l fun x => { x with df := { x.df with cands := x.df.cands.filter fun d => d.pos != pos } }
    | some f =>
      let c' : Cand := { c with
        count := c.count + 1, mfi := f.mfi, sfi := f.sfi, tag := f.tag, tagRun := if f.tag = c.tag then min 3 (c.tagRun + 1) else 1
        frame := { mfi := f.mfi, arr := c.frame.arr + 125000 }, bip := 0, rows := []
        consecutive := c.consecutive && (nextMulti (c.mfi, c.sfi) == (f.mfi, f.sfi)) }
      let s := s.modLane l fun x => { x with df := { x.df with
        cands := x.df.cands.map fun d => if d.pos == pos then c' else d, shownFab := some (f.mfi, f.sfi) } }
      if x.df.frameLock then
        if c'.missedLock then s.frameMoved l c c' else s
      else
        let s := if x.bring.stage = 5 ∧ s.cfg 0x2000 7 l = 0 then
            s.change l fun x =>
              let y := x.goto 6 s.now
              { y with
                bring := { y.bring with polarity := if c.inverted then 2 else 1 }
                df := { y.df with cands := if c.inverted then y.df.cands.map fun (d : Cand) => { d with inverted := !d.inverted } else y.df.cands } }
          else s
        if 3 ≤ c'.count then s.frameLocked l { c' with inverted := false } else s

/-- CANDIDATE_EXPECTED_POSITION. -/
def execCandidateExpectedPosition (lane : LaneId) (position : Nat) (header : BitVec 2) (content : BitVec 64) (s : State) : Out :=
  run (candAt lane position header content) s

/-! EXPECTED_FAB_POSITION (04 R99, R103; 03 R88, R90, R91). -/

/-- What a valid FAB does by the lane's stage. -/
def State.tagSeen (s : State) (l : LaneId) (tag : Nat) : State :=
  let x := s.lane l
  if x.bring.stage = 7 then
    let n := if x.bring.tagRun ≠ 0 ∧ x.bring.tagSeen = tag then min 3 (x.bring.tagRun + 1) else 1
    (s.modLane l fun x => { x with bring := { x.bring with
      tagRun := n, tagSeen := tag, groups := (none :: x.bring.groups).take 3 } }).tryIdentify l
  else if 8 ≤ x.bring.stage then
    let n := if tag = x.bring.tag then 0 else x.bring.diffRun + 1
    if 3 ≤ n then s.change l fun x => x.goto 7 s.now
    else
      let s := s.modLane l fun x => { x with bring := { x.bring with diffRun := n } }
      if x.bring.stage = 8 then
        (s.modLane l fun x => { x with bring := { x.bring with measured := min 8 (x.bring.measured + 1) } }).tryPlace l
      else s
  else s

/-- A missing FAB: the run of the identity and the measurement of stage 8 start again (03 R88, R90). -/
def State.fabMissing (s : State) (l : LaneId) : State :=
  (s.count 0x3050 1 0 l).modLane l fun x => { x with
    df := { x.df with
      missRun := x.df.missRun + 1, lockMissed := true, cands := x.df.cands.map fun (c : Cand) => { c with missedLock := true } }
    bring := { x.bring with tagRun := 0, groups := [], measured := 0 } }

/-- A FAB position ends one frame and begins the next. -/
def State.frameTurn (s : State) (l : LaneId) (keep : Bool) : State :=
  let t := s.fabSnapshot l
  let n := s.fabFrame l
  let a := s.fabArrival l
  ((s.closeFrame l keep).modLane l fun x => { x with bay := { x.bay with fabB := t, fabN := n } }.newFrame x.df.expMfi a).multiframeAt l
    (s.lane l).df.expMfi

/-- The expected FAB position of a frame-locked lane. -/
def fabAt (l : LaneId) (header : BitVec 2) (content : BitVec 64) (s : State) : State :=
  let x := s.lane l
  if x.df.frameLock then
    let e := nextMulti (x.df.expMfi, x.df.expSfi)
    let s := s.modLane l fun x => { x with df := { x.df with expMfi := e.1, expSfi := e.2 } }
    let s := match fabOf header content with
      | none =>
        let s := s.fabMissing l
        if 4 ≤ x.df.missRun + 1 then s.change l fun x => (x.goto 5 s.now).lockDefects else s
      | some f =>
        let now := (f.mfi, f.sfi)
        let agrees := now == e
        let follows := match x.df.lastFab with | some p => nextMulti p == now | none => false
        let s := if agrees then s else s.count 0x3050 4 0 l
        let s := s.change l fun x =>
          let n := if agrees then 0 else min 3 (x.df.disRun + 1)
          let x := { x with
            df := { x.df with missRun := 0, lockMissed := false, lastFab := some now, shownFab := some now, disRun := n }
            ch := { x.ch with sealReady := x.ch.sealReady ++ x.ch.sealWait, sealWait := [] } }
          if x.d.lom then
            if follows then { x with d := { x.d with lom := false }, df := { x.df with expMfi := f.mfi, expSfi := f.sfi, disRun := 0 } } else x
          else if n = 3 then { x with d := { x.d with lom := true } } else x
        s.tagSeen l f.tag
    if (s.lane l).df.frameLock then s.frameTurn l x.bay.placed else s
  else s

/-- EXPECTED_FAB_POSITION. -/
def execExpectedFabPosition (lane : LaneId) (header : BitVec 2) (content : BitVec 64) (s : State) : Out :=
  run (fabAt lane header content) s

/-! OVERHEAD_BLOCK_RECEIVED (04 R117 to R120). -/

/-- A flag that differs from its defect in 3 consecutive frames turns it (04 Table 4-1). -/
def turnRun (defect flag : Bool) (run : Nat) : Bool × Nat :=
  if flag == defect then (defect, 0) else if 3 ≤ run + 1 then (flag, 0) else (defect, run + 1)

/-- Bits in which two words differ. -/
def bitErrors (a b : BitVec 16) : Nat := popCount 16 (a ^^^ b).toNat

/-- The BIP-16 check of a frame, where R45 allows one and the lane is not failed (04 R117). -/
def State.checkBip (s : State) (l : LaneId) (sent : BitVec 16) : State :=
  let s := s.modLane l fun x => { x with par := { x.par with bipSent := sent } }
  match (s.lane l).par.bipPrev, s.laneFailed l with
  | some b, false =>
    let n := bitErrors sent b
    let s := s.countN 0x3050 5 0 l n
    let s := s.modNear l fun r => { r with blocks := r.blocks + 1, errored := r.errored + b2n (n != 0), bits := r.bits + n }
    s.modLane l fun x => { x with par := { x.par with bipCount := n, reiNext := n } }
  | _, true => s.modLane l fun x => { x with par := { x.par with bipCount := 0, reiNext := 0 } }
  | none, false => s

/-- The received REI (02 R46, 04 R117). -/
def State.takeRei (s : State) (l : LaneId) (v : Nat) : State :=
  if s.laneFailed l then s
  else if 16 < v then s.count 0x3050 0xC 0 l
  else (s.countN 0x3050 6 0 l v).modFar l fun r => { r with errored := r.errored + b2n (v != 0), bits := r.bits + v }

/-- Row 1: BIP-16, REI, lane flags, APS1 to APS3. -/
def State.row1 (s : State) (l : LaneId) (b : Bytes) : State :=
  let s := (s.checkBip l (BitVec.ofNat 16 (field b 0 2))).takeRei l (field b 2 1)
  let f := field b 3 1
  s.change l fun x =>
    let a := turnRun x.d.ais (bit f 6) x.d.aisRun
    let r := turnRun x.d.rdi (bit f 7) x.d.rdiRun
    { x with
      d := { x.d with ais := a.1, aisRun := a.2, rdi := r.1, rdiRun := r.2 }
      ch := { x.ch with aisSeen := x.ch.aisSeen || bit f 6 }
      oh := { x.oh with soBuf := (b.drop 4).take 3 } }

/-- A trace byte is lost: the period is not received, and the run of equal traces ends (04 R118). -/
def Trace.traceLost (o : Trace) : Trace := { o with traceBuf := [], traceLast := none, traceRun := 0 }

/-- One trace byte (04 R118). -/
def Trace.take (o : Trace) (mfi : Nat) (b : Byte) : Trace :=
  let i := mfi % 64
  let o := if o.traceBuf.length = i then o else o.traceLost
  let buf := if o.traceBuf.length = i then o.traceBuf ++ [b] else []
  if buf.length = 64 then
    match traceText buf with
    | some t =>
      let n := if o.traceLast = some t then o.traceRun + 1 else 1
      let o := { o with traceBuf := [], traceLast := some t, traceRun := min n 3 }
      if 3 ≤ n then { o with traceAcc := some t, traceFresh := true } else o
    | none => o.traceLost
  else { o with traceBuf := buf }

/-- The four APS bytes of a frame (04 R120); none where a block that carries them is errored. -/
def Trace.aps (o : Trace) (v : Option Nat) (failed : Bool) : Trace :=
  match v with
  | none => { o with apsRun := 0 }
  | some v =>
    let n := if o.apsRun ≠ 0 ∧ o.apsLast = v then min 3 (o.apsRun + 1) else 1
    let o := { o with apsLast := v, apsRun := n }
    if n = 3 ∧ !failed then { o with apsAcc := v, apsInvalid := false } else o

/-- The SSM code of a frame (04 R120). -/
def Trace.ssm (o : Trace) (v : Nat) (failed : Bool) : Trace :=
  let n := if o.ssmRun ≠ 0 ∧ o.ssmLast = v then min 8 (o.ssmRun + 1) else 1
  let o := { o with ssmLast := v, ssmRun := n }
  if n = 8 ∧ !failed then { o with ssmAcc := v, ssmInvalid := false } else o

/-- A newly accepted SSM code that the option does not assign is counted for the references that take their QL from the lane (09 R236). -/
def State.ssmAccepted (s : State) (l : LaneId) (code : Nat) : State :=
  if qlAssigned (ssmOption s.persist.dict) code then s
  else s.each ((List.range 8).filter fun r => s.refLane r == some (l : Nat) && s.cfg 0x5420 5 r == 0) fun r s => s.count 0x5430 2 2 r

/-- Row 2: APS4, SSM, trace, group. -/
def State.row2 (s : State) (l : LaneId) (b : Bytes) : State :=
  let failed := s.laneFailed l
  let x := s.lane l
  let aps := if x.oh.soBuf.length = 3 then some (beNat (x.oh.soBuf ++ b.take 1)) else none
  let code := field b 1 1 % 16
  let s := s.modLane l fun x =>
    let o := ((x.oh.aps aps failed).ssm code failed).take x.df.expMfi (b.getD 2 0)
    let g := field b 3 4
    { x with oh := { o with soBuf := [] }, bring := { x.bring with group := g, groups := some g :: x.bring.groups.drop 1 } }
  let o := (s.lane l).oh
  let new := !o.ssmInvalid && o.ssmAcc == code && (x.oh.ssmInvalid || x.oh.ssmAcc != code)
  ((if new then s.ssmAccepted l code else s).evalTim l).tryIdentify l

/-- Row 3: partner status and coefficients; RTR in 3 consecutive frames restarts the lane (03 R84, R87). -/
def State.row3 (s : State) (l : LaneId) (b : Bytes) : State :=
  let st := field b 2 1
  let s := s.modLane l fun x => { x with tr := { x.tr with
    partnerStatus := st, partnerPre := field b 3 1, partnerMain := field b 4 1, partnerPost := field b 5 1
    rtrRun := if bit st 6 then x.tr.rtrRun + 1 else 0 } }
  if 3 ≤ (s.lane l).tr.rtrRun then s.laneRestart l else s

/-- An errored overhead block: counted, its content discarded (02 R35). -/
def State.erroredRow (s : State) (l : LaneId) (row : Nat) : State :=
  let s := s.count 0x3050 0xC 0 l
  s.modLane l fun x =>
    if row = 1 then { x with oh := { x.oh with soBuf := [] } }
    else if row = 2 then
      let o := x.oh.aps none false
      { x with oh := { o.traceLost with soBuf := [], ssmRun := 0 } }
    else if row = 3 then { x with tr := { x.tr with rtrRun := 0 } }
    else x

/-- The bytes of the records of a frame that are whole with the row just taken: those whose last byte lies in it (02 R57). -/
def recordsIn (sc : Tab Nat) (row : Nat) : List Bytes :=
  let i := (row - 128) * 7
  ((List.range 224).filter fun j => decide (i ≤ 24 * j + 23 ∧ 24 * j + 23 < i + 7)).filterMap fun j =>
    let v := (List.range 24).map fun k => tget 0 sc (24 * j + k)
    if v.all (· != 0) then some (v.map fun n => BitVec.ofNat 8 (n - 1)) else none

/-- Rows 128 to 895: the seal channel. Its records are taken in multiframe lock, and ignored on an IDZ48-M1N; an empty one says nothing. They wait for
the FAB that ends the frame, since a move drops them (04 R120, R122; 02 R60; 00 R2; log entry 152). -/
def State.sealRow (s : State) (l : LaneId) (row : Nat) (b : Bytes) : State :=
  let i := (row - 128) * 7
  let go := s.power.ordering && !(s.lane l).d.lom
  s.modLane l fun x =>
    let sc := tputs 0 x.ch.sealIn i (b.map fun v => v.toNat + 1)
    let rs := if go then ((recordsIn sc row).map sealRecOf).filter fun r => r.handle != 0xFFFF else []
    { x with ch := { x.ch with sealIn := sc, sealWait := x.ch.sealWait ++ rs.map fun r => (1000 * x.df.expMfi + row, r) } }

/-- The overhead block of a row from 1 to 999 of a frame-locked lane. -/
def recvOverhead (l : LaneId) (row : Fin 1000) (header : BitVec 2) (content : BitVec 64) (s : State) : State :=
  let r : Nat := row
  if (s.lane l).df.frameLock && r != 0 then
    let b := overheadOf header content
    let s := if b.isNone then s.erroredRow l r else s
    if 16 ≤ r ∧ r ≤ 127 then s.channelRow l r b
    else match b with
      | some b =>
        if r = 1 then s.row1 l b
        else if r = 2 then s.row2 l b
        else if r = 3 then s.row3 l b
        else if 128 ≤ r ∧ r ≤ 895 then s.sealRow l r b
        else s
      | none => s
  else s

/-- OVERHEAD_BLOCK_RECEIVED. -/
def execOverheadBlockReceived (lane : LaneId) (row : Fin 1000) (header : BitVec 2) (content : BitVec 64) (s : State) : Out :=
  run (recvOverhead lane row header content) s

end Sys2Proof.Machine
end

