-- ==== Sys2Proof/Machine/Sealing.lean ====
section
/-! DEFINITION. The sealing commands: records, keys, streams, guarded channels (11). -/

namespace Sys2Proof.Machine

/-! SEAL_RECORD, SEAL_RECORD_DEADLINE, AIS_HOLD_END (02 R60, 11 R288 to R291). -/

/-- The tag verdict that the command names is the one the receiver comes to; a record that belongs to no stream has none (11 R288). -/
def State.tagAgrees (s : State) (l : LaneId) (r : SealRec) (tagOk : Bool) : Bool :=
  match s.rxByHandle l r.handle with
  | some k => s.tagFits k r == tagOk
  | none => true

/-- The oldest record that the received frames of a lane have brought reaches the unseal pipeline. The deframer has dropped the empty ones, those without
multiframe lock, those around a move, and on an IDZ48-M1N all of them (State.sealRow, State.frameMoved). The command names the record and the tag
verdict; one that is not the oldest at hand, or whose verdict is not the receiver's own, does nothing (log entry 144). -/
def sealRecord (l : LaneId) (r : SealRec) (tagOk : Bool) (s : State) : State :=
  match (s.lane l).ch.sealReady with
  | [] => s
  | x :: rs =>
    if x.2 = r ∧ s.tagAgrees l r tagOk = true then
      (s.modLane l fun x => { x with ch := { x.ch with sealReady := rs } }).takeRecord l x.1 r
    else s

/-- SEAL_RECORD. -/
def execSealRecord (lane : LaneId) (r : SealRec) (tagOk : Bool) (s : State) : Out := run (sealRecord lane r tagOk) s

/-- The row of the frame now arriving on a lane (02 R31). -/
def Lane.rxRow (x : Lane) : Nat := (x.df.blockPos + 97000 - x.df.lockPos) % 97000 / 97

/-- No record of a stream can arrive in time any more: past the seal channel of the frame with MFI 127; in hold mode, past row 700 of that with MFI 0
(02 R57, R60; 11 R291). -/
def State.recordLate (s : State) (k : Nat) : Bool :=
  let x := s.lane (s.rxF k 2)
  let h := s.rxF k 3
  x.df.frameLock && !((x.ch.sealReady ++ x.ch.sealWait).any fun p => p.2.handle == h)
    && (if s.rxF k 6 = 1 then x.df.expMfi != 0 || decide (700 < x.rxRow) else x.df.expMfi == 127 && decide (895 < x.rxRow))

/-- The deadline of a stream's record: an interval whose record is missing fails, unless it is unverifiable (02 R60, 11 R289, R291). -/
def sealDeadline (k : Fin 65536) (s : State) : State :=
  let y := s.rxS k
  if y.live && y.begun && !y.recordIn && s.recordLate k then s.noRecord k else s

/-- SEAL_RECORD_DEADLINE. -/
def execSealRecordDeadline (stream : Fin 65536) (s : State) : Out := run (sealDeadline stream) s

/-- AIS_HOLD_END: the H whole intervals have ended (11 R290). -/
def holdEnd (k : Fin 65536) (s : State) : State :=
  if (s.rxS k).hold = 1 then s.modRx k fun x => { x with hold := 0 } else s

/-- AIS_HOLD_END. -/
def execAisHoldEnd (stream : Fin 65536) (s : State) : Out := run (holdEnd stream) s

/-! Keys (11 R294 to R297). -/

/-- Streams whose configuration names a slot. -/
def State.txOfSlot (s : State) (k : Nat) : List Nat := s.txStreams.filter fun i => s.txF i 5 == k
def State.rxOfSlot (s : State) (k : Nat) : List Nat := s.rxStreams.filter fun i => s.rxF i 4 == k

/-- Every stream of a slot begins again at its next multiframe start, under a new key (11 R296). -/
def State.beginStreams (s : State) (slot : Nat) : State :=
  let s := s.each (s.txOfSlot slot) fun k s =>
    (s.modTx k fun x => { x with begun := false, counter := 0, sealed := false, newKey := false, keyx := false, near := false }).settleTx k
  s.each (s.rxOfSlot slot) fun k s => (s.modRx k fun x => { x with begun := false, verified := none, expected := 0, keyx := false }).settleRx k

/-- Direction of a slot's binding as Table 11-7 codes it, and its lane. -/
def State.bindLane (s : State) (slot : Nat) : Nat := s.cfgF 0x5C10 2 slot 0
def State.bindDir (s : State) (slot : Nat) : Nat := s.cfgF 0x5C10 2 slot 1

/-- The high-water mark of a slot. -/
def State.keyMark (s : State) (slot : Nat) : Nat := (s.keySlot slot).mark

/-- A wrapped key that does not unwrap is refused, and counted (11 R293, R294). -/
def badUnwrap (s : State) : Act := .done s.authFail (refusal stIntegrity) id

/-- The write of 5C10:01 with what the record unwraps to and its switch superframe. -/
def effInstallKey (slot : Nat) (plain : Option KeyPlain) (switchAt : Nat) (_ : Session) (_ : List Nat) (s : State) : Act :=
  if s.keysBarred then .refuse (naming stState 0x9020 3 0)
  else if s.sealing.kwk.isNone then .refuse (refusal stState)
  else match plain with
    | none => badUnwrap (s.cipherJob 56 false)
    | some p =>
      let x := s.keySlot slot
      if p.slot ≠ slot ∨ p.lane ≠ s.bindLane slot ∨ p.direction ≠ s.bindDir slot then .refuse (refusal stIntegrity)
      else if p.serial ≤ x.mark then .refuse (naming stConflict 0x5C10 4 slot)
      else if x.cur.isNone ∧ switchAt ≠ 0 then .refuse (refusal stRange)
      else if x.cur.isSome ∧ switchAt < s.fab.superframe + 2 then .refuse (refusal stState)
      else if x.cur.isSome ∧ s.fab.superframe + 43200 < switchAt then .refuse (refusal stRange)
      else if x.pend.isSome then .refuse (refusal stState)
      else if s.persist.markFree = 0 then .refuse (refusal stBusy 0x51)
      else if !s.persist.markOk then .refuse (refusal stInternal)
      else
        let key : KeyVal := ⟨p.serial, p.key⟩
        let t := { s with sealing.slots := tmod {} s.sealing.slots slot fun x =>
          if x.cur.isNone then { x with cur := some key, mark := p.serial } else { x with pend := some key, switchAt := switchAt, mark := p.serial } }
        let t := { t with persist.markFree := t.persist.markFree - 1 }.keyInstalled
        let t := (if x.cur.isNone then t.beginStreams slot else t).cipherJob 56
        .done t { offset := p.serial % 4294967296 } id

/-- What a wrapped key unwraps to under the KWK: AES-KWP of the 48 bytes of Table 11-7 (11 R294; log entry 172). -/
def State.unwrapped (s : State) (b : Bytes) : Option KeyPlain :=
  match s.sealing.kwk.map fun k => kwpUnwrap (keyBytes k) b with
  | some (.data p) =>
    if p.length = 48 then some ⟨field p 0 8, field p 8 2, field p 10 1, field p 11 1, BitVec.ofNat 256 (field p 16 32)⟩ else none
  | _ => none

/-- INSTALL_KEY: the 56 wrapped bytes, and the switch superframe (11 Table 11-6). -/
def execInstallKey (rq : Rq) (slot : Nat) (wrapped : Bytes) (switchAt : Nat) (s : State) : Out :=
  run (writeOf rq 0x5C10 1 slot (wrapped ++ beBytes 8 switchAt) (effInstallKey slot (s.unwrapped wrapped) switchAt)) s

/-- The superframe of the internal frame in which the forebay reads the frame now arriving on a lane; none while the lane is not placed (04 R106). -/
def State.readSuperframe (s : State) (l : Nat) : Option Nat :=
  let x := s.lane l
  if x.bay.placed then
    (x.dueOf x.bay.rxFrame).map fun n => ((s.frameNow : Int) + n - s.fab.frameNo).toNat / 16000
  else none

/-- The pending key of a slot is due: for a transmit slot in the frame (N, 0, 0) of the module's own numbering; for a receive slot in the first frame of
a received multiframe with SFI 0 that the forebay reads in superframe N, or in a later one where none was (11 R296; log entry 171). -/
def State.switchDue (s : State) (slot : Nat) : Bool :=
  let n := (s.keySlot slot).switchAt
  if s.bindDir slot = 0 then decide (n ≤ s.fab.superframe) && s.fab.sfi == 0 && s.fab.mfi == 0
  else
    let df := (s.lane (s.bindLane slot)).df
    df.frameLock && df.expMfi == 0 && df.expSfi == 0 && (s.readSuperframe (s.bindLane slot)).any fun m => decide (n ≤ m)

/-- The pending key takes over: every stream of the slot restarts at counter 0 with NEWKEY (11 R296). -/
def switchKey (slot : Nat) (s : State) : State :=
  let x := s.keySlot slot
  if x.pend.isSome && s.switchDue slot then
    let s := { s with sealing.slots := tmod {} s.sealing.slots slot fun x => { x with cur := x.pend, pend := none, switchAt := 0 } }
    let s := s.each (s.txOfSlot slot) fun k s =>
      (s.modTx k fun x => { x with counter := 0, sealed := x.begun, newKey := true, keyx := false, near := false }).settleTx k
    s.each (s.rxOfSlot slot) fun k s =>
      (s.modRx k fun y => { y with
        oldKey := true, oldVal := x.cur, oldVerified := y.verified, oldExpected := y.expected, verified := none, expected := 0, nkNow := 1
        keyx := false }).settleRx k
  else s

/-- KEY_SWITCH. -/
def execKeySwitch (slot : Fin 16384) (s : State) : Out := run (switchKey slot) s

/-- The write of 5C10:05: 1 the pending key, 2 both keys. -/
def effEraseSlot (slot : Nat) (_ : Session) (vs : List Nat) (s : State) : Act :=
  if vs.headD 0 = 1 then
    ok { s with sealing.slots := tmod {} s.sealing.slots slot fun x => { x with pend := none, switchAt := 0 } }
  else
    let s := { s with sealing.slots := tmod {} s.sealing.slots slot fun x => { x with cur := none, pend := none, switchAt := 0 } }
    let s := s.beginStreams slot
    ok (s.each (s.rxOfSlot slot) fun k s => (s.modRx k fun x => if x.live then { x with begun := true } else x).checkRxKey k)

/-- ERASE_PENDING_KEY. -/
def execErasePendingKey (rq : Rq) (slot : Nat) (s : State) : Out := run (writeOf rq 0x5C10 5 slot (u8 1) (effEraseSlot slot)) s

/-- ERASE_SLOT_KEY. -/
def execEraseSlotKey (rq : Rq) (slot : Nat) (s : State) : Out := run (writeOf rq 0x5C10 5 slot (u8 2) (effEraseSlot slot)) s

/-- The write of 5C40:01. -/
def effEraseAll (_ : Session) (_ : List Nat) (s : State) : Act := ok (s.eraseKeys 0)

/-- ERASE_ALL_KEYS. -/
def execEraseAllKeys (rq : Rq) (arg : Byte) (s : State) : Out := run (writeOf rq 0x5C40 1 0 [arg] effEraseAll) s

/-- The write of 5E00:01 with what the ciphertext decrypts to. -/
def effInstallKwk (plain : Option (BitVec 256)) (_ : Session) (_ : List Nat) (s : State) : Act :=
  if s.keysBarred then .refuse (naming stState 0x9020 3 0)
  else match plain with
    | none => badUnwrap s
    | some k => ok { s with sealing.kwk := some k }

/-- INSTALL_KWK: the operand gives the 384 bytes, and what they decrypt to under the identity key, which the spec does not give (log entry 4). -/
def execInstallKwk (rq : Rq) (c : KwkCipher) (s : State) : Out :=
  run (writeOf rq 0x5E00 1 0 c.bytes (effInstallKwk c.decrypted)) s

/-! Streams (11 R278, R280, R291). -/

/-- The circuit of either page that uses a transmit stream as it stands, or a receive stream. -/
def State.txUser (s : State) (k : Nat) : Option Nat :=
  if s.txF k 0 = 1 ∧ (!(placedOn (s.fab.active) (s.txF k 1) (s.txF k 2) (s.txPos (s.txF k 3))).isEmpty
      || !(placedOn (s.fab.shadow) (s.txF k 1) (s.txF k 2) (s.txPos (s.txF k 3))).isEmpty) then some (s.txF k 1) else none
def State.rxUser (s : State) (k : Nat) : Option Nat :=
  let uses (page : List Entry) : Bool := page.any fun e => e.handle == s.rxF k 1 && e.unsealOn && !e.mirror
    && (sourcesOf e).any fun r => (List.range 48).any fun p => s.rxLane p == s.rxF k 2 && (atPos p r.1 r.2).isSome
  if s.rxF k 0 = 1 ∧ (uses s.fab.active || uses s.fab.shadow) then some (s.rxF k 1) else none

/-- A slot is bound to a lane and direction. -/
def State.boundTo (s : State) (slot lane dir : Nat) : Bool := s.bindLane slot == lane && s.bindDir slot == dir

/-- The write of 5C20:01. -/
def effTxStream (k : Nat) (_ : Session) (vs : List Nat) (s : State) : Act :=
  match vs with
  | [en, circuit, leg, lane, handle, slot, salt] =>
    let others : List Nat := s.txStreams.filter (· != k)
    let old := s.txF k 5
    let moves := decide (circuit ≠ s.txF k 1 ∨ leg ≠ s.txF k 2 ∨ lane ≠ s.txF k 3)
    if 48 ≤ lane ∨ 14 < leg ∨ 16384 ≤ handle ∨ 16384 ≤ slot then .refuse (refusal stRange)
    else if en = 1 ∧ others.any (fun i => s.txF i 3 == lane && s.txF i 4 == handle) then .refuse (refusal stConflict)
    else if en = 1 ∧ others.any (fun i => s.txF i 5 == slot && s.txF i 6 == salt) then .refuse (refusal stConflict)
    else if en = 1 ∧ !s.boundTo slot lane 0 then .refuse (refusal stConflict)
    else match s.txUser k with
      | some h =>
        if moves || en != 1 then .refuse (naming stState 0x4200 1 h)
        else
          let fresh := decide (slot ≠ old)
          let t := s.setStaged 0x5C20 1 k vs
          ok (if fresh then (t.modTx k fun x => x.changeSlot old slot (s.curKey old) (s.curKey slot)).settleTx k else t)
      | none =>
        let t := (s.setStaged 0x5C20 1 k vs).modTx k fun x => if slot ≠ old then x.changeSlot old slot (s.curKey old) (s.curKey slot) else x
        ok (if moves then t.clearGroup 0x5C21 k else t)
  | _ => .refuse (refusal stType)

/-- TRANSMIT_STREAM_WRITE. -/
def execTransmitStreamWrite (rq : Rq) (stream : Nat) (value : Bytes) (s : State) : Out :=
  run (writeOf rq 0x5C20 1 stream value (effTxStream stream)) s

/-- Slots that the hold-mode receive streams of a lane draw in a page, one stream taken as in hold mode (11 Table 11-1). -/
def State.heldSlots (s : State) (page : List Entry) (lane extra : Nat) : Nat :=
  ((s.rxStreams.filter fun i => s.rxF i 2 == lane && (s.rxF i 6 == 1 || i == extra)).map fun i =>
    ((List.range 48).filter (fun p => s.rxLane p == lane)).map (fun p => slotCount (drawn page (s.rxF i 1) p)) |>.sum).sum

/-- The write of 5C30:01. -/
def effRxStream (k : Nat) (_ : Session) (vs : List Nat) (s : State) : Act :=
  match vs with
  | [en, circuit, lane, handle, slot, salt, mode] =>
    let others : List Nat := s.rxStreams.filter (· != k)
    let moves := decide (circuit ≠ s.rxF k 1 ∨ lane ≠ s.rxF k 2)
    let prompt := (s.fab.active ++ s.fab.shadow).any fun e => e.handle == circuit && e.prompt && e.unsealOn
    let t := s.setStaged 0x5C30 1 k vs
    let full := decide (1024 < t.heldSlots s.fab.active lane k ∨ 1024 < t.heldSlots s.fab.shadow lane k)
    if 48 ≤ lane ∨ 16384 ≤ handle ∨ 16384 ≤ slot then .refuse (refusal stRange)
    else if en = 1 ∧ others.any (fun i => s.rxF i 2 == lane && s.rxF i 3 == handle) then .refuse (refusal stConflict)
    else if en = 1 ∧ others.any (fun i => s.rxF i 4 == slot && s.rxF i 5 == salt) then .refuse (refusal stConflict)
    else if en = 1 ∧ !s.boundTo slot lane 1 then .refuse (refusal stConflict)
    else if (moves || en != 1) && (s.rxUser k).isSome then .refuse (naming stState 0x4200 1 ((s.rxUser k).getD 0))
    else if en = 1 ∧ mode = 1 ∧ prompt = true then .refuse (refusal stConflict 0x32 lane)
    else if en = 1 ∧ mode = 1 ∧ full = true then .refuse (refusal stLimit 0x33 lane)
    else
      let t := t.modRx k fun x => if slot ≠ s.rxF k 4 then x.changeSlot (s.rxF k 4) slot (s.curKey (s.rxF k 4)) (s.curKey slot) else x
      ok (if moves then
            let t := t.clearGroup 0x5C32 k
            { t with pm.stream := tmod {} t.pm.stream k Mon.clear }.modStream k fun r => { r with off := true }
          else if en ≠ s.rxF k 0 then t.modStream k fun r => { r with off := true }
          else t)
  | _ => .refuse (refusal stType)

/-- RECEIVE_STREAM_WRITE. -/
def execReceiveStreamWrite (rq : Rq) (stream : Nat) (value : Bytes) (s : State) : Out :=
  run (writeOf rq 0x5C30 1 stream value (effRxStream stream)) s

/-- The write of 5C10:02: a slot is rebound only while it holds no key and no stream names it (11 R279). -/
def effBinding (slot : Nat) (_ : Session) (vs : List Nat) (s : State) : Act :=
  let x := s.keySlot slot
  let named := (s.elemsOf 0x5C20 1).any (fun k => s.txF k 5 == slot && s.txF k 0 == 1)
    || (s.elemsOf 0x5C30 1).any (fun k => s.rxF k 4 == slot && s.rxF k 0 == 1)
  if s.val 0x5C10 2 slot = vs then ok (s.setStaged 0x5C10 2 slot vs)
  else guardAct (x.cur.isSome || x.pend.isSome || named) (refusal stState) (ok (s.setStaged 0x5C10 2 slot vs))

/-! Guarded channels (11 R302, R303). -/

/-- A guarded channel. -/
def State.chan (s : State) (ch : Nat) : Channel := tget {} s.sealing.channels ch

/-- Change a guarded channel. -/
def State.modChan (s : State) (ch : Nat) (f : Channel → Channel) : State :=
  { s with sealing.channels := tmod {} s.sealing.channels ch f }

/-- The high-water mark of a channel. -/
def State.chanMark (s : State) (ch : Nat) : Nat := tget 0 s.sealing.chanMark ch

/-- The write of 5E10:02 with what the wrapped key unwraps to. -/
def effChannelKey (ch : Nat) (plain : Option KeyPlain) (_ : Session) (_ : List Nat) (s : State) : Act :=
  if s.keysBarred then .refuse (naming stState 0x9020 3 0)
  else if s.sealing.kwk.isNone then .refuse (refusal stState)
  else match plain with
    | none => badUnwrap (s.cipherJob 56 false)
    | some p =>
      if p.slot ≠ 0x8000 + ch ∨ p.lane ≠ s.cfgF 0x5E10 1 ch 0 ∨ p.direction ≠ 2 then .refuse (refusal stIntegrity)
      else if p.serial ≤ s.chanMark ch then .refuse (refusal stConflict)
      else if s.persist.markFree = 0 then .refuse (refusal stBusy 0x51)
      else if !s.persist.markOk then .refuse (refusal stInternal)
      else
        let t := { s with sealing.chanMark := tput 0 s.sealing.chanMark ch p.serial, persist.markFree := s.persist.markFree - 1 }
        let t := (t.modChan ch fun x => { x with key := some ⟨p.serial, p.key⟩, next := 1, last := 0 }).keyInstalled.cipherJob 56
        .done t { offset := p.serial % 4294967296 } id

/-- INSTALL_CHANNEL_KEY. -/
def execInstallChannelKey (rq : Rq) (channel : Nat) (wrapped : Bytes) (s : State) : Out :=
  run (writeOf rq 0x5E10 2 channel wrapped (effChannelKey channel (s.unwrapped wrapped))) s

/-- Type and body of a guarded message: sequence, ciphertext, tag (11 Table 11-10). -/
def guardedData (ch : Nat) (key : BitVec 256) (salt seq : Nat) (m : Bytes) : Bytes :=
  let ty := beBytes 1 (0x10 + ch)
  ty ++ beBytes 8 seq ++ gcmSeal key (ivOf salt seq) ty m

/-- The write of 5E10:03: the message is queued (11 R302). -/
def effSend (ch : Nat) (m : Bytes) (_ : Session) (_ : List Nat) (s : State) : Act :=
  let x := s.chan ch
  let lane := s.cfgF 0x5E10 1 ch 0
  match x.key with
  | none => .refuse (refusal stState)
  | some k =>
    if 48 ≤ lane then .refuse (refusal stState)
    else if (s.lane lane).bring.stage ≠ 9 then .refuse (naming stState 0x2020 1 lane)
    else if 16 ≤ x.queue.length then .refuse (refusal stBusy)
    else
      let d := guardedData ch k.key (s.cfgF 0x5E10 1 ch 1) x.next m
      ok ((s.cipherJob m.length).modChan ch fun x => { x with next := x.next + 1, queue := x.queue ++ [d] })

/-- The request that brings a message's last segment, where the message is longer than one WRITE carries (14 R357, R369). -/
def sendReq (rq : Rq) (channel : Nat) (message : Bytes) : Req :=
  ⟨rq.session, rq.tag, 0, 0x5E10, 3, 0, channel, message.length - 1396, 1396, message.length, message.drop 1396⟩

/-- SEND_MESSAGE: a WRITE, or the DOMAIN_WRITE that completes a message of more than 1,396 bytes. -/
def execSendMessage (rq : Rq) (channel : Nat) (message : Bytes) (s : State) : Out :=
  if message.length ≤ 1396 then run (writeOf rq 0x5E10 3 channel message (effSend channel message)) s
  else run (request 5 (sendReq rq channel message)
    (writeBody (writeReq rq 0x5E10 3 channel message) (effSend channel message))) s

/-- The fragments of an accepted message as 64-byte entries (11 R303); fuel is their number. -/
def fragments (ch len : Nat) : Nat → Nat → Bytes → List Bytes
  | 0, _, _ => []
  | k + 1, i, m =>
    if m.isEmpty then []
    else
      let part := m.take 56
      ([0x90] ++ beBytes 1 ch ++ beBytes 2 i ++ beBytes 2 len ++ beBytes 2 part.length ++ padTo 56 part) :: fragments ch len k (i + 1) (m.drop 56)

/-- A guarded message arrives on a lane: accepted only with a matching tag and a sequence above the last (11 R303). -/
def State.guardedIn (s : State) (l : LaneId) (ch : Nat) (body : Bytes) : State :=
  let x := s.chan ch
  if s.cfgF 0x5E10 1 ch 0 ≠ (l : Nat) then s.count 0x5E10 4 6 ch
  else match x.key with
    | none => s.count 0x5E10 4 6 ch
    | some k =>
      let seq := field body 0 8
      if body.length < 25 ∨ seq ≤ x.last then s.count 0x5E10 4 6 ch
      else match gcmOpen k.key (ivOf (s.cfgF 0x5E10 1 ch 2) seq) (beBytes 1 (0x10 + ch)) (body.drop 8) with
      | none => (s.cipherJob (body.length - 8) false).count 0x5E10 4 6 ch
      | some m =>
        let s := s.cipherJob (body.length - 8)
        let s := (s.count 0x5E10 4 5 ch).modChan ch fun x => { x with last := seq }
        let h := s.cfgF 0x5E10 1 ch 3
        let es := fragments ch m.length m.length 0 m
        if s.hopKind h = 7 then s.each es fun e s => s.postUnit h [e] else s

end Sys2Proof.Machine
end

