-- ==== Sys2Proof/Machine/EditOps.lean ====
section
/-! DEFINITION. Edit transactions as entries, their structure, what they compile to, and the checks they pass (05, 06, 11 R280). -/

namespace Sys2Proof.Machine

/-! Transactions as they stand in a hopper (06 R154 to R160). -/

/-- A segment (06 Table 6-7). -/
structure Seg where
  e0 : Nat
  i0 : Nat
  a0 : Nat
  n : Nat
  deriving DecidableEq, Repr

/-- A leg (06 Table 6-5); 255 stands for no port. -/
structure Leg where
  number : Nat
  eport : Nat
  iport : Nat
  aport : Nat
  kind : Nat
  prompt : Bool
  sealOn : Bool
  unsealOn : Bool
  ca : Nat
  idle : Nat
  segs : List Seg
  deriving DecidableEq, Repr

/-- An operation (06 Table 6-3): 1 ADD, 2 DELETE, 3 MOVE, 4 BRIDGE, 5 UNBRIDGE. -/
structure EditOp where
  code : Nat
  handle : Nat
  legNo : Nat
  legs : List Leg
  deriving DecidableEq, Repr

/-- Every byte of a part is 0x00. -/
def blank (b : Bytes) : Bool := b.all (· == 0)

/-- The k-th segment of a LEG or SEG entry. -/
def segAt (b : Bytes) (k : Nat) : Seg :=
  ⟨field b (16 + 16 * k) 4, field b (20 + 16 * k) 4, field b (24 + 16 * k) 4, field b (28 + 16 * k) 4⟩

/-- The first segments of an entry. -/
def segsOf (b : Bytes) (n : Nat) : List Seg := (List.range (min 3 n)).map (segAt b)

/-- A segment stays within what Table 6-7 allows, with 0 where the leg has no such source. -/
def segOk (pattern alt : Bool) (g : Seg) : Bool :=
  decide (1 ≤ g.n ∧ g.n ≤ 3072000) && (!pattern || g.i0 == 0) && (alt || g.a0 == 0)

/-- The SEG entries that a leg still needs; an error names the entry that offends. -/
def takeSegs (tag leg legAt : Nat) (ok : Seg → Bool) : List Bytes → Nat → Nat → List Seg → Except Nat (List Seg × List Bytes × Nat)
  | [], i, need, acc => if need = 0 then .ok (acc, [], i) else .error legAt
  | b :: bs, i, need, acc =>
    if need = 0 then .ok (acc, b :: bs, i)
    else
      let g := segsOf b need
      if field b 0 1 = 4 ∧ field b 1 1 = leg ∧ field b 2 2 = tag ∧ blank ((b.drop 4).take 12) = true
          ∧ blank (b.drop (16 + 16 * g.length)) = true ∧ g.all ok = true then
        takeSegs tag leg legAt ok bs (i + 1) (need - 3) (acc ++ g)
      else .error i

/-- The LEG entry without its segments' count of slots. -/
def legOf (b : Bytes) (segs : List Seg) : Leg :=
  let a := field b 7 1
  { number := field b 1 1, eport := field b 4 1, iport := field b 5 1, aport := field b 6 1
    kind := bits a 7 6, prompt := bit a 5, sealOn := bit a 4, unsealOn := bit a 3, ca := bits a 2 1
    idle := if bit (field b 9 1) 0 then field b 8 1 else 0x7E, segs := segs }

/-- The legs of one operation. The LEG entry of a BRIDGE carries the leg number of its OP entry, or the structure fails (log entry 156). -/
def takeLegs (tag : Nat) (bridge : Option Nat) (opAt : Nat) : Nat → List Bytes → Nat → List Leg → Except Nat (List Leg × List Bytes × Nat)
  | 0, es, i, acc => .ok (acc, es, i)
  | _ + 1, [], _, _ => .error opAt
  | k + 1, b :: bs, i, acc =>
    let n := field b 10 2
    let first := segsOf b n
    let f := field b 9 1
    let ok := segOk (field b 5 1 == 0xFF) (field b 6 1 != 0xFF)
    if field b 0 1 = 3 ∧ field b 2 2 = tag ∧ field b 1 1 ≤ 14 ∧ bit (field b 7 1) 0 = false ∧ f ≤ 1
        ∧ (f = 1 ∨ field b 8 1 = 0) ∧ 1 ≤ n ∧ n ≤ 12282 ∧ blank (b.drop (16 + 16 * first.length)) = true
        ∧ first.all ok = true ∧ (match bridge with | some l => field b 1 1 == l | none => true) = true then
      match takeSegs tag (field b 1 1) i ok bs (i + 1) (n - 3) first with
      | .error j => .error j
      | .ok (segs, rest, j) =>
        let total := (segs.map Seg.n).sum
        if total = field b 12 4 ∧ 1 ≤ total ∧ total ≤ 3072000 then takeLegs tag bridge opAt k rest j (acc ++ [legOf b segs])
        else .error i
    else .error i

/-- Leg counts that an opcode admits (06 Table 6-3). -/
def legCountOk (op n : Nat) : Bool :=
  match op with
  | 1 | 3 => decide (1 ≤ n ∧ n ≤ 15)
  | 4 => n == 1
  | 2 | 5 => n == 0
  | _ => false

/-- The operations of a transaction. -/
def takeOps (tag : Nat) : Nat → List Bytes → Nat → List EditOp → Except Nat (List EditOp × List Bytes × Nat)
  | 0, es, i, acc => .ok (acc, es, i)
  | _ + 1, [], _, _ => .error 0
  | k + 1, b :: bs, i, acc =>
    let op := field b 1 1
    let leg := field b 9 1
    if field b 0 1 = 2 ∧ field b 2 2 = tag ∧ legCountOk op (field b 8 1) = true ∧ blank (b.drop 10) = true
        ∧ (op = 4 ∧ leg ≤ 14 ∨ op = 5 ∨ op ≠ 4 ∧ op ≠ 5 ∧ leg = 0) then
      match takeLegs tag (if op = 4 then some leg else none) i (field b 8 1) bs (i + 1) [] with
      | .error j => .error j
      | .ok (legs, rest, j) => takeOps tag k rest j (acc ++ [⟨op, field b 4 4, leg, legs⟩])
    else .error i

/-- A whole transaction's operations, or the offset of the first offending entry (06 R160). -/
def parseTrans (es : List Bytes) : Except Nat (List EditOp) :=
  match es with
  | [] => .error 0
  | b :: bs =>
    if field b 1 1 = 0 ∧ field b 10 1 ≤ 1 ∧ field b 11 1 = 0 ∧ blank (b.drop 16) = true ∧ 1 ≤ field b 6 2 ∧ field b 6 2 ≤ 1024 then
      match takeOps (field b 2 2) (field b 6 2) bs 1 [] with
      | .error j => .error j
      | .ok (ops, [], _) => .ok ops
      | .ok (_, _ :: _, j) => .error j
    else .error 0

/-! What an operation compiles to (05 R133, R134; 07 R183). -/

/-- Adjoining segments joined into maximal runs (05 R133). -/
def mergeSegs (l : Leg) : List Seg :=
  (l.segs.foldl (fun (acc : List Seg) g =>
    match acc with
    | a :: as =>
      if g.e0 = a.e0 + a.n ∧ (l.iport = 255 ∨ g.i0 = a.i0 + a.n) ∧ (l.aport = 255 ∨ g.a0 = a.a0 + a.n) then
        { a with n := a.n + g.n } :: as
      else g :: a :: as
    | [] => [g]) []).reverse

/-- The lowest selector index that is free (05 R134). -/
def freeSel (used : List Nat) : Nat := ((List.range (used.length + 1)).find? fun i => !used.contains i).getD 0

/-- Selector indices in use in a page. -/
def usedSels (page : List Entry) : List Nat := page.filterMap fun e => e.alt.map Companion.selIdx

/-- The entry of one run (05 Tables 5-2 and 5-3), its masks still 0. -/
def runEntry (handle : Nat) (l : Leg) (sel : Nat) (g : Seg) : Entry :=
  let slot := l.kind == 0
  let prot := l.aport != 255
  { kind := l.kind, prompt := l.prompt, sealOn := l.sealOn, unsealOn := l.unsealOn, ca := if slot then l.ca else 0
    egress := gaddr l.eport g.e0, len := g.n - 1
    ingress := if slot then gaddr l.iport g.i0 else if l.kind = 2 then l.idle else 0
    comp := if slot && (prot || l.ca == 2) then
        some { prot := prot, altIn := if prot then gaddr l.aport g.a0 else 0, selIdx := if prot then sel else 0, idle := l.idle }
      else none
    handle := handle, leg := l.number }

/-- The entries of legs, with selector indices in order, written by the transaction with an acceptance number; `born` gives the one that brought each
leg into the map. -/
def legEntries (handle : Nat) (used : List Nat) (acc : Nat) (born : Nat → Nat) (legs : List Leg) : List Entry :=
  ((legs.flatMap fun l => (mergeSegs l).map fun g => (l, g)).foldl (fun (st : List Entry × List Nat) p =>
    let sel := freeSel st.2
    let e := { runEntry handle p.1 sel p.2 with born := born p.1.number, made := acc }
    (st.1 ++ [e], if e.alt.isSome then sel :: st.2 else st.2)) ([], used)).1

/-- The head-end mirrors of an entry, over the pairs as the shadow page has them (07 R183). -/
def mirrorsOf (remap : List (Nat × Nat × Nat)) (e : Entry) : List Entry :=
  remap.filterMap fun r =>
    if gaddr r.1 0 ≤ e.egress ∧ e.egress < gaddr (r.1 + r.2.2) 0 then
      some { e with egress := e.egress + gaddr r.2.1 0 - gaddr r.1 0, mirror := true }
    else none

/-- Logical positions that a range of global addresses touches. -/
def positions (g n : Nat) : List Nat := (List.range (posOf (g + n - 1) + 1 - posOf g)).map (posOf g + ·)

/-- A mask of the logical lanes, within the port that holds an address, of some ranges (05 R134). -/
def State.laneMask (s : State) (port : Nat) (ranges : List (Nat × Nat)) : Nat :=
  let used : List Nat := ranges.flatMap fun r => (positions r.1 r.2).filter fun p => s.portOf p == port
  ((List.range 4).map fun i => if used.contains (port + i) then 2 ^ i else 0).sum

/-- LMASK and ALTMASK of every run of a circuit (05 R134). -/
def State.remask (s : State) (page : List Entry) (handle : Nat) : List Entry :=
  let own := page.filter fun e => e.handle == handle
  let prim : List (Nat × Nat) := own.filterMap fun e => if e.kind = 0 then some (e.ingress, e.slots) else none
  let alts : List (Nat × Nat) := own.filterMap fun e => e.alt.map fun c => (c.altIn, e.slots)
  page.map fun e =>
    if e.handle = handle ∧ e.kind = 0 then
      { e with
        lmask := s.laneMask (s.portOf (posOf e.ingress)) prim
        comp := e.comp.map fun c => if c.prot then { c with altMask := s.laneMask (s.portOf (posOf c.altIn)) alts } else c }
    else e

/-- A page with the legs of an operation added to a circuit. -/
def State.withLegs (s : State) (page : List Entry) (handle acc : Nat) (born : Nat → Nat) (legs : List Leg) : List Entry :=
  let es := legEntries handle (usedSels page) acc born legs
  s.remask (insEntries (es ++ es.flatMap (mirrorsOf s.remaps)) page) handle

/-! Why an operation fails. -/

/-- The status, detail, leg and bank of a failed operation (06 Table 6-8). -/
structure Fail where
  status : Nat
  detail : Nat
  value : Nat := 0
  leg : Nat := 255
  bank : Nat := 0
  deriving DecidableEq, Repr

/-- The least of some positions. -/
def leastOf (l : List (Option Nat)) : Option Nat :=
  l.foldl (fun a b => match a, b with | none, x => x | some x, none => some x | some x, some y => some (min x y)) none

/-- The segments of a leg with the list position of each. -/
def partsFrom : Nat → List Seg → List (Nat × Seg)
  | _, [] => []
  | k, g :: gs => (k, g) :: partsFrom (k + g.n) gs

def Leg.parts (l : Leg) : List (Nat × Seg) := partsFrom 0 l.segs

/-- A port named is the first lane of a configured port. -/
def State.isPort (s : State) (p : Nat) : Bool := decide (p < 48) && s.portOf p == p

/-- Where a series of slots leaves its port. -/
def pastEnd (base n lim : Nat) : Option Nat := if lim < base + n then some (lim - base) else none

/-- Where a segment's egress slots first meet a range. -/
def meetAt (e0 n a m : Nat) : Option Nat := if meets e0 n a m then some (a - e0) else none

/-- Egress slots that appear twice in a leg. -/
def twiceAt : List (Nat × Seg) → List (Option Nat)
  | [] => []
  | p :: ps => (ps.map fun q => (meetAt q.2.e0 q.2.n p.2.e0 p.2.n).map (q.1 + ·)) ++ twiceAt ps

/-- Check 2 of Table 5-5: the failing list position. -/
def State.check2 (s : State) (l : Leg) : Option Nat :=
  if !s.isPort l.eport || !(l.iport == 255 || s.isPort l.iport) || !(l.aport == 255 || s.isPort l.aport) then some 0
  else
    let lim (p : Nat) : Nat := 768000 * s.width p
    leastOf ((l.parts.flatMap fun p =>
      [(pastEnd p.2.e0 p.2.n (lim l.eport)).map (p.1 + ·),
       if l.iport = 255 then none else (pastEnd p.2.i0 p.2.n (lim l.iport)).map (p.1 + ·),
       if l.aport = 255 then none else (pastEnd p.2.a0 p.2.n (lim l.aport)).map (p.1 + ·)]) ++ twiceAt l.parts)

/-- Check 3. -/
def check3 (l : Leg) : Bool :=
  l.ca != 3 && (if l.kind = 0 then l.iport != 255 else l.iport == 255 && l.aport == 255 && !l.unsealOn && !l.prompt)

/-- Check 5 against the entries that hold egress slots already, and the ports that pairs reserve (07 R184). -/
def State.check5 (s : State) (taken : List Entry) (l : Leg) : Option Nat :=
  let reserved : List Nat := s.remaps.map fun r => r.2.1
  if reserved.contains l.eport || reserved.contains l.iport || reserved.contains l.aport then some 0
  else leastOf (l.parts.flatMap fun p => taken.map fun e => (meetAt (gaddr l.eport p.2.e0) p.2.n e.egress e.slots).map (p.1 + ·))

/-- The row of a port slot in its lane. -/
def rowOf (q : Nat) : Nat := q / 768 % 1000

/-- Where the row distance of a segment leaves 2 to 16 (05 R143): the distance can only change where one side enters a new row. -/
def distanceAt (e i n : Nat) : Option Nat :=
  let bad (t : Nat) : Bool := let d := (rowOf (e + t) + 1000 - rowOf (i + t)) % 1000; d < 2 || 16 < d
  ([0, 768 - max (e % 768) (i % 768)].filter fun t => decide (t < n) && bad t).head?

/-- Check 6. -/
def check6 (l : Leg) : Option Nat :=
  leastOf (l.parts.flatMap fun p =>
    [(distanceAt p.2.e0 p.2.i0 p.2.n).map (p.1 + ·), if l.aport = 255 then none else (distanceAt p.2.e0 p.2.a0 p.2.n).map (p.1 + ·)])

/-- The lanes of a leg's sources by logical position. -/
def Leg.sources (l : Leg) : List Nat :=
  (l.segs.flatMap fun g =>
    (if l.iport = 255 then [] else positions (gaddr l.iport g.i0) g.n)
      ++ (if l.aport = 255 then [] else positions (gaddr l.aport g.a0) g.n)).eraseDups

/-- Check 7: the first source lane that is not phase-aligned, as a physical lane (06 Table 6-9). -/
def State.check7 (s : State) (l : Leg) : Option Nat :=
  (l.sources.find? fun p =>
    let k := s.rxLane p
    !(s.rxPos k == some p && s.enabled k && (s.lane k).bay.aligned)).map s.rxLane

/-- Checks 1 to 7 of one leg (05 Table 5-5), over the entries whose egress slots are taken. -/
def State.legCheck (s : State) (taken : List Entry) (l : Leg) : Option Fail :=
  let fail (status detail value : Nat) : Option Fail := some ⟨status, detail, value, l.number, 0⟩
  if !s.power.ordering && (l.sealOn || l.unsealOn) then fail stAbsent 1 0
  else match s.check2 l with
  | some k => fail stRange 2 k
  | none =>
    if !check3 l then fail stRange 3 0
    else if l.aport ≠ 255 ∧ l.aport = l.iport then fail stConflict 4 0
    else match s.check5 taken l with
    | some k => fail stConflict 5 k
    | none =>
      if !l.prompt then none
      else match check6 l with
      | some k => fail stRange 6 k
      | none => match s.check7 l with
        | some lane => fail stState 7 lane
        | none => none

/-- Every leg of an operation, in leg order; a later leg also meets the egress slots of the earlier ones. -/
def State.legChecks (s : State) (handle : Nat) : List Entry → List Leg → Option Fail
  | _, [] => none
  | taken, l :: ls =>
    match s.legCheck taken l with
    | some f => some f
    | none => s.legChecks handle (taken ++ (mergeSegs l).map (runEntry handle l 0)) ls

/-- Where the fanout of a source slot of a segment first passes 15 (05 R137). -/
def fanoutFails (page : List Entry) (g n : Nat) : Option Nat :=
  leastOf ((g :: (fanoutPoints page).filter fun a => decide (g ≤ a ∧ a < g + n)).map fun a =>
    if 15 < fanoutAt page a then some (a - g) else none)

/-- Check 8, laid to the first leg that names such a slot. -/
def check8 (page : List Entry) (legs : List Leg) : Option Fail :=
  if fanoutBroken page then
    legs.findSome? fun l =>
      (leastOf (l.parts.flatMap fun p =>
        [if l.iport = 255 then none else (fanoutFails page (gaddr l.iport p.2.i0) p.2.n).map (p.1 + ·),
         if l.aport = 255 then none else (fanoutFails page (gaddr l.aport p.2.a0) p.2.n).map (p.1 + ·)])).map fun k =>
        ⟨stLimit, 8, k, l.number, 0⟩
  else none

/-- Check 9: the limit that is passed. -/
def check9 (page : List Entry) : Option Nat :=
  if 2097152 < pageCount page then some 1
  else if 1048576 < (circuitsOf page).length then some 2
  else if 262144 < protRuns page then some 3
  else none

/-- Check 10, laid to the first leg with an entry that begins in the window or reads from the bank. -/
def State.check10 (s : State) (page : List Entry) (handle : Nat) (legs : List Leg) : Option Fail :=
  (budgetBreach s.remaps page).map fun wb =>
    let hit (l : Leg) : Bool := page.any fun e => e.handle == handle && e.leg == l.number
      && (e.egress % 768000 / 768 / 8 == wb.1 || (wb.2 != 0xFFFF && windowBank s.remaps [e] wb.1 wb.2 != 0))
    let l := (legs.find? hit).getD (legs.headD ⟨255, 0, 0, 0, 0, false, false, false, 0, 0, []⟩)
    ⟨stLimit, 10, wb.1, l.number, wb.2⟩

/-! Sealing checks (11 Table 11-1). -/

/-- Check 1: leg and lane without a stream. -/
def State.sealCheck1 (s : State) (page : List Entry) (h : Nat) : Option (Nat × Nat) :=
  let own := page.filter fun e => e.handle == h
  own.findSome? fun e =>
    let tx := if e.sealOn then
        (positions e.egress e.slots).find? fun p =>
          !(s.txStreams.any fun k => s.txF k 1 == h && s.txF k 2 == e.leg && s.txF k 3 == s.txLane p)
      else none
    match tx with
    | some p => some (e.leg, s.txLane p)
    | none =>
      if e.unsealOn && !e.mirror then
        (((sourcesOf e).flatMap fun r => positions r.1 r.2).find? fun p =>
          !(s.rxStreams.any fun k => s.rxF k 1 == h && s.rxF k 2 == s.rxLane p)).map fun p => (e.leg, s.rxLane p)
      else none

/-- Check 2: the other circuit that shares an ingress slot with an UNSEAL circuit. -/
def sealCheck2 (page : List Entry) (h : Nat) : Option (Nat × Nat) :=
  (page.filter fun e => e.handle == h).findSome? fun e =>
    (page.find? fun f => f.handle != h && (e.unsealOn || f.unsealOn)
      && (sourcesOf e).any fun r => (sourcesOf f).any fun q => meets r.1 r.2 q.1 q.2).map fun f => (e.leg, f.handle)

/-- Check 3: a prompt-class UNSEAL leg on a hold-mode stream. -/
def State.sealCheck3 (s : State) (page : List Entry) (h : Nat) : Option (Nat × Nat) :=
  (page.filter fun e => e.handle == h && e.prompt && e.unsealOn).findSome? fun e =>
    (((sourcesOf e).flatMap fun r => positions r.1 r.2).find? fun p =>
      s.rxStreams.any fun k => s.rxF k 1 == h && s.rxF k 2 == s.rxLane p && s.rxF k 6 == 1).map fun p => (e.leg, s.rxLane p)

/-- Check 4: a lane with more than 1,024 held slots. -/
def State.sealCheck4 (s : State) (page : List Entry) : Option Nat :=
  (List.range 48).find? fun l => decide (1024 < s.heldSlots page l 65536)

/-- The checks of Table 11-1 for one operation's circuit. -/
def State.sealChecks (s : State) (page : List Entry) (h : Nat) : Option Fail :=
  match s.sealCheck1 page h with
  | some p => some ⟨stState, 0x30, p.2, p.1, 0⟩
  | none => match sealCheck2 page h with
    | some p => some ⟨stConflict, 0x31, p.2, p.1, 0⟩
    | none => match s.sealCheck3 page h with
      | some p => some ⟨stConflict, 0x32, p.2, p.1, 0⟩
      | none => (s.sealCheck4 page).map fun l => ⟨stLimit, 0x33, l, 255, 0⟩

/-! One operation, and a transaction (06 R163). -/

/-- The ingress port of a circuit. -/
def State.ingressPort (s : State) (page : List Entry) (h : Nat) : Option Nat :=
  (page.find? fun e => e.handle == h && e.kind == 0).map fun e => s.portOf (posOf e.ingress)

/-- The first leg, in entry order, that repeats a number or names another ingress port. -/
def badLeg : List Nat → Option Nat → List Leg → Option Nat
  | _, _, [] => none
  | seen, ing, l :: ls =>
    let slot := l.kind == 0 && l.iport != 255
    if seen.contains l.number || (slot && (match ing with | some p => p != l.iport | none => false)) then some l.number
    else badLeg (l.number :: seen) (if slot then some (ing.getD l.iport) else ing) ls

/-- Add legs to a circuit of a page, through every check. -/
def State.addLegs (s : State) (page : List Entry) (h acc : Nat) (born : Nat → Nat) (legs : List Leg) : Except Fail (List Entry) :=
  match s.legChecks h (page.filter fun e => !e.mirror) legs with
  | some f => .error f
  | none =>
    let new := s.withLegs page h acc born legs
    match check8 new legs with
    | some f => .error f
    | none => match check9 new with
      | some n => .error ⟨stLimit, 9, n, 255, 0⟩
      | none => match s.check10 new h legs with
        | some f => .error f
        | none => match s.sealChecks new h with
          | some f => .error f
          | none => .ok new

/-- A page without a circuit; without a leg of it. -/
def dropCircuit (page : List Entry) (h : Nat) : List Entry := page.filter fun e => e.handle != h
def dropLeg (page : List Entry) (h leg : Nat) : List Entry := page.filter fun e => !(e.handle == h && e.leg == leg)

/-- The legs of a circuit in a page. -/
def legsIn (page : List Entry) (h : Nat) : List Nat := ((page.filter fun e => e.handle == h).map Entry.leg).eraseDups

/-- The acceptance number under which a leg of a circuit came into a page; that of the present transaction where it is new (06 R175). -/
def bornIn (page : List Entry) (h acc leg : Nat) : Nat :=
  match page.find? fun e => e.handle == h && e.leg == leg with
  | some e => e.born
  | none => acc

/-- One operation of the transaction with an acceptance number, against the shadow page as it stands. -/
def State.applyOp (s : State) (acc : Nat) (page : List Entry) (o : EditOp) : Except Fail (List Entry) :=
  let h := o.handle
  let legs := legsIn page h
  if h = 0xFFFFFFFF then .error ⟨stRange, 0x18, h, 255, 0⟩
  else if o.code = 1 ∧ inPage page h = true then .error ⟨stConflict, 0x11, h, 255, 0⟩
  else if o.code ≠ 1 ∧ inPage page h = false then .error ⟨stAbsent, 0x12, h, 255, 0⟩
  else if o.code = 2 then .ok (dropCircuit page h)
  else if o.code = 5 then
    if !legs.contains o.legNo then .error ⟨stAbsent, 0x14, o.legNo, o.legNo, 0⟩
    else if legs.length = 1 then .error ⟨stState, 0x15, o.legNo, o.legNo, 0⟩
    else .ok (s.remask (dropLeg page h o.legNo) h)
  else if o.code = 4 then
    let other := o.legs.any fun l => l.kind == 0 && l.iport != 255 && (match s.ingressPort page h with | some p => p != l.iport | none => false)
    if legs.contains o.legNo || other then .error ⟨stConflict, 0x13, o.legNo, o.legNo, 0⟩
    else s.addLegs page h acc (fun _ => acc) o.legs
  else match badLeg [] none o.legs with
    | some n => .error ⟨stConflict, 0x13, n, n, 0⟩
    | none => s.addLegs (dropCircuit page h) h acc (bornIn page h acc) o.legs

/-- The operations of a transaction in order; an error names the operation. -/
def State.applyOps (s : State) (acc : Nat) : Nat → List Entry → List EditOp → Except (Nat × Fail) (List Entry)
  | _, page, [] => .ok page
  | i, page, o :: os =>
    match s.applyOp acc page o with
    | .error f => .error (i, f)
    | .ok p => s.applyOps acc (i + 1) p os

end Sys2Proof.Machine
end

