-- ==== Sys2Proof/Machine/EventOps.lean ====
section
/-! DEFINITION. Room in a hopper and what waits for it; the edit journal; completions; arming, sealing, executing and cancelling an activation (06, 08 R221, 14 R379). -/

namespace Sys2Proof.Machine

/-! Room in a hopper (14 R379, 06 R166). -/

/-- Write the held HOPPER_WRITEs that now fit, in order; one whose offset is no longer P is answered CONFLICT (14 R379). Fuel is their number. -/
def State.drainHeld (h : Nat) : Nat → State → State
  | 0, s => s
  | k + 1, s =>
    let x := s.hop h
    match x.held with
    | [] => s
    | w :: ws =>
      let t := s.modHop h fun x => { x with held := ws }
      if w.offset ≠ x.p then State.drainHeld h k (t.answerHeld w.session w.tag (refusal stConflict 0x43 x.p))
      else if s.hopRoom h w.entries.length then
        let t := t.writeUnit h w.entries
        State.drainHeld h k (t.answerHeld w.session w.tag { offset := w.offset, detailValue := (t.hop h).p })
      else s

/-- Whether a unit has been written, where it must not be lost: completions under hold producer wait with their transaction (06 R166). -/
def State.blocksCompletion (s : State) (h : Nat) : Bool := s.hopPolicy h == 2 && !s.hopRoom h 1

/-- The completion entry of a transaction (06 Table 6-8). -/
def completionEntry (t : Trans) (stamp : Nat) : Bytes :=
  [0x81] ++ beBytes 1 t.status ++ beBytes 2 t.tag ++ beBytes 4 (t.acc.getD 0xFFFFFFFF) ++ beBytes 4 t.client ++ beBytes 2 t.op
    ++ beBytes 1 t.leg ++ beBytes 1 t.detail ++ beBytes 4 t.detailValue ++ beBytes 2 t.bank ++ zeros 2
    ++ beBytes 4 t.shadowEntries ++ beBytes 4 t.shadowCircuits ++ beBytes 10 stamp ++ zeros 22

/-- The completion hopper of a transaction: the one named, otherwise the default of its edit hopper (14 R378). -/
def State.completionHopper (s : State) (t : Trans) : Option Nat :=
  if t.completion < 8192 ∧ s.hopKind t.completion = 2 then some t.completion
  else
    let d := s.hopDefault t.hopper
    if d < 8192 ∧ s.hopKind d = 2 then some d else none

/-- The named hopper is no completion hopper (14 R378). -/
def State.misdirected (s : State) (t : Trans) : Bool := !(decide (t.completion < 8192) && s.hopKind t.completion == 2)

/-- A transaction leaves flight: its result is counted (06 Table 6-16). -/
def State.transDone (s : State) (t : Trans) : State :=
  let s := { s with edit.flight := s.edit.flight.filter fun u => decide (u ≠ t) }
  if t.status ≠ 0 then s.count 0x4000 4 0 0
  else if t.check then s else s.count 0x4000 3 0 0

/-- Write the finished completions of a hopper that now fit, in order; fuel is their number. -/
def State.drainDone (h : Nat) : Nat → State → State
  | 0, s => s
  | k + 1, s =>
    match s.edit.flight.find? fun t => t.finished && s.completionHopper t == some h with
    | some t => if s.hopRoom h 1 then State.drainDone h k ((s.writeUnit h [completionEntry t s.stamp]).transDone t) else s
    | none => s

/-! The edit journal (08 R221). -/

/-- Records that an entry takes: an inserted companion follows its run. -/
def recSpan (kind : Nat) (e : Entry) : Nat := if kind = 1 ∧ e.comp.isSome then 2 else 1

/-- Add a record at the head of the journal and to both mirrors; a mirror that fills makes its engine stale (08 R222). -/
def State.journal (s : State) (kind : Nat) (e : Entry) (number acc : Nat) : State :=
  let n := recSpan kind e
  let m := s.edit.mirror + n
  let s := { s with
    edit.journal := s.edit.journal ++ [(⟨s.edit.head, kind, e, number, acc⟩ : Rec)]
    edit.head := s.edit.head + n
    edit.mirror := min 262144 m }
  if 262144 < m then { s with engA.mirrorFull := true, engB.mirrorFull := true } else s

/-- The records of one applied transaction: what it removed, then what it inserted. -/
def State.journalTrans (s : State) (removed inserted : List Entry) (acc : Nat) : State :=
  let s := s.each removed fun e s => s.journal 2 e 0 acc
  s.each inserted fun e s => s.journal 1 e 0 acc

/-- Journal the applied transactions up to one, in acceptance order (06 R161, R164). -/
def State.journalUpTo (s : State) (t : Trans) : State :=
  let upto : List Trans := (s.edit.flight.takeWhile fun u => decide (u ≠ t)) ++ [t]
  let s := s.each (upto.filter fun u => !u.journaled && u.acc.isSome) fun u s => s.journalTrans u.removed u.inserted (u.acc.getD 0)
  { s with edit.flight := s.edit.flight.map fun u => if upto.contains u then { u with journaled := true } else u }

/-- One record applied to a page (08 R223). -/
def applyRec (page : List Entry) (r : Rec) : List Entry :=
  if r.kind = 1 then insEntry r.entry page
  else if r.kind = 2 then page.filter fun e => e.egress != r.entry.egress
  else page

/-- The inverse of a record. -/
def undoRec (page : List Entry) (r : Rec) : List Entry :=
  if r.kind = 1 then page.filter fun e => e.egress != r.entry.egress
  else if r.kind = 2 then insEntry r.entry page
  else page

/-- Active page, shadow page and delta after one record of the replay (08 R223). -/
def replayStep (st : List Entry × List Entry × List Rec) (r : Rec) : List Entry × List Entry × List Rec :=
  let (a, p, delta) := st
  if r.kind = 3 then (p, delta.foldl applyRec a, [])
  else if r.kind = 4 then (a, delta.reverse.foldl undoRec p, [])
  else (a, applyRec p r, delta ++ [r])

/-- The pages that an image and the journal after it give (08 R223). -/
def replay (img : Image) (recs : List Rec) : List Entry × List Entry :=
  let r := (recs.filter fun r => decide (img.c ≤ r.pos)).foldl replayStep (img.page, img.page, [])
  (r.1, r.2.1)

/-- Entries of one page that are not in another. -/
def pageDiff (a b : List Entry) : List Entry := a.filter fun e => !b.contains e

/-! What a transaction does to the shadow page (06 R161, R164). -/

/-- The next acceptance number is taken (06 R161). -/
def State.accept (s : State) : Nat × State :=
  let n := s.edit.nextAcc
  (n, { s with edit.lastAcc := n, edit.nextAcc := if n + 1 = 0xFFFFFFFF then 0 else n + 1 })

/-- A transaction joins those in flight, with the shadow page's figures. -/
def State.putTrans (s : State) (t : Trans) : State :=
  { s with
    edit.taken := s.edit.taken + 1
    edit.flight := s.edit.flight ++
      [{ t with seq := s.edit.taken, shadowEntries := pageCount s.fab.shadow, shadowCircuits := (circuitsOf s.fab.shadow).length }] }

/-- An applied change of the shadow page is included in the next activation. -/
def State.include (s : State) (acc : Nat) (page : List Entry) : State :=
  { s with fab.shadow := page, edit.included := s.edit.included + 1, edit.lastIncl := acc }.orphanStreams

/-! Frame counts and identities (06 R170). -/

/-- The identity at an index. -/
def identOf (f : Nat) : Nat × Nat × Nat := (f / 16000, f / 128 % 125, f % 128)

/-- ns since the last internal boundary. -/
def State.sinceBoundary (s : State) : Nat := (s.tod.counter - s.fab.boundaryAt) / 65536

/-- ns from now to the boundary with a frame count. -/
def State.untilBoundary (s : State) (count : Nat) : Int :=
  ((count : Int) - s.fab.frameNo) * 125000 - s.sinceBoundary

/-- The count of the first boundary at least some ns from now. -/
def State.boundaryAfter (s : State) (ns : Nat) : Nat := s.fab.frameNo + max 1 ((ns + s.sinceBoundary + 124999) / 125000)

/-- The identity of the boundary with a frame count. -/
def State.identAt (s : State) (count : Nat) : Nat × Nat × Nat := identOf (s.frameNow + count - s.fab.frameNo)

/-! The lease as edits and activations see it (06 R172, R180). -/

/-- Some engine is on its way to the lease (06 R180). -/
def State.waking (s : State) : Bool :=
  [s.engA.state, s.engB.state].any fun e => e == .waking || e == .armed

/-- No engine holds the lease and none is waking. -/
def State.noLease (s : State) : Bool := s.lease.holder.isNone && !s.waking

/-! Activations (06 R171 to R177). -/

/-- The activation entry (06 Table 6-12). -/
def activationEntry (a : Armed) (status detail : Nat) (id : Nat × Nat × Nat) (start trans last : Nat) : Bytes :=
  [0x82] ++ beBytes 1 status ++ zeros 2 ++ beBytes 4 a.number ++ beBytes 4 a.client ++ beBytes 1 a.mode ++ beBytes 1 detail ++ zeros 2
    ++ beBytes 8 id.1 ++ beBytes 1 id.2.1 ++ beBytes 1 id.2.2 ++ zeros 2 ++ beBytes 10 start ++ beBytes 4 trans ++ beBytes 4 last ++ zeros 18

/-- Write an activation entry to its completion hopper and to every subscribed event hopper (06 R176). -/
def State.activationOut (s : State) (a : Armed) (e : Bytes) : State :=
  let s := { s with edit.lastEntry := e }.audit (moduleRec 0x0A 0x4100 4 0 a.number)
  let s := if s.hopKind a.hopper = 2 then s.postUnit a.hopper [e] else s
  s.each (s.hoppersOf 3) fun h s => s.postUnit h [e]

/-- Cancel the armed activation (06 R176, R177). One of mode 0 that has no target yet shows 0, 0, 0 as the identity of its boundary (log entry 157). -/
def State.cancelArmed (s : State) (status detail : Nat) : State :=
  match s.edit.armed with
  | none => s
  | some a =>
    let s := ({ s with edit.armed := none }).count 0x4100 6 0 0
    s.activationOut a (activationEntry a status detail (a.superframe, a.sfi, a.mfi) 0 0 0xFFFFFFFF)

/-- Change the armed activation. -/
def State.modArmed (s : State) (f : Armed → Armed) : State := { s with edit.armed := s.edit.armed.map f }

/-- Undo what the transactions in flight that are not in the journal have done to the shadow page, newest first (01 R17, 16 R431). -/
def State.undoFlight (s : State) : State :=
  let ts := s.edit.flight.filter fun t => !t.journaled
  { s with
    fab.shadow := ts.reverse.foldl (fun p t => insEntries t.removed (p.filter fun e => !t.inserted.contains e)) s.fab.shadow
    edit.included := s.edit.included - ts.countP fun t => t.prevIncl.isSome
    edit.lastIncl := (ts.findSome? Trans.prevIncl).getD s.edit.lastIncl }

/-- Set the target of a mode 0 activation from here, which commits it (06 R171, R173). -/
def State.setTarget (s : State) : State :=
  let c := s.boundaryAfter 250000
  let id := s.identAt c
  s.modArmed fun a => { a with state := 4, target := some c, superframe := id.1, sfi := id.2.1, mfi := id.2.2 }

/-- The shadow page is sealed once nothing is in flight after the seal point (06 R173). -/
def State.checkSealed (s : State) : State :=
  match s.edit.armed with
  | some a =>
    if a.state = 2 ∧ s.edit.flight = [] then
      let s := s.modArmed fun a => { a with state := 3, sealedAt := s.fab.frameNo }
      if a.mode = 0 then s.setTarget else s
    else s
  | none => s

/-- The seal point is reached. -/
def State.sealNow (s : State) : State :=
  match s.edit.armed with
  | some a => if a.state = 1 then (s.modArmed fun a => { a with state := 2 }).checkSealed else s
  | none => s

/-- Why taking is held (4000:05, 06 Table 6-16): 0 taking; 1 seal point; 2 page copy; 3 512 in flight; 4 lease admission. -/
def State.takingState (s : State) : Nat :=
  if (match s.edit.armed with | some a => decide (2 ≤ a.state) | none => false) then 1
  else if s.fab.copyBusy then 2
  else if 512 ≤ s.edit.flight.length then 3
  else if !s.lease.admitted && !s.noLease then 4
  else 0

/-! Execution at the target boundary (06 R174 to R176, 07 R185). -/

/-- The default REV of a circuit's new protected runs (07 R203). -/
def State.revOf (s : State) (h : Nat) : Bool :=
  match tget 0 s.fab.revTbl h with
  | 1 => true
  | 2 => false
  | _ => s.cfg 0x3810 1 0 == 1

/-- The runs of a leg that have an alternate source. -/
def protOf (page : List Entry) (h leg : Nat) : List Entry :=
  page.filter fun e => e.handle == h && e.leg == leg && e.alt.isSome && !e.mirror

/-- The selector index that the new page's run carries on: its own where no operation has written the run since, that of the leg's old run of lowest
EGRESS after a MOVE, and none in a new circuit or leg (06 R175). -/
def State.carriedFrom (s : State) (e : Entry) : Option Nat :=
  let old := (protOf s.fab.active e.handle e.leg).filter fun o => o.born == e.born
  ((old.find? fun o => o.made == e.made && o.egress == e.egress).or old.head?).bind fun o => o.alt.map Companion.selIdx

/-- The selector of a run of the new page; the cogs' copy of its REV. -/
def State.carriedSel (s : State) (e : Entry) : Sel :=
  match s.carriedFrom e with
  | some i => tget {} s.fab.sel i
  | none => { rev := s.revOf e.handle, cmd := tget 0 s.prot.cmdTbl e.handle }
def State.carriedRev (s : State) (e : Entry) : Nat :=
  match s.carriedFrom e with
  | some i => tget 0 s.prot.revs i
  | none => if s.revOf e.handle then 1 else 2

/-- The selector state under a new active page. -/
def State.selsFor (s : State) (page : List Entry) : Tab Sel :=
  (page.filter fun e => e.alt.isSome && !e.mirror).foldl (fun t e =>
    tput {} t ((e.alt.map Companion.selIdx).getD 0) (s.carriedSel e)) []

/-- The cogs' copy of REV under a new active page. -/
def State.revsFor (s : State) (page : List Entry) : Tab Nat :=
  (page.filter fun e => e.alt.isSome && !e.mirror).foldl (fun t e =>
    tput 0 t ((e.alt.map Companion.selIdx).getD 0) (s.carriedRev e)) []

/-- Keep the entries of a table whose circuit still has a protected run. -/
def keepProt {α : Type} (page : List Entry) (t : Tab α) : Tab α :=
  t.filter fun x => page.any fun e => e.handle == x.1 && e.alt.isSome && !e.mirror

/-- A lane's port is under forerunner policy (04 R115). -/
def State.forerunner (s : State) (l : Nat) : Bool := s.cfg 0x3000 1 l == 1

/-- Bidirectional bit and revertive bit of a pair's mode. A pair whose ports use forerunner policy is unidirectional whatever its mode says (07 R206;
log entry 158). -/
def State.pairBidi (s : State) (p : Nat) : Bool := bit (s.cfg 0x3800 2 p) 0 && !s.forerunner p
def State.pairRev (s : State) (p : Nat) : Bool := bit (s.cfg 0x3800 2 p) 1

/-- APS1 of a pair that requests nothing (07 Table 7-1). -/
def State.apsIdle (s : State) (p : Nat) : Nat := 8 + b2n (s.pairBidi p) * 2 + b2n (s.pairRev p)

/-- Pairs written, or removed, come into force or end (07 R185). -/
def Pair.activate (p : Pair) (idle : Nat) : Pair :=
  if !p.pending then p
  else if p.next = 255 then {}
  else { protect := p.next, next := p.next, aps1 := idle }

/-- The shadow page becomes the active one (06 R174, 07 R185, 08 R222, 11 R281). -/
def State.swapPages (s : State) (number : Nat) : State :=
  let s := s.journal 3 {} number 0
  let page := s.fab.shadow
  let sel := s.selsFor page
  let revs := s.revsFor page
  let gone := (s.prot.pairs.filter fun p => p.2.pending).map Prod.fst
  let s := { s with
    fab.active := page
    fab.sel := sel
    fab.revTbl := keepProt page s.fab.revTbl
    fab.swCount := keepProt page s.fab.swCount
    fab.copyBusy := true
    fab.fanoutBusy := true
    fab.acted := true
    fab.lineSel := gone.foldl (fun t p => tput false t p false) s.fab.lineSel
    prot.cmdTbl := keepProt page s.prot.cmdTbl
    prot.revs := revs
    prot.pairs := tmap {} s.prot.pairs fun w p => p.activate (s.apsIdle w)
    edit.actPos := s.edit.head
    edit.armed := none
    edit.included := 0
    edit.lastIncl := 0xFFFFFFFF
    edit.activeNo := number }
  let s := s.each gone fun p s => (s.clearIf 0x3800 6 1 p).clearIf 0x3800 6 2 p
  s.reloadStreams

/-- A map checkpoint that is being programmed is abandoned (16 R426). -/
def State.abandonMap (s : State) : State :=
  match s.persist.mapWriting with
  | some a =>
    let s := { s with persist.mapWriting := none, persist.erased := s.persist.erased.set a false }
    s.count 0xA020 2 8 0
  | none => s

/-- The map checkpoint is due from now on, where it was not (16 R426). -/
def State.mapDue (s : State) : State :=
  if s.persist.mapDueAt.isSome then s else { s with persist.mapDueAt := some s.now }.noteCond .checkpointDue true

/-- The armed activation executes at a boundary whose snapshot of the time counter is given (06 R174, R176). -/
def State.executeArmed (s : State) (snapshot : Nat) : State :=
  match s.edit.armed with
  | none => s
  | some a =>
    let trans := s.edit.included
    let last := s.edit.lastIncl
    let id := s.identAt (a.target.getD (s.fab.frameNo + 1))
    let s := ((s.swapPages a.number).count 0x4100 5 0 0).abandonMap.mapDue.noteCond .mapNotRestored false
    s.activationOut a (activationEntry a 0 0 id (time80 (snapshot + 2300 * 65536)) trans last)

/-- What happens at the boundary with a frame count, where an activation is armed for it: it executes, or without an admitted holder it waits in mode 0 and is cancelled in the others (06 Table 6-11). -/
def State.dueActivation (s : State) (count snapshot : Nat) : State :=
  match s.edit.armed with
  | some a =>
    if a.state = 4 ∧ a.target = some count then
      if s.lease.admitted then s.executeArmed snapshot
      else if a.mode = 0 then s.modArmed fun a => { a with target := none }
      else s.cancelArmed stState 0x28
    else s
  | none => s

/-- Consumed entries make room: what waits is written, in order (14 R379, 06 R166). -/
def State.makeRoom (s : State) (h : Nat) : State :=
  let s := s.modHop h fun x => x.rearm (s.hopMark h)
  let s := State.drainOverflow h (s.hop h).overflow.length s
  let s := State.drainDone h s.edit.flight.length s
  (State.drainHeld h (s.hop h).held.length s).checkSealed

/-- The reader takes n entries from the front of a hopper. -/
def State.consume (s : State) (h n : Nat) : State :=
  (s.modHop h fun x => { x with entries := x.entries.drop n }).makeRoom h

/-- Give up in-flight transactions: what they had done to the shadow page is undone, newest first (01 R17). -/
def State.discardFlight (s : State) : State :=
  { s.undoFlight with edit.discarded := s.edit.flight.map fun t => (t.hopper, t.tag), edit.flight := [] }

end Sys2Proof.Machine
end

