-- ==== Sys2Proof/Machine/FabricOps.lean ====
section
/-! DEFINITION. The read path: remap, SSF, circuit selectors, the byte of an egress slot, forerunner policy (05 R138 to R140, 07 R199 to R208, 04 R112 to R115). -/

namespace Sys2Proof.Machine

/-- Pairs in force: working port, pair. -/
def State.inForce (s : State) : List (Nat × Pair) := s.prot.pairs.filter fun p => p.2.protect != 255

/-- The line selector of a working port selects protect (05 R139). -/
def State.lineOn (s : State) (p : Nat) : Bool := tget false s.fab.lineSel p

/-- The source address after the line remap (05 R139). -/
def State.remapSrc (s : State) (g : Nat) : Nat :=
  match s.inForce.find? fun p => s.lineOn p.1 && decide (gaddr p.1 0 ≤ g ∧ g < gaddr (p.1 + s.width p.1) 0) with
  | some p => g + gaddr p.2.protect 0 - gaddr p.1 0
  | none => g

/-- SSF of a source: some lane of its mask fails, on the lanes of the port it is read from (05 R138). -/
def State.ssf (s : State) (prompt : Bool) (g mask : Nat) : Bool :=
  let base := s.portOf (posOf (s.remapSrc g))
  let v := if prompt then s.fab.latch.pf else s.fab.latch.lf
  (List.range 4).any fun i => bit mask i && v.getLsbD (base + i)

/-- SEALF is latched for a circuit's source on a port (07 R200). -/
def State.sealfAt (s : State) (h g : Nat) : Bool :=
  let p := s.portOf (posOf (s.remapSrc g))
  s.fab.latch.sealf.any fun x => x.1 == h && ((x.2 : Fin 48) : Nat) == p

/-- The primary source of a run fails; its alternate source fails (07 R200). -/
def State.primFails (s : State) (e : Entry) : Bool := s.ssf e.prompt e.ingress e.lmask || s.sealfAt e.handle e.ingress
def State.altFails (s : State) (e : Entry) (c : Companion) : Bool := s.ssf e.prompt c.altIn c.altMask || s.sealfAt e.handle c.altIn

/-- One evaluation of a circuit selector (07 R200). -/
def evalSel (x : Sel) (prim alt tick : Bool) : Sel :=
  if x.cmd = 1 then { x with sel := false, wtr := 0 }
  else if alt then { x with sel := false, wtr := 0 }
  else if x.cmd = 2 then { x with sel := true, wtr := 0 }
  else if prim then { x with sel := true, wtr := 0 }
  else if x.cmd = 3 then { x with sel := true, wtr := 0 }
  else if x.sel && x.rev then
    if x.wtr = 0 then { x with wtr := 15 }
    else if tick then (if x.wtr = 1 then { x with wtr := 0, sel := false } else { x with wtr := x.wtr - 1 })
    else x
  else x

/-- The selector of a run. -/
def State.selOf (s : State) (c : Companion) : Sel := tget {} s.fab.sel c.selIdx

/-- Protected runs of the active page, mirrors left out. -/
def State.protRunsOf (s : State) : List (Entry × Companion) :=
  s.fab.active.filterMap fun e => if e.mirror then none else e.alt.map fun c => (e, c)

/-- The protected run of lowest EGRESS of a circuit (07 Table 7-8). -/
def State.firstProt (s : State) (h : Nat) : Option (Entry × Companion) := s.protRunsOf.find? fun p => p.1.handle == h

/-- Evaluate one run's selector; a change of SEL of a circuit's first run is counted (07 Table 7-8). -/
def State.evalRun (s : State) (p : Entry × Companion) (tick : Bool) : State :=
  let old := s.selOf p.2
  let new := evalSel old (s.primFails p.1) (s.altFails p.1 p.2) tick
  let s := { s with fab.sel := tput {} s.fab.sel p.2.selIdx new }
  if old.sel != new.sel && (match s.firstProt p.1.handle with | some q => q.2.selIdx == p.2.selIdx | none => false) then
    { s with fab.swCount := tmod {} s.fab.swCount p.1.handle (·.add 1) }
  else s

/-- Step 4 for every circuit selector (05 Table 5-1). -/
def State.evalSels (s : State) : State :=
  let tick := s.fab.wtrTick
  { s.each s.protRunsOf fun p s => s.evalRun p tick with fab.wtrTick := false }

/-! The byte of an egress slot (05 R136, R138, R149; 01 R14; 04 R115). -/

/-- A byte of a frame buffer: all-ones in the rows that a failed lane left so (04 R112). -/
def State.bufByte (s : State) (b g : Nat) : Byte :=
  let p := posOf g
  let row := g % 768000 / 768
  let ones := if b = 0 then tget 0 s.fab.ones0 p else tget 0 s.fab.ones1 p
  if 1000 ≤ row + ones then 0xFF
  else if b = 0 then tget 0 s.fab.buf0 g else tget 0 s.fab.buf1 g

/-- A byte of the prompt row ring for an egress row: of the present frame's parity, or of the previous frame's where the row distance wraps (05 R143,
R147); all-ones in the rows that a failed lane left so, and where the prompt phase of the lane is lost (04 R111, R112, Table 4-2). -/
def State.promptByte (s : State) (g egressRow : Nat) : Byte :=
  let p := posOf g
  let q := g % 768000
  let n := if egressRow ≤ q / 768 then s.fab.frameNo + 1 else s.fab.frameNo
  let ones := if n % 2 = 0 then tget 0 s.fab.ones0 p else tget 0 s.fab.ones1 p
  if s.fab.latch.pf.getLsbD p ∨ 1000 ≤ q / 768 + ones then 0xFF else tget 0 s.fab.ring (ringKey n p q)

/-- The byte of a run of the pattern kinds (05 Table 5-4). -/
def patternByte (kind idle : Nat) : Byte :=
  if kind = 1 then 0xFF else if kind = 2 then BitVec.ofNat 8 idle else 0

/-- The alternate source of a run is selected. -/
def State.onAlt (s : State) (e : Entry) : Bool := match e.alt with | some c => (s.selOf c).sel | none => false

/-- The source that the selector of a run has chosen, before the line remap: its first slot, and its lane mask. -/
def State.chosen (s : State) (e : Entry) : Nat × Nat :=
  match e.alt with
  | some c => if s.onAlt e then (c.altIn, c.altMask) else (e.ingress, e.lmask)
  | none => (e.ingress, e.lmask)

/-- The first slot that a run reads. -/
def State.runSrc (s : State) (e : Entry) : Nat := s.remapSrc (s.chosen e).1

/-- The byte that stands for every slot of a run with SSF under codes 01b and 10b (05 R138), with circuit AIS in place of its code under forerunner
policy (04 R115). -/
def State.runSub (s : State) (e : Entry) : Option Byte :=
  let ca :=
    if s.forerunner (s.portOf (posOf (s.runSrc e))) then
      (match e.alt with | some c => if s.primFails e && s.altFails e c then 1 else 0 | none => 1)
    else e.ca
  if !s.ssf e.prompt (s.chosen e).1 (s.chosen e).2 then none
  else if ca = 1 then some 0xFF
  else if ca = 2 then some (BitVec.ofNat 8 ((e.comp.map Companion.idle).getD 0))
  else none

/-- A slot run's byte k (05 R138). -/
def State.runByte (s : State) (e : Entry) (k : Nat) : Byte :=
  match s.runSub e with
  | some b => b
  | none =>
    if e.prompt then s.promptByte (s.runSrc e + k) ((e.egress + k) % 768000 / 768)
    else s.bufByte ((s.fab.frameNo + 1) % 2) (s.runSrc e + k)

/-- The sluice passes the holder's egress in a row of the present frame (08 R214). -/
def State.rowHeld (s : State) (row : Nat) : Bool := decide (row < s.lease.rowsHeld)

/-- And no cut keeps it back (09 R254). -/
def State.rowOpen (s : State) (row : Nat) : Bool := s.rowHeld row && s.fab.cutOnes == 0

/-- The byte of an egress slot of the present frame: all-ones where the sluice passes nothing (01 R14), and in the ranges that uncorrectable map entries
fill (05 R149). -/
def State.egressByte (s : State) (fill : List (Nat × Nat)) (g : Nat) : Byte :=
  if !s.rowOpen (g % 768000 / 768) then 0xFF
  else if fill.any fun r => decide (r.1 ≤ g ∧ g < r.1 + r.2) then 0xFF
  else match s.fab.active.find? fun e => decide (e.egress ≤ g ∧ g < e.egress + e.slots) with
    | none => 0
    | some e => if e.kind = 0 then s.runByte e (g - e.egress) else patternByte e.kind e.ingress

/-- What the frame now leaving is read with. -/
def State.endingNow (s : State) : Ending := ⟨s.fab.active, s.fab.sel, s.fab.lineSel, s.prot.pairs, s.sealing.tx⟩

/-- A change of the pages or selectors that takes effect at the coming boundary leaves the frame now leaving as it is (05 Table 5-1, 06 R174). -/
def State.keepEnding (s : State) : State := { s with ending := some (s.ending.getD s.endingNow) }

/-- The state as the frame now leaving is read. -/
def State.ended (s : State) : State :=
  match s.ending with
  | some e => { s with fab.active := e.page, fab.sel := e.sel, fab.lineSel := e.lineSel, prot.pairs := e.pairs, sealing.tx := e.tx }
  | none => s

/-- The run that covers an egress slot is sealed (05 R140). -/
def State.sealedSlot (s : State) (g : Nat) : Bool :=
  match s.fab.active.find? fun e => decide (e.egress ≤ g ∧ g < e.egress + e.slots) with
  | some e => e.sealOn
  | none => false

/-! Lane-fail vectors (05 R128). -/

/-- A logical position is not carried by an identified lane in service, or its lane is failed: bit of LF. -/
def State.lfBit (s : State) (p : Nat) : Bool :=
  let l := s.rxLane p
  s.rxPos l != some p || !s.enabled l || s.laneFailed l

/-- Bit of PF. -/
def State.pfBit (s : State) (p : Nat) : Bool :=
  s.lfBit p || s.promptLost (s.rxLane p)

/-- A vector over the logical positions. -/
def vector48 (f : Nat → Bool) : BitVec 48 := BitVec.ofNat 48 (flagsWord ((List.range 48).map f))

/-- The circuits and ports with SEALF among the sources of live receive streams (07 R200, 11 R292). -/
def State.sealfNow (s : State) : List (Nat × LaneId) :=
  ((s.rxStreams.filter fun k => (s.rxS k).live && ((s.rxS k).sealf || (s.rxS k).keyx)).map fun k =>
    (s.rxF k 1, (laneOf (s.portOf (s.rxF k 2)) : LaneId))).eraseDups

/-! Pairs (07 R188 to R195). -/

/-- A pair. -/
def State.pair (s : State) (p : Nat) : Pair := tget {} s.prot.pairs p

/-- Change a pair. -/
def State.modPair (s : State) (p : Nat) (f : Pair → Pair) : State := { s with prot.pairs := tmod {} s.prot.pairs p f }

/-- Some lane of a port is failed now. -/
def State.portFails (s : State) (p : Nat) : Bool := (s.portLanes p).any fun l => s.laneFailed l

/-- Priority of a request: 1 is the highest (07 Table 7-3). -/
def requestRank (code : Nat) : Nat :=
  match code with
  | 0xF => 1
  | 0xE => 2
  | 0xD => 3
  | 0xB => 4
  | 0x7 => 5
  | 0x5 => 6
  | 0x1 => 7
  | 0x0 => 8
  | _ => 9

/-- The lane that carries logical lane 0 of a pair's protect port. -/
def State.apsLane (s : State) (x : Pair) : LaneId := laneOf (s.rxLane x.protect)

/-- That lane is identified as it, and is not failed (02 R47). -/
def State.apsUp (s : State) (x : Pair) : Bool := s.rxPos (s.apsLane x) == some x.protect && !s.laneFailed (s.apsLane x)

/-- The accepted APS bytes of a pair: none while they are marked invalid (04 R120). -/
def State.farAps (s : State) (x : Pair) : Option Bytes :=
  let o := (s.lane (s.apsLane x)).oh
  if o.apsInvalid || !s.apsUp x then none else some (beBytes 4 o.apsAcc)

/-- The accepted APS makes a mode mismatch (07 R189, R195). -/
def State.modeBad (s : State) (p : Nat) (x : Pair) : Bool :=
  match s.farAps x with
  | none => false
  | some b =>
    let a := field b 0 1
    bit a 1 != s.pairBidi p || bit a 0 != s.pairRev p || !bit a 3 || bit a 2 || (requestRank (bits a 7 4) == 9 && bits a 7 4 != 2)
      || decide (1 < field b 1 1) || decide (1 < field b 2 1)

/-- The accepted APS3 differs from the local selector of a bidirectional pair (07 R195). -/
def State.selBad (s : State) (p : Nat) (x : Pair) : Bool :=
  s.pairBidi p && (match s.farAps x with | some b => field b 2 1 != b2n (s.lineOn p) | none => false)

/-- The pair runs bidirectionally: set so, and no mode mismatch (07 R195). -/
def State.pairRunsBidi (s : State) (p : Nat) (x : Pair) : Bool := s.pairBidi p && !x.modeMis

/-- The far request: NR while the accepted APS is invalid or a mode mismatch is present (07 R193). -/
def State.farRequest (s : State) (p : Nat) (x : Pair) : Nat :=
  if s.pairRunsBidi p x then
    match s.farAps x with
    | some b => bits (field b 0 1) 7 4
    | none => 0
  else 0

/-- The code of a stored command (07 Table 7-3). -/
def storedCode (c : Nat) : Nat := if c = 1 then 0xF else if c = 2 then 0xD else if c = 3 ∨ c = 4 then 7 else 0

/-- The local request from the stored command, the signal fails, and the previous local state (07 R190, R191). -/
def localRequest (stored : Nat) (sfP sfW rev : Bool) (prev : Nat) (prevProtect : Bool) : Nat :=
  if stored = 1 then 0xF
  else if sfP then 0xE
  else if stored = 2 then 0xD
  else if sfW then 0xB
  else if stored = 3 ∨ stored = 4 then 7
  else if prev = 0xB then (if rev then 5 else 1)
  else if prev = 5 then (if rev then 5 else 1)
  else if prev = 1 then (if rev then 0 else 1)
  else if prev = 0xD ∨ (prev = 7 ∧ prevProtect = true) then (if rev then 0 else 1)
  else 0

/-- Whether a request selects protect; `aps2` tells it for a manual switch (07 Table 7-3). -/
def selectsProtect (code : Nat) (aps2 : Bool) : Bool :=
  code == 0xD || code == 0xB || code == 5 || code == 1 || (code == 7 && aps2)

/-- Whether the local request, rather than the far one, governs (07 Table 7-5). -/
def localGoverns (loc far : Nat) : Bool := far == 2 || requestRank far == 9 || decide (requestRank loc ≤ requestRank far)

/-- Timers of the mismatches: each runs while its condition differs from what is declared, and is frozen while the APS lane is failed (07 R195). -/
def State.mismatchTimers (s : State) (p : Nat) (x : Pair) : Pair :=
  if !s.apsUp x then { x with modeSince := none, selSince := none }
  else
    { x with
      modeSince := if s.modeBad p x == x.modeMis then none else some (x.modeSince.getD s.now)
      selSince := if s.selBad p x == x.selMis then none else some (x.selSince.getD s.now) }

/-- One side's signal fail through its hold-off (07 R186, R187): condition now, condition before, raised, timer. -/
def holdOff (hold now : Nat) (cond before raised : Bool) (timer : Option Nat) : Bool × Option Nat :=
  if !cond then (false, timer)
  else if raised then (true, timer)
  else if hold = 0 ∧ timer = none then (true, none)
  else if !before ∧ timer = none then (false, some now)
  else (false, timer)

/-- The far end's APS2, where it asks for protect. -/
def State.farWants (s : State) (x : Pair) : Bool := match s.farAps x with | some b => field b 1 1 == 1 | none => false

/-- The governing request, the selector and the APS bytes that follow from a local request (07 Tables 7-3 and 7-5). -/
def State.govern (s : State) (p : Nat) (x : Pair) (stored loc : Nat) : Pair :=
  let far := s.farRequest p x
  let here := localGoverns loc far
  let wants := s.farWants x
  { x with
    stored := stored, far := far, state := loc
    selector := if here then selectsProtect loc (stored == 3) else selectsProtect far wants
    wtr := if loc = 5 then some (x.wtr.getD s.now) else none
    governing := if here then loc else far
    aps1 := (if here then loc else 2) * 16 + s.apsIdle p
    aps2 := b2n (if here then selectsProtect loc (stored == 3) else wants) }

/-- One evaluation of a pair in force (07 R190 to R193). -/
def State.evalPair (s : State) (p : Nat) (x : Pair) : Pair :=
  let hold := if s.forerunner p then 0 else s.cfg 0x3800 4 p * 100000000
  let cw : Bool := (s.portLanes p).any fun l => (s.lane l).d.failedLatched
  let cp : Bool := (s.portLanes x.protect).any fun l => (s.lane l).d.failedLatched
  let w := holdOff hold s.now cw x.condW x.sfW x.holdW
  let q := holdOff hold s.now cp x.condP x.sfP x.holdP
  let rev := s.pairRev p
  let far := s.farRequest p x
  let stored :=
    if (x.stored = 3 ∨ x.stored = 4) ∧ (q.1 = true ∨ w.1 = true ∨ localGoverns 7 far = false) then 0 else x.stored
  let loc := localRequest stored q.1 w.1 rev x.state x.selector
  s.govern p { s.mismatchTimers p x with condW := cw, condP := cp, sfW := w.1, holdW := w.2, sfP := q.1, holdP := q.2 } stored loc

/-- Evaluate one pair, counting a change of its selector (07 Table 7-8). -/
def State.runPair (s : State) (p : Nat) : State :=
  let x := s.pair p
  let y := s.evalPair p x
  let s := s.modPair p fun _ => y
  if x.selector != y.selector then s.count 0x3800 8 0 p else s

end Sys2Proof.Machine
end

