-- ==== Sys2Proof/Machine/Edits.lean ====
section
/-! DEFINITION. The edit and activation commands (06). -/

namespace Sys2Proof.Machine

/-! TRANSACTION_TAKEN (06 R160 to R164). -/

/-- The entries of a hopper. -/
def State.hopEntries (s : State) (h : Nat) : List Bytes := (s.hop h).entries.map Prod.snd

/-- Entries before the first BEGIN. -/
def strays (es : List Bytes) : Nat := (es.takeWhile fun b => field b 0 1 != 1).length

/-- A BEGIN's entry count is admissible in its hopper (06 R160). -/
def State.countOk (s : State) (h : Nat) (b : Bytes) : Bool :=
  decide (3 ≤ field b 4 2 ∧ field b 4 2 ≤ 4096 ∧ field b 4 2 ≤ s.hopDepth h)

/-- A cog could take a transaction from a hopper: an edit hopper whose head transaction is whole (06 R161). -/
def State.takable (s : State) (h : Nat) : Bool :=
  s.hopKind h == 1 &&
    match (s.hopEntries h).drop (strays (s.hopEntries h)) with
    | [] => false
    | b :: bs => !s.countOk h b || decide (field b 4 2 ≤ bs.length + 1)

/-- Edit hoppers with entries. -/
def State.editHoppers (s : State) : List Nat := (s.store.hoppers.map Prod.fst).filter fun h => s.hopKind h == 1

/-- The hopper whose turn it is: by ascending number, after the last one taken from (06 R161). -/
def State.turnOf (s : State) : Option Nat :=
  let hs : List Nat := s.editHoppers.filter s.takable
  (hs.find? fun h => decide (s.edit.lastHopper < h)).or hs.head?

/-- The head of a transaction as its BEGIN gives it. -/
def beginOf (h : Nat) (b : Bytes) : Trans :=
  { hopper := h, tag := field b 2 2, client := field b 12 4, completion := field b 8 2, check := bit (field b 10 1) 0 }

/-- A transaction that has passed R160 and R162: numbered, checked and applied to the shadow page (06 R161, R163, R180). -/
def State.admitTrans (s : State) (t : Trans) (ops : List EditOp) : State :=
  let acc := s.accept.1
  let s := s.accept.2
  let t := { t with acc := some acc }
  if s.noLease then s.putTrans { t with status := stState, detail := 0x17 }
  else match s.applyOps acc 0 s.fab.shadow ops with
    | .error (i, f) =>
      s.putTrans { t with status := f.status, detail := f.detail, detailValue := f.value, op := i, leg := f.leg, bank := f.bank }
    | .ok page =>
      if t.check then s.putTrans t
      else
        let old := s.fab.shadow
        (s.include acc page).putTrans { t with inserted := pageDiff page old, removed := pageDiff old page, prevIncl := some s.edit.lastIncl }

/-- Take the transaction at the head of a hopper. -/
def State.takeHead (s : State) (h : Nat) (b : Bytes) (bs : List Bytes) : State :=
  let t := beginOf h b
  if !s.countOk h b then (s.consume h 1).putTrans { t with status := stRange, detail := 0x10 }
  else
    let n := field b 4 2
    let s := s.consume h n
    match parseTrans (b :: bs.take (n - 1)) with
    | .error i => s.putTrans { t with status := stRange, detail := 0x10, detailValue := i }
    | .ok ops =>
      match s.edit.flight.find? fun u => u.hopper == h && u.tag == t.tag with
      | some u => s.putTrans { t with status := stConflict, detail := 0x16, detailValue := u.acc.getD 0xFFFFFFFF }
      | none => s.admitTrans t ops

/-- Edit compilation has a cog: any that runs (13 Table 13-1). -/
def State.compiles (s : State) : Bool := (List.range 256).any s.cogServes

/-- A transaction is taken from a hopper: strays at its head are discarded and counted first (06 R160). -/
def takeTrans (h : Nat) (s : State) : State :=
  if s.sup.up && s.compiles && s.hopKind h == 1 && s.takingState == 0 then
    let n := strays (s.hopEntries h)
    let s := if n = 0 then s else (s.countN 0x4000 6 0 0 n).consume h n
    match s.hopEntries h with
    | [] => s
    | b :: bs =>
      if field b 0 1 = 1 ∧ s.turnOf = some h then
        let s := s.takeHead h b bs
        { s with edit.lastHopper := h }
      else s
  else s

/-- TRANSACTION_TAKEN. -/
def execTransactionTaken (hopper : Fin 8192) (s : State) : Out := run (takeTrans hopper) s

/-! TRANSACTION_COMPLETE (06 R164, R166). -/

/-- The completion of a transaction is written (06 R164 to R166, 14 R378). -/
def completeTrans (acceptance : Nat) (s : State) : State :=
  let key (t : Trans) : Bool := t.acc.getD 0xFFFFFFFF == acceptance && !t.finished
  match (if s.sup.up then s.edit.flight.find? key else none) with
  | none => s
  | some t0 =>
    let s := s.journalUpTo t0
    let t := { t0 with journaled := true }
    let s := if s.misdirected t then s.count 0x7010 2 5 t.hopper else s
    match s.completionHopper t with
    | none => (s.transDone t).checkSealed
    | some h =>
      if s.blocksCompletion h then
        { s with edit.flight := s.edit.flight.map fun u => if u = t then { u with finished := true } else u }
      else ((s.transDone t).postUnit h [completionEntry t s.stamp]).checkSealed

/-- TRANSACTION_COMPLETE. -/
def execTransactionComplete (acceptance : Nat) (s : State) : Out := run (completeTrans acceptance) s

/-! REVERT_SHADOW and PAGE_COPY_END (06 R168, R169). -/

/-- A pair written, or removed, since the last activation is dropped with the shadow page's other changes. -/
def State.revertPairs (s : State) : State :=
  s.each (s.prot.pairs.filter fun p => p.2.pending) fun p s =>
    (s.modPair p.1 fun x => if x.protect = 255 then {} else { x with pending := false, next := x.protect }).setStaged 0x3800 1 p.1 [p.2.protect]

/-- The write of 4010:01. -/
def effRevert (_ : Session) (_ : List Nat) (s : State) : Act :=
  match s.edit.armed with
  | some a => .refuse (naming stState 0x4100 3 0 0x20 a.number)
  | none =>
    if s.edit.flight ≠ [] then .refuse (refusal stState 0x2C s.edit.flight.length)
    else
      let s := (s.journal 4 {} 0 0).revertPairs
      ok { s with fab.shadow := s.fab.active, fab.copyBusy := true, edit.included := 0, edit.lastIncl := 0xFFFFFFFF }.orphanStreams

/-- REVERT_SHADOW. -/
def execRevertShadow (rq : Rq) (arg : Byte) (s : State) : Out := run (writeOf rq 0x4010 1 0 [arg] effRevert) s

/-- The page copy, and the fanout rebuild with it, ends. -/
def copyEnd (s : State) : State := { s with fab.copyBusy := false, fab.fanoutBusy := false }

/-- PAGE_COPY_END. -/
def execPageCopyEnd (s : State) : Out := run copyEnd s

/-! Arming (06 R171, R172, R178). -/

/-- The fields of an arm record hold no reserved encoding; one that its mode does not use is 0 (06 R171). -/
def armOk (mode : Nat) (r : ArmRec) : Bool :=
  let named := r.superframe == 0 && r.sfi == 0
  let inst := r.seconds == 0 && r.nanoseconds == 0
  decide (mode ≤ 2) && decide (r.sfi ≤ 124) && decide (r.nanoseconds ≤ 999999999)
    && (if mode = 0 then named && inst else if mode = 1 then inst else named)

/-- The frame index of the target of mode 1 or 2. -/
def armTarget (mode : Nat) (r : ArmRec) : Nat :=
  if mode = 1 then frameIdx r.superframe r.sfi 0
  else (r.seconds * 1000000000 + r.nanoseconds + 124999) / 125000

/-- The write of 4100:01; a realignment that is pending already is no bar (06 R178; log entry 199). -/
def effArm (mode : Nat) (r : ArmRec) (s : State) : Act :=
  let target := armTarget mode r
  let count := s.fab.frameNo + (target - s.frameNow)
  let lead := s.untilBoundary count
  if !armOk mode r then .refuse (refusal stRange)
  else if 8192 ≤ r.hopper ∨ s.hopKind r.hopper ≠ 2 then .refuse (refusal stRange)
  else match s.edit.armed with
  | some a => .refuse (naming stState 0x4100 3 0 0x20 a.number)
  | none =>
    if s.noLease then .refuse (refusal stState 0x17)
    else if mode = 2 ∧ s.tod.ever = false then .refuse (naming stState 0x5820 2 0 0x21)
    else if mode = 2 ∧ s.tod.tjr = true then .refuse (naming stState 0x5820 2 0 0x22)
    else if mode = 2 ∧ s.tim.aligned = false then .refuse (refusal stState 0x23)
    else if mode ≠ 0 ∧ (target ≤ s.frameNow ∨ lead < 4000000) then .refuse (refusal stState 0x24)
    else if mode ≠ 0 ∧ 86400000000000 < lead then .refuse (refusal stRange 0x25)
    else
      let id := identOf target
      let a : Armed :=
        { number := s.edit.nextAct, mode := mode, hopper := r.hopper, client := r.client, state := 1
          target := if mode = 0 then none else some count
          superframe := if mode = 0 then 0 else id.1, sfi := if mode = 0 then 0 else id.2.1, mfi := if mode = 0 then 0 else id.2.2 }
      let s := { s with edit.armed := some a, edit.nextAct := (s.edit.nextAct + 1) % 4294967296 }
      ok (if mode = 0 ∨ lead ≤ 50000000 then s.sealNow else s)

/-- The bytes of an arm record (06 Table 6-10). -/
def armBytes (mode : Nat) (r : ArmRec) : Bytes :=
  beBytes 1 mode ++ beBytes 2 r.hopper ++ beBytes 4 r.client ++ beBytes 8 r.superframe ++ beBytes 1 r.sfi
    ++ beBytes 6 r.seconds ++ beBytes 4 r.nanoseconds

/-- An arm record's fields from the value of 4100:01. -/
def armOf (vs : List Nat) : Nat × ArmRec :=
  let t := vs.getD 5 0
  (vs.headD 0, ⟨vs.getD 1 0, vs.getD 2 0, vs.getD 3 0, vs.getD 4 0, t / 4294967296, t % 4294967296⟩)

/-- The write of 4100:01 from its value. -/
def effArmWrite (_ : Session) (vs : List Nat) (s : State) : Act := effArm (armOf vs).1 (armOf vs).2 s

/-- ARM_NEXT_FRAME. -/
def execArmNextFrame (rq : Rq) (r : ArmRec) (s : State) : Out := run (writeOf rq 0x4100 1 0 (armBytes 0 r) effArmWrite) s

/-- ARM_NAMED_MULTIFRAME. -/
def execArmNamedMultiframe (rq : Rq) (r : ArmRec) (s : State) : Out := run (writeOf rq 0x4100 1 0 (armBytes 1 r) effArmWrite) s

/-- ARM_TAI_INSTANT. -/
def execArmTaiInstant (rq : Rq) (r : ArmRec) (s : State) : Out := run (writeOf rq 0x4100 1 0 (armBytes 2 r) effArmWrite) s

/-! SEAL_POINT, COMMIT_POINT, ACTIVATION, CANCEL_ACTIVATION (06 R173 to R178). -/

/-- ns until the armed activation's target. -/
def State.untilTarget (s : State) (a : Armed) : Option Int := a.target.map s.untilBoundary

/-- The seal point, 50 ms before the target. -/
def sealPoint (s : State) : State :=
  match s.edit.armed with
  | some a => if (match s.untilTarget a with | some d => decide (d ≤ 50000000) | none => true) then s.sealNow else s
  | none => s

/-- SEAL_POINT. -/
def execSealPoint (s : State) : Out := run sealPoint s

/-- The commit point, 1 ms before the target: not sealed, no holder, or for mode 2 no aligned frame phase cancels; while the supervisor restarts the page counts as sealed (06 R173, Table 6-11). -/
def commitPoint (s : State) : State :=
  match s.edit.armed with
  | some a0 =>
    if (match s.untilTarget a0 with | some d => decide (d ≤ 1000000) | none => false) && a0.state != 4 then
      let s := s.sealNow
      match s.edit.armed with
      | some a =>
        if a.state ≠ 3 ∧ s.sup.restarting = false then s.cancelArmed stBusy 0x26
        else if a.mode = 2 ∧ s.tim.aligned = false then s.cancelArmed stState 0x23
        else if s.lease.admitted = false then s.cancelArmed stState 0x28
        else s.modArmed fun a => { a with state := 4 }
      | none => s
    else s
  | none => s

/-- COMMIT_POINT. -/
def execCommitPoint (s : State) : Out := run commitPoint s

/-- The target boundary is the coming one: the activation executes at it (log entry 15). -/
def activation (s : State) : State :=
  let t := s.dueActivation (s.fab.frameNo + 1) s.tod.counter
  if t.fab.acted then { t with ending := s.keepEnding.ending } else t

/-- ACTIVATION. -/
def execActivation (s : State) : Out := run activation s

/-- The write of 4100:02 (06 R177). -/
def effCancel (_ : Session) (vs : List Nat) (s : State) : Act :=
  match s.edit.armed with
  | some a =>
    if a.number ≠ vs.headD 0 then .refuse (refusal stState 0x2B)
    else if a.state = 4 ∧ !(a.mode == 0 && a.target.isNone) = true then .refuse (naming stState 0x4100 3 0 0x2A a.number)
    else ok (s.cancelArmed stOk 0x29)
  | none => .refuse (refusal stState 0x2B)

/-- CANCEL_ACTIVATION. -/
def execCancelActivation (rq : Rq) (number : Nat) (s : State) : Out :=
  run (writeOf rq 0x4100 2 0 (beBytes 4 number) effCancel) s

end Sys2Proof.Machine
end

