-- ==== Sys2Proof/Machine/Engines.lean ====
section
/-! DEFINITION. Engines, the lease, the tally, checkpoints, takeover and return (08, 01 R22 to R24). -/

namespace Sys2Proof.Machine

/-! Operations (08 R210 to R216). -/

/-- Codes of the engine states (08 Table 8-1). -/
def EngState.code : EngState → Nat
  | .unusable => 0
  | .failed => 1
  | .restarting => 2
  | .cold => 3
  | .refreshing => 4
  | .waking => 5
  | .armed => 6
  | .holder => 7
  | .down => 8

/-- The core rail of an engine is on (08 Table 8-1). -/
def EngState.coreOn : EngState → Bool
  | .restarting | .refreshing | .waking | .armed | .holder => true
  | .unusable | .failed | .cold | .down => false

/-! Banks (01 R24, Table 1-5; 05 R150): numbered in the order of the table, with the spares from 624 (log entry 159). -/

/-- What a bank is used for. -/
inductive BankUse where
  | data | map (area1 : Bool) | fanout | selectors | scratch | spare
  deriving DecidableEq, Repr

/-- Use of each of the 640 banks. -/
def bankUse (b : Nat) : BankUse :=
  if b < 352 then .data
  else if b < 448 then .map false
  else if b < 544 then .map true
  else if b < 615 then .fanout
  else if b < 616 then .selectors
  else if b < 624 then .scratch
  else .spare

/-- The bank that a bank stands for: its own number, or for a spare the bank it replaces, if any (05 R150). -/
def Engine.standsFor (x : Engine) (b : Nat) : Option Nat :=
  if b < 624 then some b
  else match x.repairs.getD (b - 624) 0xFFFF with
    | 0xFFFF => none
    | v => some v

/-- A bank, or the bank that a spare replaces, belongs to the map. -/
def Engine.mapBank (x : Engine) (b : Nat) : Bool :=
  match (x.standsFor b).map bankUse with | some (.map _) => true | _ => false

/-- Power of a bank: 0 off, 1 retention, 2 on (08 Table 8-1, 01 R24). -/
def Engine.bankPower (x : Engine) (b : Nat) : Nat :=
  match x.state with
  | .restarting | .waking | .armed | .holder => 2
  | .refreshing => if x.mapBank b then 2 else 0
  | .cold => if x.mapBank b then 1 else 0
  | .unusable | .failed | .down => 0

/-- Code of a lease holder: 0 A, 1 B, 0xFF none (08 Table 8-10). -/
def holderCode (h : Option EngId) : Nat := match h with | some e => (e : Nat) | none => 255

/-- The value of 5020:01. -/
def State.leaseValue (s : State) : Bytes :=
  beBytes 1 (holderCode s.lease.holder) ++ beBytes 4 s.lease.epoch ++ beBytes 4 ((s.now - s.lease.renewedAt) / 1000)

/-- The value of 5010:03 of an engine. -/
def Engine.failValue (x : Engine) : Bytes := beBytes 1 x.cause ++ beBytes 4 x.failEpoch ++ beBytes 10 x.failStamp

/-- Record a failure of an engine, and write its event (08 R216, R453). -/
def State.recordFail (s : State) (e : EngId) (cause : Nat) : State :=
  let s := s.modEngine e fun x => { x with cause := cause, failEpoch := s.lease.epoch, failStamp := s.stamp }
  s.event 4 0x5010 3 e (s.engine e).failValue

/-- An engine becomes Failed (08 Table 8-2). -/
def State.failEngine (s : State) (e : EngId) (cause : Nat) : State :=
  (s.recordFail e cause).modEngine e fun x => { x with state := .failed, failedAt := s.now, switching := false }

/-- Revoke the lease: the holder becomes Failed, and the sluice admits nothing more. A row passes the sluice 2.3 microseconds before it leaves the pins
(08 R214, R216, Table 8-9). -/
def State.revoke (s : State) (cause : Nat) : State :=
  match s.lease.holder with
  | none => s
  | some e =>
    let s := s.failEngine e cause
    let rows := (s.frameAge + frameLead) / 125 + 1
    ({ s with
        lease.holder := none, lease.admitted := false, lease.lapsed := true, lease.rowsHeld := min s.lease.rowsHeld rows
        lease.ahead := if s.lease.admitted then rows - 1000 else 0
        lease.revokedAt := some s.now, lease.revokeCause := cause }).abandonMap

/-- The newer valid checkpoint of an engine (08 R222). -/
def Engine.newer (x : Engine) : Option Image :=
  match x.area0.valid, x.area1.valid with
  | true, true => some (if x.area1.c < x.area0.c then x.area0 else if x.area0.c < x.area1.c then x.area1
      else if x.area1.seq < x.area0.seq then x.area0 else x.area1)
  | true, false => some x.area0
  | false, true => some x.area1
  | false, false => none

/-- Records between a checkpoint and the journal's head. -/
def State.behind (s : State) (i : Image) : Nat := s.edit.head - i.c

/-- A Cold engine is stale, or ready; an image from before the records that the mirror holds is stale too (08 R222). -/
def State.staleEngine (s : State) (x : Engine) : Bool :=
  x.mirrorFull || (match x.newer with | some i => decide (32768 < s.behind i ∨ i.c + s.edit.mirror < s.edit.head) | none => true)
def State.readyEngine (s : State) (x : Engine) : Bool := x.state == .cold && !s.staleEngine x

/-- The k-th free value of a read, below n. -/
def State.meas (s : State) (k n : Nat) : Nat := Config.freeValue (s.fresh + k) % n

/-- The fields of 5010:02 as they are. With no valid checkpoint the spec states no area, position, age or count, and before the first activation record
no position (log entry 6). -/
def State.checkpointNow (s : State) (e : EngId) : List Nat :=
  let x := s.engine e
  let tail : List Nat := [b2n (s.readyEngine x), b2n (s.staleEngine x)]
  match x.newer with
  | some i => [b2n (i == x.area1), if i.c = 0 then s.meas 1 (2 ^ 64) else i.c - 1, (s.now - x.refreshedAt) / 1000000000, s.behind i] ++ tail
  | none => [s.meas 0 256, s.meas 1 (2 ^ 64), s.meas 2 (2 ^ 32), s.meas 3 (2 ^ 32)] ++ tail

/-- Automatic restarts in the last 24 h (08 R228). -/
def State.recentRestarts (s : State) (e : EngId) : List Nat := (s.engine e).restarts.filter fun t => decide (s.now < t + secs 86400)

/-- The fields of 5010:02: those last held while the engine is Down (08 R210). -/
def State.checkpointFields (s : State) (e : EngId) : List Nat :=
  let x := s.engine e
  if x.state = .down then (x.held.drop 1 ++ List.replicate 6 0).take 6 else s.checkpointNow e

/-- The value of 5010:06. -/
def State.restartCount (s : State) (e : EngId) : Nat :=
  let x := s.engine e
  if x.state = .down then x.held.headD 0 else (s.recentRestarts e).length

/-- The bytes of 5010:02. -/
def State.checkpointBytes (s : State) (e : EngId) : Bytes :=
  (([1, 8, 4, 4, 1, 1] : List Nat).zip (s.checkpointFields e)).flatMap fun p => beBytes p.1 p.2

/-- Follow the engine conditions of 08 Table 8-8. -/
def State.watchEngines (s : State) : State :=
  let up := s.power.step == 9
  let es : List Engine := [s.engA, s.engB]
  let standby := es.any fun x => s.readyEngine x || x.state == .refreshing || x.state == .armed
  let s := s.noteCond .noHolder (up && s.lease.holder.isNone)
  let s := s.noteCond .commonTally s.lease.commonTally
  let s := s.noteCond .noStandby (s.lease.holder.isSome && !standby)
  let s := s.noteCond .standbyStale (es.any fun x => x.state == .cold && s.staleEngine x)
  (s.noteCond (.engineUnusable 0) (s.engA.state == .unusable)).noteCond (.engineUnusable 1) (s.engB.state == .unusable)

/-- The next epoch (08 R212). -/
def nextEpoch (e : Nat) : Nat := if e = 0xFFFFFFFF then 1 else e + 1

/-- Tell an engine how the sluice has handled its message. -/
def State.tell (s : State) (e : EngId) (granted : Bool) : State :=
  s.emit (.lease e granted s.lease.epoch s.lease.holder)

/-- A new holder starts with every selector at rest; the cogs are to write theirs back (07 R198, R204). -/
def State.freshSelectors (s : State) : State :=
  { s.keepEnding with fab.sel := [], fab.lineSel := [], prot.writeBack := true }

/-- An image of the active page with the position after its last activation record (08 R222). -/
def State.imageNow (s : State) (seq : Nat) : Image :=
  { valid := true, page := s.fab.active
    c := s.edit.actPos
    number := s.edit.activeNo, seq := seq, written := s.stamp, ports := (List.range 48).map s.portOf }

/-- The areas of an engine that hold something: none while it is Down. -/
def Engine.areas (x : Engine) : List Image := if x.state = .down then [] else [x.area0, x.area1]

/-- The engine stands by: it replays the journal onto its checkpoint when it wakes. A holder has its pages, and an engine that restarts loads both areas
anew (08 R222). -/
def Engine.standsBy (x : Engine) : Bool := x.state == .cold || x.state == .refreshing || x.state == .waking || x.state == .armed

/-- The least position that a checkpoint still needs. -/
def State.journalFloor (s : State) : Nat :=
  let areas := ([s.engA, s.engB].filter Engine.standsBy).flatMap Engine.areas
  (((areas ++ [s.persist.map0, s.persist.map1]).filter Image.valid).map Image.c).foldl min s.edit.head

/-- Drop the records that no checkpoint needs (08 R222). -/
def State.pruneJournal (s : State) : State :=
  let f := s.journalFloor
  { s with edit.journal := s.edit.journal.filter fun r => decide (f ≤ r.pos), edit.mirror := min s.edit.mirror (s.edit.head - f) }

/-! PER_FRAME_LEASE_STATE (08 R211, Table 8-2). -/

/-- An island receives the lease state. -/
def leaseState (e : EngId) (s : State) : State :=
  let x := s.engine e
  let next : EngState :=
    match x.state, s.lease.holder with
    | .cold, none => .waking
    | .refreshing, none => .waking
    | .armed, some h => if h ≠ e ∧ x.switching = false then .cold else .armed
    | st, _ => st
  (s.modEngine e fun x => { x with state := next }).watchEngines

/-- PER_FRAME_LEASE_STATE. -/
def execPerFrameLeaseState (engine : EngId) (s : State) : Out := run (leaseState engine) s

/-! WAKE_COMPLETE (08 R223 to R225). -/

/-- In-flight transactions are applied again to the shadow page that a replay gives (08 R225). -/
def State.reapplyFlight (s : State) (page : List Entry) : List Entry :=
  s.edit.flight.foldl (fun p t => if t.journaled then p else insEntries t.inserted (p.filter fun e => !t.removed.contains e)) page

/-- The pages of an engine that comes to the lease: its newer checkpoint, the journal replayed (08 R223). -/
def State.loadPages (s : State) (i : Image) : State :=
  let r := replay i s.edit.journal
  { s with fab.active := r.1, fab.shadow := s.reapplyFlight r.2 }

/-- The newer area of an engine is found bad: it is invalid, and that is recorded (08 R453). -/
def State.newerBad (s : State) (e : EngId) : State :=
  (s.modEngine e fun x => if x.newer = some x.area1 then { x with area1 := {} } else { x with area0 := {} }).recordFail e 2

/-- A wake ends: Armed, or Failed with cause 9. -/
def wakeEnd (e : EngId) (r : WakeResult) (s : State) : State :=
  if (s.engine e).state = .waking then
    let s := if r = .older then s.newerBad e else s
    match if r = .older then WakeResult.done else r, (s.engine e).newer with
    | .done, some i =>
      let s := s.modEngine e fun x => { x with state := .armed, armedAt := s.now }
      (if s.lease.holder.isNone then s.loadPages i else s).watchEngines
    | _, _ => (s.failEngine e 9).watchEngines
  else s

/-- WAKE_COMPLETE. -/
def execWakeComplete (engine : EngId) (result : WakeResult) (s : State) : Out := run (wakeEnd engine result) s

/-! CORE_RAIL_FAULT, ISLAND_RAIL_LOSS, link faults (08 Table 8-2, R453; 01 R23). -/

/-- An engine's core rail is out of its window. -/
def coreRail (e : EngId) (s : State) : State :=
  let x := s.engine e
  if x.state = .unusable ∨ x.state = .down then s
  else if s.lease.holder = some e then (s.revoke 5).watchEngines
  else (s.failEngine e 5).watchEngines

/-- CORE_RAIL_FAULT. -/
def execCoreRailFault (engine : EngId) (s : State) : Out := run (coreRail engine) s

/-- An engine and its island lose power: what they held is shown, and serves nothing (08 R210, Table 8-2). -/
def State.engineDown (s : State) (e : EngId) (cause : Nat) : State :=
  let s := if s.lease.holder = some e then s.revoke cause else s
  let h := s.restartCount e :: s.checkpointFields e
  s.modEngine e fun x => { x with state := .down, held := h, switching := false }

/-- ISLAND_RAIL_LOSS. -/
def islandLost (e : EngId) (s : State) : State := (s.engineDown e 5).watchEngines

/-- ISLAND_RAIL_LOSS. -/
def execIslandRailLoss (engine : EngId) (s : State) : Out := run (islandLost engine) s

/-- The link of an engine runs: waking, armed or holder. -/
def Engine.linked (x : Engine) : Bool := x.state == .waking || x.state == .armed || x.state == .holder

/-- A flit arrives (01 R23). -/
def linkFlit (e : EngId) (c : FlitCheck) (s : State) : State :=
  if (s.engine e).linked then
    match c with
    | .good => s
    | .corrected => s.count 0x5010 4 0 e
    | .uncorrectable => s.count 0x5010 5 0 e
  else s

/-- LINK_FLIT. -/
def execLinkFlit (engine : EngId) (check : FlitCheck) (s : State) : Out := run (linkFlit engine check) s

/-- A fault that acts by the engine's state: revocation of a holder, a failed wake, an armed engine failed (08 R453). -/
def State.engineFault (s : State) (e : EngId) (cause : Nat) : State :=
  if s.lease.holder = some e then s.revoke cause
  else match (s.engine e).state with
    | .waking => s.failEngine e 9
    | .armed => s.failEngine e cause
    | _ => s

/-- A link loses framing, or its buffer overruns or underruns. -/
def linkLoss (e : EngId) (_ : LinkFault) (s : State) : State :=
  if (s.engine e).linked then (s.engineFault e 6).watchEngines else s

/-- LINK_FRAMING_LOSS. -/
def execLinkFramingLoss (engine : EngId) (fault : LinkFault) (s : State) : Out := run (linkLoss engine fault) s

/-! Repairs (05 R150). -/

/-- Put a number at a place of the repair record; 0xFFFF is a free spare. -/
def setSpare (r : List Nat) (i v : Nat) : List Nat := (r ++ List.replicate (i + 1 - r.length) 0xFFFF).set i v

/-- The lowest free spare. -/
def freeSpare (r : List Nat) : Option Nat := (List.range 16).find? fun i => r.getD i 0xFFFF == 0xFFFF

/-- A bank takes the lowest free spare; the record as it is, with a mark, where none is left. -/
def takeSpare (r : List Nat) (bank : Nat) : List Nat × Bool :=
  match freeSpare r with
  | some i => (setSpare r i bank, true)
  | none => (r, false)

/-- Replace one bank that failed a march; a spare that fails is spent, and what it replaced takes the next. -/
def repairBank (r : List Nat) (bank : Nat) : List Nat × Bool :=
  if 624 ≤ bank then
    let old := r.getD (bank - 624) 0xFFFF
    let r := setSpare r (bank - 624) bank
    if old = 0xFFFF ∨ old = bank then (r, true) else takeSpare r old
  else if r.contains bank then (r, true)
  else takeSpare r bank

/-- Replace the banks that failed, in the order found: the record, and whether the spares were enough. The repairs made stay where they were not. -/
def repairAll (r : List Nat) : List Nat → List Nat × Bool
  | [] => (r, true)
  | b :: bs =>
    let x := repairBank r b
    let y := repairAll x.1 bs
    (y.1, x.2 && y.2)

/-- An engine is found unusable by a march (08 Table 8-2, R453). -/
def State.unusableEngine (s : State) (e : EngId) : State :=
  (s.recordFail e 10).modEngine e fun x => { x with state := .unusable, switching := false }

/-! Checkpoint refresh (08 R222). -/

/-- A refresh is in progress, or a restart. -/
def State.refreshing (s : State) : Bool := [s.engA, s.engB].any fun x => x.state == .refreshing
def State.restartingEng (s : State) : Bool := [s.engA, s.engB].any fun x => x.state == .restarting

/-- The Cold engine that a refresh takes, while another holds the lease. -/
def State.refreshTarget (s : State) : Option EngId :=
  if s.refreshing then none
  else match s.lease.holder with
    | some h => if (s.engine (otherEng h)).state = .cold then some (otherEng h) else none
    | none => none

/-- Area 1 is the one that a refresh rewrites: an invalid area first, else the older one. -/
def Engine.rewrites1 (x : Engine) : Bool := x.area0.valid && (!x.area1.valid || x.newer == some x.area0)

/-- The march that begins a refresh destroys the area it is to rewrite (08 R222). -/
def Engine.voidOlder (x : Engine) : Engine :=
  if x.rewrites1 then { x with state := .refreshing, area1 := {} } else { x with state := .refreshing, area0 := {} }

/-- Start a refresh. -/
def State.startRefresh (s : State) : State :=
  match s.refreshTarget with
  | some e => s.modEngine e fun x => x.voidOlder
  | none => s

/-- A refresh is due by time, or by journal records. -/
def refreshDue (s : State) : State :=
  match s.refreshTarget with
  | some e =>
    let x := s.engine e
    if s.over x.refreshedAt (secs (60 * s.cfg 0x5000 6 0)) || decide (s.cfg 0x5000 7 0 ≤ s.edit.head - x.refreshHead) then s.startRefresh else s
  | none => s

/-- REFRESH_DUE. -/
def execRefreshDue (s : State) : Out := run refreshDue s

/-- The write of 5000:05. -/
def effRefresh (_ : Session) (_ : List Nat) (s : State) : Act := ok s.startRefresh

/-- REFRESH_CHECKPOINT. -/
def execRefreshCheckpoint (rq : Rq) (arg : Byte) (s : State) : Out := run (writeOf rq 0x5000 5 0 [arg] effRefresh) s

/-- Put an image into the area that a refresh rewrites. -/
def Engine.putImage (x : Engine) (i : Image) : Engine := if x.rewrites1 then { x with area1 := i } else { x with area0 := i }

/-- The other area is found bad by its check. -/
def Engine.voidKept (x : Engine) : Engine := if x.rewrites1 then { x with area0 := {} } else { x with area1 := {} }

/-- The sequence of an engine's next image. -/
def Engine.nextSeq (x : Engine) : Nat := max x.area0.seq x.area1.seq + 1

/-- The banks that a refresh marches, and that fail: those of the area it rewrites, and their spares (08 R222, 05 R150). -/
def Engine.marched (x : Engine) (bad : List (Fin 640)) : List Nat :=
  (bad.map Fin.val).filter fun b => (x.standsFor b).map bankUse == some (.map x.rewrites1)

/-- The copy is made, and both areas are checked: a bad one is left invalid, and recorded (08 R222, R453). -/
def State.endRefresh (s : State) (e : EngId) (imageOk keptOk : Bool) : State :=
  let i := s.imageNow (s.engine e).nextSeq
  let s := if keptOk then s else (s.modEngine e Engine.voidKept).recordFail e 2
  let s := s.modEngine e fun x => { x with state := .cold }
  if imageOk then
    let s := (s.modEngine e fun x => { x.putImage i with refreshedAt := s.now, refreshHead := s.edit.head, mirrorFull := false }).pruneJournal
    s.event 1 0x5010 2 e (s.checkpointBytes e)
  else s.recordFail e 2

/-- A refresh ends: its march with the repairs, then the copy; the engine is unusable where no spare is left (08 R222, 05 R150). -/
def refreshEnd (e : EngId) (o : RefreshObs) (s : State) : State :=
  let x := s.engine e
  if x.state = .refreshing then
    let r := repairAll x.repairs (x.marched o.badBanks)
    let s := s.modEngine e fun x => { x with repairs := r.1 }
    (if r.2 then s.endRefresh e o.imageOk o.keptOk else s.unusableEngine e).watchEngines
  else s

/-- REFRESH_COMPLETE. -/
def execRefreshComplete (engine : EngId) (o : RefreshObs) (s : State) : Out := run (refreshEnd engine o) s

/-! Heartbeats (08 R226). -/

/-- A heartbeat arrives at the other island, with its sender's state. -/
def heartbeat (sender : EngId) (s : State) : State :=
  s.modEngine (otherEng sender) fun x =>
    if x.state = .down then x else { x with hbReceived := true, hbLost := false, hbAt := s.now, hbPeer := (s.engine sender).state.code }

/-- One more heartbeat is missed at an island: 1 ms has passed since the last one was due (log entry 160). -/
def State.missBeat (s : State) (e : EngId) : State :=
  let x := s.engine e
  let t := s.now - x.hbAt
  if x.state ≠ .down ∧ 1 < t ∧ t % 1000000 = 1 then s.count 0x5010 7 3 e else s

/-- HEARTBEAT. -/
def execHeartbeat (sender : EngId) (s : State) : Out := run (heartbeat sender) s

/-- The value of 5010:07. -/
def State.heartValue (s : State) (e : EngId) : Bytes :=
  let x := s.engine e
  [BitVec.ofNat 8 (b2n x.hbReceived), BitVec.ofNat 8 (b2n x.hbLost)] ++ beBytes 4 (s.ctr 0x5010 7 3 e)

/-- Three heartbeats in a row are missed. -/
def heartLost (e : EngId) (s : State) : State :=
  let x := s.engine e
  if x.state ≠ .down ∧ x.hbLost = false ∧ s.over x.hbAt (msecs 3) = true then
    let s := s.modEngine e fun x => { x with hbReceived := false, hbLost := true }
    s.event 4 0x5010 7 e (s.heartValue e)
  else s

/-- HEARTBEAT_LOST. -/
def execHeartbeatLost (receiver : EngId) (s : State) : Out := run (heartLost receiver) s

/-! Manual switch and handover (08 R227). -/

/-- The write of 5000:03. -/
def effManualSwitch (_ : Session) (_ : List Nat) (s : State) : Act :=
  match s.lease.holder with
  | none => .refuse (naming stState 0x5010 1 0)
  | some h =>
    let e := otherEng h
    if s.readyEngine (s.engine e) && !s.refreshing && !s.restartingEng then
      ok (s.modEngine e fun x => { x with state := .waking, switching := true })
    else .refuse (naming stState 0x5010 1 e)

/-- MANUAL_SWITCH. -/
def execManualSwitch (rq : Rq) (arg : Byte) (s : State) : Out := run (writeOf rq 0x5000 3 0 [arg] effManualSwitch) s

/-- A commit window is open (06 R177). -/
def State.commitOpen (s : State) : Bool := match s.edit.armed with | some a => a.state == 4 | none => false

/-- The sluice hands the lease to the armed engine. -/
def handOver (s : State) : State :=
  match s.lease.holder with
  | none => s
  | some h =>
    let e := otherEng h
    let x := s.engine e
    if x.state = .armed ∧ x.switching = true ∧ s.lease.admitted = true ∧ s.over x.armedAt 10000 = true ∧ s.commitOpen = false then
      let s := s.recordFail h 8
      let s := s.modEngine h fun x => { x with state := .restarting }
      let s := s.modEngine e fun x => { x with state := .holder, switching := false }
      let s := { s with
        lease.holder := some e, lease.epoch := nextEpoch s.lease.epoch, lease.grantAt := s.now, lease.renewedAt := s.now
        lease.window := [], lease.tallyTakeover := none }.freshSelectors
      ((s.count 0x5020 2 0 0).tell e true).watchEngines
    else s

/-- HANDOVER. -/
def execHandover (s : State) : Out := run handOver s

/-! Return of a failed engine (08 R228, R229; 05 R150). -/

/-- A Failed engine starts its restart march. -/
def State.startRestart (s : State) (e : EngId) : State := s.modEngine e fun x => { x with state := .restarting }

/-- One second after failing (08 R228). -/
def autoRestart (e : EngId) (s : State) : State :=
  let x := s.engine e
  let recent := s.recentRestarts e
  if x.state = .failed ∧ s.over x.failedAt (secs 1) = true ∧ s.cfg 0x5000 2 0 = 1 ∧ recent.length < 3 then
    ((s.startRestart e).modEngine e fun x => { x with restarts := s.now :: recent }).watchEngines
  else s

/-- AUTOMATIC_RESTART. -/
def execAutomaticRestart (engine : EngId) (s : State) : Out := run (autoRestart engine) s

/-- The engine of a number. -/
def engOf (n : Nat) : EngId := if n = 0 then 0 else 1

/-- The write of 5000:04. -/
def effRestartEngine (_ : Session) (vs : List Nat) (s : State) : Act :=
  let e := engOf (vs.headD 0)
  if (s.engine e).state = .failed then ok (s.startRestart e).watchEngines else .refuse (naming stState 0x5010 1 e)

/-- RESTART_ENGINE. -/
def execRestartEngine (rq : Rq) (engine : Nat) (s : State) : Out := run (writeOf rq 0x5000 4 0 (u8 engine) effRestartEngine) s

/-- The newest valid map checkpoint in flash; the empty map where there is none (16 R420). -/
def State.newestMap (s : State) : Image :=
  match s.persist.map0.valid, s.persist.map1.valid with
  | true, true => if s.persist.map1.seq < s.persist.map0.seq then s.persist.map0 else s.persist.map1
  | true, false => s.persist.map0
  | false, true => s.persist.map1
  | false, false => { valid := true, c := match s.edit.journal with | r :: _ => if r.pos = 0 then 0 else s.edit.head | [] => s.edit.head }

/-- A restart march ends. -/
def marchEnd (e : EngId) (bad : List (Fin 640)) (s : State) : State :=
  let x := s.engine e
  if x.state = .restarting then
    let r := repairAll x.repairs (bad.map Fin.val)
    let s := s.modEngine e fun x => { x with repairs := r.1 }
    (if !r.2 then s.unusableEngine e
    else match s.lease.holder with
      | some _ =>
        let i := s.imageNow x.nextSeq
        s.modEngine e fun x => { x with
          state := .cold, area0 := i, area1 := { i with seq := i.seq + 1 }, refreshedAt := s.now, refreshHead := s.edit.head, mirrorFull := false }
      | none =>
        let i := s.newestMap
        s.modEngine e fun x => { x with state := .waking, area0 := i, area1 := {} }).watchEngines
  else s

/-- RESTART_MARCH_COMPLETE. -/
def execRestartMarchComplete (engine : EngId) (badBanks : List (Fin 640)) (s : State) : Out := run (marchEnd engine badBanks) s

/-! TALLY_REVOCATION_WRITE (08 R230). -/

/-- The write of 5000:08. -/
def effTallyRevocation (_ : Session) (vs : List Nat) (s : State) : Act :=
  let s := s.setVal 0x5000 8 0 vs
  if vs.headD 0 = 1 then ok ({ s with lease.window := [], lease.commonTally := false }.watchEngines) else ok s

/-- TALLY_REVOCATION_WRITE. -/
def execTallyRevocationWrite (rq : Rq) (s : State) : Out := run (writeOf rq 0x5000 8 0 (u8 1) effTallyRevocation) s

end Sys2Proof.Machine
end

