-- ==== Sys2Proof/Machine/Tally.lean ====
section
/-! DEFINITION. What an engine checks as it reads: ECC, route tags, and the two sums of the tally (05 R145 to R149; 08 R217 to R220). -/

namespace Sys2Proof.Machine

/-! Words of the data memory (05 R145, R147, R148). -/

/-- The route tag of a word: the CRC-8 of R37 over P and W (05 R147). -/
def routeTag (p w : Nat) : BitVec 8 :=
  BitVec.ofNat 8 (crc8 (beBytes 1 (p % 2 * 128 + bits w 22 16) ++ beBytes 1 (bits w 15 8) ++ beBytes 1 (bits w 7 0)))

/-- P of the reads of the present egress frame: the buffer read, or the frame of a ring read, which is the previous one where the row distance wraps. -/
def State.readP (s : State) (wraps : Bool) : Nat := if wraps then (s.fab.frameNo + 1) % 2 else s.fab.frameNo % 2

/-- The eight bytes of a word as stored. -/
def State.wordBytes (s : State) (ring : Bool) (p w : Nat) : BitVec 64 :=
  bytesBlock ((List.range 8).map fun i =>
    let g := w * 8 + i
    if ring then tget 0 s.fab.ring (ringKey p (posOf g) (g % 768000)) else s.bufByte p g)

/-- An 80-bit bank word: data in [63:0], route tag in [71:64], ECC over both in [79:72] (05 R145, R148). -/
def State.bankWord (s : State) (ring : Bool) (p w : Nat) : BitVec 80 :=
  let d : BitVec 72 := routeTag p w ++ s.wordBytes ring p w
  Config.secded d.toNat ++ d

/-- Bits set in an upset. -/
def flipCount {n : Nat} (v : BitVec n) : Nat := popCount n v.toNat

/-- The tag of a word with flipped bits, after correction: a single flipped bit is corrected, more are not (05 R148). -/
def State.tagRead (s : State) (ring : Bool) (p w : Nat) (flips : BitVec 80) : BitVec 8 :=
  (s.bankWord ring p w ^^^ (if flipCount flips = 1 then 0 else flips)).extractLsb' 64 8

/-- The read window of a run's byte k: the position and the eight rows that its egress slot lies in (05 R145). -/
def windowOf (e : Entry) (k : Nat) : Nat := (e.egress + k) / 6144

/-- The bytes of a run with which its reads of a word begin: the first in the word, and the first of each read window after it, whose share of the run
reads the word again (05 R145). -/
def State.runReads (s : State) (ring : Bool) (w : Nat) (e : Entry) : List Nat :=
  let src := s.runSrc e
  let ks := (List.range 8).filterMap fun i => if src ≤ w * 8 + i ∧ w * 8 + i < src + e.slots then some (w * 8 + i - src) else none
  if e.kind = 0 ∧ e.prompt = ring then ks.filter fun k => !ks.contains (k - 1) || k == 0 || windowOf e k != windowOf e (k - 1) else []

/-- Byte k of a prompt run leaves in a row at or before the one it arrives in, so that its read means the frame before (05 R143). -/
def State.runWraps (s : State) (e : Entry) (k : Nat) : Bool :=
  e.prompt && decide ((e.egress + k) % 768000 / 768 ≤ (s.runSrc e + k) % 768000 / 768)

/-- P of each read of a word in the present egress frame. -/
def State.reads (s : State) (ring : Bool) (w : Nat) : List Nat :=
  s.fab.active.flatMap fun e => (s.runReads ring w e).map fun k => s.readP (!ring || s.runWraps e k)

/-- What the reads of a frame find: words corrected, words uncorrectable, entries corrected, entries uncorrectable by index, tags that do not match, and
tags excused. -/
structure ReadReport where
  dataOne : Nat := 0
  dataMany : Nat := 0
  mapOne : Nat := 0
  mapMany : List Nat := []
  tags : Nat := 0
  excused : Nat := 0
  deriving DecidableEq, Repr

/-- Tags that do not match are excused on prompt reads of a lane whose PF bit is set (08 R220). -/
def State.tagCount (s : State) (r : ReadReport) (ring : Bool) (w n : Nat) : ReadReport :=
  if ring && s.fab.latch.pf.getLsbD (posOf (w * 8)) then { r with excused := r.excused + n } else { r with tags := r.tags + n }

/-- One upset, as the reads of an engine find it (05 R148, R149). -/
def State.findUpset (s : State) (e : EngId) (r : ReadReport) : Upset → ReadReport
  | .entry f i flips =>
    if f ≠ e ∨ pageCount s.fab.active ≤ i then r
    else if flipCount flips = 0 then r
    else if flipCount flips = 1 then { r with mapOne := r.mapOne + 1 } else { r with mapMany := r.mapMany ++ [i] }
  | .word f ring w flips =>
    if f ≠ e then r
    else
      let ps := s.reads ring w
      let r := if flipCount flips = 0 then r
        else if flipCount flips = 1 then { r with dataOne := r.dataOne + ps.length } else { r with dataMany := r.dataMany + ps.length }
      s.tagCount r ring w (ps.countP fun p => s.tagRead ring p w flips != routeTag p w)
  | .stray f ring w q v =>
    if f ≠ e then r else s.tagCount r ring w ((s.reads ring w).countP fun p => routeTag q v != routeTag p w)

/-- What an engine's reads of the frame find. -/
def State.readReport (s : State) (e : EngId) (us : List Upset) : ReadReport := us.foldl (s.findUpset e) {}

/-- The bytes of a word as the present egress frame reads them, changed by their place in it. -/
def State.alterWord (s : State) (ring : Bool) (w : Nat) (f : Nat → Byte → Byte) : State :=
  let alter (key : Nat → Nat) (t : Tab Byte) : Tab Byte := (List.range 8).foldl (fun t i => tmod 0 t (key (w * 8 + i)) (f i)) t
  if ring then { s with fab.ring := alter (fun g => ringKey 0 (posOf g) (g % 768000)) (alter (fun g => ringKey 1 (posOf g) (g % 768000)) s.fab.ring) }
  else if (s.fab.frameNo + 1) % 2 = 0 then { s with fab.buf0 := alter id s.fab.buf0 } else { s with fab.buf1 := alter id s.fab.buf1 }

/-- A word with more than one flipped bit is delivered as read: its data with them (05 R148). -/
def State.flipWord (s : State) (ring : Bool) (w : Nat) (flips : BitVec 80) : State :=
  if flipCount flips < 2 then s else s.alterWord ring w fun i b => b ^^^ flips.extractLsb' (8 * i) 8

/-- A word written for another place is delivered as read: the data of that place (05 R148). -/
def State.strayWord (s o : State) (ring : Bool) (w q v : Nat) : State :=
  let d := blockBytes (o.wordBytes ring q v)
  s.alterWord ring w fun i _ => d.getD i 0

/-- The state as the frame now leaving is read, with the holder's upsets in its memory. -/
def State.readState (s : State) (us : List Upset) : State :=
  us.foldl (fun t u => match u with
    | .word e ring w flips => if t.lease.holder = some e then t.flipWord ring w flips else t
    | .stray e ring w q v => if t.lease.holder = some e then t.strayWord s.ended ring w q v else t
    | _ => t) s.ended

/-! The tally (08 R217, R218). -/

/-- F[h]: egress slots of a page that name a slot as primary source in a run of KIND 00b (05 R137). -/
def fanoutOf (page : List Entry) (h : Nat) : Nat := page.countP fun e => e.kind == 0 && decide (e.ingress ≤ h ∧ h < e.ingress + e.slots)

/-- The range of a port's slots holds a slot. -/
def State.inPort (s : State) (p h : Nat) : Bool := decide (gaddr p 0 ≤ h ∧ h < gaddr (p + s.width p) 0)

/-- The fanout that counts for a slot (08 R218). -/
def State.fold (s : State) (h : Nat) : Nat :=
  match s.inForce.find? fun p => s.lineOn p.1 && decide (gaddr p.2.protect 0 ≤ h ∧ h < gaddr (p.2.protect + s.width p.1) 0) with
  | some p => fanoutOf s.fab.active (h + gaddr p.1 0 - gaddr p.2.protect 0)
  | none => if s.inForce.any fun p => s.lineOn p.1 && s.inPort p.1 h then 0 else fanoutOf s.fab.active h

/-- The slots that can count: those that the runs of the active page name, after the line remap, in ascending order. -/
def State.namedSlots (s : State) : List Nat :=
  slotList (((s.fab.active.filter fun e => e.kind == 0).map fun e => (s.remapSrc e.ingress, e.slots)).foldl (fun l r => insRange r l) [])

/-- A sum modulo 2^32. -/
def sum32 (l : List Nat) : BitVec 32 := BitVec.ofNat 32 l.sum

/-- The word loop: the source frame in a buffer, each byte as often as it counts. -/
def State.wordLoop (s : State) (b : Nat) : BitVec 32 := sum32 (s.namedSlots.map fun h => s.fold h * (s.bufByte b h).toNat)

/-- T of a run's bytes: constant class, read from the primary source, not substituted (08 R217). -/
def State.tallied (s : State) (e : Entry) : Bool := e.kind == 0 && !e.prompt && !s.onAlt e && (s.runSub e).isNone

/-- The subtraction loop: the slot runs whose bytes carry T = 0 (08 R218). -/
def State.subtractLoop (s : State) : BitVec 32 :=
  sum32 ((s.fab.active.filter fun e => e.kind == 0 && !s.tallied e).map fun e =>
    ((List.range e.slots).map fun k => (s.bufByte ((s.fab.frameNo + 1) % 2) (s.remapSrc e.ingress + k)).toNat).sum)

/-- M: the bytes with T = 1 that pass the sluice, before sealing and before any substitution of the port die. What fills the ranges of uncorrectable
entries comes from no entry, and has T = 0 (05 R149; 08 R217). -/
def State.measuredSum (s : State) (fill : List (Nat × Nat)) : BitVec 32 :=
  sum32 ((s.fab.active.filter s.tallied).map fun e =>
    (((List.range e.slots).filter fun k => s.rowHeld ((e.egress + k) % 768000 / 768)
        && !fill.any fun r => decide (r.1 ≤ e.egress + k ∧ e.egress + k < r.1 + r.2)).map fun k => (s.runByte e k).toNat).sum)

end Sys2Proof.Machine
end

