-- ==== Sys2Proof/Machine/Sluice.lean ====
section
/-! DEFINITION. The sluice: what each command of the lease does, the comparison of the tally, and the races (08 R212 to R219, R230). -/

namespace Sys2Proof.Machine

/-! TALLY_COMPARISON (08 R219, R230). -/

/-- The source frame whose egress frame ended at the last boundary is evaluated (08 R219); `loop` is false where the subtraction loop did not finish. -/
def State.tallyEvaluated (s : State) (loop : Bool) : Bool :=
  let m (i : Nat) : Mark := s.fab.hist.getD i {}
  loop && !(m 0).lapse && !(m 1).line && !(m 1).act && !(m 2).act && !(m 2).fan

/-- TALLY is declared against the holder. -/
def State.declareTally (s : State) : State :=
  if s.cfg 0x5000 8 0 = 0 then s
  else match s.lease.tallyTakeover with
    | some t =>
      if s.over t (secs 10) then s.revoke 1
      else ({ s with lease.commonTally := true }).setVal 0x5000 8 0 [0]
    | none => s.revoke 1

/-- One comparison: P as it has arrived, or a mismatch where it has not, with M. A fault of the check path, or of the port die's measurement, changes
bits of its sum; `checkFault` is none where P has not arrived. -/
def compareTally (checkFault : Option (BitVec 32)) (portFault : BitVec 32) (loop : Bool) (s : State) : State :=
  if s.tallyEvaluated loop then
    let arrived := checkFault.isSome
    let sum := s.lease.sumP ^^^ checkFault.getD 0
    let measured := s.lease.sumM ^^^ portFault
    let bad := !arrived || sum != measured
    let shown := s.free
    let p := if arrived then sum.toNat else shown.1 % 4294967296
    let s := if arrived then s else shown.2
    let s := { s with
      lease.window := (bad :: s.lease.window).take 8
      lease.lastP := p, lease.lastM := measured.toNat, lease.lastFrame := s.frameNow - 1 }
    let s := if bad then s.count 0x5030 2 0 0 else s
    (if 3 ≤ s.lease.window.countP id then s.declareTally else s).watchEngines
  else s.count 0x5030 3 0 0

/-- TALLY_COMPARISON. -/
def execTallyComparison (checkFault : Option (BitVec 32)) (portFault : BitVec 32) (loopDone : Bool) (s : State) : Out :=
  run (compareTally checkFault portFault loopDone) s

/-! RENEWAL, CLAIM, LEASE_EXPIRY, ADMISSION (08 R212 to R215). -/

/-- The time of the lease has run out. -/
def State.expired (s : State) : Bool := s.lease.holder.isSome && decide (s.lease.renewedAt + s.lease.expiry * 1000000 < s.now)

/-- It ran out in an earlier cycle. -/
def State.overdue (s : State) : Bool := s.lease.holder.isSome && decide (s.lease.renewedAt + s.lease.expiry * 1000000 + 1 < s.now)

/-- A command that revokes the lease, if it acts now, other than by expiry (08 R214, R216). -/
def State.revokes (s : State) : Instr → Bool
  | .coreRailFault e => s.lease.holder == some e
  | .islandRailLoss e => s.lease.holder == some e
  | .linkFramingLoss e _ => s.lease.holder == some e
  | .tallyComparison c p l => s.lease.holder.isSome && (compareTally c p l s).lease.holder.isNone
  | .internalFrameBoundary o => match s.lease.holder with
    | some e =>
      let r := s.ended.readReport e o.upsets
      decide (16 ≤ r.tags) || !r.mapMany.isEmpty
    | none => false
  | _ => false

/-- Such a command waits: it belongs to the same cycle, and comes first (08 R214; log entry 161). -/
def State.triggered (s : State) : Bool := s.pending.any s.revokes

/-- A renewal that will be accepted waits in the same cycle: it comes before the expiry. -/
def State.renewalWaits (s : State) : Bool :=
  s.pending.any fun c => match c with | .renewal e n => s.lease.holder == some e && n == s.lease.epoch | _ => false

/-- A claim of A that qualifies comes in the same cycle, before one of B: it waits in the queue, or start-up has armed both engines and both claim
(08 R213; 16 Table 16-3 step 8). -/
def State.claimWaits (s : State) : Bool :=
  s.engA.state == .armed && (s.power.step == 8 || s.pending.any fun c => match c with | .claim e n => e == 0 && n == s.lease.epoch | _ => false)

/-- A refused renewal deposes its sender. In the cycle of a revocation the cause stays that of the revocation (08 R213, Table 8-3). -/
def State.depose (s : State) (e : EngId) (late : Bool) : State :=
  let x := s.engine e
  if s.lease.holder = some e then (if s.triggered then s else s.revoke 7)
  else if x.state = .holder then s.failEngine e 7
  else if x.state = .failed ∧ (late = true ∨ x.failedAt ≠ s.now) then s.recordFail e 7
  else s

/-- A renewal at the sluice. -/
def renew (e : EngId) (epoch : Nat) (s : State) : State :=
  if s.lease.holder = some e ∧ epoch = s.lease.epoch ∧ s.overdue = false ∧ s.triggered = false then
    ({ s with lease.renewedAt := s.now, lease.expiry := s.cfg 0x5000 1 0 }).tell e true
  else
    let late := s.overdue
    let s := if late then s.revoke 4 else s
    let s := s.count 0x5020 3 0 0
    let s := s.event 4 0x5020 1 0 s.leaseValue
    ((s.depose e late).tell e false).watchEngines

/-- RENEWAL. -/
def execRenewal (engine : EngId) (epoch : Nat) (s : State) : Out := run (renew engine epoch) s

/-- The lease lapses, unless a trigger or a renewal of the same cycle comes first (08 R214, Table 8-3). -/
def leaseLapse (s : State) : State :=
  if s.expired && !s.triggered && (s.overdue || !s.renewalWaits) then (s.revoke 4).watchEngines else s

/-- LEASE_EXPIRY. -/
def execLeaseExpiry (s : State) : Out := run leaseLapse s

/-- A grant: the claimer holds the lease of the next epoch, and another that is Armed goes back to Cold (08 R213, Table 8-2). -/
def State.grant (s : State) (e : EngId) : State :=
  let s := { s with
    lease.holder := some e, lease.epoch := nextEpoch s.lease.epoch, lease.admitted := false
    lease.grantAt := s.now, lease.renewedAt := s.now }
  let s := s.modEngine e fun x => { x with state := .holder, switching := false }
  let s := s.modEngine (otherEng e) fun x => if x.state = .armed then { x with state := .cold, switching := false } else x
  ((s.count 0x5020 2 0 0).tell e true).watchEngines

/-- A claim at the sluice; an expiry of the same cycle comes first. -/
def claimLease (e : EngId) (epoch : Nat) (s : State) : State :=
  let s := leaseLapse s
  if s.lease.holder = none ∧ epoch = s.lease.epoch ∧ (s.engine e).state = .armed ∧ (e = 0 ∨ s.claimWaits = false) then s.grant e
  else (s.count 0x5020 4 0 0).tell e false

/-- CLAIM. -/
def execClaim (engine : EngId) (epoch : Nat) (s : State) : Out := run (claimLease engine epoch) s

/-- The new holder's egress is admitted; after a revocation this is a takeover (08 R214, R230, Table 8-10; 06 Table 6-11). At an admission boundary
the ADMISSION comes before the command of the boundary; one that comes after it admits the next frame (01 R15; log entry 166). -/
def admitHolder (s : State) : State :=
  if s.lease.holder.isSome && !s.lease.admitted && s.over s.lease.grantAt 10000 then
    let took := s.lease.revokedAt
    let s := { s with
      lease.admitted := true, lease.window := [], lease.revokedAt := none
      lease.tallyTakeover := if took.isSome ∧ s.lease.revokeCause = 1 then some s.now else none }.freshSelectors
    let s := match took with
      | some t =>
        let s := { s with lease.lastTakeover := (s.now - t) / 1000 }.count 0x5020 5 0 0
        (s.event 1 0x5020 1 0 s.leaseValue).auditObj 0x5020 1 0
      | none => s
    let s := match s.edit.armed with
      | some a => if a.mode = 0 ∧ a.state = 4 then s.setTarget else s
      | none => s
    s.watchEngines
  else s

/-- ADMISSION. -/
def execAdmission (s : State) : Out := run admitHolder s

end Sys2Proof.Machine
end

