-- ==== Sys2Proof/Machine/Timing.lean ====
section
/-! DEFINITION. References, selection, governors, holdover, calibration, frame phase (09). -/

namespace Sys2Proof.Machine

/-! Quality levels (09 R235 to R237). -/

/-- The QL in use of a reference (09 R236). -/
def State.qlInUse (s : State) (r : Nat) : Nat :=
  let invalid : Bool := match s.refLane r with | some l => (s.lane l).oh.ssmInvalid | none => false
  if !s.refQual r || s.refLaneBad r || invalid then 0x10
  else if s.cfg 0x5420 5 r = 1 then s.cfg 0x5420 6 r
  else match s.refLane r with
    | some l =>
      let v := (s.lane l).oh.ssmAcc
      if qlAssigned (ssmOption s.persist.dict) v then v else 0x0F
    | none => 0x10

/-- QL-disabled mode (5400:02). -/
def State.qlOff (s : State) : Bool := s.cfg 0x5400 2 0 == 1

/-- A candidate: in C of R241. -/
def State.candidate (s : State) (r : Nat) : Bool :=
  let q := s.qlInUse r
  s.refQual r && (s.ref r).wtrSince.isNone && q != 0x10 && (s.qlOff || q != 0x0F)

/-- The key of a reference: its QL rank, left out in QL-disabled mode, and its priority. -/
def State.refKey (s : State) (r : Nat) : Nat × Nat :=
  (if s.qlOff then 0 else qlRank (ssmOption s.persist.dict) (s.qlInUse r), s.cfg 0x5420 4 r)

/-- A key comes before another. -/
def keyLt (a b : Nat × Nat) : Bool := decide (a.1 < b.1 ∨ (a.1 = b.1 ∧ a.2 < b.2))

/-- The references in C, and those of the smallest key. -/
def State.candidates (s : State) : List RefId := (List.finRange 8).filter fun r => s.candidate r
def State.bestKey (s : State) : List RefId :=
  let c : List RefId := s.candidates
  c.filter fun r => c.all fun q => !keyLt (s.refKey q) (s.refKey r)

/-- The rank of the best key. -/
def State.bestRank (s : State) : Nat := match s.bestKey with | r :: _ => (s.refKey r).1 | [] => 0

/-- Two references are in disagreement (09 R242). -/
def State.disagreeing (s : State) (a b : RefId) : Bool := s.tim.disagree.any fun p => p == (a, b) || p == (b, a)

/-- The choice within a key group (09 R241): by offset where two of it disagree and the OCXO is warm, else the lower element. -/
def State.tie (s : State) (b : List RefId) : Option RefId :=
  if s.tim.warm && b.any (fun x => b.any fun y => s.disagreeing x y) then
    b.foldl (fun best r =>
      match best with
      | none => some r
      | some m => if (s.ref r).offset.natAbs < (s.ref m).offset.natAbs then some r else some m) none
  else b.head?

/-- The manual command names a candidate of the best QL (09 R241, Table 9-6). -/
def State.manualHolds (s : State) (m : Nat) : Bool :=
  (s.candidates.any fun r => (r : Nat) == m) && (s.refKey m).1 == s.bestRank

/-- The reference that the fantail wants (09 R241). -/
def State.wantRef (s : State) : Option RefId :=
  let b : List RefId := s.bestKey
  if s.tim.cmd = 1 then (List.finRange 8).find? fun r => (r : Nat) == s.tim.cmdRef && s.refQual r
  else if b = [] ∨ s.tim.cmd = 3 ∨ s.tim.cmd = 4 then none
  else if s.tim.cmd = 2 ∧ s.manualHolds s.tim.cmdRef = true then (List.finRange 8).find? fun r => (r : Nat) == s.tim.cmdRef
  else match s.tim.selected with
    | some c =>
      if s.candidate c && (s.refKey c).1 == s.bestRank && (b.contains c || s.cfg 0x5400 3 0 != 1) then some c else s.tie b
    | none => s.tie b

/-! Governors (09 R246 to R248). -/

/-- Codes of governor states (09 Table 9-12). -/
def GovState.code : GovState → Nat
  | .freeRun => 0
  | .acquiring => 1
  | .locked => 2
  | .holdover => 3

/-- A governor, and a change of one. -/
def State.gov (s : State) (g : GovId) : Gov := if g = 0 then s.tim.sys else s.tim.time
def State.modGov (s : State) (g : GovId) (f : Gov → Gov) : State :=
  if g = 0 then { s with tim.sys := f s.tim.sys } else { s with tim.time := f s.tim.time }

/-- A governor enters a state. -/
def Gov.enter (x : Gov) (st : GovState) (ref now : Nat) : Gov :=
  { x with state := st, ref := ref, since := now, lockedFor := if x.state = .locked then now - x.since else x.lockedFor }

/-- Entries that lie before a cut-off, newest first. -/
def Gov.before (x : Gov) (cut : Nat) : List Int := ((x.history.zip x.minutes).filter fun e => decide (e.2 ≤ cut)).map Prod.fst

/-- The mean of some numbers. -/
def meanInt (l : List Int) : Int := if l.isEmpty then 0 else l.sum / l.length

/-- Without an input: Holdover on the history before one minute ago, or Free run with none or while the OCXO warms (09 R248, Table 9-8). -/
def State.loseGov (s : State) (g : GovId) : State :=
  let l := ((s.gov g).before (s.now - 60000000000)).take (s.cfg 0x5400 8 0)
  s.modGov g fun x =>
    if s.tim.warm && !l.isEmpty then { x.enter .holdover 255 s.now with holdFreq := meanInt l, pull := 0 }
    else { x.enter .freeRun 255 s.now with pull := 0 }

/-- A reference can be used: REF0 and REF1 show their edges, the lane of another has signal detect and block lock (09 R247). -/
def State.refLive (s : State) (r : Nat) : Bool :=
  if r < 2 then (s.ref r).active
  else match s.refLane r with
    | some l => (s.lane l).bring.sd && (s.lane l).df.blockLock
    | none => false

/-- The system governor uses its reference: it stops at the first missing edge, or with signal detect or block lock, before the fantail selects again
(09 R247). The time governor uses its time input. -/
def State.uses (s : State) (g : GovId) : Bool :=
  g != 0 || (match s.tim.selected with | some r => s.refLive r | none => false)

/-- What is left of the pull of a governor, ns: it goes down at the pull slope from the entry into Acquiring (09 R247). -/
def State.pullLeft (s : State) (x : Gov) : Int :=
  if x.state != .acquiring then 0
  else
    let done : Nat := (s.now - x.since) * s.cfg 0x5400 6 0 / 1000000000
    x.pull.sign * ((x.pull.natAbs - done : Nat) : Int)

/-- When the pull of a governor is complete, and its frequency lies within 10 ppb of the reference: with a slope of 10 ns/s or less it does from the
start (09 R246, R247). -/
def State.pulledAt (s : State) (x : Gov) : Nat :=
  let slope := s.cfg 0x5400 6 0
  if slope ≤ 10 then x.since else x.since + x.pull.natAbs * 1000000000 / slope

/-- Frequency of the system governor against the OCXO, 10^-12; never beyond 4.6 ppm. Free run is the calibrated frequency, and so is what a reference's
offset is measured against (09 R250, Tables 9-8, 9-9; log entry 164). -/
def State.sysFreq (s : State) : Int :=
  let x := s.tim.sys
  let f : Int := match x.state with
    | .freeRun => s.tim.calibration
    | .holdover => x.holdFreq
    | .acquiring | .locked => match s.tim.selected with
      | some r => s.tim.calibration + (s.ref r).offset + (s.pullLeft x).sign * (s.cfg 0x5400 6 0 * 1000 : Nat)
      | none => x.holdFreq
  max (-4600000) (min 4600000 f)

/-- The time governor's base is the output of the system governor (09 R245). -/
def State.baseOne (s : State) : Bool := s.cfg 0x5410 3 0 == 1

/-- Frequency of the time governor against the OCXO, 10^-12: its base, and on base 0 the correction by its time input. On base 1 that input corrects the
residual phase alone (09 R245, R248, R250; 10 R266). -/
def State.timeFreq (s : State) : Int :=
  let base : Int := if s.baseOne then s.sysFreq else s.tim.calibration
  match s.tim.time.state with
  | .freeRun => base
  | .holdover => s.tim.time.holdFreq
  | .acquiring | .locked => if s.baseOne then base else max (-4600000) (min 4600000 (base + s.tod.rate))

/-- What the correction of the residual phase adds to the counter in one nanosecond, in 10^-12 of 2^-16 ns: it goes on until the phase is gone, at a rate
that the spec leaves to the loop (09 R245; log entry 164). -/
def State.residualStep (s : State) : Int :=
  let most : Int := 65536 * s.tod.rate.natAbs
  if s.baseOne && (s.tim.time.state == .acquiring || s.tim.time.state == .locked) then max (-most) (min most s.tod.pull) else 0

/-- A sample, local time less source time, corrects the rate of the time governor, or on base 1 its residual phase: how fast, the spec leaves to its loop
(09 R245; 10 R266; log entry 164). -/
def State.correctRate (s : State) (x : Int) : State :=
  let v := s.free
  { v.2 with tod.rate := (v.1 % 9200001 : Nat) - 4600000, tod.pull := -x * 1000000000000 }

/-- Half a period of a reference, ns (09 R247). -/
def State.halfPeriod (s : State) (r : Nat) : Nat :=
  if 2 ≤ r then 0
  else match s.cfg 0x5420 3 r with
    | 1 => 324
    | 2 => 244
    | 3 => 100
    | 5 => 20
    | _ => 50

/-- Follow the timing conditions of 09 Table 9-10 and 10 Table 10-5. -/
def State.watchTiming (s : State) : State :=
  let st := s.tim.sys.state
  let s := s.noteCond .freeRun (s.portUp && st == .freeRun && s.tim.warm)
  let s := s.noteCond .holdover (st == .holdover)
  let s := s.noteCond .holdoverLong (st == .holdover)
  let s := s.noteCond .disagreement (!s.tim.disagree.isEmpty)
  let set := s.cfg 0x5800 1 0 != 0
  let s := s.noteCond .tjr s.tod.tjr
  let s := s.noteCond .timeHoldover (set && s.tod.state == .holdover)
  s.noteCond .timeUnset (s.portUp && set && s.tod.state == .unset)

/-- The run of Locked time to a reference of rank 1 (09 R250). -/
def State.watchRank (s : State) : State :=
  let one := s.tim.sys.state == .locked && (match s.tim.selected with | some r => qlRank (ssmOption s.persist.dict) (s.qlInUse r) == 1 | none => false)
  { s with tim.rankOne := if one then some (s.tim.rankOne.getD s.now) else none }

/-- The fantail selects, and the system governor follows (09 R241, R246, R247). -/
def State.selectRef (s : State) : State :=
  if !s.portUp then s
  else
    let s := s.evalRefs
    let s := if s.tim.cmd = 2 ∧ s.manualHolds s.tim.cmdRef = false then { s with tim.cmd := 0, tim.cmdRef := 0 } else s
    let want : Option RefId := s.wantRef
    let old := s.tim.selected
    let s : State := { s with tim.selected := want }
    let s : State :=
      match want with
      | some r =>
        if old = want then s
        else
          let half := s.halfPeriod r
          let v := s.free
          v.2.modGov 0 fun x => { x.enter .acquiring r s.now with pull := (v.1 % (2 * half + 1) : Nat) - (half : Int) }
      | none =>
        if s.tim.cmd = 4 then (if s.tim.sys.state = .freeRun then s else s.modGov 0 fun x => { x.enter .freeRun 255 s.now with pull := 0 })
        else if s.tim.sys.state = .holdover then s
        else if s.tim.sys.state = .freeRun ∧ s.tim.cmd ≠ 3 then s
        else if s.tim.sys.state = .freeRun ∧ ((s.tim.sys.before (s.now - 60000000000)).isEmpty || !s.tim.warm) = true then s
        else s.loseGov 0
    let s := if old = want then s
      else (s.count 0x5440 5 0 0).event 1 0x5440 1 0 (beBytes 1 (match want with | some r => (r : Nat) | none => 255))
    s.watchRank.watchTiming

/-- REFERENCE_SELECTION. -/
def execReferenceSelection (s : State) : Out := run State.selectRef s

/-- The QL of the last three rows of Table 9-3 (5440:06). -/
def State.qlSent (s : State) : Nat :=
  match s.tim.sys.state, s.tim.selected with
  | .locked, some r => s.qlInUse r
  | .freeRun, _ => if s.tim.warm then s.cfg 0x5400 7 0 else 0x0F
  | _, _ => s.cfg 0x5400 7 0

/-- The QL that a lane sends (09 R237): the port of the reference's lane is told not to use it. -/
def State.qlOfLane (s : State) (l : Nat) : Nat :=
  let back := (s.tim.sys.state == .acquiring || s.tim.sys.state == .locked)
    && (match s.tim.selected with | some r => (match s.refLane r with | some k => s.portOf k == s.portOf l | none => false) | none => false)
  if back then 0x0F else if s.qlSent = 0x10 then 0x0F else s.qlSent

/-- The frequency code on CLKOUT0 or CLKOUT1; 0 while it is off or squelched (09 R255). -/
def State.clkOut (s : State) (i : Nat) : Nat :=
  let opt := ssmOption s.persist.dict
  if !s.portUp || decide (qlRank opt (s.cfg 0x5470 2 i) < qlRank opt s.qlSent) || (s.cfg 0x5470 3 i == 1 && s.tim.sys.state != .locked) then 0
  else s.cfg 0x5470 1 i

/-! Monitors (09 R238 to R240). -/

/-- REFERENCE_EDGE_MISSING: REF0 or REF1 misses its edges; the governor stops using it (09 R247). -/
def edgeMissing (r : RefId) (s : State) : State :=
  if r < 2 then (s.modRef r fun x => { x with active := false, actLost := true }).evalRef r else s

/-- REFERENCE_EDGE_MISSING. -/
def execReferenceEdgeMissing (ref : RefId) (s : State) : Out := run (edgeMissing ref) s

/-- Edges have been present for 1 s without a gap (09 Table 9-4). -/
def activityBack (r : RefId) (s : State) : State :=
  if r < 2 ∧ s.portUp = true then (s.modRef r fun x => { x with active := true, actLost := false }).evalRef r else s

/-- REFERENCE_ACTIVITY_RESTORED. -/
def execReferenceActivityRestored (ref : RefId) (s : State) : Out := run (activityBack ref) s

/-- One more result of a run, or none. -/
def runOf (b : Bool) (n limit : Nat) : Nat := if b then min limit (n + 1) else 0

/-- The key of a pair of references. -/
def pairKey (a b : RefId) : Nat := if a < b then 8 * (a : Nat) + b else 8 * (b : Nat) + a

/-- Two references compared after a measurement (09 R242). -/
def State.comparePair (s : State) (a b : RefId) : State :=
  let limit := s.cfg 0x5400 5 0 * 1000
  let far := decide (limit < ((s.ref a).offset - (s.ref b).offset).natAbs)
  let k := pairKey a b
  let on := s.refQual a && s.refQual b
  let since (t : Tab Nat) (go : Bool) : Tab Nat := if go then (if tget 0 t k = 0 then tput 0 t k (s.now + 1) else t) else tput 0 t k 0
  { s with tim.apart := since s.tim.apart (on && far), tim.near := since s.tim.near (on && !far) }

/-- A frequency result (09 R238, R240): the runs at the hard and soft limits, and what ends them; while the OCXO warms the hard limit requalifies nothing. -/
def freqResult (r : RefId) (offset : Int) (s : State) : State :=
  if !s.portUp then s
  else
    let s := s.modRef r fun x =>
      let x := { x with
        offset := offset
        hardBad := runOf (decide (4600000 < offset.natAbs)) x.hardBad 100
        hardGood := runOf (decide (offset.natAbs ≤ 4600000)) x.hardGood 100
        softBad := runOf (decide (1000000 < offset.natAbs)) x.softBad 100
        softGood := runOf (decide (offset.natAbs ≤ 800000)) x.softGood 100 }
      { x with hardDis := x.hardDis && (x.hardGood != 100 || !s.tim.warm), softFlag := x.softFlag && x.softGood != 100 }
    let s := s.each ((List.finRange 8).filter fun q => q != r) fun q s => s.comparePair r q
    s.evalRef r

/-- FREQUENCY_MEASUREMENT. -/
def execFrequencyMeasurement (ref : RefId) (offset : Int) (s : State) : Out := run (freqResult ref offset) s

/-- The system governor follows a reference. -/
def State.following (s : State) (r : RefId) : Bool :=
  s.tim.selected == some r && (s.tim.sys.state == .acquiring || s.tim.sys.state == .locked)

/-- Every entry of the system governor that covers any part of the last 10 minutes is deleted (09 R248). -/
def State.cutHistory (s : State) : State :=
  s.modGov 0 fun x =>
    let kept := (x.history.zip x.minutes).filter fun e => decide (e.2 + 600000000000 ≤ s.now)
    { x with history := kept.map Prod.fst, minutes := kept.map Prod.snd }

/-- The followed reference is disqualified at the soft limit as 5400:09 is set while its flag stands (09 R238, R248). -/
def State.softStops (s : State) : State :=
  match s.tim.selected with
  | some r => if s.following r && (s.ref r).qual && (s.ref r).softFlag && s.tim.warm && s.cfg 0x5400 9 0 == 1 then s.cutHistory else s
  | none => s

/-- 100 results beyond the hard limit (09 R238, R248). -/
def hardLimit (r : RefId) (s : State) : State :=
  if s.tim.warm && (s.ref r).hardBad == 100 && !(s.ref r).hardDis then
    let s := if s.following r then s.cutHistory else s
    (s.modRef r fun x => { x with hardDis := true, hardGood := 0 }).evalRef r
  else s

/-- HARD_LIMIT_EXCEEDED. -/
def execHardLimitExceeded (ref : RefId) (s : State) : Out := run (hardLimit ref) s

/-- Reasons of a reference (09 Table 9-5). -/
def State.refReasons (s : State) (r : Nat) : Nat :=
  let x := s.ref r
  let q := s.qlInUse r
  flagsWord [!s.refOn r, s.refIdle r, s.refLaneBad r, x.hardDis, x.softFlag, x.wtrSince.isSome, x.noLock, q == 0x10, q == 0x0F, !s.tim.warm]

/-- What is left of a duration that began at a time, in units of `per`, rounded up. -/
def State.remaining (s : State) (since : Option Nat) (dur per : Nat) : Nat :=
  match since with
  | some t => (t + dur - s.now + per - 1) / per
  | none => 0

/-- The fields of 5430:01. -/
def State.refStatus (s : State) (r : Nat) : List Nat :=
  [b2n (s.refQual r), b2n (s.candidate r), s.qlInUse r, unsigned 32 (s.ref r).offset,
    s.remaining (s.ref r).wtrSince (secs (60 * s.cfg 0x5400 4 0)) 1000000000, s.refReasons r]

/-- The soft-limit flag is raised, with an event (09 R238, R256). -/
def softLimit (r : RefId) (s : State) : State :=
  if (s.ref r).softBad == 100 && !(s.ref r).softFlag then
    let stops := s.tim.warm && s.cfg 0x5400 9 0 == 1
    let s := if stops && s.following r then s.cutHistory else s
    let s := (s.modRef r fun x => { x with softFlag := true, softGood := 0 }).evalRef r
    s.event 1 0x5430 1 r (joinFields [1, 1, 1, 4, 2, 2] (s.refStatus r))
  else s

/-- SOFT_LIMIT_FLAG. -/
def execSoftLimitFlag (ref : RefId) (s : State) : Out := run (softLimit ref) s

/-- The wait-to-restore of a reference ends; one disqualified for no lock requalifies (09 R239, Table 9-4). -/
def refWtrEnd (r : RefId) (s : State) : State :=
  match (s.ref r).wtrSince with
  | some t =>
    if s.over t (secs (60 * s.cfg 0x5400 4 0)) then
      let s := s.modRef r fun x => { x with wtrSince := none, noLock := false }
      let s := if s.refQual r then s.modRef r fun x => { x with qual := true } else s
      s.evalRef r
    else s
  | none => s

/-- REFERENCE_WTR_EXPIRY. -/
def execReferenceWtrExpiry (ref : RefId) (s : State) : Out := run (refWtrEnd ref) s

/-! Disagreement (09 R242). -/

/-- Two members of one key group have differed for 10 s. -/
def disagreeSet (a b : RefId) (s : State) : State :=
  let t := tget 0 s.tim.apart (pairKey a b)
  if a ≠ b ∧ t ≠ 0 ∧ s.over (t - 1) (secs 10) = true ∧ s.disagreeing a b = false
      ∧ (s.candidate a && s.candidate b && s.refKey a == s.refKey b) = true then
    { s with tim.disagree := s.tim.disagree ++ [(a, b)] }.watchTiming
  else s

/-- DISAGREEMENT_SET. -/
def execDisagreementSet (a b : RefId) (s : State) : Out := run (disagreeSet a b) s

/-- Two references have agreed for 60 s. -/
def disagreeClear (a b : RefId) (s : State) : State :=
  let t := tget 0 s.tim.near (pairKey a b)
  if t ≠ 0 ∧ s.over (t - 1) (secs 60) = true then
    { s with tim.disagree := s.tim.disagree.filter fun p => !(p == (a, b) || p == (b, a)) }.watchTiming
  else s

/-- DISAGREEMENT_CLEARED. -/
def execDisagreementCleared (a b : RefId) (s : State) : Out := run (disagreeClear a b) s

/-! Selection commands (09 R243). -/

/-- The write of 5400:0A. -/
def effSelect (_ : Session) (vs : List Nat) (s : State) : Act :=
  let c := vs.headD 0
  let r := vs.getD 1 0
  let keep := { s with tim.cmd := c, tim.cmdRef := if c = 1 ∨ c = 2 then r else 0 }
  if 4 < c ∨ ((c = 1 ∨ c = 2) ∧ 7 < r) then .refuse (refusal stRange)
  else if c = 1 ∧ s.cfg 0x5420 1 r ≠ 1 then .refuse (naming stState 0x5430 1 r)
  else if c = 2 ∧ s.manualHolds r = false then .refuse (naming stState 0x5430 1 r)
  else ok keep.selectRef

/-- The two bytes of a selection command. -/
def selBytes (c r : Nat) : Bytes := beBytes 1 c ++ beBytes 1 r

/-- SELECT_CLEAR. -/
def execSelectClear (rq : Rq) (ref : Nat) (s : State) : Out := run (writeOf rq 0x5400 0x0A 0 (selBytes 0 ref) effSelect) s

/-- SELECT_FORCED. -/
def execSelectForced (rq : Rq) (ref : Nat) (s : State) : Out := run (writeOf rq 0x5400 0x0A 0 (selBytes 1 ref) effSelect) s

/-- SELECT_MANUAL. -/
def execSelectManual (rq : Rq) (ref : Nat) (s : State) : Out := run (writeOf rq 0x5400 0x0A 0 (selBytes 2 ref) effSelect) s

/-- SELECT_HOLDOVER. -/
def execSelectHoldover (rq : Rq) (ref : Nat) (s : State) : Out := run (writeOf rq 0x5400 0x0A 0 (selBytes 3 ref) effSelect) s

/-- SELECT_FREE_RUN. -/
def execSelectFreeRun (rq : Rq) (ref : Nat) (s : State) : Out := run (writeOf rq 0x5400 0x0A 0 (selBytes 4 ref) effSelect) s

/-! GOVERNOR_LOCKED, NO_LOCK_TIMEOUT, HISTORY_ENTRY (09 R246, R248). -/

/-- A governor has pulled in, and held within 10 ppb for 10 s; the time governor locks with its time state (10 Table 10-3). -/
def govLocked (g : GovId) (s : State) : State :=
  let x := s.gov g
  if x.state = .acquiring ∧ s.over (s.pulledAt x) (secs 10) = true ∧ s.pullLeft x = 0 ∧ s.uses g = true ∧ (g = 0 ∨ s.tod.state = .locked) then
    (s.modGov g fun x => { x.enter .locked x.ref s.now with pull := 0 }).watchRank.watchTiming
  else s

/-- GOVERNOR_LOCKED. -/
def execGovernorLocked (gov : GovId) (s : State) : Out := run (govLocked gov) s

/-- Not Locked 10 min after Acquiring was entered: the reference is disqualified for no lock (09 Table 9-8). -/
def noLock (s : State) : State :=
  match s.tim.sys.state, s.tim.selected with
  | .acquiring, some r =>
    if s.over s.tim.sys.since (secs 600) then
      let s := (s.modRef r fun x => { x with noLock := true }).evalRef r
      (s.modRef r fun x => { x with wtrSince := some s.now }).selectRef
    else s
  | _, _ => s

/-- NO_LOCK_TIMEOUT. -/
def execNoLockTimeout (s : State) : Out := run noLock s

/-- A whole minute Locked has passed: its mean frequency joins the history (09 R248). -/
def historyMinute (g : GovId) (mean : Int) (s : State) : State :=
  let x := s.gov g
  let start := match x.minutes with | m :: _ => max m x.since | [] => x.since
  if x.state = .locked ∧ s.over start (secs 60) = true ∧ s.uses g = true then
    s.modGov g fun x => { x with history := (mean :: x.history).take 1440, minutes := (s.now :: x.minutes).take 1440 }
  else s

/-- HISTORY_ENTRY. -/
def execHistoryEntry (gov : GovId) (mean : Int) (s : State) : Out := run (historyMinute gov mean) s

/-! OCXO (09 R250, R251). -/

/-- The fields of 5450:01. -/
def State.ocxoStatus (s : State) : List Nat :=
  [b2n s.tim.warm, if s.tim.warm then 0 else s.remaining s.tim.ocxoOn (secs 600) 1000000000, unsigned 32 s.tim.calibration,
    (s.now - s.tim.calibratedAt) / 3600000000000]

/-- 24 h Locked without a break to a reference of rank 1: the calibration offset is replaced, in flash too (09 R250). -/
def calibrate (mean : Int) (s : State) : State :=
  let s := s.watchRank
  match s.tim.rankOne with
  | some t => if s.over (max t s.tim.calibratedAt) (secs 86400) then { s with tim.calibration := mean, tim.calibratedAt := s.now } else s
  | none => s

/-- CALIBRATION_UPDATE. -/
def execCalibrationUpdate (mean : Int) (s : State) : Out := run (calibrate mean) s

/-- Ten minutes after its supply became good, the OCXO is warm. -/
def ocxoWarm (s : State) : State :=
  match s.tim.ocxoOn with
  | some t =>
    if !s.tim.warm && s.over t (secs 600) then
      let s := { s with tim.warm := true }.softStops.evalRefs
      (s.event 1 0x5450 1 0 (joinFields [1, 2, 4, 4] s.ocxoStatus)).watchTiming
    else s
  | none => s

/-- OCXO_WARM. -/
def execOcxoWarm (s : State) : Out := run ocxoWarm s

/-! SSM_OPTION_WRITE (09 R235). -/

/-- An object goes back to its default, and counts as staged. -/
def State.toDefault (s : State) (index sub el : Nat) : State :=
  s.setStaged index sub el (objDefault (ssmOption s.persist.dict) index sub el)

/-- The write of 5400:01. -/
def effSsmOption (_ : Session) (vs : List Nat) (s : State) : Act :=
  let s := (s.setStaged 0x5400 1 0 vs).toDefault 0x5400 7 0
  let s := s.each (List.range 8) fun r s => s.toDefault 0x5420 6 r
  ok (s.each (List.range 2) fun i s => s.toDefault 0x5470 2 i).evalRefs

/-- SSM_OPTION_WRITE. -/
def execSsmOptionWrite (rq : Rq) (option : Nat) (s : State) : Out := run (writeOf rq 0x5400 1 0 (u8 option) effSsmOption) s

/-! Frame phase (09 R253, R254). -/

/-- The first even TAI second at least 20 ms after a time-counter value. -/
def evenAfter (counter : Nat) : Nat := (counter + 20000000 * 65536 + 2 * tcSecond - 1) / (2 * tcSecond) * 2

/-- The time-counter value at which an armed activation executes. -/
def State.targetTime (s : State) (a : Armed) : Option Int :=
  a.target.map fun c => (s.tod.counter : Int) + s.untilBoundary c * 65536

/-- The second at which a realignment commanded now takes place: not inside the commit window of an armed activation, but after its target (09 R254). -/
def State.realignSecond (s : State) : Nat :=
  let t := evenAfter s.tod.counter
  match s.edit.armed with
  | some a =>
    match s.targetTime a with
    | some at' =>
      if at' - 1000000 * 65536 ≤ (t * tcSecond : Nat) ∧ ((t * tcSecond : Nat) : Int) ≤ at' then evenAfter at'.toNat else t
    | none => t
  | none => t

/-- The write of 5460:03: an armed activation of mode 1 or 2 before its commit point is cancelled (06 Table 6-11). -/
def effRealign (_ : Session) (_ : List Nat) (s : State) : Act :=
  if !s.tod.ever || s.tod.tjr then .refuse (naming stState 0x5820 2 0)
  else if s.tim.realignAt.isSome then .refuse (refusal stState)
  else
    let t := s.realignSecond
    let s := match s.edit.armed with
      | some a => if a.mode ≠ 0 ∧ a.state < 4 then s.cancelArmed stState 0x27 else s
      | none => s
    ok { s with tim.realignAt := some t }

/-- REALIGN_FRAME_PHASE. -/
def execRealignFramePhase (rq : Rq) (arg : Byte) (s : State) : Out := run (writeOf rq 0x5460 3 0 [arg] effRealign) s

/-- The frame phase becomes aligned, or stops being so: an event where that is a change (09 R253). -/
def State.setAligned (s : State) (b : Bool) : State :=
  if s.tim.aligned == b then s
  else { s with tim.aligned := b, tim.outRun := 0 }.event 1 0x5460 1 0 (beBytes 1 (b2n b))

/-- Every pending key is cancelled, with one security event that lists the slots (11 R297). -/
def State.cancelPending (s : State) : State :=
  let slots := (s.sealing.slots.filter fun e => e.2.pend.isSome).map Prod.fst
  if slots.isEmpty then s
  else
    let s := { s with sealing.slots := tmap {} s.sealing.slots fun _ x => { x with pend := none, switchAt := 0 } }
    s.event 2 0x5C10 3 0 (slots.flatMap (beBytes 2))

/-- Alignment is lost after 16 frames beyond 1,000 ns: the numbering is that of the port die's own frame sequence from here on (09 R253, 06 R170, 11 R297). -/
def alignmentLost (s : State) : State :=
  if s.tim.aligned && decide (16 ≤ s.tim.outRun) then { (s.setAligned false) with fab.superframe := s.fab.localN }.cancelPending else s

/-- FRAME_PHASE_ALIGNMENT_LOST. -/
def execFramePhaseAlignmentLost (s : State) : Out := run alignmentLost s

end Sys2Proof.Machine
end

