-- ==== Sys2Proof/Machine/Time.lean ====
section
/-! DEFINITION. Time of day: the counter's steps, samples and time states, 1PPS and ToD, PTP messages, triggers (10). -/

namespace Sys2Proof.Machine

/-! Triggers (10 R260, R271 to R273). -/

/-- A trigger output. -/
def State.trig (s : State) (t : Nat) : Trig := tget {} s.tod.trigs t
def State.modTrig (s : State) (t : Nat) (f : Trig → Trig) : State := { s with tod.trigs := tmod {} s.tod.trigs t f }

/-- The short time of a counter value, in 2^-16 ns: the nanosecond count wraps at 2^48 (10 R260). -/
def shortTime (c : Nat) : Nat := c % 18446744073709551616

/-- The signed distance from one short time to another (10 R260). -/
def ahead (now target : Nat) : Int := signed 64 ((target + 18446744073709551616 - now % 18446744073709551616) % 18446744073709551616)

/-- The distance from the counter to a trigger's target. -/
def State.trigAhead (s : State) (t : Nat) : Int := ahead (shortTime s.tod.counter) (s.trig t).target

/-- The value of 5840:03. -/
def State.trigFields (s : State) (t : Nat) : List Nat :=
  let x := s.trig t
  [b2n x.armed, if x.armed then x.target / 65536 else 0, s.ctr 0x5840 3 3 t, s.ctr 0x5840 3 4 t, x.lastEdge]
def State.trigValue (s : State) (t : Nat) : Bytes := joinFields [1, 8, 4, 4, 8] (s.trigFields t)

/-- The event of a late firing, of a skip or of a cancellation (10 R273). -/
def State.trigEvent (s : State) (t : Nat) : State := s.event 1 0x5840 3 t (s.trigValue t)

/-- How many further targets of a periodic trigger have d of 0 or less. -/
def skipsOf (d : Int) (period : Nat) : Nat := if 0 < d then 0 else d.natAbs / period + 1

/-- A trigger whose target is reached fires (10 R272). -/
def fireTrigger (t : TrigId) (s : State) : State :=
  let x := s.trig t
  if x.armed && decide (s.trigAhead t ≤ 0) && s.portUp then
    let s := (s.count 0x5840 3 3 t).emit (.trigRise t)
    let s := s.modTrig t fun x => { x with
      high := true, highEnd := s.now + x.width, lastEdge := shortTime s.tod.counter / 65536, overtaken := false }
    let s := if x.overtaken then s.trigEvent t else s
    if !x.periodic || x.left == 1 then s.modTrig t fun x => { x with armed := false, left := 0 }
    else
      let next := shortTime (x.target + x.period)
      let n := skipsOf (ahead (shortTime s.tod.counter) next) x.period
      let s := s.modTrig t fun x => { x with target := shortTime (next + n * x.period), left := x.left - 1 }
      s.each (List.range n) fun _ s => (s.count 0x5840 3 4 t).trigEvent t
  else s

/-- TRIGGER_FIRE. -/
def execTriggerFire (trig : TrigId) (s : State) : Out := run (fireTrigger trig) s

/-- A pulse has lasted its width. -/
def pulseEnd (t : TrigId) (s : State) : State :=
  let x := s.trig t
  if x.high && decide (x.highEnd ≤ s.now) then (s.modTrig t fun x => { x with high := false }).emit (.trigFall t) else s

/-- TRIGGER_PULSE_END. -/
def execTriggerPulseEnd (trig : TrigId) (s : State) : Out := run (pulseEnd trig) s

/-- The fields of an arm record lie in their ranges (10 Table 10-4). -/
def trigOk (mode target period width count : Nat) : Bool :=
  decide (target % 4294967296 ≤ 999999999 ∧ 10 ≤ width ∧ width ≤ 1000000000)
    && (if mode = 1 then period == 0 && count == 0
        else decide (mode = 2 ∧ 1000 * 65536 ≤ period ∧ period ≤ 140737488355328 * 65536 ∧ (width + 10) * 65536 ≤ period))

/-- The write of 5840:01 (10 R271). -/
def effArmTrigger (t : Nat) (_ : Session) (vs : List Nat) (s : State) : Act :=
  let mode := vs.headD 0
  let target := vs.getD 1 0
  let period := vs.getD 2 0
  let lead : Int := (fromTime80 target : Int) - s.tod.counter
  if (s.trig t).armed || decide (lead < 10000 * 65536) then .refuse (refusal stState)
  else if !trigOk mode target period (vs.getD 3 0) (vs.getD 4 0) || decide (140737488355328 * 65536 ≤ lead) then .refuse (refusal stRange)
  else ok (s.modTrig t fun x => { x with
    armed := true, periodic := mode == 2, target := shortTime (fromTime80 target), period := period, width := vs.getD 3 0
    left := vs.getD 4 0, overtaken := false })

/-- The bytes of an arm record. -/
def trigBytes (mode : Nat) (r : TrigRec) : Bytes :=
  beBytes 1 mode ++ beBytes 6 r.seconds ++ beBytes 4 r.nanoseconds ++ beBytes 8 r.period ++ beBytes 4 r.width ++ beBytes 4 r.count

/-- ARM_ONE_SHOT. -/
def execArmOneShot (rq : Rq) (trig : Nat) (r : TrigRec) (s : State) : Out :=
  run (writeOf rq 0x5840 1 trig (trigBytes 1 r) (effArmTrigger trig)) s

/-- ARM_PERIODIC. -/
def execArmPeriodic (rq : Rq) (trig : Nat) (r : TrigRec) (s : State) : Out :=
  run (writeOf rq 0x5840 1 trig (trigBytes 2 r) (effArmTrigger trig)) s

/-- The write of 5840:02: a pulse already high completes its width. -/
def effDisarm (t : Nat) (_ : Session) (_ : List Nat) (s : State) : Act := ok (s.modTrig t fun x => { x with armed := false })

/-- DISARM_TRIGGER. -/
def execDisarmTrigger (rq : Rq) (trig : Nat) (arg : Byte) (s : State) : Out := run (writeOf rq 0x5840 2 trig [arg] (effDisarm trig)) s

/-! Steps of the counter (10 R268, R273). -/

/-- Move the counter, and the snapshot of the last boundary with it. -/
def State.moveTime (s : State) (d : Int) : State :=
  let mv (c : Nat) : Nat := (((c : Int) + d) % ((281474976710656 * tcSecond : Nat) : Int)).toNat
  { s with tod.counter := mv s.tod.counter, fab.boundaryAt := mv s.fab.boundaryAt }

/-- The fields of 5820:03. -/
def State.stepFields (s : State) : List Nat :=
  [unsigned 64 s.tod.lastStep, s.tod.lastStepAt, s.tod.stepKind, s.ctr 0x5820 3 4 0]

/-- A step by d, in 2^-16 ns; kind 0 is the first, 1 a permitted one. -/
def State.stepTime (s : State) (d : Int) (kind : Nat) : State :=
  let old := shortTime s.tod.counter
  let armed : List Nat := (s.tod.trigs.filter fun e => e.2.armed).map Prod.fst
  let s := (s.moveTime d).markBins 9
  let s := { s with
    tod.stepTotal := s.tod.stepTotal + d, tod.lastStep := d / 65536, tod.stepKind := kind, tod.lastStepAt := time80 s.tod.counter }
  let s := s.count 0x5820 3 4 0
  let s := (s.event 1 0x5820 3 0 (joinFields [8, 10, 1, 4] s.stepFields)).auditObj 0x5820 3 0
  if kind = 0 ∨ 140737488355328 * 65536 ≤ d.natAbs then
    s.each armed fun t s => (s.modTrig t fun x => { x with armed := false }).trigEvent t
  else
    s.each armed fun t s => s.modTrig t fun x =>
      { x with overtaken := x.overtaken || (decide (0 < ahead old x.target) && decide (ahead (shortTime s.tod.counter) x.target ≤ 0)) }

/-! Samples and time states (10 R265 to R267). -/

/-- Put a number into ascending order, and the median: of an even count, the mean of the middle two. -/
def insInt (x : Int) : List Int → List Int
  | [] => [x]
  | y :: ys => if x ≤ y then x :: y :: ys else y :: insInt x ys
def median (l : List Int) : Int :=
  let q := l.foldr insInt []
  let n := q.length
  if n % 2 = 1 then q.getD (n / 2) 0 else (q.getD (n / 2 - 1) 0 + q.getD (n / 2) 0) / 2

/-- Codes of the time states (10 Table 10-6). -/
def TimeState.code : TimeState → Nat
  | .unset => 0
  | .acquiring => 1
  | .locked => 2
  | .holdover => 3

/-- The time source (5800:01). -/
def State.timeSource (s : State) : Nat := s.cfg 0x5800 1 0

/-- Samples that qualify a source (10 R265). -/
def State.qualifyN (s : State) : Nat := if s.timeSource = 1 then 8 else 4

/-- The time state becomes Acquiring, with the time governor. -/
def State.timeAcquire (s : State) : State :=
  ({ s with tod.state := .acquiring, tod.tjr := false, tod.permit := 0, tod.permitSamples := [], tod.within := 0, tod.outliers := 0 }.modGov 1
    fun x => x.enter .acquiring 255 s.now).watchTiming

/-- The time state becomes Holdover, with the time governor on its own history. -/
def State.timeHold (s : State) : State :=
  ({ s with tod.state := .holdover, tod.within := 0, tod.outliers := 0, tod.slewing := false, tod.slewLeft := 0 }.loseGov 1).watchTiming

/-- TJR is raised; an armed activation of mode 2 before its commit point is cancelled (10 R266, 06 Table 6-11). -/
def State.raiseTjr (s : State) : State :=
  let s := { s with tod.tjr := true }
  let s := if s.tod.state = .holdover then { s with tod.within := 0, tod.outliers := 0 }.watchTiming else s.timeHold
  match s.edit.armed with
  | some a => if a.mode = 2 ∧ a.state < 4 then s.cancelArmed stState 0x22 else s
  | none => s

/-- The permitted step, or slew, at the fourth sample (10 R267). -/
def State.applyPermit (s : State) (m : Int) : State :=
  let kind := s.tod.permit
  let s := s.timeAcquire
  if kind = 1 then s.stepTime (-m) 1
  else { s with tod.slewing := true, tod.slewLeft := m, tod.slewFrac := 0 }

/-- A sample while Acquiring or Locked. An outlier is not applied, and not counted while a slew runs (10 R266, R267). -/
def State.sampleRunning (s : State) (x : Int) (outlier : Bool) : State :=
  if outlier && s.tod.slewing then { s with tod.within := 0 }
  else if outlier then
    let s := s.count 0x5820 6 2 0
    let s := { s with tod.outliers := s.tod.outliers + 1, tod.within := 0 }
    if 4 ≤ s.tod.outliers then s.raiseTjr else s
  else
    let w := runOf (decide (x.natAbs ≤ 100 * 65536)) s.tod.within 16
    let s := { s with tod.outliers := 0, tod.within := w }.correctRate x
    if s.tod.state = .acquiring ∧ w = 16 then
      ({ s with tod.state := .locked, tod.ever := true }.modGov 1 fun x => x.enter .locked 255 s.now).watchTiming
    else s

/-- A sample in Holdover: permission, or 16 within the threshold, end a TJR; without one, a source that qualifies does or raises one. -/
def State.sampleHold (s : State) (x : Int) (outlier newly : Bool) (m : Int) (limit : Nat) : State :=
  if s.tod.tjr then
    let ps := if s.tod.permit = 0 then [] else x :: s.tod.permitSamples
    let s := { s with tod.permitSamples := ps, tod.within := runOf (!outlier) s.tod.within 16 }
    if 4 ≤ ps.length then s.applyPermit (median ps)
    else if s.tod.within = 16 then s.timeAcquire
    else s
  else if newly then (if m.natAbs ≤ limit then s.timeAcquire.correctRate m else s.raiseTjr)
  else s

/-- A sample: local time minus source time, in 2^-16 ns. -/
def State.takeSample (s : State) (x : Int) : State :=
  let limit := s.cfg 0x5800 2 0 * 65536
  let outlier := decide (limit < x.natAbs)
  let s := s.count 0x5820 6 1 0
  let s := { s with tod.lastSample := x, tod.lastSampleAt := s.now, tod.run := (x :: s.tod.run).take 8 }
  let newly := !s.tod.qualified && decide (s.qualifyN ≤ s.tod.run.length)
  let m := median (s.tod.run.take s.qualifyN)
  let s := { s with tod.qualified := s.tod.qualified || newly }
  match s.tod.state with
  | .unset => if newly then (s.timeAcquire).stepTime (-m) 0 else s
  | .holdover => s.sampleHold x outlier newly m limit
  | _ => s.sampleRunning x outlier

/-- The run of samples is broken. -/
def State.breakRun (s : State) : State := { s with tod.run := [], tod.within := 0, tod.outliers := 0 }

/-- The present source is lost (10 R265, R266). -/
def State.loseSource (s : State) : State :=
  let st := s.tod.state
  let s := { s.breakRun with tod.qualified := false, tod.prevEdge := none, tod.syncSeq := none, tod.syncOk := false }
  if st = .acquiring ∨ st = .locked then s.timeHold else s

/-- The PTP source lane. -/
def State.ptpLane (s : State) : Option Nat :=
  let l := s.cfg 0x5810 1 0
  if 48 ≤ l then none else some l

/-- An announce interval of 2^k s, in ns. -/
def logSeconds (k : Int) : Nat := if 0 ≤ k then 1000000000 * 2 ^ k.toNat else 1000000000 / 2 ^ (-k).toNat

/-- The selected foreign master. -/
def State.masterOf (s : State) : Option Foreign := s.tod.master.bind fun m => s.tod.foreign.find? fun f => f.ident == m

/-- A condition of R265 under which the source is lost holds. -/
def State.sourceGone (s : State) : Bool :=
  if s.timeSource = 1 then
    (match s.ptpLane with | some l => !s.enabled l || s.laneFailed l | none => true)
      || s.over s.tod.lastSampleAt (secs 4)
      || (match s.masterOf with | some f => s.over f.last (3 * logSeconds f.logInt) | none => true)
  else if s.timeSource = 2 then s.over s.tod.lastSampleAt 2500000000
  else true

/-- SOURCE_LOST; a supervisor restart causes no loss of source (10 R267). -/
def sourceLost (s : State) : State :=
  if s.sup.up && s.sourceGone then
    let gone := match s.masterOf with | some f => s.over f.last (3 * logSeconds f.logInt) | none => false
    let s := s.loseSource
    if gone then { s with tod.foreign := s.tod.foreign.filter fun f => some f.ident != s.tod.master, tod.master := none } else s
  else s

/-- SOURCE_LOST. -/
def execSourceLost (s : State) : Out := run sourceLost s

/-! Permission and source (10 R267, R276). -/

/-- The write of 5800:04. -/
def effPermit (_ : Session) (vs : List Nat) (s : State) : Act :=
  let v := vs.headD 0
  if !s.tod.tjr || decide (v = 0 ∨ 2 < v) then .refuse (naming stState 0x5820 2 0)
  else ok { s with tod.permit := v, tod.permitSamples := [] }

/-- PERMIT_STEP. -/
def execPermitStep (rq : Rq) (s : State) : Out := run (writeOf rq 0x5800 4 0 (u8 1) effPermit) s

/-- PERMIT_SLEW. -/
def execPermitSlew (rq : Rq) (s : State) : Out := run (writeOf rq 0x5800 4 0 (u8 2) effPermit) s

/-- The slew has pulled out its offset: the counter has counted it out, at the slope of 5800:03 (10 R267). -/
def slewEnd (s : State) : State :=
  if s.tod.slewing && s.tod.slewLeft == 0 then { s with tod.slewing := false, tod.slewFrac := 0 } else s

/-- SLEW_COMPLETE. -/
def execSlewComplete (s : State) : Out := run slewEnd s

/-- The write of 5800:01: a change of source loses the present one. -/
def effTimeSource (_ : Session) (vs : List Nat) (s : State) : Act :=
  let old := s.timeSource
  let s := s.setStaged 0x5800 1 0 vs
  ok (if old = vs.headD 0 then s else { s.loseSource with tod.foreign := [], tod.master := none }.watchTiming)

/-- TIME_SOURCE_WRITE. -/
def execTimeSourceWrite (rq : Rq) (source : Nat) (s : State) : Out := run (writeOf rq 0x5800 1 0 (u8 source) effTimeSource) s

/-- The write of 5810:01. -/
def effPtpLane (_ : Session) (vs : List Nat) (s : State) : Act :=
  let old := s.cfg 0x5810 1 0
  let s := s.setStaged 0x5810 1 0 vs
  ok (if old = vs.headD 0 then s
    else
      let s := if s.timeSource = 1 then s.loseSource else s
      { s with
        tod.foreign := [], tod.master := none, tod.t3 := none, tod.dvalid := false, tod.delays := [], tod.syncOk := false, tod.reqAt := none }.watchTiming)

/-- PTP_SOURCE_LANE_WRITE. -/
def execPtpSourceLaneWrite (rq : Rq) (lane : Nat) (s : State) : Out := run (writeOf rq 0x5810 1 0 (u8 lane) effPtpLane) s

/-! 1PPS_IN and ToD (10 R263, R264). -/

/-- Two instants lie 1 s apart, to 10 microseconds. -/
def oneSecond (a b : Nat) : Bool := decide (a + 999990000 ≤ b ∧ b ≤ a + 1000010000)

/-- The last edge taken on 1PPS_IN is less than 0.5 s old (17 R443). -/
def State.edgeTooSoon (s : State) : Bool :=
  match s.tod.edgeAt with
  | some e => !s.over e (msecs 500)
  | none => false

/-- A rising edge on 1PPS_IN: less than 0.5 s after the last one it is only counted as an outlier (17 R443); a pulse on time that no message named
breaks the run. -/
def ppsEdge (s : State) : State :=
  if !s.portUp then s
  else if s.edgeTooSoon then s.count 0x5820 6 2 0
  else
    let comp := signed 32 (s.cfg 0x5800 5 0)
    let broken := s.tod.edgeAt.isSome && !s.tod.edgeNamed && s.tod.edgeOnTime
    let onTime := match s.tod.edgeAt with | some e => oneSecond e s.now | none => false
    let s := { s with
      tod.edgeAt := some s.now, tod.edgeTime := (s.tod.counter : Int) + comp * 65536 - s.tod.stepTotal
      tod.edgeNamed := false, tod.edgeOnTime := onTime }
    if broken ∧ s.timeSource = 2 then { s.breakRun with tod.prevEdge := none } else s

/-- PPS_IN_EDGE. -/
def execPpsInEdge (s : State) : Out := run ppsEdge s

/-- A ToD message that is valid: its second and its UTC offset (10 Table 10-2). -/
def todOk (m : Bytes) : Option (Nat × Int) :=
  if m.length = 16 ∧ field m 0 2 = 0x5444 ∧ field m 2 1 = 1 ∧ bit (field m 3 1) 0 = true ∧ crc16 (m.take 14) = field m 14 2 then
    some (field m 4 6, signed 16 (field m 10 2))
  else none

/-- A ToD_IN message: it names the second of the most recent pulse, from 100 to 900 ms after it. -/
def todIn (m : Bytes) (s : State) : State :=
  match todOk m, s.tod.edgeAt with
  | some (sec, utc), some e =>
    if s.timeSource = 2 ∧ s.sup.up = true ∧ s.tod.edgeNamed = false ∧ e + msecs 100 ≤ s.now ∧ s.now ≤ e + msecs 900 then
      let follows := match s.tod.prevEdge with | some p => oneSecond p e && sec == s.tod.prevSecond + 1 | none => false
      let s := if follows then s else s.breakRun
      let x := s.tod.edgeTime + s.tod.stepTotal - ((sec * tcSecond : Nat) : Int)
      { s with tod.edgeNamed := true, tod.prevEdge := some e, tod.prevSecond := sec, tod.utc := utc }.takeSample x
    else s
  | _, _ => s

/-- TOD_MESSAGE. -/
def execTodMessage (message : Bytes) (s : State) : Out := run (todIn message) s

/-- The ToD_OUT message (10 Table 10-2). -/
def todBytes (valid : Bool) (sec : Nat) (utc : Int) : Bytes :=
  let b := beBytes 2 0x5444 ++ beBytes 1 1 ++ beBytes 1 (b2n valid) ++ beBytes 6 sec ++ beBytes 2 (unsigned 16 utc) ++ zeros 2
  b ++ beBytes 2 (crc16 b)

/-- ToD_OUT, 200 ms after a rise of 1PPS_OUT. -/
def todSend (s : State) : State :=
  if s.tod.todPending && s.over s.tod.todAt (msecs 200) then
    { s with tod.todPending := false }.emit (.tod (todBytes (s.tim.aligned && s.tod.state == TimeState.locked) s.tod.todSecond s.tod.utc))
  else s

/-- TOD_OUT. -/
def execTodOut (s : State) : Out := run todSend s

/-! PTP (10 R261, R262; message layouts of IEEE 1588-2019). -/

/-- The module's port identity on a lane. -/
def portIdentity (l : Nat) : Bytes := beBytes 8 Config.clockIdentity ++ beBytes 2 (l + 1)

/-- Fields of a PTP message. -/
def ptpType (m : Bytes) : Nat := field m 0 1 % 16
def ptpDomain (m : Bytes) : Nat := field m 4 1
def ptpTwoStep (m : Bytes) : Bool := bit (field m 6 1) 1
def ptpCorrection (m : Bytes) : Int := signed 64 (field m 8 8)
def ptpSource (m : Bytes) : Bytes := (m.drop 20).take 10
def ptpSeq (m : Bytes) : Nat := field m 30 2
def ptpLog (m : Bytes) : Int := signed 8 (field m 33 1)
def ptpStamp (m : Bytes) : Int := (fromTime80 (field m 34 10) : Int)

/-- A correctionField with an amount added (10 R270). -/
def addCorrection (m : Bytes) (d : Int) : Bytes := m.take 8 ++ beBytes 8 (unsigned 64 (ptpCorrection m + d)) ++ m.drop 16

/-- The rank of an Announce in the data set comparison, lower is better: priority 1, class, accuracy, variance, priority 2, identity, steps, sender. -/
def announceKey (m : Bytes) : Nat := beNat ((m.drop 47).take 14 ++ (m.drop 61).take 2 ++ ptpSource m)

/-- The data set comparison of IEEE 1588-2019: of two paths to one grandmaster the fewer steps are better, then the lower sender; of two
grandmasters the lower rank. -/
def Foreign.better (f b : Foreign) : Bool :=
  if f.gm = b.gm then decide (f.steps < b.steps) || (f.steps == b.steps && decide (beNat f.ident < beNat b.ident))
  else decide (f.key < b.key)

/-- A foreign master qualifies with two Announces within four announce intervals, and fewer than 255 steps removed. -/
def Foreign.qualified (f : Foreign) : Bool :=
  match f.prev with
  | some p => decide (f.last ≤ p + 4 * logSeconds f.logInt ∧ f.steps < 255)
  | none => false

/-- The best of the qualified foreign masters. -/
def bestForeign (l : List Foreign) : Option Foreign :=
  (l.filter Foreign.qualified).foldl (fun best f =>
    match best with
    | none => some f
    | some b => if f.better b then some f else some b) none

/-- An Announce from the source lane; the module never selects itself. -/
def State.ptpAnnounce (s : State) (m : Bytes) : State :=
  let id := ptpSource m
  if id.take 8 = beBytes 8 Config.clockIdentity then s
  else
  let old := s.tod.foreign.find? fun f => f.ident == id
  let f : Foreign :=
    { ident := id, key := announceKey m, gm := field m 53 8, cls := field m 48 1, steps := field m 61 2, utc := signed 16 (field m 44 2)
      logInt := ptpLog m, last := s.now, prev := old.map Foreign.last }
  let s := { s with tod.foreign := f :: s.tod.foreign.filter fun g => g.ident != id && !s.over g.last (4 * logSeconds g.logInt) }
  match bestForeign s.tod.foreign with
  | some b =>
    let s := if s.tod.master = some b.ident then s else { s.breakRun with tod.master := some b.ident, tod.syncSeq := none, tod.syncOk := false }
    { s with tod.utc := b.utc }
  | none => s

/-- A sample from the last Sync and the last delay exchange; one across a step is discarded (10 R262, R268). -/
def State.ptpSample (s : State) : State :=
  if !s.tod.dvalid then s.breakRun
  else if s.tod.reqTotal ≠ s.tod.syncTotal then ({ s with tod.run := [] }).count 0x5820 6 3 0
  else s.takeSample (((s.tod.t2 - s.tod.t1 - s.tod.cS) - s.tod.dcorr) / 2)

/-- A Sync of the selected master, with the ingress time of its point. -/
def State.ptpSync (s : State) (m : Bytes) (ingress : Int) : State :=
  let s := if s.tod.syncSeq.isSome then { s with tod.run := [] } else s
  let s := { s with tod.t2 := ingress + s.tod.stepTotal, tod.syncTotal := s.tod.stepTotal, tod.cS := ptpCorrection m, tod.t1 := ptpStamp m }
  if ptpTwoStep m then { s with tod.syncSeq := some (ptpSeq m), tod.syncOk := false } else { s with tod.syncSeq := none, tod.syncOk := true }.ptpSample

/-- A Follow_Up of the selected master. -/
def State.ptpFollowUp (s : State) (m : Bytes) : State :=
  if s.tod.syncSeq = some (ptpSeq m) then
    { s with tod.syncSeq := none, tod.syncOk := true, tod.t1 := ptpStamp m, tod.cS := s.tod.cS + ptpCorrection m }.ptpSample
  else s

/-- A Delay_Resp that names the module's port identity: a delay exchange, which gives a path delay with a whole Sync on the same side of every step
(10 R262, R268). -/
def State.ptpDelayResp (s : State) (m : Bytes) : State :=
  match s.tod.t3 with
  | some t3 =>
    if ptpSeq m = s.tod.dreqSeq then
      let s := { s with tod.reqTotal := s.tod.sentTotal }
      let d := ptpStamp m - t3 - ptpCorrection m
      let path := ((s.tod.t2 - s.tod.t1 - s.tod.cS) + d) / 2
      { s with
        tod.t3 := none, tod.dcorr := d, tod.dvalid := true
        tod.delays := if s.tod.syncOk && s.tod.syncTotal == s.tod.reqTotal then (path :: s.tod.delays).take 16 else s.tod.delays }
    else s
  | none => s

/-- The time receiver takes a message from the source lane (10 R261). -/
def State.ptpReceive (s : State) (l : Nat) (m : Bytes) (ingress : Int) : State :=
  if s.timeSource ≠ 1 ∨ s.ptpLane ≠ some l ∨ ptpDomain m ≠ s.cfg 0x5810 2 0 ∨ s.sup.up = false then s
  else
    let fromMaster := s.tod.master == some (ptpSource m)
    match ptpType m with
    | 0xB => s.ptpAnnounce m
    | 0 => if fromMaster then s.ptpSync m ingress else s
    | 8 => if fromMaster then s.ptpFollowUp m else s
    | 9 => if fromMaster && (m.drop 44).take 10 == portIdentity l then s.ptpDelayResp m else s
    | _ => s

/-- The module's Delay_Req. -/
def delayReq (dom seq lane : Nat) (log : Nat) : Bytes :=
  beBytes 1 1 ++ beBytes 1 0x12 ++ beBytes 2 44 ++ beBytes 1 dom ++ zeros 3 ++ zeros 8 ++ zeros 4 ++ portIdentity lane ++ beBytes 2 seq
    ++ beBytes 1 1 ++ beBytes 1 log ++ zeros 10

/-- Bytes that wait in the time channel of a lane. -/
def Lane.timeFill (x : Lane) : Nat := x.ch.timeLeft.length + (x.ch.timeTx.map fun p => p.data.length + 4).sum

/-- Queue a time-channel packet on a lane in stage 9 with room in its 8 KB, or count it as dropped (10 R270). -/
def State.queueTime (s : State) (l : Nat) (p : TxPkt) : State :=
  let x := s.lane l
  if x.bring.stage = 9 ∧ x.timeFill + p.data.length + 4 ≤ 8192 then
    s.modLane l fun x => { x with ch := { x.ch with timeTx := x.ch.timeTx ++ [p] } }
  else s.count 0x5830 1 3 l

/-- The interval of 5810:03 has passed since the last Delay_Req. -/
def State.reqDue (s : State) : Bool := match s.tod.reqAt with | some t => s.over t (logSeconds (signed 8 (s.cfg 0x5810 3 0))) | none => true

/-- A Delay_Req goes out on the source lane (10 R261). -/
def delayInterval (s : State) : State :=
  match s.ptpLane with
  | some l =>
    if s.timeSource = 1 ∧ s.sup.up = true ∧ s.reqDue = true then
      let n := (s.tod.dreqSeq + 1) % 65536
      let m := delayReq (s.cfg 0x5810 2 0) n l 0x7F
      { s with tod.dreqSeq := n, tod.t3 := none, tod.reqAt := some s.now }.queueTime l { ingress := none, own := true, data := 1 :: m }
    else s
  | none => s

/-- DELAY_REQ_INTERVAL. -/
def execDelayReqInterval (s : State) : Out := run delayInterval s

/-- A PTP packet received on a lane: forwarded to the lanes of its mask, and consumed where it is for the module (10 R270). -/
def State.ptpPacket (s : State) (l : LaneId) (data : Bytes) (ingress : Int) : State :=
  let m := data.drop 1
  let ty := ptpType m
  if ty = 2 ∨ ty = 3 ∨ ty = 0xA then s.count 0x5830 1 4 l
  else
    let mine := ty == 9 && (m.drop 44).take 10 == portIdentity ((s.ptpLane).getD 255) && s.timeSource == 1
    let s := s.ptpReceive l m ingress
    if mine then s
    else
      let timed := ty == 0 || ty == 1
      let outs : List Nat := (maskBits 48 (s.cfg 0x5810 4 l)).filter fun k => k != (l : Nat)
      s.each outs fun k s =>
        let before := (s.lane k).timeFill
        let s := s.queueTime k { ingress := if timed then some ingress else none, own := false, data := data }
        if (s.lane k).timeFill = before then s
        else
          let s := s.count 0x5830 1 1 k
          if timed then s.count 0x5830 1 2 k else s

end Sys2Proof.Machine
end

