-- ==== Sys2Proof/Machine/Boundary.lean ====
section
/-! DEFINITION. The internal frame boundary and the realignment: transmit frames, the forebay's read, latches, selectors, streams (02, 04 R104 to R116, 05, 09 R253, R254). -/

namespace Sys2Proof.Machine

/-! The payload of a transmit frame (02 R45, R62; 11 R281 to R286; 03 R93). -/

/-- The ranges that uncorrectable entries fill with 0xFF: from the end of the good entry before to the start of the good entry after (05 R149). An entry is given with whether it is good. -/
def fillRanges : List (Entry × Bool) → Nat → Bool → List (Nat × Nat)
  | [], last, gap => if gap then [(last, gaddr 48 0 - last)] else []
  | (e, true) :: es, last, gap =>
    (if gap then [(last, e.egress - last)] else []) ++ fillRanges es (e.egress + e.slots) false
  | (_, false) :: es, last, _ => fillRanges es last true

/-- Each run of a page with whether its entry and its companion are good; n is the position of the first. -/
def markedEntries (bad : List Nat) : Nat → List Entry → List (Entry × Bool)
  | _, [] => []
  | n, e :: es =>
    let w := if e.comp.isSome then 2 else 1
    (e, (List.range w).all fun i => !bad.contains (n + i)) :: markedEntries bad (n + w) es

/-- The live transmit streams of a lane. -/
def State.txOn (s : State) (l : Nat) : List Nat := s.txStreams.filter fun k => s.txF k 3 == l && (s.txS k).live

/-- The live transmit stream of a lane that owns a lane slot, with the slot's rank. -/
def State.txStreamAt (s : State) (l q : Nat) : Option (Nat × Nat) :=
  (s.txOn l).findSome? fun k => (slotRank (s.txSlots k) q).map fun r => (k, r)

/-- A sealed byte as the lane sends it: 0xFF while its stream has not begun, holds no key, or has KEYX; what had gone out before an erasure stands
(11 R281, R284, R286, R299). -/
def State.sealByte (s : State) (l q : Nat) (plain : Byte) : Byte :=
  match s.txStreamAt l q with
  | some (k, r) =>
    let x := s.txS k
    match tget 0 s.sealing.sent (l * laneSlots + q), s.curKey (s.txF k 5) with
    | n + 1, _ => plain ^^^ BitVec.ofNat 8 n
    | 0, some key => if x.begun && !x.keyx then plain ^^^ cipherByte key.key (ivOf (s.txF k 6) x.counter) (x.text.length + r) else 0xFF
    | 0, none => 0xFF
  | none => 0xFF

/-- A byte of the looped payload: that of the frame which left the forebay in the internal frame before, as it was received; all-ones below stage 9,
and in the rows that a failed lane left so (03 R93, 04 R112). -/
def State.loopByte (s : State) (l q : Nat) : Byte :=
  match s.rxPos l with
  | some p =>
    let ones := if s.fab.frameNo % 2 = 1 then tget 0 s.fab.ones0 p else tget 0 s.fab.ones1 p
    if (s.lane l).bring.stage < 9 ∨ 1000 ≤ q / 768 + ones then 0xFF else tget 0 (s.lane l).bay.readFrame.raw q
  | none => 0xFF

/-- The byte of a lane slot as transmitted: the looped payload in far-end loopback, otherwise the egress byte, sealed where its run is. While no engine
holds the lease the all-ones of sealed slots are not enciphered (01 R14; log entry 153). Far-end loopback switched within a frame changes all of it (03 R93; log entry 197). -/
def State.txByte (s : State) (fill : List (Nat × Nat)) (l q : Nat) : Byte :=
  if s.loopback l = 3 then s.loopByte l q
  else
    let g := gaddr (s.txPos l) q
    let b := s.egressByte fill g
    if s.sealedSlot g && s.rowHeld (q / 768) then s.sealByte l q b else b

/-- The payload of the transmit frame that ends. -/
def State.txPayload (s : State) (fill : List (Nat × Nat)) (l : Nat) : Bytes := (List.range laneSlots).map (s.txByte fill l)

/-- The BIP-16 of a payload (02 R45). -/
def bipOf : Bytes → BitVec 16
  | a :: b :: t => (a ++ b : BitVec 16) ^^^ bipOf t
  | _ => 0

/-- The blocks of a lane's transmit frame: FAB, overhead, channels and seal channel as it began with them, and its payload; a cut frame ends at a whole
row (02 R26 to R34, R43, R61). Each is scrambled after the one before. -/
def Lane.sentBlocks (x : Lane) (rows : Nat) (payload : Bytes) : List Block × BitVec 58 :=
  scrambleAll x.df.scr (layRows ((overheadRows x.tx.fab x.tx.so x.ch.txTime x.ch.txData x.tx.sc).take rows) payload)

/-- The transmit frame of a lane ends after some whole rows: its payload, its parity, that of the rows sent where it is cut (log entry 191), the plaintext
of its streams (02 R45, 11 R282, R287). The frame is read from `o`, which holds the page and selectors it had. -/
def State.txEnd (s o : State) (fill : List (Nat × Nat)) (rows : Nat) (l : LaneId) : State :=
  if s.enabled l && (s.lane l).bring.txMode == .zasyn && (s.lane l).tx.txRun then
    let p := (o.txPayload fill l).take (768 * rows)
    let lost := s.lease.lapsed || decide (o.lease.rowsHeld < 1000) || s.loopback l == 3
    let t := s.each (s.txOn l) fun k s => s.modTx k fun x =>
      if x.begun then
        { x with text := x.text ++ ((slotList (o.txSlots k)).map fun q => o.egressByte fill (gaddr (o.txPos l) q)), cut := x.cut || lost }
      else x
    let b := (s.lane l).sentBlocks rows p
    ((t.modLane l fun x => { x with par := { x.par with bipTx := bipOf p }, df := { x.df with scr := b.2 } }).emit (.payload l p)).emit (.blocks l b.1)
  else s

/-! The start of a transmit frame (02 R36 to R61). -/

/-- A unit of a channel stream: a packet, filled to 7 bytes, so that packet starts lie 7 bytes apart (02 R55). -/
def channelUnit (p : Bytes) : Bytes := p ++ List.replicate (7 - p.length) 0xFF

/-- Lay packets into the stream of a frame while one can start in it: the bytes, and the channel index of each start. -/
def fillStream {α : Type} (space : Nat) (mk : Nat → α → Bytes) : List α → Bytes → List Nat → Bytes × List Nat
  | [], acc, st => (acc, st)
  | u :: us, acc, st =>
    if acc.length < space then fillStream space mk us (acc ++ channelUnit (mk (acc.length + 2) u)) (st ++ [acc.length + 2])
    else (acc, st)

/-- The region of a channel: pointer, then the stream with filler (02 R51, R52). -/
def regionOf (space : Nat) (acc : Bytes) (starts : List Nat) : Bytes :=
  beBytes 2 (starts.headD 0xFFFF) ++ (acc ++ List.replicate (space - acc.length) 0xFF).take space

/-- The egress time of a time-channel packet whose length field lies at a channel index (10 R269). -/
def State.egressTime (s : State) (i : Nat) : Int := (s.fab.boundaryAt : Int) + ((2300 + (16 + i / 7) * 125) * 65536 : Nat)

/-- A time-channel packet as sent: the residence time joins the correctionField of a Sync or Delay_Req (10 R269, R270). -/
def State.timePacket (s : State) (i : Nat) (p : TxPkt) : Bytes :=
  packetOf (match p.ingress with
    | some t => p.data.take 1 ++ addCorrection (p.data.drop 1) (s.egressTime i - s.tod.stepTotal - t)
    | none => p.data)

/-- The time channel of a frame. -/
def State.sendTime (s : State) (l : LaneId) : State :=
  let x := s.lane l
  let r := fillStream 334 s.timePacket x.ch.timeTx x.ch.timeLeft []
  let sent := (x.ch.timeTx.zip r.2)
  let s := s.modLane l fun x => { x with ch := { x.ch with
    timeTx := x.ch.timeTx.drop r.2.length, timeLeft := r.1.drop 334, txTime := regionOf 334 r.1 r.2 } }
  s.each sent fun p s =>
    let s : State := if p.1.own then { s with tod.t3 := some (s.egressTime p.2), tod.sentTotal := s.tod.stepTotal } else s
    s.emit (.packet l .time (s.timePacket p.2 p.1))

/-- The guarded channels of a lane. -/
def State.guardedOn (s : State) (l : Nat) : List Nat := (List.range 8).filter fun c => s.cfgF 0x5E10 1 c 0 == l

/-- Take n messages from the queues of some channels, in order. -/
def takeGuarded : List Nat → Nat → Tab Channel → Tab Channel
  | [], _, t => t
  | c :: cs, n, t =>
    let m := min n (tget {} t c).queue.length
    takeGuarded cs (n - m) (tmod {} t c fun x => { x with queue := x.queue.drop m })

/-- The data channel of a frame: IPv6 datagrams, then guarded messages (02 R51; log entries 39 and 193). -/
def State.sendData (s : State) (l : LaneId) : State :=
  let x := s.lane l
  let all := x.ch.dataTx ++ (s.guardedOn l).flatMap fun c => (tget {} s.sealing.channels c).queue
  let r := fillStream 446 (fun _ d => packetOf d) all x.ch.dataLeft []
  let n := r.2.length
  let s := s.modLane l fun x => { x with ch := { x.ch with
    dataTx := x.ch.dataTx.drop n, dataLeft := r.1.drop 446, txData := regionOf 446 r.1 r.2 } }
  let was := s.sealing.channels
  let s := { s with sealing.channels := takeGuarded (s.guardedOn l) (n - x.ch.dataTx.length) was }
  let s := s.each (s.guardedOn l) fun c s => s.countN 0x5E10 4 3 c ((tget ({} : Channel) was c).queue.length - (tget ({} : Channel) s.sealing.channels c).queue.length)
  s.emits ((all.take n).map fun d => .packet l .data (packetOf d))

/-- The value of 5C21:01 (11 Table 11-11): 0 idle; 1 sealing; 2 KEYX; 3 no key. -/
def State.txStatus (s : State) (k : Nat) : List Nat :=
  let x := s.txS k
  let st := if !x.live then 0 else if (s.curKey (s.txF k 5)).isNone then 3 else if x.keyx then 2 else if x.begun then 1 else 0
  [st, x.counter, s.ctr 0x5C21 1 3 k]

/-- Put a stream into ascending order of lane seal handle. -/
def State.insHandle (s : State) (k : Nat) : List Nat → List Nat
  | [] => [k]
  | i :: is => if s.txF k 4 < s.txF i 4 then k :: i :: is else i :: s.insHandle k is

/-- The record of the interval that a stream has just ended; none where it is sent empty (11 R283, R284, R287). -/
def State.txRecord (s : State) (l k : Nat) : Option Bytes :=
  let x := s.txS k
  match s.curKey (s.txF k 5) with
  | some key =>
    if x.begun && !x.cut && !x.keyx then
      let p := s.portOf l
      let iv := ivOf (s.txF k 6) x.counter
      let aad := aadOf (s.txF k 4) (s.cfg 0x2800 2 p) (s.txPos l - p) x.counter
      some (recordBytes (s.txF k 4) x.newKey (x.counter % 1099511627776) (gcmTag key.key iv aad (gcmText key.key iv x.text)))
    else none
  | none => none

/-- The event of a stream whose counter reaches 2^32 - 2^20 (11 R286). -/
def State.nearEvent (s : State) (k n : Nat) : State :=
  if n = nearCount then s.event 2 0x5C21 1 k (joinFields [1, 8, 4] (s.txStatus k)) else s

/-- A new interval of a transmit stream starts (11 R281, R285, R286). -/
def State.txInterval (s : State) (k : Nat) : State :=
  let x := s.txS k
  let key := (s.curKey (s.txF k 5)).isSome
  if x.begun then
    let n := x.counter + 1
    let s := s.modTx k fun x => { x with
      counter := n, newKey := false, text := [], cut := false, near := x.near || decide (nearCount ≤ n), keyx := x.keyx || decide (keyxCount ≤ n) }
    (s.nearEvent k n).settleTx k
  else if key then
    let n := if x.sealed then x.counter + 1 else 0
    ((s.modTx k fun x => { x with
      begun := true, counter := n, sealed := true, newKey := true, text := [], cut := false
      near := decide (nearCount ≤ n), keyx := decide (keyxCount ≤ n) }).nearEvent k n).settleTx k
  else s

/-- A transmit multiframe starts on a lane: the records of the interval that ended, and the new intervals (02 R59, 11 R285 to R287). -/
def State.txMultiframe (s : State) (l : LaneId) : State :=
  let gone : List Nat := (s.sealing.tx.filter fun e => e.2.last && !e.2.live && s.txF e.1 3 == (l : Nat)).map Prod.fst
  let ks : List Nat := (s.txOn l ++ gone).foldr s.insHandle []
  let recs : List (Nat × Option Bytes) := ks.map fun k => (k, s.txRecord l k)
  let out := recs.map fun (r : Nat × Option Bytes) => r.2.getD emptyRecord
  let s := s.each recs fun (r : Nat × Option Bytes) s =>
    if r.2.isNone && ((s.txS r.1).begun || (s.txS r.1).last || (s.curKey (s.txF r.1 5)).isNone) then s.count 0x5C21 1 3 r.1 else s
  let s := { s with sealing.records := (s.sealing.records.filter fun (r : LaneId × Bytes) => r.1 != l) ++ out.map fun b => ((l, b) : LaneId × Bytes) }
  let s := s.each ks fun k s => s.modTx k fun x => { x with last := false }
  (s.each (s.txOn l) fun k s => s.txInterval k).emit (.records l out)

/-- Whether the seal channel of a lane's frame carries a record that is not empty (02 R57, R59). -/
def State.sealFlag (s : State) (l : LaneId) (mfi : Nat) : Bool :=
  ((((s.sealing.records.filter fun r => r.1 == l).map Prod.snd).drop (224 * mfi)).take 224).any (· != emptyRecord)

/-- Partner status SO16 (02 Table 2-7, 03 R84, R87). -/
def Lane.partnerByte (x : Lane) : Nat := b2n (x.bring.stage == 9) * 128 + b2n x.tr.rtrSince.isSome * 64 + x.bring.stage % 16

/-- APS1 to APS4 of a lane: those of the pair whose protect port's logical lane 0 it sends (02 R47, 07 R188). -/
def State.apsSent (s : State) (l : Nat) : Bytes :=
  match s.inForce.find? fun p => p.2.protect == s.txPos l with
  | some p => beBytes 1 p.2.aps1 ++ beBytes 1 p.2.aps2 ++ beBytes 1 p.2.aps3 ++ [0]
  | none => zeros 4

/-- The lane tag that a lane sends (02 R39, 03 R89). -/
def State.tagSent (s : State) (l : Nat) : Nat :=
  let p := s.portOf l
  laneTag (s.width p) (s.txPos l - p) (s.cfg 0x2800 2 p)

/-- Lane flags SO3 (02 R44, Table 2-6); the channels that the sender runs are log entry 192. -/
def State.flagsSent (s : State) (l : LaneId) : Nat :=
  let x := s.lane l
  b2n x.d.sentRdi * 128 + b2n x.tx.aisTx * 64 + b2n x.tx.sealTx * 32 + 16
    + b2n (s.cfg 0x9110 3 l == 1 || !(s.guardedOn l).isEmpty) * 8 + b2n x.tx.felbTx * 4

/-- SO0 to SO19 of the frame that starts (02 Table 2-5). -/
def State.soSent (s : State) (l : LaneId) : Bytes :=
  let x := s.lane l
  let trace := traceBytes (beBytes 60 (s.cfg 0x3020 1 l))
  beBytes 2 x.par.bipTx.toNat ++ beBytes 1 x.par.reiSent ++ beBytes 1 (s.flagsSent l) ++ s.apsSent l ++ beBytes 1 (s.qlOfLane l % 16)
    ++ [trace.getD (x.tx.txMfi % 64) 0] ++ beBytes 4 (s.cfg 0x2800 2 (s.portOf l)) ++ beBytes 1 (s.tagSent l / 16 * 16) ++ [0]
    ++ beBytes 1 x.partnerByte ++ beBytes 1 x.tr.txPre ++ beBytes 1 x.tr.txMain ++ beBytes 1 x.tr.txPost

/-- MFI and SFI of a lane's next frame: those of the aligned frame phase, otherwise the next ones of the lowest lane of its port that runs, so that
all lanes of a port send the same, or 0 and 0 (02 R41, R42; log entry 76). -/
def State.nextNumber (s : State) (l : LaneId) : Nat × Nat :=
  if s.tim.aligned then (s.fab.mfi, s.fab.sfi)
  else match (s.portLanes (s.portOf l)).find? fun k => (s.lane k).tx.txRun with
    | some k => nextMulti ((s.lane k).tx.txMfi, (s.lane k).tx.txSfi)
    | none => (0, 0)

/-- The frame that starts lies in the multiframe of the last frame which the lane sent. -/
def LaneTx.sameMulti (x : LaneTx) (frameNo mfi : Nat) : Bool := decide (mfi = x.txMfi + (frameNo - x.lastNo) ∧ x.lastNo ≤ frameNo ∧ mfi ≤ 127)

/-- A lane that starts again in another multiframe has no records of the one before: its interval was not sent (02 R58, R59). -/
def State.dropRecords (s : State) (l : LaneId) : State := { s with sealing.records := s.sealing.records.filter fun r => r.1 != l }

/-- A transmit frame starts on a lane with a number (02 R36, R41, R44, R46, R51, R57; 03 R93). -/
def State.txStart (s : State) (l : LaneId) (num : Nat × Nat) : State :=
  let first := !(s.lane l).tx.txRun
  let runsOn := (s.lane l).tx.sameMulti s.fab.frameNo num.1
  let s := s.modLane l fun x => { x with
    tx := { x.tx with txRun := true, txMfi := num.1, txSfi := num.2, lastNo := s.fab.frameNo }
    ch := if first then { x.ch with timeLeft := [], dataLeft := [] } else x.ch }
  let s := if first then s.each (s.txOn l) fun k s => s.modTx k fun x => { x with cut := true } else s
  let s := if num.1 = 0 then s.txMultiframe l else if runsOn then s else s.dropRecords l
  let loop := s.loopback l == 3
  let recs := if loop then [] else (s.sealing.records.filter fun r => r.1 == l).map Prod.snd
  let s := s.modLane l fun x => { x with
    d := { x.d with sentRdi := s.laneFailed l }
    tx := { x.tx with aisTx := !s.lease.admitted || s.fab.cutOnes != 0, sealTx := !loop && s.sealFlag l num.1, felbTx := loop } }
  let fab := fabBytes ⟨num.1, num.2, s.tagSent l⟩
  let so := s.soSent l
  let s := (s.modLane l fun x => { x with
    tx := { x.tx with fab := fab, so := padTo 105 so, sc := sealRegion recs num.1 }
    par := { x.par with reiSent := if s.laneFailed l then 0 else x.par.reiNext } }).emit (.frameStart l fab so)
  (s.sendTime l).sendData l

/-- Lanes that send Zasyn. -/
def State.zasynLanes (s : State) : List LaneId := (List.finRange 48).filter fun l => s.enabled l && (s.lane l).bring.txMode == .zasyn

/-- Every lane that sends Zasyn starts a frame; their numbers are those found before any starts. -/
def State.txStarts (s : State) : State :=
  s.each (s.zasynLanes.map fun l => (l, s.nextNumber l)) fun p s => s.txStart p.1 p.2

/-! The read of the forebay (04 R104 to R107, R112, R113; 05 R126; 11 R290, R291). -/

/-- A phase offset is taken (04 R104, R105). -/
def Bay.takePhase (b : Bay) (phase : Int) : Bay :=
  let run := if within (-750) 750 phase then min 16 (b.alignRun + 1) else 0
  { b with phase := phase, alignRun := run, aligned := (b.aligned && within (-1000) 1000 phase) || run == 16 }

/-- The arrival of the FAB nearest the boundary, as ns within the superframe (03 R90). -/
def Lane.arrivalAt (x : Lane) (frameNo : Nat) : Int :=
  let e := (x.df.expMfi, x.df.expSfi)
  let n := if x.bay.phase < frameLead then e else nextMulti e
  (x.bay.phase + 125000 * ((frameNo : Int) - ((n.2 * 128 + n.1 : Nat) : Int))) % 2000000000

/-- One lane's measurement at a boundary: its depth follows its arrival, unless a move has still to be placed. -/
def State.takeLanePhase (s : State) (o : LanePhase) : State :=
  let l := o.lane
  if s.enabled l && (s.lane l).df.frameLock then
    s.modLane l fun x =>
      let d := (o.phase - x.bay.phase + 62500) % 125000 - 62500
      let n : Int := if o.phase < frameLead then s.fab.frameNo else (s.fab.frameNo : Int) - 1
      let x := { x with bay := { x.bay.takePhase o.phase with
        rxFrame := { x.bay.rxFrame with arr := n * 125000 + o.phase }
        depth := if x.bay.placed && !x.bay.moved then ((x.bay.depth : Int) - d).toNat else x.bay.depth } }
      { x with bring := { x.bring with arrival := x.arrivalAt s.fab.frameNo } }
  else s

/-- The lanes of a port in service that a move has left unplaced; those that stand. -/
def State.movedLanes (s : State) (p : Nat) : List LaneId := (s.inService p).filter fun l => (s.lane l).bay.moved
def State.standing (s : State) (p : Nat) : List LaneId := (s.inService p).filter fun l => !(s.lane l).bay.moved

/-- The lanes of a port that a move has left are placed again: together, where every lane in service has moved; otherwise, after one more boundary, at
the read boundary of those that stand (04 R101, R106). -/
def State.placeMoved (s : State) (p : Nat) : State :=
  let ms := s.movedLanes p
  match s.standing p with
  | [] => if ms.isEmpty then s else s.placeSet p ms
  | k :: _ =>
    let k0 := s.lane k
    s.each ms fun l s => s.modLane l fun x =>
      if x.bay.movedFor = 0 then { x with bay := { x.bay with movedFor := 1 } }
      else
        { x with
          bring := { x.bring with placedAt := x.bring.arrival - s.portWander p }
          bay := { x.bay with moved := false, movedFor := 0, depth := (k0.bay.depth + arrDiff k0.bring.arrival x.bring.arrival).toNat } }

/-- A lane in service that has wandered more than 1 microsecond from its placed arrival returns alone to stage 8, and so does one that has left the
window. What all lanes have wandered in common is the drift of the port (03 R91, 04 R107; log entry 155). -/
def State.checkWander (s : State) (l : LaneId) : State :=
  let x := s.lane l
  let p := s.portOf l
  let late := arrDiff x.bring.arrival (s.windowNow p)
  if x.bring.stage = 9 ∧ x.bay.moved = false ∧ (1000 < (arrDiff x.wander (s.portWander p)).natAbs ∨ (s.width p ≠ 1 ∧ 16000 < late)) then
    s.change l fun x => x.goto 8 s.now
  else s

/-- Skew and spread of a bonded port as they are now, the lanes that wait in stage 8 beside a window included (03 Tables 3-13 and 3-15). -/
def State.followSkew (s : State) (p : Nat) : State :=
  if s.width p = 1 || (s.inService p).isEmpty then s
  else
    let w := s.windowNow p
    let t := s.each ((s.portLanes p).filter fun l => decide (8 ≤ (s.lane l).bring.stage)) fun l s => s.modLane l fun x => { x with bring := { x.bring with skew := arrDiff x.bring.arrival w } }
    t.modPort p fun q => { q with spread := spreadOf ((s.inService p).map fun l => (s.lane l).bring.arrival) }

/-- A slip is counted and raises SLIP (04 R107, R108). -/
def State.slipLane (s : State) (l : LaneId) (add : Bool) : State :=
  let s := s.count 0x3040 (if add then 3 else 4) 0 l
  let s := s.modNear l fun r => { r with slip := true }
  s.change l fun x => { x with
    bay := { x.bay with depth := if add then x.bay.depth + 125000 else x.bay.depth - 125000 }
    d := { x.d with slip := true, slipAt := s.now } }

/-- A port's lanes slip together (04 R107): those that are placed. A lane of the port that reads nothing repeats and deletes nothing (log entry 154). -/
def State.slipPort (s : State) (p : Nat) : State :=
  let ls : List LaneId := (s.portLanes p).filter fun l => (s.lane l).bay.placed && !(s.lane l).bay.moved
  let hold := s.rxStreams.any fun k => s.rxF k 6 == 1 && s.portOf (s.rxF k 2) == p
  let least := if hold then 93750 else 31250
  if ls.any fun l => decide ((s.lane l).bay.depth < least) then s.each ls fun l s => s.slipLane l true
  else if ls.any fun l => decide (281250 < (s.lane l).bay.depth) then s.each ls fun l s => s.slipLane l false
  else s

/-- The key of a byte in the hold store: interval parity, frame, slot. -/
def holdKey (multi mfi q : Nat) : Nat := (multi % 2 * 128 + mfi) * laneSlots + q

/-- The bytes of a stream's slots as the forebay releases them in the frame now read (11 R290 to R292). -/
def State.releaseByte (s : State) (k : Nat) (x : Lane) (q : Nat) (raw : Byte) : Byte :=
  let y := s.rxS k
  if !y.pass then 0xFF
  else if s.rxF k 6 = 1 then
    match y.releases.find? fun m => m.1 + 1 == x.bay.readFrame.multi with
    | some m =>
      let h := tget (0, 0) x.bay.held (holdKey m.1 x.bay.readFrame.mfi q)
      h.1 ^^^ cipherByte m.2.2.key (ivOf (s.rxF k 5) m.2.1) h.2
    | none => 0xFF
  else raw

/-- The slots of a stream in a read frame, released. -/
def State.releaseStream (s : State) (x : Lane) (t : Tab Byte) (k : Nat) : Tab Byte :=
  (slotList (s.rxSlots k)).foldl (fun t q => tput 0 t q (s.releaseByte k x q (tget 0 t q))) t

/-- The ciphertext of hold-mode streams goes to the hold store, with its place in the interval (11 R282, R291). -/
def State.holdStore (s : State) (l : Nat) (x : Lane) : Tab (Byte × Nat) :=
  ((s.rxOn l).filter fun k => s.rxF k 6 == 1).foldl (fun h k =>
    (slotList (s.rxSlots k)).foldl (fun h q =>
      tput (0, 0) h (holdKey x.bay.readFrame.multi x.bay.readFrame.mfi q)
        (tget 0 x.bay.readFrame.bytes q, tget 0 x.bay.readFrame.place q - 1)) h) x.bay.held

/-- A position's bytes of a frame buffer, replaced. -/
def setPosition (buf : Tab Byte) (p : Nat) (bytes : Tab Byte) : Tab Byte :=
  (buf.filter fun e => decide (e.1 < gaddr p 0)) ++ (bytes.map fun e => (gaddr p e.1, e.2)) ++ buf.filter fun e => decide (gaddr (p + 1) 0 ≤ e.1)

/-- Write a position of the buffer with a parity; `ones` marks all its rows as all-ones. -/
def State.putBuffer (s : State) (n p : Nat) (bytes : Tab Byte) : State :=
  if n % 2 = 0 then { s with fab.buf0 := setPosition s.fab.buf0 p bytes } else { s with fab.buf1 := setPosition s.fab.buf1 p bytes }
def State.setOnes (s : State) (n p v : Nat) : State :=
  if n % 2 = 0 then { s with fab.ones0 := tput 0 s.fab.ones0 p v } else { s with fab.ones1 := tput 0 s.fab.ones1 p v }

/-- The frames of the forebay that are read by the end of an internal frame. -/
def Lane.readyFrames (x : Lane) (n : Nat) : List RxFrame :=
  x.bay.rxDone.takeWhile fun f => match x.dueOf f with | some d => decide (d ≤ n) | none => false

/-- The frame that a placed lane read in internal frame n goes to buffer n mod 2 (05 R126). Where two are ready one is skipped, and where none is the
last one is repeated (04 R107); before the first, and after a move, all-ones leave the forebay (04 R101). -/
def State.readLane (s : State) (n : Nat) (l : LaneId) : State :=
  let x := s.lane l
  match s.rxPos l with
  | some p =>
    if x.bay.placed then
      let fs := x.readyFrames n
      let had := x.bay.pos.isSome && !x.bay.moved
      let f := fs.getLastD x.bay.readFrame
      let s := s.modLane l fun x => { x with bay := { x.bay with readFrame := f, rxDone := x.bay.rxDone.drop fs.length } }
      if (fs.isEmpty && !had) || f.ones then
        (s.modLane l fun x => { x with bay := { x.bay with pos := if fs.isEmpty then none else some p } }).setOnes n p 1000
      else
        let s := s.modLane l fun x => { x with bay := { x.bay with held := s.holdStore l x, pos := some p } }
        let x := s.lane l
        s.putBuffer n p ((s.rxOn l).foldl (s.releaseStream x) x.bay.readFrame.bytes)
    else s.modLane l fun x => { x with bay := { x.bay with pos := none } }
  | none => s.modLane l fun x => { x with bay := { x.bay with pos := none } }

/-- Payload is restored where a lane is in service and not failed (04 R113). -/
def State.restoreLane (s : State) (l : LaneId) : State :=
  let ok := s.enabled l && !s.laneFailed l && (s.lane l).bay.placed
  s.modLane l fun x => { x with bay := { x.bay with lanePay := ok } }

/-- The rows of the frame that begins: all-ones at every position that is not carried (04 R112, 05 R128). -/
def State.freshOnes (s : State) (n : Nat) : State :=
  s.each (List.range 48) fun p s => s.setOnes n p (if s.lfBit p || !(s.lane (s.rxLane p)).bay.lanePay then 1000 else 0)

/-- The frame that begins after internal frame n: which streams pass, which lanes are restored. -/
def State.readyFrame (s : State) (n : Nat) : State :=
  let s := s.each s.rxStreams fun k s => s.modRx k fun x => if x.live then { x with pass := s.rxPasses k } else x
  let s := s.each (List.finRange 48) fun l s => s.restoreLane l
  s.freshOnes (n + 1)

/-- The forebay at a boundary that ends internal frame n. -/
def State.forebay (s : State) (n : Nat) (phases : List LanePhase) : State :=
  let s := s.each phases fun o s => s.takeLanePhase o
  let s := s.each s.portList fun p s => s.placeMoved p
  let s := s.each (List.finRange 48) fun l s => s.checkWander l
  let s := s.each s.portList fun p s => (s.followSkew p).slipPort p
  let s := s.each (List.finRange 48) fun l s => s.readLane n l
  s.readyFrame n

/-! Latches and selectors (04 R112, R115; 05 Table 5-1; 07 R206 to R208). -/

/-- The port die moves the line selector of a forerunner pair in hardware, unless LO or SF-P governs (07 R206). -/
def State.hardSwitch (s : State) (l : LaneId) : State :=
  let p := s.portOf l
  let x := s.pair p
  if x.protect != 255 && x.governing != 0xF && x.governing != 0xE then
    let s := { s with fab.lineSel := tput false s.fab.lineSel p true }
    if x.selector then s
    else (s.modPair p fun x => { x with selector := true, state := 0xB, sfW := true, condW := true }).count 0x3800 8 0 p
  else s

/-- Forerunner lanes that become failed: a PROT_TRIG pulse each, and the hardware switch (04 R115, 07 R208). -/
def State.pulse (s : State) (ls : List LaneId) : State :=
  if ls.isEmpty then s
  else
    let s := (s.countN 0x3850 1 0 0 ls.length).emits (ls.map .protTrig)
    let s := { s with prot.lastPulsed := vector48 fun i => ls.any fun l => (l : Nat) == i }
    s.each ls fun l s => s.hardSwitch l

/-- The cogs' selectors reach the engine (07 R191); not while they are still to be written back, nor during a supervisor restart. -/
def State.loadLineSels (s : State) : State :=
  if s.prot.writeBack || !s.sup.up then s
  else s.each s.inForce fun p s => { s with fab.lineSel := tput false s.fab.lineSel p.1 p.2.selector }

/-- APS3 shows the selectors, and the mismatch timers follow what is accepted, frame by frame; both stop while the supervisor restarts (07 R188, R195;
01 Table 1-2). -/
def State.followPairs (s : State) : State :=
  if !s.sup.up then s
  else s.each (s.inForce.map Prod.fst) fun p s => s.modPair p fun x => { s.mismatchTimers p x with aps3 := b2n (s.lineOn p) }

/-- Step 3 of Table 5-1. -/
def State.latchFails (s : State) : State :=
  let news : List LaneId := (List.finRange 48).filter fun l => s.laneFailed l && !(s.lane l).d.failedLatched && s.forerunner l
  let s := s.each (List.finRange 48) fun l s => s.modLane l fun x => { x with d := { x.d with failedLatched := s.laneFailed l } }
  let s := { s with fab.latch := { lf := vector48 s.lfBit, pf := vector48 s.pfBit, sealf := s.sealfNow } }
  (s.pulse news).loadLineSels.followPairs

/-! The engines' reports on the frame that ended (05 R148, R149; 08 R216, R220, R453). -/

/-- Counters of an engine that reads, and the faults that revoke a holder, or fail an engine that wakes or is armed. -/
def State.engineReport (s : State) (e : EngId) (r : ReadReport) : State :=
  if (s.engine e).linked then
    let s := (s.countN 0x4820 1 0 e r.dataOne).countN 0x4820 2 0 e r.dataMany
    let s := (s.countN 0x4820 3 0 e r.mapOne).countN 0x4820 4 0 e r.mapMany.length
    let s := (s.countN 0x4820 5 0 e (r.tags + r.excused)).countN 0x5030 5 0 0 r.excused
    let s := if s.lease.holder = some e then { s with fab.tagBurst := r.tags } else s
    let s := if 16 ≤ r.tags then s.engineFault e 3 else s
    (if r.mapMany.isEmpty then s else s.engineFault e 2).watchEngines
  else s

/-- The ranges that the holder's uncorrectable entries fill (05 R149). -/
def State.fillOf (s : State) (us : List Upset) : List (Nat × Nat) :=
  match s.lease.holder with
  | some e => fillRanges (markedEntries (s.readReport e us).mapMany 0 s.fab.active) 0 false
  | none => []

/-! Frame identity and phase (06 R170, 09 R253, 10 R264). -/

/-- The identity of the frame that begins; the module's own numbering runs beside it. The first boundary after the port die starts begins frame
(0, 0, 1): the spec gives its N alone (06 R170; log entry 167). -/
def State.nextIdentity (s : State) : State :=
  let i := nextMulti (s.fab.mfi, s.fab.sfi)
  let wrap := if i.1 = 0 ∧ i.2 = 0 then 1 else 0
  { s with fab.frameNo := s.fab.frameNo + 1, fab.mfi := i.1, fab.sfi := i.2
           fab.superframe := s.fab.superframe + wrap, fab.localN := s.fab.localN + wrap }

/-- The difference of a time-counter value from the nearest point of the 125 microsecond grid, ns. -/
def gridDiff (counter : Nat) : Int := (((counter / 65536 + 62500) % 125000 : Nat) : Int) - 62500

/-- The frame phase is measured at the transmit frame start (09 R253). -/
def State.measurePhase (s : State) : State :=
  let d := gridDiff s.tod.counter
  { s with tim.diff := d, tim.outRun := if within (-1000) 1000 d then 0 else min 16 (s.tim.outRun + 1) }

/-- 1PPS_OUT rises at the frame that begins a second of the numbering (09 R252, 10 R264). -/
def State.ppsOut (s : State) : State :=
  if (128 * s.fab.sfi + s.fab.mfi) % 8000 = 0 then
    { s with tod.ppsAt := some s.now, tod.todAt := s.now, tod.todPending := true, tod.todSecond := (s.tod.counter + tcSecond / 2) / tcSecond }.emit .ppsOut
  else s

/-- The snapshot of the time counter at the boundary whose transmit frame starts now (05 R125). -/
def State.boundarySnapshot (s : State) : Nat := s.tod.counter - frameLead * 65536

/-! The boundary. -/

/-- The end of the present internal frame after some whole rows: the two sums of the tally, and what every lane has sent. -/
def State.endFrame (s : State) (us : List Upset) (rows : Nat) : State :=
  let o := s.readState us
  let fill := s.ended.fillOf us
  let s := { s with lease.sumP := s.lease.arriving - o.subtractLoop, lease.sumM := o.measuredSum fill }
  { s.each (List.finRange 48) fun l s => s.txEnd o fill rows l with sealing.sent := [] }

/-- The rows of the frame that begins in which the sluice passes the holder's egress: all of them, or those that had passed before a revocation
(08 R214). -/
def State.openRows (s : State) : State :=
  { s with lease.lapsed := !s.lease.admitted, lease.rowsHeld := if s.lease.admitted then 1000 else s.lease.ahead }

/-- What every boundary does once the forebay has read internal frame n: the check path's sum, the activation, the latches, the selectors, the marks for
the tally (05 Table 5-1, 08 R218, R219). -/
def State.tableSteps (s : State) (n : Nat) (before : Tab Bool) : State :=
  let s := { s with lease.arriving := s.ended.wordLoop (n % 2) }
  let s := s.dueActivation s.fab.frameNo s.fab.boundaryAt
  let s := s.latchFails.evalSels
  let m : Mark := { act := s.fab.acted, line := decide (before ≠ s.fab.lineSel), fan := s.fab.fanoutBusy, lapse := s.lease.lapsed }
  { s with
    fab.hist := (m :: s.fab.hist).take 3, fab.acted := false, fab.cutOnes := s.fab.cutOnes - 1, ending := none }.openRows

/-- What every boundary ends with: the transmit frames start. -/
def State.startFrame (s : State) : State :=
  let s := ({ s.measurePhase with fab.fpAt := some s.now }.emit .fp8k).ppsOut.txStarts
  s.each s.rxStreams fun k s => s.checkRxKey k

/-- A FAB that came before its boundary takes the snapshot of that boundary now (10 R269). -/
def State.snapFabs (s : State) : State :=
  s.each ((List.finRange 48).filter fun l => (s.lane l).df.frameLock && (s.lane l).bay.fabN == s.fab.frameNo) fun l s =>
    s.modLane l fun x => { x with bay := { x.bay with fabB := (s.fab.boundaryAt : Int) - s.tod.stepTotal } }

/-- An internal frame boundary, at the moment when its transmit frame starts to leave the pins. -/
def frameBoundary (o : BoundaryObs) (s : State) : State :=
  if !s.portUp then s
  else
    let n := s.fab.frameNo
    let sels := s.ended.fab.lineSel
    let a := s.ended.readReport 0 o.upsets
    let b := s.ended.readReport 1 o.upsets
    let s := s.endFrame o.upsets 1000
    let s := { s.nextIdentity with fab.boundaryAt := s.boundarySnapshot }.snapFabs
    let s := (s.forebay n o.phases).tableSteps n sels
    { ((s.engineReport 0 a).engineReport 1 b).openRows.startFrame with lease.ahead := 0 }

/-- INTERNAL_FRAME_BOUNDARY. -/
def execInternalFrameBoundary (o : BoundaryObs) (s : State) : Out := run (frameBoundary o) s

/-! REALIGNMENT (09 R254). -/

/-- Every lane in service is placed again at the new boundaries, port by port (04 R106); internal frame n, which is cut, gives all-ones. -/
def State.replaceLanes (s : State) (n : Nat) (phases : List LanePhase) : State :=
  let s := s.each phases fun o s => s.takeLanePhase o
  let s := s.each s.portList fun p s =>
    let ls := s.inService p
    if ls.isEmpty then s
    else (s.each ls fun l s => s.modLane l fun x => { x with bay := { x.bay with pos := none, rxDone := [] } }).placeSet p ls
  s.each (List.range 48) fun p s => s.setOnes n p 1000

/-- The numbering is that of TAI from the frame at T on (06 R170). -/
def State.taiIdentity (s : State) (t : Nat) : State :=
  { s with fab.frameNo := s.fab.frameNo + 1, fab.superframe := t / 2, fab.sfi := 0, fab.mfi := 0, fab.localN := s.fab.localN + 1, tim.realignAt := none }

/-- The multiframe in progress on every lane that sends Zasyn is cut, but where no frame is cut and its number runs on. -/
def State.cutStreams (s : State) (near : Bool) : State :=
  s.each s.zasynLanes fun l s =>
    let x := (s.lane l).tx
    if near && x.txRun && nextMulti (x.txMfi, x.txSfi) == (0, 0) then s
    else s.each (s.txOn l) fun k s => s.modTx k fun x => { x with cut := true }

/-- Boundaries from a placement to the first frame read after it: the greatest of all ports (04 R106). -/
def State.framesToRead (s : State) : Nat :=
  (((List.finRange 48).filter fun l => (s.lane l).bring.stage == 9).map fun l =>
    (((s.lane l).bay.phase + (s.lane l).bay.depth) / 125000).toNat).foldl max 0

/-- The realignment is the boundary at T - 2.3 microseconds; within 10 ns nothing is cut, and only the numbering changes. The transmitters stop at the
last whole row (02 R43), and what the frame in progress lacks is the last cut. -/
def realign (phases : List LanePhase) (s : State) : State :=
  match s.tim.realignAt with
  | none => s
  | some t =>
    if !s.portUp || decide (s.tod.counter < t * tcSecond) then s
    else
      let n := s.fab.frameNo
      let sels := s.ended.fab.lineSel
      let near := within (-10) 10 s.tim.diff
      let age := min 125000 s.frameAge
      let s := (s.endFrame [] (if near then 1000 else age / 125)).cutStreams near
      let s := { s.taiIdentity t with fab.boundaryAt := s.boundarySnapshot }.snapFabs
      let s : State :=
        if near then { s.forebay n phases with tim.lastCut := 0 }
        else
          let s := (s.replaceLanes n phases).readyFrame n
          { s with fab.cutOnes := s.framesToRead + 2, lease.lapsed := true, tim.lastCut := 125000 - age }
      let s := (((s.count 0x5460 4 4 0).setAligned true).cancelPending).auditObj 0x5460 4 0
      (s.tableSteps n sels).startFrame

/-- REALIGNMENT. -/
def execRealignment (phases : List LanePhase) (s : State) : Out := run (realign phases) s

end Sys2Proof.Machine
end

