-- ==== Sys2Proof/Machine/Pm.lean ====
section
/-! DEFINITION. Performance monitoring: the second's raw data, its class, bins, thresholds, drain, clearing of counters (12). -/

namespace Sys2Proof.Machine

/-! Entities and their tables. -/

/-- The record of an entity, and a change of it. -/
def State.mon (s : State) (e : Entity) : Mon :=
  match e with
  | .near l => tget {} s.pm.near l
  | .far l => tget {} s.pm.far l
  | .stream k => tget {} s.pm.stream k
def State.modMon (s : State) (e : Entity) (f : Mon → Mon) : State :=
  match e with
  | .near l => { s with pm.near := tmod {} s.pm.near l f }
  | .far l => { s with pm.far := tmod {} s.pm.far l f }
  | .stream k => { s with pm.stream := tmod {} s.pm.stream k f }

/-- Kind of an entity as Table 12-6 codes it, its number, and the cog that monitors it. -/
def entKind : Entity → Nat
  | .near _ => 1
  | .far _ => 2
  | .stream _ => 3
def entNumber : Entity → Nat
  | .near l => l
  | .far l => l
  | .stream k => k
def entCog : Entity → Nat
  | .near l => l
  | .far l => l
  | .stream k => 48 + (k : Nat) % 208

/-- Its wheel. -/
def entWheel (e : Entity) : Nat := (entCog e) / 16

/-- Streams by number. -/
def streamOf (k : Nat) : Fin 65536 := Fin.ofNat 65536 k

/-- Every entity with a record. -/
def State.entities (s : State) : List Entity :=
  (s.pm.near.map fun e => .near (laneOf e.1)) ++ (s.pm.far.map fun e => .far (laneOf e.1)) ++ s.pm.stream.map fun e => .stream (streamOf e.1)

/-- The cog of an entity runs. -/
def State.cogRuns (s : State) (e : Entity) : Bool := s.cogServes (entCog e)

/-! SECOND_BOUNDARY (12 R307). -/

/-- A second that its cog never classified goes on as not classified (12 R319, R328). -/
def Mon.skip (m : Mon) (start ended : Nat) (unlocked : Bool) : Mon :=
  { m with queue := m.queue ++ [{ start := start, ended := ended, restart := true, unlocked := unlocked }] }

/-- An entity's raw data is latched where it was monitored, and the next second begins. -/
def Mon.latch (m : Mon) (on up unlocked : Bool) (start ended : Nat) (next : Raw) : Mon :=
  let m := match m.latched with
    | some _ => { (m.skip m.latchedAt m.latchedEnd unlocked) with latched := none }
    | none => m
  let m := if on || m.raw.off then
      (if up then { m with latched := some { m.raw with unlocked := unlocked }, latchedAt := start, latchedEnd := ended } else m.skip start ended unlocked)
    else m
  { m with raw := next }

/-- Receive streams that are monitored: enabled, or with a record. -/
def State.monStreams (s : State) : List (Fin 65536) :=
  ((s.rxStreams ++ s.pm.stream.map Prod.fst).eraseDups).map streamOf

/-- A second boundary. -/
def secondEnd (s : State) : State :=
  if !s.portUp || s.second == s.tod.secondNo then s
  else
    let start := s.tod.secondNo
    let latch (e : Entity) (on : Bool) (next : Raw) (s : State) : State :=
      s.modMon e fun m => m.latch on s.sup.up (!s.tod.ever) start s.now next
    let s := s.each (List.finRange 48) fun l s =>
      latch (.far l) (s.enabled l) { defect := s.enabled l && (s.lane l).d.rdi }
        (latch (.near l) (s.enabled l) { defect := s.laneFailed l } s)
    let s := s.orphanStreams
    let s := s.each s.monStreams fun k s =>
      latch (.stream k) (s.rxF k 0 == 1) { defect := s.sealDefect k } s
    { s with tod.secondNo := s.second }.orphanStreams

/-- SECOND_BOUNDARY. -/
def execSecondBoundary (s : State) : Out := run secondEnd s

/-! SECOND_CLASSIFY (12 R308). -/

/-- Errored blocks from which a second is SES. -/
def sesLimit : Entity → Nat
  | .stream _ => 19
  | _ => 2400

/-- The class of raw data: 1 clean; 2 ES; 3 SES. -/
def classOf (e : Entity) (r : Raw) : Nat :=
  if r.defect || decide ((sesLimit e) ≤ r.errored) then 3
  else if decide (1 ≤ r.errored) || (r.slip && (entKind e) == 1) then 2
  else 1

/-- The near end of the same lane saw a defect in the second that a far end's latched data covers. -/
def State.nearDefect (s : State) (e : Entity) : Bool :=
  match e with
  | .far l =>
    let m := s.mon (.near l)
    match m.latched with
    | some r => r.defect
    | none => match m.queue.getLast? with
      | some q => q.start == (s.mon e).latchedAt && q.defect
      | none => false
  | _ => false

/-- A cog classifies the second of one entity. -/
def classify (e : Entity) (s : State) : State :=
  match (s.mon e).latched with
  | some r =>
    if s.sup.up && s.cogRuns e then
      let cls := if r.off || s.nearDefect e then 0 else classOf e r
      s.modMon e fun m => { m with
        latched := none
        queue := m.queue ++ [{ start := m.latchedAt, ended := m.latchedEnd, cls := cls, defect := r.defect
                               bbe := if cls = 3 ∨ cls = 0 then 0 else r.errored, bits := r.bits, unlocked := r.unlocked }] }
    else s
  | none => s

/-- SECOND_CLASSIFY. -/
def execSecondClassify (entity : Entity) (s : State) : Out := run (classify entity) s

/-! SECOND_COMMIT (12 R309 to R316). -/

/-- A run towards the other availability: severely errored while available, not so while unavailable. -/
def turns (unavail : Bool) (cls : Nat) : Bool := if unavail then cls == 1 || cls == 2 else cls == 3

/-- Classified seconds at the head of the queue that make such a run. -/
def leadRun (unavail : Bool) : List Second → Nat
  | [] => 0
  | q :: qs => if q.cls = 0 then leadRun unavail qs else if turns unavail q.cls then leadRun unavail qs + 1 else 0

/-- Saturating addition of 32 bits (12 R313). -/
def satAdd (a b : Nat) : Nat := min 0xFFFFFFFF (a + b)

/-- Start of the span of a length that holds a second: 15 minutes, or 24 hours with an offset (12 R311). -/
def spanStart (len off sec : Nat) : Nat := (sec + len - off % len) / len * len + off % len - len

/-- Put one committed second into a bin. -/
def Bin.add (b : Bin) (q : Second) (unavail : Bool) : Bin :=
  let errors := b.errors + q.bits
  let flags := (if 0xFFFFFFFF < errors then 128 else 0) + (if q.unlocked then 64 else 0) + (if q.cls = 0 ∧ q.restart = false then 32 else 0)
    + (if q.restart then 4 else 0)
  let b := { b with errors := satAdd b.errors q.bits }.mark flags
  if q.cls = 0 then b
  else if unavail then { b with elapsed := satAdd b.elapsed 1, uas := satAdd b.uas 1 }
  else { b with
    elapsed := satAdd b.elapsed 1, es := satAdd b.es (b2n (2 ≤ q.cls)), ses := satAdd b.ses (b2n (q.cls == 3)), bbe := satAdd b.bbe q.bbe }

/-- A bin as it closes. -/
def Bin.closed (b : Bin) (len : Nat) (unavail : Bool) : Bin :=
  b.mark ((if b.elapsed < len then 2 else 0) + (if unavail then 256 else 0))

/-- The 32-byte bin record (12 Table 12-3). -/
def Bin.bytes (b : Bin) : Bytes :=
  beBytes 6 b.start ++ beBytes 4 b.elapsed ++ beBytes 4 b.es ++ beBytes 4 b.ses ++ beBytes 4 b.bbe ++ beBytes 4 b.uas ++ beBytes 4 b.errors ++ beBytes 2 b.flags

/-- The four parameters that have thresholds. -/
def Bin.params (b : Bin) : List Nat := [b.es, b.ses, b.bbe, b.uas]

/-- Parameters, from 1, that have just come to their thresholds. -/
def crossings (old new : Bin) (thresholds : List Nat) : List (Nat × Nat) :=
  (List.range 4).filterMap fun i =>
    let t := thresholds.getD i 0
    if t ≠ 0 ∧ new.params.getD i 0 = t ∧ old.params.getD i 0 ≠ t ∧ !new.crossed.contains (i + 1) then some (i + 1, t) else none

/-- A threshold crossing entry (12 Table 12-6). -/
def crossingEntry (e : Entity) (len p t : Nat) (b : Bin) (sec : Nat) : Bytes :=
  [0xA2] ++ beBytes 1 (entKind e) ++ beBytes 1 len ++ beBytes 1 p ++ beBytes 4 (entNumber e) ++ beBytes 4 t ++ beBytes 6 b.start ++ beBytes 6 sec
    ++ beBytes 2 b.flags ++ zeros 38

/-- Write the crossings of a bin of one length: 0 15 minutes, 1 24 hours. -/
def State.cross (s : State) (e : Entity) (len : Nat) (old new : Bin) (sec : Nat) : State :=
  let ts := ((s.val 0x6030 1 ((entKind e) - 1)).drop (4 * len)).take 4
  let cs := crossings old new ts
  let s := s.each cs fun c s =>
    s.each (s.hoppersOf 5) fun h s =>
      let t := s.postUnit h [crossingEntry e len c.1 c.2 new sec]
      if t.hop h = s.hop h then t else t.count 0x6040 2 2 0
  if cs.isEmpty then s
  else s.modMon e fun m =>
    if len = 0 then { m with q15 := { m.q15 with crossed := m.q15.crossed ++ cs.map Prod.fst } }
    else { m with q24 := { m.q24 with crossed := m.q24.crossed ++ cs.map Prod.fst } }

/-- The bin that a second falls in: the open one, or a new one once the open one has closed. -/
def openBin (b : Bin) (start : Nat) : Bin := if b.used && b.start == start then b else { used := true, start := start }
def closing (b : Bin) (start len : Nat) (unavail : Bool) : List Bin := if b.used && b.start != start then [b.closed len unavail] else []

/-- Commit the oldest second of one entity, where its time has come. -/
def State.commitOne (s : State) (e : Entity) : State :=
  let m := s.mon e
  match m.queue with
  | [] => s
  | q :: qs =>
    if !s.cogRuns e || !s.over q.ended (secs 10) then s
    else
      let turn := turns m.unavail q.cls
      let flips := turn && decide (10 ≤ m.run + leadRun m.unavail (q :: qs))
      let un := if flips then !m.unavail else m.unavail
      let a := spanStart 900 0 q.start
      let d := spanStart 86400 s.pm.offset q.start
      let c15 := closing m.q15 a 900 m.unavail
      let c24 := closing m.q24 d 86400 m.unavail
      let b15 := openBin m.q15 a
      let b24 := openBin m.q24 d
      let n15 := b15.add q un
      let n24 := b24.add q un
      let s := s.modMon e fun m => { m with
        queue := qs, unavail := un, run := if flips then 0 else if q.cls = 0 then m.run else if turn then m.run + 1 else 0
        lastCls := if q.cls ≠ 0 ∧ un = true then 4 else q.cls
        q15 := n15, q24 := n24, closed15 := m.closed15 ++ c15, closed24 := m.closed24 ++ c24 }
      let s : State := if c15.isEmpty && c24.isEmpty then s
        else { s with pm.draining := true, pm.wheels := [], pm.closing := q.start, pm.drainSince := if s.pm.draining then s.pm.drainSince else s.now }
      (s.cross e 0 b15 n15 q.start).cross e 1 b24 n24 q.start

/-- The first second of a quarter of an hour brings a changed 24-hour offset into force (12 Table 12-9). -/
def State.checkOffset (s : State) : State :=
  match ((s.entities.filter s.cogRuns).filterMap fun e => (s.mon e).queue.head?).map Second.start with
  | [] => s
  | a :: as =>
    let q := spanStart 900 0 (as.foldl min a)
    if q = s.pm.quarter then s
    else
      let off := s.cfg 0x6000 2 0
      let s := { s with pm.quarter := q }
      if off = s.pm.offset then s
      else
        let mk (t : Tab Mon) : Tab Mon := tmap {} t fun _ m => { m with q24 := m.q24.mark 2 }
        { s with pm.offset := off, pm.near := mk s.pm.near, pm.far := mk s.pm.far, pm.stream := mk s.pm.stream }

/-- Every cog commits one second of each of its entities. -/
def commitSecond (s : State) : State :=
  if !s.sup.up then s
  else
    let s := s.checkOffset
    s.each s.entities fun e s => s.commitOne e

/-- SECOND_COMMIT. -/
def execSecondCommit (s : State) : Out := run commitSecond s

/-! WHEEL_DRAIN (12 R315, R317). -/

/-- The entry that exports a closed bin. -/
def exportEntry (e : Entity) (len : Nat) (b : Bin) : Bytes :=
  [0xA1] ++ beBytes 1 (entKind e) ++ beBytes 1 len ++ [0] ++ beBytes 4 (entNumber e) ++ b.bytes ++ zeros 24

/-- Write one entry to every subscribed PM hopper, and count it as written or refused. -/
def State.exportBin (s : State) (x : Bytes) : State :=
  s.each (s.hoppersOf 6) fun h s =>
    let p := (s.hop h).p
    let s := s.postUnit h [x] false
    if (s.hop h).p = p then s.count 0x6040 2 3 0 else s.count 0x6040 2 1 0

/-- How many closed 15-minute bins an entity keeps. -/
def histDepth : Entity → Nat
  | .stream _ => 1
  | _ => 96

/-- The closed bins of an entity go to its history and to the exports. -/
def State.drainEntity (s : State) (e : Entity) : State :=
  let m := s.mon e
  let s := s.each m.closed15 fun b s => s.exportBin (exportEntry e 0 b)
  let s := s.each m.closed24 fun b s => s.exportBin (exportEntry e 1 b)
  s.modMon e fun m => { m with
    hist15 := (m.closed15.reverse ++ m.hist15).take (histDepth e), hist24 := (m.closed24.reverse ++ m.hist24).take 1, closed15 := [], closed24 := [] }

/-- The collector drains a wheel, in token order. -/
def drainWheel (w : WheelId) (s : State) : State :=
  if s.pm.draining && s.sup.up && s.pm.wheels.length == (w : Nat) then
    let s := s.each (s.entities.filter fun e => (entWheel e) == (w : Nat)) fun e s => s.drainEntity e
    let s := { s with pm.wheels := s.pm.wheels ++ [w] }
    if s.pm.wheels.length = 16 then
      { s with pm.draining := false, pm.lastDrain := (s.now - s.pm.drainSince) / 1000 }.count 0x6040 1 5 0
    else s
  else s

/-- WHEEL_DRAIN. -/
def execWheelDrain (wheel : WheelId) (s : State) : Out := run (drainWheel wheel) s

/-- A read of an entity's closed bins or history is answered PENDING (12 R318). -/
def State.draining (s : State) (e : Entity) : Bool := s.pm.draining && !(s.pm.wheels.any fun w => (w : Nat) == (entWheel e))

/-! CLEAR_COUNTERS (12 R323). -/

/-- Clear the current bins of an entity. -/
def State.clearMon (s : State) (e : Entity) : State := s.modMon e Mon.clear

/-- The entities whose bins an index holds at an element. -/
def entitiesAt (index el : Nat) : List Entity :=
  if index = 0x6010 ∨ index = 0x6011 then [.near (laneOf el), .far (laneOf el)]
  else if index = 0x6020 ∨ index = 0x6021 then [.stream (streamOf el)]
  else []

/-- The core of an engine whose counters a clear is aimed at is off: the access completes with an error response, counted for the management head and the
target, and clears nothing (01 R22, 13 R333; log entry 162). -/
def State.coldTarget (s : State) (index el : Nat) : Option EngId :=
  if index = 0x4820 ∧ el < 2 ∧ (s.engine (engOf el)).state.coreOn = false then some (engOf el) else none

/-- The write of 6F00:01. An index that is absent, as those of circuit sealing are on an IDZ48-M1N, has no counters to clear: RANGE (12 Table 12-9; the
choice against ABSENT of 00 R2 is in log entry 163). -/
def effClear (_ : Session) (vs : List Nat) (s : State) : Act :=
  let index := vs.headD 0
  let el := vs.getD 1 0
  let bins := [0x6010, 0x6011, 0x6020, 0x6021].contains index
  if !s.reachable index || ((groupOf index).isEmpty && !bins) then .refuse (refusal stRange)
  else
    let objs := (objsOfIndex index).filter fun o => bins || !o.ctrs.isEmpty
    if !(objs.any fun o => (s.elemOf o el).isNone) then .refuse (refusal stAbsent)
    else match s.coldTarget index el with
    | some e => .done ((s.count 0x8200 2 4 0).count 0x8200 3 3 (8 + e)) (naming stState 0x5010 1 e) id
    | none =>
      let s := s.each (entitiesAt index el) fun e s => s.clearMon e
      let s : State := if index = 0x3840 then { s with fab.swCount := tdel s.fab.swCount el } else s
      let s : State := if index = 0x5F00 then (if el = 0 then { s with mgmt.cipher0 := {} } else { s with mgmt.cipher1 := {} }) else s
      ok (s.clearGroup index el)

/-- CLEAR_COUNTERS. -/
def execClearCounters (rq : Rq) (index element : Nat) (s : State) : Out :=
  run (writeOf rq 0x6F00 1 0 (beBytes 2 index ++ beBytes 4 element) effClear) s

end Sys2Proof.Machine
end

