-- ==== Sys2Proof/Machine/Protection.lean ====
section
/-! DEFINITION. The protection commands: pairs, line commands, circuit commands (07). -/

namespace Sys2Proof.Machine

/-! PROTECT_PORT_WRITE, PAIR_WRITE_TAKEN, PAIR_WRITE_TIMEOUT (07 R182 to R185). -/

/-- A port belongs to a pair other than that of a working port, in force or written. -/
def State.inOtherPair (s : State) (w p : Nat) : Bool :=
  s.prot.pairs.any fun e => e.1 != w && e.2.alive && (e.1 == p || e.2.protect == p || (e.2.pending && e.2.next == p))

/-- An armed activation, and a lease that nobody holds or comes to, refuse every pair write (07 R182, R185). -/
def State.pairBarred (s : State) : Option Ans :=
  match s.edit.armed with
  | some a => some (naming stState 0x4100 3 0 0x20 a.number)
  | none => if s.noLease then some (refusal stState 0x17) else none

/-- The refusals of R182 that do not need the shadow page. -/
def State.pairRefusal (s : State) (p v : Nat) : Option Ans :=
  let x := s.pair p
  let set := (if x.pending then x.next else x.protect) != 255
  if v ≠ 255 ∧ !s.isPort v then some (refusal stRange)
  else if v ≠ 255 ∧ (v = p ∨ s.width v ≠ s.width p) then some (refusal stConflict)
  else if v ≠ 255 ∧ (s.inOtherPair p p || s.inOtherPair p v || set) then some (refusal stConflict)
  else if v ≠ 255 ∧ s.forerunner v ≠ s.forerunner p then some (refusal stConflict)
  else match (if v = 255 then none else s.userOf v (s.width v)) with
    | some h => some (naming stState 0x4200 1 h)
    | none => s.pairBarred

/-- The write of 3800:01: it waits to be taken; a write that changes nothing is answered at once. -/
def effProtectPort (session tag p : Nat) (_ : Session) (vs : List Nat) (s : State) : Act :=
  let v := vs.headD 0
  let x := s.pair p
  let cur := if x.pending then x.next else x.protect
  if 48 ≤ v ∧ v ≠ 255 then .refuse (refusal stRange)
  else if v = cur ∧ (s.prot.writes.all fun w => w.port != p) = true then
    (match s.pairBarred with | some a => .refuse a | none => ok s)
  else match s.pairRefusal p v with
    | some a => .refuse a
    | none => .hold { s with prot.writes := s.prot.writes ++ [(⟨p, v, session, tag, s.now⟩ : PairWrite)] }

/-- PROTECT_PORT_WRITE. -/
def execProtectPortWrite (rq : Rq) (port : Nat) (protect : Nat) (s : State) : Out :=
  run (writeOf rq 0x3800 1 port (u8 protect) (effProtectPort rq.session rq.tag port)) s

/-- The shadow page with the mirrors of a pair, or without those of a removed one (07 R183). -/
def State.pairPage (s : State) (p v : Nat) : List Entry :=
  let x := s.pair p
  if v = 255 then
    let q := if x.pending then x.next else x.protect
    s.fab.shadow.filter fun e => !(e.mirror && decide (gaddr q 0 ≤ e.egress ∧ e.egress < gaddr (q + s.width p) 0))
  else
    insEntries ((s.fab.shadow.filter fun e => !e.mirror).flatMap (mirrorsOf [(p, v, s.width p)])) s.fab.shadow

/-- The limit of Table 5-5 that a page breaks, as an answer (07 R182). -/
def State.pageLimit (s : State) (page : List Entry) : Option Ans :=
  if fanoutBroken page then some (refusal stLimit 8)
  else match check9 page with
    | some n => some (refusal stLimit 9 n)
    | none => (budgetBreach s.remaps page).map fun wb => refusal stLimit 10 wb.1

/-- What holds a pair write: a page copy, 512 transactions in flight, a standby that wakes for admission. No seal point does: a write that meets an armed
activation is refused (07 R182, R185; log entry 56). -/
def State.pairHeld (s : State) : Bool :=
  s.fab.copyBusy || decide (512 ≤ s.edit.flight.length) || (!s.lease.admitted && !s.noLease)

/-- The transactions in flight are written to the edit journal (06 R164). -/
def State.journalFlight (s : State) : State := match s.edit.flight.getLast? with | some t => s.journalUpTo t | none => s

/-- A pair write is taken and applied to the shadow page, after the transactions accepted before it (07 R185). -/
def takePair (port : LaneId) (s : State) : State :=
  match s.prot.writes.find? fun w => w.port == (port : Nat) with
  | none => s
  | some w =>
    if s.pairHeld ∨ !s.sup.up then s
    else
      let s := { s with prot.writes := s.prot.writes.filter fun u => decide (u ≠ w) }
      match s.pairRefusal w.port w.protect with
      | some a => s.answerHeld w.session w.tag a
      | none =>
        let page := s.pairPage w.port w.protect
        let acc := s.accept.1
        let s := s.accept.2
        let t := s.modPair w.port fun x => { x with pending := w.protect != x.protect, next := w.protect }
        match t.pageLimit page with
        | some a => s.answerHeld w.session w.tag a
        | none =>
          let t := t.journalFlight.journalTrans (pageDiff s.fab.shadow page) (pageDiff page s.fab.shadow) acc
          let t := (t.include acc page).setStaged 0x3800 1 w.port [w.protect] (w.tag != 0xFFFF)
          t.answerHeld w.session w.tag {}

/-- PAIR_WRITE_TAKEN. -/
def execPairWriteTaken (port : LaneId) (s : State) : Out := run (takePair port) s

/-- A pair write that has not been taken within 4 s is answered BUSY. -/
def pairTimeout (port : LaneId) (s : State) : State :=
  match s.prot.writes.find? fun w => w.port == (port : Nat) && s.over w.since (secs 4) with
  | none => s
  | some w =>
    { s with prot.writes := s.prot.writes.filter fun u => decide (u ≠ w) }.answerHeld w.session w.tag (refusal stBusy)

/-- PAIR_WRITE_TIMEOUT. -/
def execPairWriteTimeout (port : LaneId) (s : State) : Out := run (pairTimeout port) s

/-- The write of 3800:02: a forerunner pair must be unidirectional (07 R206). -/
def effPairMode (p : Nat) (_ : Session) (vs : List Nat) (s : State) : Act :=
  let x := s.pair p
  guardAct (bit (vs.headD 0) 0 && (x.protect != 255 || x.pending) && s.forerunner p) (refusal stConflict)
    (ok (s.setStaged 0x3800 2 p vs))

/-- PAIR_MODE_WRITE. -/
def execPairModeWrite (rq : Rq) (port : Nat) (mode : Nat) (s : State) : Out :=
  run (writeOf rq 0x3800 2 port (u8 mode) (effPairMode port)) s

/-! HOLD_OFF_EXPIRY, PAIR_EVALUATION, WTR_EXPIRY (07 R187, R190, R191). -/

/-- The hold-off of one side ends: the request is raised if its condition is present, and the next rise starts the timer again. The state machines stop
while the supervisor restarts, and with the pair's cog (07 R187; 01 Table 1-2; 13 R327, R328). -/
def holdOffEnd (p : LaneId) (side : PairSide) (s : State) : State :=
  let x := s.pair p
  let dur := s.cfg 0x3800 4 p * 100000000
  if !s.sup.up || !s.cogServes p then s
  else match side with
  | .working => match x.holdW with
    | some t => if s.over t dur then s.modPair p fun x => { x with holdW := none, sfW := s.portFails p, condW := s.portFails p } else s
    | none => s
  | .protect => match x.holdP with
    | some t => if s.over t dur then s.modPair p fun x => { x with holdP := none, sfP := s.portFails x.protect, condP := s.portFails x.protect } else s
    | none => s

/-- HOLD_OFF_EXPIRY. -/
def execHoldOffExpiry (port : LaneId) (side : PairSide) (s : State) : Out := run (holdOffEnd port side) s

/-- The cogs evaluate every pair in force, in a frame whose count is a multiple of 8 (07 R190). -/
def evalPairs (s : State) : State :=
  if s.sup.up && decide (s.fab.frameNo % 8 = 0) then s.each ((s.inForce.map Prod.fst).filter s.cogServes) fun p s => s.runPair p else s

/-- PAIR_EVALUATION. -/
def execPairEvaluation (s : State) : Out := run evalPairs s

/-- The line wait-to-restore expires: the local request is NR from here on, or what has been written or raised meanwhile (07 R191, R193). -/
def lineWtrEnd (p : LaneId) (s : State) : State :=
  let x := s.pair p
  match x.wtr with
  | some t =>
    if x.state = 5 ∧ s.sup.up = true ∧ s.cogServes p = true ∧ s.over t (secs (60 * s.cfg 0x3800 3 p)) = true then
      let y := s.govern p x x.stored (localRequest x.stored x.sfP x.sfW (s.pairRev p) 0 false)
      let s := s.modPair p fun _ => y
      if x.selector != y.selector then s.count 0x3800 8 0 p else s
    else s
  | none => s

/-- WTR_EXPIRY. -/
def execWtrExpiry (port : LaneId) (s : State) : Out := run (lineWtrEnd port) s

/-! Line commands (07 R190). -/

/-- A command is outranked by a request that is present (07 R190). -/
def State.outranked (s : State) (p cmd : Nat) (x : Pair) : Bool :=
  let code := storedCode cmd
  let above (r : Nat) : Bool := requestRank r < requestRank code
  (x.sfP && above 0xE) || (x.sfW && above 0xB) || above (if x.stored = 0 then 0 else storedCode x.stored)
    || (let far := s.farRequest p x; far != 2 && requestRank far != 9 && above far)

/-- The write of 3800:05. -/
def effLine (p : Nat) (_ : Session) (vs : List Nat) (s : State) : Act :=
  let v := vs.headD 0
  let x := s.pair p
  if x.protect = 255 then .refuse (naming stState 0x3800 6 p)
  else if v ≠ 0 ∧ v ≠ 1 ∧ s.outranked p v x = true then .refuse (naming stState 0x3800 6 p)
  else ok (s.modPair p fun x => { x with stored := v })

/-- LINE_CLEAR. -/
def execLineClear (rq : Rq) (port : Nat) (s : State) : Out := run (writeOf rq 0x3800 5 port (u8 0) (effLine port)) s

/-- LOCKOUT_OF_PROTECTION. -/
def execLockoutOfProtection (rq : Rq) (port : Nat) (s : State) : Out := run (writeOf rq 0x3800 5 port (u8 1) (effLine port)) s

/-- FORCED_SWITCH. -/
def execForcedSwitch (rq : Rq) (port : Nat) (s : State) : Out := run (writeOf rq 0x3800 5 port (u8 2) (effLine port)) s

/-- MANUAL_SWITCH_TO_PROTECT. -/
def execManualSwitchToProtect (rq : Rq) (port : Nat) (s : State) : Out := run (writeOf rq 0x3800 5 port (u8 3) (effLine port)) s

/-- MANUAL_SWITCH_TO_WORKING. -/
def execManualSwitchToWorking (rq : Rq) (port : Nat) (s : State) : Out := run (writeOf rq 0x3800 5 port (u8 4) (effLine port)) s

/-! Mismatches (07 R195): minor alarms that name 3800:06, condition 1 mode, 2 selector. -/

/-- A mismatch timer has run out while the mismatch stands as given. -/
def State.mismatchDue (s : State) (x : Pair) (declared now : Bool) (since : Option Nat) (dur : Nat) : Bool :=
  declared != now && s.apsUp x && (match since with | some t => s.over t dur | none => false)

/-- Declare or clear the mode mismatch. -/
def modeMismatch (p : LaneId) (up : Bool) (s : State) : State :=
  let x := s.pair p
  if s.sup.up = true ∧ x.protect ≠ 255 ∧ s.modeBad p x = up ∧ s.mismatchDue x x.modeMis up x.modeSince (msecs 50) = true then
    let s := s.modPair p fun x => { x with modeMis := up, modeSince := none }
    if up then s.raiseOnce 1 0x3800 6 1 p else s.clearIf 0x3800 6 1 p
  else s

/-- MODE_MISMATCH_DECLARED. -/
def execModeMismatchDeclared (port : LaneId) (s : State) : Out := run (modeMismatch port true) s

/-- MODE_MISMATCH_CLEARED. -/
def execModeMismatchCleared (port : LaneId) (s : State) : Out := run (modeMismatch port false) s

/-- Declare or clear the selector mismatch. -/
def selectorMismatch (p : LaneId) (up : Bool) (s : State) : State :=
  let x := s.pair p
  if s.sup.up = true ∧ x.protect ≠ 255 ∧ s.selBad p x = up ∧ s.mismatchDue x x.selMis up x.selSince (secs 1) = true then
    let s := s.modPair p fun x => { x with selMis := up, selSince := none }
    if up then s.raiseOnce 1 0x3800 6 2 p else s.clearIf 0x3800 6 2 p
  else s

/-- SELECTOR_MISMATCH_DECLARED. -/
def execSelectorMismatchDeclared (port : LaneId) (s : State) : Out := run (selectorMismatch port true) s

/-- SELECTOR_MISMATCH_CLEARED. -/
def execSelectorMismatchCleared (port : LaneId) (s : State) : Out := run (selectorMismatch port false) s

/-! Circuit protection (07 R200 to R204). -/

/-- Time between two WTR ticks: a fifteenth of 3810:02 (07 R200). -/
def State.tickPeriod (s : State) : Nat := secs (4 * s.cfg 0x3810 2 0)

/-- A module-wide WTR tick falls: every running count takes it in step 4 of the coming boundary. None falls sooner after the last one than 3810:02 says. -/
def wtrTick (s : State) : State :=
  if s.over s.fab.tickAt s.tickPeriod then { s with fab.wtrTick := true, fab.tickAt := s.now } else s

/-- CIRCUIT_WTR_TICK. -/
def execCircuitWtrTick (s : State) : Out := run wtrTick s

/-- A selector whose last tick falls returns to its primary source (07 R200). -/
def wtrReached (i : Fin 262144) (s : State) : State :=
  match s.protRunsOf.find? fun p => p.2.selIdx == (i : Nat) with
  | some p => if s.fab.wtrTick && (s.selOf p.2).wtr == 1 then { s.evalRun p true with ending := s.keepEnding.ending } else s
  | none => s

/-- CIRCUIT_WTR_EXPIRY. -/
def execCircuitWtrExpiry (selector : Fin 262144) (s : State) : Out := run (wtrReached selector) s

/-- Change the selector state of every protected run of a circuit. -/
def State.modSels (s : State) (h : Nat) (f : Sel → Sel) : State :=
  s.each (s.protRunsOf.filter fun p => p.1.handle == h) fun p s => { s with fab.sel := tmod {} s.fab.sel p.2.selIdx f }

/-- The cog of a circuit's consequent-action policy (13 Table 13-1). -/
def policyCog (h : Nat) : Nat := 240 + h % 16

/-- The write of 3840:01: CMD in the cogs' copy, and in every protected run of the circuit once its cog runs (07 R202; 13 R327). -/
def effCircuitCmd (h : Nat) (_ : Session) (vs : List Nat) (s : State) : Act :=
  let v := vs.headD 0
  let s := { s with prot.cmdTbl := tput 0 s.prot.cmdTbl h v }
  ok (if s.cogServes (policyCog h) then s.modSels h fun x => { x with cmd := v } else s)

/-- CIRCUIT_COMMAND_NONE. -/
def execCircuitCommandNone (rq : Rq) (handle : Nat) (s : State) : Out := run (writeOf rq 0x3840 1 handle (u8 0) (effCircuitCmd handle)) s

/-- CIRCUIT_LOCKOUT. -/
def execCircuitLockout (rq : Rq) (handle : Nat) (s : State) : Out := run (writeOf rq 0x3840 1 handle (u8 1) (effCircuitCmd handle)) s

/-- CIRCUIT_FORCED. -/
def execCircuitForced (rq : Rq) (handle : Nat) (s : State) : Out := run (writeOf rq 0x3840 1 handle (u8 2) (effCircuitCmd handle)) s

/-- CIRCUIT_MANUAL. -/
def execCircuitManual (rq : Rq) (handle : Nat) (s : State) : Out := run (writeOf rq 0x3840 1 handle (u8 3) (effCircuitCmd handle)) s

/-- The write of 3840:02 (07 R203). -/
def effRevertive (h : Nat) (_ : Session) (vs : List Nat) (s : State) : Act :=
  let s := { s with fab.revTbl := tput 0 s.fab.revTbl h (vs.headD 0) }
  let s := s.each (s.protRunsOf.filter fun p => p.1.handle == h) fun p s => { s with prot.revs := tput 0 s.prot.revs p.2.selIdx (if s.revOf h then 1 else 2) }
  ok (s.modSels h fun x => { x with rev := s.revOf h })

/-- CIRCUIT_REVERTIVE_WRITE. -/
def execCircuitRevertiveWrite (rq : Rq) (handle : Nat) (value : Nat) (s : State) : Out :=
  run (writeOf rq 0x3840 2 handle (u8 value) (effRevertive handle)) s

/-- The cogs' copy of the REV of a run; a run that they have no copy of takes the setting. -/
def State.revCopy (s : State) (p : Entry × Companion) : Bool :=
  match tget 0 s.prot.revs p.2.selIdx with
  | 1 => true
  | 2 => false
  | _ => s.revOf p.1.handle

/-- CMD and REV of some circuits are written from the cogs' copy (07 R204). -/
def State.writeCopies (s : State) (some_ : Nat → Bool) : State :=
  s.each (s.protRunsOf.filter fun p => some_ p.1.handle) fun p s => { s with fab.sel := tmod {} s.fab.sel p.2.selIdx fun x =>
    { x with cmd := tget 0 s.prot.cmdTbl p.1.handle, rev := s.revCopy p } }

/-- The cogs write line selectors, which take effect at the next boundary, and CMD and REV back to a new holder (07 R191, R198, R204). -/
def writeBackSels (s : State) : State :=
  if s.prot.writeBack && s.lease.admitted && s.sup.up then
    { s with prot.writeBack := false }.writeCopies fun h => s.cogServes (policyCog h)
  else s

/-- SELECTOR_WRITE_BACK. -/
def execSelectorWriteBack (s : State) : Out := run writeBackSels s

end Sys2Proof.Machine
end

