-- ==== Sys2Proof/Machine/Supervisor.lean ====
section
/-! DEFINITION. The supervisor: boot slot, restarts, cogs, map audit, matrix, bolter, bandwidth counters; the loss of the port die (01 R16 to R18, 13, 15 R400). -/

namespace Sys2Proof.Machine

/-! The boot ROM's choice of an image (15 R400; 16 R423). -/

/-- An erase of a flash area is counted; at 100,000 the wear alarm's condition is present (16 R427). -/
def State.countErase (s : State) (area : Fin 14) : State :=
  let s := { s with persist.erases := tmod 0 s.persist.erases area (· + 1) }
  if 100000 ≤ tget 0 s.persist.erases area then s.noteCond (.flashWear area) true else s

/-- Note that an area is, or is no longer, left invalid. -/
def State.badArea (s : State) (n : Nat) (bad : Bool) : State :=
  let l := s.persist.badArea.filter fun x => x != n
  { s with persist.badArea := if bad then insKey n l else l }

/-- The 64 bytes of a header (16 Table 16-6), and the header of a copy that is valid: magic and CRC-16 as they must be. -/
def Header.bytes (h : Header) : Bytes := headerBytes h.seq h.preferred (b2n h.pendA + 2 * b2n h.pendB) h.countA h.countB
def Header.read (copy : Nat) (b : Bytes) : Option Header :=
  if b.length = 64 ∧ b.take 4 = [0x49, 0x44, 0x5A, 0x48] ∧ field b 62 2 = crc16 (b.take 62) then
    some { seq := field b 4 4, copy := copy, preferred := field b 8 1, pendA := bit (field b 9 1) 0, pendB := bit (field b 9 1) 1
           countA := field b 10 1, countB := field b 11 1 }
  else none

/-- A header goes into force, and its bytes into its copy. -/
def State.putHeader (s : State) (h : Header) : State :=
  if h.copy = 0 then { s with sec.header := h, sec.hdr0 := h.bytes } else { s with sec.header := h, sec.hdr1 := h.bytes }

/-- The boot ROM takes the valid copy with the greater sequence; where neither is valid, slot A is preferred with no trial, and copy 0 is rewritten
(16 R423, Table 16-4). -/
def State.takeHeader (s : State) : State :=
  match Header.read 0 s.sec.hdr0, Header.read 1 s.sec.hdr1 with
  | some a, some b => { s with sec.header := if a.seq < b.seq then b else a }
  | some a, none => { s with sec.header := a }
  | none, some b => { s with sec.header := b }
  | none, none => ((s.putHeader {}).countErase 0).badArea 0 false

/-- Write the flash header: to the other copy, with the sequence raised (16 R423). -/
def State.writeHeader (s : State) (f : Header → Header) : State :=
  let h := s.sec.header
  let c : Fin 14 := if h.copy = 0 then 1 else 0
  ((s.putHeader { f h with seq := (h.seq + 1) % 4294967296, copy := c }).countErase c).badArea c false

/-- Trial pending, and trial count, of a slot. -/
def Header.pend (h : Header) (t : Nat) : Bool := if t = 0 then h.pendA else h.pendB
def Header.trials (h : Header) (t : Nat) : Nat := if t = 0 then h.countA else h.countB

/-- Set them. -/
def Header.setTrial (h : Header) (t : Nat) (pending : Bool) (count : Nat) : Header :=
  if t = 0 then { h with pendA := pending, countA := count } else { h with pendB := pending, countB := count }

/-- A slot's image is valid at the present floor (15 R399). -/
def State.imageValid (s : State) (t : Nat) : Bool := (s.slot t).state == 1 && decide (s.sec.floor ≤ (s.slot t).secVersion)

/-- The record of a boot (15 Table 15-4): slot in bits [15:8], result in bits [7:0]. -/
def State.auditBoot (s : State) (slot result : Nat) : State :=
  if s.sup.restarting then { s with sup.bootRec := some (slot * 256 + result) } else s.audit (moduleRec 8 0x1020 1 0 (slot * 256 + result))

/-- The module enters recovery (15 R403). -/
def State.recovery (s : State) : State :=
  ({ s with sec.running := 255, sup.state := 3, sup.up := false, sup.restarting := false }).auditBoot 255 3

/-- The boot ROM chooses the slot (15 R400). -/
def State.bootSlot (s : State) : State :=
  let h := s.sec.header
  let ok (t : Nat) : Bool := s.imageValid t
  let trial := [0, 1].find? fun t => h.pend t && decide (h.trials t < 3)
  let stale := trial.isNone && (h.pendA || h.pendB)
  let s := if stale then s.writeHeader fun h => { h with pendA := false, pendB := false } else s
  let first := trial.getD h.preferred
  match (if ok first then some first else if ok (1 - first) then some (1 - first) else none) with
  | none => s.recovery
  | some t =>
    let p := s.sec.header.pend t
    let s := if p then s.writeHeader fun h => h.setTrial t true (h.trials t + 1) else s
    ({ s with sec.running := t, sup.handoffAt := s.now }).auditBoot t (if p then 1 else if stale || t != first then 2 else 0)

/-! Supervisor restart (01 R16, R17; 12 R319; 13 R325, R328). -/

/-- What an interruption of its cog leaves of an entity's seconds: every one not committed is not classified. -/
def Mon.interrupt (m : Mon) (due : Second → Bool) : Mon :=
  { m with queue := m.queue.map fun q => if due q then { q with cls := 0, bbe := 0, bits := 0, restart := true } else q }

/-- The latched second is not classified either. -/
def Mon.dropLatched (m : Mon) : Mon :=
  match m.latched with
  | some r => { (m.skip m.latchedAt m.latchedEnd r.unlocked) with latched := none }
  | none => m

/-- A commit that writes nothing: what it captured is staged again (14 R371). -/
def State.recommit (s : State) (result : Nat) : State :=
  { s with
    persist.committing := false, persist.lastResult := result, persist.captureKeys := [], persist.capture := []
    persist.staged := s.persist.captureKeys.foldl (fun l k => insKey k l) s.persist.staged }

/-- Work of the firmware that a restart cuts off: a commit, and a map checkpoint (16 R424). -/
def State.dropFlash (s : State) : State :=
  let s : State := if s.persist.committing then s.recommit stInternal else s
  match s.persist.mapWriting with
  | some a => { s with persist.mapWriting := none, persist.erased := s.persist.erased.set a false }
  | none => s

/-- The default master of a target (13 Table 13-3). -/
def defaultMaster (t : Nat) : Nat :=
  if t < 4 then 0 else if t < 8 then 2 else if t = 13 then 5 else if t = 15 then 1 else 0

/-- The master that a target is parked on, 0xFF none: its default master in normal service, otherwise the last one that it is known to have served
(13 R334; log entry 176). -/
def State.parkedOn (s : State) (t : Nat) : Nat :=
  if s.sup.state = 1 then defaultMaster t
  else match tget 0 s.sup.parked t with
    | 0 => defaultMaster t
    | n + 1 => n

/-- A supervisor restart begins, with its cause as 8000:01 codes it; `recover` enters recovery in place of the firmware (01 R16, R17; 15 R403). -/
def State.supRestart (s : State) (cause : Nat) (recover : Bool := false) : State :=
  if !s.power.supRail || !s.power.seated then s
  else
    let held := [1, 2, 3].filter s.almOutput
    let s := (s.count 0x8000 1 3 0).auditObj 0x8000 1 0
    let s := (s.closeAll 7).discardFlight.dropFlash
    let s := s.each s.entities fun e s => s.modMon e fun m => m.dropLatched.interrupt fun _ => true
    let s := { s with
      mgmt.handshakes := [], mgmt.flight := [], mgmt.kept := [], mgmt.snapshots := [], prot.writes := []
      store.hoppers := tmap {} s.store.hoppers fun _ x => { x with owner := 0, held := [], greeted := false, quiet := false }
      sup.up := false, sup.restarting := true, sup.alm := held, sup.state := 0, sup.again := true, sup.lastCause := cause
      sup.lastRestart := s.stamp, sup.startedAt := s.now
      sup.cogs := tmap {} s.sup.cogs fun _ x => { lastFault := x.lastFault, faults := x.faults, second := x.second && x.state != 2 }
      sup.passing := false, sup.passDue := false, sup.suspendedAt := none, sup.banks := tmap {} s.sup.banks fun _ x => { x with suspended := 0, tested := 0 }
      sup.restartNo := s.store.nextEvent, store.nextEvent := eventAfter s.store.nextEvent
      sup.parked := (List.range 16).map fun t => (t, if s.parkedOn t = 0 then 256 else s.parkedOn t + 1) }
    let s := (s.each (s.inForce.map Prod.fst) fun p s => s.modPair p fun x => { x with modeSince := none, selSince := none }).checkSealed
    if recover then s.recovery else s.bootSlot

/-- Causes of a restart (13 Table 13-7). -/
def restartCode : RestartCause → Nat
  | .powerUp => 0
  | .lockstep => 1
  | .headWatchdog => 2
  | .cogFaults => 3
  | .command => 4
  | .memory => 5

/-- SUPERVISOR_RESTART. -/
def execSupervisorRestart (cause : RestartCause) (s : State) : Out := run (fun s => s.supRestart (restartCode cause)) s

/-- The write of 8000:02: the response is sent before the restart. -/
def effRestartSup (_ : Session) (_ : List Nat) (s : State) : Act := .done s {} fun s => s.supRestart 4

/-- RESTART_SUPERVISOR. -/
def execRestartSupervisor (rq : Rq) (arg : Byte) (s : State) : Out := run (writeOf rq 0x8000 2 0 [arg] effRestartSup) s

/-- A head-core lockstep mismatch (13 R325). -/
def lockstep (s : State) : State := if s.power.supRail && s.power.seated then (s.count 0x8000 3 2 0).supRestart 1 else s

/-- LOCKSTEP_MISMATCH. -/
def execLockstepMismatch (s : State) : Out := run lockstep s

/-- The head-core watchdog may expire: a trial image that runs has not reached normal service within 60 s of its hand-off (15 R402); of another
image the spec states no condition, and the expiry is what the command tells. -/
def State.watchdogDue (s : State) : Bool :=
  !(decide (s.sec.running < 2) && s.sec.header.pend s.sec.running) || (s.sup.state != 1 && s.over s.sup.handoffAt (secs 60))

/-- HEAD_WATCHDOG: the trial count of a trial image rises at the boot that follows (15 R400, R402). -/
def execHeadWatchdog (s : State) : Out := run (fun s => if s.watchdogDue then s.supRestart 2 else s) s

/-- Without an armed activation, the shadow page is rebuilt as a copy of the active page (01 R17). -/
def State.rebuildShadow (s : State) : State :=
  if s.edit.armed.isSome then s
  else
    let s := (if s.fab.shadow = s.fab.active then s else s.journal 4 {} 0 0).revertPairs
    ({ s with fab.shadow := s.fab.active, edit.included := 0, edit.lastIncl := 0xFFFFFFFF } : State).orphanStreams

/-- A wait-to-restore of a pair's port starts its period again (07 R197; 13 R328). -/
def State.restartWtr (s : State) (p : Nat) : State := s.modPair p fun x => { x with wtr := x.wtr.map fun _ => s.now }

/-- The cogs clear every raised alarm whose condition went away during the restart (14 R383). -/
def State.clearGone (s : State) : State :=
  s.each (s.store.alarms.filter fun a => match a.cond with | some c => !s.condNow c | none => false) fun a s => s.clearAlarm a

/-- The record of the boot, once the firmware runs (15 R400). -/
def State.lateBootRec (s : State) : State :=
  match s.sup.bootRec with
  | some d => { s with sup.bootRec := none }.audit (moduleRec 8 0x1020 1 0 d)
  | none => s

/-- The time since the source was last heard begins anew: a restart causes no loss of source (10 R267). -/
def State.heardAgain (s : State) : State :=
  { s with tod.lastSampleAt := s.now, tod.foreign := s.tod.foreign.map fun (f : Foreign) => { f with last := s.now } }

/-- A supervisor restart ends: the firmware serves, and the cogs resume (01 R16, R17; 07 R197; 12 R319; 13 R334). -/
def restartEnd (s : State) : State :=
  if s.sup.restarting then
    let s := { s with sup.up := true, sup.restarting := false, sup.state := 1, sup.parked := [] }.lateBootRec.heardAgain.rebuildShadow
    let s := (s.markBins 5).each (s.inForce.map Prod.fst) fun p s => s.restartWtr p
    let s := s.each (List.finRange 256) fun c s => s.noteCond (.cogHeld c) false
    s.clearGone
  else s

/-- SUPERVISOR_RESTART_COMPLETE. -/
def execSupervisorRestartComplete (s : State) : Out := run restartEnd s

/-! The port die (01 R18; 11 Table 11-8; 16 R430). -/

/-- RW objects that the port die holds return to their start-up values when it starts again (14 Table 14-11). -/
def portRw (k : Nat) : Bool := [0x200008, 0x20200D, 0x500008].contains (k / 4294967296)

/-- Everything the port die holds is gone: lanes, frames, selectors, lease, governors, time, data keys (16 Table 16-7). -/
def State.portLost (s : State) : State :=
  let s := { s with
    lanes := [], ports := [], ending := none
    fab := { active := s.fab.active, shadow := s.fab.shadow, revTbl := s.fab.revTbl, swCount := s.fab.swCount }
    lease := {}
    tim := { ocxoOn := s.tim.ocxoOn, warm := s.tim.warm, calibration := s.tim.calibration, calibratedAt := s.tim.calibratedAt }
    tod := {}
    prot := {
      pairs := tmap {} s.prot.pairs fun p x => { protect := x.protect, next := x.next, pending := x.pending, modeMis := x.modeMis, selMis := x.selMis, aps1 := if x.protect = 255 then 0 else s.apsIdle p }
      writes := s.prot.writes, revs := s.prot.revs, cmdTbl := s.prot.cmdTbl }
    persist.dict := s.persist.dict.filter fun e => !portRw e.1 }
  let s := { s with sealing.slots := tmap {} s.sealing.slots fun _ x => { mark := x.mark }, sealing.tx := [], sealing.rx := [], sealing.records := [], sealing.sent := [] }
  let raw (t : Tab Mon) : Tab Mon := tmap {} t fun _ m => { m with raw := {}, latched := none }
  { s with pm.near := raw s.pm.near, pm.far := raw s.pm.far, pm.stream := raw s.pm.stream }

/-- A fault of the port die, or the loss of its rail: the transmitters go to electrical idle and traffic stops (01 R18). -/
def portFault (s : State) : State :=
  if !s.power.portRail then s
  else
    let linked := [s.engA, s.engB].map Engine.linked
    let s := { s with power.portFault := true }.portLost.watchTiming
    let s := if linked.getD 0 false then s.failEngine 0 7 else s
    (if linked.getD 1 false then s.failEngine 1 7 else s).watchEngines

/-- PORT_DIE_FAULT. -/
def execPortDieFault (s : State) : Out := run portFault s

/-! Cogs (13 R328). -/

/-- A cog. -/
def State.cog (s : State) (c : Nat) : Cog := tget {} s.sup.cogs c

/-- Change a cog. -/
def State.modCog (s : State) (c : Nat) (f : Cog → Cog) : State := { s with sup.cogs := tmod {} s.sup.cogs c f }

/-- A fault of a cog: it alone is reset; an access that was refused has had an error response (13 R333); the third within 1 h restarts the supervisor, and three more hold the cog in reset. -/
def cogFaulted (c : CogId) (kind : Nat) (s : State) : State :=
  if !s.sup.up || (s.cog c).state != 0 then s
  else
    let recent := s.now :: (s.cog c).faults.filter fun t => !s.over t (secs 3600)
    let s := (s.count 0x8010 2 0 c).modCog c fun x => { x with state := 1, lastFault := kind, faults := recent }
    let s := if kind = 3 then s.count 0x8200 2 4 (7 + (c : Nat) / 16) else s
    if 3 ≤ recent.length then
      if (s.cog c).second then (s.modCog c fun x => { x with state := 2, faults := [] }).noteCond (.cogHeld c) true
      else (s.modCog c fun x => { x with second := true, faults := [] }).supRestart 3
    else s.restartWtr c

/-- COG_WATCHDOG_EXPIRY. -/
def execCogWatchdogExpiry (cog : CogId) (s : State) : Out := run (cogFaulted cog 1) s

/-- Codes of a cog fault (13 Table 13-7). -/
def cogCode : CogFaultKind → Nat
  | .memory => 2
  | .refusedAccess => 3

/-- COG_FAULT. -/
def execCogFault (cog : CogId) (kind : CogFaultKind) (s : State) : Out := run (cogFaulted cog (cogCode kind)) s

/-- A reset cog runs again: circuit commands it missed reach the engines; seconds it should have committed are not classified, and its bins are marked (13 R328). -/
def cogBack (c : CogId) (s : State) : State :=
  if s.sup.up && (s.cog c).state == 1 then
    let s := (s.modCog c fun x => { x with state := 0 }).writeCopies fun h => policyCog h == (c : Nat)
    s.each (s.entities.filter fun e => entCog e == (c : Nat)) fun e s =>
      s.modMon e fun m => (m.interrupt fun q => s.over q.ended (secs 10)).mark 5
  else s

/-- COG_RELOADED. -/
def execCogReloaded (cog : CogId) (s : State) : Out := run (cogBack cog) s

/-! Map audit (13 R329). -/

/-- The fields of 8030:02. -/
def State.auditFields (s : State) : List Nat := [s.ctr 0x8030 2 1 0, s.sup.auditMs, s.sup.auditEntry, b2n s.sup.auditBad]

/-- A pass of the map audit ends; each mismatch is counted and written as an event, and the alarm follows. -/
def auditPass (bad : List Nat) (ms : Nat) (s : State) : State :=
  if !s.sup.up || !s.lease.admitted || s.fab.copyBusy || !s.cogServes 239 then s
  else
    let s := { s with sup.auditMs := ms }.count 0x8030 2 1 0
    let s := s.each bad fun e s =>
      let s := { s with sup.auditEntry := e, sup.auditBad := true }.count 0x8030 1 0 0
      s.event 4 0x8030 2 0 (joinFields [4, 4, 4, 1] s.auditFields)
    if bad.isEmpty then { s with sup.auditBad := false }.clearIf 0x8030 2 1 0 else s.raiseOnce 2 0x8030 2 1 0

/-- MAP_AUDIT_PASS. -/
def execMapAuditPass (mismatches : List Nat) (milliseconds : Nat) (s : State) : Out := run (auditPass mismatches milliseconds) s

/-! The bus matrix (13 R333 to R335). -/

/-- Table 13-2: what a master may reach. The key store answers only boot code, and the debug master is enabled only in recovery (13 R330, R331). -/
def State.mayReach (s : State) (m t : Nat) : Bool :=
  if m = 0 then t != 12 || !s.sup.up
  else if m < 5 then decide (t < 8) || t == 15
  else if m = 5 then decide (t < 8) || t == 13
  else if m = 6 then s.sup.state == 3 && t != 12
  else decide (t < 12) || t == 15

/-- The masters of DMA class (13 Table 13-2). -/
def dmaClass (m : Nat) : Bool := decide (1 ≤ m ∧ m ≤ 6)

/-- A DMA request that a scratchpad group holds back for 10 µs has starved at one of its eight banks for 4,000 cycles (13 R337; log entry 177). -/
def State.starve (s : State) (g : Nat) : State :=
  let b := 8 * g + s.free.1 % 8
  { s.free.2.countN 0x8120 1 0 b 4000 with sup.banks := tmod {} s.sup.banks b fun x => { x with wait := max x.wait 10000 } }

/-- An error response, counted at both ends (13 R333). -/
def State.errorResponse (s : State) (m t : Nat) : State := (s.count 0x8200 3 3 t).count 0x8200 2 4 m

/-- A transaction gets no response for 10 µs: an error response, counted at both ends. An access that Table 13-2 refuses gets its error response at
once, and no timeout. -/
def matrixTimeout (m : MasterId) (t : TargetId) (s : State) : State :=
  if !s.power.supRail then s
  else if !s.mayReach m t then s.errorResponse m t
  else
    let s := (s.count 0x8200 3 2 t).errorResponse m t
    let s := if dmaClass m && decide ((t : Nat) < 8) then s.starve t else s
    if s.sup.state = 1 then s else { s with sup.parked := tput 0 s.sup.parked t (m + 1) }

/-- MATRIX_TIMEOUT. -/
def execMatrixTimeout (master : MasterId) (target : TargetId) (s : State) : Out := run (matrixTimeout master target) s

/-- A closed bin lost with its wheel's memory leaves an empty history entry (12 R319). -/
def Bin.lost (b : Bin) : Bin := { used := true, start := b.start, flags := 7 }

/-- A wheel is reset: its cogs, and the closed bins it held. -/
def State.resetWheel (s : State) (w : Nat) : State :=
  let s := s.each ((List.range 16).map (16 * w + ·)) fun c s =>
    (s.modCog c fun x => if x.state = 2 then x else { x with state := 1 }).restartWtr c
  s.each (s.entities.filter fun e => entWheel e == w) fun e s =>
    s.modMon e fun m => { m with closed15 := m.closed15.map Bin.lost, closed24 := m.closed24.map Bin.lost }

/-- A master is reset alone, with what the matrix had open for it; M0 is not (13 R330, R335). -/
def masterReset (m : MasterId) (o : ResetObs) (s : State) : State :=
  if m = 0 ∨ s.power.supRail = false then s
  else
    let s := s.count 0x8200 2 3 m
    let lost := (List.range 16).filter fun t => s.parkedOn t == (m : Nat)
    let rec_ := [(m : Nat), o.target, o.beatsWritten, o.beatsLeft, o.responsesOwed, s.stamp]
    let s := { s with sup.lastReset := rec_, sup.parked := lost.foldl (fun p t => tput 0 p t 256) s.sup.parked }
    let s := s.event 1 0x8200 4 0 (joinFields [1, 1, 1, 1, 1, 10] rec_)
    if 7 ≤ (m : Nat) then s.resetWheel (m - 7) else s

/-- MASTER_RESET. -/
def execMasterReset (master : MasterId) (o : ResetObs) (s : State) : Out := run (masterReset master o) s

/-! Scratchpad and bolter (13 R339 to R343). -/

/-- A scratchpad bank, and a change of one. -/
def State.bank (s : State) (b : Nat) : Bank := tget {} s.sup.banks b
def State.modBank (s : State) (b : Nat) (f : Bank → Bank) : State := { s with sup.banks := tmod {} s.sup.banks b f }

/-- Retired banks. -/
def State.retired (s : State) : Nat := s.sup.banks.countP fun e => e.2.retired

/-- The first bank from b on that a pass tests: on, not interrupt-critical, not retired. -/
def State.nextBank (s : State) (b : Nat) : Option Nat :=
  (List.range 64).find? fun i => decide (max 4 b ≤ i) && (s.bank i).power == 2 && !(s.bank i).retired

/-- No slice has been tested or suspended in the pass that begins (13 R342). -/
def State.freshSlices (s : State) : State := { s with sup.banks := tmap {} s.sup.banks fun _ x => { x with suspended := 0, tested := 0 } }

/-- A pass begins. -/
def State.startPass (s : State) : State :=
  match s.nextBank 0 with
  | some b => { s.freshSlices with sup.passing := true, sup.passAt := s.now, sup.bolterBank := b, sup.bolterSlice := 0, sup.suspendedAt := none }
  | none => { s with sup.passAt := s.now }.count 0x8110 2 4 0

/-- A pass ends; one that fell due meanwhile begins. -/
def State.endPass (s : State) : State :=
  let s := { s with sup.passing := false, sup.suspendedAt := none }.count 0x8110 2 4 0
  if s.sup.passDue then { s with sup.passDue := false }.startPass else s

/-- The bolter goes on to the bank after b. -/
def State.advanceBank (s : State) (b : Nat) : State :=
  match s.nextBank (b + 1) with
  | some c => { s with sup.bolterBank := c, sup.bolterSlice := 0 }
  | none => s.endPass

/-- The bolter goes on to the next slice. -/
def State.advance (s : State) : State :=
  let b := s.sup.bolterBank
  let s : State := { s.modBank b (fun x => { x with suspended := 0, tested := (x.tested + 1) % 64 }) with sup.suspendedAt := none }
  if s.sup.bolterSlice + 1 < 64 then { s with sup.bolterSlice := s.sup.bolterSlice + 1 } else s.advanceBank b

/-- A bank is retired; a ninth one, or an interrupt-critical one, restarts the supervisor, which enters recovery with nine (13 R339; 16 Table 16-4). -/
def State.retireBank (s : State) (b : Nat) : State :=
  let s := s.modBank b fun x => { x with power := 0, retired := true, suspended := 0, tested := 0 }
  if 9 ≤ s.retired then s.supRestart 5 true else if b < 4 then s.supRestart 5 else s

/-- A slice of the preserving march ends as given. -/
def marchSlice (b : BankId) (k : Fin 64) (r : SliceResult) (s : State) : State :=
  if !s.sup.passing || s.sup.bolterBank != (b : Nat) || s.sup.bolterSlice != (k : Nat) || s.sup.suspendedAt.isSome then s
  else match r with
    | .passed => s.advance
    | .failed => (s.advanceBank b).retireBank b
    | .suspended =>
      let s := (s.count 0x8110 2 5 0).modBank b fun x => { x with suspended := x.suspended + 1 }
      if 16 ≤ (s.bank b).suspended then (s.count 0x8110 2 6 0).advance else { s with sup.suspendedAt := some s.now }

/-- MARCH_SLICE. -/
def execMarchSlice (bank : BankId) (slice : Fin 64) (result : SliceResult) (s : State) : Out := run (marchSlice bank slice result) s

/-- A suspended slice starts again after 10 µs without a processor access. -/
def sliceAgain (s : State) : State :=
  match s.sup.suspendedAt with
  | some t => if s.over t 10000 then { s with sup.suspendedAt := none } else s
  | none => s

/-- SLICE_RESUME. -/
def execSliceResume (s : State) : Out := run sliceAgain s

/-- A pass falls due; one that runs delays it, which is counted. -/
def passDue (s : State) : State :=
  if !s.sup.up || !s.over s.sup.passAt (secs (3600 * s.cfg 0x8110 1 0)) then s
  else if !s.sup.passing then s.startPass
  else if s.sup.passDue then s
  else { s with sup.passDue := true }.count 0x8110 2 7 0

/-- MARCH_PASS_DUE. -/
def execMarchPassDue (s : State) : Out := run passDue s

/-- The write of 8110:03. -/
def effStartPass (_ : Session) (_ : List Nat) (s : State) : Act :=
  guardAct s.sup.passing (refusal stState) (ok s.startPass)

/-- START_MARCH_PASS. -/
def execStartMarchPass (rq : Rq) (arg : Byte) (s : State) : Out := run (writeOf rq 0x8110 3 0 [arg] effStartPass) s

/-- An uncorrectable scratchpad word: an error response; in firmware, dictionary or journal the supervisor restarts (13 R339). -/
def scratchError (b : BankId) (use : ScratchUse) (s : State) : State :=
  if !s.power.supRail then s
  else
    let s := (s.count 0x8120 3 0 b).count 0x8200 3 3 ((b : Nat) / 8)
    match use with
    | .other => s
    | .firmware => s.supRestart 5
    | .dictionary => s.supRestart 5
    | .journal => s.supRestart 5

/-- SCRATCHPAD_ECC_UNCORRECTABLE. -/
def execScratchpadEccUncorrectable (bank : BankId) (use : ScratchUse) (s : State) : Out := run (scratchError bank use) s

/-! Bandwidth counters (13 R344). -/

/-- Matrix ports: masters 0 to 22, targets 32 to 47. -/
def matrixPorts : List Nat := List.range 23 ++ (List.range 16).map (32 + ·)

/-- The counts of a window that ends. -/
def windowCount (cs : List PortCounts) (p sub : Nat) : Nat :=
  match cs.find? fun c => c.port == p with
  | some c => if sub = 1 then c.beatsRead else if sub = 2 then c.beatsWritten else if sub = 3 then c.stalled else c.grants
  | none => 0

/-- The window ends: its counts replace the values for every port. -/
def windowEnd (cs : List PortCounts) (s : State) : State :=
  if !s.sup.up || !s.over s.sup.windowAt (msecs (s.cfg 0x8300 1 0)) then s
  else
    let put (c : Tab Ctr) (p sub : Nat) : Tab Ctr := tmod {} c (ctrKey 0x8310 sub 0 p) fun x => { x with val := BitVec.ofNat 32 (windowCount cs p sub) }
    { s with
      sup.windowAt := s.now
      cnt := matrixPorts.foldl (fun c p => put (put (put (put c p 1) p 2) p 3) p 4) s.cnt }

/-- BANDWIDTH_WINDOW_END. -/
def execBandwidthWindowEnd (counts : List PortCounts) (s : State) : Out := run (windowEnd counts) s

/-- The write of 8300:01: the window ends without results, and every 8310 group clears. -/
def effWindow (_ : Session) (vs : List Nat) (s : State) : Act :=
  let s := { s.setStaged 0x8300 1 0 vs with sup.windowAt := s.now }
  ok (s.each matrixPorts fun p s => s.clearGroup 0x8310 p)

/-- BANDWIDTH_WINDOW_WRITE. -/
def execBandwidthWindowWrite (rq : Rq) (milliseconds : Nat) (s : State) : Out :=
  run (writeOf rq 0x8300 1 0 (beBytes 2 milliseconds) effWindow) s

end Sys2Proof.Machine
end

