-- ==== Sys2Proof/Machine/Power.lean ====
section
/-! DEFINITION. Feeds, KEEP, presence, reset, start-up, feed loss; flash areas, commit, map checkpoints, restoration of defaults (16; 14 R371). -/

namespace Sys2Proof.Machine

/-! Flash areas 8 to 11 (16 R424 to R427): numbered 0 and 1 (dictionary copies), 2 and 3 (map checkpoints). -/

/-- The area's element in Table 16-5. -/
def flashArea (a : Nat) : Fin 14 := Fin.ofNat 14 (8 + a % 4)

/-- A dictionary copy; a map checkpoint. -/
def State.copy (s : State) (a : Nat) : DictCopy := if a = 0 then s.persist.copy0 else s.persist.copy1
def State.setCopy (s : State) (a : Nat) (c : DictCopy) : State :=
  if a = 0 then { s with persist.copy0 := c } else { s with persist.copy1 := c }
def State.map (s : State) (a : Nat) : Image := if a = 2 then s.persist.map0 else s.persist.map1
def State.setMap (s : State) (a : Nat) (i : Image) : State :=
  if a = 2 then { s with persist.map0 := i } else { s with persist.map1 := i }

/-- The area that is not valid, or that with the lower sequence: the next write goes there (16 R424). -/
def older (v0 : Bool) (q0 : Nat) (v1 : Bool) (q1 : Nat) : Nat :=
  if !v0 then 0 else if !v1 then 1 else if q1 < q0 then 1 else 0
def State.nextCopy (s : State) : Nat := older s.persist.copy0.valid s.persist.copy0.seq s.persist.copy1.valid s.persist.copy1.seq
def State.nextMap (s : State) : Nat := 2 + older s.persist.map0.valid s.persist.map0.seq s.persist.map1.valid s.persist.map1.seq

/-- The newest valid dictionary copy. -/
def State.newestCopy (s : State) : Option Nat :=
  let a := 1 - s.nextCopy
  if (s.copy a).valid then some a else if (s.copy (1 - a)).valid then some (1 - a) else none

/-- Erased; being erased; the erase budget. -/
def State.erasedArea (s : State) (a : Nat) : Bool := s.persist.erased.getD a false
def State.erasingArea (s : State) (a : Nat) : Option Nat := s.persist.eraseAt.getD a none
def State.budgetOf (s : State) (a : Nat) : Nat := s.persist.budget.getD a 0

/-- Begin the erase of an area, where its budget allows; otherwise it waits (16 R425, R427). -/
def State.startErase (s : State) (a : Nat) : State :=
  if s.erasedArea a || (s.erasingArea a).isSome || s.budgetOf a == 0 then s
  else
    let s := { s with
      persist.budget := s.persist.budget.set a (s.budgetOf a - 1)
      persist.eraseAt := s.persist.eraseAt.set a (some s.now) }.countErase (flashArea a)
    if a < 2 then s.setCopy a { s.copy a with valid := false } else s.setMap a { s.map a with valid := false }

/-- The areas that the next commit and the next checkpoint need are erased in advance (16 R425). -/
def State.eraseAhead (s : State) : State :=
  let s := if s.persist.committing then s else s.startErase s.nextCopy
  if s.persist.mapWriting.isSome then s else s.startErase s.nextMap

/-- Milliseconds of an erase that are still needed, of 800 at most. -/
def State.eraseLeft (s : State) (since : Nat) : Nat := 800 - (s.now - since) / 1000000

/-- The flash layout (16 Table 16-5): first and last byte of each area, and of the rest, which is kept erased. -/
def areaSpan : List (Nat × Nat) :=
  [(0x00000000, 0x0000FFFF), (0x00010000, 0x0001FFFF), (0x00020000, 0x0003FFFF), (0x00040000, 0x000BFFFF), (0x000C0000, 0x000FFFFF),
   (0x00100000, 0x001FFFFF), (0x00200000, 0x009FFFFF), (0x00A00000, 0x011FFFFF), (0x01200000, 0x015FFFFF), (0x01600000, 0x019FFFFF),
   (0x01A00000, 0x031FFFFF), (0x03200000, 0x049FFFFF), (0x04A00000, 0x04A1FFFF), (0x04A20000, 0x04C2FFFF)]
def reservedSpan : Nat × Nat := (0x04C30000, 0x07FFFFFF)

/-- Bytes and sectors of 64 KB of an area. -/
def areaSize (a : Nat) : Nat := let p := areaSpan.getD a (0, 0); p.2 + 1 - p.1
def areaSectors (a : Nat) : Nat := areaSize a / 65536

/-- A sector of an image slot has been erased; the next one that the image needs follows (15 R401). -/
def Slot.nextSector (x : Slot) (now : Nat) : Slot :=
  { x with erased := x.erased + 1, erasing := if x.erased + 1 < x.need then some now else none }

/-- An erase ends (16 R425, R427; 11 R428 for the key marks; 15 R391, R401). -/
def eraseEnd (n : Fin 14) (ok : Bool) (s : State) : State :=
  let s := if ok then s else s.count 0xA020 3 2 0
  let k := (n : Nat)
  if 8 ≤ k ∧ k ≤ 11 then
    if (s.erasingArea (k - 8)).isNone then s
    else
      let s := { s with persist.eraseAt := s.persist.eraseAt.set (k - 8) none, persist.erased := s.persist.erased.set (k - 8) ok }
      s.badArea k !ok
  else
    let s := s.countErase n
    if k = 3 then { s with persist.markOk := ok, persist.markFree := if ok then 8192 else s.persist.markFree }
    else if k = 4 then { s with persist.enrolOk := ok }
    else if k = 6 ∨ k = 7 then s.modSlot (k - 6) fun x => if ok && x.erasing.isSome then x.nextSector s.now else x
    else s.badArea k !ok

/-- FLASH_ERASE_COMPLETE: the flash works only while the supervisor has power. -/
def execFlashEraseComplete (area : Fin 14) (ok : Bool) (s : State) : Out :=
  run (fun s => if s.power.supRail then eraseEnd area ok s else s) s

/-- Every 2 h each budget gains one unit, to 24; what waited for one begins (16 R427). -/
def budgetUnit (s : State) : State :=
  if s.power.supRail && s.over s.persist.budgetAt (secs 7200) then
    { s with persist.budget := s.persist.budget.map fun b => min 24 (b + 1), persist.budgetAt := s.now }.eraseAhead
  else s

/-- ERASE_BUDGET_UNIT. -/
def execEraseBudgetUnit (s : State) : Out := run budgetUnit s

/-! COMMIT and COMMIT_COMPLETE (14 R371; 16 R425, R427). -/

/-- The write of 9120:01. -/
def effCommit (_ : Session) (_ : List Nat) (s : State) : Act :=
  let a := s.nextCopy
  if s.persist.committing then .refuse (refusal stBusy 0x48)
  else if s.persist.staged.isEmpty then ok s
  else if s.erasedArea a then
    .hold { s with
      persist.committing := true, persist.staged := [], persist.captureKeys := s.persist.staged
      persist.capture := s.persist.dict.filter fun e => s.persist.staged.contains e.1 }
  else match s.erasingArea a with
    | some t => .refuse (refusal stBusy 0x51 (s.eraseLeft t))
    | none =>
      if s.budgetOf a = 0 then
        .done (s.count 0xA020 3 4 0) (refusal stLimit 0x50 (7200 - (s.now - s.persist.budgetAt) / 1000000000)) id
      else .refuse (refusal stBusy 0x51 800)

/-- COMMIT. -/
def execCommit (rq : Rq) (arg : Byte) (s : State) : Out := run (writeOf rq 0x9120 1 0 [arg] effCommit) s

/-- Answer the COMMIT in flight. -/
def State.answerCommit (s : State) (a : Ans) : State :=
  match s.mgmt.flight.find? fun f => f.req.index == 0x9120 && f.req.sub == 1 with
  | some f => s.answerHeld f.session f.req.tag a
  | none => s

/-- The values of a new dictionary copy: those committed before, with the captured ones in their place. -/
def State.merged (s : State) : Tab (List Nat) :=
  let base : Tab (List Nat) := match s.newestCopy with | some a => (s.copy a).values | none => []
  s.persist.captureKeys.foldl (fun t k => tput [] t k (tget [] s.persist.capture k)) base

/-- A dictionary copy with its descriptor. The layout of the content is the module's own, so its bytes are a free value (log entry 175). -/
def copyOf (seq : Nat) (vals : Tab (List Nat)) : DictCopy :=
  let b := Config.dictionaryBytes vals
  { valid := true, seq := seq, length := b.length, digest := Sys2Proof.Machine.digest b, values := vals }

/-- A checkpoint with its descriptor, in the same way. -/
def Image.described (i : Image) : Image :=
  let b := Config.mapBytes (i.page.map fun e => [e.egress, e.len, e.kind, e.ingress, e.ca, e.handle, e.leg])
  { i with length := b.length, digest := Sys2Proof.Machine.digest b }

/-- The commit ends: its copy is written and verified, or the flash write has failed. -/
def commitEnd (verified : Bool) (s : State) : State :=
  if !s.persist.committing then s
  else
    let a := s.nextCopy
    let seq := max s.persist.copy0.seq s.persist.copy1.seq + 1
    let vals := s.merged
    let s := { s with
      persist.committing := false, persist.erased := s.persist.erased.set a false
      persist.lastResult := if verified then stOk else stInternal }
    if verified then
      let s := (s.setCopy a (copyOf seq vals)).badArea (8 + a) false
      let s := ({ s with persist.lastCommit := s.stamp, persist.captureKeys := [], persist.capture := [] }).count 0x9120 3 5 0
      (s.noteCond .settingsNotRestored false).eraseAhead.answerCommit {}
    else
      (((s.recommit stInternal).count 0xA020 3 1 0).badArea (8 + a) true).eraseAhead.answerCommit (refusal stInternal)

/-- COMMIT_COMPLETE. -/
def execCommitComplete (verified : Bool) (s : State) : Out := run (commitEnd verified) s

/-! Map checkpoints (16 R424, R426). -/

/-- A due checkpoint starts once its area is erased, 10 s have passed since the last one started, and no page copy runs. -/
def mapStart (s : State) : State :=
  let a := s.nextMap
  if s.sup.up && s.persist.mapDueAt.isSome && s.persist.mapWriting.isNone && s.lease.admitted && s.erasedArea a && !s.fab.copyBusy
      && s.over s.persist.mapAt (secs 10) then
    { s with
      persist.mapWriting := some a, persist.mapAt := s.now
      persist.mapImage := s.imageNow (max s.persist.map0.seq s.persist.map1.seq + 1) }
  else s

/-- MAP_CHECKPOINT_START. -/
def execMapCheckpointStart (s : State) : Out := run mapStart s

/-- A checkpoint ends, with its descriptor; one that does not verify leaves its area invalid, to be retried. -/
def mapEnd (verified : Bool) (s : State) : State :=
  match s.persist.mapWriting with
  | none => s
  | some a =>
    let s := { s with persist.mapWriting := none, persist.erased := s.persist.erased.set a false }
    if verified then
      let s := ({ s.setMap a s.persist.mapImage.described with persist.mapDueAt := none, edit.reconciled := false }.badArea (8 + a) false).count 0xA020 2 7 0
      (s.noteCond .checkpointDue false).pruneJournal.eraseAhead
    else ((s.count 0xA020 3 1 0).badArea (8 + a) true).eraseAhead

/-- MAP_CHECKPOINT_COMPLETE. -/
def execMapCheckpointComplete (verified : Bool) (s : State) : Out := run (mapEnd verified) s

/-! What a reset, or the loss of every rail, takes away (16 R415, Table 16-7). -/

/-- What flash keeps. -/
def Persist.flash (p : Persist) : Persist :=
  let a := older p.copy0.valid p.copy0.seq p.copy1.valid p.copy1.seq
  let erased := if p.committing then p.erased.set a false else p.erased
  { p with
    dict := [], staged := [], committing := false, capture := [], captureKeys := [], lastCommit := 0, lastResult := 0
    mapWriting := none, mapImage := {}, mapDueAt := none
    erased := (match p.mapWriting with | some m => erased.set m false | none => erased), eraseAt := [none, none, none, none] }

/-- What the key store's flash, the audit journal and the tamper latch keep. -/
def Security.flash (x : Security) : Security :=
  let cut (t : Slot) : Slot := { t with state := if t.state = 3 then 2 else t.state, erasing := none }
  { x with hot := false, volt := [], buffer := [], bufferAt := 0, authCount := 0, authAt := 0, measured := [], reports := [], slotA := cut x.slotA, slotB := cut x.slotB }

/-- Every volatile state is lost; the OCXO is not touched (16 R415). -/
def State.volatileLost (s : State) : State :=
  { ({} : State) with
    pending := s.pending, now := s.now, fresh := s.fresh, out := s.out
    power := { s.power with supRail := false, portRail := false, portFault := false, step := 1, toTraffic := 0, removed := [], fail := false }
    persist := s.persist.flash
    tim.ocxoOn := s.tim.ocxoOn, tim.warm := s.tim.warm, tim.calibration := s.tim.calibration, tim.calibratedAt := s.tim.calibratedAt
    sealing.slots := tmap {} s.sealing.slots (fun _ x => { mark := x.mark }), sealing.chanMark := s.sealing.chanMark
    mgmt.link := s.mgmt.link
    sec := s.sec.flash }

/-- The OCXO loses its supply. -/
def State.ocxoOff (s : State) : State := { s with tim.ocxoOn := none, tim.warm := false }

/-- Some reset condition holds (16 R415). -/
def State.inReset (s : State) : Bool := !s.power.resetN || s.power.present.contains true || s.power.internal || s.power.thermal

/-- A feed is valid and its switch is closed (16 R411). -/
def State.feeds (s : State) (f : Nat) : Bool := s.power.valid.getD f false && !s.power.hsOpen.getD f false
def State.powered (s : State) : Bool := s.feeds 0 || s.feeds 1

/-- Start-up may begin (16 R414). -/
def State.startable (s : State) : Bool := s.power.seated && !s.inReset && s.powered

/-- An internal reset begins, with the cause that the start-up after it shows; it lasts for a time at least (16 R415). -/
def State.internalReset (s : State) (cause dur : Nat) : State :=
  let s := s.volatileLost
  { s with power.internal := true, power.internalAt := s.now, power.retryAt := some (s.now + dur), power.cause := cause }

/-! Start-up, step by step (16 R418 to R421). -/

/-- The settings of the pairs in a dictionary, in force (07 R182; 16 R421). -/
def State.restorePairs (s : State) : State :=
  { s with prot.pairs := (s.elemsOf 0x3800 1).foldl (fun t p =>
      let v := s.cfg 0x3800 1 p
      if v = 255 then t else tput {} t p (({ next := v, pending := true } : Pair).activate (s.apsIdle p))) [] }

/-- Step 7: the port die starts; enabled lanes begin bring-up. -/
def State.startPortDie (s : State) : State :=
  let s := { s with power.portRail := true, power.portFault := false }
  let s := s.each (List.finRange 48) fun l s => if s.cfg 0x2000 1 l = 1 then (s.setLane l (s.freshLane l)).settle l else s
  s.evalRefs.watchTiming

/-- A position lies in the same port, of the same width, as when an image was written (16 R421). -/
def State.samePort (s : State) (i : Image) (p : Nat) : Bool :=
  i.ports.isEmpty || (i.ports.getD p 48 == s.portOf p && i.ports.count (s.portOf p) == s.width (s.portOf p))

/-- Logical positions an entry names: egress, ingress, alternate. -/
def Entry.places (e : Entry) : List Nat :=
  positions e.egress e.slots ++ (if e.kind = 0 then positions e.ingress e.slots else [])
    ++ (match e.alt with | some c => positions c.altIn e.slots | none => [])

/-- A circuit of a loaded page cannot stay (16 R421). -/
def State.mustGo (s : State) (i : Image) (remap : List (Nat × Nat × Nat)) (page : List Entry) (h : Nat) : Bool :=
  (page.any fun e => e.handle == h && !e.mirror &&
    ((i.page.contains e && e.places.any fun p => !s.samePort i p)
      || remap.any fun r => e.touches (gaddr r.2.1 0) (r.2.2 * 768000)))
    || (s.sealCheck1 page h).isSome

/-- A page with some circuits removed and the mirrors of the pairs given. -/
def repage (remap : List (Nat × Nat × Nat)) (gone : List Nat) (page : List Entry) : List Entry :=
  let kept := page.filter fun e => !e.mirror && !gone.contains e.handle
  insEntries (kept.flatMap (mirrorsOf remap)) kept

/-- The handles of a page in ascending order. -/
def handlesOf (pages : List Entry) : List Nat := pages.foldl (fun l e => insKey e.handle l) []

/-- The newest valid map checkpoint is loaded, with the journal replayed where KEEP has kept it, and reconciled with the dictionary (16 R420, R421, R431). -/
def State.loadMap (s : State) : State :=
  let i := s.newestMap
  let (a, b) := replay i s.edit.journal
  let gone := (handlesOf (a ++ b)).filter fun h => s.mustGo i s.pairsInForce a h || s.mustGo i s.remaps b h
  let a' := repage s.pairsInForce gone a
  let b' := repage s.remaps gone b
  let s := { s with fab.active := a', fab.shadow := b', power.removed := gone, edit.reconciled := decide (a' ≠ a) }
  let s := s.each s.protRunsOf fun p s => { s with prot.revs := tput 0 s.prot.revs p.2.selIdx (if s.revCopy p then 1 else 2) }
  let s := if gone.isEmpty then s else s.event 1 0xA010 3 0 (gone.flatMap (beBytes 4))
  let s := s.reloadStreams
  if s.edit.reconciled || decide (i.number < s.edit.activeNo) then s.mapDue else s

/-- Step 8 for one engine: march and repairs, load, links; it is ready to claim (16 Table 16-3). -/
def State.startEngine (s : State) (e : EngId) (bad : List (Fin 640)) (good : Bool) : State :=
  let i := { s.newestMap with page := s.fab.active, c := s.edit.actPos }
  let r := repairAll [] (bad.map Fin.val)
  let s := s.modEngine e fun _ => { repairs := r.1, hbAt := s.now }
  if !r.2 then s.unusableEngine e
  else if good then s.modEngine e fun x => { x with
      state := .armed, area0 := i, refreshedAt := s.now, refreshHead := s.edit.head, armedAt := s.now }
  else s.failEngine e 9

/-- Steps 7 and 8, begun together (16 R418). -/
def State.startTraffic (s : State) (o : BootObs) : State :=
  let s := s.startPortDie.loadMap
  let s := (s.startEngine 0 o.badA o.okA).startEngine 1 o.badB o.okB
  { s with power.step := 8, power.fail := false, fab.tickAt := s.now, lease.expiry := s.cfg 0x5000 1 0 }.watchEngines

/-- Step 4: a bank is on, or retired where it failed the march (13 R341). -/
def startBanks (bad : List BankId) : Tab Bank :=
  (List.finRange 64).map fun (b : BankId) => ((b : Nat), if bad.contains b then { retired := true } else { power := 2 })

/-- Step 6: the dictionary is restored from the newer valid copy (16 Tables 16-3, 16-4). -/
def State.restoreDict (s : State) : State :=
  let s : State := match s.newestCopy with
    | some a => { s with persist.dict := (s.copy a).values, persist.copyTaken := a, sec.measured := (s.copy a).values }
    | none => { s with persist.dict := [], persist.copyTaken := 255 }.noteCond .settingsNotRestored (!s.persist.restored)
  s.restorePairs

/-- The newest valid checkpoint's numbers go on from where it stands (16 R420, R426). -/
def State.restoreMap (s : State) : State :=
  let i := s.newestMap
  let any := s.persist.map0.valid || s.persist.map1.valid
  let s := s.noteCond .mapNotRestored (!any && !s.persist.restored)
  { s with
    persist.mapTaken := if any then 1 - (s.nextMap - 2) + 10 else 255, persist.restored := false
    edit.head := i.c, edit.actPos := i.c, edit.activeNo := i.number, edit.nextAct := if any then (i.number + 1) % 4294967296 else 1 }

/-- The wear alarm's conditions are present again at each start-up (16 Table 16-8). -/
def State.noteWear (s : State) : State :=
  s.each ((List.finRange 14).filter fun (a : Fin 14) => decide (100000 ≤ tget 0 s.persist.erases a)) fun (a : Fin 14) s => s.noteCond (.flashWear a) true

/-- What flash no longer holds at this start: header copies, images, dictionary copies and checkpoints are not valid (16 R423, R424). -/
def State.damage (s : State) (areas : List (Fin 14)) : State :=
  s.each areas fun (a : Fin 14) s =>
    match (a : Nat) with
    | 0 => { s with sec.hdr0 := [] }.badArea 0 true
    | 1 => { s with sec.hdr1 := [] }.badArea 1 true
    | 6 => s.spoilSlot 0
    | 7 => s.spoilSlot 1
    | 8 => (s.setCopy 0 { s.copy 0 with valid := false }).badArea 8 true
    | 9 => (s.setCopy 1 { s.copy 1 with valid := false }).badArea 9 true
    | 10 => (s.setMap 2 { s.map 2 with valid := false }).badArea 10 true
    | 11 => (s.setMap 3 { s.map 3 with valid := false }).badArea 11 true
    | _ => s

/-- An image whose GCM tag fails at step 5 is not valid, now or at a later start (15 R399). -/
def State.failTags (s : State) (tagA tagB : Bool) : State :=
  let s := if tagA then s else s.spoilSlot 0
  if tagB then s else s.spoilSlot 1

/-- A tamper trigger: latched, recorded, counted, every key erased with cause 1. -/
def State.tamper (s : State) : State :=
  ({ s with sec.latched := true }.audit (moduleRec 7 0x9020 3 0 1)).count 0x9020 5 2 0 |>.eraseKeys 1

/-- TAMPER_N is low and enabled. -/
def State.pinTampers (s : State) : Bool := s.sec.pinLow && s.cfg 0x9020 1 0 == 1

/-- The detectors get power: a loop that is open, or a pin that is low, is detected now (15 R406, R407). -/
def State.senseTamper (s : State) : State :=
  let s := if s.sec.loopOpen then s.tamper else s
  if s.pinTampers then s.tamper else s

/-- Start-up from step 1 or 2 on, with what the hardware shows during it and its cause (16 R418). -/
def State.startUp (s : State) (o : BootObs) (cause : Nat) : State :=
  let s : State := { s.volatileLost with
    power.cause := cause, power.startAt := s.now, power.retryAt := none
    tim.ocxoOn := s.tim.ocxoOn.orElse fun _ => some s.now }
  if !o.railsGood then s.internalReset 2 (secs 1)
  else
    let s := { s with
      power.supRail := true
      sup.startedAt := s.now, sup.windowAt := s.now, sup.passAt := s.now, sup.banks := startBanks o.badBanks }
    let s := ((s.damage o.damaged).failTags o.tagA o.tagB).takeHeader
    let s := { s with persist.headerTaken := s.sec.header.copy }.bootSlot.noteWear
    if s.sup.state = 3 then { s with power.step := 3 }.senseTamper
    else if 9 ≤ o.badBanks.eraseDups.length then { s.recovery with power.step := 4 }.senseTamper
    else
      let s := { s with sup.up := true }.restoreDict
      ({ s.restoreMap with pm.offset := s.cfg 0x6000 2 0 }.startTraffic o).eraseAhead.senseTamper

/-- Groups of counters that the port die and the islands hold, with the number of their elements (12 R320). -/
def portGroups : List (Nat × Nat) :=
  [(0x2030, 48), (0x3040, 48), (0x3050, 48), (0x3850, 1), (0x4820, 2), (0x5010, 2), (0x5020, 1), (0x5030, 1), (0x5430, 8), (0x5440, 1),
   (0x5460, 1), (0x5820, 1), (0x5830, 48), (0x5840, 8)]

/-- Those groups return to 0 with the block that holds them, and show it (12 Table 12-8). -/
def State.restartCounters (s : State) : State :=
  let s := s.each portGroups fun g s => s.each (List.range g.2) fun el s => s.restartGroup g.1 el
  (s.each s.txStreams fun k s => s.restartGroup 0x5C21 k).each s.rxStreams fun k s => s.restartGroup 0x5C32 k

/-- Start-up from step 7 when a feed returns and KEEP has held the supervisor (16 R419, R431). -/
def State.resume (s : State) (o : BootObs) : State :=
  let s := { s with power.cause := 4, power.startAt := s.now }.damage (o.damaged.filter fun a => a == 10 || a == 11)
  (s.restartCounters.startTraffic o).eraseAhead

/-! STARTUP_COMPLETE (16 R416). -/

/-- Start-up is complete at the first admission, or 30 s after it began, also where it has ended in recovery. -/
def startupEnd (s : State) : State :=
  if (s.power.step = 8 ∧ s.lease.admitted = true) ∨
      ((s.power.step = 3 ∨ s.power.step = 4 ∨ s.power.step = 8) ∧ s.powered = true ∧ s.over s.power.startAt (secs 30) = true) then
    { s with
      power.step := 9, sup.parked := [], sup.state := if s.sup.state = 0 ∧ s.sup.restarting = false then 1 else s.sup.state
      power.toTraffic := if s.lease.admitted then (s.now - s.power.startAt) / 1000000 else s.power.toTraffic }.watchEngines
  else s

/-- STARTUP_COMPLETE. -/
def execStartupComplete (s : State) : Out := run startupEnd s

/-! Feeds (16 R410 to R412). -/

/-- The feed in use: the one at the higher voltage; within 0.5 V of each other perhaps both, which the spec leaves open (16 R410). -/
def State.chooseFeed (s : State) : State :=
  let a := s.power.volts.getD 0 0
  let b := s.power.volts.getD 1 0
  let high := if a < b then 1 else 0
  if s.power.valid.getD 0 false && s.power.valid.getD 1 false then
    if a ≤ b + 50 ∧ b ≤ a + 50 then
      let (v, s) := s.free
      { s with power.inUse := if a = b then v % 3 else if v % 2 = 0 then 2 else high }
    else { s with power.inUse := high }
  else { s with power.inUse := if s.power.valid.getD 1 false then 1 else 0 }

/-- A feed not valid while the other is (16 Table 16-8). -/
def State.watchFeeds (s : State) : State :=
  let a := s.power.valid.getD 0 false
  let b := s.power.valid.getD 1 false
  ((s.noteCond (.feedNotValid 0) (!a && b)).noteCond (.feedNotValid 1) (a && !b)).chooseFeed

/-- A feed becomes valid; the first one starts the module, or its traffic where KEEP has held the supervisor. In recovery no firmware
configures the port die, and the module stays absent from traffic (15 R403). -/
def feedUp (f : FeedId) (volts : Nat) (o : BootObs) (s : State) : State :=
  let clear := s.power.locked.getD f false && s.over (s.power.invalidAt.getD f 0) (secs 1)
  let had := s.powered
  let locked := s.power.locked.getD f false && !clear
  let s := { s with
    power.volts := s.power.volts.set f volts, power.valid := s.power.valid.set f true
    power.locked := s.power.locked.set f locked, power.hsOpen := s.power.hsOpen.set f locked
    power.trips := if clear then s.power.trips.set f [] else s.power.trips
    tim.ocxoOn := if locked then s.tim.ocxoOn else s.tim.ocxoOn.orElse fun _ => some s.now }.watchFeeds
  if had || !s.startable || s.power.portRail then s
  else if s.power.supRail then (if s.sup.state = 3 then s else s.resume o)
  else s.startUp o 0

/-- FEED_VALID. -/
def execFeedValid (feed : FeedId) (volts : Volts) (o : BootObs) (s : State) : Out := run (feedUp feed volts o) s

/-- A feed becomes invalid. -/
def feedDown (f : FeedId) (volts : Nat) (s : State) : State :=
  let s := if s.power.valid.getD f false then { s with power.invalidAt := s.power.invalidAt.set f s.now }.count 0xA000 3 (f + 1) 0 else s
  { s with power.volts := s.power.volts.set f volts, power.valid := s.power.valid.set f false }.watchFeeds

/-- FEED_INVALID. -/
def execFeedInvalid (feed : FeedId) (volts : Volts) (s : State) : Out := run (feedDown feed volts) s

/-- KEEP_PRESENT: it supplies the OCXO too (09 R251). -/
def execKeepPresent (s : State) : Out :=
  run (fun s => { s with power.keep := true, tim.ocxoOn := s.tim.ocxoOn.orElse fun _ => some s.now }) s

/-- Both feeds are invalid. -/
def State.noFeed (s : State) : Bool := !s.power.valid.contains true

/-- KEEP goes: with no feed that supplies the module, the supervisor and the OCXO lose their supply (16 Table 16-7). -/
def keepGone (s : State) : State :=
  if !s.power.keep then s
  else
    let s := { s with power.keep := false }.count 0xA000 3 5 0
    if !s.powered && !s.power.portRail then s.volatileLost.ocxoOff else s

/-- KEEP_LOST. -/
def execKeepLost (s : State) : Out := run keepGone s

/-- A hot-swap switch opens on overcurrent; with no other feed the rails fail, which is an internal reset (16 R411, R415). -/
def trip (f : FeedId) (s : State) : State :=
  if !s.feeds f then s
  else
    let ts := s.now :: (s.power.trips.getD f []).filter fun t => !s.over t (secs 60)
    let s := { s with
      power.hsOpen := s.power.hsOpen.set f true, power.trips := s.power.trips.set f ts
      power.locked := s.power.locked.set f (decide (3 ≤ ts.length)) }.count 0xA000 3 4 0
    if s.powered then s
    else if s.power.keep then s.internalReset 2 (msecs 10) else (s.internalReset 2 (msecs 10)).ocxoOff

/-- HOT_SWAP_TRIP. -/
def execHotSwapTrip (feed : FeedId) (s : State) : Out := run (trip feed) s

/-- The switch closes again 1 s after it opened, unless three trips hold it open. -/
def retrySwitch (f : FeedId) (s : State) : State :=
  match s.power.trips.getD f [] with
  | t :: _ =>
    if s.power.valid.getD f false && s.power.hsOpen.getD f false && !s.power.locked.getD f false && s.over t (secs 1) then
      { s with power.hsOpen := s.power.hsOpen.set f false, tim.ocxoOn := s.tim.ocxoOn.orElse fun _ => some s.now }
    else s
  | [] => s

/-- HOT_SWAP_RETRY. -/
def execHotSwapRetry (feed : FeedId) (s : State) : Out := run (retrySwitch feed) s

/-- HOLD_UP_CHARGED. -/
def execHoldUpCharged (s : State) : Out := run (fun s => if s.noFeed then s else { s with power.holdUp := true }) s

/-! Presence and reset (16 R414, R415). -/

/-- Both PRESENT pins have been low for 10 ms. -/
def seat (o : BootObs) (s : State) : State :=
  if s.power.seated then s
  else
    let s := { s with power.present := [false, false], power.seated := true }
    if s.startable then s.startUp o 3 else s

/-- SEATED. -/
def execSeated (o : BootObs) (s : State) : Out := run (seat o) s

/-- A PRESENT pin is high: reset. -/
def unseat (p : Fin 2) (s : State) : State :=
  { s with power.present := s.power.present.set p true, power.seated := false }.volatileLost

/-- PRESENT_LOST. -/
def execPresentLost (pin : Fin 2) (s : State) : Out := run (unseat pin) s

/-- RESET_ASSERT. -/
def execResetAssert (s : State) : Out := run (fun s => { s with power.resetN := false }.volatileLost) s

/-- RESET_N rises; when no reset condition is left, start-up runs. -/
def releaseReset (o : BootObs) (s : State) : State :=
  if s.power.resetN then s
  else
    let s := { s with power.resetN := true }
    if s.startable then s.startUp o 1 else s

/-- RESET_RELEASE. -/
def execResetRelease (o : BootObs) (s : State) : Out := run (releaseReset o) s

/-- An internal reset ends, and start-up runs again: 1 s after rails that were not good, 10 ms at least otherwise; it runs on while no feed
supplies the rails (16 R415, R418). -/
def startAgain (o : BootObs) (s : State) : State :=
  match s.power.retryAt with
  | some t =>
    if s.power.internal && decide (t ≤ s.now) && !s.power.thermal && s.powered then
      let s := { s with power.internal := false, power.retryAt := none }
      if s.startable then s.startUp o s.power.cause else s
    else s
  | none => s

/-- STARTUP_RETRY. -/
def execStartupRetry (o : BootObs) (s : State) : Out := run (startAgain o) s

/-! POWER_FAIL (16 R430, R431). -/

/-- A transaction in flight that has applied nothing completes with STATE, detail code 0x17. -/
def State.failTrans (s : State) (t : Trans) : State :=
  let t' := { t with status := stState, detail := 0x17, journaled := true }
  let s := if s.misdirected t' then s.count 0x7010 2 5 t'.hopper else s
  match s.completionHopper t' with
  | none => s.count 0x4000 4 0 0
  | some h =>
    if s.blocksCompletion h then { s with edit.flight := s.edit.flight ++ [{ t' with finished := true }] }
    else (s.count 0x4000 4 0 0).postUnit h [completionEntry t' s.stamp]

/-- Transactions in flight complete and apply nothing; those written already keep waiting for their hoppers (16 R431). -/
def State.failFlight (s : State) : State :=
  let run_ := s.edit.flight.filter fun t => !t.journaled
  let done := s.edit.flight.filter fun t => t.journaled
  let s := { s.undoFlight with edit.flight := done }
  s.each run_ fun t s => s.failTrans t

/-- Pair writes that wait are answered STATE. -/
def State.failWrites (s : State) : State :=
  let ws := s.prot.writes
  { s with prot.writes := [] }.each ws fun w s => s.answerHeld w.session w.tag (refusal stState 0x17)

/-- Power-fail: the port die and both engines go down; with KEEP the supervisor stays. -/
def powerFail (s : State) : State :=
  if s.powered || s.power.fail then s
  else if !(s.power.portRail || s.power.supRail) then
    let s : State := { s with power.holdUp := false }
    if s.power.keep then s else s.ocxoOff
  else
    let s := { s with power.holdUp := false }.count 0xA000 3 3 0
    if s.power.keep && s.power.supRail then
      let s := (s.failFlight.failWrites.cancelArmed stState 0x28).abandonMap
      let s := { (s.engineDown 0 5).engineDown 1 5 with persist.eraseAt := [none, none, none, none] }
      { s with power.portRail := false, power.fail := true, power.step := 6 }.portLost.watchTiming
    else s.volatileLost.ocxoOff

/-- POWER_FAIL. -/
def execPowerFail (s : State) : Out := run powerFail s

/-! RESTORE_DEFAULTS (16 R429). -/

/-- A dictionary copy of defaults, but for 9100:01 to 9100:05, is written; both map checkpoints become invalid. -/
def State.writeDefaults (s : State) : State :=
  let a := s.nextCopy
  let old : Tab (List Nat) := match s.newestCopy with | some c => (s.copy c).values | none => []
  let keep := old.filter fun e => decide (0x910001 ≤ e.1 / 4294967296 ∧ e.1 / 4294967296 ≤ 0x910005)
  let s := (s.setCopy a (copyOf (max s.persist.copy0.seq s.persist.copy1.seq + 1) keep)).badArea (8 + a) false
  { s with
    persist.erased := s.persist.erased.set a false, persist.restored := true
    persist.map0 := { s.persist.map0 with valid := false }, persist.map1 := { s.persist.map1 with valid := false } }

/-- The write of A010:02. -/
def effDefaults (_ : Session) (vs : List Nat) (s : State) : Act :=
  if vs.headD 0 ≠ 0x5A then .refuse (refusal stRange)
  else if s.persist.committing then .refuse (refusal stBusy 0x48)
  else .done s {} fun s => s.writeDefaults.internalReset 5 (msecs 10)

/-- RESTORE_DEFAULTS. -/
def execRestoreDefaults (rq : Rq) (value : Byte) (s : State) : Out := run (writeOf rq 0xA010 2 0 [value] effDefaults) s

end Sys2Proof.Machine
end

