-- ==== Sys2Proof/Machine/Security.lean ====
section
/-! DEFINITION. Certificates, audit journal, firmware images, attestation, tamper and environment (15; 17 R448). -/

namespace Sys2Proof.Machine

/-! Certificates (15 R389 to R393). -/

/-- A valid STRING: printable ASCII, then 0x00 to its end (14 Table 14-10). -/
def stringOk (b : Bytes) : Bool :=
  (b.takeWhile (· != 0)).all (fun x => decide (0x20 ≤ x.toNat ∧ x.toNat ≤ 0x7E)) && (b.dropWhile (· != 0)).all (· == 0)

/-- The certificate of an enrolment record (15 Table 15-2). -/
def certOf (b : Bytes) (stamp : Nat) : Cert :=
  { serial := field b 0 8, role := field b 8 1, label := (b.drop 12).take 32, modulus := (b.drop 44).take 384, exponent := field b 428 4
    since := stamp }

/-- The enrolment record of a certificate. -/
def Cert.record (c : Cert) : Bytes :=
  beBytes 8 c.serial ++ beBytes 1 c.role ++ zeros 3 ++ padTo 32 c.label ++ padTo 384 c.modulus ++ beBytes 4 c.exponent

/-- Check 1 of R390. -/
def recordOk (b : Bytes) : Bool :=
  decide (1 ≤ field b 0 8 ∧ field b 0 8 ≤ 0xFFFFFFFFFFFFFFFE ∧ 1 ≤ field b 8 1 ∧ field b 8 1 ≤ 3 ∧ field b 9 3 = 0)
    && decide (128 ≤ field b 44 1 ∧ field b 428 4 % 2 = 1 ∧ 65537 ≤ field b 428 4) && stringOk ((b.drop 12).take 32)

/-- The checks of R390, given whether the writer may enrol the role; then the write to flash (15 R391). -/
def State.enrolCheck (s : State) (b : Bytes) (may : Bool) : Option Ans :=
  if !recordOk b then some (refusal stRange)
  else if !may then some { refusal stAccess with late := true }
  else if field b 0 8 ≤ s.sec.mark then some (naming stConflict 0x9010 4 0)
  else if 128 ≤ s.sec.certs.length then some (refusal stLimit)
  else if !s.persist.enrolOk then some (refusal stInternal)
  else none

/-- An accepted enrolment, in flash with the new high-water mark; certificates in ascending order of serial (15 R391). -/
def State.enrol (s : State) (b : Bytes) : State :=
  { s with sec.certs := s.sec.certs ++ [certOf b s.stamp], sec.mark := field b 0 8 }

/-- The write of 9010:01. -/
def effEnrol (b : Bytes) (x : Session) (_ : List Nat) (s : State) : Act :=
  match s.enrolCheck b (x.role == 3 || field b 8 1 != 3) with
  | some a => .refuse a
  | none => ok (s.enrol b)

/-- ENROL_CERTIFICATE. -/
def execEnrolCertificate (rq : Rq) (record : Bytes) (s : State) : Out := run (writeOf rq 0x9010 1 0 record (effEnrol record)) s

/-- Certificates of a role. -/
def State.certsOf (s : State) (role : Nat) : Nat := s.sec.certs.countP fun c => c.role == role

/-- Close every session that a test picks. -/
def State.closeWhere (s : State) (cause : Nat) (p : Session → Bool) : State :=
  s.each ((s.mgmt.sessions.filter fun e => p e.2).map Prod.fst) fun id s => s.closeSess id cause

/-- The write of 9010:02 (15 R392). -/
def effRevokeCert (x : Session) (vs : List Nat) (s : State) : Act :=
  match s.sec.certs.find? fun c => c.serial == vs.headD 0 with
  | none => .refuse (refusal stAbsent)
  | some c =>
    if c.role = 3 ∧ x.role ≠ 3 then .refuse { refusal stAccess with late := true }
    else if c.role = 2 ∧ s.certsOf 2 = 1 then .refuse (naming stState 0x9010 4 0)
    else .done { s with sec.certs := s.sec.certs.filter fun d => d.serial != c.serial } {} fun s => s.closeWhere 4 fun y => y.cert == c.serial

/-- REVOKE_CERTIFICATE. -/
def execRevokeCertificate (rq : Rq) (serial : Nat) (s : State) : Out := run (writeOf rq 0x9010 2 0 (beBytes 8 serial) effRevokeCert) s

/-- The bytes of UART_DBG from where a frame begins: all before 0x43, 0x4D are discarded (15 R393). -/
def frameStart : Bytes → Bytes
  | [] => []
  | b :: r => if field (b :: r) 0 2 = 0x434D then b :: r else frameStart r

/-- A commissioning frame on UART_DBG: answered while no installer certificate is enrolled (15 R393). -/
def commissioning (bytes : Bytes) (s : State) : State :=
  let b := frameStart bytes
  if !s.sup.up || b.isEmpty || s.certsOf 2 != 0 then s
  else
    let r := (b.drop 4).take 432
    if field b 2 2 ≠ 432 ∨ b.length ≠ 438 ∨ field b 436 2 ≠ crc16 (b.take 436) then s.emit (.uart stRange)
    else match s.enrolCheck r (field r 8 1 == 2) with
      | some a => s.emit (.uart a.status)
      | none =>
        if 256 ≤ s.sec.buffer.length then s.emit (.uart stInternal)
        else ((s.enrol r).audit { kind := 1, role := 4, index := 0x9010, sub := 1, newVal := r, length := 432 }).emit (.uart stOk)

/-- COMMISSIONING_FRAME. -/
def execCommissioningFrame (frame : Bytes) (s : State) : Out := run (commissioning frame) s

/-- The write of 9000:01; maker sessions close once the response to 0 has been sent; recovery ignores the object (15 R389). -/
def effMakerAccess (_ : Session) (vs : List Nat) (s : State) : Act :=
  .done (s.setStaged 0x9000 1 0 vs) {} fun s => if vs.headD 0 = 0 ∧ s.sup.state ≠ 3 then s.closeWhere 3 fun y => y.role == 3 else s

/-- MAKER_ACCESS_WRITE. -/
def execMakerAccessWrite (rq : Rq) (value : Byte) (s : State) : Out := run (writeOf rq 0x9000 1 0 [value] effMakerAccess) s

/-! The audit journal (15 R396, R397). -/

/-- The buffer reaches flash, or the flash write fails and is counted. -/
def flushAudit (good : Bool) (s : State) : State :=
  if s.sec.buffer.isEmpty || !s.power.supRail then s
  else if good then ({ s with sec.buffer := [], sec.flushBad := false }.auditWrite s.sec.buffer.reverse).auditCond
  else { s with sec.flushBad := true }.count 0x9030 1 5 0

/-- AUDIT_FLUSH. -/
def execAuditFlush (flashOk : Bool) (s : State) : Out := run (flushAudit flashOk) s

/-- The write of 9030:03. -/
def effMarkRead (_ : Session) (vs : List Nat) (s : State) : Act :=
  ok { s with sec.readTo := max s.sec.readTo (min (vs.headD 0) (s.sec.nextSeq - 1)) }.auditCond

/-- MARK_READ. -/
def execMarkRead (rq : Rq) (sequence : Nat) (s : State) : Out := run (writeOf rq 0x9030 3 0 (beBytes 8 sequence) effMarkRead) s

/-! Firmware images (15 R402, R403). -/

/-- The record of an image written, selected or confirmed. -/
def State.auditImage (s : State) (sub t : Nat) : State := s.audit (moduleRec 9 0x1030 sub t (s.slot t).version)

/-- The supervisor restarts into a trial; out of a recovery entered at boot, start-up runs again from step 2 (15 R402, R403). -/
def State.startTrialBoot (s : State) : State :=
  if s.sup.state = 3 ∧ s.power.portRail = false then s.internalReset 2 (msecs 10) else s.supRestart 4

/-- The write of 1030:02. -/
def effTrial (_ : Session) (vs : List Nat) (s : State) : Act :=
  let t := vs.headD 0
  guardAct (!s.imageValid t) (naming stState 0x1020 2 t)
    (.done ((s.writeHeader fun h => h.setTrial t true 0).auditImage 2 t) {} State.startTrialBoot)

/-- START_TRIAL. -/
def execStartTrial (rq : Rq) (slot : Nat) (s : State) : Out := run (writeOf rq 0x1030 2 0 (u8 slot) effTrial) s

/-- The write of 1030:03. -/
def effConfirm (_ : Session) (_ : List Nat) (s : State) : Act :=
  let t := s.sec.running
  guardAct (!(decide (t < 2) && s.sec.header.pend t)) (refusal stState)
    (let s := s.writeHeader fun h => { h.setTrial t false 0 with preferred := t }
     ok ({ s with sec.floor := max s.sec.floor (s.slot t).secVersion }.auditImage 3 t))

/-- CONFIRM_IMAGE. -/
def execConfirmImage (rq : Rq) (arg : Byte) (s : State) : Out := run (writeOf rq 0x1030 3 0 [arg] effConfirm) s

/-- The write of 1030:04. -/
def effRecovery (_ : Session) (_ : List Nat) (s : State) : Act := .done s {} fun s => s.supRestart 4 true

/-- ENTER_RECOVERY. -/
def execEnterRecovery (rq : Rq) (arg : Byte) (s : State) : Out := run (writeOf rq 0x1030 4 0 [arg] effRecovery) s

/-! Attestation (15 R405). -/

/-- The write of 9040:01. -/
def effNonce (session : Nat) (nonce : Bytes) (_ : Session) (_ : List Nat) (s : State) : Act :=
  ok { s with sec.reports := tput {} s.sec.reports session { nonce := nonce, since := s.now } }

/-- ATTESTATION_NONCE. -/
def execAttestationNonce (rq : Rq) (nonce : Bytes) (s : State) : Out := run (writeOf rq 0x9040 1 0 nonce (effNonce rq.session nonce)) s

/-- The enrolment records in ascending order of serial, concatenated (15 Table 15-8). -/
def State.enrolBytes (s : State) : Bytes :=
  let order := s.sec.certs.foldl (fun l c => insKey c.serial l) []
  order.flatMap fun n => ((s.sec.certs.find? fun c => c.serial == n).map Cert.record).getD []

/-- The four boot measurements (15 Table 15-6). -/
def State.measurements (s : State) : Bytes :=
  let x := s.slot s.sec.running
  digest Config.bootRom ++ (if s.sec.running < 2 then digest x.header ++ digest (gcmText Config.firmwareKey (field x.header 20 12) x.payload) else zeros 64)
    ++ digest (Config.dictionaryBytes s.sec.measured)

/-- Version of a slot, 0 where its image is empty or invalid. -/
def State.versionOf (s : State) (t : Nat) : Nat := if s.imageValid t then (s.slot t).version else 0

/-- Bytes 0 to 291 of the report for a nonce (15 Table 15-8). -/
def State.reportBytes (s : State) (nonce : Bytes) : Bytes :=
  let run_ := s.sec.running
  let copy : Tab (List Nat) := match s.newestCopy with | some a => (s.copy a).values | none => []
  let pend := decide (run_ < 2) && s.sec.header.pend run_
  let flags := b2n pend + b2n (s.cfg 0x9000 1 0 == 1) * 2 + b2n s.sec.latched * 4
  beBytes 2 1 ++ beBytes 2 676 ++ padTo 24 Config.serialNumber ++ beBytes 2 0x30 ++ padTo 32 nonce ++ beBytes 10 s.stamp
    ++ beBytes 1 run_ ++ beBytes 1 flags ++ zeros 2 ++ s.measurements
    ++ beBytes 4 (if run_ < 2 then (s.slot run_).version else 0) ++ beBytes 4 s.sec.floor ++ beBytes 4 (if run_ < 2 then s.versionOf (1 - run_) else 0)
    ++ beBytes 4 Config.bootRomVersion ++ digest (Config.dictionaryBytes copy) ++ digest s.enrolBytes ++ beBytes 8 (s.sec.nextSeq - 1)

/-- The report is built and signed. -/
def reportReady (session : Nat) (s : State) : State :=
  if !s.serves || (s.session? session).isNone then s
  else
    let x := tget {} s.sec.reports session
    if x.nonce.isEmpty || x.report.isSome then s
    else
      let b := s.reportBytes x.nonce
      { s with sec.reports := tput {} s.sec.reports session { x with report := some (b ++ padTo 384 (Config.identitySignature b)) } }

/-- ATTESTATION_REPORT_READY. -/
def execAttestationReportReady (session : Nat) (s : State) : Out := run (reportReady session) s

/-! Tamper and environment (15 R406 to R408; 17 R448). -/

/-- The key store and its detectors have power. -/
def State.guarded (s : State) : Bool := s.power.supRail

/-- The tamper loop opens, or TAMPER_N goes low; each acts once each time it arises. -/
def tamperSeen (i : TamperInput) (s : State) : State :=
  match i with
  | .loop => if s.sec.loopOpen then s else { s with sec.loopOpen := true }.when s.guarded State.tamper
  | .pin => if s.sec.pinLow then s else { s with sec.pinLow := true }.when (s.guarded && s.cfg 0x9020 1 0 == 1) State.tamper

/-- TAMPER_DETECTED. -/
def execTamperDetected (input : TamperInput) (s : State) : Out := run (tamperSeen input) s

/-- TAMPER_CONDITION_ENDED. -/
def execTamperConditionEnded (input : TamperInput) (s : State) : Out :=
  run (fun s => match input with
    | .loop => { s with sec.loopOpen := false }
    | .pin => { s with sec.pinLow := false }) s

/-- The write of 9020:01: enabling TAMPER_N while it is low is a trigger. -/
def effTamperEnable (_ : Session) (vs : List Nat) (s : State) : Act :=
  let was := s.pinTampers
  let s := s.setStaged 0x9020 1 0 vs
  .done s {} fun s => if !was && s.pinTampers then s.tamper else s

/-- The write of 9020:04. -/
def effClearTamper (_ : Session) (_ : List Nat) (s : State) : Act :=
  guardAct (s.sec.loopOpen || s.pinTampers) (refusal stState)
    (ok (if s.sec.latched then { s with sec.latched := false }.audit (moduleRec 7 0x9020 3 0 2) else s))

/-- CLEAR_TAMPER. -/
def execClearTamper (rq : Rq) (arg : Byte) (s : State) : Out := run (writeOf rq 0x9020 4 0 [arg] effClearTamper) s

/-- The module temperature: the highest of port die, engines and supervisor (17 R448). -/
def moduleTemp (t : Temps) : Int := max (max t.portDie t.engineA) (max t.engineB t.supervisor)

/-- An environmental erasure: counted, with its cause. -/
def State.environment (s : State) (cause : Nat) : State := (s.count 0x9020 5 3 0).eraseKeys cause

/-- A temperature sample: the erasure limits, which a detector without power does not see, the alarm's condition, the thermal reset. -/
def tempSample (t : Temps) (s : State) : State :=
  let m := moduleTemp t
  let out := decide (11000 < m ∨ m < -4500) && s.guarded
  let was := s.sec.hot
  let s := { s with power.temps := t, sec.hot := out }
  let s := s.when (out && !was) fun s => s.environment 2
  let s := if 9500 < m then s.noteCond .temperature true else if m < 9000 then s.noteCond .temperature false else s
  if 11500 < m ∧ s.power.thermal = false then { s.internalReset 2 (msecs 10) with power.thermal := true }
  else if m < 10000 then { s with power.thermal := false } else s

/-- TEMPERATURE_SAMPLE. -/
def execTemperatureSample (t : Temps) (s : State) : Out := run (tempSample t) s

/-- A rail has its supply: one that falls with the feeds, and KEEP, is an orderly power-down (15 R406). -/
def State.railFed (s : State) : Rail → Bool
  | .supervisor => !s.noFeed || s.power.keep
  | .portDie => !s.noFeed

/-- A rail leaves its window of 12 %. -/
def railOut (r : Rail) (s : State) : State :=
  if s.sec.volt.contains r || !s.guarded || !s.railFed r then s
  else ({ s with sec.volt := s.sec.volt ++ [r] }).environment 3

/-- VOLTAGE_EXCURSION. -/
def execVoltageExcursion (rail : Rail) (s : State) : Out := run (railOut rail) s

/-- VOLTAGE_CONDITION_ENDED. -/
def execVoltageConditionEnded (rail : Rail) (s : State) : Out :=
  run (fun s => { s with sec.volt := s.sec.volt.filter fun r => r != rail }) s

/-- A glitch monitor that has its clock or rail (15 Table 15-9). -/
def State.monitored (s : State) : GlitchKind → Bool
  | .rail => s.guarded && s.railFed .supervisor
  | .sysClock => s.guarded && s.power.portRail
  | .mtxClock => s.guarded
  | .headClock => s.guarded

/-- A rail or clock glitch: counted, and every key erased with cause 4. -/
def glitch (k : GlitchKind) (s : State) : State := s.when (s.monitored k) fun s => (s.count 0x9020 5 4 0).eraseKeys 4

/-- GLITCH_DETECTED. -/
def execGlitchDetected (kind : GlitchKind) (s : State) : Out := run (glitch kind) s

/-- The failed-authentication count falls by 1 every 10 min while above 0 (15 R408). -/
def authDecay (s : State) : State :=
  if s.sec.authCount ≠ 0 ∧ s.over s.sec.authAt (secs 600) = true then
    { s with sec.authCount := s.sec.authCount - 1, sec.authAt := s.now }
  else s

/-- AUTH_COUNT_DECAY. -/
def execAuthCountDecay (s : State) : Out := run authDecay s

end Sys2Proof.Machine
end

