-- ==== Sys2Proof/Machine/Mgmt.lean ====
section
/-! DEFINITION. The management ports, in-band IPv6, and sessions: IDENTITY, the handshake, SECURE, the close of a session (14 R346 to R359). -/

namespace Sys2Proof.Machine

/-! Identity objects (00 Table 0-3). -/

/-- The fields of an identity or family parameter object. -/
def State.identityValue (s : State) (index sub : Nat) : Option (List Nat) :=
  let text (n : Nat) (t : String) : List Nat := [beNat (str n t)]
  if index = 0x1000 then
    match sub with
    | 1 => some (text 16 "Thonik")
    | 2 => some (text 16 "Idale")
    | 3 => some [0x30]
    | 4 => some (text 16 (if s.power.ordering then "IDZ48-M1" else "IDZ48-M1N"))
    | 5 => some [b2n s.power.ordering]
    | 6 => some [beNat (padTo 24 Config.serialNumber)]
    | 7 => some [Config.hardwareRevision % 65536]
    | _ => none
  else if index = 0x1010 then
    match sub with
    | 1 => some [48]
    | 2 => some [2]
    | 3 => some [36864000]
    | 4 => some [2097152]
    | 5 => some [256]
    | 6 => some [8192]
    | _ => none
  else none

/-! Messages (14 R350). -/

/-- The body of a message has the size that its kind requires: none for a HELLO, Table 14-4 for an OPEN, one request record for an IDENTITY message, one
and a tag for a SECURE message (14 Tables 14-2, 14-4, 14-6). -/
def bodyOk (kind n : Nat) : Bool :=
  match kind with
  | 1 => n == 0
  | 3 => n == 808
  | 5 => decide (24 ≤ n)
  | _ => decide (40 ≤ n)

/-- The module takes a message of a kind: its header is as Table 14-1 says and its body has its size. -/
def hdrOk (h : Hdr) (kind : Nat) : Bool :=
  h.version == 1 && h.kind == kind && h.length == h.udpLength && h.udpLength == 16 + h.body.length && decide (h.length ≤ 1452)
    && bodyOk kind h.body.length

/-- What a source has been answered in the present second of the clock. -/
def State.rate (s : State) (addr : Nat) : Rate :=
  match s.mgmt.rates.find? fun r => r.addr == addr && r.second == s.now / 1000000000 with
  | some r => r
  | none => { addr := addr, second := s.now / 1000000000 }

/-- Write it, and forget the seconds gone by. -/
def State.setRate (s : State) (r : Rate) : State :=
  { s with mgmt.rates := (s.mgmt.rates.filter fun x => x.second == r.second && x.addr != r.addr) ++ [r] }

/-- A discarded message is counted (14 R350). -/
def State.malformed (s : State) : State := s.count 0x9130 4 1 0

/-- A REJECT (14 Table 14-2). -/
def State.sendReject (s : State) (id status detail : Nat) : State := (s.count 0x9130 4 4 0).emit (.reject id status detail)

/-- The answer to the record of an IDENTITY message (14 R351). -/
def State.identityAns (s : State) (op : Nat) (q : Req) : Ans :=
  match s.identityValue q.index q.sub with
  | none => refusal stAccess
  | some v =>
    if op ≠ 1 then refusal stAccess
    else if !step1 op q || q.element != 0 then refusal stRange
    else match findObj q.index q.sub with
      | some o => { value := o.join v }
      | none => refusal stAccess

/-- An IDENTITY message: at most 100 of a source are answered in a second. -/
def identityMsg (h : Hdr) (src : Src) (op : Nat) (q : Req) (s : State) : State :=
  if !s.serves then s
  else if !hdrOk h 5 || h.body.length != 24 + q.value.length then s.malformed
  else
    let r := s.rate src.addr
    if 100 ≤ r.identity then s.count 0x9130 4 6 0
    else (s.setRate { r with identity := r.identity + 1 }).emit (.identityReply (respOf op q (s.identityAns op q)))

/-- IDENTITY. -/
def execIdentity (h : Hdr) (src : Src) (op : Nat) (q : Req) (s : State) : Out := run (identityMsg h src op q) s

/-! The handshake (14 R352, R353). -/

/-- The identifier for a new handshake: above every identifier that a session has had, and not pending. -/
def State.freeId (s : State) : Nat :=
  ((List.range 17).map (s.mgmt.opens + 1 + ·)).find? (fun i => !(s.mgmt.handshakes.any fun e => e.1 == i)) |>.getD 0

/-- The body of a CHALLENGE (14 Table 14-3). -/
def challengeBody (nonce : BitVec 256) : Bytes :=
  beBytes 32 nonce.toNat ++ beBytes 384 Config.identityModulus ++ beBytes 4 Config.identityExponent

/-- A HELLO. -/
def helloMsg (h : Hdr) (src : Src) (s : State) : State :=
  if !s.serves then s
  else if !hdrOk h 1 then s.malformed
  else
    let i := s.freeId
    if 16 ≤ s.mgmt.handshakes.length ∨ 0xFFFFFFFE < i then (s.count 0x9130 4 5 0).sendReject h.session stBusy 0x46
    else
      let n := Config.nonce s.fresh
      { s with fresh := s.fresh + 1, mgmt.handshakes := tins s.mgmt.handshakes i ⟨src.addr, src.port, n, s.now⟩ }.emit (.challenge i (challengeBody n))

/-- HELLO. -/
def execHello (h : Hdr) (src : Src) (s : State) : Out := run (helloMsg h src) s

/-- Check 2 of Table 14-5: enrolled, and no maker certificate while 9000:01 is 0; in recovery, maker certificates only (15 R389, R403). -/
def State.mayOpen (s : State) (c : Cert) : Bool :=
  if s.sup.state = 3 then c.role == 3 else c.role != 3 || s.cfg 0x9000 1 0 == 1

/-- A refused OPEN: recorded, counted where Table 14-5 says so, and answered. -/
def State.refuseOpen (s : State) (id serial status detail : Nat) (counted : Bool) : State :=
  let s := s.audit { kind := 4, session := id, cert := serial, status := status, detail := detail }
  (s.when counted State.authFail).sendReject id status detail

/-- The pending handshake that an OPEN names. -/
def State.pendingFrom (s : State) (id : Nat) (src : Src) : Bool :=
  s.mgmt.handshakes.any fun e => e.1 == id && e.2.addr == src.addr && e.2.port == src.port && !s.over e.2.since (secs 5)

/-- A session opens: sequence 0 carries the OPENED record. -/
def State.opened (s : State) (id : Nat) (src : Src) (c : Cert) (key : BitVec 256) : State :=
  let x : Session := { role := c.role, cert := c.serial, addr := src.addr, port := src.port, key := key, opened := s.stamp, lastAt := s.now }
  let s := { s with mgmt.sessions := tins s.mgmt.sessions id x, mgmt.opens := max s.mgmt.opens id }
  let idle := s.cfg 0x9100 3 0
  (s.audit { kind := 3, role := c.role, session := id, cert := c.serial, detail := c.role }).sendSecure id (.opened id c.role idle 32)
    { op := 0xC1, tag := 0xFFFF, value := beBytes 1 c.role ++ beBytes 2 idle ++ beBytes 1 32 }

/-- An OPEN, by the checks of Table 14-5 in order. -/
def openMsg (h : Hdr) (src : Src) (serial : Nat) (signatureOk transportOk : Bool) (key : BitVec 256) (s : State) : State :=
  if !s.serves then s
  else if !hdrOk h 3 then s.malformed
  else if !s.pendingFrom h.session src then s.refuseOpen h.session serial stState 0x42 false
  else
    let s := { s with mgmt.handshakes := tdel s.mgmt.handshakes h.session }
    match s.sec.certs.find? fun c => c.serial == serial && s.mayOpen c with
    | none => s.refuseOpen h.session serial stAccess 0x49 true
    | some c =>
      if !(signatureOk && transportOk) then s.refuseOpen h.session serial stIntegrity 0x4A true
      else if 64 ≤ s.mgmt.sessions.length then (s.count 0x9130 4 5 0).refuseOpen h.session serial stLimit 0x45 false
      else s.opened h.session src c key

/-- OPEN. -/
def execOpenSession (h : Hdr) (src : Src) (serial : Nat) (signatureOk transportOk : Bool) (key : BitVec 256) (s : State) : Out :=
  run (openMsg h src serial signatureOk transportOk key) s

/-- A pending handshake lapses 5 s after its CHALLENGE. -/
def lapse (id : Nat) (s : State) : State :=
  { s with mgmt.handshakes := s.mgmt.handshakes.filter fun e => !(e.1 == id && s.over e.2.since (secs 5)) }

/-- HANDSHAKE_LAPSE. -/
def execHandshakeLapse (session : Nat) (s : State) : Out := run (lapse session) s

/-! SECURE messages (14 R354). -/

/-- A sequence number that the session accepts. -/
def Session.fresh (x : Session) (n : Nat) : Bool :=
  x.recvSeen.isEmpty || decide (x.recvMax < n) || (decide (x.recvMax ≤ n + 64) && !x.recvSeen.contains n)

/-- The session with one more sequence number accepted. -/
def Session.accept (x : Session) (n now : Nat) : Session :=
  let m := max x.recvMax n
  { x with recvMax := m, recvSeen := (n :: x.recvSeen).filter fun k => decide (m ≤ k + 64), lastAt := now }

/-- The tag of a client's SECURE message verifies: the IV is 0x0000_0001 and the sequence, the AAD the header (14 R354). -/
def Session.opens (x : Session) (h : Hdr) : Bool :=
  (gcmOpen x.key (18446744073709551616 + h.sequence) (unrynHeader h.kind h.length h.session h.sequence) h.body).isSome

/-- A SECURE message: accepted, discarded and counted, or rejected. The command names the tag verdict; where that is not the module's own it does nothing
(log entry 144). The record that the message carries comes as a command of its own. -/
def secureMsg (h : Hdr) (src : Src) (tagOk : Bool) (s : State) : State :=
  if !s.serves then s
  else if !hdrOk h 0x10 then s.malformed
  else match s.mgmt.sessions.find? fun e => e.1 == h.session && e.2.addr == src.addr && e.2.port == src.port with
    | none =>
      let r := s.rate src.addr
      if 10 ≤ r.rejects then s
      else (s.setRate { r with rejects := r.rejects + 1 }).sendReject h.session stState 0x42
    | some e =>
      if e.2.opens h != tagOk then s
      else
      let s := s.cipherJob h.body.length tagOk
      if !tagOk then s.count 0x9130 4 2 0
      else if !e.2.fresh h.sequence then s.count 0x9130 4 3 0
      else (s.modSession h.session fun x => x.accept h.sequence s.now).seqLimit h.session

/-- SECURE. -/
def execSecure (h : Hdr) (src : Src) (tagOk : Bool) (s : State) : Out := run (secureMsg h src tagOk) s

/-- A response kept for retransmission is dropped 2 s after it was sent (14 R358). -/
def keptEnd (id tag : Nat) (s : State) : State :=
  { s with mgmt.kept := s.mgmt.kept.filter fun k => !(k.session == id && k.req.tag == tag && s.over k.since (secs 2)) }

/-- KEPT_RESPONSE_EXPIRY. -/
def execKeptResponseExpiry (session tag : Nat) (s : State) : Out := run (keptEnd session tag) s

/-! The close of a session (14 R348, R355). -/

/-- No message has been accepted for 9100:03 s. -/
def idleEnd (id : Nat) (s : State) : State :=
  match s.session? id with
  | some x => if s.over x.lastAt (secs (s.cfg 0x9100 3 0)) then s.closeSess id 2 else s
  | none => s

/-- SESSION_IDLE_TIMEOUT. -/
def execSessionIdleTimeout (session : Nat) (s : State) : Out := run (idleEnd session) s

/-- NOP. -/
def execNop (q : Req) (s : State) : Out := run (request 0x20 q fun _ s => ok s) s

/-- CLOSE: the session closes after its response. -/
def execClose (q : Req) (s : State) : Out := run (request 0x21 q fun _ s => .done s {} fun s => s.closeSess q.session 1) s

/-- The write of 9130:03. -/
def effCloseSession (target : Nat) (_ : Session) (_ : List Nat) (s : State) : Act := .done s {} fun s => s.closeSess target 3

/-- CLOSE_SESSION. -/
def execCloseSession (rq : Rq) (target : Nat) (arg : Byte) (s : State) : Out :=
  run (writeOf rq 0x9130 3 target [arg] (effCloseSession target)) s

/-- The write of 9100:01 or 9100:02: every session closes once the response has been sent. -/
def effAddress (sub : Nat) (_ : Session) (vs : List Nat) (s : State) : Act :=
  .done (s.setStaged 0x9100 sub 0 vs) {} fun s => s.closeAll 6

/-- MANAGEMENT_ADDRESS_WRITE. -/
def execManagementAddressWrite (rq : Rq) (value : Bytes) (s : State) : Out := run (writeOf rq 0x9100 1 0 value (effAddress 1)) s

/-- UNRYN_PORT_WRITE. -/
def execUnrynPortWrite (rq : Rq) (port : Nat) (s : State) : Out := run (writeOf rq 0x9100 2 0 (beBytes 2 port) (effAddress 2)) s

/-! The switch (14 R346, R347): port 0 is MGT0, 1 MGT1, 2 the supervisor. -/

/-- Link state of a port. -/
def State.linkUp (s : State) (p : Nat) : Bool := p == 2 || s.mgmt.link.getD p false

/-- This module is ring master. -/
def State.ringMaster (s : State) : Bool := s.cfg 0x9100 5 0 == 1

/-- MGT1 passes check frames only. -/
def State.ringBlocked (s : State) : Bool := s.ringMaster && !s.mgmt.ringOpen

/-- EtherType of a ring check frame. -/
def checkType : Nat := 0x88B5

/-- The write of 9100:05: a new master begins with MGT1 blocked. -/
def effRingMaster (_ : Session) (vs : List Nat) (s : State) : Act :=
  let was := s.ringMaster
  let s := s.setStaged 0x9100 5 0 vs
  ok (if s.ringMaster && !was then { s with mgmt.ringOpen := false, mgmt.checkAt := s.now, mgmt.checkFrom := s.now } else s)

/-- Learn a source address, up to 1,024. -/
def State.learn (s : State) (mac p : Nat) : State :=
  let known := s.mgmt.macs.any fun e => e.1 == mac
  if bit mac 40 || !(known || decide (s.mgmt.macs.length < 1024)) then s
  else { s with mgmt.macs := (s.mgmt.macs.filter fun e => e.1 != mac) ++ [(mac, p, s.now)] }

/-- The ports that a frame goes to. -/
def State.switchPorts (s : State) (p : Nat) (f : EthFrame) : List Nat :=
  let to_ : List Nat :=
    if bit f.dst 40 then [0, 1, 2]
    else if f.dst = Config.macAddress then [2]
    else match s.mgmt.macs.find? fun e => e.1 == f.dst with
      | some e => [e.2.1]
      | none => [0, 1, 2]
  to_.filter fun q => q != p && s.linkUp q && !(q == 1 && s.ringBlocked && f.etherType != checkType)

/-- A ring check frame arrives on the master's MGT1. -/
def State.checkSeen (s : State) : State :=
  { s with mgmt.checkFrom := if s.over s.mgmt.checkAt (msecs 20) then s.now else s.mgmt.checkFrom, mgmt.checkAt := s.now }

/-- A frame comes in at MGT0 or MGT1. -/
def switchFrame (p : Fin 2) (f : EthFrame) (s : State) : State :=
  if !s.power.supRail || !s.linkUp p then s
  else
    let s := s.count 0x9100 6 1 p
    let check := f.etherType == checkType
    if f.queueFull || decide (1522 < f.length) || (p == 1 && s.ringBlocked && !check) then s.count 0x9100 6 3 p
    else
      let s := s.learn f.src p
      let s := if check && p == 1 && s.ringMaster then s.checkSeen else s
      if check && s.ringMaster && f.src == Config.macAddress then s
      else s.each (s.switchPorts p f) fun q s => (s.count 0x9100 6 2 q).emit (.frame q f)

/-- MGT_FRAME. -/
def execMgtFrame (port : Fin 2) (f : EthFrame) (s : State) : Out := run (switchFrame port f) s

/-- A frame of the switch's own goes out of a port. -/
def State.switchSend (s : State) (p : Nat) (o : Output) : State := if s.linkUp p then (s.count 0x9100 6 2 p).emit o else s

/-- Forget every learned address. -/
def State.flushMacs (s : State) : State := { s with mgmt.macs := [] }

/-- Every 10 ms the master sends a check frame out of MGT0. -/
def ringTimer (s : State) : State :=
  if s.power.supRail && s.ringMaster && s.over s.mgmt.checkSent (msecs 10) then
    { s with mgmt.checkSent := s.now }.switchSend 0 (.ringCheck 0)
  else s

/-- RING_CHECK_TIMER. -/
def execRingCheckTimer (s : State) : Out := run ringTimer s

/-- The table is flushed and a flush frame goes out of both ports. -/
def State.ringFlush (s : State) : State := (s.flushMacs.switchSend 0 (.flush 0)).switchSend 1 (.flush 1)

/-- Three check frames in a row have failed to arrive: MGT1 opens. -/
def openRing (s : State) : State :=
  if s.power.supRail && s.ringBlocked && s.over (max s.mgmt.checkAt s.power.startAt) (msecs 30) then
    { s with mgmt.ringOpen := true }.ringFlush
  else s

/-- RING_OPEN. -/
def execRingOpen (s : State) : Out := run openRing s

/-- Check frames have arrived for 1 s without a gap: MGT1 is blocked again, and another flush frame goes out. -/
def closeRing (s : State) : State :=
  if s.power.supRail && s.ringMaster && s.mgmt.ringOpen && s.over s.mgmt.checkFrom (secs 1) && !s.over s.mgmt.checkAt (msecs 20) then
    ({ s with mgmt.ringOpen := false }.switchSend 0 (.flush 0)).switchSend 1 (.flush 1)
  else s

/-- RING_CLOSE. -/
def execRingClose (s : State) : Out := run closeRing s

/-- A flush frame comes in: the table is flushed and the frame forwarded. -/
def flushSeen (p : Fin 2) (s : State) : State :=
  if !s.power.supRail || !s.linkUp p then s
  else
    let s := (s.count 0x9100 6 1 p).flushMacs
    if s.ringBlocked then s else s.switchSend (1 - p) (.flush (1 - p))

/-- FLUSH_FRAME. -/
def execFlushFrame (port : Fin 2) (s : State) : Out := run (flushSeen port) s

/-- A learned address not seen for 300 s is removed. -/
def ageMac (mac : Nat) (s : State) : State :=
  { s with mgmt.macs := s.mgmt.macs.filter fun e => !(e.1 == mac && s.over e.2.2 (secs 300)) }

/-- MAC_ADDRESS_AGEING. -/
def execMacAddressAgeing (mac : Nat) (s : State) : Out := run (ageMac mac) s

/-- MGT_LINK_CHANGE. -/
def execMgtLinkChange (port : Fin 2) (up : Bool) (s : State) : Out :=
  run (fun s => if s.power.supRail then { s with mgmt.link := s.mgmt.link.set port up } else s) s

/-! IPv6 (14 R348, R349). -/

/-- The modified EUI-64 identifier of a MAC address. -/
def eui64 (mac : Nat) : Nat := (Nat.xor (mac / 16777216) 0x020000) * 2 ^ 40 + 0xFFFE * 2 ^ 24 + mac % 16777216

/-- The link-local address, made of the MAC address. -/
def linkLocal : Nat := 0xFE80 * 2 ^ 112 + eui64 (Config.macAddress % 281474976710656)

/-- The configured address, 0 for none. -/
def State.mgmtAddr (s : State) : Nat := s.cfgF 0x9100 1 0 0

/-- A destination is one of the module's own: its addresses, and the groups that neighbour discovery makes it join. -/
def State.ownAddr (s : State) (a : Nat) : Bool :=
  let own : List Nat := linkLocal :: (if s.mgmtAddr = 0 then [] else [s.mgmtAddr])
  own.contains a || a == 0xFF02 * 2 ^ 112 + 1 || own.any fun o => a == 0xFF02 * 2 ^ 112 + 0x1FF000000 + o % 16777216

/-- An address lies within a subnet. -/
def inPrefix (a p n : Nat) : Bool := a / 2 ^ (128 - n) == p / 2 ^ (128 - n)

/-- The longest route that matches: its lane. -/
def State.route (s : State) (a : Nat) : Option Nat :=
  let fits := (List.range 16).filter fun r => s.cfgF 0x9110 1 r 2 != 255 && inPrefix a (s.cfgF 0x9110 1 r 0) (s.cfgF 0x9110 1 r 1)
  let best (b : Option Nat) (r : Nat) : Option Nat :=
    match b with
    | some c => if s.cfgF 0x9110 1 c 1 < s.cfgF 0x9110 1 r 1 then some r else b
    | none => some r
  (fits.foldl best none).map fun r => s.cfgF 0x9110 1 r 2

/-- The lane is an IPv6 interface. -/
def State.inBand (s : State) (l : Nat) : Bool := s.cfg 0x9110 3 l == 1

/-- A dropped datagram is counted on a lane. -/
def State.dropAt : Option Nat → State → State
  | some l, s => s.count 0x9110 2 4 l
  | none, s => s

/-- Room for a datagram in a lane's transmit queue of 16 KB. -/
def Lane.dataRoom (x : Lane) (n : Nat) : Bool := decide ((x.ch.dataTx.map fun d => d.length + 4).sum + n + 5 ≤ 16384)

/-- A datagram is forwarded out of a lane's data channel. -/
def State.toLane (s : State) (origin : Option Nat) (l : Nat) (b : Bytes) : State :=
  let x := s.lane l
  if !s.inBand l || x.bring.stage != 9 || !x.dataRoom b.length then s.dropAt (some l)
  else
    let s := s.modLane l fun x => { x with ch := { x.ch with dataTx := x.ch.dataTx ++ [1 :: b] } }
    let s := s.count 0x9110 2 2 l
    match origin with
    | some i => s.count 0x9110 2 3 i
    | none => s

/-! ICMPv6 echo (RFC 4443) and neighbour discovery (RFC 4861), which the module answers (14 R348). -/

/-- The one's complement sum of 16-bit words, most significant byte first. -/
def onesSum : Bytes → Nat → Nat
  | a :: b :: l, n => onesSum l (let t := n + a.toNat * 256 + b.toNat; if 65536 ≤ t then t - 65535 else t)
  | [a], n => let t := n + a.toNat * 256; if 65536 ≤ t then t - 65535 else t
  | [], n => n

/-- The checksum of an ICMPv6 message between two addresses, over the pseudo-header. -/
def icmpSum (src dst : Nat) (m : Bytes) : Nat :=
  65535 - onesSum (beBytes 16 src ++ beBytes 16 dst ++ beBytes 4 m.length ++ [0, 0, 0, 58] ++ m) 0

/-- An IPv6 datagram with an ICMPv6 message: type and code, then what follows the checksum. -/
def icmpPacket (src dst : Nat) (hop : BitVec 8) (type : Bytes) (rest : Bytes) : Bytes :=
  let m := type ++ beBytes 2 (icmpSum src dst (type ++ [0, 0] ++ rest)) ++ rest
  [0x60, 0, 0, 0] ++ beBytes 2 m.length ++ [58, hop] ++ beBytes 16 src ++ beBytes 16 dst ++ m

/-- An address is one of the module's own unicast addresses. -/
def State.unicast (s : State) (a : Nat) : Bool := a == linkLocal || (s.mgmtAddr != 0 && a == s.mgmtAddr)

/-- The answer to an echo request, or to a neighbour solicitation for an address of the module. -/
def State.icmpAnswer (s : State) (b : Bytes) : Option Bytes :=
  let src := field b 8 16
  let dst := field b 24 16
  let m := b.drop 40
  if field b 6 1 ≠ 58 ∨ icmpSum src dst m ≠ 0 then none
  else if m.take 2 = [128, 0] ∧ 8 ≤ m.length then
    some (icmpPacket (if s.unicast dst then dst else linkLocal) src Config.hopLimit [129, 0] (m.drop 4))
  else if m.take 2 = [135, 0] ∧ 24 ≤ m.length ∧ field b 7 1 = 255 ∧ s.unicast (field m 8 16) = true then
    let flags := if src = 0 then 0x20 else 0x60
    some (icmpPacket (field m 8 16) (if src = 0 then 0xFF02 * 2 ^ 112 + 1 else src) 255 [136, 0]
      ([flags, 0, 0, 0] ++ (m.drop 8).take 16 ++ [2, 1] ++ beBytes 6 Config.macAddress))
  else none

/-- A datagram for the module itself: handled, and answered by the interface it came by. -/
def State.own (s : State) (origin : Option Nat) (b : Bytes) : State :=
  let s := s.emit (.handled b)
  match s.icmpAnswer b, origin with
  | some a, some l => s.toLane none l a
  | some a, none => (s.count 0x9100 6 1 2).emit (.toManagement a false)
  | none, _ => s

/-- What the module does with a datagram from a lane's data channel, or from the management side. -/
def State.datagram (s : State) (origin : Option Nat) (b : Bytes) : State :=
  let dst := field b 24 16
  if b.length < 40 ∨ field b 6 1 = 44 then s.dropAt origin
  else if s.ownAddr dst then s.own origin b
  else
    let out := b.set 7 (BitVec.ofNat 8 (field b 7 1 - 1))
    let spent := decide (field b 7 1 ≤ 1)
    match s.route dst, origin with
    | some l, _ => if spent then s.dropAt (origin.or (some l)) else s.toLane origin l out
    | none, some i =>
      let near := inPrefix dst s.mgmtAddr (s.cfgF 0x9100 1 0 1)
      if spent || !(near || s.cfgF 0x9100 1 0 2 != 0) then s.dropAt origin
      else ((s.count 0x9110 2 3 i).count 0x9100 6 1 2).emit (.toManagement out (!near))
    | none, none => s

/-- A datagram that came by a lane: the lane is an interface, and the supervisor forwards. -/
def State.laneDatagram (s : State) (l : Nat) (b : Bytes) : State :=
  if s.inBand l && s.sup.up then (s.count 0x9110 2 1 l).datagram (some l) b else s

/-- IPV6_DATAGRAM. -/
def execIpv6Datagram (origin : IfId) (d : Bytes) (s : State) : Out :=
  run (fun s => match origin with
    | .lane l => s.laneDatagram l d
    | .management => if s.sup.up || (s.serves && s.ownAddr (field d 24 16)) then s.datagram none d else s) s

end Sys2Proof.Machine
end

