-- ==== Sys2Proof/Machine/Hoppers.lean ====
section
/-! DEFINITION. The hopper ops, ownership and configuration (14 R374 to R381). -/

namespace Sys2Proof.Machine

/-- The refusal of a session that does not own a hopper (14 R376). -/
def notOwner (x : Hopper) : Ans := { refusal stAccess 0x47 x.owner with late := true }

/-- A hopper op: in recovery there are no hoppers; the element is a hopper; it is configured (14 R364, R366; 15 R403). -/
def hopperOp (q : Req) (k : Hopper → Act) (s : State) : Act :=
  if s.sup.state = 3 then .refuse (refusal stAbsent)
  else if 8192 ≤ q.element then .refuse (refusal stRange)
  else if s.hopKind q.element = 0 then .refuse (refusal stState 0x4C)
  else k (s.hop q.element)

/-- Position of an index counted from C (14 R375). -/
def Hopper.at_ (x : Hopper) (i : Nat) : Nat := (i + 4294967296 - x.c) % 4294967296

/-- The entries of a HOPPER_READ. -/
def readBody (q : Req) (s : State) : Act :=
  hopperOp q (fun x =>
    if x.owner ≠ q.session then .refuse (notOwner x)
    else if x.fill ≤ x.at_ q.offset ∨ 4294967296 ≤ q.offset then .refuse (refusal stRange)
    else
      let es := ((x.entries.drop (x.at_ q.offset)).take q.length).map Prod.snd
      .done s { offset := q.offset, detailValue := x.p, value := es.flatten } id) s

/-- HOPPER_READ. -/
def execHopperRead (q : Req) (s : State) : Out := run (request 0x10 q fun _ => readBody q) s

/-- HOPPER_ACK moves C. -/
def ackBody (q : Req) (s : State) : Act :=
  hopperOp q (fun x =>
    let n := x.at_ (beNat q.value)
    if x.owner ≠ q.session then .refuse (notOwner x)
    else if x.fill < n then .refuse (refusal stRange)
    else ok (s.consume q.element n)) s

/-- HOPPER_ACK. -/
def execHopperAck (q : Req) (s : State) : Out := run (request 0x12 q fun _ => ackBody q) s

/-- The producer index that the writes held will leave (14 R379). -/
def Hopper.expected (x : Hopper) : Nat := (x.p + (x.held.map fun w => w.entries.length).sum) % 4294967296

/-- Free entries. -/
def State.hopFree (s : State) (h : Nat) : Nat := s.hopDepth h - (s.hop h).fill

/-- The 64-byte entries of a value; fuel is their number. -/
def entriesOf : Nat → Bytes → List Bytes
  | 0, _ => []
  | k + 1, b => b.take 64 :: entriesOf k (b.drop 64)

/-- A HOPPER_WRITE writes all of its entries or none; under hold producer it waits (14 R375, R379). -/
def hopperWriteBody (q : Req) (s : State) : Act :=
  hopperOp q (fun x =>
    let es := entriesOf (q.length / 64) q.value
    let n := es.length
    if s.hopKind q.element ≠ 1 then .refuse (refusal stState 0x4C (s.hopKind q.element))
    else if x.owner ≠ q.session then .refuse (notOwner x)
    else if q.offset ≠ x.expected then .refuse (refusal stConflict 0x43 x.p)
    else if x.held.isEmpty && s.hopRoom q.element n then
      let s := s.writeUnit q.element es
      .done s { offset := q.offset, detailValue := (s.hop q.element).p } id
    else if s.hopPolicy q.element = 2 then
      .hold (s.modHop q.element fun x => { x with held := x.held ++ [⟨q.session, q.tag, q, q.offset, es, s.now⟩] })
    else .done (s.countN 0x7010 2 3 q.element n) (refusal stLimit 0x4B (s.hopFree q.element)) id) s

/-- HOPPER_WRITE. -/
def execHopperWrite (q : Req) (s : State) : Out := run (request 0x11 q fun _ => hopperWriteBody q) s

/-- Split held writes by whether they still expect the producer index they will find. -/
def staleHeld : Nat → List Held → List Held × List Held
  | _, [] => ([], [])
  | p, w :: ws =>
    if w.offset = p then let r := staleHeld ((p + w.entries.length) % 4294967296) ws; (w :: r.1, r.2)
    else let r := staleHeld p ws; (r.1, w :: r.2)

/-- A held write has waited 1 s: it is answered BUSY, and those behind that counted on it CONFLICT (14 R379). -/
def State.heldOut (s : State) (h : Nat) (w : Held) : State :=
  let s := (s.modHop h fun x => { x with held := x.held.filter fun v => v != w }).answerHeld w.session w.tag (refusal stBusy 0x4B (s.hopFree h))
  let x := s.hop h
  let r := staleHeld x.p x.held
  let s := s.modHop h fun x => { x with held := r.1 }
  s.each r.2 fun v s => s.answerHeld v.session v.tag (refusal stConflict 0x43 x.p)

/-- The held write of a session and tag that is due. -/
def heldEnd (id tag : Nat) (s : State) : State :=
  let due (w : Held) : Bool := w.session == id && w.tag == tag && s.over w.since (secs 1)
  match s.store.hoppers.find? fun e => e.2.held.any due with
  | some e => match e.2.held.find? due with
    | some w => s.heldOut e.1 w
    | none => s
  | none => s

/-- HOPPER_WRITE_TIMEOUT. -/
def execHopperWriteTimeout (session tag : Nat) (s : State) : Out := run (heldEnd session tag) s

/-! Ownership (14 R377, Table 14-16). -/

/-- The role may own hoppers of a kind. -/
def mayOwn (kind role : Nat) : Bool :=
  match kind with
  | 1 | 2 => role == 1 || role == 2
  | 7 => role == 2 || role == 3
  | _ => decide (1 ≤ role ∧ role ≤ 3)

/-- The fields of 8000:01. -/
def State.supFields (s : State) : List Nat :=
  [s.sup.state, (s.now - s.sup.startedAt) / 1000000000, s.ctr 0x8000 1 3 0, s.sup.lastCause, s.sup.lastRestart]

/-- The restart event's unit (14 R382; 01 R17). -/
def State.restartUnit (s : State) : List Bytes :=
  let head := joinFields [1, 4, 4, 1, 10] s.supFields ++ beBytes 2 s.edit.discarded.length
  let list := s.edit.discarded.flatMap fun d => beBytes 2 d.1 ++ beBytes 2 d.2
  eventUnit 3 s.sup.restartNo 0x8000 1 0 s.sup.lastRestart 0 (if list.isEmpty then head else padTo 36 head ++ list)

/-- A session becomes the owner; an event hopper gets the restart event first. -/
def State.claimHopper (s : State) (h id : Nat) : State :=
  let greet := s.hopKind h == 3 && s.sup.again && !(s.hop h).greeted
  let s := s.modHop h fun x => { x with owner := id, greeted := x.greeted || s.hopKind h == 3 }
  if greet then s.postUnit h s.restartUnit else s

/-- SUBSCRIBE, value 1 or 0. -/
def subscribeBody (q : Req) (role : Nat) (s : State) : Act :=
  if beNat q.value = 1 then
    hopperOp q (fun x =>
      if !mayOwn (s.hopKind q.element) role then .refuse (refusal stAccess)
      else if x.owner ≠ 0 ∧ x.owner ≠ q.session then .refuse (naming stConflict 0x7010 1 q.element)
      else if x.owner = q.session then ok s
      else ok (s.claimHopper q.element q.session)) s
  else if beNat q.value = 0 then
    hopperOp q (fun x =>
      if x.owner ≠ q.session then .refuse (notOwner x)
      else ok (s.modHop q.element fun x => { x with owner := 0 })) s
  else .refuse (refusal stRange)

/-- SUBSCRIBE with value 1. -/
def execSubscribe (q : Req) (s : State) : Out := run (request 0x13 q fun x => subscribeBody q x.role) s

/-- SUBSCRIBE with value 0: the hopper keeps its entries and indices. -/
def execRelease (q : Req) (s : State) : Out := run (request 0x13 q fun x => subscribeBody q x.role) s

/-! Configuration (14 R374). -/

/-- A depth of the table: 0, or a power of two from 16 to 4,096. -/
def depthOk (d : Nat) : Bool := [0, 16, 32, 64, 128, 256, 512, 1024, 2048, 4096].contains d

/-- The entries that hoppers other than one have allocated. -/
def State.depthSum (s : State) (h : Nat) : Nat :=
  ((s.elemsOf 0x7000 1).filter fun e => e != h).map (fun e => s.hopDepth e) |>.sum

/-- The write of 7000:01. -/
def effHopper (h : Nat) (_ : Session) (vs : List Nat) (s : State) : Act :=
  let kind := vs.getD 0 0
  let depth := vs.getD 1 0
  let x := s.hop h
  let change := kind != s.hopKind h || depth != s.hopDepth h
  if !depthOk depth then .refuse (refusal stRange)
  else if 65536 < s.depthSum h + depth then .refuse (refusal stLimit)
  else if change ∧ (x.owner ≠ 0 ∨ x.entries ≠ []) then .refuse (naming stState 0x7010 1 h)
  else if kind = 1 ∧ vs.getD 2 0 = 0 then .refuse (refusal stConflict)
  else if depth < vs.getD 3 0 then .refuse (refusal stRange)
  else
    let fresh := depth != s.hopDepth h
    let s := s.setStaged 0x7000 1 h vs
    if fresh then
      let s := s.modHop h fun x => { greeted := x.greeted }
      ok (s.each x.held fun w s => s.answerHeld w.session w.tag (refusal stBusy 0x4B))
    else ok (s.makeRoom h)

/-- HOPPER_CONFIGURATION. -/
def execHopperConfiguration (rq : Rq) (hopper : Nat) (value : Bytes) (s : State) : Out :=
  run (writeOf rq 0x7000 1 hopper value (effHopper hopper)) s

end Sys2Proof.Machine
end

