-- ==== Sys2Proof/Machine/Channels.lean ====
section
/-! DEFINITION. The packets of the time and data channels (02 R53, Table 2-9; 10 R269; 11 R303; 14 R349). -/

namespace Sys2Proof.Machine

/-- A packet of a reserved type. -/
def State.oddPacket (s : State) (l : LaneId) : State :=
  s.modLane l fun x => { x with ch := { x.ch with oddTypes := x.ch.oddTypes + 1 } }

/-- A bad packet is discarded and counted (02 R53). -/
def State.badPacket (s : State) (l : LaneId) : State := s.count 0x3050 7 0 l

/-- The next packet of the time channel: a PTP message, or discarded. -/
def timePacketIn (l : LaneId) (s : State) : State :=
  match (s.lane l).ch.timeRx.ready with
  | [] => s
  | p :: ps =>
    let s := s.modLane l fun x => { x with ch := { x.ch with timeRx := { x.ch.timeRx with ready := ps } } }
    match packetData 512 p.2 with
    | none => s.badPacket l
    | some d => if field d 0 1 = 1 then s.ptpPacket l d p.1.time else s.oddPacket l

/-- The next packet of the data channel, once the supervisor takes it: an IPv6 datagram, a guarded message, or discarded. -/
def dataPacketIn (l : LaneId) (s : State) : State :=
  match s.sup.up, (s.lane l).ch.dataRx.ready with
  | true, p :: ps =>
    let s := s.modLane l fun x => { x with ch := { x.ch with dataRx := { x.ch.dataRx with ready := ps } } }
    match packetData 1536 p.2 with
    | none => s.badPacket l
    | some d =>
      let s := s.modLane l fun x => { x with ch := { x.ch with dataQueue := x.ch.dataQueue - p.2.length } }
      let type := field d 0 1
      if type = 1 then s.laneDatagram l (d.drop 1)
      else if 0x10 ≤ type ∧ type ≤ 0x17 then s.guardedIn l (type - 0x10) (d.drop 1)
      else s.oddPacket l
  | _, _ => s

/-- CHANNEL_PACKET. -/
def execChannelPacket (lane : LaneId) (chan : Chan) (s : State) : Out :=
  run (fun s => match chan with
    | .time => timePacketIn lane s
    | .data => dataPacketIn lane s) s

end Sys2Proof.Machine
end

