-- ==== Sys2Proof/Machine/Alarms.lean ====
section
/-! DEFINITION. Failures and alarm conditions, and their acknowledgement (04 R110, 08 R231, 09 R256, 10 R275, 14 R383, R384, R451, 16 R432). -/

namespace Sys2Proof.Machine

/-- How an alarm condition is reported: integration and clearing times in ns, severity, object, condition, element. -/
structure Report where
  raise : Nat
  clear : Nat
  severity : Nat
  index : Nat
  sub : Nat
  bit : Nat
  element : Nat := 0
  deriving DecidableEq, Repr

/-- The times of R110: 2.5 s and 10 s. -/
abbrev t25 : Nat := 2500000000
abbrev t10 : Nat := 10000000000

/-- Severity of a lane failure; 0 is not reported (04 R110). -/
def State.laneSeverity (s : State) (l : LaneId) (bit : Nat) : Nat :=
  let set := s.cfg 0x3000 3 l
  if bit = 4 ∨ bit = 5 ∨ bit = 7 then min 1 set else set

/-- The Cold engine whose checkpoint is stale (08 R222). -/
def State.staleStandby (s : State) : Nat :=
  if s.engA.state == .cold && s.staleEngine s.engA then 0 else 1

/-- The row of the alarm tables for a condition, and the object of 14 Table 14-22. -/
def State.report (s : State) : AlarmCond → Report
  | .lane l b => ⟨t25, t10, s.laneSeverity l b, 0x3030, 2, b, l⟩
  | .noHolder => ⟨0, 0, 3, 0x5020, 1, 1, 0⟩
  | .commonTally => ⟨0, 0, 3, 0x5020, 1, 2, 0⟩
  | .noStandby => ⟨t25, t10, 2, 0x5020, 1, 3, 0⟩
  | .engineUnusable e => ⟨0, 0, 2, 0x5010, 1, 4, e⟩
  | .standbyStale => ⟨t25, t10, 1, 0x5010, 2, 5, s.staleStandby⟩
  | .freeRun => ⟨t25, t10, 2, 0x5440, 2, 1, 0⟩
  | .holdover => ⟨t25, t10, 1, 0x5440, 2, 2, 0⟩
  | .holdoverLong => ⟨secs 86400, 0, 2, 0x5440, 2, 3, 0⟩
  | .refUnqualified r => ⟨t25, t10, 1, 0x5430, 1, 4, r⟩
  | .disagreement => ⟨0, 0, 1, 0x5440, 3, 5, 0⟩
  | .tjr => ⟨0, 0, 2, 0x5820, 2, 1, 0⟩
  | .timeHoldover => ⟨t25, t10, 1, 0x5820, 2, 2, 0⟩
  | .timeUnset => ⟨secs 600, 0, 1, 0x5820, 2, 3, 0⟩
  | .feedNotValid f => ⟨t25, t10, 1, 0xA000, 1, 1, f⟩
  | .settingsNotRestored => ⟨0, 0, 2, 0xA010, 1, 2, 0⟩
  | .mapNotRestored => ⟨0, 0, 2, 0xA010, 1, 3, 0⟩
  | .checkpointDue => ⟨secs 3600, 0, 1, 0xA020, 2, 4, 0⟩
  | .flashWear a => ⟨0, 0, 2, 0xA020, 1, 5, a⟩
  | .temperature => ⟨t25, t10, 2, 0xA000, 2, 6, 0⟩
  | .cogHeld c => ⟨t25, 0, 2, 0x8010, 1, 1, c⟩
  | .auditUnread => ⟨0, 0, 1, 0x9030, 1, 1, 0⟩
  | .counterNear k => ⟨0, 0, 1, 0x5C21, 1, 1, k⟩
  | .txKeyx k => ⟨t25, t10, 1, 0x5C21, 1, 2, k⟩
  | .rxSealf k => ⟨t25, t10, 1, 0x5C31, 1, 1, k⟩
  | .rxKeyx k => ⟨t25, t10, 1, 0x5C31, 1, 2, k⟩

/-- A condition has been raised as a failure. -/
def State.failed (s : State) (c : AlarmCond) : Bool := s.store.conds.any fun x => x.cond == c && x.failed

/-- A condition that has been present for its time is raised: an alarm, unless its severity says not reported. The cogs do it. -/
def failureRaised (c : AlarmCond) (s : State) : State :=
  let r := s.report c
  if s.sup.up && !s.failed c && s.condNow c && s.condFor c true r.raise then
    let s : State := { s with store.conds := s.store.conds.map fun (x : Cond) => if x.cond == c then { x with failed := true } else x }
    if r.severity = 0 then s else s.raiseAlarm (some c) r.severity r.index r.sub r.bit r.element
  else s

/-- FAILURE_RAISED. -/
def execFailureRaised (c : AlarmCond) (s : State) : Out := run (failureRaised c) s

/-- What clearing takes beside the time: an admitted holder, a valid feed; an engine that was Unusable, a restart of the module (08 Table 8-8,
16 Table 16-8). -/
def State.mayClear (s : State) : AlarmCond → Bool
  | .noHolder => s.lease.admitted
  | .feedNotValid f => s.power.valid.getD f false
  | .engineUnusable _ => false
  | _ => true

/-- A failure whose condition has been absent for its clearing time clears. -/
def failureCleared (c : AlarmCond) (s : State) : State :=
  let r := s.report c
  if s.sup.up && s.failed c && s.condFor c false r.clear && s.mayClear c then
    let s : State := { s with store.conds := s.store.conds.filter fun x => x.cond != c }
    match s.store.alarms.find? fun a => a.cond == some c with
    | some a => s.clearAlarm a
    | none => s
  else s

/-- FAILURE_CLEARED. -/
def execFailureCleared (c : AlarmCond) (s : State) : Out := run (failureCleared c) s

/-! Acknowledgement (14 R384). -/

/-- The number that acknowledges every alarm. -/
def ackAll : Nat := 0xFFFFFFFF

/-- The write of 7800:02. -/
def effAck (session : Nat) (_ : Session) (vs : List Nat) (s : State) : Act :=
  let n := vs.headD 0
  if n = ackAll then
    let s : State := { s with store.alarms := s.store.alarms.map fun (a : Alarm) => { a with acked := true } }
    ok (s.alarmOut 3 { number := ackAll } session)
  else match s.store.alarms.find? fun a => a.number == n with
    | none => .refuse (refusal stAbsent)
    | some a =>
      if a.acked then ok s
      else
        let s : State := { s with store.alarms := s.store.alarms.map fun (b : Alarm) => if b.number = n then { b with acked := true } else b }
        ok (s.alarmOut 3 a session)

/-- ACKNOWLEDGE_ALARM. -/
def execAcknowledgeAlarm (rq : Rq) (number : Nat) (s : State) : Out :=
  run (writeOf rq 0x7800 2 0 (beBytes 4 number) (effAck rq.session)) s

/-- ACKNOWLEDGE_ALL. -/
def execAcknowledgeAll (rq : Rq) (s : State) : Out := run (writeOf rq 0x7800 2 0 (beBytes 4 ackAll) (effAck rq.session)) s

end Sys2Proof.Machine
end

