-- ==== Sys2Proof/Machine/Values.lean ====
section
/-! DEFINITION. What every readable object reads as, and the descriptors (the object tables of each chapter; 14 R362, R363). -/

namespace Sys2Proof.Machine

/-! Values that no command of the model measures: a read gives a free value (log entry 6). -/

/-- Objects whose value may hold a free value. -/
def measured (index sub : Nat) : Bool :=
  (index == 0x2020 && decide (7 ≤ sub ∧ sub ≤ 8)) || (index == 0x5010 && sub == 2) || (index == 0x5F00 && sub == 1)
    || (index == 0x8000 && sub == 3) || (index == 0x8010 && sub == 1) || (index == 0x8020 && sub == 1) || (index == 0x8100 && sub == 1)
    || (index == 0x8200 && sub == 2) || (index == 0xA000 && sub == 1) || (index == 0xA020 && (sub == 1 || sub == 2))

/-- A read of a measured object uses the next four free values. -/
def State.measure (s : State) (index sub : Nat) : State := if measured index sub then { s with fresh := s.fresh + 4 } else s

/-! Firmware (15 Table 15-10). -/

/-- The fields of 1020. -/
def State.value1 (s : State) (sub el : Nat) : List Nat :=
  match sub with
  | 1 =>
    let t := s.sec.running
    if t < 2 then [t, (s.slot t).version, (s.slot t).secVersion, b2n (s.sec.header.pend t), s.sec.header.trials t] else [255, 0, 0, 0, 0]
  | 2 =>
    let x := s.slot el
    let state := if x.state = 1 ∧ x.secVersion < s.sec.floor then 2 else x.state
    [state, x.version, x.secVersion, x.length, if x.state = 0 ∨ x.state = 3 then 0 else beNat (digest x.header)]
  | 3 => [Config.bootRomVersion % 4294967296]
  | _ => [s.sec.floor]

/-! Lanes and ports (03 Tables 3-13 to 3-15). -/

/-- The lane status word (03 Table 3-14). -/
def State.laneStatus (s : State) (l : Nat) : Nat :=
  let x := s.lane l
  flagsWord [s.cfg 0x2020 0x0D l == 1, x.bring.holdSince.isSome, x.bring.stage == 3 && !x.tr.validMsg, x.tr.withoutPartner,
    x.tr.skewExc || x.bring.stage == 8, x.tr.dupLane, x.tr.groupMis, x.tr.widthMis]

/-- The fields of 2010, 2020 and 2800. -/
def State.value2 (s : State) (index sub el : Nat) : List Nat :=
  let x := s.lane el
  if index = 0x2010 then
    match sub with
    | 1 => [x.tr.txPre]
    | 2 => [x.tr.txMain]
    | _ => [x.tr.txPost]
  else if index = 0x2020 then
    match sub with
    | 1 => [x.bring.stage]
    | 2 => [x.bring.highest]
    | 3 => [x.bring.polarity]
    | 4 => [x.bring.logical.getD 255]
    | 5 => [unsigned 32 x.bring.skew]
    | 6 => [Config.equaliser el (x.eq.fixedAt.getD s.now) % 16]
    | 7 => [if x.bring.stage = 3 ∧ x.tr.validMsg = true then x.eq.eyeHeight else s.meas 0 65536]
    | 8 => [if x.bring.stage = 3 ∧ x.tr.validMsg = true then x.eq.eyeWidth else s.meas 0 1001]
    | 0x0A => [s.laneStatus el]
    | 0x0B => [x.tr.partnerStatus]
    | _ => [x.tr.partnerPre, x.tr.partnerMain, x.tr.partnerPost]
  else
    let w := s.width el
    match sub with
    | 5 => [beNat ((List.range 4).map fun i => BitVec.ofNat 8 (if i < w then (s.lane (el + i)).bring.logical.getD 255 else 255))]
    | 6 => [flagsWord ((List.range 8).map fun i => (s.lanesOf el).any fun l => (s.lane l).bring.logical == some i && (s.lane l).bring.stage == 9)]
    | _ => [(s.port el).spread]

/-! Alignment, defects and protection (04 Table 4-5; 07 Table 7-8). -/

/-- The fields of 3800:06. -/
def State.pairFields (s : State) (p : Nat) : List Nat :=
  let x := s.pair p
  let hold (t : Option Nat) : Nat := s.remaining t (msecs (100 * s.cfg 0x3800 4 p)) 100000000
  [if x.pending then 1 else if x.protect ≠ 255 then 2 else 0, x.aps1 / 16, b2n x.selector, x.state, x.far, x.stored,
    b2n x.modeMis + 2 * b2n x.selMis, s.remaining x.wtr (secs (60 * s.cfg 0x3800 3 p)) 1000000000, max (hold x.holdW) (hold x.holdP)]

/-- The state byte of a selector (07 Table 7-7). -/
def Sel.byte (x : Sel) : Nat := b2n x.sel * 128 + b2n x.rev * 64 + x.cmd % 4 * 16 + x.wtr % 16

/-- The fields of 3840:03. -/
def State.selectorFields (s : State) (h : Nat) : List Nat :=
  let runs := s.protRunsOf.filter fun p => p.1.handle == h
  [runs.length, runs.countP fun p => (s.selOf p.2).sel, match s.firstProt h with | some p => (s.selOf p.2).byte | none => 0]

/-- The fields of 3010 to 3060, 3800, 3840 and 3850. -/
def State.value3 (s : State) (index sub el : Nat) : List Nat :=
  let x := s.lane el
  if index = 0x3010 then
    match sub with
    | 1 => [if !x.df.frameLock then 0 else if x.d.lom then 1 else 2]
    | 2 => [x.df.cands.length]
    | _ => let f := x.df.shownFab.getD (0, 0); [f.1, f.2]
  else if index = 0x3020 then [beNat (padTo 60 (x.oh.traceAcc.getD []))]
  else if index = 0x3030 then (if sub = 1 then [s.defectWord el] else [s.failureWord el])
  else if index = 0x3040 then (if sub = 1 then [if x.bay.placed then x.bay.depth else 0] else [unsigned 32 x.bay.phase])
  else if index = 0x3060 then (if sub = 1 then [x.oh.apsAcc] else [x.oh.ssmAcc + 128 * b2n x.oh.ssmInvalid])
  else if index = 0x3800 then
    if sub = 6 then s.pairFields el
    else
      let p := s.pair el
      [beNat [BitVec.ofNat 8 p.aps1, BitVec.ofNat 8 p.aps2, BitVec.ofNat 8 p.aps3, 0]]
  else if index = 0x3840 then s.selectorFields el
  else [s.prot.lastPulsed.toNat]

/-! Edits, activation and fabric (05 Table 5-10; 06 Table 6-16). -/

/-- The transit lag of a lane (06 R179, 05 R144); 0xFFFF while it is not known. -/
def State.transitLag (s : State) (l : Nat) : Nat :=
  let x := s.lane l
  if x.df.frameLock && !x.d.lom && x.bay.placed then
    let id := s.identAt x.bay.fabN
    let lag : Int := 1 + ((x.bay.depth : Int) + x.bay.phase) / 125000
    let shift : Int := ((id.2.1 * 128 + id.2.2 : Nat) : Int) - ((x.df.expSfi * 128 + x.df.expMfi : Nat) : Int)
    unsigned 16 (lag + shift % 16000)
  else 0xFFFF

/-- The fields of 4000, 4100 and 4110. -/
def State.valueEdit (s : State) (index sub el : Nat) : List Nat :=
  if index = 0x4000 then
    match sub with
    | 1 => [s.edit.flight.length]
    | 2 => [s.edit.lastAcc]
    | _ => [s.takingState]
  else if index = 0x4100 then
    if sub = 3 then
      match s.edit.armed with
      | some a => [a.state, a.number, a.mode, a.superframe, a.sfi, a.mfi]
      | none => [if s.fab.copyBusy then 5 else 0, 0, 0, 0, 0, 0]
    else [beNat (padTo 64 s.edit.lastEntry)]
  else
    match sub with
    | 1 => [s.fab.superframe, s.fab.sfi, s.fab.mfi]
    | 2 => [b2n s.tim.aligned]
    | _ => [s.transitLag el]

/-- The entries of a circuit in a page. -/
def circuitIn (page : List Entry) (h : Nat) : List Entry := page.filter fun e => e.handle == h

/-- The busiest bank of a read window: its reads and its number, the lowest of equals. -/
def State.busiest (s : State) (w : Nat) : Nat × Nat :=
  (List.range 176).foldl (fun (m : Nat × Nat) b =>
    let n := windowBank s.pairsInForce s.fab.active w b
    if m.1 < n then (n, b) else m) (0, 0)

/-- The fields of 4200 and 48xx; what counts as changed in the shadow page is log entry 198 (06 R181). -/
def State.value4 (s : State) (index sub el : Nat) : List Nat :=
  let a := s.fab.active
  if index = 0x4200 then
    let es := circuitIn a el
    if sub = 1 then
      [(es.map Entry.leg).eraseDups.length, pageCount es, ((es.filter fun e => !e.mirror).map Entry.slots).sum]
    else [flagsWord [inPage a el, inPage s.fab.shadow el, circuitIn a el != circuitIn s.fab.shadow el]]
  else if index = 0x4800 then
    match sub with
    | 1 => [pageCount a]
    | 2 => [pageCount s.fab.shadow]
    | 3 => [(circuitsOf a).length]
    | _ => [protRuns a]
  else if index = 0x4810 then
    match pageEntry (if sub = 2 then s.fab.shadow else a) el with
    | some (kind, bits, handle) => if sub = 3 then [handle] else [kind, bits]
    | none => []
  else if index = 0x4830 then
    let x := s.engine (engOf el)
    let spares := (List.range 16).map fun i => x.repairs.getD i 0xFFFF
    match sub with
    | 1 => [spares.countP fun b => b != 0xFFFF]
    | 2 => [beNat (spares.flatMap (beBytes 2))]
    | _ => [b2n (x.state == .unusable)]
  else
    let b := s.busiest el
    [windowEntries a el, b.1, b.2, windowPrompt s.pairsInForce a el, windowTapped s.pairsInForce a el]

/-! Engines, the lease and the tally (08 Table 8-10). -/

/-- The fields of 5000 to 5040. -/
def State.value50 (s : State) (index sub el : Nat) : List Nat :=
  let x := s.engine (engOf el)
  if index = 0x5010 then
    match sub with
    | 1 => [x.state.code]
    | 2 => s.checkpointFields (engOf el)
    | 3 => [x.cause, x.failEpoch, x.failStamp]
    | 6 => [s.restartCount (engOf el)]
    | _ => [b2n x.hbReceived, b2n x.hbLost, s.ctr 0x5010 7 3 el]
  else if index = 0x5020 then
    (if sub = 1 then [holderCode s.lease.holder, s.lease.epoch, (s.now - s.lease.renewedAt) / 1000] else [s.lease.lastTakeover])
  else if index = 0x5030 then
    if sub = 1 then [flagsWord (s.lease.window.take 8)]
    else
      let id := identOf s.lease.lastFrame
      [s.lease.lastP, s.lease.lastM, id.1, id.2.1, id.2.2]
  else [s.edit.head, s.edit.mirror, 262144]

/-! Timing (09 Table 9-12). -/

/-- The fields of 5440:02. -/
def State.govFields (s : State) (g : GovId) : List Nat :=
  let x := s.gov g
  let locked := if x.state == .locked then s.now - x.since else x.lockedFor
  [x.state.code, x.ref, locked / 1000000000, if x.state == .holdover then (s.now - x.since) / 1000000000 else 0,
    unsigned 32 x.holdFreq, unsigned 32 (s.pullLeft x), x.history.length]

/-- The fields of 5430 to 5460. -/
def State.value54 (s : State) (index sub el : Nat) : List Nat :=
  if index = 0x5430 then s.refStatus el
  else if index = 0x5440 then
    match sub with
    | 1 => [match s.tim.selected with | some r => (r : Nat) | none => 255]
    | 2 => s.govFields (if el = 0 then 0 else 1)
    | 3 => [flagsWord ((List.finRange 8).map fun r => s.tim.disagree.any fun p => p.1 == r || p.2 == r)]
    | 4 => [s.tim.cmd, s.tim.cmdRef]
    | _ => [s.qlSent]
  else if index = 0x5450 then s.ocxoStatus
  else
    match sub with
    | 1 => [b2n s.tim.aligned]
    | 2 => [unsigned 32 s.tim.diff]
    | _ => [b2n s.tim.realignAt.isSome, s.tim.realignAt.getD 0, s.tim.lastCut, s.ctr 0x5460 4 4 0]

/-! Time of day (10 Table 10-6). -/

/-- The fields of 5820:02. -/
def State.timeFields (s : State) : List Nat :=
  [s.tod.state.code, b2n s.tod.ever, b2n s.tod.tjr, s.tod.permit, unsigned 64 s.tod.lastSample, unsigned 64 (meanInt s.tod.delays)]

/-- The fields of 5810:06, 5820 and 5840:03. -/
def State.value58 (s : State) (index sub el : Nat) : List Nat :=
  if index = 0x5810 then [Config.clockIdentity % 2 ^ 64]
  else if index = 0x5820 then
    match sub with
    | 1 => [time80 s.tod.counter]
    | 2 => s.timeFields
    | 3 => s.stepFields
    | 4 => [unsigned 16 s.tod.utc]
    | _ => match s.masterOf with
      | some f => [f.gm, f.cls, f.steps, beNat f.ident]
      | none => [0, 0, 0, 0]
  else s.trigFields el

/-! Circuit sealing (11 Tables 11-11 and 11-12). -/

/-- Codes of receive stream states. -/
def RxState.code : RxState → Nat
  | .idle => 0
  | .acquire => 1
  | .synced => 2

/-- The fields of 5C00:02. -/
def State.liveFields (s : State) : List Nat :=
  [(s.txStreams.filter fun k => (s.txS k).live).length, (s.rxStreams.filter fun k => (s.rxS k).live).length,
    beNat ((List.range 48).flatMap fun l => beBytes 2 (s.heldSlots s.fab.active l 65536))]

/-- The fields of 5C10:03. -/
def State.keyFields (s : State) (slot : Nat) : List Nat :=
  let x := s.keySlot slot
  let serial (k : Option KeyVal) : Nat := match k with | some v => v.serial | none => 0
  [b2n x.cur.isSome, serial x.cur, b2n x.pend.isSome, serial x.pend, x.switchAt, (s.txOfSlot slot).length + (s.rxOfSlot slot).length]

/-- The fields of 5E10:04. -/
def State.channelFields (s : State) (ch : Nat) : List Nat :=
  let x := s.chan ch
  [b2n x.key.isSome, match x.key with | some v => v.serial | none => 0, s.ctr 0x5E10 4 3 ch, x.next, s.ctr 0x5E10 4 5 ch, s.ctr 0x5E10 4 6 ch, x.last]

/-- The fields of 5C00 to 5F00. -/
def State.value5C (s : State) (index sub el : Nat) : List Nat :=
  if index = 0x5C00 then s.liveFields
  else if index = 0x5C10 then (if sub = 3 then s.keyFields el else [s.keyMark el])
  else if index = 0x5C21 then s.txStatus el
  else if index = 0x5C31 then
    let x := s.rxS el
    [x.state.code, b2n x.sealf, b2n x.keyx, x.hold - 1, x.verified.getD 0]
  else if index = 0x5C40 then [s.sealing.eraseCause, s.sealing.eraseStamp, s.ctr 0x5C40 2 3 0]
  else if index = 0x5E00 then [b2n s.sealing.kwk.isSome]
  else if index = 0x5E10 then s.channelFields el
  else
    let x := s.cipherWork el
    [x.jobs.val.toNat, x.bytes, x.fails.val.toNat, s.meas 0 1001]

/-! Performance monitoring (12 Table 12-9). -/

/-- A bin's fields (12 Table 12-3). -/
def Bin.fields (b : Bin) : List Nat := [b.start, b.elapsed, b.es, b.ses, b.bbe, b.uas, b.errors, b.flags]

/-- The entity that a bin object reports. -/
def binEntity (index sub el : Nat) : Entity :=
  if index = 0x6010 ∨ index = 0x6011 then (if sub ≤ 2 then .near (laneOf el) else .far (laneOf el)) else .stream (streamOf el)

/-- The fields of 60xx. -/
def State.value6 (s : State) (index sub el : Nat) : List Nat :=
  let m := s.mon (binEntity index sub el)
  if index = 0x6010 then
    if sub = 5 then
      let n := s.mon (.near (laneOf el))
      let f := s.mon (.far (laneOf el))
      [b2n !n.unavail, b2n !f.unavail, n.lastCls, f.lastCls]
    else if sub % 2 = 1 then m.q15.fields else m.q24.fields
  else if index = 0x6011 then m.hist24.head?.elim ({} : Bin).fields Bin.fields
  else if index = 0x6020 then
    match sub with
    | 1 => m.q15.fields
    | 2 => m.q24.fields
    | _ => [b2n !m.unavail, m.lastCls]
  else if index = 0x6021 then (if sub = 1 then m.hist15 else m.hist24).head?.elim ({} : Bin).fields Bin.fields
  else
    [b2n s.pm.draining, flagsWord ((List.finRange 16).map fun w => s.pm.wheels.contains w), s.pm.closing, s.pm.lastDrain, s.ctr 0x6040 1 5 0]

/-! Hoppers and alarms (14 Table 14-20). -/

/-- The fields of 7800:03. -/
def State.alarmSummary (s : State) : List Nat :=
  let n (p : Alarm → Bool) : Nat := s.store.alarms.countP p
  ([1, 2, 3].map fun v => n fun a => a.severity == v) ++ ([1, 2, 3].map fun v => n fun a => a.severity == v && !a.acked)
    ++ [n fun a => a.slot.isNone]

/-- The fields of 7000:02, 7010:01, 7800:01 and 7800:03. -/
def State.value7 (s : State) (index sub el : Nat) : List Nat :=
  if index = 0x7000 then
    let n := s.depthSum 8192
    [n, 65536 - n]
  else if index = 0x7010 then
    let x := s.hop el
    [x.owner, b2n (s.subscribed el), x.p, x.c, x.fill, x.highest, x.overflowFill]
  else if sub = 1 then
    match s.store.alarms.find? fun a => a.slot == some el with
    | some a => [a.number, a.severity, b2n a.acked, a.index, a.sub, a.bit, a.element, a.raised]
    | none => [0, 0, 0, 0, 0, 0, 0, 0]
  else s.alarmSummary

/-! Supervisor (13 Table 13-7). -/

/-- The tasks of a cog (13 Table 13-1). -/
def cogTasks (c : Nat) : Nat := flagsWord [decide (c < 48), decide (240 ≤ c), true, true, c == 239]

/-- The fields of 8010:01: a cog held in reset serves none; edit compilation goes to others (13 R328). -/
def State.cogFields (s : State) (c : Nat) : List Nat :=
  let x := s.cog c
  if x.state = 2 then [2, 0, cogTasks c - 8, s.meas 0 1001, x.lastFault] else [x.state, cogTasks c, 0, s.meas 0 1001, x.lastFault]

/-- The fields of 8100:01. -/
def State.bankFields (s : State) (b : Nat) : List Nat :=
  let x := s.bank b
  let use := if x.retired then 3 else if s.sup.passing && s.sup.bolterBank == b then 2 else if x.power = 0 then 0 else s.meas 0 2
  [x.power, use, b2n (decide (b < 4)), max x.wait (s.longest b 10001)]

/-- The fields of 8100:02. -/
def State.bankSummary (s : State) : List Nat :=
  let n (p : Bank → Bool) : Nat := (List.range 64).countP fun b => p (s.bank b)
  [n fun x => x.power == 2, n fun x => x.power == 1, n fun x => x.power == 0 && !x.retired, n fun x => x.retired]

/-- The fields of 80xx, 81xx and 82xx. -/
def State.value8 (s : State) (index sub el : Nat) : List Nat :=
  if index = 0x8000 then (if sub = 1 then s.supFields else [s.meas 0 1001, s.ctr 0x8000 3 2 0, s.longest 64 1001])
  else if index = 0x8010 then s.cogFields el
  else if index = 0x8020 then [flagsWord ((List.range 16).map fun c => s.cogServes (16 * el + c)), s.meas 0 17]
  else if index = 0x8030 then s.auditFields
  else if index = 0x8100 then (if sub = 1 then s.bankFields el else s.bankSummary)
  else if index = 0x8110 then
    [if s.sup.passing then 2 else 0, s.sup.bolterBank, s.sup.bolterSlice, s.ctr 0x8110 2 4 0, s.ctr 0x8110 2 5 0, s.ctr 0x8110 2 6 0,
      s.ctr 0x8110 2 7 0, s.retired]
  else
    match sub with
    | 1 => [if s.sup.state = 1 then 0 else 1]
    | 2 => [s.meas 0 17, 16 - s.meas 0 17, s.ctr 0x8200 2 3 el, s.ctr 0x8200 2 4 el]
    | 3 => [s.parkedOn el, s.ctr 0x8200 3 2 el, s.ctr 0x8200 3 3 el]
    | _ => s.sup.lastReset

/-! Security and management (15 Table 15-11; 14 Table 14-21). -/

/-- The oldest sequence that the journal holds. -/
def State.auditOldest (s : State) : Nat :=
  match (s.sec.buffer ++ s.sec.audit).getLast? with
  | some r => r.seq
  | none => 0

/-- The fields of 90xx. -/
def State.value90 (s : State) (index sub el : Nat) : List Nat :=
  if index = 0x9010 then
    if sub = 3 then
      match s.sec.certs[el]? with
      | some c => [c.serial, c.role, beNat (padTo 32 c.label), c.since]
      | none => [0, 0, 0, 0]
    else [s.certsOf 1, s.certsOf 2, s.certsOf 3, s.sec.mark, beNat (digest s.enrolBytes)]
  else if index = 0x9020 then
    [b2n !s.sec.loopOpen, b2n !s.sec.pinLow, b2n s.sec.latched, min 255 s.sec.authCount, unsigned 16 (moduleTemp s.power.temps)]
  else if index = 0x9030 then [s.auditOldest, s.sec.nextSeq - 1, s.auditUnread, s.ctr 0x9030 1 4 0, s.ctr 0x9030 1 5 0]
  else [Config.identityModulus, Config.identityExponent]

/-- The number of staged elements: a commit that runs keeps those it captured until it ends (14 R371). -/
def State.stagedCount (s : State) : Nat := (s.persist.captureKeys.foldl (fun l k => insKey k l) s.persist.staged).length

/-- The fields of 91xx. -/
def State.value91 (s : State) (index sub el : Nat) : List Nat :=
  if index = 0x9100 then
    [Config.macAddress % 281474976710656, linkLocal, b2n (s.linkUp 0), b2n (s.linkUp 1), if !s.ringMaster then 0 else if s.mgmt.ringOpen then 2 else 1]
  else if index = 0x9120 then
    [s.stagedCount, b2n s.persist.committing, s.persist.lastCommit, s.persist.lastResult, s.ctr 0x9120 3 5 0]
  else if sub = 1 then
    match s.session? el with
    | some x => [x.role, x.cert, x.addr, x.port, s.inFlight el, s.store.hoppers.countP fun h => h.2.owner == el, x.opened]
    | none => []
  else [s.mgmt.sessions.length, s.mgmt.handshakes.length, s.mgmt.flight.length]

/-! Power and flash (16 Table 16-10). -/

/-- The state of a feed: 0 absent; 1 valid; 2 undervoltage; 3 overvoltage; 4 switch open after trips. -/
def State.feedCode (s : State) (f : Nat) : Nat :=
  let v := s.power.volts.getD f 0
  if s.power.hsOpen.getD f false then 4
  else if s.power.valid.getD f false then 1
  else if v = 0 then 0
  else if v ≤ 6100 then 2 else 3

/-- A header copy as it is in flash. -/
def State.headerCopy (s : State) (a : Nat) : Option Header := Header.read a (if a = 0 then s.sec.hdr0 else s.sec.hdr1)

/-- The state of a flash area: 0 erased; 1 valid; 2 invalid; 3 writing; 4 erasing (16 Table 16-5). -/
def State.areaCode (s : State) (a : Nat) : Nat :=
  let slotCode (x : Slot) : Nat := if x.erasing.isSome then 4 else x.state
  let pairCode (k : Nat) (writing valid : Bool) : Nat :=
    if writing then 3 else if (s.erasingArea k).isSome then 4 else if s.erasedArea k then 0 else if valid then 1 else 2
  if s.persist.badArea.contains a then 2
  else if a < 2 then (if (s.headerCopy a).isSome then 1 else 0)
  else if a = 6 ∨ a = 7 then slotCode (s.slot (a - 6))
  else if a = 8 ∨ a = 9 then pairCode (a - 8) (s.persist.committing && s.nextCopy == a - 8) (s.copy (a - 8)).valid
  else if a = 10 ∨ a = 11 then pairCode (a - 8) (s.persist.mapWriting == some (a - 8)) (s.map (a - 8)).valid
  else 1

/-- The sequence of a flash area; areas that the spec gives none show a free value (log entry 6). -/
def State.areaSeq (s : State) (a : Nat) : Nat :=
  if a < 2 then ((s.headerCopy a).map Header.seq).getD 0
  else if a = 8 ∨ a = 9 then (s.copy (a - 8)).seq
  else if a = 10 ∨ a = 11 then (s.map (a - 8)).seq
  else s.meas 0 (2 ^ 64)

/-- What a due map checkpoint waits for: 0 none; 1 interval; 2 budget; 3 erase; 4 page copy (16 R426). -/
def State.mapWaits (s : State) : Nat :=
  let a := s.nextMap
  if s.persist.mapDueAt.isNone || s.persist.mapWriting.isSome then 0
  else if !s.erasedArea a then (if (s.erasingArea a).isNone && s.budgetOf a == 0 then 2 else 3)
  else if !s.over s.persist.mapAt (secs 10) then 1
  else if s.fab.copyBusy then 4
  else 0

/-- The fields of A020:02; with no valid checkpoint the spec states no area, number, position or stamp (log entry 6). -/
def State.mapFields (s : State) : List Nat :=
  let tail : List Nat := [b2n s.persist.mapDueAt.isSome, s.mapWaits, s.ctr 0xA020 2 7 0, s.ctr 0xA020 2 8 0]
  if s.persist.map0.valid || s.persist.map1.valid then
    let a := 5 - s.nextMap
    let a := if (s.map a).valid then a else 5 - a
    [8 + a, (s.map a).number, (s.map a).c, (s.map a).written] ++ tail
  else [s.meas 0 256, s.meas 1 (2 ^ 32), s.meas 2 (2 ^ 64), s.meas 3 (2 ^ 80)] ++ tail

/-- The fields of A000 to A020. -/
def State.valueA (s : State) (index sub el : Nat) : List Nat :=
  let p := s.power
  if index = 0xA000 then
    if sub = 1 then
      [p.volts.getD 0 0, p.volts.getD 1 0, s.feedCode 0, s.feedCode 1, p.inUse, b2n p.keep, s.meas 0 65536, b2n p.holdUp]
    else
      let t := p.temps
      [t.inlet, t.portDie, t.engineA, t.engineB, t.supervisor, t.ocxo].map (unsigned 16)
  else if index = 0xA010 then
    [p.cause, p.step, p.toTraffic, s.persist.headerTaken, s.persist.copyTaken, s.persist.mapTaken, p.removed.length]
  else if sub = 1 then
    [s.areaCode el, s.areaSeq el, tget 0 s.persist.erases el, if 8 ≤ el ∧ el ≤ 11 then s.budgetOf (el - 8) else 255]
  else s.mapFields

/-! Any object (14 R360, R362). -/

/-- The highest subindex of an index below 0xFE (14 R362). -/
def highestSub (index : Nat) : Nat := ((objsOfIndex index).map fun o => o.sub).foldl max 0

/-- The group status, also of 3840, whose counters stand in the fabric (12 Table 12-8). -/
def State.statusWord (s : State) (index el : Nat) : Nat :=
  if index = 0x3840 then b2n (tget {} s.fab.swCount el).carry * 16
  else if index = 0x5F00 then b2n (s.cipherWork el).jobs.carry * 2 + b2n (s.cipherWork el).fails.carry * 8
  else s.groupStatus index el

/-- The fields that a module value reads as. -/
def State.ownFields (s : State) (index sub el : Nat) : List Nat :=
  if index < 0x1020 then (s.identityValue index sub).getD []
  else if index < 0x2000 then s.value1 sub el
  else if index < 0x3000 then s.value2 index sub el
  else if index < 0x4000 then s.value3 index sub el
  else if index < 0x4200 then s.valueEdit index sub el
  else if index < 0x5000 then s.value4 index sub el
  else if index < 0x5400 then s.value50 index sub el
  else if index < 0x5800 then s.value54 index sub el
  else if index < 0x5C00 then s.value58 index sub el
  else if index < 0x6000 then s.value5C index sub el
  else if index < 0x7000 then s.value6 index sub el
  else if index < 0x8000 then s.value7 index sub el
  else if index < 0x9000 then s.value8 index sub el
  else if index < 0x9100 then s.value90 index sub el
  else if index < 0xA000 then s.value91 index sub el
  else s.valueA index sub el

/-- The fields of an object's element: a setting, counters, or a value of the module. -/
def State.fieldsOf (s : State) (o : Obj) (el : Nat) : List Nat :=
  if o.sub = 0 then [highestSub o.index]
  else if o.sub = 0xFE then [s.statusWord o.index el]
  else if o.index = 0x3840 ∧ o.sub = 4 then [(tget {} s.fab.swCount el).val.toNat]
  else if o.access = .rw ∨ o.access = .rwp then s.settingOf o.index o.sub el
  else if o.ctrs = [0] then [s.ctr o.index o.sub 0 el]
  else if o.ctrs.length = o.fields.length ∧ o.ctrs ≠ [] then o.ctrs.map fun f => s.ctr o.index o.sub f el
  else s.ownFields o.index o.sub el

/-! DOMAINs. -/

/-- One segment of a run in a leg (06 Table 6-7). -/
def segBytes (e : Entry) (eport iport aport : Nat) : Bytes :=
  beBytes 4 (e.egress - gaddr eport 0) ++ beBytes 4 (if e.kind = 0 then e.ingress - gaddr iport 0 else 0)
    ++ beBytes 4 (match e.alt with | some c => c.altIn - gaddr aport 0 | none => 0) ++ beBytes 4 e.slots

/-- The SEG entries after a LEG (06 R159); fuel is their number. -/
def segEntries (leg : Nat) : Nat → List Bytes → Bytes
  | 0, _ => []
  | k + 1, l => if l.isEmpty then [] else [4] ++ beBytes 1 leg ++ zeros 14 ++ padTo 48 (l.take 3).flatten ++ segEntries leg k (l.drop 3)

/-- A leg's runs as LEG and SEG entries, with tag 0 (06 R158, R159, R181). -/
def State.legSeries (s : State) (leg : Nat) (es : List Entry) : Bytes :=
  match es with
  | [] => []
  | e :: _ =>
    let eport := s.portOf (posOf e.egress)
    let iport := if e.kind = 0 then s.portOf (posOf e.ingress) else 255
    let aport := match e.alt with | some c => s.portOf (posOf c.altIn) | none => 255
    let idle := if e.kind = 2 then e.ingress else match e.comp with | some c => c.idle | none => 0x7E
    let given := idle != 0x7E
    let attr := e.kind * 64 + b2n e.prompt * 32 + b2n e.sealOn * 16 + b2n e.unsealOn * 8 + e.ca * 2
    let segs := es.map fun e => segBytes e eport iport aport
    [3] ++ beBytes 1 leg ++ [0, 0] ++ beBytes 1 eport ++ beBytes 1 iport ++ beBytes 1 aport ++ beBytes 1 attr
      ++ beBytes 1 (if given then idle else 0) ++ beBytes 1 (b2n given) ++ beBytes 2 es.length ++ beBytes 4 (es.map Entry.slots).sum
      ++ padTo 48 (segs.take 3).flatten ++ segEntries leg es.length (segs.drop 3)

/-- The legs of a circuit in a page, in leg order; mirrors are no runs of the circuit. -/
def State.legsBytes (s : State) (page : List Entry) (h : Nat) : Bytes :=
  let es := (circuitIn page h).filter fun e => !e.mirror
  (List.range 15).flatMap fun leg => s.legSeries leg (es.filter fun e => e.leg == leg)

/-- Records oldest first, each with its chain. -/
def chained : Bytes → List AuditRec → Bytes
  | _, [] => []
  | c, r :: rs => r.bytes c ++ chained (r.chainAfter c) rs

/-- The value of a DOMAIN; none while it is not yet available. -/
def State.domain (s : State) (session index sub el : Nat) : Option Bytes :=
  if index = 0x4200 then some (s.legsBytes (if sub = 3 then s.fab.active else s.fab.shadow) el)
  else if index = 0x6011 then
    let e := binEntity 0x6011 sub el
    if s.draining e then none else some (padTo 3072 (((s.mon e).hist15.take 96).flatMap Bin.bytes))
  else if index = 0x9030 then some (chained s.sec.auditChain s.sec.audit.reverse)
  else if index = 0x9040 then
    if sub = 4 then some Config.identityEndorsement else (tget {} s.sec.reports session).report
  else some (s.power.removed.flatMap (beBytes 4))

/-- Length of a DOMAIN, as far as it is known. -/
def State.domainLength (s : State) (session index sub el : Nat) : Nat :=
  if index = 0x6011 then 3072 else ((s.domain session index sub el).map List.length).getD 0

/-- The value cannot be read now: the page copy runs (05 R152, 06 R181), the drain has not come to it (12 R318), or it is not yet there (15 R405). -/
def State.notReadable (s : State) (session : Nat) (o : Obj) (el : Nat) : Option Ans :=
  if s.fab.copyBusy && ((o.index == 0x4810 && o.sub == 2) || (o.index == 0x4200 && o.sub == 4)) then some (refusal stBusy)
  else if (o.index == 0x6011 || o.index == 0x6021) && s.draining (binEntity o.index o.sub el) then some (refusal stPending)
  else if o.ty = 13 ∧ (s.domain session o.index o.sub el).isNone then some (refusal stPending)
  else none

/-- The state as a request that is being served sees it: itself in flight (14 R358). -/
def State.serving (s : State) (session : Nat) : State := { s with mgmt.flight := s.mgmt.flight ++ [{ session := session }] }

/-- The bytes that a whole read of an object gives. -/
def State.valueBytes (s : State) (session : Nat) (o : Obj) (el : Nat) : Bytes :=
  if o.ty = 13 then (s.domain session o.index o.sub el).getD [] else o.join ((s.serving session).fieldsOf o el)

/-! Descriptors (14 Table 14-12). -/

/-- First and last element of an object (06 R153, 14 R386). -/
def elemRange : Elems → Nat × Nat
  | .one => (0, 0)
  | .upTo n => (0, n - 1)
  | .port | .pair => (0, 47)
  | .circuit | .protRun => (0, 4294967294)
  | .session => (1, 4294967294)
  | .activeEntry | .shadowEntry => (0, 2097151)
  | .matrixPort => (0, 47)

/-- The code of an access code. -/
def Access.code : Access → Nat
  | .ro => 0
  | .rw => 1
  | .rwp => 2
  | .wo => 3
  | .cmd => 4

/-- The descriptor of an object. -/
def Obj.descriptor (o : Obj) : Bytes :=
  let r := elemRange o.elems
  let fs : List (Nat × Nat) := if o.ty = 14 then o.fields else []
  beBytes 1 o.ty ++ beBytes 1 o.access.code ++ beBytes 1 o.rights ++ [0] ++ beBytes 4 o.size ++ beBytes 4 r.1 ++ beBytes 4 r.2
    ++ str 32 o.name ++ beBytes 1 fs.length ++ fs.flatMap fun f => beBytes 1 f.1 ++ beBytes 2 f.2

end Sys2Proof.Machine
end

