-- ==== Sys2Proof/Machine/Access.lean ====
section
/-! DEFINITION. READ, WRITE, READ_MULTI, DOMAIN_READ, DOMAIN_WRITE, DESCRIBE and DISCARD_STAGED (14 R360 to R372, R452; 15 R401). -/

namespace Sys2Proof.Machine

/-! Reads (14 R361, R364, R367, R452). -/

/-- The longest value of a response (14 Table 14-7). -/
def maxValue : Nat := 1388

/-- Steps 5 and 6 for a read. -/
def State.readRight (s : State) (o : Obj) (role : Nat) : Option Ans :=
  if !s.mayRead o role || !o.access.reads then some (refusal stAccess) else none

/-- Steps 3 to 6 for a read. -/
def State.readCheck (s : State) (q : Req) (role : Nat) : Except Ans Obj :=
  match s.object? q.index q.sub with
  | none => .error (refusal stAbsent)
  | some o =>
    match s.elemCheck o q.element with
    | some a => .error a
    | none =>
      match s.readRight o role with
      | some a => .error a
      | none => .ok o

/-- Steps 7 and 8 for a whole read: the refusal, where there is one. -/
def State.wholeCheck (s : State) (session : Nat) (o : Obj) (el : Nat) : Option Ans :=
  let n := if o.ty = 13 then s.domainLength session o.index o.sub el else o.size
  if maxValue < n then some (refusal stRange 0 n) else s.notReadable session o el

/-- The body of a READ. -/
def readObj (q : Req) (x : Session) (s : State) : Act :=
  match s.readCheck q x.role with
  | .error a => .refuse a
  | .ok o =>
    match s.wholeCheck q.session o q.element with
    | some a => .refuse a
    | none => .done (s.measure q.index q.sub) { value := s.valueBytes q.session o q.element } id

/-- READ. -/
def execRead (q : Req) (s : State) : Out := run (request 1 q (readObj q)) s

/-- One item of a READ_MULTI: steps 3 to 8 for a subindex (14 R367). -/
def State.readItem (s : State) (q : Req) (role sub : Nat) : Nat × Bytes :=
  match s.object? q.index sub with
  | none => (stAbsent, [])
  | some o =>
    if s.sealElem o q.element then (stAbsent, [])
    else if (s.elemCheck o q.element).isSome then (stRange, [])
    else match s.readRight o role with
      | some a => (a.status, [])
      | none => match s.wholeCheck q.session o q.element with
        | some a => (a.status, [])
        | none => (stOk, s.valueBytes q.session o q.element)

/-- An item's bytes. -/
def itemBytes (sub : Nat) (i : Nat × Bytes) : Bytes := beBytes 1 sub ++ beBytes 1 i.1 ++ beBytes 2 i.2.length ++ i.2

/-- Items of n subindices from one on that fit whole: how many, their bytes, and the state after their measurements. Subindices end at 0xFF. -/
def readItems (q : Req) (role room : Nat) : Nat → Nat → State → Nat × Bytes × State
  | 0, _, s => (0, [], s)
  | n + 1, sub, s =>
    let b := itemBytes sub (s.readItem q role sub)
    if 255 < sub ∨ room < b.length then (0, [], s)
    else
      let r := readItems q role (room - b.length) n (sub + 1) (s.measure q.index sub)
      (r.1 + 1, b ++ r.2.1, r.2.2)

/-- The body of a READ_MULTI. -/
def readMultiObj (q : Req) (x : Session) (s : State) : Act :=
  match s.object? q.index q.sub with
  | none => .refuse (refusal stAbsent)
  | some o =>
    match s.elemCheck o q.element with
    | some a => .refuse a
    | none =>
      let status := if q.flags = 1 then itemBytes 0xFE (s.readItem q x.role 0xFE) else []
      let r := readItems q x.role (maxValue - status.length) q.length q.sub s
      .done r.2.2 { detailValue := r.1, value := r.2.1 ++ status } id

/-- READ_MULTI. -/
def execReadMulti (q : Req) (s : State) : Out := run (request 3 q (readMultiObj q)) s

/-! DESCRIBE (14 R363): open to every role, for every object that exists. -/

/-- The objects whose elements subindex 0x00, or 0xFE, takes. -/
def sharedObjs (index sub : Nat) : List Obj :=
  (objsOfIndex index).filter fun o => sub == 0 || !o.ctrs.isEmpty

/-- The descriptor of an object; that of 0x00 and 0xFE covers the elements they take. -/
def describeBytes (o : Obj) : Bytes :=
  if o.sub = 0 ∨ o.sub = 0xFE then
    let last := ((sharedObjs o.index o.sub).map fun p => (elemRange p.elems).2).foldl max 0
    { o with elems := .upTo (last + 1) }.descriptor
  else o.descriptor

/-- The body of a DESCRIBE. -/
def describeObj (q : Req) (_ : Session) (s : State) : Act :=
  match s.object? q.index q.sub with
  | none => .refuse (refusal stAbsent)
  | some o => if s.sealElem o q.element then .refuse (refusal stAbsent) else .done s { value := describeBytes o } id

/-- DESCRIBE. -/
def execDescribe (q : Req) (s : State) : Out := run (request 6 q (describeObj q)) s

/-! DOMAIN_READ (14 R368). -/

/-- A snapshot is the one of a session, object and element. -/
def Snapshot.of (x : Snapshot) (session index sub el : Nat) : Bool :=
  x.session == session && x.index == index && x.sub == sub && x.element == el

/-- The segment of a domain's bytes that a request asks for. -/
def segmentAns (q : Req) (d : Bytes) : Ans :=
  { offset := q.offset, detailValue := d.length, value := (d.drop q.offset).take (min q.length maxValue) }

/-- Hold a snapshot, read now, in place of the one held before. -/
def State.holdSnapshot (s : State) (x : Snapshot) : State :=
  { s with mgmt.snapshots := (s.mgmt.snapshots.filter fun y => !y.of x.session x.index x.sub x.element) ++ [{ x with readAt := s.now }] }

/-- The body of a DOMAIN_READ. -/
def domainReadObj (q : Req) (x : Session) (s : State) : Act :=
  match s.readCheck q x.role with
  | .error a => .refuse a
  | .ok o =>
    if o.ty ≠ 13 then .refuse (refusal stAccess)
    else if q.offset = 0 then
      match s.notReadable q.session o q.element with
      | some a => .refuse a
      | none =>
        let d := (s.domain q.session q.index q.sub q.element).getD []
        if d = [] then .refuse (refusal stRange)
        else .done (s.holdSnapshot { session := q.session, index := q.index, sub := q.sub, element := q.element, data := d }) (segmentAns q d) id
    else match s.mgmt.snapshots.find? fun y => y.of q.session q.index q.sub q.element with
      | none => .refuse (refusal stState 0x40)
      | some y =>
        if y.data.length ≤ q.offset then .refuse (refusal stRange)
        else .done (s.holdSnapshot y) (segmentAns q y.data) id

/-- DOMAIN_READ. -/
def execDomainRead (q : Req) (s : State) : Out := run (request 4 q (domainReadObj q)) s

/-- A snapshot is dropped 10 s after its last read. -/
def snapshotEnd (session index sub el : Nat) (s : State) : State :=
  { s with mgmt.snapshots := s.mgmt.snapshots.filter fun y => !(y.of session index sub el && s.over y.readAt (secs 10)) }

/-- DOMAIN_SNAPSHOT_EXPIRY. -/
def execDomainSnapshotExpiry (session index sub element : Nat) (s : State) : Out := run (snapshotEnd session index sub element) s

/-! Writes of any object (14 R361, R370). -/

/-- Store an RWP value, staged, or an RW value. -/
def State.store_ (s : State) (o : Obj) (el : Nat) (vs : List Nat) : State :=
  if o.access = .rwp then s.setStaged o.index o.sub el vs else s.setVal o.index o.sub el vs

/-- A QL that may be written (09 R235). -/
def State.qlOk (s : State) (v : Nat) : Bool := qlAssigned (ssmOption s.persist.dict) v && v != 0x10

/-- The own checks of an object that only stores its value; none when they pass. -/
def State.storeCheck (s : State) (index sub el : Nat) (vs : List Nat) : Option Ans :=
  let v := vs.headD 0
  let bad (b : Bool) (a : Ans) : Option Ans := if b then some a else none
  if index = 0x2010 ∧ sub = 4 then bad (!tapsOk (v, vs.getD 1 0, vs.getD 2 0)) (refusal stRange)
  else if index = 0x3000 ∧ sub = 1 then
    bad ((s.lanesOf (s.portOf el)).any fun l => l != el && s.cfg 0x3000 1 l != v) (refusal stConflict)
  else if index = 0x3020 ∧ sub = 1 then bad (!printable 60 v) (refusal stRange)
  else if (index = 0x5400 ∧ sub = 7) ∨ (index = 0x5420 ∧ sub = 6) ∨ (index = 0x5470 ∧ sub = 2) then bad (!s.qlOk v) (refusal stRange)
  else if index = 0x5410 ∧ sub = 1 then bad (decide (s.cfg 0x5410 2 el < v)) (refusal stConflict)
  else if index = 0x5410 ∧ sub = 2 then bad (decide (v < s.cfg 0x5410 1 el)) (refusal stConflict)
  else if index = 0x5420 ∧ sub = 2 then
    if el < 2 then some (refusal stRange)
    else bad (v != 255 && ((List.range 8).any fun r => decide (2 ≤ r) && r != el && s.cfg 0x5420 2 r == v)) (refusal stConflict)
  else if index = 0x5420 ∧ sub = 3 then bad (decide (2 ≤ el)) (refusal stRange)
  else if index = 0x5420 ∧ sub = 5 then bad (decide (el < 2) && v == 0) (refusal stRange)
  else if index = 0x5E10 ∧ sub = 1 then bad (v != 255 && vs.getD 1 0 == vs.getD 2 0) (refusal stConflict)
  else none

/-- Fixed coefficients act at once on a lane that uses them (03 R80, R93). -/
def State.refreshTaps (s : State) (l : Nat) : State :=
  if s.enabled l && s.usesFixedTaps l then s.modLane l fun x => { x with tr := x.tr.setTaps (s.fixedTaps l) } else s

/-- The write of an object that only stores its value. -/
def effStore (index sub el : Nat) (_ : Session) (vs : List Nat) (s : State) : Act :=
  match s.storeCheck index sub el vs, findObj index sub with
  | some a, _ => .refuse a
  | none, some o =>
    let s := s.store_ o el vs
    ok (if index = 0x2010 then s.refreshTaps el else if index = 0x5400 ∨ index = 0x5420 then s.softStops.evalRefs else s)
  | none, none => .refuse (refusal stAbsent)

/-- Writes of 1030 to 3850. -/
def effLow (session tag index sub el : Nat) : Session → List Nat → State → Act :=
  let key := index * 256 + sub
  if key = 0x103002 then effTrial
  else if key = 0x103003 then effConfirm
  else if key = 0x103004 then effRecovery
  else if key = 0x200001 then effEnable el
  else if key = 0x200002 then effTrainMode el
  else if key = 0x200005 then effPreset el
  else if key = 0x200008 then effLoopback el
  else if key = 0x200009 then effRetrain el
  else if key = 0x20200D then effFreeze el
  else if key = 0x280001 then effWidth el
  else if key = 0x302002 then effExpectedTrace el
  else if key = 0x302004 then effTimMode el
  else if key = 0x380001 then effProtectPort session tag el
  else if key = 0x380002 then effPairMode el
  else if key = 0x380005 then effLine el
  else if key = 0x384001 then effCircuitCmd el
  else if key = 0x384002 then effRevertive el
  else effStore index sub el

/-- Writes of 4010 to 5F00. -/
def effMid (index sub el : Nat) (value : Bytes) (x : Session) (vs : List Nat) (s : State) : Act :=
  let key := index * 256 + sub
  if key = 0x401001 then effRevert x vs s
  else if key = 0x410001 then effArmWrite x vs s
  else if key = 0x410002 then effCancel x vs s
  else if key = 0x500003 then effManualSwitch x vs s
  else if key = 0x500004 then effRestartEngine x vs s
  else if key = 0x500005 then effRefresh x vs s
  else if key = 0x500008 then effTallyRevocation x vs s
  else if key = 0x540001 then effSsmOption x vs s
  else if key = 0x54000A then effSelect x vs s
  else if key = 0x546003 then effRealign x vs s
  else if key = 0x580001 then effTimeSource x vs s
  else if key = 0x580004 then effPermit x vs s
  else if key = 0x581001 then effPtpLane x vs s
  else if key = 0x584001 then effArmTrigger el x vs s
  else if key = 0x584002 then effDisarm el x vs s
  else if key = 0x5C1001 then effInstallKey el (s.unwrapped (value.take 56)) (field value 56 8) x vs s
  else if key = 0x5C1002 then effBinding el x vs s
  else if key = 0x5C1005 then effEraseSlot el x vs s
  else if key = 0x5C2001 then effTxStream el x vs s
  else if key = 0x5C3001 then effRxStream el x vs s
  else if key = 0x5C4001 then effEraseAll x vs s
  else if key = 0x5E0001 then effInstallKwk (Config.openKwk value) x vs s
  else if key = 0x5E1002 then effChannelKey el (s.unwrapped value) x vs s
  else if key = 0x5E1003 then effSend el value x vs s
  else effStore index sub el x vs s

/-- Writes of 6F00 to A020, but 9120:02. -/
def effHigh (session index sub el : Nat) (value : Bytes) : Session → List Nat → State → Act :=
  let key := index * 256 + sub
  if key = 0x6F0001 then effClear
  else if key = 0x700001 then effHopper el
  else if key = 0x780002 then effAck session
  else if key = 0x800002 then effRestartSup
  else if key = 0x811003 then effStartPass
  else if key = 0x830001 then effWindow
  else if key = 0x900001 then effMakerAccess
  else if key = 0x901001 then effEnrol value
  else if key = 0x901002 then effRevokeCert
  else if key = 0x902001 then effTamperEnable
  else if key = 0x902004 then effClearTamper
  else if key = 0x903003 then effMarkRead
  else if key = 0x904001 then effNonce session value
  else if key = 0x910001 then effAddress 1
  else if key = 0x910002 then effAddress 2
  else if key = 0x910005 then effRingMaster
  else if key = 0x912001 then effCommit
  else if key = 0x913003 then effCloseSession el
  else if key = 0xA01002 then effDefaults
  else effStore index sub el

/-- The own checks and the effect of a write, by object. -/
def effAny (session tag index sub el : Nat) (value : Bytes) : Session → List Nat → State → Act :=
  if index < 0x4000 then effLow session tag index sub el
  else if index < 0x6000 then effMid index sub el value
  else effHigh session index sub el value

/-! DISCARD_STAGED (14 R372). -/

/-- No request carries this tag: nothing is answered for a write of the module itself. -/
def noTag : Nat := 0xFFFF

/-- The write of one staged element back to its committed value: the state and what follows, or none where it is refused. -/
def State.discardOne (s : State) (session : Nat) (x : Session) (committed : Tab (List Nat)) (k : Nat) : Option (State × (State → State)) :=
  let index := k / 4294967296 / 256
  let sub := k / 4294967296 % 256
  let el := k % 4294967296
  let vs := dictVal committed index sub el
  let drop (t : State) : State := { t with persist.staged := t.persist.staged.filter (· != k) }
  match s.object? index sub with
  | none => none
  | some o =>
    if (s.elemCheck o el).isSome || !fieldsOk o.ranges vs || s.lacksDies index then none
    else match effAny session noTag index sub el (o.join vs) x vs s with
      | .done t a post => if a.status = stOk then some (drop t, post) else none
      | .hold t => some (drop t, id)
      | .refuse _ => none

/-- Every staged element in ascending order: the state, what follows the response, and the elements refused. -/
def discardAll (session : Nat) (x : Session) (committed : Tab (List Nat)) : List Nat → State → State × (State → State) × List Nat
  | [], s => (s, id, [])
  | k :: ks, s =>
    match s.discardOne session x committed k with
    | some (t, post) =>
      let r := discardAll session x committed ks t
      (r.1, fun u => r.2.1 (post u), r.2.2)
    | none =>
      let r := discardAll session x committed ks s
      (r.1, r.2.1, k :: r.2.2)

/-- The committed values: those of the newest dictionary copy. -/
def State.committed (s : State) : Tab (List Nat) :=
  match s.newestCopy with
  | some a => (s.copy a).values
  | none => []

/-- The write of 9120:02. -/
def effDiscard (session : Nat) (x : Session) (_ : List Nat) (s : State) : Act :=
  if s.persist.committing then .refuse (refusal stBusy 0x48)
  else
    let r := discardAll session x s.committed s.persist.staged s
    match r.2.2 with
    | [] => .done r.1 {} r.2.1
    | k :: ks =>
      .done r.1 { detailValue := ks.length + 1, blkIndex := k / 4294967296 / 256, blkSub := k / 4294967296 % 256, blkElement := k % 4294967296 } r.2.1

/-- DISCARD_STAGED. -/
def execDiscardStaged (rq : Rq) (arg : Byte) (s : State) : Out := run (writeOf rq 0x9120 2 0 [arg] (effDiscard rq.session)) s

/-! DOMAIN_WRITE (14 R369), and the image that one writes (15 R398, R399, R401). -/

/-- Bytes of a transfer still missing. -/
def Transfer.missing (t : Transfer) : Nat := t.total - (t.segs.map fun g => g.2.length).sum

/-- A segment overlaps bytes already staged. -/
def Transfer.overlaps (t : Transfer) (offset n : Nat) : Bool := t.segs.any fun g => meets g.1 g.2.length offset n

/-- Put a segment into its place by offset. -/
def insSeg (g : Nat × Bytes) : List (Nat × Bytes) → List (Nat × Bytes)
  | [] => [g]
  | x :: xs => if g.1 < x.1 then g :: x :: xs else x :: insSeg g xs

/-- The whole value of a complete transfer. -/
def Transfer.value (t : Transfer) : Bytes := t.segs.flatMap Prod.snd

/-- A transfer is that of an object and element. -/
def Transfer.of (t : Transfer) (index sub el : Nat) : Bool := t.index == index && t.sub == sub && t.element == el

/-- Put a transfer in place of the one of its object and element, or take that away. -/
def State.putTransfer (s : State) (t : Transfer) : State :=
  { s with mgmt.transfers := (s.mgmt.transfers.filter fun u => !u.of t.index t.sub t.element) ++ [{ t with lastAt := s.now }] }
def State.endTransfer (s : State) (index sub el : Nat) : State :=
  { s with mgmt.transfers := s.mgmt.transfers.filter fun u => !u.of index sub el }

/-- Why a whole image is not valid, in the order of R399; none when it is. -/
def State.imageCheck (s : State) (b : Bytes) : Option Ans :=
  if field b 0 4 ≠ 0x49445A46 ∨ field b 4 2 ≠ 1 ∨ field b 6 2 ≠ 0x30 ∨ field b 16 4 + 512 ≠ b.length then some (refusal stIntegrity)
  else if !Config.imageSignatureOk (b.take 512) then some (refusal stIntegrity)
  else if field b 12 4 < s.sec.floor then some (refusal stRange)
  else if digest (b.drop 512) ≠ (b.drop 48).take 32 then some (refusal stIntegrity)
  else if gcmTag Config.firmwareKey (field b 20 12) [] (b.drop 512) ≠ (b.drop 32).take 16 then some (refusal stIntegrity)
  else none

/-- The segment that completes an image: the slot becomes valid, or is left invalid (15 R401). -/
def State.applyImage (s : State) (t : Nat) (b : Bytes) : Act :=
  match s.imageCheck b with
  | some a => .done (s.modSlot t fun _ => { state := 2 }) a id
  | none =>
    ok (((s.cipherJob (b.length - 512)).modSlot t fun _ => { state := 1, version := field b 8 4, secVersion := field b 12 4, length := b.length, header := b.take 512, payload := b.drop 512 }).auditImage 1 t)

/-- Sectors of 64 KB from the start of an area that n bytes take (16 R422). -/
def sectorsOf (n : Nat) : Nat := (n + 65535) / 65536

/-- The refusals of R401 before a segment is staged; `upTo` is where it ends in the image. -/
def State.imageBars (s : State) (t upTo : Nat) : Option Ans :=
  if s.sec.running = t ∨ s.sec.header.pendA = true ∨ s.sec.header.pendB = true then some (naming stState 0x1020 1 0)
  else
    let x := s.slot t
    match x.erasing with
    | some since =>
      if x.erased < sectorsOf upTo then some (refusal stBusy 0x51 (s.eraseLeft since + 800 * (sectorsOf upTo - x.erased - 1))) else none
    | none => none

/-- The first segment of an image ends the slot's previous one, and its sectors are erased (15 R401). -/
def State.beginImage (s : State) (t total : Nat) (first : Bool) : State :=
  if first then s.modSlot t fun _ => { state := 3, erasing := some s.now, need := min (areaSectors (6 + t)) (sectorsOf total) } else s

/-- The transfer that a segment belongs to, or the refusal (14 R369). -/
def State.transferFor (s : State) (q : Req) (total offset : Nat) : Except Ans Transfer :=
  match s.mgmt.transfers.find? fun t => t.of q.index q.sub q.element with
  | none => .ok { session := q.session, index := q.index, sub := q.sub, element := q.element, total := total }
  | some t =>
    if t.session ≠ q.session then .error (refusal stBusy)
    else if t.total ≠ total ∨ t.overlaps offset q.value.length then .error (refusal stConflict 0x44 t.missing)
    else .ok t

/-- A complete value is applied under the checks of its object; a refusal leaves the transfer as it was. -/
def State.applyDomain (s : State) (q : Req) (x : Session) (v : Bytes) : Act :=
  let t := s.endTransfer q.index q.sub q.element
  if q.index = 0x1030 then t.applyImage q.element v else effSend q.element v x [] t

/-- Stage a segment, and apply the value where it completes it. -/
def segment (q : Req) (total offset : Nat) (o : Obj) (x : Session) (s : State) : Act :=
  match s.transferFor q total offset with
  | .error a => .refuse a
  | .ok t =>
    match (if q.index = 0x1030 then s.imageBars q.element (offset + q.value.length) else none) with
    | some a => .refuse a
    | none =>
      let u := { t with segs := insSeg (offset, q.value) t.segs }
      let s1 := if q.index = 0x1030 then s.beginImage q.element total t.segs.isEmpty else s
      if u.missing = 0 then audited { q with value := u.value } x o s (s1.applyDomain q x u.value)
      else okWith (s1.putTransfer u) 0 u.missing

/-- The body of a DOMAIN_WRITE. -/
def domainWriteObj (q : Req) (x : Session) (s : State) : Act :=
  match s.object? q.index q.sub with
  | none => .refuse (refusal stAbsent)
  | some o =>
    match s.elemCheck o q.element with
    | some a => .refuse a
    | none =>
      if !mayWrite o x.role || !o.access.writes || o.ty != 13 then .refuse (refusal stAccess)
      else if q.length = 0 ∨ q.total < leastSize q.index ∨ o.size < q.total ∨ q.total < q.offset + q.length then .refuse (refusal stRange)
      else if s.lacksDies q.index then .refuse (refusal stState)
      else segment q q.total q.offset o x s

/-- DOMAIN_WRITE. -/
def execDomainWrite (q : Req) (s : State) : Out := run (request 5 q (domainWriteObj q)) s

/-- A transfer without a segment for 10 s is dropped; an image's slot is then invalid (15 R401). -/
def transferDrop (session index sub el : Nat) (s : State) : State :=
  match s.mgmt.transfers.find? fun t => t.session == session && t.of index sub el && s.over t.lastAt (secs 10) with
  | some t => (s.dropTransfer t).endTransfer index sub el
  | none => s

/-- DOMAIN_TRANSFER_DROP. -/
def execDomainTransferDrop (session index sub element : Nat) (s : State) : Out := run (transferDrop session index sub element) s

/-! WRITE (14 R361, R364, R452). -/

/-- The effect of a WRITE of any object but a DOMAIN. -/
def effWrite (q : Req) : Session → List Nat → State → Act :=
  if q.index = 0x9120 ∧ q.sub = 2 then effDiscard q.session else effAny q.session q.tag q.index q.sub q.element q.value

/-- The body of a WRITE: a DOMAIN takes it as a transfer of one segment. -/
def writeObj (q : Req) (x : Session) (s : State) : Act :=
  match s.writeCheck q x.role with
  | .error a => .refuse a
  | .ok o => if o.ty = 13 then segment q q.value.length 0 o x s else audited q x o s (effWrite q x (o.split q.value) s)

/-- WRITE. -/
def execWrite (q : Req) (s : State) : Out := run (request 2 q (writeObj q)) s

end Sys2Proof.Machine
end

