-- ==== Sys2Proof/Machine/Dispatch.lean ====
section
/-! DEFINITION. The dispatch of a command to its meaning: one arm for each constructor of Instr. -/

namespace Sys2Proof.Machine

/-- The effect of a command on everything but the queue. -/
def exec (i : Instr) (s : State) : Host.Outcome State Fault Refusal :=
  match i with
  | .identity h src op q => Sys2Proof.Machine.execIdentity h src op q s
  | .commissioningFrame frame => Sys2Proof.Machine.execCommissioningFrame frame s
  | .hello h src => Sys2Proof.Machine.execHello h src s
  | .openSession h src serial signatureOk transportOk key => Sys2Proof.Machine.execOpenSession h src serial signatureOk transportOk key s
  | .secure h src tagOk => Sys2Proof.Machine.execSecure h src tagOk s
  | .handshakeLapse session => Sys2Proof.Machine.execHandshakeLapse session s
  | .sessionIdleTimeout session => Sys2Proof.Machine.execSessionIdleTimeout session s
  | .read q => Sys2Proof.Machine.execRead q s
  | .write q => Sys2Proof.Machine.execWrite q s
  | .readMulti q => Sys2Proof.Machine.execReadMulti q s
  | .domainRead q => Sys2Proof.Machine.execDomainRead q s
  | .domainWrite q => Sys2Proof.Machine.execDomainWrite q s
  | .describe q => Sys2Proof.Machine.execDescribe q s
  | .hopperRead q => Sys2Proof.Machine.execHopperRead q s
  | .hopperWrite q => Sys2Proof.Machine.execHopperWrite q s
  | .hopperAck q => Sys2Proof.Machine.execHopperAck q s
  | .subscribe q => Sys2Proof.Machine.execSubscribe q s
  | .release q => Sys2Proof.Machine.execRelease q s
  | .nop q => Sys2Proof.Machine.execNop q s
  | .close q => Sys2Proof.Machine.execClose q s
  | .domainSnapshotExpiry session index sub element => Sys2Proof.Machine.execDomainSnapshotExpiry session index sub element s
  | .domainTransferDrop session index sub element => Sys2Proof.Machine.execDomainTransferDrop session index sub element s
  | .hopperWriteTimeout session tag => Sys2Proof.Machine.execHopperWriteTimeout session tag s
  | .hopperConfiguration rq hopper value => Sys2Proof.Machine.execHopperConfiguration rq hopper value s
  | .acknowledgeAlarm rq number => Sys2Proof.Machine.execAcknowledgeAlarm rq number s
  | .acknowledgeAll rq => Sys2Proof.Machine.execAcknowledgeAll rq s
  | .commit rq arg => Sys2Proof.Machine.execCommit rq arg s
  | .commitComplete verified => Sys2Proof.Machine.execCommitComplete verified s
  | .discardStaged rq arg => Sys2Proof.Machine.execDiscardStaged rq arg s
  | .closeSession rq target arg => Sys2Proof.Machine.execCloseSession rq target arg s
  | .managementAddressWrite rq value => Sys2Proof.Machine.execManagementAddressWrite rq value s
  | .unrynPortWrite rq port => Sys2Proof.Machine.execUnrynPortWrite rq port s
  | .mgtFrame port f => Sys2Proof.Machine.execMgtFrame port f s
  | .ringCheckTimer => Sys2Proof.Machine.execRingCheckTimer s
  | .ringOpen => Sys2Proof.Machine.execRingOpen s
  | .ringClose => Sys2Proof.Machine.execRingClose s
  | .flushFrame port => Sys2Proof.Machine.execFlushFrame port s
  | .ipv6Datagram origin d => Sys2Proof.Machine.execIpv6Datagram origin d s
  | .supervisorRestart cause => Sys2Proof.Machine.execSupervisorRestart cause s
  | .restartSupervisor rq arg => Sys2Proof.Machine.execRestartSupervisor rq arg s
  | .supervisorRestartComplete => Sys2Proof.Machine.execSupervisorRestartComplete s
  | .lockstepMismatch => Sys2Proof.Machine.execLockstepMismatch s
  | .headWatchdog => Sys2Proof.Machine.execHeadWatchdog s
  | .portDieFault => Sys2Proof.Machine.execPortDieFault s
  | .txQueueFault lane => Sys2Proof.Machine.execTxQueueFault lane s
  | .linkFlit engine check => Sys2Proof.Machine.execLinkFlit engine check s
  | .linkFramingLoss engine fault => Sys2Proof.Machine.execLinkFramingLoss engine fault s
  | .blockReceived lane header payload => Sys2Proof.Machine.execBlockReceived lane header payload s
  | .overheadBlockReceived lane row header content => Sys2Proof.Machine.execOverheadBlockReceived lane row header content s
  | .channelPacket lane chan => Sys2Proof.Machine.execChannelPacket lane chan s
  | .sealRecord lane r tagOk => Sys2Proof.Machine.execSealRecord lane r tagOk s
  | .sealRecordDeadline stream => Sys2Proof.Machine.execSealRecordDeadline stream s
  | .aisHoldEnd stream => Sys2Proof.Machine.execAisHoldEnd stream s
  | .candidateExpectedPosition lane position header content => Sys2Proof.Machine.execCandidateExpectedPosition lane position header content s
  | .expectedFabPosition lane header content => Sys2Proof.Machine.execExpectedFabPosition lane header content s
  | .internalFrameBoundary o => Sys2Proof.Machine.execInternalFrameBoundary o s
  | .framePhaseAlignmentLost => Sys2Proof.Machine.execFramePhaseAlignmentLost s
  | .laneEnable rq lane => Sys2Proof.Machine.execLaneEnable rq lane s
  | .laneDisable rq lane => Sys2Proof.Machine.execLaneDisable rq lane s
  | .signalDetectAssert lane => Sys2Proof.Machine.execSignalDetectAssert lane s
  | .signalDetectDeassert lane => Sys2Proof.Machine.execSignalDetectDeassert lane s
  | .signalDetectStable lane => Sys2Proof.Machine.execSignalDetectStable lane s
  | .losDeclared lane => Sys2Proof.Machine.execLosDeclared lane s
  | .losCleared lane => Sys2Proof.Machine.execLosCleared lane s
  | .cdrLockStable lane => Sys2Proof.Machine.execCdrLockStable lane s
  | .cdrLockTimeout lane => Sys2Proof.Machine.execCdrLockTimeout lane s
  | .cdrLockLost lane => Sys2Proof.Machine.execCdrLockLost lane s
  | .trainingMessage lane symbols eye => Sys2Proof.Machine.execTrainingMessage lane symbols eye s
  | .responseTimeExpiry lane => Sys2Proof.Machine.execResponseTimeExpiry lane s
  | .trainingTimerExpiry lane => Sys2Proof.Machine.execTrainingTimerExpiry lane s
  | .trailingFramesEnd lane => Sys2Proof.Machine.execTrailingFramesEnd lane s
  | .blockLockTimeout lane => Sys2Proof.Machine.execBlockLockTimeout lane s
  | .restartHoldExpiry lane => Sys2Proof.Machine.execRestartHoldExpiry lane s
  | .retrain rq lane arg => Sys2Proof.Machine.execRetrain rq lane arg s
  | .rtrPeriodEnd lane => Sys2Proof.Machine.execRtrPeriodEnd lane s
  | .gatherEnd port => Sys2Proof.Machine.execGatherEnd port s
  | .loopbackOff rq lane => Sys2Proof.Machine.execLoopbackOff rq lane s
  | .loopbackSerial rq lane => Sys2Proof.Machine.execLoopbackSerial rq lane s
  | .loopbackParallel rq lane => Sys2Proof.Machine.execLoopbackParallel rq lane s
  | .loopbackFarEnd rq lane => Sys2Proof.Machine.execLoopbackFarEnd rq lane s
  | .equaliserFreeze rq lane => Sys2Proof.Machine.execEqualiserFreeze rq lane s
  | .equaliserUnfreeze rq lane => Sys2Proof.Machine.execEqualiserUnfreeze rq lane s
  | .portWidthWrite rq port width => Sys2Proof.Machine.execPortWidthWrite rq port width s
  | .expectedTraceWrite rq lane text => Sys2Proof.Machine.execExpectedTraceWrite rq lane text s
  | .timModeWrite rq lane mode => Sys2Proof.Machine.execTimModeWrite rq lane mode s
  | .failureRaised c => Sys2Proof.Machine.execFailureRaised c s
  | .failureCleared c => Sys2Proof.Machine.execFailureCleared c s
  | .slipCleared lane => Sys2Proof.Machine.execSlipCleared lane s
  | .transactionTaken hopper => Sys2Proof.Machine.execTransactionTaken hopper s
  | .transactionComplete acceptance => Sys2Proof.Machine.execTransactionComplete acceptance s
  | .revertShadow rq arg => Sys2Proof.Machine.execRevertShadow rq arg s
  | .pageCopyEnd => Sys2Proof.Machine.execPageCopyEnd s
  | .armNextFrame rq r => Sys2Proof.Machine.execArmNextFrame rq r s
  | .armNamedMultiframe rq r => Sys2Proof.Machine.execArmNamedMultiframe rq r s
  | .armTaiInstant rq r => Sys2Proof.Machine.execArmTaiInstant rq r s
  | .sealPoint => Sys2Proof.Machine.execSealPoint s
  | .commitPoint => Sys2Proof.Machine.execCommitPoint s
  | .activation => Sys2Proof.Machine.execActivation s
  | .cancelActivation rq number => Sys2Proof.Machine.execCancelActivation rq number s
  | .protectPortWrite rq port protect => Sys2Proof.Machine.execProtectPortWrite rq port protect s
  | .pairWriteTaken port => Sys2Proof.Machine.execPairWriteTaken port s
  | .pairWriteTimeout port => Sys2Proof.Machine.execPairWriteTimeout port s
  | .pairModeWrite rq port mode => Sys2Proof.Machine.execPairModeWrite rq port mode s
  | .holdOffExpiry port side => Sys2Proof.Machine.execHoldOffExpiry port side s
  | .pairEvaluation => Sys2Proof.Machine.execPairEvaluation s
  | .wtrExpiry port => Sys2Proof.Machine.execWtrExpiry port s
  | .lineClear rq port => Sys2Proof.Machine.execLineClear rq port s
  | .lockoutOfProtection rq port => Sys2Proof.Machine.execLockoutOfProtection rq port s
  | .forcedSwitch rq port => Sys2Proof.Machine.execForcedSwitch rq port s
  | .manualSwitchToProtect rq port => Sys2Proof.Machine.execManualSwitchToProtect rq port s
  | .manualSwitchToWorking rq port => Sys2Proof.Machine.execManualSwitchToWorking rq port s
  | .modeMismatchDeclared port => Sys2Proof.Machine.execModeMismatchDeclared port s
  | .modeMismatchCleared port => Sys2Proof.Machine.execModeMismatchCleared port s
  | .selectorMismatchDeclared port => Sys2Proof.Machine.execSelectorMismatchDeclared port s
  | .selectorMismatchCleared port => Sys2Proof.Machine.execSelectorMismatchCleared port s
  | .circuitWtrTick => Sys2Proof.Machine.execCircuitWtrTick s
  | .circuitWtrExpiry selector => Sys2Proof.Machine.execCircuitWtrExpiry selector s
  | .circuitCommandNone rq handle => Sys2Proof.Machine.execCircuitCommandNone rq handle s
  | .circuitLockout rq handle => Sys2Proof.Machine.execCircuitLockout rq handle s
  | .circuitForced rq handle => Sys2Proof.Machine.execCircuitForced rq handle s
  | .circuitManual rq handle => Sys2Proof.Machine.execCircuitManual rq handle s
  | .circuitRevertiveWrite rq handle value => Sys2Proof.Machine.execCircuitRevertiveWrite rq handle value s
  | .selectorWriteBack => Sys2Proof.Machine.execSelectorWriteBack s
  | .perFrameLeaseState engine => Sys2Proof.Machine.execPerFrameLeaseState engine s
  | .wakeComplete engine result => Sys2Proof.Machine.execWakeComplete engine result s
  | .renewal engine epoch => Sys2Proof.Machine.execRenewal engine epoch s
  | .claim engine epoch => Sys2Proof.Machine.execClaim engine epoch s
  | .leaseExpiry => Sys2Proof.Machine.execLeaseExpiry s
  | .admission => Sys2Proof.Machine.execAdmission s
  | .tallyComparison checkFault portFault loopDone => Sys2Proof.Machine.execTallyComparison checkFault portFault loopDone s
  | .coreRailFault engine => Sys2Proof.Machine.execCoreRailFault engine s
  | .islandRailLoss engine => Sys2Proof.Machine.execIslandRailLoss engine s
  | .refreshDue => Sys2Proof.Machine.execRefreshDue s
  | .refreshCheckpoint rq arg => Sys2Proof.Machine.execRefreshCheckpoint rq arg s
  | .refreshComplete engine o => Sys2Proof.Machine.execRefreshComplete engine o s
  | .heartbeat sender => Sys2Proof.Machine.execHeartbeat sender s
  | .heartbeatLost receiver => Sys2Proof.Machine.execHeartbeatLost receiver s
  | .manualSwitch rq arg => Sys2Proof.Machine.execManualSwitch rq arg s
  | .handover => Sys2Proof.Machine.execHandover s
  | .automaticRestart engine => Sys2Proof.Machine.execAutomaticRestart engine s
  | .restartEngine rq engine => Sys2Proof.Machine.execRestartEngine rq engine s
  | .restartMarchComplete engine badBanks => Sys2Proof.Machine.execRestartMarchComplete engine badBanks s
  | .tallyRevocationWrite rq => Sys2Proof.Machine.execTallyRevocationWrite rq s
  | .referenceEdgeMissing ref => Sys2Proof.Machine.execReferenceEdgeMissing ref s
  | .frequencyMeasurement ref offset => Sys2Proof.Machine.execFrequencyMeasurement ref offset s
  | .hardLimitExceeded ref => Sys2Proof.Machine.execHardLimitExceeded ref s
  | .softLimitFlag ref => Sys2Proof.Machine.execSoftLimitFlag ref s
  | .referenceWtrExpiry ref => Sys2Proof.Machine.execReferenceWtrExpiry ref s
  | .referenceSelection => Sys2Proof.Machine.execReferenceSelection s
  | .disagreementSet a b => Sys2Proof.Machine.execDisagreementSet a b s
  | .disagreementCleared a b => Sys2Proof.Machine.execDisagreementCleared a b s
  | .selectClear rq ref => Sys2Proof.Machine.execSelectClear rq ref s
  | .selectForced rq ref => Sys2Proof.Machine.execSelectForced rq ref s
  | .selectManual rq ref => Sys2Proof.Machine.execSelectManual rq ref s
  | .selectHoldover rq ref => Sys2Proof.Machine.execSelectHoldover rq ref s
  | .selectFreeRun rq ref => Sys2Proof.Machine.execSelectFreeRun rq ref s
  | .governorLocked gov => Sys2Proof.Machine.execGovernorLocked gov s
  | .noLockTimeout => Sys2Proof.Machine.execNoLockTimeout s
  | .historyEntry gov mean => Sys2Proof.Machine.execHistoryEntry gov mean s
  | .calibrationUpdate mean => Sys2Proof.Machine.execCalibrationUpdate mean s
  | .ocxoWarm => Sys2Proof.Machine.execOcxoWarm s
  | .ssmOptionWrite rq option => Sys2Proof.Machine.execSsmOptionWrite rq option s
  | .realignFramePhase rq arg => Sys2Proof.Machine.execRealignFramePhase rq arg s
  | .realignment phases => Sys2Proof.Machine.execRealignment phases s
  | .ppsInEdge => Sys2Proof.Machine.execPpsInEdge s
  | .todMessage message => Sys2Proof.Machine.execTodMessage message s
  | .todOut => Sys2Proof.Machine.execTodOut s
  | .delayReqInterval => Sys2Proof.Machine.execDelayReqInterval s
  | .sourceLost => Sys2Proof.Machine.execSourceLost s
  | .permitStep rq => Sys2Proof.Machine.execPermitStep rq s
  | .permitSlew rq => Sys2Proof.Machine.execPermitSlew rq s
  | .timeSourceWrite rq source => Sys2Proof.Machine.execTimeSourceWrite rq source s
  | .ptpSourceLaneWrite rq lane => Sys2Proof.Machine.execPtpSourceLaneWrite rq lane s
  | .armOneShot rq trig r => Sys2Proof.Machine.execArmOneShot rq trig r s
  | .armPeriodic rq trig r => Sys2Proof.Machine.execArmPeriodic rq trig r s
  | .disarmTrigger rq trig arg => Sys2Proof.Machine.execDisarmTrigger rq trig arg s
  | .triggerFire trig => Sys2Proof.Machine.execTriggerFire trig s
  | .triggerPulseEnd trig => Sys2Proof.Machine.execTriggerPulseEnd trig s
  | .transmitStreamWrite rq stream value => Sys2Proof.Machine.execTransmitStreamWrite rq stream value s
  | .receiveStreamWrite rq stream value => Sys2Proof.Machine.execReceiveStreamWrite rq stream value s
  | .installKey rq slot unwrapped switchAt => Sys2Proof.Machine.execInstallKey rq slot unwrapped switchAt s
  | .keySwitch slot => Sys2Proof.Machine.execKeySwitch slot s
  | .erasePendingKey rq slot => Sys2Proof.Machine.execErasePendingKey rq slot s
  | .eraseSlotKey rq slot => Sys2Proof.Machine.execEraseSlotKey rq slot s
  | .eraseAllKeys rq arg => Sys2Proof.Machine.execEraseAllKeys rq arg s
  | .installKwk rq decrypted => Sys2Proof.Machine.execInstallKwk rq decrypted s
  | .installChannelKey rq channel unwrapped => Sys2Proof.Machine.execInstallChannelKey rq channel unwrapped s
  | .sendMessage rq channel message => Sys2Proof.Machine.execSendMessage rq channel message s
  | .tamperDetected input => Sys2Proof.Machine.execTamperDetected input s
  | .temperatureSample t => Sys2Proof.Machine.execTemperatureSample t s
  | .voltageExcursion rail => Sys2Proof.Machine.execVoltageExcursion rail s
  | .glitchDetected kind => Sys2Proof.Machine.execGlitchDetected kind s
  | .clearTamper rq arg => Sys2Proof.Machine.execClearTamper rq arg s
  | .authCountDecay => Sys2Proof.Machine.execAuthCountDecay s
  | .secondBoundary => Sys2Proof.Machine.execSecondBoundary s
  | .secondClassify entity => Sys2Proof.Machine.execSecondClassify entity s
  | .secondCommit => Sys2Proof.Machine.execSecondCommit s
  | .wheelDrain wheel => Sys2Proof.Machine.execWheelDrain wheel s
  | .clearCounters rq index element => Sys2Proof.Machine.execClearCounters rq index element s
  | .cogWatchdogExpiry cog => Sys2Proof.Machine.execCogWatchdogExpiry cog s
  | .cogFault cog kind => Sys2Proof.Machine.execCogFault cog kind s
  | .cogReloaded cog => Sys2Proof.Machine.execCogReloaded cog s
  | .mapAuditPass mismatches milliseconds => Sys2Proof.Machine.execMapAuditPass mismatches milliseconds s
  | .matrixTimeout master target => Sys2Proof.Machine.execMatrixTimeout master target s
  | .masterReset master o => Sys2Proof.Machine.execMasterReset master o s
  | .marchSlice bank slice result => Sys2Proof.Machine.execMarchSlice bank slice result s
  | .sliceResume => Sys2Proof.Machine.execSliceResume s
  | .marchPassDue => Sys2Proof.Machine.execMarchPassDue s
  | .startMarchPass rq arg => Sys2Proof.Machine.execStartMarchPass rq arg s
  | .bandwidthWindowEnd counts => Sys2Proof.Machine.execBandwidthWindowEnd counts s
  | .bandwidthWindowWrite rq milliseconds => Sys2Proof.Machine.execBandwidthWindowWrite rq milliseconds s
  | .enrolCertificate rq record => Sys2Proof.Machine.execEnrolCertificate rq record s
  | .revokeCertificate rq serial => Sys2Proof.Machine.execRevokeCertificate rq serial s
  | .makerAccessWrite rq value => Sys2Proof.Machine.execMakerAccessWrite rq value s
  | .auditFlush flashOk => Sys2Proof.Machine.execAuditFlush flashOk s
  | .markRead rq sequence => Sys2Proof.Machine.execMarkRead rq sequence s
  | .startTrial rq slot => Sys2Proof.Machine.execStartTrial rq slot s
  | .confirmImage rq arg => Sys2Proof.Machine.execConfirmImage rq arg s
  | .enterRecovery rq arg => Sys2Proof.Machine.execEnterRecovery rq arg s
  | .attestationNonce rq nonce => Sys2Proof.Machine.execAttestationNonce rq nonce s
  | .attestationReportReady session => Sys2Proof.Machine.execAttestationReportReady session s
  | .flashEraseComplete area ok => Sys2Proof.Machine.execFlashEraseComplete area ok s
  | .feedValid feed volts o => Sys2Proof.Machine.execFeedValid feed volts o s
  | .feedInvalid feed volts => Sys2Proof.Machine.execFeedInvalid feed volts s
  | .keepPresent => Sys2Proof.Machine.execKeepPresent s
  | .keepLost => Sys2Proof.Machine.execKeepLost s
  | .hotSwapTrip feed => Sys2Proof.Machine.execHotSwapTrip feed s
  | .hotSwapRetry feed => Sys2Proof.Machine.execHotSwapRetry feed s
  | .holdUpCharged => Sys2Proof.Machine.execHoldUpCharged s
  | .seated o => Sys2Proof.Machine.execSeated o s
  | .presentLost pin => Sys2Proof.Machine.execPresentLost pin s
  | .resetAssert => Sys2Proof.Machine.execResetAssert s
  | .resetRelease o => Sys2Proof.Machine.execResetRelease o s
  | .startupRetry o => Sys2Proof.Machine.execStartupRetry o s
  | .startupComplete => Sys2Proof.Machine.execStartupComplete s
  | .mapCheckpointStart => Sys2Proof.Machine.execMapCheckpointStart s
  | .mapCheckpointComplete verified => Sys2Proof.Machine.execMapCheckpointComplete verified s
  | .eraseBudgetUnit => Sys2Proof.Machine.execEraseBudgetUnit s
  | .restoreDefaults rq value => Sys2Proof.Machine.execRestoreDefaults rq value s
  | .powerFail => Sys2Proof.Machine.execPowerFail s
  | .referenceActivityRestored ref => Sys2Proof.Machine.execReferenceActivityRestored ref s
  | .tamperConditionEnded input => Sys2Proof.Machine.execTamperConditionEnded input s
  | .voltageConditionEnded rail => Sys2Proof.Machine.execVoltageConditionEnded rail s
  | .macAddressAgeing mac => Sys2Proof.Machine.execMacAddressAgeing mac s
  | .mgtLinkChange port up => Sys2Proof.Machine.execMgtLinkChange port up s
  | .keptResponseExpiry session tag => Sys2Proof.Machine.execKeptResponseExpiry session tag s
  | .overheadQueueFault lane => Sys2Proof.Machine.execOverheadQueueFault lane s
  | .scratchpadEccUncorrectable bank use => Sys2Proof.Machine.execScratchpadEccUncorrectable bank use s
  | .slewComplete => Sys2Proof.Machine.execSlewComplete s

end Sys2Proof.Machine
end

