-- ==== Sys2Proof/Machine/Tick.lean ====
section
/-! DEFINITION. The passage of time while no command waits. -/

namespace Sys2Proof.Machine

/-- Lanes that send training frames. -/
def State.trainingLanes (s : State) : List LaneId := (List.finRange 48).filter fun l => (s.lane l).bring.txMode == .training

/-- One nanosecond of the time counter at the time governor's frequency, in units of 2^-16 ns; what is left over is kept (10 R258). -/
def State.countTime (s : State) : State :=
  let g := s.residualStep
  let f := s.tod.frac + 65536 * s.timeFreq + g
  { s with tod.counter := (((s.tod.counter : Int) + 65536 + f / 1000000000000) % ((281474976710656 * tcSecond : Nat) : Int)).toNat
           tod.frac := f % 1000000000000, tod.pull := s.tod.pull - g }

/-- One nanosecond of a slew: what is left of the offset goes out of the counter, at the slope of 5800:03 (10 R267; log entry 165). -/
def State.slewStep (s : State) : State :=
  let f := s.tod.slewFrac + 65536 * s.cfg 0x5800 3 0
  let d := s.tod.slewLeft.sign * (min (f / 1000000000) s.tod.slewLeft.natAbs : Nat)
  { s with tod.slewFrac := f % 1000000000, tod.slewLeft := s.tod.slewLeft - d
           tod.counter := (((s.tod.counter : Int) - d) % ((281474976710656 * tcSecond : Nat) : Int)).toNat }

/-- The time counter, where the port die runs. -/
def State.tickTime (s : State) : State :=
  if s.power.portRail && !s.power.portFault then (if s.tod.slewing then s.countTime.slewStep else s.countTime) else s

/-- Sessions one of whose sequences a NOTIFY has taken to 2^48 close (14 R355; log entry 204). -/
def State.closeSpent (s : State) : State := s.each (s.mgmt.sessions.map Prod.fst) fun id s => s.seqLimit id

/-- One nanosecond: the clock, the time counter where the port die runs, the lanes that train, the heartbeats that are missed, and the sessions whose
sequences are spent (03 R71; 08 R226; 10 R258; 14 R355; log entry 1). -/
def State.tick (s : State) : State :=
  let s := { s.tickTime with now := s.now + 1, out := [] }
  let s := s.each s.trainingLanes fun l s => s.tickTraining l
  ((s.missBeat 0).missBeat 1).closeSpent

end Sys2Proof.Machine
end

