-- ==== Sys2Proof/Machine/Flags.lean ====
section
/-! DEFINITION. The levels of the output pins and flags, as functions of the state (16 R416 Table 16-2; 04 R110; 14 R381; 01 R18). -/

namespace Sys2Proof.Machine

/-- ALM_CRIT_N is asserted: unpowered, in reset, with KEEP only, until start-up completes, on a fault of the port die, and while a
critical alarm stands unacknowledged (01 R18; 04 R110; 16 Table 16-2). -/
def State.almCrit (s : State) : Bool := s.power.step != 9 || s.power.portFault || s.almOutput 3

/-- ALM_MAJ_N or ALM_MIN_N is asserted: until step 5 of start-up has ended, and while an alarm of its severity stands
unacknowledged; during a supervisor restart no alarm changes, so the level is held (01 Table 1-2; 16 Table 16-2). -/
def State.almLower (s : State) (severity : Nat) : Bool := decide (s.power.step < 6) || s.almOutput severity

/-- ALM_MAJ_N is asserted. -/
def State.almMaj (s : State) : Bool := s.almLower 2

/-- ALM_MIN_N is asserted. -/
def State.almMin (s : State) : Bool := s.almLower 1

/-- EVENT_N is driven low: not before step 6 of start-up (14 R381; 16 Table 16-2). -/
def State.eventN (s : State) : Bool := decide (6 ≤ s.power.step) && s.eventNLow

/-- A transmitter of J1 is in electrical idle: without the port die, or while its lane is disabled (03 Table 3-1; 16 Table 16-2). -/
def State.txIdle (s : State) (l : LaneId) : Bool := !s.portUp || (s.lane l).bring.stage == 0

/-- The differential output of a transmitter while it sends a symbol, with the symbols after and before it, each 1 or -1, in 1/80 mV: half the swing
times the coefficients, which lie in steps of 0.025 (03 R66, Table 3-2); nothing in electrical idle. -/
def State.txLevel (s : State) (l : LaneId) (next symbol last : Int) : Int :=
  let x := (s.lane l).tr
  if s.txIdle l then 0
  else (s.cfg 0x2010 5 l : Int) * (-(x.txPre : Int) * next + (24 + (x.txMain : Int)) * symbol - (x.txPost : Int) * last)

/-- A pulse that rose at a time is still high, its width in ns; never without the port die (09 R252; 16 Table 16-2). -/
def State.pulseHigh (s : State) (rose : Option Nat) (width : Nat) : Bool :=
  s.portUp && match rose with
    | some t => decide (s.now < t + width)
    | none => false

/-- FP8K is high: for 1 microsecond from its rise (09 R252). -/
def State.fp8k (s : State) : Bool := s.pulseHigh s.fab.fpAt 1000

/-- 1PPS_OUT is high: for 100 ms from its rise (09 R252). -/
def State.ppsHigh (s : State) : Bool := s.pulseHigh s.tod.ppsAt (msecs 100)

/-- A trigger output is high: never without the port die (10 R272; 16 Table 16-2). -/
def State.trigOut (s : State) (t : TrigId) : Bool := s.portUp && (tget {} s.tod.trigs t).high

/-- ToD_OUT idles high from step 7 of start-up, and is low before (16 Table 16-2). -/
def State.todIdle (s : State) : Bool := s.portUp

end Sys2Proof.Machine
end

