-- ==== Sys2Proof/Safety.lean ====
section
/-! DEFINITION. The terms in which the statements speak: canonical form, what a group of commands may write, and when a request is taken up. -/

namespace Sys2Proof.Machine

/-- The settings in force and in both dictionary copies, the counters and the lanes are in canonical form. -/
def State.wf (s : State) : Prop :=
  twf [] s.persist.dict ∧ twf [] s.persist.copy0.values ∧ twf [] s.persist.copy1.values ∧ twf {} s.cnt ∧ twf {} s.lanes

/-- A step that is neither a fault nor a refusal. -/
def Steps (s t : State) : Prop := step s = .next t

/-- What some number of steps leads to. -/
inductive Reaches (s : State) : State → Prop
  | here : Reaches s s
  | step {t u : State} : Reaches s t → Steps t u → Reaches s u

/-- No key is left, and no session that could deliver one. -/
def NoKeys (t : State) : Prop :=
  (∀ k, (t.keySlot k).cur = none ∧ (t.keySlot k).pend = none) ∧ (∀ c, (t.chan c).key = none) ∧ t.sealing.kwk = none ∧
  t.mgmt.sessions = [] ∧ t.mgmt.handshakes = []

/-! Masks: the state with one group of its parts blanked. Two states with equal masks differ in that group alone. -/

/-- All but what the bring-up, the defects and the receive side of lanes write: the lanes, their ports, counters, the raw PM data,
the present and failed conditions, the qualification of references, and the marks of payload cut in the forebay. -/
def State.lessLanes (s : State) : State :=
  { s with out := [], lanes := [], ports := [], cnt := [], pm.near := [], pm.far := [], store.conds := [], tim.refs := [],
           fab.ones0 := [], fab.ones1 := [] }

/-- Only one lane, and what lanes share, differs. -/
def OnlyLane (l : Nat) (s t : State) : Prop := t.lessLanes = s.lessLanes ∧ ∀ k, k ≠ l → t.lane k = s.lane k

/-- The lanes differ in the rows of the seal channel that their transmitters still have to send, and in nothing else. -/
def SealRowsOnly (s t : State) : Prop :=
  ∀ l, t.lane l = { s.lane l with tx := { (s.lane l).tx with sc := (t.lane l).tx.sc } }

/-- All but what answering a request writes: the session's clock and sequence, the work of the cipher engines, the kept response, the audit record and what follows
from it, counters, and what is sent. -/
def State.lessAnswers (s : State) : State :=
  { s with out := [], cnt := [], mgmt.sessions := [], mgmt.kept := [], mgmt.cipher0 := {}, mgmt.cipher1 := {}, mgmt.cipherNext := false, store.conds := [],
           sec.audit := [], sec.auditChain := [], sec.buffer := [], sec.bufferAt := 0, sec.nextSeq := 0 }

/-- All but what storing a setting writes. -/
def State.lessSettings (s : State) : State := { s with persist.dict := [], persist.staged := [] }

/-- Of the settings in force, one alone differs. -/
def SetsOnly (index sub el : Nat) (s t : State) : Prop :=
  ∀ i b e, objKey i b e ≠ objKey index sub el → t.val i b e = s.val i b e

/-! Requests (14 R356, R358, R364). -/

/-- A request is taken up: requests are served, its session is open with a role, its record has the form of its op, it repeats no kept
request, the window has room, its tag is free, and the session's sequences are below their limit (14 R355 to R358, Table 14-13 steps 1 and 2). -/
def TakenUp (op : Nat) (q : Req) (x : Session) (s : State) : Prop :=
  s.serves = true ∧ s.session? q.session = some x ∧ x.role ≠ 0 ∧ step1 op q = true ∧ s.keptFor op q = none ∧
  s.inFlight q.session < 32 ∧ s.mgmt.flight.length < 512 ∧ (s.mgmt.flight.any fun f => f.session == q.session && f.req.tag == q.tag) = false ∧
  x.sendSeq + 1 < 281474976710656 ∧ x.recvMax < 281474976710656

/-- The state in which a request's own checks and effect run. -/
def State.heard (s : State) (id : Nat) : State := s.modSession id fun y => { y with lastAt := s.now }

/-- A WRITE of one object that passes the checks that every WRITE meets, with room for its audit record (14 Table 14-13; 15 R396). -/
def Writes (rq : Rq) (index sub el : Nat) (v : Bytes) (x : Session) (s : State) : Prop :=
  TakenUp 2 (writeReq rq index sub el v) x s ∧ (∃ o, s.writeCheck (writeReq rq index sub el v) x.role = .ok o) ∧ s.sec.buffer.length < 256

/-- The objects, as index and subindex, whose WRITE does more than store a setting: each has a command of its own, or takes effect at once. -/
def actingObjs : List Nat :=
  [0x103002, 0x103003, 0x103004, 0x200001, 0x200002, 0x200005, 0x200008, 0x200009, 0x20200D, 0x280001, 0x302002, 0x302004, 0x380001,
   0x380002, 0x380005, 0x384001, 0x384002, 0x401001, 0x410001, 0x410002, 0x500003, 0x500004, 0x500005, 0x500008, 0x540001,
   0x54000A, 0x546003, 0x580001, 0x580004, 0x581001, 0x584001, 0x584002, 0x5C1001, 0x5C1002, 0x5C1005, 0x5C2001, 0x5C3001,
   0x5C4001, 0x5E0001, 0x5E1002, 0x5E1003, 0x6F0001, 0x700001, 0x780002, 0x800002, 0x811003, 0x830001, 0x900001, 0x901001,
   0x901002, 0x902001, 0x902004, 0x903003, 0x904001, 0x910001, 0x910002, 0x910005, 0x912001, 0x913003, 0xA01002]

/-- The request of a session is answered with a status. -/
def Answered (op : Nat) (q : Req) (status : Nat) (t : State) : Prop :=
  ∃ r : Resp, .response q.session r ∈ t.out ∧ r.op = op + 128 ∧ r.tag = q.tag ∧ r.status = status

/-- The request of a session is answered with a whole answer. -/
def Replied (op : Nat) (q : Req) (a : Ans) (t : State) : Prop := .response q.session (respOf op q a) ∈ t.out

end Sys2Proof.Machine
end

