-- ==== Sys2Proof/Certificates/Slice0/Obligations.lean ====
section
/-! DEFINITION. The statements about the module, one definition each. A statement says when commands complete, what they write and what they leave. -/

open Sys2Proof Sys2Proof.Machine

/-- A step takes the command at the front of the queue and answers what exec answers with the queue's rest; with nothing waiting one nanosecond
passes (log entry 1, the model's choice); no command stops the machine, and none touches the queue or the clock. -/
def Obligations.AStepTakesTheFrontCommand : Prop :=  (∀ (s : State) (c : Instr), step { s with pending := c :: s.pending } = exec c s) ∧
  (∀ s : State, s.pending = [] → step s = .next s.tick) ∧
  (∀ (s : State) (c : Instr), ∃ t, exec c s = .next t ∧ t.pending = s.pending ∧ t.now = s.now)

/-- Whatever runs, the ordering code and the feature word stay those of manufacture (00 R1). -/
def Obligations.NoStepChangesTheOrderingCode : Prop :=  ∀ (s t : State), Reaches s t →
    t.power.ordering = s.power.ordering ∧ t.identityValue 0x1000 4 = s.identityValue 0x1000 4 ∧ t.identityValue 0x1000 5 = s.identityValue 0x1000 5

/-- From whatever an IDZ48-M1N starts with no seal record at hand, in every state that it reaches no seal record is at hand, SEAL_RECORD does nothing,
and every access to a sealing object is answered ABSENT without effect, whatever the role (00 R2). -/
def Obligations.AnM1nNeverSeals : Prop :=  ∀ (s t : State), s.power.ordering = false →
    (∀ l, (s.lane l).ch.sealReady = [] ∧ (s.lane l).ch.sealWait = []) → Reaches s t →
    s.now ≤ t.now ∧
    (∀ l, (t.lane l).ch.sealReady = [] ∧ (t.lane l).ch.sealWait = []) ∧
    (∀ l r ok, exec (.sealRecord l r ok) t = .next t.quiet) ∧
    (∀ (q : Req) (x : Session), sealingObj q.index = true →
      let absent (op : Nat) (u : State) : Prop := Answered op q 5 u ∧ u.lessAnswers = t.lessAnswers
      (TakenUp 1 q x t → ∃ u, exec (.read q) t = .next u ∧ absent 1 u) ∧
      (TakenUp 2 q x t → ∃ u, exec (.write q) t = .next u ∧ absent 2 u) ∧
      (TakenUp 3 q x t → ∃ u, exec (.readMulti q) t = .next u ∧ absent 3 u) ∧
      (TakenUp 4 q x t → ∃ u, exec (.domainRead q) t = .next u ∧ absent 4 u) ∧
      (TakenUp 5 q x t → ∃ u, exec (.domainWrite q) t = .next u ∧ absent 5 u) ∧
      (TakenUp 6 q x t → ∃ u, exec (.describe q) t = .next u ∧ absent 6 u))

/-- Every step keeps the tables of settings, counters and lanes in canonical form: keys strictly rising, no entry that equals what an unlisted key
reads as (the model's own form, log entry 8). -/
def Obligations.TablesStayCanonical : Prop := ∀ (s t : State), s.wf → Steps s t → t.wf

/-- Reset has the canonical form, an empty queue, no power, no session, no key, no lease and no lane enabled, and every setting at its default (14
R373; the unpowered start is log entry 14, the model's choice). -/
def Obligations.ResetHasTheInvariants : Prop :=
  State.reset.wf ∧ State.reset.pending = [] ∧ State.reset.powered = false ∧ State.reset.portUp = false ∧ State.reset.serves = false ∧
  NoKeys State.reset ∧ State.reset.lease.holder = none ∧ (∀ l, State.reset.lane l = {}) ∧ (∀ l, State.reset.enabled l = false) ∧
  State.reset.edit.armed = none ∧ State.reset.fab.active = [] ∧ State.reset.store.alarms = [] ∧
  (∀ index sub el, State.reset.val index sub el = objDefault 1 index sub el)

/-- Signal detect and the recovered clock move a lane between its first stages, and write that lane alone (03 R81, R83, R85; 04 R108). -/
def Obligations.SignalCommandsMoveTheLane : Prop :=  ∀ (s : State) (l : LaneId),
    -- signal detect asserts, and the unbroken signal of stage 1 begins
    (s.listens l = true → (s.lane l).bring.sd = false →
      ∃ t, exec (.signalDetectAssert l) s = .next t ∧ OnlyLane l s t ∧
        (t.lane l).bring = { (s.lane l).bring with sd := true, sdSince := s.now, sdRun := s.now }) ∧
    -- signal detect deasserts: stage 1, with a restart hold from stage 4 on and where one runs
    (s.listens l = true → (s.lane l).bring.sd = true →
      ∃ t, exec (.signalDetectDeassert l) s = .next t ∧ OnlyLane l s t ∧
        (t.lane l).bring.sd = false ∧ (t.lane l).bring.cdr = false ∧ (t.lane l).bring.sdSince = s.now ∧
        (2 ≤ (s.lane l).bring.stage → (t.lane l).bring.stage = 1) ∧
        (4 ≤ (s.lane l).bring.stage ∨ (s.lane l).bring.holdSince.isSome = true →
          (t.lane l).bring.holdSince = some ((s.lane l).bring.holdSince.getD s.now) ∧
          (t.lane l).bring.txMode = (s.lane l).bring.txMode)) ∧
    -- 100 microseconds of signal in stage 1: stage 2
    (s.enabled l = true → (s.lane l).bring.sd = true → (s.lane l).bring.stage = 1 → s.over (s.lane l).bring.sdRun 100000 = true →
      ∃ t, exec (.signalDetectStable l) s = .next t ∧ OnlyLane l s t ∧
        (t.lane l).bring.stage = 2 ∧ (t.lane l).bring.stageSince = s.now) ∧
    -- the clock locks in stage 2: stage 3, or stage 4 within a restart hold, under fixed coefficients and in a near-end loopback
    (s.enabled l = true → (s.lane l).bring.stage = 2 →
      ∃ t, exec (.cdrLockStable l) s = .next t ∧ OnlyLane l s t ∧ (t.lane l).bring.cdr = true ∧ (t.lane l).bring.stageSince = s.now ∧
        (t.lane l).bring.stage =
          (if (s.lane l).bring.holdSince.isSome || s.fixedMode l || s.nearLoop l then 4 else 3)) ∧
    -- no lock within 10 ms of stage 2: stage 1, and 2030:05 counts
    ((s.lane l).bring.stage = 2 → s.over (s.lane l).bring.stageSince 10000000 = true →
      ∃ t, exec (.cdrLockTimeout l) s = .next t ∧ OnlyLane l s t ∧ (t.lane l).bring.stage = 1 ∧
        t.ctr 0x2030 5 0 l = (s.ctr 0x2030 5 0 l + 1) % 4294967296) ∧
    -- the clock is lost: a restart from stage 3, stage 2 with a restart hold from stage 4 on; in near-end parallel loopback nothing
    (s.loopback l = 2 → ∃ t, exec (.cdrLockLost l) s = .next t ∧ t = s.quiet) ∧
    (s.enabled l = true → s.loopback l ≠ 2 → 3 ≤ (s.lane l).bring.stage →
      ∃ t, exec (.cdrLockLost l) s = .next t ∧ OnlyLane l s t ∧ (t.lane l).bring.cdr = false ∧
        ((s.lane l).bring.stage = 3 → (t.lane l).bring.stage = 1) ∧
        (4 ≤ (s.lane l).bring.stage → (t.lane l).bring.stage = 2 ∧
          (t.lane l).bring.holdSince = some ((s.lane l).bring.holdSince.getD s.now)))

/-- LOS is declared after 10 microseconds without signal and clears after 100 microseconds of it; a present LOS suppresses what R109 ranks below it.
SLIP clears 10 s after the last slip (04 R108, R109, Table 4-1). Three expiries restart a lane: block lock not reached within 5 ms outside a restart
hold, a restart hold that ends, and the end of the 8 frames that carry RTR. A restart is stage 1 without hold or lock, and 2030:01 counts it (03
R83, R85, R87, Table 3-9). -/
def Obligations.LaneTimersExpire : Prop :=
  (∀ (s : State) (l : LaneId),
    (s.listens l = true → (s.lane l).bring.sd = false → (s.lane l).d.los = false → s.over (s.lane l).bring.sdSince 10000 = true →
      ∃ t, exec (.losDeclared l) s = .next t ∧ OnlyLane l s t ∧ (t.lane l).bring = (s.lane l).bring ∧
        (t.lane l).d = { (s.lane l).d with
          los := true, lol := false, lof := false, lom := false, ais := false, rdi := false, tim := false, aisRun := 0, rdiRun := 0 }) ∧
    ((s.lane l).d.los = true → (s.lane l).bring.sd = true → s.over (s.lane l).bring.sdSince 100000 = true →
      ∃ t, exec (.losCleared l) s = .next t ∧ OnlyLane l s t ∧ (t.lane l).bring = (s.lane l).bring ∧ (t.lane l).d.los = false ∧
        (t.lane l).d.lol = !(s.lane l).df.blockLock) ∧
    ((s.lane l).d.slip = true → s.over (s.lane l).d.slipAt 10000000000 = true →
      ∃ t, exec (.slipCleared l) s = .next t ∧ OnlyLane l s t ∧ (t.lane l).bring = (s.lane l).bring ∧ (t.lane l).d.slip = false)) ∧
  (∀ (s : State) (l : LaneId), s.enabled l = true →
    ((s.lane l).bring.stage = 4 → (s.lane l).bring.holdSince = none → s.over (s.lane l).bring.stageSince 5000000 = true →
      ∃ t, exec (.blockLockTimeout l) s = .next t ∧ OnlyLane l s t ∧ (t.lane l).bring.stage = 1 ∧ (t.lane l).bring.stageSince = s.now ∧
        (t.lane l).bring.cdr = false ∧ t.ctr 0x2030 1 0 l = (s.ctr 0x2030 1 0 l + 1) % 4294967296) ∧
    (∀ u, (s.lane l).bring.holdSince = some u → s.over u (s.cfg 0x2000 6 l * 1000000) = true →
      ∃ t, exec (.restartHoldExpiry l) s = .next t ∧ OnlyLane l s t ∧ (t.lane l).bring.stage = 1 ∧ (t.lane l).bring.stageSince = s.now ∧
        (t.lane l).bring.holdSince = none ∧ t.ctr 0x2030 1 0 l = (s.ctr 0x2030 1 0 l + 1) % 4294967296) ∧
    (∀ u, (s.lane l).tr.rtrSince = some u → s.over u 1000000 = true →
      ∃ t, exec (.rtrPeriodEnd l) s = .next t ∧ OnlyLane l s t ∧ (t.lane l).bring.stage = 1 ∧ (t.lane l).bring.stageSince = s.now ∧
        (t.lane l).tr.rtrSince = none ∧ t.ctr 0x2030 1 0 l = (s.ctr 0x2030 1 0 l + 1) % 4294967296))

/-- A lane in stage 3 answers each valid training message, is ready when it has converged with an eye of 30 mV and 0.30 UI, asks for nothing for 16
frames when its own request has had no answer for 1 ms, and leaves the stage at the end of the trailing frames or of its training timer (03 R75 to
R79). -/
def Obligations.TrainingRunsItsCourse : Prop :=  ∀ (s : State) (l : LaneId), (s.lane l).bring.stage = 3 →
    (∀ (w : BitVec 304) (m : Bytes) (e : EyeObs), s.listens l = true → trainingMessageOf w = some m →
      ∃ t, exec (.trainingMessage l w e) s = .next t ∧ OnlyLane l s t ∧ (t.lane l).bring = (s.lane l).bring ∧
        (t.lane l).tr.validMsg = true ∧ (t.lane l).tr.answered = field m 4 1 ∧
        (t.lane l).tr.rxReady = (e.converged && decide (30 ≤ e.height ∧ 300 ≤ e.width)) ∧
        (t.lane l).eq.eyeHeight = e.height ∧ (t.lane l).eq.eyeWidth = e.width ∧
        t.out = [.training l (statusByte (t.lane l).tr) (field m 4 1)] ∧
        (bit (field m 1 1) 1 = true → (s.lane l).tr.presetApplied = false →
          (t.lane l).tr.taps = presetTaps (bits (field m 3 1) 2 0) ∧ (t.lane l).tr.presetApplied = true)) ∧
    (∀ u, (s.lane l).tr.reqSince = some u → s.over u 1000000 = true →
      ∃ t, exec (.responseTimeExpiry l) s = .next t ∧ OnlyLane l s t ∧
        t.lane l = { s.lane l with tr := { (s.lane l).tr with holdFrames := 17, reqSince := none } }) ∧
    (∀ u, (s.lane l).tr.trainSince = some u → (s.lane l).tr.trailSince = none → s.over u (s.cfg 0x2000 4 l * 1000000) = true →
      ((s.lane l).tr.validMsg = true ∨ s.cfg 0x2000 3 l ≠ 1 → s.enabled l = true →
        ∃ t, exec (.trainingTimerExpiry l) s = .next t ∧ OnlyLane l s t ∧ (t.lane l).bring.stage = 1 ∧ (t.lane l).tr.withoutPartner = false ∧
          t.ctr 0x2030 2 0 l = (s.ctr 0x2030 2 0 l + 1) % 4294967296) ∧
      ((s.lane l).tr.validMsg = false → s.cfg 0x2000 3 l = 1 →
        ∃ t, exec (.trainingTimerExpiry l) s = .next t ∧ OnlyLane l s t ∧ (t.lane l).bring.stage = 4 ∧
          (t.lane l).bring.txMode = .zasyn ∧ (t.lane l).tr.withoutPartner = true ∧ (t.lane l).tr.trainSince = none ∧
          (t.lane l).tr.taps = presetTaps (s.cfg 0x2000 5 l) ∧
          t.ctr 0x2030 3 0 l = (s.ctr 0x2030 3 0 l + 1) % 4294967296)) ∧
    (∀ u, (s.lane l).tr.trailSince = some u → s.over u 21990 = true →
      ∃ t, exec (.trailingFramesEnd l) s = .next t ∧ OnlyLane l s t ∧ (t.lane l).bring.stage = 4 ∧ (t.lane l).bring.txMode = .zasyn ∧
        (t.lane l).tr.withoutPartner = false ∧ ((s.lane l).bring.txMode ≠ .zasyn → (t.lane l).df.scr = BitVec.allOnes 58))

/-- The 4 ms gather of a port ends: the waiting lanes outside the chosen set are marked as skewed beyond the window (03 R90). A fault of a lane's
transmit queue reloads its scrambler and starts its transmit frames afresh; one of its overhead queue takes the lane to LOF. Each is recorded as
internal, while the audit buffer has room (01 R20, Table 1-4; 15 R396, Table 15-4; log entry 174). -/
def Obligations.GathersEndAndQueueFaultsAreConfined : Prop :=
  (∀ (s : State) (p : LaneId) (u : Nat), (s.port p).gather = some u → s.over u 4000000 = true →
    ∃ t, exec (.gatherEnd p) s = .next t ∧ (t.port p).gather = none ∧
      t.lessLanes = s.lessLanes ∧ (∀ k : LaneId, s.portOf k ≠ p → t.lane k = s.lane k) ∧
      ∀ k : LaneId, s.portOf k = p → (s.lane k).bring.stage = 8 →
        ¬ k ∈ s.gatherChoice ((s.portLanes p).filter fun l => (s.lane l).bring.stage == 8) → (t.lane k).tr.skewExc = true) ∧
  (∀ (s : State) (l : LaneId), s.enabled l = true → s.sec.buffer.length < 256 →
    (∃ t, exec (.txQueueFault l) s = .next t ∧ (∀ k, k ≠ (l : Nat) → t.lane k = s.lane k) ∧
      t.lane l = { s.lane l with df := { (s.lane l).df with scr := BitVec.allOnes 58 }, tx := { (s.lane l).tx with txRun := false } } ∧
      t.sec.nextSeq = s.sec.nextSeq + 1 ∧ t.persist = s.persist ∧ t.fab = s.fab ∧ t.lease = s.lease) ∧
    ((s.lane l).df.frameLock = true →
      ∃ t, exec (.overheadQueueFault l) s = .next t ∧ (∀ k, k ≠ (l : Nat) → t.lane k = s.lane k) ∧
        (t.lane l).bring.stage = 5 ∧ (t.lane l).df.frameLock = false ∧
        t.sec.nextSeq = s.sec.nextSeq + 1 ∧ t.persist = s.persist ∧ t.lease = s.lease))

/-- Writing 2000:01 enables a lane into stage 1 or takes it to stage 0, and 2000:09 retrains it: RTR while it sends blocks, a restart at once while
it sends training frames (03 R81, R87, Table 3-11). -/
def Obligations.LaneEnableDisableRetrain : Prop :=  ∀ (s : State) (rq : Rq) (x : Session) (l : LaneId), s.portUp = true →
    (Writes rq 0x2000 1 l (u8 1) x s → s.cfg 0x2000 1 l ≠ 1 →
      ∃ t, exec (.laneEnable rq l) s = .next t ∧ Answered 2 (writeReq rq 0x2000 1 l (u8 1)) 0 t ∧ SetsOnly 0x2000 1 l s t ∧
        t.cfg 0x2000 1 l = 1 ∧ (t.lane l).bring.stage = 1 ∧ (t.lane l).df.scr = BitVec.allOnes 58 ∧
        (∀ k, k ≠ (l : Nat) → t.lane k = s.lane k) ∧
        ({ t with restarted := [] } : State).lessAnswers.lessSettings.lessLanes = ({ s with restarted := [] } : State).lessAnswers.lessSettings.lessLanes) ∧
    (Writes rq 0x2000 1 l (u8 0) x s → s.cfg 0x2000 1 l = 1 →
      ∃ t, exec (.laneDisable rq l) s = .next t ∧ Answered 2 (writeReq rq 0x2000 1 l (u8 0)) 0 t ∧ SetsOnly 0x2000 1 l s t ∧
        t.cfg 0x2000 1 l = 0 ∧ (t.lane l).bring = {} ∧ (t.lane l).tr = {} ∧
        (∀ k, k ≠ (l : Nat) → t.lane k = s.lane k) ∧
        t.lessAnswers.lessSettings.lessLanes = s.lessAnswers.lessSettings.lessLanes) ∧
    (∀ arg, Writes rq 0x2000 9 l [arg] x s → s.enabled l = true →
      ∃ t, exec (.retrain rq l arg) s = .next t ∧ Answered 2 (writeReq rq 0x2000 9 l [arg]) 0 t ∧
        ((s.lane l).bring.txMode = .zasyn → t.lane l = { s.lane l with tr := { (s.lane l).tr with rtrSince := some s.now } }) ∧
        ((s.lane l).bring.txMode ≠ .zasyn → (t.lane l).bring.stage = 1) ∧
        (∀ k, k ≠ (l : Nat) → t.lane k = s.lane k) ∧ t.lessAnswers.lessLanes = s.lessAnswers.lessLanes)

/-- The loopback of an enabled lane follows 2000:08: serial enters at stage 2, parallel at stage 4, both send Zasyn blocks without a restart hold
and see their own signal (log entry 148, the model's choice), far-end sends back what it receives, and off returns the lane. From one loopback to another the write is refused (03 R92, R93, Table 3-12). -/
def Obligations.LoopbackFollowsItsSetting : Prop :=  ∀ (s : State) (rq : Rq) (x : Session) (l : LaneId), s.enabled l = true →
    (Writes rq 0x2000 8 l (u8 1) x s → s.cfg 0x2000 8 l = 0 →
      ∃ t, exec (.loopbackSerial rq l) s = .next t ∧ Answered 2 (writeReq rq 0x2000 8 l (u8 1)) 0 t ∧ SetsOnly 0x2000 8 l s t ∧
        t.cfg 0x2000 8 l = 1 ∧ (t.lane l).bring.stage = 2 ∧ (t.lane l).bring.txMode = .zasyn ∧ (t.lane l).bring.sd = true ∧
        (t.lane l).bring.holdSince = none ∧ (t.lane l).tr.taps = s.fixedTaps l ∧
        (∀ k, k ≠ (l : Nat) → t.lane k = s.lane k) ∧ t.lessAnswers.lessSettings.lessLanes = s.lessAnswers.lessSettings.lessLanes) ∧
    (Writes rq 0x2000 8 l (u8 2) x s → s.cfg 0x2000 8 l = 0 →
      ∃ t, exec (.loopbackParallel rq l) s = .next t ∧ Answered 2 (writeReq rq 0x2000 8 l (u8 2)) 0 t ∧ SetsOnly 0x2000 8 l s t ∧
        t.cfg 0x2000 8 l = 2 ∧ (t.lane l).bring.stage = 4 ∧ (t.lane l).bring.txMode = .zasyn ∧ (t.lane l).bring.sd = true ∧
        (t.lane l).bring.holdSince = none ∧
        (∀ k, k ≠ (l : Nat) → t.lane k = s.lane k) ∧ t.lessAnswers.lessSettings.lessLanes = s.lessAnswers.lessSettings.lessLanes) ∧
    (Writes rq 0x2000 8 l (u8 3) x s → s.cfg 0x2000 8 l = 0 →
      ∃ t, exec (.loopbackFarEnd rq l) s = .next t ∧ Answered 2 (writeReq rq 0x2000 8 l (u8 3)) 0 t ∧ SetsOnly 0x2000 8 l s t ∧
        t.cfg 0x2000 8 l = 3 ∧ t.lane l = { s.lane l with tx := { (s.lane l).tx with felbTx := true } } ∧
        (∀ k, k ≠ (l : Nat) → t.lane k = s.lane k) ∧ t.lessAnswers.lessSettings.lessLanes = s.lessAnswers.lessSettings.lessLanes) ∧
    (Writes rq 0x2000 8 l (u8 0) x s → s.cfg 0x2000 8 l ≠ 0 →
      ∃ t, exec (.loopbackOff rq l) s = .next t ∧ Answered 2 (writeReq rq 0x2000 8 l (u8 0)) 0 t ∧ SetsOnly 0x2000 8 l s t ∧
        t.cfg 0x2000 8 l = 0 ∧ (s.cfg 0x2000 8 l ≠ 3 → (t.lane l).bring.stage = 1) ∧
        (s.cfg 0x2000 8 l = 3 → t.lane l = { s.lane l with tx := { (s.lane l).tx with felbTx := false } }) ∧
        (∀ k, k ≠ (l : Nat) → t.lane k = s.lane k) ∧ t.lessAnswers.lessSettings.lessLanes = s.lessAnswers.lessSettings.lessLanes) ∧
    (Writes rq 0x2000 8 l (u8 2) x s → s.cfg 0x2000 8 l = 1 →
      ∃ t, exec (.loopbackParallel rq l) s = .next t ∧ Answered 2 (writeReq rq 0x2000 8 l (u8 2)) 2 t ∧ t.lanes = s.lanes ∧ t.persist = s.persist)

/-- The freeze of an equaliser, the expected trace and the TIM mode are stored and read back; no other setting and no other lane changes; a frozen
equaliser stands still from then on, and TIM mode 0 clears TIM (03 R70; 04 R118, R119). A new port width is stored, the ports that the new port takes in go back to defaults, and every enabled
lane of either width restarts (03 R95; 14 R373). -/
def Obligations.LaneAndPortSettingsAct : Prop :=
  (∀ (s : State) (rq : Rq) (x : Session) (l : LaneId),
    (Writes rq 0x2020 0x0D l (u8 1) x s →
      ∃ t, exec (.equaliserFreeze rq l) s = .next t ∧ Answered 2 (writeReq rq 0x2020 0x0D l (u8 1)) 0 t ∧ SetsOnly 0x2020 0x0D l s t ∧
        t.cfg 0x2020 0x0D l = 1 ∧ (∀ k, k ≠ (l : Nat) → t.lane k = s.lane k) ∧
        t.lane l = { s.lane l with eq := { (s.lane l).eq with
          fixedAt := if (s.lane l).bring.stage = 0 then none else some ((s.lane l).eq.fixedAt.getD s.now) } } ∧
        { t.lessAnswers.lessSettings with lanes := s.lanes } = s.lessAnswers.lessSettings) ∧
    (Writes rq 0x2020 0x0D l (u8 0) x s →
      ∃ t, exec (.equaliserUnfreeze rq l) s = .next t ∧ Answered 2 (writeReq rq 0x2020 0x0D l (u8 0)) 0 t ∧ SetsOnly 0x2020 0x0D l s t ∧
        t.cfg 0x2020 0x0D l = 0 ∧ (∀ k, k ≠ (l : Nat) → t.lane k = s.lane k) ∧
        ((s.lane l).bring.stage ≠ 1 → t.lane l = { s.lane l with eq := { (s.lane l).eq with fixedAt := none } }) ∧
        { t.lessAnswers.lessSettings with lanes := s.lanes } = s.lessAnswers.lessSettings) ∧
    (∀ text : Bytes, Writes rq 0x3020 2 l text x s → printable 60 (beNat text) = true →
      ∃ t, exec (.expectedTraceWrite rq l text) s = .next t ∧ Answered 2 (writeReq rq 0x3020 2 l text) 0 t ∧ SetsOnly 0x3020 2 l s t ∧
        t.cfg 0x3020 2 l = beNat text ∧ (∀ k, k ≠ (l : Nat) → t.lane k = s.lane k) ∧
        t.lessAnswers.lessSettings.lessLanes = s.lessAnswers.lessSettings.lessLanes) ∧
    (∀ mode, Writes rq 0x3020 4 l (u8 mode) x s →
      ∃ t, exec (.timModeWrite rq l mode) s = .next t ∧ Answered 2 (writeReq rq 0x3020 4 l (u8 mode)) 0 t ∧ SetsOnly 0x3020 4 l s t ∧
        t.cfg 0x3020 4 l = mode % 256 ∧ (mode % 256 = 0 → (t.lane l).d.tim = false) ∧ (∀ k, k ≠ (l : Nat) → t.lane k = s.lane k) ∧
        t.lessAnswers.lessSettings.lessLanes = s.lessAnswers.lessSettings.lessLanes)) ∧
  (∀ (s : State) (rq : Rq) (x : Session) (p w : Nat), Writes rq 0x2800 1 p (u8 w) x s → (w = 1 ∨ w = 2 ∨ w = 4) → p % w = 0 → p + w ≤ 48 →
    (∀ k, k < w → p ≤ s.portOf (p + k) ∧ s.portOf (p + k) + s.width (s.portOf (p + k)) ≤ p + w ∨ s.portOf (p + k) = p) →
    s.userOf p (max w (s.width p)) = none → (∀ k, k < w → s.inPair (s.portOf (p + k)) = false) → p + s.width p ≤ 48 →
    ∃ t, exec (.portWidthWrite rq p w) s = .next t ∧ Answered 2 (writeReq rq 0x2800 1 p (u8 w)) 0 t ∧ t.width p = w ∧
      (∀ k, k < max w (s.width p) → s.enabled (p + k) = true → (t.lane (p + k)).bring.stage = 1) ∧
      (∀ k, k < p ∨ p + max w (s.width p) ≤ k → t.lane k = s.lane k) ∧
      t.lessAnswers.lessSettings.lessLanes = s.lessAnswers.lessSettings.lessLanes)

/-- Block lock is found on 64 valid headers in a row, slips a bit on an invalid one, and is lost when 16 of the last 64 headers are invalid (03 R82,
R85). -/
def Obligations.HeadersMakeAndBreakBlockLock : Prop :=  ∀ (s : State) (l : LaneId) (h : BitVec 2) (w : BitVec 64), s.enabled l = true → 4 ≤ (s.lane l).bring.stage →
    ((s.lane l).df.blockLock = false → headerOk (if s.inverts l then ~~~h else h) = true → (s.lane l).df.goodRun + 1 < 64 →
      ∃ t, exec (.blockReceived l h w) s = .next t ∧ OnlyLane l s t ∧ (t.lane l).df.goodRun = (s.lane l).df.goodRun + 1 ∧
        (t.lane l).bring = (s.lane l).bring) ∧
    ((s.lane l).df.blockLock = false → headerOk (if s.inverts l then ~~~h else h) = true → 64 ≤ (s.lane l).df.goodRun + 1 →
      ∃ t, exec (.blockReceived l h w) s = .next t ∧ OnlyLane l s t ∧ (t.lane l).df.blockLock = true ∧ (t.lane l).bring.stage = 5 ∧
        (t.lane l).bring.holdSince = none) ∧
    ((s.lane l).df.blockLock = false → headerOk (if s.inverts l then ~~~h else h) = false →
      ∃ t, exec (.blockReceived l h w) s = .next t ∧ OnlyLane l s t ∧ (t.lane l).df.goodRun = 0 ∧
        (t.lane l).df.bitSlips = ((s.lane l).df.bitSlips + 1) % 66) ∧
    ((s.lane l).df.blockLock = true →
      16 ≤ (((headerOk (if s.inverts l then ~~~h else h)) :: (s.lane l).df.heads).take 64).countP (!·) →
      ∃ t, exec (.blockReceived l h w) s = .next t ∧ OnlyLane l s t ∧ (t.lane l).df.blockLock = false ∧ (t.lane l).bring.stage = 4 ∧
        (t.lane l).bring.holdSince = some ((s.lane l).bring.holdSince.getD s.now))

/-- A candidate without its FAB is dropped; the third FAB of a candidate in stage 6 declares frame lock there, and the fourth FAB in a row that a
locked lane misses takes it back to stage 5 (04 R97 to R99, R103). An overhead block of a frame-locked lane that is errored is counted in 3050:0C,
and outside the rows with fields nothing else changes; the rows of the seal channel bring records alone, each with the frame and row that end it, held back
until the next FAB (log entry 152, the model's choice), and none without multiframe lock or on an IDZ48-M1N; row 3 shows the partner's status and
coefficients (02 R35, R60; 03 R84; 04 R120). -/
def Obligations.FrameLockAndOverhead : Prop :=
  (∀ (s : State) (l : LaneId) (h : BitVec 2) (w : BitVec 64),
    (∀ c pos, (s.lane l).df.cands.find? (fun c => c.pos == pos) = some c → c.inverted = false → fabOf h w = none →
      ∃ t, exec (.candidateExpectedPosition l pos h w) s = .next t ∧ OnlyLane l s t ∧
        t.lane l = { s.lane l with df := { (s.lane l).df with cands := (s.lane l).df.cands.filter fun d => d.pos != pos } }) ∧
    (∀ c pos f, (s.lane l).df.cands.find? (fun c => c.pos == pos) = some c → c.inverted = false → fabOf h w = some f → c.count = 2 →
      (s.lane l).bring.stage = 6 → (s.lane l).df.frameLock = false →
      ∃ t, exec (.candidateExpectedPosition l pos h w) s = .next t ∧ (f.mfi ≠ 0 → OnlyLane l s t) ∧ (∀ k, k ≠ (l : Nat) → t.lane k = s.lane k) ∧
        { t.lessLanes with sealing.rx := s.sealing.rx, pm.stream := s.pm.stream } = s.lessLanes ∧ (t.lane l).df.frameLock = true ∧
        (t.lane l).df.lockPos = c.pos ∧ ((t.lane l).bring.stage = 7 ∨ (t.lane l).bring.stage = 8) ∧
        (f.tag ≠ c.tag ∨ c.tagRun < 2 → (t.lane l).bring.stage = 7) ∧ (t.lane l).df.expMfi = f.mfi ∧ (t.lane l).df.expSfi = f.sfi ∧
        (t.lane l).df.shownFab = some (f.mfi, f.sfi)) ∧
    (fabOf h w = none → (s.lane l).df.frameLock = true → 3 ≤ (s.lane l).df.missRun →
      ∃ t, exec (.expectedFabPosition l h w) s = .next t ∧ OnlyLane l s t ∧ (t.lane l).df.frameLock = false ∧ (t.lane l).bring.stage = 5 ∧
        t.ctr 0x3050 1 0 l = (s.ctr 0x3050 1 0 l + 1) % 4294967296)) ∧
  (∀ (s : State) (l : LaneId) (row : Fin 1000) (h : BitVec 2) (w : BitVec 64), (s.lane l).df.frameLock = true →
    (0 < (row : Nat) → overheadOf h w = none →
      ∃ t, exec (.overheadBlockReceived l row h w) s = .next t ∧ OnlyLane l s t ∧
        t.ctr 0x3050 0xC 0 l = (s.ctr 0x3050 0xC 0 l + 1) % 4294967296 ∧
        (3 < (row : Nat) ∧ (row : Nat) < 16 ∨ 127 < (row : Nat) → t.lane l = s.lane l)) ∧
    (3 < (row : Nat) ∧ (row : Nat) < 16 ∨ 895 < (row : Nat) → overheadOf h w ≠ none →
      ∃ t, exec (.overheadBlockReceived l row h w) s = .next t ∧ t = { s with out := [] }) ∧
    (127 < (row : Nat) → (row : Nat) < 896 → overheadOf h w ≠ none →
      ∃ t, exec (.overheadBlockReceived l row h w) s = .next t ∧ OnlyLane l s t ∧ t.cnt = s.cnt ∧
        t.lane l = { s.lane l with ch := { (s.lane l).ch with
          sealIn := (t.lane l).ch.sealIn, sealWait := (t.lane l).ch.sealWait } } ∧
        ∃ new, (t.lane l).ch.sealWait = (s.lane l).ch.sealWait ++ new ∧
          (∀ p ∈ new, p.1 = 1000 * (s.lane l).df.expMfi + (row : Nat) ∧ p.2.handle ≠ 0xFFFF) ∧
          (s.power.ordering = false ∨ (s.lane l).d.lom = true → new = [])) ∧
    (∀ b, (row : Nat) = 3 → overheadOf h w = some b → bit (field b 2 1) 6 = false →
      ∃ t, exec (.overheadBlockReceived l row h w) s = .next t ∧ OnlyLane l s t ∧
        t.lane l = { s.lane l with tr := { (s.lane l).tr with
          partnerStatus := field b 2 1, partnerPre := field b 3 1, partnerMain := field b 4 1, partnerPost := field b 5 1, rtrRun := 0 } }))

/-- A whole transaction at the head of its hopper, in turn, is taken where a cog runs (13 Table 13-1): its operations apply to the shadow page under the next acceptance number, and
its completion is written to its completion hopper and counted (06 R161, R164, R166). Reverting the shadow page makes it a copy of the active one,
and the end of the page copy lets transactions in again (06 R168, R169). -/
def Obligations.TransactionsApplyAndTheShadowReverts : Prop :=
  (∀ (s : State),
    (∀ (h : Fin 8192) b bs ops page (u : State), s.sup.up = true → s.compiles = true → s.hopKind h = 1 → s.takingState = 0 → s.hopEntries h = b :: bs → field b 0 1 = 1 →
      s.turnOf = some (h : Nat) → s.countOk h b = true → parseTrans (b :: bs.take (field b 4 2 - 1)) = .ok ops →
      u = s.quiet.consume h (field b 4 2) → (u.edit.flight.find? fun x => x.hopper == (h : Nat) && x.tag == (beginOf h b).tag) = none →
      u.noLease = false → u.accept.2.applyOps u.edit.nextAcc 0 u.fab.shadow ops = .ok page → (beginOf h b).check = false →
      ∃ t, exec (.transactionTaken h) s = .next t ∧ t.fab.shadow = page ∧ t.fab.active = s.fab.active ∧ t.edit.lastAcc = u.edit.nextAcc ∧
        t.edit.included = u.edit.included + 1 ∧ t.edit.lastHopper = h ∧
        (∃ x, t.edit.flight = u.edit.flight ++ [x] ∧ x.acc = some u.edit.nextAcc ∧ x.status = 0 ∧ x.client = (beginOf h b).client) ∧
        { t with fab := u.fab, edit := u.edit, pm.stream := u.pm.stream } = s.fixed u) ∧
    (∀ (h : Fin 8192) b bs, s.sup.up = true → s.compiles = true → s.hopKind h = 1 → s.takingState = 0 → s.hopEntries h = b :: bs → field b 0 1 = 1 →
      s.turnOf = some (h : Nat) → s.countOk h b = false →
      ∃ t, exec (.transactionTaken h) s = .next t ∧ t.fab.shadow = (s.quiet.consume h 1).fab.shadow ∧
        (∃ x, t.edit.flight = (s.quiet.consume h 1).edit.flight ++ [x] ∧ x.acc = none ∧ x.status = 3 ∧ x.detail = 0x10)) ∧
    (∀ (h : Fin 8192) b bs ops (u : State) y, s.sup.up = true → s.compiles = true → s.hopKind h = 1 → s.takingState = 0 → s.hopEntries h = b :: bs → field b 0 1 = 1 →
      s.turnOf = some (h : Nat) → s.countOk h b = true → parseTrans (b :: bs.take (field b 4 2 - 1)) = .ok ops →
      u = s.quiet.consume h (field b 4 2) → (u.edit.flight.find? fun x => x.hopper == (h : Nat) && x.tag == (beginOf h b).tag) = some y →
      ∃ t, exec (.transactionTaken h) s = .next t ∧ t.fab = u.fab ∧ t.edit.nextAcc = u.edit.nextAcc ∧
        (∃ x, t.edit.flight = u.edit.flight ++ [x] ∧ x.acc = none ∧ x.status = 7 ∧ x.detail = 0x16)) ∧
    (∀ (h : Fin 8192), s.compiles = false → ∃ t, exec (.transactionTaken h) s = .next t ∧ t = s.quiet) ∧
    (∀ a (x : Trans) h, s.sup.up = true → s.edit.flight.find? (fun x => x.acc.getD 0xFFFFFFFF == a && !x.finished) = some x →
      s.completionHopper x = some h → s.hopRoom h 1 = true → (s.hop h).overflow = [] →
      ∃ t, exec (.transactionComplete a) s = .next t ∧
        (t.hop h).entries = (s.hop h).entries ++ [(true, completionEntry { x with journaled := true } s.stamp)] ∧
        (x.status ≠ 0 → t.ctr 0x4000 4 0 0 = (s.ctr 0x4000 4 0 0 + 1) % 4294967296) ∧
        (x.status = 0 → x.check = false → t.ctr 0x4000 3 0 0 = (s.ctr 0x4000 3 0 0 + 1) % 4294967296) ∧
        t.fab = s.fab ∧ t.lanes = s.lanes ∧ t.persist = s.persist ∧ t.lease = s.lease)) ∧
  (∀ (s : State),
    (∀ rq arg x, Writes rq 0x4010 1 0 [arg] x s → s.edit.armed = none → s.edit.flight = [] →
      ∃ t, exec (.revertShadow rq arg) s = .next t ∧ Answered 2 (writeReq rq 0x4010 1 0 [arg]) 0 t ∧ t.fab.shadow = s.fab.active ∧
        t.fab.active = s.fab.active ∧ t.fab.copyBusy = true ∧ t.edit.included = 0 ∧ t.edit.lastIncl = 0xFFFFFFFF ∧ t.lanes = s.lanes ∧
        t.lease = s.lease ∧ (∀ e ∈ t.edit.journal, e ∈ s.edit.journal ∨ e.kind = 4)) ∧
    (∀ rq arg x a, Writes rq 0x4010 1 0 [arg] x s → s.edit.armed = some a →
      ∃ t, exec (.revertShadow rq arg) s = .next t ∧ Answered 2 (writeReq rq 0x4010 1 0 [arg]) 2 t ∧ t.fab = s.fab ∧ t.edit = s.edit) ∧
    (∃ t, exec .pageCopyEnd s = .next t ∧ t = { s.quiet with fab.copyBusy := false, fab.fanoutBusy := false }))

/-- An activation is armed under the next activation number, with its target: mode 0 seals at once and, with nothing in flight, is committed; modes
1 and 2 name a boundary from 4 ms to 24 h ahead (06 R171 to R173). -/
def Obligations.ActivationsAreArmed : Prop :=  ∀ (s : State) (rq : Rq) (x : Session) (r : ArmRec), r.hopper < 8192 → r.client < 4294967296 → r.superframe < 18446744073709551616 →
    r.sfi ≤ 124 → r.seconds < 281474976710656 → r.nanoseconds ≤ 999999999 → s.hopKind r.hopper = 2 → s.edit.armed = none → s.noLease = false →
    (r.superframe = 0 → r.sfi = 0 → r.seconds = 0 → r.nanoseconds = 0 → Writes rq 0x4100 1 0 (armBytes 0 r) x s →
      ∃ t a, exec (.armNextFrame rq r) s = .next t ∧ Answered 2 (writeReq rq 0x4100 1 0 (armBytes 0 r)) 0 t ∧ t.edit.armed = some a ∧
        a.number = s.edit.nextAct ∧ a.mode = 0 ∧ a.hopper = r.hopper ∧ a.client = r.client ∧ a.state = (if s.edit.flight = [] then 4 else 2) ∧
        t.edit.nextAct = (s.edit.nextAct + 1) % 4294967296 ∧
        { t.lessAnswers with edit.armed := s.edit.armed, edit.nextAct := s.edit.nextAct } = s.lessAnswers) ∧
    (r.seconds = 0 → r.nanoseconds = 0 → Writes rq 0x4100 1 0 (armBytes 1 r) x s → s.frameNow < armTarget 1 r →
      50000000 < s.untilBoundary (s.fab.frameNo + (armTarget 1 r - s.frameNow)) →
      s.untilBoundary (s.fab.frameNo + (armTarget 1 r - s.frameNow)) ≤ 86400000000000 →
      ∃ t a, exec (.armNamedMultiframe rq r) s = .next t ∧ Answered 2 (writeReq rq 0x4100 1 0 (armBytes 1 r)) 0 t ∧ t.edit.armed = some a ∧
        a.number = s.edit.nextAct ∧ a.mode = 1 ∧ a.hopper = r.hopper ∧ a.client = r.client ∧ a.state = 1 ∧
        a.target = some (s.fab.frameNo + (armTarget 1 r - s.frameNow)) ∧ t.edit.nextAct = (s.edit.nextAct + 1) % 4294967296 ∧
        { t.lessAnswers with edit.armed := s.edit.armed, edit.nextAct := s.edit.nextAct } = s.lessAnswers) ∧
    (r.superframe = 0 → r.sfi = 0 → Writes rq 0x4100 1 0 (armBytes 2 r) x s → s.tod.ever = true → s.tod.tjr = false → s.tim.aligned = true →
      s.frameNow < armTarget 2 r → 50000000 < s.untilBoundary (s.fab.frameNo + (armTarget 2 r - s.frameNow)) →
      s.untilBoundary (s.fab.frameNo + (armTarget 2 r - s.frameNow)) ≤ 86400000000000 →
      ∃ t a, exec (.armTaiInstant rq r) s = .next t ∧ Answered 2 (writeReq rq 0x4100 1 0 (armBytes 2 r)) 0 t ∧ t.edit.armed = some a ∧
        a.number = s.edit.nextAct ∧ a.mode = 2 ∧ a.hopper = r.hopper ∧ a.client = r.client ∧ a.state = 1 ∧
        a.target = some (s.fab.frameNo + (armTarget 2 r - s.frameNow)) ∧ t.edit.nextAct = (s.edit.nextAct + 1) % 4294967296 ∧
        { t.lessAnswers with edit.armed := s.edit.armed, edit.nextAct := s.edit.nextAct } = s.lessAnswers) ∧
    (r.seconds = 0 → r.nanoseconds = 0 → Writes rq 0x4100 1 0 (armBytes 1 r) x s → armTarget 1 r ≤ s.frameNow →
      ∃ t, exec (.armNamedMultiframe rq r) s = .next t ∧ Answered 2 (writeReq rq 0x4100 1 0 (armBytes 1 r)) 2 t ∧ t.edit = s.edit)

/-- An armed activation seals 50 ms before its target, commits 1 ms before it, executes at it with the shadow page becoming the active one, and can
be cancelled before it commits (06 R173 to R177). -/
def Obligations.ActivationsSealCommitAndExecute : Prop :=  ∀ (s : State) (a : Armed), s.edit.armed = some a →
    (∀ c, a.state = 1 → a.target = some c → s.untilBoundary c ≤ 50000000 → a.mode ≠ 0 →
      ∃ t, exec .sealPoint s = .next t ∧ { t with edit.armed := s.edit.armed } = s.quiet ∧
        t.edit.armed = some (if s.edit.flight = [] then { a with state := 3, sealedAt := s.fab.frameNo } else { a with state := 2 })) ∧
    (∀ c, a.state = 3 → a.target = some c → s.untilBoundary c ≤ 1000000 → (a.mode = 2 → s.tim.aligned = true) → s.lease.admitted = true →
      ∃ t, exec .commitPoint s = .next t ∧ { t with edit.armed := s.edit.armed } = s.quiet ∧ t.edit.armed = some { a with state := 4 }) ∧
    (a.state = 4 → a.target = some (s.fab.frameNo + 1) → s.lease.admitted = true →
      ∃ t, exec .activation s = .next t ∧ t.fab.active = s.fab.shadow ∧ t.fab.shadow = s.fab.shadow ∧ t.edit.armed = none ∧
        t.edit.activeNo = a.number ∧ t.edit.included = 0 ∧ t.fab.copyBusy = true ∧
        t.ctr 0x4100 5 0 0 = (s.ctr 0x4100 5 0 0 + 1) % 4294967296 ∧ t.lanes = s.lanes ∧ t.lease = s.lease) ∧
    (∀ rq x, a.number < 4294967296 → Writes rq 0x4100 2 0 (beBytes 4 a.number) x s → a.state ≠ 4 →
      ∃ t, exec (.cancelActivation rq a.number) s = .next t ∧ Answered 2 (writeReq rq 0x4100 2 0 (beBytes 4 a.number)) 0 t ∧
        t.edit.armed = none ∧ t.ctr 0x4100 6 0 0 = (s.ctr 0x4100 6 0 0 + 1) % 4294967296 ∧ t.fab = s.fab ∧ t.lanes = s.lanes ∧ t.persist = s.persist)

/-- A protect port is written, taken and put into the shadow page, or its write times out after 4 s; one that changes nothing is answered at once, and
refused while an activation is armed or nobody holds or comes to the lease; the pair's mode is stored (07 R182 to R185). -/
def Obligations.PairsAreWrittenAndTaken : Prop :=  ∀ (s : State),
    (∀ rq p v x, p < 48 → (v < 48 ∨ v = 255) → Writes rq 0x3800 1 p (u8 v) x s →
      v ≠ (if (s.pair p).pending then (s.pair p).next else (s.pair p).protect) → s.pairRefusal p v = none →
      ∃ t, exec (.protectPortWrite rq p v) s = .next t ∧ t.prot.writes = s.prot.writes ++ [⟨p, v, rq.session, rq.tag, s.now⟩] ∧
        t.mgmt.flight = s.mgmt.flight ++ [⟨rq.session, 2, writeReq rq 0x3800 1 p (u8 v), s.now⟩] ∧ t.out = [] ∧
        { t.lessAnswers with prot.writes := s.prot.writes, mgmt.flight := s.mgmt.flight } = s.lessAnswers) ∧
    (∀ rq p v x, p < 48 → (v < 48 ∨ v = 255) → Writes rq 0x3800 1 p (u8 v) x s →
      v = (if (s.pair p).pending then (s.pair p).next else (s.pair p).protect) → (∀ w ∈ s.prot.writes, w.port ≠ p) →
      (s.edit.armed = none → s.noLease = false →
        ∃ t, exec (.protectPortWrite rq p v) s = .next t ∧ Answered 2 (writeReq rq 0x3800 1 p (u8 v)) 0 t ∧ t.lessAnswers = s.lessAnswers) ∧
      (s.edit.armed.isSome = true ∨ s.noLease = true →
        ∃ t, exec (.protectPortWrite rq p v) s = .next t ∧ Answered 2 (writeReq rq 0x3800 1 p (u8 v)) 2 t ∧ t.prot = s.prot)) ∧
    (∀ (p : LaneId) (w : PairWrite) (u : State), s.prot.writes.find? (fun w => w.port == (p : Nat)) = some w → s.pairHeld = false → s.sup.up = true →
      s.pairRefusal w.port w.protect = none →
      u = ({ s.quiet with prot.writes := s.prot.writes.filter fun v => decide (v ≠ w) }.accept.2).modPair w.port
        (fun x => { x with pending := w.protect != x.protect, next := w.protect }) →
      u.pageLimit (s.pairPage w.port w.protect) = none →
      ∃ t, exec (.pairWriteTaken p) s = .next t ∧ t.fab.shadow = s.pairPage w.port w.protect ∧ t.fab.active = s.fab.active ∧
        t.prot = u.prot ∧ t.edit.lastAcc = s.edit.nextAcc ∧ t.edit.included = s.edit.included + 1 ∧ t.cfg 0x3800 1 w.port = w.protect ∧
        t.lanes = s.lanes ∧ t.lease = s.lease) ∧
    (∀ (p : LaneId) (w : PairWrite), s.prot.writes.find? (fun w => w.port == (p : Nat) && s.over w.since (secs 4)) = some w →
      ∃ t, exec (.pairWriteTimeout p) s = .next t ∧ t.prot.writes = (s.prot.writes.filter fun v => decide (v ≠ w)) ∧ t.fab = s.fab ∧
        t.prot.pairs = s.prot.pairs ∧ t.persist = s.persist ∧ t.lanes = s.lanes) ∧
    (∀ rq p m x, p < 48 → Writes rq 0x3800 2 p (u8 m) x s → (bit m 0 = true → s.forerunner p = false) → m < 4 →
      ∃ t, exec (.pairModeWrite rq p m) s = .next t ∧ Answered 2 (writeReq rq 0x3800 2 p (u8 m)) 0 t ∧ t.cfg 0x3800 2 p = m ∧
        SetsOnly 0x3800 2 p s t ∧ t.lessAnswers.lessSettings = s.lessAnswers.lessSettings)

/-- A hold-off that ends raises the signal fail that is present, an evaluation gives every pair in force its new state, and an expired
wait-to-restore leaves no request, in the selector and in the APS bytes, unless the far one governs or a request was stored meanwhile, which then holds
(07 R187, R190, R191, R193). A pair's cog does this, and none does while it is stopped (13 R328). -/
def Obligations.PairsAreEvaluated : Prop :=  ∀ (s : State) (p : LaneId),
    (∀ b, s.sup.up = true → s.cogServes p = true → (s.pair p).holdW = some b → s.over b (s.cfg 0x3800 4 p * 100000000) = true →
      ∃ t, exec (.holdOffExpiry p .working) s = .next t ∧ { t with prot.pairs := s.prot.pairs } = s.quiet ∧
        (∀ k, t.pair k = if k = p then { s.pair p with holdW := none, sfW := s.portFails p, condW := s.portFails p } else s.pair k)) ∧
    (∀ b, s.sup.up = true → s.cogServes p = true → (s.pair p).holdP = some b → s.over b (s.cfg 0x3800 4 p * 100000000) = true →
      ∃ t, exec (.holdOffExpiry p .protect) s = .next t ∧ { t with prot.pairs := s.prot.pairs } = s.quiet ∧
        (∀ k, t.pair k = if k = p then
          { s.pair p with holdP := none, sfP := s.portFails (s.pair p).protect, condP := s.portFails (s.pair p).protect } else s.pair k)) ∧
    (s.sup.up = false ∨ s.cogServes p = false → ∀ side, ∃ t, exec (.holdOffExpiry p side) s = .next t ∧ t = s.quiet) ∧
    (twf {} s.prot.pairs → s.sup.up = true → s.fab.frameNo % 8 = 0 →
      ∃ t, exec .pairEvaluation s = .next t ∧ { t with prot.pairs := s.prot.pairs, cnt := s.cnt } = s.quiet ∧
        (∀ k, t.pair k = if (s.pair k).protect ≠ 255 ∧ s.cogServes k = true then s.evalPair k (s.pair k) else s.pair k)) ∧
    (∀ b, (s.pair p).wtr = some b → (s.pair p).state = 5 → s.sup.up = true → s.cogServes p = true → s.over b (secs (60 * s.cfg 0x3800 3 p)) = true →
      ∃ t, exec (.wtrExpiry p) s = .next t ∧ { t with prot.pairs := s.prot.pairs, cnt := s.cnt } = s.quiet ∧
        (∀ k, t.pair k = if k = p then s.govern p (s.pair p) (s.pair p).stored
          (localRequest (s.pair p).stored (s.pair p).sfP (s.pair p).sfW (s.pairRev p) 0 false) else s.pair k) ∧
        ((s.pair p).stored = 0 → (s.pair p).sfP = false → (s.pair p).sfW = false →
          (t.pair p).state = 0 ∧ (t.pair p).wtr = none ∧
          (localGoverns 0 (s.farRequest p (s.pair p)) = true →
            (t.pair p).selector = false ∧ (t.pair p).aps1 = s.apsIdle p ∧ (t.pair p).aps2 = 0)) ∧
        ((s.pair p).stored = 2 → (s.pair p).sfP = false → (t.pair p).state = 0xD) ∧
        ((s.pair p).selector ≠ (t.pair p).selector → t.ctr 0x3800 8 0 p = (s.ctr 0x3800 8 0 p + 1) % 4294967296))

/-- A line command is stored where no higher request is present, and is refused with STATE where one is or where the pair does not exist (07 R190).
A mode mismatch is declared and cleared after 50 ms, a selector mismatch after 1 s, while the lane identified as logical lane 0 of the protect port is not failed; each raises and clears a minor
alarm (07 R195). -/
def Obligations.LineCommandsAndMismatches : Prop :=
  (∀ (s : State) (rq : Rq) (x : Session) (p : Nat),
    let stored (v : Nat) (t : State) : Prop :=
      Answered 2 (writeReq rq 0x3800 5 p (u8 v)) 0 t ∧ { t.lessAnswers with prot.pairs := s.prot.pairs } = s.lessAnswers ∧
      (∀ k, t.pair k = if k = p then { s.pair p with stored := v } else s.pair k)
    ((s.pair p).protect ≠ 255 → Writes rq 0x3800 5 p (u8 0) x s → ∃ t, exec (.lineClear rq p) s = .next t ∧ stored 0 t) ∧
    ((s.pair p).protect ≠ 255 → Writes rq 0x3800 5 p (u8 1) x s → ∃ t, exec (.lockoutOfProtection rq p) s = .next t ∧ stored 1 t) ∧
    ((s.pair p).protect ≠ 255 → Writes rq 0x3800 5 p (u8 2) x s → s.outranked p 2 (s.pair p) = false →
      ∃ t, exec (.forcedSwitch rq p) s = .next t ∧ stored 2 t) ∧
    ((s.pair p).protect ≠ 255 → Writes rq 0x3800 5 p (u8 3) x s → s.outranked p 3 (s.pair p) = false →
      ∃ t, exec (.manualSwitchToProtect rq p) s = .next t ∧ stored 3 t) ∧
    ((s.pair p).protect ≠ 255 → Writes rq 0x3800 5 p (u8 4) x s → s.outranked p 4 (s.pair p) = false →
      ∃ t, exec (.manualSwitchToWorking rq p) s = .next t ∧ stored 4 t) ∧
    ((s.pair p).protect = 255 ∨ s.outranked p 2 (s.pair p) = true → Writes rq 0x3800 5 p (u8 2) x s →
      ∃ t, exec (.forcedSwitch rq p) s = .next t ∧ Answered 2 (writeReq rq 0x3800 5 p (u8 2)) 2 t ∧ t.prot = s.prot)) ∧
  (∀ (s : State) (p : LaneId) (b : Nat), s.sup.up = true → (s.pair p).protect ≠ 255 → s.apsUp (s.pair p) = true →
    ((s.pair p).modeMis = false → s.modeBad p (s.pair p) = true → (s.pair p).modeSince = some b → s.over b 50000000 = true →
      ∃ t, exec (.modeMismatchDeclared p) s = .next t ∧ (t.findAlarm 0x3800 6 1 p).isSome = true ∧
        (∀ k, t.pair k = if k = p then { s.pair p with modeMis := true, modeSince := none } else s.pair k) ∧ t.fab = s.fab ∧ t.lanes = s.lanes) ∧
    ((s.pair p).modeMis = true → s.modeBad p (s.pair p) = false → (s.pair p).modeSince = some b → s.over b 50000000 = true →
      ∃ t, exec (.modeMismatchCleared p) s = .next t ∧
        (∀ k, t.pair k = if k = p then { s.pair p with modeMis := false, modeSince := none } else s.pair k) ∧ t.fab = s.fab ∧ t.lanes = s.lanes ∧
        (∀ a, s.findAlarm 0x3800 6 1 p = some a → ∀ c ∈ t.store.alarms, c.number ≠ a.number)) ∧
    ((s.pair p).selMis = false → s.selBad p (s.pair p) = true → (s.pair p).selSince = some b → s.over b 1000000000 = true →
      ∃ t, exec (.selectorMismatchDeclared p) s = .next t ∧ (t.findAlarm 0x3800 6 2 p).isSome = true ∧
        (∀ k, t.pair k = if k = p then { s.pair p with selMis := true, selSince := none } else s.pair k) ∧ t.fab = s.fab ∧ t.lanes = s.lanes) ∧
    ((s.pair p).selMis = true → s.selBad p (s.pair p) = false → (s.pair p).selSince = some b → s.over b 1000000000 = true →
      ∃ t, exec (.selectorMismatchCleared p) s = .next t ∧
        (∀ k, t.pair k = if k = p then { s.pair p with selMis := false, selSince := none } else s.pair k) ∧ t.fab = s.fab ∧ t.lanes = s.lanes ∧
        (∀ a, s.findAlarm 0x3800 6 2 p = some a → ∀ c ∈ t.store.alarms, c.number ≠ a.number)))

/-- A circuit command and the revertive setting reach every protected run of the circuit and the cogs' copy; the write-back brings both to a new
holder, for the circuits whose cog runs (07 R202 to R204; 13 R327). A tick of the module-wide wait-to-restore falls a fifteenth of 3810:02 after the last one and waits for the next boundary, and a selector on its last tick returns to its
primary source (07 R200). -/
def Obligations.CircuitSelectorsFollowTheirCommands : Prop :=
  (∀ (s : State),
    (∀ (rq : Rq) (x : Session) (h : Nat),
      let set (v : Nat) (t : State) : Prop :=
        Answered 2 (writeReq rq 0x3840 1 h (u8 v)) 0 t ∧ tget 0 t.prot.cmdTbl h = v ∧
        (s.cogServes (policyCog h) = true → ∀ p ∈ s.protRunsOf, p.1.handle = h → t.selOf p.2 = { s.selOf p.2 with cmd := v }) ∧
        (s.cogServes (policyCog h) = false → t.fab.sel = s.fab.sel) ∧
        (∀ i, (∀ p ∈ s.protRunsOf, p.1.handle = h → p.2.selIdx ≠ i) → tget {} t.fab.sel i = tget {} s.fab.sel i) ∧
        { t.lessAnswers with prot.cmdTbl := s.prot.cmdTbl, fab.sel := s.fab.sel } = s.lessAnswers
      (Writes rq 0x3840 1 h (u8 0) x s → ∃ t, exec (.circuitCommandNone rq h) s = .next t ∧ set 0 t) ∧
      (Writes rq 0x3840 1 h (u8 1) x s → ∃ t, exec (.circuitLockout rq h) s = .next t ∧ set 1 t) ∧
      (Writes rq 0x3840 1 h (u8 2) x s → ∃ t, exec (.circuitForced rq h) s = .next t ∧ set 2 t) ∧
      (Writes rq 0x3840 1 h (u8 3) x s → ∃ t, exec (.circuitManual rq h) s = .next t ∧ set 3 t) ∧
      (∀ v, v < 3 → Writes rq 0x3840 2 h (u8 v) x s →
        ∃ t, exec (.circuitRevertiveWrite rq h v) s = .next t ∧ Answered 2 (writeReq rq 0x3840 2 h (u8 v)) 0 t ∧ tget 0 t.fab.revTbl h = v ∧
          (∀ p ∈ s.protRunsOf, p.1.handle = h → t.selOf p.2 = { s.selOf p.2 with rev := t.revOf h }) ∧
          (∀ p ∈ s.protRunsOf, p.1.handle = h → t.revCopy p = t.revOf h) ∧
          { t.lessAnswers with fab.revTbl := s.fab.revTbl, fab.sel := s.fab.sel, prot.revs := s.prot.revs } = s.lessAnswers)) ∧
    (s.prot.writeBack = true → s.lease.admitted = true → s.sup.up = true →
      ∃ t, exec .selectorWriteBack s = .next t ∧ { t with prot.writeBack := s.prot.writeBack, fab.sel := s.fab.sel } = s.quiet ∧
        t.prot.writeBack = false ∧
        (∀ p ∈ s.protRunsOf, (∀ q ∈ s.protRunsOf, q.2.selIdx = p.2.selIdx → q.1.handle = p.1.handle) →
          t.selOf p.2 = if s.cogServes (policyCog p.1.handle)
            then { s.selOf p.2 with cmd := tget 0 s.prot.cmdTbl p.1.handle, rev := s.revCopy p } else s.selOf p.2))) ∧
  (∀ (s : State),
    (s.over s.fab.tickAt (4 * s.cfg 0x3810 2 0 * 1000000000) = true →
      ∃ t, exec .circuitWtrTick s = .next t ∧ t = { s.quiet with fab.wtrTick := true, fab.tickAt := s.now }) ∧
    (s.over s.fab.tickAt (4 * s.cfg 0x3810 2 0 * 1000000000) = false → ∃ t, exec .circuitWtrTick s = .next t ∧ t = s.quiet) ∧
    (∀ (i : Fin 262144) p, s.protRunsOf.find? (fun p => p.2.selIdx == (i : Nat)) = some p → s.fab.wtrTick = true → (s.selOf p.2).wtr = 1 →
      (s.selOf p.2).sel = true → (s.selOf p.2).rev = true → (s.selOf p.2).cmd = 0 → s.primFails p.1 = false → s.altFails p.1 p.2 = false →
      ∃ t, exec (.circuitWtrExpiry i) s = .next t ∧ t.selOf p.2 = { s.selOf p.2 with sel := false, wtr := 0 } ∧
        (∀ j, j ≠ (i : Nat) → tget {} t.fab.sel j = tget {} s.fab.sel j) ∧ { t with fab.sel := s.fab.sel, fab.swCount := s.fab.swCount, ending := s.ending } = s.quiet))

/-- The lease goes to an armed engine that claims it under the present epoch, is renewed under the same, is admitted 10 microseconds after the
grant, and lapses when it has not been renewed. What falls into one cycle is ordered: a revocation before a renewal, a renewal before the expiry, the
expiry before a claim, a claim of A before one of B (08 R212 to R215; that commands waiting in the queue belong to the cycle is log entry 161, the
model's choice). -/
def Obligations.TheLeaseIsClaimedRenewedAndLapses : Prop :=  ∀ (s : State) (e : EngId),
    (∀ n, s.lease.holder = none → n = s.lease.epoch → (s.engine e).state = .armed → (e = 0 ∨ s.claimWaits = false) →
      ∃ t, exec (.claim e n) s = .next t ∧ t.lease.holder = some e ∧ t.lease.epoch = nextEpoch s.lease.epoch ∧ t.lease.admitted = false ∧
        t.lease.grantAt = s.now ∧ t.lease.renewedAt = s.now ∧ (t.engine e).state = .holder ∧ (t.engine (otherEng e)).state ≠ .armed ∧
        t.ctr 0x5020 2 0 0 = (s.ctr 0x5020 2 0 0 + 1) % 4294967296 ∧ t.out = [.lease e true (nextEpoch s.lease.epoch) (some e)] ∧
        { t with lease := s.lease, engA := s.engA, engB := s.engB, cnt := s.cnt, store.conds := s.store.conds, out := [] } = s.quiet) ∧
    (∀ n h, s.lease.holder = some h → h ≠ e → n = s.lease.epoch → (s.engine e).state = .armed →
      s.lease.renewedAt + s.lease.expiry * 1000000 < s.now → s.triggered = false → s.renewalWaits = false →
      ∃ t, exec (.claim e n) s = .next t ∧ t.lease.holder = some e ∧ t.lease.epoch = nextEpoch s.lease.epoch ∧ t.lease.admitted = false ∧
        (t.engine h).state = .failed ∧ (t.engine h).cause = 4 ∧ t.lanes = s.lanes ∧ t.fab = s.fab) ∧
    (∀ n, s.expired = false →
      (s.lease.holder ≠ none ∨ n ≠ s.lease.epoch ∨ (s.engine e).state ≠ .armed ∨ e ≠ 0 ∧ s.claimWaits = true) →
      ∃ t, exec (.claim e n) s = .next t ∧ t.out = [.lease e false s.lease.epoch s.lease.holder] ∧
        t.ctr 0x5020 4 0 0 = (s.ctr 0x5020 4 0 0 + 1) % 4294967296 ∧ { t with cnt := s.cnt, out := [] } = s.quiet) ∧
    (∀ n, s.lease.holder = some e → n = s.lease.epoch → s.now ≤ s.lease.renewedAt + s.lease.expiry * 1000000 + 1 → s.triggered = false →
      ∃ t, exec (.renewal e n) s = .next t ∧ t = { s.quiet with
        lease.renewedAt := s.now, lease.expiry := s.cfg 0x5000 1 0, out := [.lease e true s.lease.epoch (some e)] }) ∧
    (∀ n, s.lease.holder = some e → s.triggered = false →
      (n ≠ s.lease.epoch ∨ s.lease.renewedAt + s.lease.expiry * 1000000 + 1 < s.now) →
      ∃ t, exec (.renewal e n) s = .next t ∧ t.lease.holder = none ∧ t.lease.admitted = false ∧ (t.engine e).state = .failed ∧
        (t.engine e).cause = 7 ∧ t.ctr 0x5020 3 0 0 = (s.ctr 0x5020 3 0 0 + 1) % 4294967296 ∧ t.lanes = s.lanes ∧ t.fab = s.fab) ∧
    (s.expired = false ∨ s.triggered = true ∨ s.overdue = false ∧ s.renewalWaits = true → ∃ t, exec .leaseExpiry s = .next t ∧ t = s.quiet) ∧
    (s.lease.holder = some e → s.lease.renewedAt + s.lease.expiry * 1000000 < s.now → s.triggered = false →
      (s.lease.renewedAt + s.lease.expiry * 1000000 + 1 < s.now ∨ s.renewalWaits = false) →
      ∃ t, exec .leaseExpiry s = .next t ∧ t.lease.holder = none ∧ t.lease.admitted = false ∧ t.lease.epoch = s.lease.epoch ∧
        (t.engine e).state = .failed ∧ (t.engine e).cause = 4 ∧ t.engine (otherEng e) = s.engine (otherEng e) ∧ t.lanes = s.lanes ∧ t.fab = s.fab) ∧
    (s.lease.holder = some e → s.lease.admitted = false → s.over s.lease.grantAt 10000 = true →
      ∃ t, exec .admission s = .next t ∧ t.lease.admitted = true ∧ t.lease.holder = some e ∧ t.lease.epoch = s.lease.epoch ∧ t.lease.window = [] ∧
        t.prot.writeBack = true ∧ t.fab.sel = [] ∧ t.fab.lineSel = [] ∧ t.fab.active = s.fab.active ∧ t.lanes = s.lanes ∧
        (s.lease.revokedAt.isSome = true → t.ctr 0x5020 5 0 0 = (s.ctr 0x5020 5 0 0 + 1) % 4294967296))

/-- Without a holder a Cold or Refreshing engine wakes, and an armed one that is not switching goes Cold under another holder; a wake ends Armed, on the other
area where the newer one is bad, or Failed with cause 9; a switch by command wakes the ready engine and hands the lease over (08 R211, R223 to R225, R227). -/
def Obligations.EnginesWakeAndHandOver : Prop :=  ∀ (s : State) (e : EngId),
    (s.lease.holder = none → ((s.engine e).state = .cold ∨ (s.engine e).state = .refreshing) →
      ∃ t, exec (.perFrameLeaseState e) s = .next t ∧ (∀ k, t.engine k = if k = e then { s.engine e with state := .waking } else s.engine k) ∧
        { t with engA := s.engA, engB := s.engB, store.conds := s.store.conds } = s.quiet) ∧
    (s.lease.holder = some (otherEng e) → (s.engine e).state = .armed → (s.engine e).switching = false →
      ∃ t, exec (.perFrameLeaseState e) s = .next t ∧ (∀ k, t.engine k = if k = e then { s.engine e with state := .cold } else s.engine k) ∧
        { t with engA := s.engA, engB := s.engB, store.conds := s.store.conds } = s.quiet) ∧
    (∀ i, (s.engine e).state = .waking → (s.engine e).newer = some i →
      ∃ t, exec (.wakeComplete e .done) s = .next t ∧
        (∀ k, t.engine k = if k = e then { s.engine e with state := .armed, armedAt := s.now } else s.engine k) ∧
        (s.lease.holder = none → t.fab.active = (replay i s.edit.journal).1) ∧ (s.lease.holder ≠ none → t.fab = s.fab) ∧
        { t with engA := s.engA, engB := s.engB, store.conds := s.store.conds, fab := s.fab } = s.quiet) ∧
    ((s.engine e).state = .waking → (s.engine e).area0.valid = true → (s.engine e).area1.valid = true →
      ∃ t, exec (.wakeComplete e .older) s = .next t ∧ (t.engine e).state = .armed ∧ (t.engine e).cause = 2 ∧
        ((t.engine e).area0.valid && (t.engine e).area1.valid) = false ∧ t.engine (otherEng e) = s.engine (otherEng e) ∧ t.lease = s.lease ∧
        t.lanes = s.lanes) ∧
    (∀ r, (s.engine e).state = .waking → r ≠ .done → (r = .older → ((s.engine e).area0.valid && (s.engine e).area1.valid) = false) →
      ∃ t, exec (.wakeComplete e r) s = .next t ∧ (t.engine e).state = .failed ∧ (t.engine e).cause = 9 ∧ t.engine (otherEng e) = s.engine (otherEng e) ∧
        t.lease = s.lease ∧ t.fab = s.fab ∧ t.lanes = s.lanes) ∧
    (∀ rq arg x, Writes rq 0x5000 3 0 [arg] x s → s.lease.holder = some (otherEng e) → s.readyEngine (s.engine e) = true →
      s.refreshing = false → s.restartingEng = false →
      ∃ t, exec (.manualSwitch rq arg) s = .next t ∧ Answered 2 (writeReq rq 0x5000 3 0 [arg]) 0 t ∧
        (∀ k, t.engine k = if k = e then { s.engine e with state := .waking, switching := true } else s.engine k) ∧
        { t.lessAnswers with engA := s.engA, engB := s.engB } = s.lessAnswers) ∧
    (s.lease.holder = some (otherEng e) → (s.engine e).state = .armed → (s.engine e).switching = true → s.lease.admitted = true →
      s.over (s.engine e).armedAt 10000 = true → s.commitOpen = false →
      ∃ t, exec .handover s = .next t ∧ t.lease.holder = some e ∧ t.lease.epoch = nextEpoch s.lease.epoch ∧ t.lease.admitted = true ∧
        (t.engine e).state = .holder ∧ (t.engine (otherEng e)).state = .restarting ∧ (t.engine (otherEng e)).cause = 8 ∧
        t.prot.writeBack = true ∧ t.fab.active = s.fab.active ∧ t.lanes = s.lanes ∧
        t.ctr 0x5020 2 0 0 = (s.ctr 0x5020 2 0 0 + 1) % 4294967296)

/-- A rail out of its window fails its engine and, of the holder, revokes the lease; the loss of an island's rail leaves none of its
checkpoints to serve, and what they were is shown still; flit errors
are counted, and a link that loses framing fails an armed engine (08 Table 8-2; 01 R23). Three mismatches among the last eight evaluated comparisons
revoke the lease, where revocation is set; a comparison that is not evaluated is counted alone; setting revocation clears the window (08 R219,
R230). -/
def Obligations.FaultsAndTheTallyRevoke : Prop :=
  (∀ (s : State) (e : EngId),
    ((s.engine e).state ≠ .unusable → (s.engine e).state ≠ .down →
      ∃ t, exec (.coreRailFault e) s = .next t ∧ (t.engine e).state = .failed ∧ (t.engine e).cause = 5 ∧ (t.engine e).failedAt = s.now ∧
        (s.lease.holder = some e → t.lease.holder = none ∧ t.lease.admitted = false) ∧ (s.lease.holder ≠ some e → t.lease = s.lease) ∧
        t.engine (otherEng e) = s.engine (otherEng e) ∧ t.lanes = s.lanes ∧ t.fab = s.fab) ∧
    (∃ t, exec (.islandRailLoss e) s = .next t ∧ (t.engine e).state = .down ∧ (t.engine e).areas = [] ∧
      (s.lease.holder ≠ some e → (t.engine e).held = s.restartCount e :: s.checkpointFields e) ∧
      (s.lease.holder = some e → t.lease.holder = none) ∧ t.engine (otherEng e) = s.engine (otherEng e) ∧ t.lanes = s.lanes ∧ t.fab = s.fab) ∧
    ((s.engine e).linked = true →
      (∃ t, exec (.linkFlit e .good) s = .next t ∧ t = s.quiet) ∧
      (∃ t, exec (.linkFlit e .corrected) s = .next t ∧ { t with cnt := s.cnt } = s.quiet ∧
        t.ctr 0x5010 4 0 e = (s.ctr 0x5010 4 0 e + 1) % 4294967296) ∧
      (∃ t, exec (.linkFlit e .uncorrectable) s = .next t ∧ { t with cnt := s.cnt } = s.quiet ∧
        t.ctr 0x5010 5 0 e = (s.ctr 0x5010 5 0 e + 1) % 4294967296)) ∧
    (∀ f, (s.engine e).linked = true → s.lease.holder = some e →
      ∃ t, exec (.linkFramingLoss e f) s = .next t ∧ t.lease.holder = none ∧ (t.engine e).state = .failed ∧ (t.engine e).cause = 6 ∧ t.lanes = s.lanes) ∧
    (∀ f, (s.engine e).state = .armed → s.lease.holder ≠ some e →
      ∃ t, exec (.linkFramingLoss e f) s = .next t ∧ t.lease = s.lease ∧ (t.engine e).state = .failed ∧ (t.engine e).cause = 6 ∧ t.lanes = s.lanes)) ∧
  (∀ (s : State) (loop : Bool) (c : Option (BitVec 32)) (f : BitVec 32),
    let bad : Bool := c.isNone || s.lease.sumP ^^^ c.getD 0 != s.lease.sumM ^^^ f
    (s.tallyEvaluated loop = true → s.cfg 0x5000 8 0 ≠ 0 → s.lease.tallyTakeover = none → ∀ e, s.lease.holder = some e →
      3 ≤ ((bad :: s.lease.window).take 8).countP id →
      ∃ t, exec (.tallyComparison c f loop) s = .next t ∧ t.lease.holder = none ∧ t.lease.admitted = false ∧ (t.engine e).state = .failed ∧
        (t.engine e).cause = 1 ∧ (bad = true → t.ctr 0x5030 2 0 0 = (s.ctr 0x5030 2 0 0 + 1) % 4294967296) ∧ t.lanes = s.lanes ∧ t.fab = s.fab) ∧
    (s.tallyEvaluated loop = true → ((bad :: s.lease.window).take 8).countP id < 3 →
      ∃ t, exec (.tallyComparison c f loop) s = .next t ∧ t.lease.holder = s.lease.holder ∧
        t.lease.window = (bad :: s.lease.window).take 8 ∧ t.lease.lastM = (s.lease.sumM ^^^ f).toNat ∧
        (∀ d, c = some d → t.lease.lastP = (s.lease.sumP ^^^ d).toNat) ∧
        (bad = true → t.ctr 0x5030 2 0 0 = (s.ctr 0x5030 2 0 0 + 1) % 4294967296) ∧
        { t with lease := s.lease, cnt := s.cnt, store.conds := s.store.conds, fresh := s.fresh } = s.quiet) ∧
    (s.tallyEvaluated loop = false →
      ∃ t, exec (.tallyComparison c f loop) s = .next t ∧ { t with cnt := s.cnt } = s.quiet ∧
        t.ctr 0x5030 3 0 0 = (s.ctr 0x5030 3 0 0 + 1) % 4294967296) ∧
    (∀ rq x, Writes rq 0x5000 8 0 (u8 1) x s →
      ∃ t, exec (.tallyRevocationWrite rq) s = .next t ∧ Answered 2 (writeReq rq 0x5000 8 0 (u8 1)) 0 t ∧ t.cfg 0x5000 8 0 = 1 ∧
        SetsOnly 0x5000 8 0 s t ∧ t.lease = { s.lease with window := [], commonTally := false } ∧
        { t.lessAnswers.lessSettings with lease := s.lease } = s.lessAnswers.lessSettings))

/-- A Cold engine's checkpoint is refreshed when due or commanded, from the active page; heartbeats are noted with their sender's state, and three
missed in a row take the link for lost (08 R222, R226). A Failed engine restarts after 1 s where that is set and fewer than three restarts fell in the last day, or by command; its march
ends Cold under a holder, Waking without one, and Unusable when the spares do not suffice (08 R228, R229; 05 R150). -/
def Obligations.EnginesRefreshAndReturn : Prop :=
  (∀ (s : State) (e : EngId),
    (s.refreshTarget = some e → (s.over (s.engine e).refreshedAt (60 * s.cfg 0x5000 6 0 * 1000000000) = true ∨
        s.cfg 0x5000 7 0 ≤ s.edit.head - (s.engine e).refreshHead) →
      ∃ t, exec .refreshDue s = .next t ∧ (∀ k, t.engine k = if k = e then (s.engine e).voidOlder else s.engine k) ∧
        (t.engine e).state = .refreshing ∧ ((t.engine e).area0.valid && (t.engine e).area1.valid) = false ∧
        { t with engA := s.engA, engB := s.engB } = s.quiet) ∧
    (∀ rq arg x, Writes rq 0x5000 5 0 [arg] x s → s.refreshTarget = some e →
      ∃ t, exec (.refreshCheckpoint rq arg) s = .next t ∧ Answered 2 (writeReq rq 0x5000 5 0 [arg]) 0 t ∧
        (∀ k, t.engine k = if k = e then (s.engine e).voidOlder else s.engine k) ∧ (t.engine e).state = .refreshing ∧
        { t.lessAnswers with engA := s.engA, engB := s.engB } = s.lessAnswers) ∧
    (∀ bad r, (s.engine e).state = .refreshing → repairAll (s.engine e).repairs ((s.engine e).marched bad) = (r, true) →
      (∃ t, exec (.refreshComplete e ⟨bad, true, true⟩) s = .next t ∧ (t.engine e).state = .cold ∧ (t.engine e).refreshedAt = s.now ∧
        (t.engine e).repairs = r ∧
        ((t.engine e).area0 = s.imageNow (s.engine e).nextSeq ∨ (t.engine e).area1 = s.imageNow (s.engine e).nextSeq) ∧
        t.engine (otherEng e) = s.engine (otherEng e) ∧ t.lease = s.lease ∧ t.fab = s.fab ∧ t.lanes = s.lanes) ∧
      (∀ kept, ∃ t, exec (.refreshComplete e ⟨bad, false, kept⟩) s = .next t ∧ (t.engine e).state = .cold ∧ (t.engine e).cause = 2 ∧
        (t.engine e).repairs = r ∧ t.engine (otherEng e) = s.engine (otherEng e) ∧ t.lease = s.lease ∧ t.fab = s.fab ∧ t.lanes = s.lanes)) ∧
    (∀ bad r image kept, (s.engine e).state = .refreshing → repairAll (s.engine e).repairs ((s.engine e).marched bad) = (r, false) →
      ∃ t, exec (.refreshComplete e ⟨bad, image, kept⟩) s = .next t ∧ (t.engine e).state = .unusable ∧ (t.engine e).cause = 10 ∧
        (t.engine e).repairs = r ∧ t.engine (otherEng e) = s.engine (otherEng e) ∧ t.lease = s.lease ∧ t.fab = s.fab ∧ t.lanes = s.lanes) ∧
    ((s.engine (otherEng e)).state ≠ .down →
      ∃ t, exec (.heartbeat e) s = .next t ∧ { t with engA := s.engA, engB := s.engB } = s.quiet ∧
        t.engine (otherEng e) = { s.engine (otherEng e) with
          hbReceived := true, hbLost := false, hbAt := s.now, hbPeer := (s.engine e).state.code } ∧ t.engine e = s.engine e) ∧
    ((s.engine e).state ≠ .down → (s.engine e).hbLost = false → s.over (s.engine e).hbAt 3000000 = true →
      ∃ t, exec (.heartbeatLost e) s = .next t ∧ (t.engine e).hbReceived = false ∧ (t.engine e).hbLost = true ∧
        t.cnt = s.cnt ∧ t.engine (otherEng e) = s.engine (otherEng e) ∧ t.lease = s.lease ∧
        t.lanes = s.lanes)) ∧
  (∀ (s : State) (e : EngId),
    ((s.engine e).state = .failed → s.over (s.engine e).failedAt 1000000000 = true → s.cfg 0x5000 2 0 = 1 →
      ((s.engine e).restarts.filter fun b => decide (s.now < b + 86400000000000)).length < 3 →
      ∃ t, exec (.automaticRestart e) s = .next t ∧ (∀ k, t.engine k = if k = e then { s.engine e with
          state := .restarting, restarts := s.now :: (s.engine e).restarts.filter fun b => decide (s.now < b + 86400000000000) } else s.engine k) ∧
        { t with engA := s.engA, engB := s.engB, store.conds := s.store.conds } = s.quiet) ∧
    (∀ rq x, Writes rq 0x5000 4 0 (u8 e) x s → (s.engine e).state = .failed →
      ∃ t, exec (.restartEngine rq e) s = .next t ∧ Answered 2 (writeReq rq 0x5000 4 0 (u8 e)) 0 t ∧
        (∀ k, t.engine k = if k = e then { s.engine e with state := .restarting } else s.engine k) ∧
        { t.lessAnswers with engA := s.engA, engB := s.engB } = s.lessAnswers) ∧
    (∀ bad r, (s.engine e).state = .restarting → repairAll (s.engine e).repairs (bad.map Fin.val) = (r, true) → s.lease.holder ≠ none →
      ∃ t, exec (.restartMarchComplete e bad) s = .next t ∧ (t.engine e).state = .cold ∧ (t.engine e).repairs = r ∧
        (t.engine e).area0 = s.imageNow (s.engine e).nextSeq ∧ t.engine (otherEng e) = s.engine (otherEng e) ∧
        { t with engA := s.engA, engB := s.engB, store.conds := s.store.conds } = s.quiet) ∧
    (∀ bad r, (s.engine e).state = .restarting → repairAll (s.engine e).repairs (bad.map Fin.val) = (r, true) → s.lease.holder = none →
      ∃ t, exec (.restartMarchComplete e bad) s = .next t ∧ (t.engine e).state = .waking ∧ (t.engine e).repairs = r ∧
        (t.engine e).area0 = s.newestMap ∧ t.engine (otherEng e) = s.engine (otherEng e) ∧
        { t with engA := s.engA, engB := s.engB, store.conds := s.store.conds } = s.quiet) ∧
    (∀ bad r, (s.engine e).state = .restarting → repairAll (s.engine e).repairs (bad.map Fin.val) = (r, false) →
      ∃ t, exec (.restartMarchComplete e bad) s = .next t ∧ (t.engine e).state = .unusable ∧ (t.engine e).cause = 10 ∧ (t.engine e).repairs = r ∧
        t.engine (otherEng e) = s.engine (otherEng e) ∧ t.lease = s.lease ∧ t.lanes = s.lanes))

/-- A reference loses and regains its activity, takes its frequency results into its runs, is disqualified at the hard limit, flagged at the soft
limit, and comes back when its wait-to-restore ends (09 R238 to R240). -/
def Obligations.ReferencesAreMonitored : Prop :=  ∀ (s : State) (r : RefId),
    let only (t : State) : Prop := (∀ k, k ≠ (r : Nat) → t.ref k = s.ref k) ∧ { t with tim.refs := s.tim.refs, cnt := s.cnt, store.conds := s.store.conds } = s.quiet
    ((r : Nat) < 2 →
      ∃ t, exec (.referenceEdgeMissing r) s = .next t ∧ only t ∧ (t.ref r).active = false ∧ (t.ref r).actLost = true ∧ (t.ref r).qual = false ∧
        ((s.ref r).qual = true → s.refOn r = true → t.ctr 0x5430 2 1 r = (s.ctr 0x5430 2 1 r + 1) % 4294967296)) ∧
    ((r : Nat) < 2 → s.portUp = true →
      ∃ t, exec (.referenceActivityRestored r) s = .next t ∧ only t ∧ (t.ref r).active = true ∧ (t.ref r).actLost = false) ∧
    (∀ d : Int, s.portUp = true →
      ∃ t, exec (.frequencyMeasurement r d) s = .next t ∧ (t.ref r).offset = d ∧ (∀ k, k ≠ (r : Nat) → t.ref k = s.ref k) ∧
        (t.ref r).hardBad = (if 4600000 < d.natAbs then min 100 ((s.ref r).hardBad + 1) else 0) ∧
        (t.ref r).softBad = (if 1000000 < d.natAbs then min 100 ((s.ref r).softBad + 1) else 0) ∧
        (s.tim.warm = false → (t.ref r).hardDis = (s.ref r).hardDis) ∧
        { t with tim.refs := s.tim.refs, tim.apart := s.tim.apart, tim.near := s.tim.near, cnt := s.cnt, store.conds := s.store.conds } = s.quiet) ∧
    (s.tim.warm = true → (s.ref r).hardBad = 100 → (s.ref r).hardDis = false →
      ∃ t, exec (.hardLimitExceeded r) s = .next t ∧ (t.ref r).hardDis = true ∧ (t.ref r).qual = false ∧ (∀ k, k ≠ (r : Nat) → t.ref k = s.ref k) ∧
        (s.following r = false → t.tim.sys = s.tim.sys) ∧
        { t with tim.refs := s.tim.refs, tim.sys := s.tim.sys, cnt := s.cnt, store.conds := s.store.conds } = s.quiet) ∧
    ((s.ref r).softBad = 100 → (s.ref r).softFlag = false →
      ∃ t, exec (.softLimitFlag r) s = .next t ∧ (t.ref r).softFlag = true ∧ (s.tim.warm = true → s.cfg 0x5400 9 0 = 1 → (t.ref r).qual = false) ∧
        (∀ k, k ≠ (r : Nat) → t.ref k = s.ref k) ∧ t.lanes = s.lanes ∧ t.fab = s.fab ∧ t.persist = s.persist) ∧
    (∀ b, (s.ref r).wtrSince = some b → s.over b (60 * s.cfg 0x5400 4 0 * 1000000000) = true →
      ∃ t, exec (.referenceWtrExpiry r) s = .next t ∧ only t ∧ (t.ref r).wtrSince = none ∧ (t.ref r).noLock = false)

/-- The fantail takes the reference that the rules select; two references that differ for 10 s disagree until they have agreed for 60 s; a selection
command is stored, a manual one only for a candidate of the best quality level (09 R241 to R243). -/
def Obligations.TheFantailSelects : Prop :=  ∀ (s : State),
    (s.portUp = true → s.tim.cmd ≠ 2 →
      ∃ t, exec .referenceSelection s = .next t ∧ t.tim.selected = s.quiet.evalRefs.wantRef ∧ t.tim.cmd = s.tim.cmd ∧
        (∀ q, s.quiet.evalRefs.wantRef = some q → s.tim.selected ≠ some q → t.tim.sys.state = .acquiring ∧ t.tim.sys.ref = q) ∧
        (s.quiet.evalRefs.wantRef ≠ s.tim.selected → t.ctr 0x5440 5 0 0 = (s.ctr 0x5440 5 0 0 + 1) % 4294967296) ∧
        t.lanes = s.lanes ∧ t.fab = s.fab ∧ t.persist = s.persist) ∧
    (∀ a b : RefId, a ≠ b → tget 0 s.tim.apart (pairKey a b) ≠ 0 → s.over (tget 0 s.tim.apart (pairKey a b) - 1) 10000000000 = true →
      s.disagreeing a b = false → s.candidate a = true → s.candidate b = true → s.refKey a = s.refKey b →
      ∃ t, exec (.disagreementSet a b) s = .next t ∧ t.tim.disagree = s.tim.disagree ++ [(a, b)] ∧
        { t with tim.disagree := s.tim.disagree, store.conds := s.store.conds } = s.quiet) ∧
    (∀ a b : RefId, tget 0 s.tim.near (pairKey a b) ≠ 0 → s.over (tget 0 s.tim.near (pairKey a b) - 1) 60000000000 = true →
      ∃ t, exec (.disagreementCleared a b) s = .next t ∧ t.disagreeing a b = false ∧
        { t with tim.disagree := s.tim.disagree, store.conds := s.store.conds } = s.quiet) ∧
    (∀ (rq : Rq) (x : Session) (r : Nat), r < 256 →
      (Writes rq 0x5400 0x0A 0 (selBytes 0 r) x s →
        ∃ t, exec (.selectClear rq r) s = .next t ∧ Answered 2 (writeReq rq 0x5400 0x0A 0 (selBytes 0 r)) 0 t ∧ t.tim.cmd = 0 ∧ t.tim.cmdRef = 0 ∧
          t.lanes = s.lanes ∧ t.persist = s.persist) ∧
      (Writes rq 0x5400 0x0A 0 (selBytes 1 r) x s → r < 8 → s.cfg 0x5420 1 r = 1 →
        ∃ t, exec (.selectForced rq r) s = .next t ∧ Answered 2 (writeReq rq 0x5400 0x0A 0 (selBytes 1 r)) 0 t ∧ t.tim.cmd = 1 ∧ t.tim.cmdRef = r ∧
          t.lanes = s.lanes ∧ t.persist = s.persist) ∧
      (Writes rq 0x5400 0x0A 0 (selBytes 2 r) x s → r < 8 → s.manualHolds r = true →
        ({ s.quiet with tim.cmd := 2, tim.cmdRef := r }.evalRefs).manualHolds r = true →
        ∃ t, exec (.selectManual rq r) s = .next t ∧ Answered 2 (writeReq rq 0x5400 0x0A 0 (selBytes 2 r)) 0 t ∧ t.tim.cmd = 2 ∧ t.tim.cmdRef = r ∧
          t.lanes = s.lanes ∧ t.persist = s.persist) ∧
      (Writes rq 0x5400 0x0A 0 (selBytes 3 r) x s →
        ∃ t, exec (.selectHoldover rq r) s = .next t ∧ Answered 2 (writeReq rq 0x5400 0x0A 0 (selBytes 3 r)) 0 t ∧ t.tim.cmd = 3 ∧
          t.tim.selected = none ∧ t.lanes = s.lanes ∧ t.persist = s.persist) ∧
      (Writes rq 0x5400 0x0A 0 (selBytes 4 r) x s →
        ∃ t, exec (.selectFreeRun rq r) s = .next t ∧ Answered 2 (writeReq rq 0x5400 0x0A 0 (selBytes 4 r)) 0 t ∧ t.tim.cmd = 4 ∧
          t.tim.selected = none ∧ t.tim.sys.state = .freeRun ∧ t.lanes = s.lanes ∧ t.persist = s.persist) ∧
      (Writes rq 0x5400 0x0A 0 (selBytes 2 r) x s → r < 8 → s.manualHolds r = false →
        ∃ t, exec (.selectManual rq r) s = .next t ∧ Answered 2 (writeReq rq 0x5400 0x0A 0 (selBytes 2 r)) 2 t ∧ t.tim = s.tim))

/-- A governor locks 10 s after it has pulled in, gives its reference up after 10 min, and keeps the mean of each Locked minute; the OCXO warms
in 10 min and is calibrated after 24 h locked to rank 1 (09 R246, R248, R250, R251). A new SSM option takes the quality levels back to its defaults;
a realignment is set for a TAI second when the time is known, and a lost frame alignment goes back to the port die's own numbering and cancels every
pending key (09 R235, R253, R254; 11 R297). -/
def Obligations.GovernorsOptionsAndFramePhase : Prop :=
  (∀ (s : State),
    (∀ g : GovId, (s.gov g).state = .acquiring → s.over (s.pulledAt (s.gov g)) 10000000000 = true → s.pullLeft (s.gov g) = 0 → s.uses g = true →
      (g = 0 ∨ s.tod.state = .locked) →
      ∃ t, exec (.governorLocked g) s = .next t ∧ (t.gov g).state = .locked ∧ (t.gov g).ref = (s.gov g).ref ∧ (t.gov g).since = s.now ∧
        (t.gov g).pull = 0 ∧ (∀ k, k ≠ g → t.gov k = s.gov k) ∧
        { t with tim.sys := s.tim.sys, tim.time := s.tim.time, tim.rankOne := s.tim.rankOne, store.conds := s.store.conds } = s.quiet) ∧
    (∀ r, s.tim.sys.state = .acquiring → s.tim.selected = some r → s.over s.tim.sys.since 600000000000 = true →
      ∃ t, exec .noLockTimeout s = .next t ∧ (t.ref r).noLock = true ∧ (t.ref r).qual = false ∧ t.lanes = s.lanes ∧ t.fab = s.fab ∧
        t.persist = s.persist ∧ (s.portUp = true → s.tim.cmd = 0 → t.tim.selected ≠ some r)) ∧
    (∀ (g : GovId) (m : Int), (s.gov g).state = .locked → s.uses g = true →
      s.over (match (s.gov g).minutes with | b :: _ => max b (s.gov g).since | [] => (s.gov g).since) 60000000000 = true →
      ∃ t, exec (.historyEntry g m) s = .next t ∧ { t with tim.sys := s.tim.sys, tim.time := s.tim.time } = s.quiet ∧
        (∀ k, t.gov k = if k = g then { s.gov g with
          history := (m :: (s.gov g).history).take 1440, minutes := (s.now :: (s.gov g).minutes).take 1440 } else s.gov k)) ∧
    (∀ (m : Int) b, s.watchRank.tim.rankOne = some b → s.over (max b s.tim.calibratedAt) 86400000000000 = true →
      ∃ t, exec (.calibrationUpdate m) s = .next t ∧ t = { s.quiet.watchRank with tim.calibration := m, tim.calibratedAt := s.now }) ∧
    (∀ b, s.tim.ocxoOn = some b → s.tim.warm = false → s.over b 600000000000 = true →
      ∃ t, exec .ocxoWarm s = .next t ∧ { t.tim with refs := s.tim.refs, sys := s.tim.sys } = { s.tim with warm := true } ∧
        (s.cfg 0x5400 9 0 ≠ 1 → t.tim.sys = s.tim.sys) ∧ t.lanes = s.lanes ∧ t.fab = s.fab ∧ t.persist = s.persist)) ∧
  (∀ (s : State),
    (∀ rq n x, (n = 1 ∨ n = 2) → Writes rq 0x5400 1 0 (u8 n) x s →
      ∃ t, exec (.ssmOptionWrite rq n) s = .next t ∧ Answered 2 (writeReq rq 0x5400 1 0 (u8 n)) 0 t ∧ t.cfg 0x5400 1 0 = n ∧
        t.cfg 0x5400 7 0 = (if n = 2 then 0x0D else 0x08) ∧ (∀ r, r < 8 → t.cfg 0x5420 6 r = if n = 2 then 0x01 else 0x02) ∧
        (∀ i, i < 2 → t.cfg 0x5470 2 i = if n = 2 then 0x0C else 0x0B) ∧ t.lanes = s.lanes ∧ t.fab = s.fab) ∧
    (∀ rq arg x, Writes rq 0x5460 3 0 [arg] x s → s.tod.ever = true → s.tod.tjr = false → s.tim.realignAt = none → s.edit.armed = none →
      ∃ t, exec (.realignFramePhase rq arg) s = .next t ∧ Answered 2 (writeReq rq 0x5460 3 0 [arg]) 0 t ∧
        { t.lessAnswers with tim.realignAt := s.tim.realignAt } = s.lessAnswers ∧
        t.tim.realignAt = some (evenAfter s.tod.counter)) ∧
    (∀ rq arg x, Writes rq 0x5460 3 0 [arg] x s → (s.tod.ever = false ∨ s.tod.tjr = true ∨ s.tim.realignAt.isSome = true) →
      ∃ t, exec (.realignFramePhase rq arg) s = .next t ∧ Answered 2 (writeReq rq 0x5460 3 0 [arg]) 2 t ∧ t.tim = s.tim) ∧
    (s.tim.aligned = true → 16 ≤ s.tim.outRun →
      ∃ t, exec .framePhaseAlignmentLost s = .next t ∧ t.tim.aligned = false ∧ t.fab = { s.fab with superframe := s.fab.localN } ∧
        (∀ k, (t.keySlot k).pend = none) ∧ (twf {} s.sealing.slots → ∀ k, (t.keySlot k).cur = (s.keySlot k).cur) ∧ t.lanes = s.lanes ∧ t.persist = s.persist))

/-- A trigger is armed for an instant from 10 microseconds ahead, fires when the counter reaches it, and its pulse lasts its width; a periodic one
moves on to its next target; disarming leaves a pulse that is high alone (10 R271, R272). -/
def Obligations.TriggersFire : Prop :=  ∀ (s : State),
    (∀ rq (k : Nat) (r : TrigRec) x, k < 8 → r.seconds < 281474976710656 → r.nanoseconds ≤ 999999999 → 10 ≤ r.width → r.width ≤ 1000000000 →
      (s.trig k).armed = false → 10000 * 65536 ≤ (fromTime80 (r.seconds * 4294967296 + r.nanoseconds) : Int) - s.tod.counter →
      (fromTime80 (r.seconds * 4294967296 + r.nanoseconds) : Int) - s.tod.counter < 140737488355328 * 65536 →
      (r.period = 0 → r.count = 0 → Writes rq 0x5840 1 k (trigBytes 1 r) x s →
        ∃ t, exec (.armOneShot rq k r) s = .next t ∧ Answered 2 (writeReq rq 0x5840 1 k (trigBytes 1 r)) 0 t ∧
          (∀ j, t.trig j = if j = k then { s.trig k with
            armed := true, periodic := false, target := shortTime (fromTime80 (r.seconds * 4294967296 + r.nanoseconds)), period := 0
            width := r.width, left := 0, overtaken := false } else s.trig j) ∧
          { t.lessAnswers with tod.trigs := s.tod.trigs } = s.lessAnswers) ∧
      (1000 * 65536 ≤ r.period → r.period ≤ 140737488355328 * 65536 → (r.width + 10) * 65536 ≤ r.period → r.count < 4294967296 →
        Writes rq 0x5840 1 k (trigBytes 2 r) x s →
        ∃ t, exec (.armPeriodic rq k r) s = .next t ∧ Answered 2 (writeReq rq 0x5840 1 k (trigBytes 2 r)) 0 t ∧
          (∀ j, t.trig j = if j = k then { s.trig k with
            armed := true, periodic := true, target := shortTime (fromTime80 (r.seconds * 4294967296 + r.nanoseconds)), period := r.period
            width := r.width, left := r.count, overtaken := false } else s.trig j) ∧
          { t.lessAnswers with tod.trigs := s.tod.trigs } = s.lessAnswers)) ∧
    (∀ rq k arg x, Writes rq 0x5840 2 k [arg] x s →
      ∃ t, exec (.disarmTrigger rq k arg) s = .next t ∧ Answered 2 (writeReq rq 0x5840 2 k [arg]) 0 t ∧
        (∀ j, t.trig j = if j = k then { s.trig k with armed := false } else s.trig j) ∧
        { t.lessAnswers with tod.trigs := s.tod.trigs } = s.lessAnswers) ∧
    (∀ k : TrigId, (s.trig k).armed = true → s.trigAhead k ≤ 0 → s.portUp = true → (s.trig k).overtaken = false →
      ((s.trig k).periodic = false →
        ∃ t, exec (.triggerFire k) s = .next t ∧ t.out = [.trigRise k] ∧ t.ctr 0x5840 3 3 k = (s.ctr 0x5840 3 3 k + 1) % 4294967296 ∧
          (∀ j, t.trig j = if j = k then { s.trig k with
            high := true, highEnd := s.now + (s.trig k).width, lastEdge := shortTime s.tod.counter / 65536, armed := false, left := 0 } else s.trig j) ∧
          { t with tod.trigs := s.tod.trigs, cnt := s.cnt, out := [] } = s.quiet) ∧
      ((s.trig k).periodic = true → (s.trig k).left ≠ 1 →
        0 < ahead (shortTime s.tod.counter) (shortTime ((s.trig k).target + (s.trig k).period)) →
        ∃ t, exec (.triggerFire k) s = .next t ∧ t.out = [.trigRise k] ∧ t.ctr 0x5840 3 3 k = (s.ctr 0x5840 3 3 k + 1) % 4294967296 ∧
          (t.trig k).armed = true ∧ (t.trig k).high = true ∧ (t.trig k).target = shortTime ((s.trig k).target + (s.trig k).period) ∧
          (t.trig k).left = (s.trig k).left - 1 ∧ (∀ j, j ≠ (k : Nat) → t.trig j = s.trig j) ∧
          { t with tod.trigs := s.tod.trigs, cnt := s.cnt, out := [] } = s.quiet)) ∧
    (∀ k : TrigId, (s.trig k).high = true → (s.trig k).highEnd ≤ s.now →
      ∃ t, exec (.triggerPulseEnd k) s = .next t ∧ t.out = [.trigFall k] ∧
        (∀ j, t.trig j = if j = k then { s.trig k with high := false } else s.trig j) ∧ { t with tod.trigs := s.tod.trigs, out := [] } = s.quiet)

/-- The edges and messages of the 1PPS and ToD inputs make samples of the time source, an edge less than 0.5 s after the last one taken is only
counted as an outlier, and ToD_OUT names the second 200 ms after it began (10 R263, R264; 17 R443). -/
def Obligations.PulsesAndMessagesGiveSamples : Prop :=  ∀ (s : State),
    (s.portUp = true → s.edgeTooSoon = true →
      ∃ t, exec .ppsInEdge s = .next t ∧ t.ctr 0x5820 6 2 0 = (s.ctr 0x5820 6 2 0 + 1) % 4294967296 ∧ { t with cnt := s.cnt } = s.quiet) ∧
    (s.portUp = true → s.edgeTooSoon = false →
      ∃ t, exec .ppsInEdge s = .next t ∧ t.tod.edgeAt = some s.now ∧ t.tod.edgeNamed = false ∧
        t.tod.edgeTime = (s.tod.counter : Int) + signed 32 (s.cfg 0x5800 5 0) * 65536 - s.tod.stepTotal ∧ { t with tod := s.tod } = s.quiet) ∧
    (∀ m sec utc e, todOk m = some (sec, utc) → s.tod.edgeAt = some e → s.timeSource = 2 → s.sup.up = true → s.tod.edgeNamed = false →
      e + 100000000 ≤ s.now → s.now ≤ e + 900000000 →
      ∃ t, exec (.todMessage m) s = .next t ∧ t.tod.edgeNamed = true ∧ t.tod.prevSecond = sec ∧ t.tod.utc = utc ∧
        t.tod.lastSample = s.tod.edgeTime + s.tod.stepTotal - ((sec * tcSecond : Nat) : Int) ∧ t.tod.lastSampleAt = s.now ∧
        t.ctr 0x5820 6 1 0 = (s.ctr 0x5820 6 1 0 + 1) % 4294967296 ∧ t.lanes = s.lanes ∧ t.persist = s.persist) ∧
    (s.tod.todPending = true → s.over s.tod.todAt 200000000 = true →
      ∃ t, exec .todOut s = .next t ∧ t = { s.quiet with tod.todPending := false, out :=
        [.tod (todBytes (s.tim.aligned && s.tod.state == TimeState.locked) s.tod.todSecond s.tod.utc)] })

/-- A Delay_Req goes out on the source lane in each interval; a lost source ends its qualification and takes the time to Holdover; a new source, or
a new source lane, loses the present one (10 R261, R265, R266, R276). While a jump awaits permission, a permit is stored for the samples that follow
it, and is refused otherwise; what a slew takes from its offset leaves the counter, each nanosecond, and it is complete
when nothing is left (10 R267). -/
def Obligations.TimeSourcesAndJumps : Prop :=
  (∀ (s : State),
    (∀ l, s.ptpLane = some l → s.timeSource = 1 → s.sup.up = true → (s.lane l).bring.stage = 9 → (s.lane l).timeFill + 45 + 4 ≤ 8192 →
      (∀ b, s.tod.reqAt = some b → s.over b (logSeconds (signed 8 (s.cfg 0x5810 3 0))) = true) →
      ∃ t, exec .delayReqInterval s = .next t ∧ t.tod = { s.tod with dreqSeq := (s.tod.dreqSeq + 1) % 65536, t3 := none, reqAt := some s.now } ∧
        (t.lane l).ch.timeTx = (s.lane l).ch.timeTx ++
          [⟨none, true, 1 :: delayReq (s.cfg 0x5810 2 0) ((s.tod.dreqSeq + 1) % 65536) l 0x7F⟩] ∧
        (∀ k, k ≠ l → t.lane k = s.lane k) ∧ { t with tod := s.tod, lanes := s.lanes } = s.quiet) ∧
    (∀ b, s.tod.reqAt = some b → s.over b (logSeconds (signed 8 (s.cfg 0x5810 3 0))) = false →
      ∃ t, exec .delayReqInterval s = .next t ∧ t = s.quiet) ∧
    (s.sup.up = true → s.sourceGone = true →
      ∃ t, exec .sourceLost s = .next t ∧ t.tod.qualified = false ∧ t.tod.run = [] ∧
        ((s.tod.state = .acquiring ∨ s.tod.state = .locked) → t.tod.state = .holdover) ∧
        (s.tod.state = .unset ∨ s.tod.state = .holdover → t.tod.state = s.tod.state) ∧
        { t with tod := s.tod, tim.time := s.tim.time, store.conds := s.store.conds } = s.quiet) ∧
    (∀ rq n x, n < 3 → Writes rq 0x5800 1 0 (u8 n) x s → n ≠ s.timeSource →
      ∃ t, exec (.timeSourceWrite rq n) s = .next t ∧ Answered 2 (writeReq rq 0x5800 1 0 (u8 n)) 0 t ∧ t.timeSource = n ∧ SetsOnly 0x5800 1 0 s t ∧
        t.tod.qualified = false ∧ t.tod.foreign = [] ∧ t.tod.master = none ∧
        { t.lessAnswers.lessSettings with tod := s.tod, tim.time := s.tim.time } = s.lessAnswers.lessSettings) ∧
    (∀ rq l x, l < 48 → Writes rq 0x5810 1 0 (u8 l) x s → l ≠ s.cfg 0x5810 1 0 →
      ∃ t, exec (.ptpSourceLaneWrite rq l) s = .next t ∧ Answered 2 (writeReq rq 0x5810 1 0 (u8 l)) 0 t ∧ t.cfg 0x5810 1 0 = l ∧
        SetsOnly 0x5810 1 0 s t ∧ t.tod.foreign = [] ∧ t.tod.master = none ∧ t.tod.dvalid = false ∧ t.tod.delays = [] ∧
        (s.timeSource = 1 → t.tod.qualified = false) ∧
        { t.lessAnswers.lessSettings with tod := s.tod, tim.time := s.tim.time } = s.lessAnswers.lessSettings)) ∧
  (∀ (s : State),
    (∀ rq x, Writes rq 0x5800 4 0 (u8 1) x s → s.tod.tjr = true →
      ∃ t, exec (.permitStep rq) s = .next t ∧ Answered 2 (writeReq rq 0x5800 4 0 (u8 1)) 0 t ∧
        t.tod = { s.tod with permit := 1, permitSamples := [] } ∧ { t.lessAnswers with tod := s.tod } = s.lessAnswers) ∧
    (∀ rq x, Writes rq 0x5800 4 0 (u8 2) x s → s.tod.tjr = true →
      ∃ t, exec (.permitSlew rq) s = .next t ∧ Answered 2 (writeReq rq 0x5800 4 0 (u8 2)) 0 t ∧
        t.tod = { s.tod with permit := 2, permitSamples := [] } ∧ { t.lessAnswers with tod := s.tod } = s.lessAnswers) ∧
    (∀ rq x, Writes rq 0x5800 4 0 (u8 1) x s → s.tod.tjr = false →
      ∃ t, exec (.permitStep rq) s = .next t ∧ Answered 2 (writeReq rq 0x5800 4 0 (u8 1)) 2 t ∧ t.tod = s.tod) ∧
    (s.tod.slewing = true → s.tod.slewLeft = 0 →
      ∃ t, exec .slewComplete s = .next t ∧ t = { s.quiet with tod.slewing := false, tod.slewFrac := 0 }) ∧
    (s.tod.slewing = false ∨ s.tod.slewLeft ≠ 0 → ∃ t, exec .slewComplete s = .next t ∧ t = s.quiet) ∧
    (s.pending = [] → s.tod.slewing = true → s.power.portRail = true → s.power.portFault = false →
      ∃ t, step s = .next t ∧ t.now = s.now + 1 ∧ t.tod.slewLeft.natAbs ≤ s.tod.slewLeft.natAbs ∧
        t.tod.counter = (((s.countTime.tod.counter : Int) - (s.tod.slewLeft - t.tod.slewLeft)) % ((281474976710656 * tcSecond : Nat) : Int)).toNat))

/-- The oldest seal record at hand is taken, and ignored on a failed lane; a command that names another, or another tag verdict than the receiver's own,
does nothing (log entry 144, the model's choice). One with a handle out of range, repeated, or of no stream is counted and judged by no stream; a record
whose tag fails fails its interval, one that is good and in turn verifies it, and an interval whose record is missing at the deadline fails (11 R288,
R289; 02 R60). -/
def Obligations.SealRecordsAreJudged : Prop :=  ∀ (s : State) (l : LaneId) (p : Nat) (r : SealRec) (rs : List (Nat × SealRec)) (ok : Bool) (k : Fin 65536),
    ((s.lane l).ch.sealReady.head?.map Prod.snd ≠ some r ∨ s.tagAgrees l r ok = false →
      ∃ t, exec (.sealRecord l r ok) s = .next t ∧ t = s.quiet) ∧
    ((s.lane l).ch.sealReady = (p, r) :: rs → s.tagAgrees l r ok = true →
      let taken (t : State) : Prop := (t.lane l).ch.sealReady = rs ∧ ∀ j, j ≠ (l : Nat) → t.lane j = s.lane j
      (s.laneFailed l = true →
        ∃ t, exec (.sealRecord l r ok) s = .next t ∧ taken t ∧ { t with lanes := s.lanes } = s.quiet) ∧
      (s.laneFailed l = false → 16384 ≤ r.handle →
        ∃ t, exec (.sealRecord l r ok) s = .next t ∧ taken t ∧ { t with cnt := s.cnt, lanes := s.lanes } = s.quiet ∧
          t.ctr 0x3050 0xB 0 l = (s.ctr 0x3050 0xB 0 l + 1) % 4294967296) ∧
      (s.laneFailed l = false → r.handle < 16384 → (s.lane l).ch.sealSeen.contains r.handle = true →
        ∃ t, exec (.sealRecord l r ok) s = .next t ∧ taken t ∧ { t with cnt := s.cnt, lanes := s.lanes } = s.quiet ∧
          t.ctr 0x3050 9 0 l = (s.ctr 0x3050 9 0 l + 1) % 4294967296) ∧
      (s.laneFailed l = false → r.handle < 16384 → (s.lane l).ch.sealSeen.contains r.handle = false → s.rxByHandle l r.handle = none →
        ∃ t, exec (.sealRecord l r ok) s = .next t ∧ taken t ∧ { t with cnt := s.cnt, lanes := s.lanes } = s.quiet ∧
          (t.lane l).ch.sealSeen = r.handle :: (s.lane l).ch.sealSeen ∧
          t.ctr 0x3050 0xA 0 l = (s.ctr 0x3050 0xA 0 l + 1) % 4294967296) ∧
      (s.laneFailed l = false → r.handle < 16384 → (s.lane l).ch.sealSeen.contains r.handle = false → s.rxByHandle l r.handle = some k →
        (s.rxS k).live = true → (s.rxS k).begun = true → (s.rxS k).recordIn = false → (s.rxS k).unver = false → ok = false →
        (s.rxF k 6 = 1 → p ≤ 700) →
        ∃ t, exec (.sealRecord l r ok) s = .next t ∧ taken t ∧
          { t with cnt := s.cnt, lanes := s.lanes, pm.stream := s.pm.stream, sealing.rx := s.sealing.rx, store.conds := s.store.conds } = s.quiet ∧
          (t.rxS k).recordIn = true ∧ (t.rxS k).failRun = min 3 ((s.rxS k).failRun + 1) ∧ (t.rxS k).okRun = 0 ∧
          t.ctr 0x5C32 1 2 k = (s.ctr 0x5C32 1 2 k + 1) % 4294967296) ∧
      (s.laneFailed l = false → r.handle < 16384 → (s.lane l).ch.sealSeen.contains r.handle = false → s.rxByHandle l r.handle = some k →
        (s.rxS k).live = true → (s.rxS k).begun = true → (s.rxS k).recordIn = false → (s.rxS k).unver = false → ok = true →
        (s.rxF k 6 = 1 → p ≤ 700) → (s.curKey (s.rxF k 4)).isSome = true → (s.rxS k).oldKey = false →
        (∀ c, (s.rxS k).verified = some c → c < r.counter) →
        (s.rxF k 6 = 0 → (s.rxS k).state = .synced → r.counter + 1 = (s.rxS k).expected) →
        ((s.rxS k).nkPrev = 2 ∨ r.newKey = ((s.rxS k).nkPrev == 1)) →
        ∃ t, exec (.sealRecord l r ok) s = .next t ∧ taken t ∧
          { t with cnt := s.cnt, lanes := s.lanes, pm.stream := s.pm.stream, sealing.rx := s.sealing.rx, store.conds := s.store.conds } = s.quiet ∧
          (t.rxS k).recordIn = true ∧ (t.rxS k).failRun = 0 ∧ (t.rxS k).okRun = min 2 ((s.rxS k).okRun + 1) ∧
          (t.rxS k).verified = some r.counter ∧ t.ctr 0x5C32 1 1 k = (s.ctr 0x5C32 1 1 k + 1) % 4294967296)) ∧
    (s.recordLate k = false → ∃ t, exec (.sealRecordDeadline k) s = .next t ∧ t = s.quiet) ∧
    ((s.rxS k).live = true → (s.rxS k).begun = true → (s.rxS k).recordIn = false → (s.rxS k).unver = false → s.recordLate k = true →
      (s.lane (s.rxF k 2)).ch.aisPrev = false →
      ∃ t, exec (.sealRecordDeadline k) s = .next t ∧
        { t with cnt := s.cnt, pm.stream := s.pm.stream, sealing.rx := s.sealing.rx, store.conds := s.store.conds } = s.quiet ∧
        (t.rxS k).failRun = min 3 ((s.rxS k).failRun + 1) ∧
        (2 ≤ (s.rxS k).failRun → (t.rxS k).sealf = true ∧ (t.rxS k).state = .acquire) ∧
        t.ctr 0x5C32 1 3 k = (s.ctr 0x5C32 1 3 k + 1) % 4294967296) ∧
    ((s.rxS k).hold = 1 →
      ∃ t, exec (.aisHoldEnd k) s = .next t ∧ { t with sealing.rx := s.sealing.rx } = s.quiet ∧
        (∀ j, t.rxS j = if j = k then { s.rxS k with hold := 0 } else s.rxS j))

/-- When its switch is due the pending key becomes the current one, and no key of another slot changes (11 R296). An installed key becomes the
current key of an empty slot or the pending key of one in use, and raises the slot's high-water mark to its serial in flash, and a ciphertext that does not unwrap is refused with INTEGRITY (11 R294 to R296);
erasing takes the pending key alone, or both (Table 11-11). -/
def Obligations.KeysAreInstalledTakenOverAndErased : Prop :=
  (∀ (s : State) (k : Fin 16384), (s.keySlot k).pend.isSome = true → s.switchDue k = true →
    ∃ t, exec (.keySwitch k) s = .next t ∧
      (∀ j, t.keySlot j = if j = k then { s.keySlot k with cur := (s.keySlot k).pend, pend := none, switchAt := 0 } else s.keySlot j) ∧
      (∀ j ∈ s.txOfSlot k, (t.txS j).counter = 0 ∧ (t.txS j).newKey = true) ∧
      { t with sealing := s.sealing, store.conds := s.store.conds, pm.stream := s.pm.stream } = s.quiet) ∧
  (∀ (s : State), ∀ k : Fin 16384, s.switchDue k = false → ∃ t, exec (.keySwitch k) s = .next t ∧ t = s.quiet) ∧
  (∀ (s : State) (rq : Rq) (x : Session) (slot : Nat) (w : Bytes) (p : KeyPlain) (n : Nat),
    (Writes rq 0x5C10 1 slot (w ++ beBytes 8 n) x s → s.keysBarred = false → s.sealing.kwk.isSome = true → s.unwrapped w = none →
      (s.cfg 0x9020 2 0 = 0 ∨ s.sec.authCount + 1 < s.cfg 0x9020 2 0) →
      ∃ t, exec (.installKey rq slot w n) s = .next t ∧ Answered 2 (writeReq rq 0x5C10 1 slot (w ++ beBytes 8 n)) 8 t ∧
        t.sealing = s.sealing ∧ t.sec.authCount = s.sec.authCount + 1 ∧ t.persist = s.persist) ∧
    (Writes rq 0x5C10 1 slot (w ++ beBytes 8 n) x s → s.unwrapped w = some p → s.keysBarred = false → s.sealing.kwk.isSome = true → s.sealing.eraseAlarm = false →
      p.slot = slot → p.lane = s.bindLane slot → p.direction = s.bindDir slot → (s.keySlot slot).mark < p.serial →
      0 < s.persist.markFree → s.persist.markOk = true →
      ((s.keySlot slot).cur = none → (s.keySlot slot).pend = none → n = 0 →
        ∃ t, exec (.installKey rq slot w n) s = .next t ∧ Answered 2 (writeReq rq 0x5C10 1 slot (w ++ beBytes 8 n)) 0 t ∧
          (∀ j, t.keySlot j = if j = slot then { s.keySlot slot with cur := some ⟨p.serial, p.key⟩, mark := p.serial } else s.keySlot j) ∧
          t.persist = { s.persist with markFree := s.persist.markFree - 1 } ∧ t.sealing.kwk = s.sealing.kwk ∧
          { t.lessAnswers with sealing := s.sealing, persist := s.persist, pm.stream := s.pm.stream } = s.lessAnswers) ∧
      ((s.keySlot slot).cur.isSome = true → (s.keySlot slot).pend = none → s.fab.superframe + 2 ≤ n → n ≤ s.fab.superframe + 43200 →
        ∃ t, exec (.installKey rq slot w n) s = .next t ∧ Answered 2 (writeReq rq 0x5C10 1 slot (w ++ beBytes 8 n)) 0 t ∧
          (∀ j, t.keySlot j = if j = slot then { s.keySlot slot with pend := some ⟨p.serial, p.key⟩, switchAt := n, mark := p.serial }
            else s.keySlot j) ∧
          t.persist = { s.persist with markFree := s.persist.markFree - 1 } ∧
          { t.lessAnswers with sealing.slots := s.sealing.slots, persist := s.persist } = s.lessAnswers)) ∧
    (Writes rq 0x5C10 5 slot (u8 1) x s →
      ∃ t, exec (.erasePendingKey rq slot) s = .next t ∧ Answered 2 (writeReq rq 0x5C10 5 slot (u8 1)) 0 t ∧
        (∀ j, t.keySlot j = if j = slot then { s.keySlot slot with pend := none, switchAt := 0 } else s.keySlot j) ∧
        { t.lessAnswers with sealing.slots := s.sealing.slots } = s.lessAnswers) ∧
    (Writes rq 0x5C10 5 slot (u8 2) x s →
      ∃ t, exec (.eraseSlotKey rq slot) s = .next t ∧ Answered 2 (writeReq rq 0x5C10 5 slot (u8 2)) 0 t ∧
        (∀ j, t.keySlot j = if j = slot then { s.keySlot slot with cur := none, pend := none, switchAt := 0 } else s.keySlot j) ∧
        { t.lessAnswers with sealing := s.sealing, pm.stream := s.pm.stream } = s.lessAnswers))

/-- The key-wrapping key and a channel key are taken from what their ciphertext opens to; a ciphertext that does not open is refused with INTEGRITY
and counted (11 R293, R302; 15 R408). -/
def Obligations.WrappingAndChannelKeysAreInstalled : Prop :=  ∀ (s : State) (rq : Rq) (x : Session),
    (∀ c key, c.decrypted = some key → Writes rq 0x5E00 1 0 c.bytes x s → s.keysBarred = false →
      ∃ t, exec (.installKwk rq c) s = .next t ∧ Answered 2 (writeReq rq 0x5E00 1 0 c.bytes) 0 t ∧
        { t.lessAnswers with sealing.kwk := s.sealing.kwk } = s.lessAnswers ∧ t.sealing.kwk = some key) ∧
    (∀ c, c.decrypted = none → Writes rq 0x5E00 1 0 c.bytes x s → s.keysBarred = false →
      (s.cfg 0x9020 2 0 = 0 ∨ s.sec.authCount + 1 < s.cfg 0x9020 2 0) →
      ∃ t, exec (.installKwk rq c) s = .next t ∧ Answered 2 (writeReq rq 0x5E00 1 0 c.bytes) 8 t ∧
        t.sec.authCount = s.sec.authCount + 1 ∧ t.sealing = s.sealing ∧ t.ctr 0x9020 5 1 0 = (s.ctr 0x9020 5 1 0 + 1) % 4294967296) ∧
    (∀ (ch : Nat) (w : Bytes) (p : KeyPlain), s.unwrapped w = some p → Writes rq 0x5E10 2 ch w x s → s.keysBarred = false → s.sealing.kwk.isSome = true →
      s.sealing.eraseAlarm = false → p.slot = 0x8000 + ch → p.lane = s.cfgF 0x5E10 1 ch 0 → p.direction = 2 → s.chanMark ch < p.serial →
      0 < s.persist.markFree → s.persist.markOk = true →
      ∃ t, exec (.installChannelKey rq ch w) s = .next t ∧ Answered 2 (writeReq rq 0x5E10 2 ch w) 0 t ∧
        (∀ j, t.chan j = if j = ch then { s.chan ch with key := some ⟨p.serial, p.key⟩, next := 1, last := 0 } else s.chan j) ∧
        t.chanMark ch = p.serial ∧ t.persist = { s.persist with markFree := s.persist.markFree - 1 } ∧
        { t.lessAnswers with sealing.channels := s.sealing.channels, sealing.chanMark := s.sealing.chanMark, persist := s.persist } = s.lessAnswers)

/-- A message on a guarded channel with a key and a lane in service joins the channel's queue under the next sequence number, whether one WRITE or a
DOMAIN_WRITE brings it (11 R302, R303). The next packet of an overhead channel leaves its queue: a bad one is counted in 3050:07, one of a reserved
type is discarded, and a guarded message that opens sets the channel's last sequence number and is counted as accepted, one that does not as
discarded (02 R53; 11 R303). -/
def Obligations.GuardedMessagesAndPackets : Prop :=
  (∀ (s : State) (rq : Rq) (x : Session) (ch : Nat) (m : Bytes) (k : KeyVal), (s.chan ch).key = some k → s.cfgF 0x5E10 1 ch 0 < 48 →
    (s.lane (s.cfgF 0x5E10 1 ch 0)).bring.stage = 9 → (s.chan ch).queue.length < 16 →
    let sent (t : State) : Prop :=
      (∀ j, t.chan j = if j = ch then { s.chan ch with
        next := (s.chan ch).next + 1, queue := (s.chan ch).queue ++ [guardedData ch k.key (s.cfgF 0x5E10 1 ch 1) (s.chan ch).next m] } else s.chan j) ∧
      { t.lessAnswers with sealing.channels := s.sealing.channels } = s.lessAnswers
    (m.length ≤ 1396 → Writes rq 0x5E10 3 ch m x s →
      ∃ t, exec (.sendMessage rq ch m) s = .next t ∧ Answered 2 (writeReq rq 0x5E10 3 ch m) 0 t ∧ sent t) ∧
    (1396 < m.length → TakenUp 5 (sendReq rq ch m) x s → (∃ o, s.writeCheck (writeReq rq 0x5E10 3 ch m) x.role = .ok o) →
      ∃ t, exec (.sendMessage rq ch m) s = .next t ∧ Answered 5 (sendReq rq ch m) 0 t ∧ sent t)) ∧
  (∀ (s : State) (l : LaneId) (p : PtpStamp × Bytes) (ps : List (PtpStamp × Bytes)),
    ((s.lane l).ch.timeRx.ready = p :: ps → packetData 512 p.2 = none →
      ∃ t, exec (.channelPacket l .time) s = .next t ∧ OnlyLane l s t ∧
        t.lane l = { s.lane l with ch := { (s.lane l).ch with timeRx := { (s.lane l).ch.timeRx with ready := ps } } } ∧
        t.ctr 0x3050 7 0 l = (s.ctr 0x3050 7 0 l + 1) % 4294967296) ∧
    (∀ d, (s.lane l).ch.timeRx.ready = p :: ps → packetData 512 p.2 = some d → field d 0 1 ≠ 1 →
      ∃ t, exec (.channelPacket l .time) s = .next t ∧ OnlyLane l s t ∧ t.cnt = s.cnt ∧ t.lane l = { s.lane l with ch :=
        { (s.lane l).ch with timeRx := { (s.lane l).ch.timeRx with ready := ps }, oddTypes := (s.lane l).ch.oddTypes + 1 } }) ∧
    (s.sup.up = true → (s.lane l).ch.dataRx.ready = p :: ps → packetData 1536 p.2 = none →
      ∃ t, exec (.channelPacket l .data) s = .next t ∧ OnlyLane l s t ∧
        t.lane l = { s.lane l with ch := { (s.lane l).ch with dataRx := { (s.lane l).ch.dataRx with ready := ps } } } ∧
        t.ctr 0x3050 7 0 l = (s.ctr 0x3050 7 0 l + 1) % 4294967296) ∧
    (∀ d (ch : Nat) (k : KeyVal), s.sup.up = true → (s.lane l).ch.dataRx.ready = p :: ps → packetData 1536 p.2 = some d → ch < 8 →
      field d 0 1 = 0x10 + ch → s.cfgF 0x5E10 1 ch 0 = l → (s.chan ch).key = some k → 25 ≤ (d.drop 1).length →
      (s.chan ch).last < field (d.drop 1) 0 8 →
      ∃ t, exec (.channelPacket l .data) s = .next t ∧ (t.lane l).ch.dataRx.ready = ps ∧ (∀ j, j ≠ (l : Nat) → t.lane j = s.lane j) ∧
        (match gcmOpen k.key (ivOf (s.cfgF 0x5E10 1 ch 2) (field (d.drop 1) 0 8)) (beBytes 1 (0x10 + ch)) ((d.drop 1).drop 8) with
          | some _ => (∀ j, t.chan j = if j = ch then { s.chan ch with last := field (d.drop 1) 0 8 } else s.chan j) ∧
              t.ctr 0x5E10 4 5 ch = (s.ctr 0x5E10 4 5 ch + 1) % 4294967296 ∧ (s.hopKind (s.cfgF 0x5E10 1 ch 3) ≠ 7 → t.store = s.store)
          | none => (∀ j, t.chan j = s.chan j) ∧ t.ctr 0x5E10 4 6 ch = (s.ctr 0x5E10 4 6 ch + 1) % 4294967296 ∧ t.store = s.store)))

/-- A stream's configuration is stored when its handle and its slot's salt are its own, its slot is bound to its lane and direction, and no page's
circuit uses the stream (11 R278, R279). -/
def Obligations.StreamsAreConfigured : Prop :=  ∀ (s : State) (rq : Rq) (x : Session) (k c g l h n z : Nat), k < 65536 → c < 4294967296 → g < 15 → l < 48 → h < 16384 → n < 16384 → z < 4294967296 →
    (Writes rq 0x5C20 1 k (joinFields [1, 4, 1, 1, 2, 2, 4] [1, c, g, l, h, n, z]) x s → s.boundTo n l 0 = true → s.txUser k = none →
      (∀ i ∈ s.txStreams, i ≠ k → (s.txF i 3 ≠ l ∨ s.txF i 4 ≠ h) ∧ (s.txF i 5 ≠ n ∨ s.txF i 6 ≠ z)) →
      ∃ t, exec (.transmitStreamWrite rq k (joinFields [1, 4, 1, 1, 2, 2, 4] [1, c, g, l, h, n, z])) s = .next t ∧
        Answered 2 (writeReq rq 0x5C20 1 k (joinFields [1, 4, 1, 1, 2, 2, 4] [1, c, g, l, h, n, z])) 0 t ∧
        t.val 0x5C20 1 k = [1, c, g, l, h, n, z] ∧ SetsOnly 0x5C20 1 k s t ∧
        { t.lessAnswers.lessSettings with sealing.tx := s.sealing.tx, restarted := s.restarted } = s.lessAnswers.lessSettings) ∧
    (Writes rq 0x5C30 1 k (joinFields [1, 4, 1, 2, 2, 4, 1] [1, c, l, h, n, z, 0]) x s → s.boundTo n l 1 = true → s.rxUser k = none →
      (∀ i ∈ s.rxStreams, i ≠ k → (s.rxF i 2 ≠ l ∨ s.rxF i 3 ≠ h) ∧ (s.rxF i 4 ≠ n ∨ s.rxF i 5 ≠ z)) →
      ∃ t, exec (.receiveStreamWrite rq k (joinFields [1, 4, 1, 2, 2, 4, 1] [1, c, l, h, n, z, 0])) s = .next t ∧
        Answered 2 (writeReq rq 0x5C30 1 k (joinFields [1, 4, 1, 2, 2, 4, 1] [1, c, l, h, n, z, 0])) 0 t ∧
        t.val 0x5C30 1 k = [1, c, l, h, n, z, 0] ∧ SetsOnly 0x5C30 1 k s t ∧
        { t.lessAnswers.lessSettings with sealing.rx := s.sealing.rx, restarted := s.restarted, pm.stream := s.pm.stream } =
          s.lessAnswers.lessSettings)

/-- Every trigger of an erasure takes every key, the KWK, every session and every handshake away, under its own cause: the command, a tamper input,
the temperature, a voltage, a glitch (11 R299; 15 R406, R407). -/
def Obligations.ErasureTakesEveryKey : Prop :=  ∀ (s : State),
    (∀ rq arg x, Writes rq 0x5C40 1 0 [arg] x s →
      ∃ t, exec (.eraseAllKeys rq arg) s = .next t ∧ NoKeys t ∧ t.sealing.eraseCause = 0 ∧
        t.ctr 0x5C40 2 3 0 = (s.ctr 0x5C40 2 3 0 + 1) % 4294967296 ∧ SealRowsOnly s t ∧ t.fab = s.fab ∧ t.persist = s.persist ∧ t.lease = s.lease) ∧
    (s.power.supRail = true → s.sec.loopOpen = false →
      ∃ t, exec (.tamperDetected .loop) s = .next t ∧ NoKeys t ∧ t.sealing.eraseCause = 1 ∧ t.sec.latched = true ∧ t.sec.loopOpen = true ∧
        t.ctr 0x9020 5 2 0 = (s.ctr 0x9020 5 2 0 + 1) % 4294967296 ∧ SealRowsOnly s t ∧ t.fab = s.fab ∧ t.persist = s.persist) ∧
    (s.power.supRail = true → s.sec.pinLow = false → s.cfg 0x9020 1 0 = 1 →
      ∃ t, exec (.tamperDetected .pin) s = .next t ∧ NoKeys t ∧ t.sealing.eraseCause = 1 ∧ t.sec.latched = true ∧ t.sec.pinLow = true ∧
        SealRowsOnly s t ∧ t.fab = s.fab ∧ t.persist = s.persist) ∧
    (s.sec.pinLow = false → s.cfg 0x9020 1 0 ≠ 1 →
      ∃ t, exec (.tamperDetected .pin) s = .next t ∧ t = { s.quiet with sec.pinLow := true }) ∧
    (∀ x, s.power.supRail = true → s.sec.hot = false → 11000 < moduleTemp x ∧ moduleTemp x ≤ 11500 ∨ moduleTemp x < -4500 →
      ∃ t, exec (.temperatureSample x) s = .next t ∧ NoKeys t ∧ t.sealing.eraseCause = 2 ∧ t.sec.hot = true ∧ t.power.temps = x ∧
        SealRowsOnly s t ∧ t.fab = s.fab ∧ t.persist = s.persist) ∧
    (∀ r, s.power.supRail = true → s.sec.volt.contains r = false → s.railFed r = true →
      ∃ t, exec (.voltageExcursion r) s = .next t ∧ NoKeys t ∧ t.sealing.eraseCause = 3 ∧ t.sec.volt = s.sec.volt ++ [r] ∧
        SealRowsOnly s t ∧ t.fab = s.fab ∧ t.persist = s.persist) ∧
    (∀ k, s.monitored k = true →
      ∃ t, exec (.glitchDetected k) s = .next t ∧ NoKeys t ∧ t.sealing.eraseCause = 4 ∧
        t.ctr 0x9020 5 4 0 = (s.ctr 0x9020 5 4 0 + 1) % 4294967296 ∧ SealRowsOnly s t ∧ t.fab = s.fab ∧ t.persist = s.persist)

/-- The end of a tamper or voltage condition, a sample of an ordinary temperature and the decay of the failed-authentication count write their own
state alone; the latched tamper is cleared by command once no input is active (15 R406 to R408; 17 R448). -/
def Obligations.EnvironmentFollowsItsInputs : Prop :=  ∀ (s : State),
    (∃ t, exec (.tamperConditionEnded .loop) s = .next t ∧ t = { s.quiet with sec.loopOpen := false }) ∧
    (∃ t, exec (.tamperConditionEnded .pin) s = .next t ∧ t = { s.quiet with sec.pinLow := false }) ∧
    (∀ r, ∃ t, exec (.voltageConditionEnded r) s = .next t ∧ t = { s.quiet with sec.volt := s.sec.volt.filter fun x => x != r }) ∧
    (∀ x, -4500 ≤ moduleTemp x → moduleTemp x ≤ 11000 →
      ∃ t, exec (.temperatureSample x) s = .next t ∧ t.power.temps = x ∧ t.sec.hot = false ∧
        t.power.thermal = (s.power.thermal && decide (10000 ≤ moduleTemp x)) ∧
        { t with power.temps := s.power.temps, power.thermal := s.power.thermal, sec.hot := s.sec.hot, store.conds := s.store.conds } = s.quiet) ∧
    (s.sec.authCount ≠ 0 → s.over s.sec.authAt (secs 600) = true →
      ∃ t, exec .authCountDecay s = .next t ∧ t = { s.quiet with sec.authCount := s.sec.authCount - 1, sec.authAt := s.now }) ∧
    (∀ rq arg x, Writes rq 0x9020 4 0 [arg] x s → s.sec.loopOpen = false → s.pinTampers = false →
      ∃ t, exec (.clearTamper rq arg) s = .next t ∧ Answered 2 (writeReq rq 0x9020 4 0 [arg]) 0 t ∧
        { t.lessAnswers with sec.latched := s.sec.latched } = s.lessAnswers ∧ t.sec.latched = false)

/-- A certificate is enrolled by a session or, while no installer is enrolled, by a commissioning frame, with a serial above the mark that its own
becomes; a revoked one leaves the table and its sessions close (15 R390 to R393). Barring the maker closes the makers' sessions outside recovery; the audit buffer
goes to the journal, oldest records last, or its failed write is counted; the read mark rises and never falls (15 R389, R396, R397). -/
def Obligations.CertificatesMakersAndTheJournal : Prop :=
  (∀ (s : State),
    (∀ rq b x, Writes rq 0x9010 1 0 b x s → recordOk b = true → (x.role = 3 ∨ field b 8 1 ≠ 3) → s.sec.mark < field b 0 8 →
      s.sec.certs.length < 128 → s.persist.enrolOk = true →
      ∃ t, exec (.enrolCertificate rq b) s = .next t ∧ Answered 2 (writeReq rq 0x9010 1 0 b) 0 t ∧
        t.sec.certs = s.sec.certs ++ [certOf b s.stamp] ∧ t.sec.mark = field b 0 8 ∧
        { t.lessAnswers with sec.certs := s.sec.certs, sec.mark := s.sec.mark } = s.lessAnswers) ∧
    (∀ b, s.sup.up = true → s.certsOf 2 = 0 → b.length = 438 → field b 0 2 = 0x434D → field b 2 2 = 432 → field b 436 2 = crc16 (b.take 436) →
      recordOk ((b.drop 4).take 432) = true → field ((b.drop 4).take 432) 8 1 = 2 → s.sec.mark < field ((b.drop 4).take 432) 0 8 →
      s.sec.certs.length < 128 → s.persist.enrolOk = true → s.sec.buffer.length < 256 →
      ∃ t, exec (.commissioningFrame b) s = .next t ∧ t.out = [.uart 0] ∧
        t.sec.certs = s.sec.certs ++ [certOf ((b.drop 4).take 432) s.stamp] ∧ t.sec.mark = field ((b.drop 4).take 432) 0 8 ∧
        t.mgmt = s.mgmt ∧ t.lanes = s.lanes ∧ t.persist = s.persist) ∧
    (∀ rq n x c, n < 18446744073709551616 → Writes rq 0x9010 2 0 (beBytes 8 n) x s → s.sec.certs.find? (fun c => c.serial == n) = some c →
      (c.role = 3 → x.role = 3) → (c.role = 2 → s.certsOf 2 ≠ 1) →
      ∃ t, exec (.revokeCertificate rq n) s = .next t ∧ Answered 2 (writeReq rq 0x9010 2 0 (beBytes 8 n)) 0 t ∧
        t.sec.certs = (s.sec.certs.filter fun d => d.serial != c.serial) ∧ (∀ e ∈ t.mgmt.sessions, e.2.cert ≠ c.serial) ∧
        t.sec.mark = s.sec.mark ∧ t.lanes = s.lanes ∧ t.persist = s.persist)) ∧
  (∀ (s : State),
    (∀ rq v x, Writes rq 0x9000 1 0 [v] x s →
      ∃ t, exec (.makerAccessWrite rq v) s = .next t ∧ Answered 2 (writeReq rq 0x9000 1 0 [v]) 0 t ∧ t.cfg 0x9000 1 0 = v.toNat ∧
        SetsOnly 0x9000 1 0 s t ∧ (v = 0 → s.sup.state ≠ 3 → ∀ e ∈ t.mgmt.sessions, e.2.role ≠ 3) ∧
        (v ≠ 0 → t.lessAnswers.lessSettings = s.lessAnswers.lessSettings)) ∧
    (s.sec.buffer ≠ [] → s.power.supRail = true →
      ∃ t, exec (.auditFlush true) s = .next t ∧ t.sec.buffer = [] ∧ t.sec.audit = (s.sec.buffer ++ s.sec.audit).take 16384 ∧
        { t.lessAnswers.sec with flushBad := s.sec.flushBad } = s.lessAnswers.sec ∧ t.sec.flushBad = false ∧
        { t with sec := s.sec, cnt := s.cnt, store.conds := s.store.conds } = s.quiet) ∧
    (s.sec.buffer ≠ [] → s.power.supRail = true →
      ∃ t, exec (.auditFlush false) s = .next t ∧ { t with cnt := s.cnt, sec.flushBad := s.sec.flushBad } = s.quiet ∧ t.sec.flushBad = true ∧
        t.ctr 0x9030 1 5 0 = (s.ctr 0x9030 1 5 0 + 1) % 4294967296) ∧
    (∀ rq n x, n < 18446744073709551616 → Writes rq 0x9030 3 0 (beBytes 8 n) x s →
      ∃ t, exec (.markRead rq n) s = .next t ∧ Answered 2 (writeReq rq 0x9030 3 0 (beBytes 8 n)) 0 t ∧
        t.sec.readTo = max s.sec.readTo (min n (s.sec.nextSeq - 1)) ∧
        { t.lessAnswers with sec.readTo := s.sec.readTo } = s.lessAnswers))

/-- A trial marks its image pending and restarts the supervisor; a confirmed image becomes the preferred one, in the header's other copy, and raises the floor; recovery stops
the firmware; a nonce starts a report, which is ready once it is built and signed (15 R402, R403, R405). -/
def Obligations.ImagesTrialsAndReports : Prop :=  ∀ (s : State),
    (∀ rq n x, n < 2 → Writes rq 0x1030 2 0 (u8 n) x s → s.imageValid n = true → s.power.supRail = true → s.power.seated = true →
      s.power.portRail = true →
      ∃ t, exec (.startTrial rq n) s = .next t ∧ Answered 2 (writeReq rq 0x1030 2 0 (u8 n)) 0 t ∧ t.sup.up = false ∧ t.sup.lastCause = 4 ∧
        t.mgmt.sessions = [] ∧ t.lanes = s.lanes ∧ t.lease = s.lease ∧ t.fab.active = s.fab.active ∧ t.persist.dict = s.persist.dict) ∧
    (∀ rq arg x, Writes rq 0x1030 3 0 [arg] x s → s.sec.running < 2 → s.sec.header.pend s.sec.running = true →
      ∃ t, exec (.confirmImage rq arg) s = .next t ∧ Answered 2 (writeReq rq 0x1030 3 0 [arg]) 0 t ∧
        t.sec.header.preferred = s.sec.running ∧ t.sec.header.pend s.sec.running = false ∧
        t.sec.floor = max s.sec.floor (s.slot s.sec.running).secVersion ∧
        (if s.sec.header.copy = 0 then t.sec.hdr1 = t.sec.header.bytes ∧ t.sec.hdr0 = s.sec.hdr0
          else t.sec.hdr0 = t.sec.header.bytes ∧ t.sec.hdr1 = s.sec.hdr1) ∧
        { t.lessAnswers with sec.header := s.sec.header, sec.hdr0 := s.sec.hdr0, sec.hdr1 := s.sec.hdr1, sec.floor := s.sec.floor, persist.erases := s.persist.erases, persist.badArea := s.persist.badArea } = s.lessAnswers) ∧
    (∀ rq arg x, Writes rq 0x1030 4 0 [arg] x s → s.power.supRail = true → s.power.seated = true →
      ∃ t, exec (.enterRecovery rq arg) s = .next t ∧ Answered 2 (writeReq rq 0x1030 4 0 [arg]) 0 t ∧ t.sup.state = 3 ∧ t.sup.up = false ∧
        t.sec.running = 255 ∧ t.mgmt.sessions = [] ∧ t.lanes = s.lanes ∧ t.lease = s.lease ∧ t.fab.active = s.fab.active) ∧
    (∀ rq b x, Writes rq 0x9040 1 0 b x s →
      ∃ t, exec (.attestationNonce rq b) s = .next t ∧ Answered 2 (writeReq rq 0x9040 1 0 b) 0 t ∧
        (∀ j, tget {} t.sec.reports j = if j = rq.session then { nonce := b, since := s.now } else tget {} s.sec.reports j) ∧
        { t.lessAnswers with sec.reports := s.sec.reports } = s.lessAnswers) ∧
    (∀ id, s.serves = true → (s.session? id).isSome = true → (tget {} s.sec.reports id).nonce ≠ [] → (tget {} s.sec.reports id).report = none →
      ∃ t, exec (.attestationReportReady id) s = .next t ∧
        (tget {} t.sec.reports id).report = some (s.reportBytes (tget {} s.sec.reports id).nonce ++
          padTo 384 (Config.identitySignature (s.reportBytes (tget {} s.sec.reports id).nonce))) ∧
        { t with sec.reports := s.sec.reports } = s.quiet)

/-- At an internal boundary the next frame begins with the next number, every lane that sends Zasyn starts its frame under it, 2.3 microseconds after the
boundary itself, FP8K pulses, and with nothing armed the pages stay; a realignment at its instant numbers the frames from TAI, cancels every pending key and is counted (02 R41; 04 R104;
05 R128; 09 R253, R254; 11 R297). -/
def Obligations.BoundariesBeginFrames : Prop :=  ∀ (s : State), s.portUp = true →
    let sends (t : State) : Prop := .fp8k ∈ t.out ∧
      ∀ l : LaneId, t.enabled l = true → (t.lane l).bring.txMode = .zasyn → (t.lane l).tx.txRun = true ∧
        (t.tim.aligned = true → (t.lane l).tx.txMfi = t.fab.mfi ∧ (t.lane l).tx.txSfi = t.fab.sfi)
    (∀ o, ∃ t, exec (.internalFrameBoundary o) s = .next t ∧ t.fab.frameNo = s.fab.frameNo + 1 ∧
      (t.fab.mfi, t.fab.sfi) = nextMulti (s.fab.mfi, s.fab.sfi) ∧ t.fab.boundaryAt = s.tod.counter - 2300 * 65536 ∧ t.tod.counter = s.tod.counter ∧ sends t ∧
      t.fab.hist.length ≤ 3 ∧ (s.edit.armed = none → t.fab.active = s.fab.active ∧ t.fab.shadow = s.fab.shadow ∧ t.edit.armed = none) ∧
      (s.lease.holder = none → t.lease.holder = none)) ∧
    (∀ at_ phases, s.tim.realignAt = some at_ → at_ * tcSecond ≤ s.tod.counter →
      ∃ t, exec (.realignment phases) s = .next t ∧ t.fab.frameNo = s.fab.frameNo + 1 ∧ t.fab.superframe = at_ / 2 ∧ t.fab.mfi = 0 ∧ t.fab.boundaryAt = s.tod.counter - 2300 * 65536 ∧
        t.fab.sfi = 0 ∧ t.tim.realignAt = none ∧ t.tim.aligned = true ∧ (∀ k, (t.keySlot k).pend = none) ∧ sends t ∧
        t.ctr 0x5460 4 4 0 = (s.ctr 0x5460 4 4 0 + 1) % 4294967296 ∧ t.tod.counter = s.tod.counter ∧
        (s.edit.armed = none → t.fab.active = s.fab.active ∧ t.fab.shadow = s.fab.shadow))

/-- A second boundary latches the raw data of each enabled lane and begins the next second; a cog that runs gives a latched second its class (12 R307,
R308, Tables 12-1 and 12-2). -/
def Obligations.SecondsAreLatchedAndClassified : Prop :=  ∀ (s : State), s.sup.up = true →
    (s.portUp = true → s.second ≠ s.tod.secondNo →
      ∃ t, exec .secondBoundary s = .next t ∧ t.tod.secondNo = s.second ∧
        { t with pm := s.pm, tod.secondNo := s.tod.secondNo } = s.quiet ∧
        ∀ l : LaneId, s.enabled l = true → (s.mon (.near l)).latched = none →
          t.mon (.near l) = { s.mon (.near l) with
            raw := { defect := s.laneFailed l }, latched := some { (s.mon (.near l)).raw with unlocked := !s.tod.ever }
            latchedAt := s.tod.secondNo, latchedEnd := s.now }) ∧
    (∀ (e : Entity) (r : Raw), (s.mon e).latched = some r → s.cogRuns e = true →
      ∃ t c, exec (.secondClassify e) s = .next t ∧ { t with pm := s.pm } = s.quiet ∧ (∀ d, d ≠ e → t.mon d = s.mon d) ∧
        t.mon e = { s.mon e with latched := none, queue := (s.mon e).queue ++
          [{ start := (s.mon e).latchedAt, ended := (s.mon e).latchedEnd, cls := c, restart := false, defect := r.defect,
             bbe := if c = 3 ∨ c = 0 then 0 else r.errored, bits := r.bits, unlocked := r.unlocked }] } ∧
        (r.off = true ∨ s.nearDefect e = true → c = 0) ∧
        (r.off = false → s.nearDefect e = false →
          (∀ l, e = .near l → c = if r.defect ∨ 2400 ≤ r.errored then 3 else if 1 ≤ r.errored ∨ r.slip then 2 else 1) ∧
          (∀ l, e = .far l → c = if r.defect ∨ 2400 ≤ r.errored then 3 else if 1 ≤ r.errored then 2 else 1) ∧
          (∀ k, e = .stream k → c = if r.defect ∨ 19 ≤ r.errored then 3 else if 1 ≤ r.errored then 2 else 1))) ∧
    (∀ e : Entity, ((s.mon e).latched = none ∨ s.cogRuns e = false) → ∃ t, exec (.secondClassify e) s = .next t ∧ t = s.quiet)

/-- Each cog commits the oldest second of each of its entities 10 s after its boundary: ten seconds of a run turn the availability with the first of them,
and the second joins the bin of its quarter of an hour. The collector drains the closed bins wheel by wheel, in token order (12 R309 to R311, R313, R315,
R317). -/
def Obligations.SecondsAreCommittedAndBinsDrained : Prop :=  ∀ (s : State), s.sup.up = true →
    (s.entities.Nodup → s.cfg 0x6000 2 0 = s.pm.offset →
      ∃ t, exec .secondCommit s = .next t ∧ t.lanes = s.lanes ∧ t.fab = s.fab ∧ t.persist = s.persist ∧ t.lease = s.lease ∧
        (∀ e ∈ s.entities, (s.cogRuns e = false ∨ (s.mon e).queue = [] ∨ ∃ q qs, (s.mon e).queue = q :: qs ∧ s.over q.ended 10000000000 = false) →
          t.mon e = s.mon e) ∧
        (∀ e ∈ s.entities, ∀ q qs, s.cogRuns e = true → (s.mon e).queue = q :: qs → s.over q.ended 10000000000 = true →
          let m := s.mon e
          let n := t.mon e
          let flips := turns m.unavail q.cls && decide (10 ≤ m.run + leadRun m.unavail (q :: qs))
          n.queue = qs ∧ n.unavail = (if flips then !m.unavail else m.unavail) ∧ n.lastCls = (if q.cls ≠ 0 ∧ n.unavail = true then 4 else q.cls) ∧
          n.q15.used = true ∧ n.q15.start = spanStart 900 0 q.start ∧ n.q24.start = spanStart 86400 s.pm.offset q.start ∧
          let b := openBin m.q15 (spanStart 900 0 q.start)
          n.q15.elapsed = (if q.cls = 0 then b.elapsed else satAdd b.elapsed 1) ∧
          n.q15.uas = (if q.cls ≠ 0 ∧ n.unavail = true then satAdd b.uas 1 else b.uas) ∧
          n.q15.ses = (if q.cls ≠ 0 ∧ n.unavail = false then satAdd b.ses (if q.cls = 3 then 1 else 0) else b.ses))) ∧
    (∀ w : WheelId, s.pm.draining = true → s.pm.wheels.length = (w : Nat) →
      ∃ t, exec (.wheelDrain w) s = .next t ∧ t.pm.wheels = s.pm.wheels ++ [w] ∧
        (∀ e ∈ s.entities, entWheel e = (w : Nat) → (t.mon e).closed15 = [] ∧ (t.mon e).closed24 = [] ∧
          (t.mon e).hist15 = ((s.mon e).closed15.reverse ++ (s.mon e).hist15).take (histDepth e)) ∧
        (∀ e, entWheel e ≠ (w : Nat) → t.mon e = s.mon e) ∧
        ((w : Nat) < 15 → t.pm.draining = true) ∧
        ((w : Nat) = 15 → t.pm.draining = false ∧ t.ctr 0x6040 1 5 0 = (s.ctr 0x6040 1 5 0 + 1) % 4294967296) ∧
        t.lanes = s.lanes ∧ t.fab = s.fab ∧ t.persist = s.persist) ∧
    (∀ w : WheelId, s.pm.draining = false ∨ s.pm.wheels.length ≠ (w : Nat) → ∃ t, exec (.wheelDrain w) s = .next t ∧ t = s.quiet)

/-- While the supervisor restarts, classification and commits stop; the second boundary still begins new raw data, and the seconds that pass go on
as never classified (12 R319). -/
def Obligations.RestartsStopClassification : Prop :=  ∀ (s : State), s.sup.up = false →
    (∀ e, ∃ t, exec (.secondClassify e) s = .next t ∧ t = s.quiet) ∧
    (∃ t, exec .secondCommit s = .next t ∧ t = s.quiet) ∧
    (s.portUp = true → s.second ≠ s.tod.secondNo →
      ∃ t, exec .secondBoundary s = .next t ∧ t.tod.secondNo = s.second ∧
        (∀ l : LaneId, (t.mon (.near l)).raw = { defect := s.laneFailed l } ∧
          (t.mon (.far l)).raw = { defect := s.enabled l && (s.lane l).d.rdi }) ∧
        ∀ e, (t.mon e).latched = none ∧ ∃ qs, (t.mon e).queue = (s.mon e).queue ++ qs ∧
          (∀ q ∈ qs, q.cls = 0 ∧ q.restart = true) ∧ (∀ l, e = .near l → s.enabled l = true → qs ≠ []))

/-- A write of 6F00:01 clears the counters and carries of a group and its Restarted bit, or the current bins of a lane, and nothing else (12 R320,
R323); aimed at the counters of an engine whose core is off it is answered STATE, and the access counts as an error at both ends (01 R22; 13 R333; log
entry 162, the model's choice). -/
def Obligations.CountersAreCleared : Prop :=  ∀ (s : State) (rq : Rq) (x : Session) (index el : Nat), index < 65536 → el < 4294967296 →
    Writes rq 0x6F00 1 0 (beBytes 2 index ++ beBytes 4 el) x s → s.reachable index = true →
    (index ≠ 0x3840 → ¬ index ∈ [0x6010, 0x6011, 0x6020, 0x6021] →
      (∃ o ∈ objsOfIndex index, o.ctrs ≠ [] ∧ s.elemOf o el = none) → s.coldTarget index el = none →
      ∃ t, exec (.clearCounters rq index el) s = .next t ∧ Answered 2 (writeReq rq 0x6F00 1 0 (beBytes 2 index ++ beBytes 4 el)) 0 t ∧
        (∀ g ∈ groupOf index, t.ctr index g.1 g.2 el = 0) ∧ t.groupStatus index el = 0 ∧
        (∀ i b f e, (∀ g ∈ groupOf index, ctrKey i b f e ≠ ctrKey index g.1 g.2 el) → t.ctr i b f e = s.ctr i b f e) ∧
        { t.lessAnswers with restarted := s.restarted } = s.lessAnswers) ∧
    (∀ e : EngId, index = 0x4820 → el = e → (s.engine e).state.coreOn = false →
      ∃ t, exec (.clearCounters rq index el) s = .next t ∧ Answered 2 (writeReq rq 0x6F00 1 0 (beBytes 2 index ++ beBytes 4 el)) 2 t ∧
        t.ctr 0x8200 2 4 0 = (s.ctr 0x8200 2 4 0 + 1) % 4294967296 ∧ t.ctr 0x8200 3 3 (8 + e) = (s.ctr 0x8200 3 3 (8 + e) + 1) % 4294967296 ∧
        (∀ g ∈ groupOf index, t.ctr index g.1 g.2 el = s.ctr index g.1 g.2 el) ∧ t.lessAnswers = s.lessAnswers) ∧
    (index = 0x6010 → ∀ l : LaneId, el = l →
      ∃ t, exec (.clearCounters rq index el) s = .next t ∧ Answered 2 (writeReq rq 0x6F00 1 0 (beBytes 2 index ++ beBytes 4 el)) 0 t ∧
        t.mon (.near l) = { s.mon (.near l) with q15 := (s.mon (.near l)).q15.clear, q24 := (s.mon (.near l)).q24.clear } ∧
        (∀ k : LaneId, k ≠ l → t.mon (.near k) = s.mon (.near k)) ∧
        { t.lessAnswers with pm.near := s.pm.near, pm.far := s.pm.far, restarted := s.restarted } = s.lessAnswers)

/-- A supervisor restart, whatever its cause (of a trial image, the head-core watchdog 60 s after its hand-off at the earliest), closes every session and handshake and stops the requests; the active page, the lease, the lanes, the
keys and the seal counters go on (01 R16; 15 R402). A restart that ends brings the requests back in normal service; a fault of the port die stops the
traffic, takes the data keys and leaves the supervisor with the pages and the KWK (01 R16 to R18). -/
def Obligations.RestartsKeepTheTrafficAndEnd : Prop :=
  (∀ (s : State), s.power.supRail = true → s.power.seated = true →
    let down (cause : Nat) (t : State) : Prop :=
      t.sup.up = false ∧ t.sup.lastCause = cause ∧ t.mgmt.sessions = [] ∧ t.mgmt.handshakes = [] ∧ t.mgmt.flight = [] ∧
      t.fab.active = s.fab.active ∧ t.lease = s.lease ∧ t.lanes = s.lanes ∧ t.sealing = s.sealing ∧ t.tim = s.tim ∧ t.tod = s.tod ∧
      t.persist.dict = s.persist.dict ∧ t.ctr 0x8000 1 3 0 = (s.ctr 0x8000 1 3 0 + 1) % 4294967296
    (∀ c, ∃ t, exec (.supervisorRestart c) s = .next t ∧ down (restartCode c) t) ∧
    (∀ rq arg x, Writes rq 0x8000 2 0 [arg] x s →
      ∃ t, exec (.restartSupervisor rq arg) s = .next t ∧ Answered 2 (writeReq rq 0x8000 2 0 [arg]) 0 t ∧ down 4 t) ∧
    (∃ t, exec .lockstepMismatch s = .next t ∧ down 1 t ∧ t.ctr 0x8000 3 2 0 = (s.ctr 0x8000 3 2 0 + 1) % 4294967296) ∧
    (s.watchdogDue = true → ∃ t, exec .headWatchdog s = .next t ∧ down 2 t) ∧
    (s.watchdogDue = false → ∃ t, exec .headWatchdog s = .next t ∧ t = s.quiet) ∧
    (∀ b, ∃ t, exec (.scratchpadEccUncorrectable b .firmware) s = .next t ∧ down 5 t ∧
      t.ctr 0x8120 3 0 b = (s.ctr 0x8120 3 0 b + 1) % 4294967296) ∧
    (∀ b, ∃ t, exec (.scratchpadEccUncorrectable b .other) s = .next t ∧ { t with cnt := s.cnt } = s.quiet ∧
      t.ctr 0x8120 3 0 b = (s.ctr 0x8120 3 0 b + 1) % 4294967296)) ∧
  (∀ (s : State),
    (s.sup.restarting = true →
      ∃ t, exec .supervisorRestartComplete s = .next t ∧ t.sup.up = true ∧ t.sup.restarting = false ∧ t.sup.state = 1 ∧ t.sup.parked = [] ∧
        t.fab.active = s.fab.active ∧ t.lease = s.lease ∧ t.lanes = s.lanes ∧ t.sealing = s.sealing ∧
        (s.edit.armed = none → t.fab.shadow = s.fab.active) ∧ (s.edit.armed.isSome = true → t.fab.shadow = s.fab.shadow)) ∧
    (s.power.portRail = true →
      ∃ t, exec .portDieFault s = .next t ∧ t.portUp = false ∧ t.power.portFault = true ∧ t.lanes = [] ∧ t.fab.active = s.fab.active ∧
        t.fab.shadow = s.fab.shadow ∧ (∀ k, (t.keySlot k).cur = none ∧ (t.keySlot k).pend = none) ∧ t.sealing.kwk = s.sealing.kwk ∧
        t.sup.up = s.sup.up ∧ t.sec.certs = s.sec.certs))

/-- A fault resets its cog alone, and the cog runs again when it has been reloaded, with the circuit commands that it missed; the third fault within 1 h restarts the supervisor (13 R328).
The map audit, the bus matrix and the bandwidth counters record what they see: a pass, a timeout at both its ends, and at a bank of the scratchpad that it
starved (log entry 177, the model's choice), an access that Table 13-2 refuses as an error response alone, a master's reset, a window's counts (13 R329,
R330, R333 to R335, R337, R344). -/
def Obligations.CogsMatrixAndAudit : Prop :=
  (∀ (s : State) (c : CogId), s.sup.up = true →
    ((s.cog c).state = 0 → ((s.cog c).faults.filter fun b => !s.over b 3600000000000).length < 2 →
      (∃ t, exec (.cogWatchdogExpiry c) s = .next t ∧ (t.cog c).state = 1 ∧ (t.cog c).lastFault = 1 ∧ (∀ k, k ≠ (c : Nat) → t.cog k = s.cog k) ∧
        t.ctr 0x8010 2 0 c = (s.ctr 0x8010 2 0 c + 1) % 4294967296 ∧
        { t with cnt := s.cnt, sup.cogs := s.sup.cogs, prot.pairs := s.prot.pairs } = s.quiet) ∧
      (∀ k, ∃ t, exec (.cogFault c k) s = .next t ∧ (t.cog c).state = 1 ∧ (t.cog c).lastFault = cogCode k ∧
        (∀ j, j ≠ (c : Nat) → t.cog j = s.cog j) ∧ t.ctr 0x8010 2 0 c = (s.ctr 0x8010 2 0 c + 1) % 4294967296 ∧
        (k = .refusedAccess → t.ctr 0x8200 2 4 (7 + (c : Nat) / 16) = (s.ctr 0x8200 2 4 (7 + (c : Nat) / 16) + 1) % 4294967296) ∧
        { t with cnt := s.cnt, sup.cogs := s.sup.cogs, prot.pairs := s.prot.pairs } = s.quiet)) ∧
    ((s.cog c).state = 0 → 2 ≤ ((s.cog c).faults.filter fun b => !s.over b 3600000000000).length → (s.cog c).second = false →
      s.power.supRail = true → s.power.seated = true →
      ∃ t, exec (.cogWatchdogExpiry c) s = .next t ∧ t.sup.up = false ∧ t.sup.lastCause = 3 ∧ t.lanes = s.lanes ∧ t.lease = s.lease) ∧
    ((s.cog c).state = 1 →
      ∃ t, exec (.cogReloaded c) s = .next t ∧ (∀ k, t.cog k = if k = c then { s.cog c with state := 0 } else s.cog k) ∧
        (∀ p ∈ s.protRunsOf, (∀ q ∈ s.protRunsOf, q.2.selIdx = p.2.selIdx → q.1.handle = p.1.handle) →
          t.selOf p.2 = if policyCog p.1.handle = c
            then { s.selOf p.2 with cmd := tget 0 s.prot.cmdTbl p.1.handle, rev := s.revCopy p } else s.selOf p.2) ∧
        { t with sup.cogs := s.sup.cogs, pm := s.pm, fab.sel := s.fab.sel } = s.quiet)) ∧
  (∀ (s : State),
    (∀ bad ms, s.sup.up = true → s.lease.admitted = true → s.fab.copyBusy = false → s.cogServes 239 = true →
      ∃ t, exec (.mapAuditPass bad ms) s = .next t ∧ t.sup.auditMs = ms ∧ t.ctr 0x8030 2 1 0 = (s.ctr 0x8030 2 1 0 + 1) % 4294967296 ∧
        t.ctr 0x8030 1 0 0 = (s.ctr 0x8030 1 0 0 + bad.length) % 4294967296 ∧ t.sup.auditBad = !bad.isEmpty ∧ t.fab = s.fab ∧ t.lanes = s.lanes) ∧
    (∀ (m : MasterId) (g : TargetId), s.power.supRail = true → s.mayReach m g = true →
      ∃ t, exec (.matrixTimeout m g) s = .next t ∧ t.ctr 0x8200 3 2 g = (s.ctr 0x8200 3 2 g + 1) % 4294967296 ∧
        t.ctr 0x8200 3 3 g = (s.ctr 0x8200 3 3 g + 1) % 4294967296 ∧ t.ctr 0x8200 2 4 m = (s.ctr 0x8200 2 4 m + 1) % 4294967296 ∧
        (s.sup.state ≠ 1 → t.parkedOn g = m) ∧
        (dmaClass m = false ∨ 8 ≤ (g : Nat) → t.sup.banks = s.sup.banks ∧ t.fresh = s.fresh) ∧
        (dmaClass m = true → (g : Nat) < 8 → ∃ b, 8 * (g : Nat) ≤ b ∧ b < 8 * (g : Nat) + 8 ∧
          t.ctr 0x8120 1 0 b = (s.ctr 0x8120 1 0 b + 4000) % 4294967296 ∧ 10000 ≤ (t.bank b).wait) ∧
        { t with cnt := s.cnt, sup.parked := s.sup.parked, sup.banks := s.sup.banks, fresh := s.fresh } = s.quiet) ∧
    (∀ (m : MasterId) (g : TargetId), s.power.supRail = true → s.mayReach m g = false →
      ∃ t, exec (.matrixTimeout m g) s = .next t ∧ t.ctr 0x8200 3 2 g = s.ctr 0x8200 3 2 g ∧
        t.ctr 0x8200 3 3 g = (s.ctr 0x8200 3 3 g + 1) % 4294967296 ∧ t.ctr 0x8200 2 4 m = (s.ctr 0x8200 2 4 m + 1) % 4294967296 ∧
        { t with cnt := s.cnt } = s.quiet) ∧
    (∀ (m : MasterId) o, (m : Nat) ≠ 0 → s.power.supRail = true →
      ∃ t, exec (.masterReset m o) s = .next t ∧ t.ctr 0x8200 2 3 m = (s.ctr 0x8200 2 3 m + 1) % 4294967296 ∧
        t.sup.lastReset = [(m : Nat), o.target, o.beatsWritten, o.beatsLeft, o.responsesOwed, s.stamp] ∧
        (s.sup.state ≠ 1 → ∀ g, g < 16 → s.parkedOn g = m → t.parkedOn g = 255) ∧ t.fab = s.fab ∧ t.lanes = s.lanes ∧ t.persist = s.persist) ∧
    (∀ cs, s.sup.up = true → s.over s.sup.windowAt (s.cfg 0x8300 1 0 * 1000000) = true →
      ∃ t, exec (.bandwidthWindowEnd cs) s = .next t ∧ { t with cnt := s.cnt, sup.windowAt := s.sup.windowAt } = s.quiet ∧ t.sup.windowAt = s.now ∧
        (∀ p ∈ matrixPorts, ∀ k, 1 ≤ k → k ≤ 4 → t.ctr 0x8310 k 0 p = windowCount cs p k % 4294967296)) ∧
    (∀ rq n x, n < 65536 → Writes rq 0x8300 1 0 (beBytes 2 n) x s →
      ∃ t, exec (.bandwidthWindowWrite rq n) s = .next t ∧ Answered 2 (writeReq rq 0x8300 1 0 (beBytes 2 n)) 0 t ∧ t.cfg 0x8300 1 0 = n ∧
        SetsOnly 0x8300 1 0 s t ∧ t.sup.windowAt = s.now ∧ (∀ p ∈ matrixPorts, ∀ k, 1 ≤ k → k ≤ 4 → t.ctr 0x8310 k 0 p = 0) ∧
        { t.lessAnswers.lessSettings with sup.windowAt := s.sup.windowAt, restarted := s.restarted } = s.lessAnswers.lessSettings))

/-- A preserving march goes on slice by slice, suspends a slice that a processor uses, retires a bank that fails, and begins a pass when one is due
or commanded (13 R339 to R343). -/
def Obligations.TheBolterMarches : Prop :=  ∀ (s : State),
    (∀ (b : BankId) (k : Fin 64), s.sup.passing = true → s.sup.bolterBank = b → s.sup.bolterSlice = k → s.sup.suspendedAt = none →
      ((k : Nat) + 1 < 64 →
        ∃ t, exec (.marchSlice b k .passed) s = .next t ∧ t.sup.bolterSlice = k + 1 ∧ t.sup.bolterBank = b ∧ t.sup.passing = true ∧
          t.bank b = { s.bank b with suspended := 0, tested := ((s.bank b).tested + 1) % 64 } ∧ { t with sup := s.sup } = s.quiet) ∧
      ((s.bank b).suspended + 1 < 16 →
        ∃ t, exec (.marchSlice b k .suspended) s = .next t ∧ t.sup.suspendedAt = some s.now ∧ t.sup.bolterSlice = k ∧
          (t.bank b).suspended = (s.bank b).suspended + 1 ∧ t.ctr 0x8110 2 5 0 = (s.ctr 0x8110 2 5 0 + 1) % 4294967296 ∧
          { t with sup := s.sup, cnt := s.cnt } = s.quiet) ∧
      (4 ≤ (b : Nat) → s.retired < 8 → s.sup.banks.Pairwise (fun a b => a.1 < b.1) →
        ∃ t, exec (.marchSlice b k .failed) s = .next t ∧ (t.bank b).retired = true ∧ (t.bank b).power = 0 ∧ { t with sup := s.sup, cnt := s.cnt } = s.quiet)) ∧
    (∀ b, s.sup.suspendedAt = some b → s.over b 10000 = true →
      ∃ t, exec .sliceResume s = .next t ∧ t = { s.quiet with sup.suspendedAt := none }) ∧
    (∀ b, s.sup.up = true → s.over s.sup.passAt (3600 * s.cfg 0x8110 1 0 * 1000000000) = true → s.sup.passing = false → s.nextBank 0 = some b →
      ∃ t, exec .marchPassDue s = .next t ∧ t = { s.quiet.freshSlices with
        sup.passing := true, sup.passAt := s.now, sup.bolterBank := b, sup.bolterSlice := 0, sup.suspendedAt := none }) ∧
    (∀ rq arg x b, Writes rq 0x8110 3 0 [arg] x s → s.sup.passing = false → s.nextBank 0 = some b →
      ∃ t, exec (.startMarchPass rq arg) s = .next t ∧ Answered 2 (writeReq rq 0x8110 3 0 [arg]) 0 t ∧ t.sup.passing = true ∧
        t.sup.passAt = s.now ∧ t.sup.bolterBank = b ∧ t.sup.bolterSlice = 0 ∧ { t.lessAnswers with sup := s.sup } = s.lessAnswers)

/-- An IDENTITY message is answered up to 100 times a second for a source; a HELLO gets a challenge with the module's public key; an OPEN that passes the checks of Table 14-5
opens its session, whose first message is the OPENED record under the session's key, one without a pending handshake is rejected; a handshake lapses 5 s after its challenge (14 R351 to R353). -/
def Obligations.HandshakesOpenSessions : Prop :=  ∀ (s : State),
    (∀ h src op q, s.serves = true → hdrOk h 5 = true → h.body.length = 24 + q.value.length → (s.rate src.addr).identity < 100 →
      ∃ t, exec (.identity h src op q) s = .next t ∧ t.out = [.identityReply (respOf op q (s.identityAns op q))] ∧
        (t.rate src.addr).identity = (s.rate src.addr).identity + 1 ∧ { t with mgmt.rates := s.mgmt.rates, out := [] } = s.quiet) ∧
    (∀ h src op q, s.serves = true → hdrOk h 5 = true → h.body.length = 24 + q.value.length → 100 ≤ (s.rate src.addr).identity →
      ∃ t, exec (.identity h src op q) s = .next t ∧ { t with cnt := s.cnt } = s.quiet ∧
        t.ctr 0x9130 4 6 0 = (s.ctr 0x9130 4 6 0 + 1) % 4294967296) ∧
    (∀ h src, s.serves = true → hdrOk h 1 = true → s.mgmt.handshakes.length < 16 → s.freeId ≤ 0xFFFFFFFE →
      ∃ t, exec (.hello h src) s = .next t ∧ t.out = [.challenge s.freeId (challengeBody (Config.nonce s.fresh))] ∧
        t.mgmt.handshakes = tins s.mgmt.handshakes s.freeId ⟨src.addr, src.port, Config.nonce s.fresh, s.now⟩ ∧
        (∀ e ∈ s.mgmt.handshakes, e.1 ≠ s.freeId) ∧
        { t with mgmt.handshakes := s.mgmt.handshakes, fresh := s.fresh, out := [] } = s.quiet) ∧
    (∀ h src serial key c, s.serves = true → hdrOk h 3 = true → s.pendingFrom h.session src = true →
      s.sec.certs.find? (fun c => c.serial == serial && s.mayOpen c) = some c → s.mgmt.sessions.length < 64 →
      ∃ t, exec (.openSession h src serial true true key) s = .next t ∧ t.out = [.opened h.session c.role (s.cfg 0x9100 3 0) 32,
          .secure h.session 0 (secureMessage key h.session 0
            ({ op := 0xC1, tag := 0xFFFF, value := beBytes 1 c.role ++ beBytes 2 (s.cfg 0x9100 3 0) ++ beBytes 1 32 } : Resp).bytes)] ∧
        (∃ x, t.session? h.session = some x ∧ x.role = c.role ∧ x.cert = serial ∧ x.addr = src.addr ∧ x.port = src.port ∧ x.key = key ∧
          x.lastAt = s.now ∧ x.sendSeq = 1) ∧
        (∀ j, j ≠ h.session → t.session? j = s.session? j) ∧ t.mgmt.handshakes = tdel s.mgmt.handshakes h.session ∧
        t.persist = s.persist ∧ t.lanes = s.lanes ∧ t.fab = s.fab ∧ t.sealing = s.sealing) ∧
    (∀ h src serial a b key, s.serves = true → hdrOk h 3 = true → s.pendingFrom h.session src = false →
      ∃ t, exec (.openSession h src serial a b key) s = .next t ∧ t.out = [.reject h.session 2 0x42] ∧ t.mgmt = s.mgmt ∧
        t.sec.authCount = s.sec.authCount) ∧
    (∀ id, ∃ t, exec (.handshakeLapse id) s = .next t ∧
      t = { s.quiet with mgmt.handshakes := s.mgmt.handshakes.filter fun e => !(e.1 == id && s.over e.2.since 5000000000) })

/-- A SECURE message of an open session that its key opens is accepted once, and a bad one counted or rejected (a command with another tag verdict than the
module's own does nothing: log entry 144, the model's choice); NOP is answered; a response is kept 2 s; a session ends
by its own CLOSE, by command, when idle for 9100:03 s, and with a new management address (14 R348, R353 to R355, R358). -/
def Obligations.SessionsServeAndClose : Prop :=  ∀ (s : State),
    (∀ h src x, s.serves = true → hdrOk h 0x10 = true → s.session? h.session = some x → x.addr = src.addr → x.port = src.port → x.role ≠ 0 →
      x.sendSeq < 281474976710656 → x.recvMax < 281474976710656 →
      let rest (t : State) : State := { t with mgmt.cipher0 := s.mgmt.cipher0, mgmt.cipher1 := s.mgmt.cipher1, mgmt.cipherNext := s.mgmt.cipherNext }
      (x.opens h = true → x.fresh h.sequence = true → h.sequence < 281474976710656 →
        ∃ t, exec (.secure h src true) s = .next t ∧ t.session? h.session = some (x.accept h.sequence s.now) ∧
          (∀ j, j ≠ h.session → t.session? j = s.session? j) ∧ { rest t with mgmt.sessions := s.mgmt.sessions } = s.quiet ∧
          ((x.recvSeen = [] → x.recvMax = 0) → (x.accept h.sequence s.now).fresh h.sequence = false)) ∧
      (x.opens h = true → x.fresh h.sequence = false →
        ∃ t, exec (.secure h src true) s = .next t ∧ { rest t with cnt := s.cnt } = s.quiet ∧
          t.ctr 0x9130 4 3 0 = (s.ctr 0x9130 4 3 0 + 1) % 4294967296) ∧
      (x.opens h = false →
        ∃ t, exec (.secure h src false) s = .next t ∧ { rest t with cnt := s.cnt } = s.quiet ∧
          t.ctr 0x9130 4 2 0 = (s.ctr 0x9130 4 2 0 + 1) % 4294967296) ∧
      (∀ ok, x.opens h ≠ ok → ∃ t, exec (.secure h src ok) s = .next t ∧ t = s.quiet)) ∧
    (∀ q x, TakenUp 0x20 q x s →
      ∃ t, exec (.nop q) s = .next t ∧ Answered 0x20 q 0 t ∧ t.lessAnswers = s.lessAnswers) ∧
    (∀ id tag, ∃ t, exec (.keptResponseExpiry id tag) s = .next t ∧
      t = { s.quiet with mgmt.kept := s.mgmt.kept.filter fun k => !(k.session == id && k.req.tag == tag && s.over k.since 2000000000) }) ∧
    (let closed (id : Nat) (t : State) : Prop :=
      t.session? id = none ∧ (id ≠ 0 → ∀ h, (t.hop h).owner ≠ id) ∧ (∀ f ∈ t.mgmt.flight, f.session ≠ id) ∧
        (∀ f ∈ t.mgmt.transfers, f.session ≠ id) ∧ t.persist = s.persist ∧ t.lanes = s.lanes ∧ t.fab = s.fab ∧ t.sealing = s.sealing ∧
        t.lease = s.lease;
      (∀ q x, TakenUp 0x21 q x s → ∃ t, exec (.close q) s = .next t ∧ Answered 0x21 q 0 t ∧ closed q.session t) ∧
      (∀ rq target arg x, Writes rq 0x9130 3 target [arg] x s →
        ∃ t, exec (.closeSession rq target arg) s = .next t ∧ Answered 2 (writeReq rq 0x9130 3 target [arg]) 0 t ∧ closed target t) ∧
      (∀ id x, s.session? id = some x → s.over x.lastAt (s.cfg 0x9100 3 0 * 1000000000) = true →
        ∃ t, exec (.sessionIdleTimeout id) s = .next t ∧ closed id t)) ∧
    (∀ rq v x o, Writes rq 0x9100 1 0 v x s → findObj 0x9100 1 = some o →
      ∃ t, exec (.managementAddressWrite rq v) s = .next t ∧ Answered 2 (writeReq rq 0x9100 1 0 v) 0 t ∧ t.val 0x9100 1 0 = o.split v ∧
        SetsOnly 0x9100 1 0 s t ∧ t.mgmt.sessions = [] ∧ t.lanes = s.lanes ∧ t.fab = s.fab ∧ t.sealing = s.sealing) ∧
    (∀ rq n x, n < 65536 → Writes rq 0x9100 2 0 (beBytes 2 n) x s →
      ∃ t, exec (.unrynPortWrite rq n) s = .next t ∧ Answered 2 (writeReq rq 0x9100 2 0 (beBytes 2 n)) 0 t ∧ t.cfg 0x9100 2 0 = n ∧
        SetsOnly 0x9100 2 0 s t ∧ t.mgmt.sessions = [] ∧ t.lanes = s.lanes ∧ t.fab = s.fab ∧ t.sealing = s.sealing)

/-- The switch learns and forwards frames, drops and counts long ones and those that find their queue full; the ring master checks the ring, opens
MGT1 when it breaks and blocks it again; a flush frame empties the table and goes on; datagrams are handled, an echo request or a neighbour solicitation among them answered, routed and dropped
(14 R346 to R349). -/
def Obligations.FramesAndDatagramsAreForwarded : Prop :=  ∀ (s : State),
    (∀ (p : Fin 2) (f : EthFrame), s.power.supRail = true → s.linkUp p = true → s.ringMaster = false →
      (f.queueFull = false → f.length ≤ 1522 →
        ∃ t, exec (.mgtFrame p f) s = .next t ∧ { t with mgmt.macs := s.mgmt.macs, cnt := s.cnt, out := [] } = s.quiet ∧
          (bit f.src 40 = false → s.mgmt.macs.length < 1024 → (f.src, (p : Nat), s.now) ∈ t.mgmt.macs) ∧
          (bit f.dst 40 = true → ∀ k : Nat, .frame k f ∈ t.out ↔ k < 3 ∧ k ≠ (p : Nat) ∧ s.linkUp k = true) ∧
          (bit f.dst 40 = false → f.dst = Config.macAddress → t.out = [.frame 2 f]) ∧
          (∀ e, bit f.dst 40 = false → f.dst ≠ Config.macAddress → f.dst ≠ f.src → s.mgmt.macs.find? (fun e => e.1 == f.dst) = some e →
            ∀ k : Nat, .frame k f ∈ t.out ↔ k = e.2.1 ∧ k ≠ (p : Nat) ∧ s.linkUp k = true)) ∧
      (f.queueFull = true ∨ 1522 < f.length →
        ∃ t, exec (.mgtFrame p f) s = .next t ∧ { t with cnt := s.cnt } = s.quiet ∧
          t.ctr 0x9100 6 3 p = (s.ctr 0x9100 6 3 p + 1) % 4294967296)) ∧
    (s.power.supRail = true → s.ringMaster = true → s.over s.mgmt.checkSent 10000000 = true → s.linkUp 0 = true →
      ∃ t, exec .ringCheckTimer s = .next t ∧ t.out = [.ringCheck 0] ∧
        { t with mgmt.checkSent := s.mgmt.checkSent, cnt := s.cnt, out := [] } = s.quiet ∧ t.mgmt.checkSent = s.now) ∧
    (s.power.supRail = true → s.ringMaster = true → s.mgmt.ringOpen = false → s.over s.mgmt.checkAt 30000000 = true →
      s.over s.power.startAt 30000000 = true → s.linkUp 0 = true → s.linkUp 1 = true →
      ∃ t, exec .ringOpen s = .next t ∧ t.mgmt.ringOpen = true ∧ t.mgmt.macs = [] ∧ t.out = [.flush 0, .flush 1] ∧
        { t with mgmt.ringOpen := s.mgmt.ringOpen, mgmt.macs := s.mgmt.macs, cnt := s.cnt, out := [] } = s.quiet) ∧
    (s.power.supRail = true → s.ringMaster = true → s.mgmt.ringOpen = true → s.over s.mgmt.checkFrom 1000000000 = true →
      s.over s.mgmt.checkAt 20000000 = false → s.linkUp 0 = true → s.linkUp 1 = true →
      ∃ t, exec .ringClose s = .next t ∧ t.mgmt.ringOpen = false ∧ t.out = [.flush 0, .flush 1] ∧
        { t with mgmt.ringOpen := s.mgmt.ringOpen, cnt := s.cnt, out := [] } = s.quiet) ∧
    (∀ p : Fin 2, s.power.supRail = true → s.linkUp p = true → s.linkUp (1 - (p : Nat)) = true → s.ringBlocked = false →
      ∃ t, exec (.flushFrame p) s = .next t ∧ t.mgmt.macs = [] ∧ t.out = [.flush (1 - (p : Nat))] ∧
        { t with mgmt.macs := s.mgmt.macs, cnt := s.cnt, out := [] } = s.quiet) ∧
    (∀ mac, ∃ t, exec (.macAddressAgeing mac) s = .next t ∧
      t = { s.quiet with mgmt.macs := s.mgmt.macs.filter fun e => !(e.1 == mac && s.over e.2.2 300000000000) }) ∧
    (∀ (p : Fin 2) up, s.power.supRail = true →
      ∃ t, exec (.mgtLinkChange p up) s = .next t ∧ t = { s.quiet with mgmt.link := s.mgmt.link.set p up }) ∧
    (∀ d, s.sup.up = true → 40 ≤ d.length → field d 6 1 ≠ 44 → s.ownAddr (field d 24 16) = true →
      (s.icmpAnswer d = none → ∃ t, exec (.ipv6Datagram .management d) s = .next t ∧ t = { s.quiet with out := [.handled d] }) ∧
      (∀ a, s.icmpAnswer d = some a →
        ∃ t, exec (.ipv6Datagram .management d) s = .next t ∧ t.out = [.handled d, .toManagement a false] ∧
          { t with cnt := s.cnt, out := [] } = s.quiet ∧ t.ctr 0x9100 6 1 2 = (s.ctr 0x9100 6 1 2 + 1) % 4294967296)) ∧
    (∀ d (l m : LaneId), s.sup.up = true → s.inBand l = true → 40 ≤ d.length → field d 6 1 ≠ 44 → s.ownAddr (field d 24 16) = false →
      s.route (field d 24 16) = some (m : Nat) →
      (1 < field d 7 1 → s.inBand m = true → (s.lane m).bring.stage = 9 → (s.lane m).dataRoom d.length = true →
        ∃ t, exec (.ipv6Datagram (.lane l) d) s = .next t ∧ { t with cnt := s.cnt, lanes := s.lanes } = s.quiet ∧
          (∀ k, k ≠ (m : Nat) → t.lane k = s.lane k) ∧
          (t.lane m).ch.dataTx = (s.lane m).ch.dataTx ++ [1 :: d.set 7 (BitVec.ofNat 8 (field d 7 1 - 1))] ∧
          t.ctr 0x9110 2 3 l = (s.ctr 0x9110 2 3 l + 1) % 4294967296) ∧
      (field d 7 1 ≤ 1 →
        ∃ t, exec (.ipv6Datagram (.lane l) d) s = .next t ∧ { t with cnt := s.cnt } = s.quiet ∧
          t.ctr 0x9110 2 4 l = (s.ctr 0x9110 2 4 l + 1) % 4294967296))

/-- DESCRIBE returns the descriptor of Table 14-12 for an object that exists, and ABSENT for one that does not, which on an IDZ48-M1N every sealing
object is, and a sealing element of an object as well (14 R363; 12 R324; 00 R2). The maker's own objects, F000 to FFFF, answer it something that the
spec does not give (log entry 16). -/
def Obligations.DescribeReturnsTheDescriptor : Prop :=  ∀ (s : State) (q : Req) (x : Session), TakenUp 6 q x s →
    (∀ o, s.object? q.index q.sub = some o → (q.index ≠ 0x6030 ∨ q.sub ≠ 1 ∨ q.element ≠ 2 ∨ s.power.ordering = true) →
      ∃ t, exec (.describe q) s = .next t ∧ Replied 6 q { value := describeBytes o } t ∧ t.lessAnswers = s.lessAnswers ∧
        (q.sub ≠ 0 → q.sub ≠ 0xFE → describeBytes o =
          beBytes 1 o.ty ++ beBytes 1 o.access.code ++ beBytes 1 o.rights ++ [0] ++ beBytes 4 o.size ++ beBytes 4 (elemRange o.elems).1 ++
          beBytes 4 (elemRange o.elems).2 ++ str 32 o.name ++
          (if o.ty = 14 then beBytes 1 o.fields.length ++ o.fields.flatMap (fun f => beBytes 1 f.1 ++ beBytes 2 f.2) else [0]))) ∧
    (s.object? q.index q.sub = none → makerOwn 6 q x = false →
      ∃ t, exec (.describe q) s = .next t ∧ Answered 6 q 5 t ∧ t.lessAnswers = s.lessAnswers) ∧
    (makerOwn 6 q x = true →
      ∃ t a, exec (.describe q) s = .next t ∧ Replied 6 q a t ∧ { t.lessAnswers with fresh := s.fresh } = s.lessAnswers) ∧
    (q.index = 0x6030 → q.sub = 1 → q.element = 2 → s.power.ordering = false →
      ∃ t, exec (.describe q) s = .next t ∧ Answered 6 q 5 t ∧ t.lessAnswers = s.lessAnswers) ∧
    (s.power.ordering = false → sealingObj q.index = true → s.object? q.index q.sub = none)

/-- A READ that passes its checks is answered with the object's value, and that of a setting is the one in force; one that fails them is answered
with the failure, and a maker's of its own objects, F000 to FFFF, with what the spec does not give (log entry 16); a READ_MULTI fills its response with whole items (14 R361, R364, R367, R452). A DOMAIN_READ at offset 0 latches a snapshot, from
which later ones are served until 10 s after the last; a DOMAIN_WRITE segment that does not complete its value is staged, and a transfer ends 10 s
after its last segment (14 R368, R369; 15 R401). -/
def Obligations.ReadsAndDomains : Prop :=
  (∀ (s u : State) (q : Req) (x : Session), u = s.quiet.heard q.session →
    (∀ o, TakenUp 1 q x s → u.readCheck q x.role = .ok o → u.wholeCheck q.session o q.element = none →
      ∃ t, exec (.read q) s = .next t ∧ Replied 1 q { value := u.valueBytes q.session o q.element } t ∧
        { t.lessAnswers with fresh := s.fresh } = s.lessAnswers ∧
        (o.access = .rwp → o.ty ≠ 13 → q.sub ≠ 0 → q.sub ≠ 0xFE → q.index ≠ 0x3840 →
          u.valueBytes q.session o q.element = o.join (s.val q.index q.sub q.element))) ∧
    (∀ a, TakenUp 1 q x s → u.readCheck q x.role = .error a → makerOwn 1 q x = false →
      ∃ t, exec (.read q) s = .next t ∧ Replied 1 q a t ∧ t.lessAnswers = s.lessAnswers) ∧
    (TakenUp 1 q x s → makerOwn 1 q x = true →
      ∃ t a, exec (.read q) s = .next t ∧ Replied 1 q a t ∧ { t.lessAnswers with fresh := s.fresh } = s.lessAnswers) ∧
    (∀ o, TakenUp 3 q x s → q.sub ≤ 255 → u.object? q.index q.sub = some o → u.elemCheck o q.element = none →
      ∃ t n b, exec (.readMulti q) s = .next t ∧ Replied 3 q { detailValue := n, value := b } t ∧ n ≤ q.length ∧ b.length ≤ 1388 ∧
        ((itemBytes q.sub (u.readItem q x.role q.sub)).length ≤ 1378 → (q.flags = 1 → (u.readItem q x.role 0xFE).2.length ≤ 2) → 1 ≤ n ∧ itemBytes q.sub (u.readItem q x.role q.sub) <+: b) ∧
        { t.lessAnswers with fresh := s.fresh } = s.lessAnswers)) ∧
  (∀ (s u : State) (q : Req) (x : Session), u = s.quiet.heard q.session →
    (∀ o d, TakenUp 4 q x s → u.readCheck q x.role = .ok o → o.ty = 13 → q.offset = 0 → u.notReadable q.session o q.element = none →
      u.domain q.session q.index q.sub q.element = some d → d ≠ [] →
      ∃ t, exec (.domainRead q) s = .next t ∧ Replied 4 q { detailValue := d.length, value := d.take (min q.length 1388) } t ∧
        (⟨q.session, q.index, q.sub, q.element, d, s.now⟩ : Snapshot) ∈ t.mgmt.snapshots ∧
        { t.lessAnswers with mgmt.snapshots := s.mgmt.snapshots } = s.lessAnswers) ∧
    (∀ o y, TakenUp 4 q x s → u.readCheck q x.role = .ok o → o.ty = 13 → q.offset ≠ 0 →
      s.mgmt.snapshots.find? (fun y => y.of q.session q.index q.sub q.element) = some y → q.offset < y.data.length →
      ∃ t, exec (.domainRead q) s = .next t ∧
        Replied 4 q { offset := q.offset, detailValue := y.data.length, value := (y.data.drop q.offset).take (min q.length 1388) } t ∧
        { y with readAt := s.now } ∈ t.mgmt.snapshots ∧ { t.lessAnswers with mgmt.snapshots := s.mgmt.snapshots } = s.lessAnswers) ∧
    (TakenUp 5 q x s → s.sup.state ≠ 3 → q.index = 0x5E10 → q.sub = 3 → q.element < 8 → (x.role = 2 ∨ x.role = 3) → 0 < q.length →
      q.total ≤ 1511 → q.offset + q.length < q.total → (∀ f ∈ s.mgmt.transfers, f.of 0x5E10 3 q.element = false) →
      ∃ t, exec (.domainWrite q) s = .next t ∧ Replied 5 q { detailValue := q.total - q.length } t ∧
        t.mgmt.transfers = s.mgmt.transfers ++
          [{ session := q.session, index := 0x5E10, sub := 3, element := q.element, total := q.total, segs := [(q.offset, q.value)], lastAt := s.now }] ∧
        { t.lessAnswers with mgmt.transfers := s.mgmt.transfers } = s.lessAnswers) ∧
    (∀ id i b e, ∃ t, exec (.domainSnapshotExpiry id i b e) s = .next t ∧
      t = { s.quiet with mgmt.snapshots := s.mgmt.snapshots.filter fun y => !(y.of id i b e && s.over y.readAt 10000000000) }) ∧
    (∀ y ∈ s.mgmt.snapshots, (∀ z ∈ s.mgmt.snapshots, z.of y.session y.index y.sub y.element = true → z = y) →
      ∃ t, exec (.domainSnapshotExpiry y.session y.index y.sub y.element) s = .next t ∧
        { t with mgmt.snapshots := s.mgmt.snapshots } = s.quiet ∧ (y ∈ t.mgmt.snapshots ↔ s.now - y.readAt < 10000000000) ∧
        (∀ z ∈ s.mgmt.snapshots, z ≠ y → z ∈ t.mgmt.snapshots)) ∧
    (∀ id i b e f, s.mgmt.transfers.find? (fun f => f.session == id && f.of i b e && s.over f.lastAt 10000000000) = some f →
      ∃ t, exec (.domainTransferDrop id i b e) s = .next t ∧ t.mgmt.transfers = (s.mgmt.transfers.filter fun f => !f.of i b e) ∧
        { t with mgmt.transfers := s.mgmt.transfers, sec.slotA := s.sec.slotA, sec.slotB := s.sec.slotB } = s.quiet ∧
        (i = 0x1030 → (s.slot e).state = 3 → (t.slot e).state = 2) ∧ (i ≠ 0x1030 → t.sec = s.sec)))

/-- A WRITE stores a setting and stages it, or does what the command of its own object does; DISCARD_STAGED takes a staged setting back to its
committed value, and is refused while a commit runs (14 R361, R370, R372). -/
def Obligations.WritesAreAppliedAndDiscarded : Prop :=  ∀ (s : State),
    (∀ rq index sub el v x o, Writes rq index sub el v x s → findObj index sub = some o → sub ≠ 0 → sub ≠ 0xFE → el < 4294967296 →
      o.ty ≠ 13 → o.fields ≠ [] → o.access = .rwp →
      index ≠ 0x2010 → index ≠ 0x5400 → index ≠ 0x5420 → index ≠ 0x9120 → index * 256 + sub ∉ actingObjs →
      s.storeCheck index sub el (o.split v) = none →
      ∃ t, exec (.write (writeReq rq index sub el v)) s = .next t ∧ Answered 2 (writeReq rq index sub el v) 0 t ∧
        t.val index sub el = o.split v ∧ SetsOnly index sub el s t ∧ objKey index sub el ∈ t.persist.staged ∧
        t.lessAnswers.lessSettings = s.lessAnswers.lessSettings) ∧
    (∀ rq sub (l : LaneId) v x o, Writes rq 0x2010 sub l v x s → findObj 0x2010 sub = some o → 1 ≤ sub → sub ≤ 5 →
      s.storeCheck 0x2010 sub l (o.split v) = none →
      ∃ t, exec (.write (writeReq rq 0x2010 sub l v)) s = .next t ∧ Answered 2 (writeReq rq 0x2010 sub l v) 0 t ∧
        t.val 0x2010 sub l = o.split v ∧ SetsOnly 0x2010 sub l s t ∧ objKey 0x2010 sub l ∈ t.persist.staged ∧
        (s.enabled l = true → t.fixedMode l = true → (t.lane l).tr.taps = t.fixedTaps l) ∧ (∀ k, k ≠ (l : Nat) → t.lane k = s.lane k) ∧
        { t.lessAnswers.lessSettings with lanes := s.lanes } = s.lessAnswers.lessSettings) ∧
    (∀ rq (l : LaneId) n x, n < 8 → Writes rq 0x2000 5 l (u8 n) x s →
      ∃ t, exec (.write (writeReq rq 0x2000 5 l (u8 n))) s = .next t ∧ Answered 2 (writeReq rq 0x2000 5 l (u8 n)) 0 t ∧
        t.cfg 0x2000 5 l = n ∧ SetsOnly 0x2000 5 l s t ∧ objKey 0x2000 5 l ∈ t.persist.staged ∧
        ((s.lane l).bring.txMode = .training → 1 ≤ (s.lane l).bring.stage → (s.lane l).bring.stage ≤ 2 → (t.lane l).tr.taps = presetTaps n) ∧
        (3 ≤ (s.lane l).bring.stage → t.lane l = s.lane l) ∧ (∀ k, k ≠ (l : Nat) → t.lane k = s.lane k) ∧
        { t.lessAnswers.lessSettings with lanes := s.lanes } = s.lessAnswers.lessSettings) ∧
    (∀ rq (l : LaneId) arg,
      exec (.write (writeReq rq 0x2000 1 l (u8 1))) s = exec (.laneEnable rq l) s ∧
      exec (.write (writeReq rq 0x2000 9 l [arg])) s = exec (.retrain rq l arg) s ∧
      exec (.write (writeReq rq 0x4010 1 0 [arg])) s = exec (.revertShadow rq arg) s ∧
      exec (.write (writeReq rq 0x5C40 1 0 [arg])) s = exec (.eraseAllKeys rq arg) s ∧
      exec (.write (writeReq rq 0x9120 1 0 [arg])) s = exec (.commit rq arg) s ∧
      exec (.write (writeReq rq 0x9120 2 0 [arg])) s = exec (.discardStaged rq arg) s) ∧
    (∀ rq arg x, Writes rq 0x9120 2 0 [arg] x s → s.persist.committing = false → s.persist.staged = [] →
      ∃ t, exec (.discardStaged rq arg) s = .next t ∧ Answered 2 (writeReq rq 0x9120 2 0 [arg]) 0 t ∧ t.lessAnswers = s.lessAnswers) ∧
    (∀ rq arg x (l : LaneId), Writes rq 0x9120 2 0 [arg] x s → s.persist.committing = false → s.portUp = true → s.sup.state ≠ 3 →
      s.persist.staged = [objKey 0x3000 3 l] → s.newestCopy = none →
      ∃ t, exec (.discardStaged rq arg) s = .next t ∧ Answered 2 (writeReq rq 0x9120 2 0 [arg]) 0 t ∧ t.persist.staged = [] ∧
        t.cfg 0x3000 3 l = 2 ∧ SetsOnly 0x3000 3 l s t ∧ t.lessAnswers.lessSettings = s.lessAnswers.lessSettings) ∧
    (∀ rq arg x, Writes rq 0x9120 2 0 [arg] x s → s.persist.committing = true →
      ∃ t, exec (.discardStaged rq arg) s = .next t ∧ Answered 2 (writeReq rq 0x9120 2 0 [arg]) 1 t ∧ t.persist = s.persist)

/-- The owner of a hopper reads its entries, acknowledges them and, of an edit hopper, writes all of its entries or none; a write without room waits
under hold producer and is refused otherwise, and one that has waited 1 s is answered BUSY (14 R375, R376, R379). A session with the role for it
subscribes to a hopper that no other owns, gets the restart event first from an event hopper, and releases it; a hopper that is empty and unowned is
configured, and one that is not keeps its kind and depth (14 R374, R377, R382). -/
def Obligations.HoppersCarryEntriesToTheirOwners : Prop :=
  (∀ (s : State) (q : Req) (x : Session), s.sup.state ≠ 3 → q.element < 8192 → s.hopKind q.element ≠ 0 → (s.hop q.element).owner = q.session →
    (TakenUp 0x10 q x s → (s.hop q.element).at_ q.offset < (s.hop q.element).fill → q.offset < 4294967296 →
      ∃ t, exec (.hopperRead q) s = .next t ∧ t.lessAnswers = s.lessAnswers ∧
        Replied 0x10 q { offset := q.offset, detailValue := (s.hop q.element).p, value :=
          ((((s.hop q.element).entries.drop ((s.hop q.element).at_ q.offset)).take q.length).map Prod.snd).flatten } t) ∧
    (TakenUp 0x12 q x s → (s.hop q.element).at_ (beNat q.value) ≤ (s.hop q.element).fill → (s.hop q.element).overflow = [] →
      (s.hop q.element).held = [] → s.edit.flight = [] →
      ∃ t, exec (.hopperAck q) s = .next t ∧ Answered 0x12 q 0 t ∧
        (t.hop q.element).entries = (s.hop q.element).entries.drop ((s.hop q.element).at_ (beNat q.value)) ∧
        (t.hop q.element).p = (s.hop q.element).p ∧ (∀ j, j ≠ q.element → t.hop j = s.hop j) ∧
        { t.lessAnswers with store.hoppers := s.store.hoppers, edit.armed := s.edit.armed } = s.lessAnswers) ∧
    (TakenUp 0x11 q x s → s.hopKind q.element = 1 → q.offset = (s.hop q.element).expected →
      ((s.hop q.element).held = [] → s.hopRoom q.element (q.length / 64) = true → x.sendSeq + 2 < 281474976710656 →
        ∃ t, exec (.hopperWrite q) s = .next t ∧
          Replied 0x11 q { offset := q.offset, detailValue := ((s.hop q.element).p + q.length / 64) % 4294967296 } t ∧
          (t.hop q.element).entries.map Prod.snd = (s.hop q.element).entries.map Prod.snd ++ entriesOf (q.length / 64) q.value ∧
          (t.hop q.element).p = ((s.hop q.element).p + q.length / 64) % 4294967296 ∧ (∀ j, j ≠ q.element → t.hop j = s.hop j) ∧
          { t.lessAnswers with store.hoppers := s.store.hoppers } = s.lessAnswers) ∧
      (s.hopRoom q.element (q.length / 64) = false → s.hopPolicy q.element = 2 →
        ∃ t, exec (.hopperWrite q) s = .next t ∧ t.out = [] ∧
          (∀ j, t.hop j = if j = q.element then { s.hop j with
            held := (s.hop j).held ++ [⟨q.session, q.tag, q, q.offset, entriesOf (q.length / 64) q.value, s.now⟩] } else s.hop j) ∧
          t.mgmt.flight = s.mgmt.flight ++ [⟨q.session, 0x11, q, s.now⟩] ∧
          { t.lessAnswers with store.hoppers := s.store.hoppers, mgmt.flight := s.mgmt.flight } = s.lessAnswers) ∧
      (s.hopRoom q.element (q.length / 64) = false → s.hopPolicy q.element ≠ 2 →
        ∃ t, exec (.hopperWrite q) s = .next t ∧ Answered 0x11 q 9 t ∧ t.lessAnswers = s.lessAnswers)) ∧
    (∀ h w f y, s.store.hoppers.find? (fun e => e.2.held.any fun w => w.session == q.session && w.tag == q.tag && s.over w.since 1000000000) =
        some (h, s.hop h) → (s.hop h).held = [w] → s.session? q.session = some y → y.role ≠ 0 → y.sendSeq + 1 < 281474976710656 →
      y.recvMax < 281474976710656 → s.mgmt.flight.find? (fun f => f.session == q.session && f.req.tag == q.tag) = some f →
      f.req.session = q.session →
      ∃ t, exec (.hopperWriteTimeout q.session q.tag) s = .next t ∧ Answered f.op f.req 1 t ∧
        (∀ j, t.hop j = if j = h then { s.hop j with held := [] } else s.hop j) ∧
        t.mgmt.flight = (s.mgmt.flight.filter fun g => !(g.session == q.session && g.req.tag == q.tag)) ∧
        { t.lessAnswers with store.hoppers := s.store.hoppers, mgmt.flight := s.mgmt.flight } = s.lessAnswers)) ∧
  (∀ (s : State),
    (∀ (q : Req) (x : Session), TakenUp 0x13 q x s → s.sup.state ≠ 3 → q.element < 8192 → s.hopKind q.element ≠ 0 →
      (beNat q.value = 1 → mayOwn (s.hopKind q.element) x.role = true → (s.hop q.element).owner = 0 → q.session ≠ 0 →
        (s.hopKind q.element ≠ 3 ∨ s.sup.again = false ∨ (s.hop q.element).greeted = true →
          ∃ t, exec (.subscribe q) s = .next t ∧ Answered 0x13 q 0 t ∧
            (∀ j, t.hop j = if j = q.element then { s.hop j with
              owner := q.session, greeted := (s.hop j).greeted || s.hopKind q.element == 3 } else s.hop j) ∧
            { t.lessAnswers with store.hoppers := s.store.hoppers } = s.lessAnswers) ∧
        (s.hopKind q.element = 3 → s.sup.again = true → (s.hop q.element).greeted = false → (s.hop q.element).overflow = [] →
          s.hopRoom q.element s.restartUnit.length = true → x.sendSeq + 2 < 281474976710656 →
          ∃ t, exec (.subscribe q) s = .next t ∧ Answered 0x13 q 0 t ∧ (t.hop q.element).owner = q.session ∧
            (t.hop q.element).entries.map Prod.snd = (s.hop q.element).entries.map Prod.snd ++ s.restartUnit ∧
            (∀ j, j ≠ q.element → t.hop j = s.hop j) ∧ { t.lessAnswers with store.hoppers := s.store.hoppers } = s.lessAnswers)) ∧
      (beNat q.value = 1 → mayOwn (s.hopKind q.element) x.role = true → (s.hop q.element).owner ≠ 0 → (s.hop q.element).owner ≠ q.session →
        ∃ t, exec (.subscribe q) s = .next t ∧ Answered 0x13 q 7 t ∧ t.lessAnswers = s.lessAnswers) ∧
      (beNat q.value = 0 → (s.hop q.element).owner = q.session →
        ∃ t, exec (.release q) s = .next t ∧ Answered 0x13 q 0 t ∧
          (∀ j, t.hop j = if j = q.element then { s.hop j with owner := 0 } else s.hop j) ∧
          { t.lessAnswers with store.hoppers := s.store.hoppers } = s.lessAnswers)) ∧
    (∀ rq h v x o kind depth policy mark ev dest, Writes rq 0x7000 1 h v x s → findObj 0x7000 1 = some o →
      o.split v = [kind, depth, policy, mark, ev, dest] → depthOk depth = true → s.depthSum h + depth ≤ 65536 →
      ((kind = 1 → policy ≠ 0) → mark ≤ depth → (s.hop h).owner = 0 → (s.hop h).entries = [] → (s.hop h).held = [] → depth ≠ s.hopDepth h →
        ∃ t, exec (.hopperConfiguration rq h v) s = .next t ∧ Answered 2 (writeReq rq 0x7000 1 h v) 0 t ∧
          t.val 0x7000 1 h = [kind, depth, policy, mark, ev, dest] ∧ SetsOnly 0x7000 1 h s t ∧
          (∀ j, t.hop j = if j = h then { greeted := (s.hop h).greeted } else s.hop j) ∧
          { t.lessAnswers.lessSettings with store.hoppers := s.store.hoppers } = s.lessAnswers.lessSettings) ∧
      ((kind ≠ s.hopKind h ∨ depth ≠ s.hopDepth h) → ((s.hop h).owner ≠ 0 ∨ (s.hop h).entries ≠ []) →
        ∃ t, exec (.hopperConfiguration rq h v) s = .next t ∧ Answered 2 (writeReq rq 0x7000 1 h v) 2 t ∧ t.persist = s.persist ∧ t.store = s.store)))

/-- A condition that has stood for its time is raised as a failure, with an alarm unless its severity is 0, and clears when it has been absent for
its time; an alarm, or every alarm, is acknowledged (04 R110; 14 R383, R384). -/
def Obligations.AlarmsAreRaisedClearedAndAcknowledged : Prop :=  ∀ (s : State),
    (∀ c, s.sup.up = true → s.failed c = false → s.condNow c = true → s.condFor c true (s.report c).raise = true →
      ∃ t, exec (.failureRaised c) s = .next t ∧ t.failed c = true ∧ t.persist = s.persist ∧ t.lanes = s.lanes ∧ t.fab = s.fab ∧
        ((s.report c).severity = 0 → t.store.alarms = s.store.alarms) ∧
        ((s.report c).severity ≠ 0 → ∃ a : Alarm, t.store.alarms = s.store.alarms ++ [a] ∧ a.cond = some c ∧ a.number = s.store.nextAlarm ∧
          a.severity = (s.report c).severity ∧ a.index = (s.report c).index ∧ a.element = (s.report c).element ∧ a.acked = false ∧
          (s.sup.restarting = false → t.almOutput a.severity = true))) ∧
    (∀ c, s.sup.up = true → s.failed c = true → s.condFor c false (s.report c).clear = true → s.mayClear c = true →
      ∃ t, exec (.failureCleared c) s = .next t ∧ t.failed c = false ∧ t.persist = s.persist ∧ t.lanes = s.lanes ∧ t.fab = s.fab ∧
        (∀ a, s.store.alarms.find? (fun a => a.cond == some c) = some a → t.store.alarms = s.store.alarms.filter fun b => b.number != a.number)) ∧
    (∀ rq n x a, n < 0xFFFFFFFF → Writes rq 0x7800 2 0 (beBytes 4 n) x s → s.store.alarms.find? (fun a => a.number == n) = some a →
      ∃ t, exec (.acknowledgeAlarm rq n) s = .next t ∧ Answered 2 (writeReq rq 0x7800 2 0 (beBytes 4 n)) 0 t ∧
        (a.acked = false → t.store.alarms = s.store.alarms.map fun b => if b.number = n then { b with acked := true } else b) ∧
        (a.acked = true → t.store.alarms = s.store.alarms) ∧ t.persist = s.persist ∧ t.lanes = s.lanes ∧ t.fab = s.fab) ∧
    (∀ rq n x, n < 0xFFFFFFFF → Writes rq 0x7800 2 0 (beBytes 4 n) x s → s.store.alarms.find? (fun a => a.number == n) = none →
      ∃ t, exec (.acknowledgeAlarm rq n) s = .next t ∧ Answered 2 (writeReq rq 0x7800 2 0 (beBytes 4 n)) 5 t ∧ t.lessAnswers = s.lessAnswers) ∧
    (∀ rq x, Writes rq 0x7800 2 0 (beBytes 4 0xFFFFFFFF) x s →
      ∃ t, exec (.acknowledgeAll rq) s = .next t ∧ Answered 2 (writeReq rq 0x7800 2 0 (beBytes 4 0xFFFFFFFF)) 0 t ∧
        t.store.alarms = (s.store.alarms.map fun b => { b with acked := true }) ∧ (s.sup.restarting = false → ∀ n, t.almOutput n = false) ∧
        t.persist = s.persist ∧ t.lanes = s.lanes ∧ t.fab = s.fab)

/-- A reset condition takes every volatile state away and leaves flash as it was; without a start-up condition, and with rails that are not good,
the module stays down, the latter to try again after 1 s; with good rails it starts under the cause of the condition that ended (16 R414, R415,
R418). Start-up completes at the first admission or after 30 s, also where it ended in recovery; at a power-fail the port die and both engines go down, and with KEEP the supervisor
stays up (16 R416, R430, R431). -/
def Obligations.ResetsStartupAndPowerFail : Prop :=
  (∀ (s : State),
    (∃ t, exec .resetAssert s = .next t ∧ t.power.resetN = false ∧ t.power.supRail = false ∧ t.power.portRail = false ∧
      t.persist = s.persist.flash ∧ t.sec = s.sec.flash ∧ t.lanes = [] ∧ t.mgmt.sessions = [] ∧ t.fab.active = [] ∧ t.sealing.kwk = none ∧
      (∀ k, (t.keySlot k).cur = none) ∧ (twf {} s.sealing.slots → ∀ k, (t.keySlot k).mark = (s.keySlot k).mark)) ∧
    (∀ p, ∃ t, exec (.presentLost p) s = .next t ∧ t.power.present = s.power.present.set p true ∧ t.power.seated = false ∧
      t.power.supRail = false ∧ t.persist = s.persist.flash ∧ t.lanes = [] ∧ t.mgmt.sessions = []) ∧
    (∀ o, s.power.resetN = false → { s with power.resetN := true }.startable = false →
      ∃ t, exec (.resetRelease o) s = .next t ∧ t = { s.quiet with power.resetN := true }) ∧
    (∀ o, s.power.resetN = false → { s with power.resetN := true }.startable = true → o.railsGood = false →
      ∃ t, exec (.resetRelease o) s = .next t ∧ t.power.resetN = true ∧ t.power.internal = true ∧ t.power.retryAt = some (s.now + 1000000000) ∧
        t.power.supRail = false ∧ t.lanes = []) ∧
    (∀ o, s.power.resetN = false → { s with power.resetN := true }.startable = true → o.railsGood = true →
      ∃ t, exec (.resetRelease o) s = .next t ∧ t.power.resetN = true ∧ t.power.supRail = true ∧ t.power.cause = 1 ∧ t.power.startAt = s.now) ∧
    (∀ o, s.power.seated = false → { s with power.present := [false, false], power.seated := true }.startable = false →
      ∃ t, exec (.seated o) s = .next t ∧ t = { s.quiet with power.present := [false, false], power.seated := true }) ∧
    (∀ o, s.power.seated = false → { s with power.present := [false, false], power.seated := true }.startable = true → o.railsGood = true →
      ∃ t, exec (.seated o) s = .next t ∧ t.power.seated = true ∧ t.power.supRail = true ∧ t.power.cause = 3 ∧ t.power.startAt = s.now) ∧
    (∀ o b, s.power.retryAt = some b → s.power.internal = true → b ≤ s.now → s.power.thermal = false →
      { s with power.internal := false, power.retryAt := none }.startable = true → o.railsGood = true →
      ∃ t, exec (.startupRetry o) s = .next t ∧ t.power.internal = false ∧ t.power.supRail = true ∧ t.power.cause = s.power.cause ∧
        t.power.startAt = s.now)) ∧
  (∀ (s : State),
    ((s.power.step = 8 ∧ s.lease.admitted = true) ∨
        ((s.power.step = 3 ∨ s.power.step = 4 ∨ s.power.step = 8) ∧ s.powered = true ∧ s.over s.power.startAt 30000000000 = true) →
      ∃ t, exec .startupComplete s = .next t ∧ t.power.step = 9 ∧ (s.sup.state = 0 → s.sup.restarting = false → t.sup.state = 1) ∧
        t.lanes = s.lanes ∧ t.persist = s.persist ∧ t.fab = s.fab) ∧
    (s.powered = true ∨ s.power.fail = true → ∃ t, exec .powerFail s = .next t ∧ t = s.quiet) ∧
    (s.powered = false → (s.power.portRail = true ∨ s.power.supRail = true) → s.power.fail = false → s.power.keep = false →
      ∃ t, exec .powerFail s = .next t ∧ t.power.supRail = false ∧ t.power.portRail = false ∧ t.power.holdUp = false ∧ t.lanes = [] ∧
        t.persist = s.persist.flash ∧ t.tim.ocxoOn = none ∧ t.mgmt.sessions = []) ∧
    (s.powered = false → s.power.supRail = true → s.power.fail = false → s.power.keep = true →
      ∃ t, exec .powerFail s = .next t ∧ t.power.supRail = true ∧ t.power.portRail = false ∧ t.power.fail = true ∧ t.lanes = [] ∧
        (∀ e : EngId, (t.engine e).state = .down ∧ (t.engine e).area0 = (s.engine e).area0 ∧ (t.engine e).area1 = (s.engine e).area1 ∧
          (t.engine e).hbLost = (s.engine e).hbLost) ∧ t.lease = {} ∧ t.fab.active = s.fab.active ∧ t.sealing.kwk = s.sealing.kwk ∧ t.prot.writes = [] ∧
        t.edit.armed = none) ∧
    (s.powered = false → s.power.portRail = false → s.power.supRail = false → s.power.fail = false →
      ∃ t, exec .powerFail s = .next t ∧
        t = (if s.power.keep then { s.quiet with power.holdUp := false }
          else { s.quiet with power.holdUp := false, tim.ocxoOn := none, tim.warm := false })))

/-- A feed that becomes valid or invalid is noted, and the first good one starts the module, but in recovery none starts the traffic (15 R403); KEEP and the charge of the hold-up store follow their
inputs (16 R410 to R412). A hot-swap switch that trips opens and is counted, stays open after three trips in a minute, and otherwise closes again
after 1 s (16 R411). -/
def Obligations.FeedsAndHotSwapSwitches : Prop :=
  (∀ (s : State),
    (∀ (f : FeedId) v o, s.powered = true →
      ∃ t, exec (.feedValid f v o) s = .next t ∧ t.power.valid = s.power.valid.set f true ∧ t.power.volts = s.power.volts.set f v ∧
        { t with power := s.power, store.conds := s.store.conds, fresh := s.fresh, tim.ocxoOn := s.tim.ocxoOn } = s.quiet) ∧
    (∀ (f : FeedId) v o, s.powered = false → s.power.seated = true → s.inReset = false → s.power.supRail = false → s.power.portRail = false →
      s.power.valid.length = 2 → s.power.hsOpen.length = 2 → s.power.locked.getD f false = false → o.railsGood = true →
      ∃ t, exec (.feedValid f v o) s = .next t ∧ t.power.valid = s.power.valid.set f true ∧ t.power.supRail = true ∧ t.power.cause = 0 ∧
        t.power.startAt = s.now) ∧
    (∀ (f : FeedId) v o, s.power.supRail = true → s.sup.state = 3 →
      ∃ t, exec (.feedValid f v o) s = .next t ∧ t.power.valid = s.power.valid.set f true ∧ t.power.portRail = s.power.portRail ∧
        { t with power := s.power, store.conds := s.store.conds, fresh := s.fresh, tim.ocxoOn := s.tim.ocxoOn } = s.quiet) ∧
    (∀ (f : FeedId) v, s.power.valid.getD f false = true →
      ∃ t, exec (.feedInvalid f v) s = .next t ∧ t.power.valid = s.power.valid.set f false ∧ t.power.volts = s.power.volts.set f v ∧
        t.power.invalidAt = s.power.invalidAt.set f s.now ∧ t.ctr 0xA000 3 (f + 1) 0 = (s.ctr 0xA000 3 (f + 1) 0 + 1) % 4294967296 ∧
        { t with power := s.power, cnt := s.cnt, store.conds := s.store.conds, fresh := s.fresh } = s.quiet) ∧
    (∃ t, exec .keepPresent s = .next t ∧ { t with tim.ocxoOn := s.tim.ocxoOn } = { s.quiet with power.keep := true } ∧
      t.tim.ocxoOn = (if s.tim.ocxoOn = none then some s.now else s.tim.ocxoOn)) ∧
    (s.power.keep = true → s.powered = false → s.power.portRail = false →
      ∃ t, exec .keepLost s = .next t ∧ t.power.keep = false ∧ t.power.supRail = false ∧ t.tim.ocxoOn = none ∧ t.tim.warm = false ∧
        t.persist = s.persist.flash ∧ t.mgmt.sessions = []) ∧
    (s.power.keep = true → s.powered = true ∨ s.power.portRail = true →
      ∃ t, exec .keepLost s = .next t ∧ { t with cnt := s.cnt } = { s.quiet with power.keep := false } ∧
        t.ctr 0xA000 3 5 0 = (s.ctr 0xA000 3 5 0 + 1) % 4294967296) ∧
    (s.noFeed = false → ∃ t, exec .holdUpCharged s = .next t ∧ t = { s.quiet with power.holdUp := true })) ∧
  (∀ (s : State) (f : FeedId),
    (∀ g : FeedId, g ≠ f → s.feeds f = true → s.feeds g = true →
      ∃ t, exec (.hotSwapTrip f) s = .next t ∧ t.power.hsOpen = s.power.hsOpen.set f true ∧
        t.power.locked = s.power.locked.set f (decide (3 ≤ (s.now :: (s.power.trips.getD f []).filter fun b => !s.over b 60000000000).length)) ∧
        t.ctr 0xA000 3 4 0 = (s.ctr 0xA000 3 4 0 + 1) % 4294967296 ∧ { t with power := s.power, cnt := s.cnt } = s.quiet) ∧
    (∀ b bs, s.power.trips.getD f [] = b :: bs → s.power.valid.getD f false = true → s.power.hsOpen.getD f false = true →
      s.power.locked.getD f false = false → s.over b 1000000000 = true →
      ∃ t, exec (.hotSwapRetry f) s = .next t ∧ t.power.hsOpen = s.power.hsOpen.set f false ∧
        { t with power.hsOpen := s.power.hsOpen, tim.ocxoOn := s.tim.ocxoOn } = s.quiet))

/-- COMMIT captures the staged settings into the older dictionary copy, and its end makes that copy the newest or stages the settings again;
RESTORE_DEFAULTS answers, invalidates both map checkpoints and resets the module (14 R371; 16 R425, R427, R429). A map checkpoint starts when it is
due and its area is erased, and its end makes it valid; an erase that ends leaves its area erased or bad; the budgets gain a unit every 2 h, to 24
(16 R424 to R427). -/
def Obligations.SettingsAndMapsAreKeptInFlash : Prop :=
  (∀ (s : State),
    (∀ rq arg x, Writes rq 0x9120 1 0 [arg] x s → s.persist.committing = false → s.persist.staged ≠ [] → s.erasedArea s.nextCopy = true →
      ∃ t, exec (.commit rq arg) s = .next t ∧ t.persist.committing = true ∧ t.persist.staged = [] ∧ t.persist.captureKeys = s.persist.staged ∧
        t.persist.dict = s.persist.dict ∧ t.mgmt.flight = s.mgmt.flight ++ [⟨rq.session, 2, writeReq rq 0x9120 1 0 [arg], s.now⟩] ∧
        { t.lessAnswers with persist := s.persist, mgmt.flight := s.mgmt.flight } = s.lessAnswers) ∧
    (s.persist.committing = true →
      ∃ t, exec (.commitComplete true) s = .next t ∧ t.persist.committing = false ∧ t.persist.lastResult = 0 ∧ t.persist.lastCommit = s.stamp ∧
        t.copy s.nextCopy = copyOf (max s.persist.copy0.seq s.persist.copy1.seq + 1) s.merged ∧ t.persist.dict = s.persist.dict ∧
        t.persist.staged = s.persist.staged ∧ t.ctr 0x9120 3 5 0 = (s.ctr 0x9120 3 5 0 + 1) % 4294967296 ∧ t.lanes = s.lanes ∧ t.fab = s.fab) ∧
    (s.persist.committing = true →
      ∃ t, exec (.commitComplete false) s = .next t ∧ t.persist.committing = false ∧ t.persist.lastResult = 15 ∧
        (∀ k, k ∈ t.persist.staged ↔ k ∈ s.persist.staged ∨ k ∈ s.persist.captureKeys) ∧ t.persist.dict = s.persist.dict ∧
        t.ctr 0xA020 3 1 0 = (s.ctr 0xA020 3 1 0 + 1) % 4294967296 ∧ t.lanes = s.lanes ∧ t.fab = s.fab) ∧
    (∀ rq x, Writes rq 0xA010 2 0 [0x5A] x s → s.persist.committing = false →
      ∃ t, exec (.restoreDefaults rq 0x5A) s = .next t ∧ Answered 2 (writeReq rq 0xA010 2 0 [0x5A]) 0 t ∧ t.power.internal = true ∧
        t.power.cause = 5 ∧ t.persist.restored = true ∧ t.persist.map0.valid = false ∧ t.persist.map1.valid = false ∧ t.persist.dict = [] ∧
        t.lanes = [] ∧ t.mgmt.sessions = [])) ∧
  (∀ (s : State),
    (s.sup.up = true → s.persist.mapDueAt.isSome = true → s.persist.mapWriting = none → s.lease.admitted = true → s.erasedArea s.nextMap = true →
      s.fab.copyBusy = false → s.over s.persist.mapAt 10000000000 = true →
      ∃ t, exec .mapCheckpointStart s = .next t ∧ t.persist.mapWriting = some s.nextMap ∧ t.persist.mapAt = s.now ∧
        t.persist.mapImage = s.imageNow (max s.persist.map0.seq s.persist.map1.seq + 1) ∧
        { t with persist := s.persist } = s.quiet) ∧
    (s.persist.mapWriting = some s.nextMap → max s.persist.map0.seq s.persist.map1.seq < s.persist.mapImage.seq → s.persist.mapImage.valid = true →
      ∃ t, exec (.mapCheckpointComplete true) s = .next t ∧ t.persist.mapWriting = none ∧ t.persist.mapDueAt = none ∧
        t.map s.nextMap = s.persist.mapImage.described ∧ t.ctr 0xA020 2 7 0 = (s.ctr 0xA020 2 7 0 + 1) % 4294967296 ∧ t.fab = s.fab ∧ t.lanes = s.lanes) ∧
    (∀ a, s.persist.mapWriting = some a →
      ∃ t, exec (.mapCheckpointComplete false) s = .next t ∧ t.persist.mapWriting = none ∧ t.persist.mapDueAt = s.persist.mapDueAt ∧
        t.ctr 0xA020 3 1 0 = (s.ctr 0xA020 3 1 0 + 1) % 4294967296 ∧ t.fab = s.fab ∧ t.lanes = s.lanes) ∧
    (∀ (a : Fin 14) ok, s.power.supRail = true → 8 ≤ (a : Nat) → (a : Nat) ≤ 11 → (s.erasingArea (a - 8)).isSome = true →
      ∃ t, exec (.flashEraseComplete a ok) s = .next t ∧ t.persist.eraseAt = s.persist.eraseAt.set (a - 8) none ∧
        t.persist.erased = s.persist.erased.set (a - 8) ok ∧ (t.persist.badArea.contains (a : Nat) = !ok) ∧
        { t with persist := s.persist, cnt := s.cnt } = s.quiet) ∧
    (s.power.supRail = true → s.over s.persist.budgetAt 7200000000000 = true → s.erasedArea s.nextCopy = true → s.erasedArea s.nextMap = true →
      ∃ t, exec .eraseBudgetUnit s = .next t ∧
        t = { s.quiet with persist.budget := s.persist.budget.map fun b => min 24 (b + 1), persist.budgetAt := s.now }))
end

