-- ==== Sys2Proof/Laws/Cipher.lean ====
section
/-! SUPPORT. What sealing and opening do to one another, whatever the cipher gives. -/

namespace Sys2Proof.Machine

@[simp] theorem beBytes_length (n v : Nat) : (beBytes n v).length = n := by
  induction n generalizing v with
  | zero => rfl
  | succ n ih => simp [beBytes, ih]

@[simp] theorem padTo_length (n : Nat) (b : Bytes) : (padTo n b).length = n := by
  simp [padTo, zeros]; omega

@[simp] theorem gcmTag_length (key : BitVec 256) (iv : Nat) (aad c : Bytes) : (gcmTag key iv aad c).length = 16 := by
  simp [gcmTag]

@[simp] theorem gcmText_length (key : BitVec 256) (iv : Nat) (m : Bytes) : (gcmText key iv m).length = m.length := by
  simp [gcmText]

/-- Deciphering is enciphering again (11 R284). -/
theorem gcmText_twice (key : BitVec 256) (iv : Nat) (m : Bytes) : gcmText key iv (gcmText key iv m) = m := by
  apply List.ext_getElem
  · simp
  · intro i h1 h2
    simp [gcmText]

/-- What was sealed opens to its plaintext under the same key, IV and AAD (11 R303, Table 11-9). -/
theorem gcmOpen_seal (key : BitVec 256) (iv : Nat) (aad m : Bytes) : gcmOpen key iv aad (gcmSeal key iv aad m) = some m := by
  simp [gcmOpen, gcmSeal, gcmText_twice]

end Sys2Proof.Machine
end

