-- ==== Sys2Proof/Laws/Table.lean ====
section
/-! SUPPORT. Read after write, and the canonical form, of the sparse tables. -/

namespace Sys2Proof.Machine

variable {α : Type}

theorem tget_tins_same (d : α) (t : Tab α) (n : Nat) (a : α) : tget d (tins t n a) n = a := by
  induction t with
  | nil => simp [tins, tget]
  | cons e t ih =>
    obtain ⟨k, v⟩ := e
    simp only [tins]
    split
    · simp [tget]
    · split
      · simp [tget]
      · simp_all [tget]

theorem tget_tins_other (d : α) (t : Tab α) (n m : Nat) (a : α) (h : m ≠ n) :
    tget d (tins t n a) m = tget d t m := by
  induction t with
  | nil => simp [tins, tget, h]
  | cons e t ih =>
    obtain ⟨k, v⟩ := e
    simp only [tins]
    split
    · simp [tget, h]
    · split
      · subst_vars; simp [tget, h]
      · simp [tget, ih]

theorem tget_tdel_other (d : α) (t : Tab α) (n m : Nat) (h : m ≠ n) :
    tget d (tdel t n) m = tget d t m := by
  induction t with
  | nil => rfl
  | cons e t ih =>
    obtain ⟨k, v⟩ := e
    simp only [tdel]
    split
    · subst_vars; simp [tget, h, ih]
    · simp [tget, ih]

@[simp] theorem tget_tdel_same (d : α) (t : Tab α) (n : Nat) : tget d (tdel t n) n = d := by
  induction t with
  | nil => rfl
  | cons e t ih =>
    obtain ⟨k, v⟩ := e
    simp only [tdel]
    split
    · exact ih
    · rename_i hk; simp [tget, hk, ih]

/-- A write is read back. -/
@[simp] theorem tget_tput_same [DecidableEq α] (d : α) (t : Tab α) (n : Nat) (a : α) : tget d (tput d t n a) n = a := by
  simp only [tput]
  split
  · subst_vars; exact tget_tdel_same _ t n
  · exact tget_tins_same d t n a

/-- A write leaves every other key alone. -/
theorem tget_tput_other [DecidableEq α] (d : α) (t : Tab α) (n m : Nat) (a : α) (h : m ≠ n) :
    tget d (tput d t n a) m = tget d t m := by
  simp only [tput]
  split
  · exact tget_tdel_other d t n m h
  · exact tget_tins_other d t n m a h

theorem mem_tdel (t : Tab α) (n : Nat) (e : Nat × α) (h : e ∈ tdel t n) : e ∈ t := by
  induction t with
  | nil => exact h
  | cons e' t ih =>
    obtain ⟨k, v⟩ := e'
    simp only [tdel] at h
    split at h
    · exact List.mem_cons_of_mem _ (ih h)
    · rcases List.mem_cons.mp h with h | h
      · simp [h]
      · exact List.mem_cons_of_mem _ (ih h)

theorem mem_tins (t : Tab α) (n : Nat) (a : α) (e : Nat × α) (h : e ∈ tins t n a) : e = (n, a) ∨ e ∈ t := by
  induction t with
  | nil => simpa [tins] using h
  | cons e' t ih =>
    obtain ⟨k, v⟩ := e'
    simp only [tins] at h
    split at h
    · simpa using h
    · split at h
      · rcases List.mem_cons.mp h with h | h
        · exact .inl h
        · exact .inr (List.mem_cons_of_mem _ h)
      · rcases List.mem_cons.mp h with h | h
        · exact .inr (by simp [h])
        · rcases ih h with h | h
          · exact .inl h
          · exact .inr (List.mem_cons_of_mem _ h)

theorem twf_nil (d : α) : twf d [] := ⟨List.Pairwise.nil, by simp⟩

theorem twf_tdel (d : α) (t : Tab α) (n : Nat) (h : twf d t) : twf d (tdel t n) := by
  refine ⟨?_, fun e he => h.2 e (mem_tdel t n e he)⟩
  have hp := h.1
  clear h
  induction t with
  | nil => exact hp
  | cons e t ih =>
    obtain ⟨k, v⟩ := e
    have hc := List.pairwise_cons.mp hp
    simp only [tdel]
    split
    · exact ih hc.2
    · exact List.pairwise_cons.mpr ⟨fun e he => hc.1 e (mem_tdel t n e he), ih hc.2⟩

theorem twf_tins (d : α) (t : Tab α) (n : Nat) (a : α) (ha : a ≠ d) (h : twf d t) : twf d (tins t n a) := by
  refine ⟨?_, fun e he => ?_⟩
  · have hp := h.1
    clear h
    induction t with
    | nil => simp [tins]
    | cons e t ih =>
      obtain ⟨k, v⟩ := e
      have hc := List.pairwise_cons.mp hp
      simp only [tins]
      split
      · rename_i hk
        refine List.pairwise_cons.mpr ⟨fun e he => ?_, hp⟩
        rcases List.mem_cons.mp he with rfl | he
        · exact hk
        · exact lt_trans hk (hc.1 e he)
      · split
        · rename_i hk; subst hk
          exact List.pairwise_cons.mpr ⟨fun e he => hc.1 e he, hc.2⟩
        · rename_i h1 h2
          refine List.pairwise_cons.mpr ⟨fun e he => ?_, ih hc.2⟩
          rcases mem_tins t n a e he with rfl | he
          · show k < n; omega
          · exact hc.1 e he
  · rcases mem_tins t n a e he with rfl | he
    · exact ha
    · exact h.2 e he

/-- Every write keeps the canonical form. -/
theorem twf_tput [DecidableEq α] (d : α) (t : Tab α) (n : Nat) (a : α) (h : twf d t) : twf d (tput d t n a) := by
  simp only [tput]
  split
  · exact twf_tdel d t n h
  · rename_i ha; exact twf_tins d t n a ha h

theorem twf_tmod [DecidableEq α] (d : α) (t : Tab α) (n : Nat) (f : α → α) (h : twf d t) : twf d (tmod d t n f) :=
  twf_tput d t n _ h

theorem twf_tputs [DecidableEq α] (d : α) (t : Tab α) (n : Nat) (as : List α) (h : twf d t) : twf d (tputs d t n as) := by
  induction as generalizing t n with
  | nil => exact h
  | cons a as ih => exact ih _ _ (twf_tput d t n a h)

theorem twf_tmap [DecidableEq α] (d : α) (t : Tab α) (f : Nat → α → α) (h : twf d t) : twf d (tmap d t f) := by
  refine ⟨?_, fun e he => ?_⟩
  · have h1 : (t.map fun e => (e.1, f e.1 e.2)).Pairwise fun a b => a.1 < b.1 := by
      simpa [List.pairwise_map] using h.1
    exact h1.sublist List.filter_sublist
  · simpa [tmap] using (List.mem_filter.mp he).2

@[simp] theorem tget_tmod_same [DecidableEq α] (d : α) (t : Tab α) (n : Nat) (f : α → α) :
    tget d (tmod d t n f) n = f (tget d t n) := tget_tput_same d t n _

theorem tget_tmod_other [DecidableEq α] (d : α) (t : Tab α) (n m : Nat) (f : α → α) (h : m ≠ n) :
    tget d (tmod d t n f) m = tget d t m := tget_tput_other d t n m _ h

theorem tget_tput [DecidableEq α] (d : α) (t : Tab α) (n m : Nat) (a : α) :
    tget d (tput d t n a) m = if m = n then a else tget d t m := by
  split
  · subst_vars; simp
  · exact tget_tput_other _ _ _ _ _ (by assumption)

theorem tget_tmod [DecidableEq α] (d : α) (t : Tab α) (n m : Nat) (f : α → α) :
    tget d (tmod d t n f) m = if m = n then f (tget d t n) else tget d t m := tget_tput d t n m _

end Sys2Proof.Machine
end

