-- ==== Sys2Proof/Laws/State.lean ====
section
/-! SUPPORT. What each named update and each shared operation leaves alone, component by component. -/

namespace Sys2Proof.Machine

/-- What each application keeps, the fold keeps. -/
theorem State.each_keep {α β : Type} (π : State → β) (l : List α) (f : α → State → State)
    (h : ∀ a s, π (f a s) = π s) (s : State) : π (s.each l f) = π s := by
  simp only [State.each]
  induction l generalizing s with
  | nil => rfl
  | cons a l ih => simp only [List.foldl_cons]; rw [ih, h]

@[simp] theorem State.fixed_frame (s t : State) :
    (s.fixed t).fresh = t.fresh ∧ (s.fixed t).out = t.out ∧ (s.fixed t).sup = t.sup ∧ (s.fixed t).mgmt = t.mgmt ∧ (s.fixed t).store = t.store ∧ (s.fixed t).persist = t.persist ∧ (s.fixed t).cnt = t.cnt ∧ (s.fixed t).restarted = t.restarted ∧ (s.fixed t).lanes = t.lanes ∧ (s.fixed t).ports = t.ports ∧ (s.fixed t).fab = t.fab ∧ (s.fixed t).edit = t.edit ∧ (s.fixed t).prot = t.prot ∧ (s.fixed t).ending = t.ending ∧ (s.fixed t).engA = t.engA ∧ (s.fixed t).engB = t.engB ∧ (s.fixed t).lease = t.lease ∧ (s.fixed t).tim = t.tim ∧ (s.fixed t).tod = t.tod ∧ (s.fixed t).sealing = t.sealing ∧ (s.fixed t).pm = t.pm ∧ (s.fixed t).sec = t.sec ∧
    (s.fixed t).pending = s.pending ∧ (s.fixed t).now = s.now ∧ (s.fixed t).power = { t.power with ordering := s.power.ordering } := by
  exact ⟨rfl, rfl, rfl, rfl, rfl, rfl, rfl, rfl, rfl, rfl, rfl, rfl, rfl, rfl, rfl, rfl, rfl, rfl, rfl, rfl, rfl, rfl, rfl, rfl, rfl⟩

@[simp] theorem State.fixed_reads (s t : State) :
    (∀ k, (s.fixed t).lane k = t.lane k) ∧ (∀ i b e, (s.fixed t).val i b e = t.val i b e) ∧ (∀ i b e, (s.fixed t).cfg i b e = t.cfg i b e) ∧
    (∀ i b e n, (s.fixed t).cfgF i b e n = t.cfgF i b e n) ∧ (s.fixed t).portUp = t.portUp ∧ (∀ l, (s.fixed t).enabled l = t.enabled l) ∧
    (∀ i, (s.fixed t).session? i = t.session? i) ∧ (∀ e, (s.fixed t).engine e = t.engine e) ∧
    (∀ i b f e, (s.fixed t).ctr i b f e = t.ctr i b f e) := by
  simp [State.lane, State.val, State.cfg, State.cfgF, State.portUp, State.enabled, State.session?, State.engine, State.ctr]

@[simp] theorem State.quiet_frame (s : State) :
    (s.quiet).pending = s.pending ∧ (s.quiet).now = s.now ∧ (s.quiet).fresh = s.fresh ∧ (s.quiet).power = s.power ∧ (s.quiet).sup = s.sup ∧
    (s.quiet).mgmt = s.mgmt ∧ (s.quiet).store = s.store ∧ (s.quiet).persist = s.persist ∧ (s.quiet).cnt = s.cnt ∧ (s.quiet).restarted = s.restarted ∧
    (s.quiet).lanes = s.lanes ∧ (s.quiet).ports = s.ports ∧ (s.quiet).fab = s.fab ∧ (s.quiet).edit = s.edit ∧ (s.quiet).prot = s.prot ∧ (s.quiet).ending = s.ending ∧
    (s.quiet).engA = s.engA ∧ (s.quiet).engB = s.engB ∧ (s.quiet).lease = s.lease ∧ (s.quiet).tim = s.tim ∧ (s.quiet).tod = s.tod ∧
    (s.quiet).sealing = s.sealing ∧ (s.quiet).pm = s.pm ∧ (s.quiet).sec = s.sec := by
  exact ⟨rfl, rfl, rfl, rfl, rfl, rfl, rfl, rfl, rfl, rfl, rfl, rfl, rfl, rfl, rfl, rfl, rfl, rfl, rfl, rfl, rfl, rfl, rfl, rfl⟩

@[simp] theorem State.quiet_reads (s : State) :
    (∀ k₁, (s.quiet).lane k₁ = s.lane k₁) ∧ (∀ i₁ b₁ e₁, (s.quiet).val i₁ b₁ e₁ = s.val i₁ b₁ e₁) ∧
    (∀ i₁ b₁ e₁, (s.quiet).cfg i₁ b₁ e₁ = s.cfg i₁ b₁ e₁) ∧ (∀ i₁ b₁ e₁ n₁, (s.quiet).cfgF i₁ b₁ e₁ n₁ = s.cfgF i₁ b₁ e₁ n₁) ∧
    (s.quiet).portUp = s.portUp ∧ (∀ l₁, (s.quiet).enabled l₁ = s.enabled l₁) ∧ (∀ i₁, (s.quiet).session? i₁ = s.session? i₁) ∧
    (∀ e₁, (s.quiet).engine e₁ = s.engine e₁) ∧ (∀ i₁ b₁ f₁ e₁, (s.quiet).ctr i₁ b₁ f₁ e₁ = s.ctr i₁ b₁ f₁ e₁) :=
  ⟨fun _ => by simp [State.lane], fun _ _ _ => by simp [State.val], fun _ _ _ => by simp [State.cfg, State.val], fun _ _ _ _ => by simp [State.cfgF, State.val], by simp [State.portUp], fun _ => by simp [State.enabled, State.cfg, State.val, State.portUp], fun _ => by simp [State.session?], fun _ => by simp [State.engine], fun _ _ _ _ => by simp [State.ctr]⟩

@[simp] theorem State.emit_frame (s : State) (o : Output) :
    (s.emit o).pending = s.pending ∧ (s.emit o).now = s.now ∧ (s.emit o).fresh = s.fresh ∧ (s.emit o).power = s.power ∧ (s.emit o).sup = s.sup ∧
    (s.emit o).mgmt = s.mgmt ∧ (s.emit o).store = s.store ∧ (s.emit o).persist = s.persist ∧ (s.emit o).cnt = s.cnt ∧
    (s.emit o).restarted = s.restarted ∧ (s.emit o).lanes = s.lanes ∧ (s.emit o).ports = s.ports ∧ (s.emit o).fab = s.fab ∧
    (s.emit o).edit = s.edit ∧ (s.emit o).prot = s.prot ∧ (s.emit o).ending = s.ending ∧ (s.emit o).engA = s.engA ∧ (s.emit o).engB = s.engB ∧ (s.emit o).lease = s.lease ∧
    (s.emit o).tim = s.tim ∧ (s.emit o).tod = s.tod ∧ (s.emit o).sealing = s.sealing ∧ (s.emit o).pm = s.pm ∧ (s.emit o).sec = s.sec := by
  exact ⟨rfl, rfl, rfl, rfl, rfl, rfl, rfl, rfl, rfl, rfl, rfl, rfl, rfl, rfl, rfl, rfl, rfl, rfl, rfl, rfl, rfl, rfl, rfl, rfl⟩

@[simp] theorem State.emit_reads (s : State) (o : Output) :
    (∀ k₁, (s.emit o).lane k₁ = s.lane k₁) ∧ (∀ i₁ b₁ e₁, (s.emit o).val i₁ b₁ e₁ = s.val i₁ b₁ e₁) ∧
    (∀ i₁ b₁ e₁, (s.emit o).cfg i₁ b₁ e₁ = s.cfg i₁ b₁ e₁) ∧ (∀ i₁ b₁ e₁ n₁, (s.emit o).cfgF i₁ b₁ e₁ n₁ = s.cfgF i₁ b₁ e₁ n₁) ∧
    (s.emit o).portUp = s.portUp ∧ (∀ l₁, (s.emit o).enabled l₁ = s.enabled l₁) ∧ (∀ i₁, (s.emit o).session? i₁ = s.session? i₁) ∧
    (∀ e₁, (s.emit o).engine e₁ = s.engine e₁) ∧ (∀ i₁ b₁ f₁ e₁, (s.emit o).ctr i₁ b₁ f₁ e₁ = s.ctr i₁ b₁ f₁ e₁) :=
  ⟨fun _ => by simp [State.lane], fun _ _ _ => by simp [State.val], fun _ _ _ => by simp [State.cfg, State.val], fun _ _ _ _ => by simp [State.cfgF, State.val], by simp [State.portUp], fun _ => by simp [State.enabled, State.cfg, State.val, State.portUp], fun _ => by simp [State.session?], fun _ => by simp [State.engine], fun _ _ _ _ => by simp [State.ctr]⟩

@[simp] theorem State.emits_frame (s : State) (os : List Output) :
    (s.emits os).pending = s.pending ∧ (s.emits os).now = s.now ∧ (s.emits os).fresh = s.fresh ∧ (s.emits os).power = s.power ∧
    (s.emits os).sup = s.sup ∧ (s.emits os).mgmt = s.mgmt ∧ (s.emits os).store = s.store ∧ (s.emits os).persist = s.persist ∧
    (s.emits os).cnt = s.cnt ∧ (s.emits os).restarted = s.restarted ∧ (s.emits os).lanes = s.lanes ∧ (s.emits os).ports = s.ports ∧
    (s.emits os).fab = s.fab ∧ (s.emits os).edit = s.edit ∧ (s.emits os).prot = s.prot ∧ (s.emits os).ending = s.ending ∧ (s.emits os).engA = s.engA ∧ (s.emits os).engB = s.engB ∧
    (s.emits os).lease = s.lease ∧ (s.emits os).tim = s.tim ∧ (s.emits os).tod = s.tod ∧ (s.emits os).sealing = s.sealing ∧ (s.emits os).pm = s.pm ∧
    (s.emits os).sec = s.sec := by
  exact ⟨rfl, rfl, rfl, rfl, rfl, rfl, rfl, rfl, rfl, rfl, rfl, rfl, rfl, rfl, rfl, rfl, rfl, rfl, rfl, rfl, rfl, rfl, rfl, rfl⟩

@[simp] theorem State.emits_reads (s : State) (os : List Output) :
    (∀ k₁, (s.emits os).lane k₁ = s.lane k₁) ∧ (∀ i₁ b₁ e₁, (s.emits os).val i₁ b₁ e₁ = s.val i₁ b₁ e₁) ∧
    (∀ i₁ b₁ e₁, (s.emits os).cfg i₁ b₁ e₁ = s.cfg i₁ b₁ e₁) ∧ (∀ i₁ b₁ e₁ n₁, (s.emits os).cfgF i₁ b₁ e₁ n₁ = s.cfgF i₁ b₁ e₁ n₁) ∧
    (s.emits os).portUp = s.portUp ∧ (∀ l₁, (s.emits os).enabled l₁ = s.enabled l₁) ∧ (∀ i₁, (s.emits os).session? i₁ = s.session? i₁) ∧
    (∀ e₁, (s.emits os).engine e₁ = s.engine e₁) ∧ (∀ i₁ b₁ f₁ e₁, (s.emits os).ctr i₁ b₁ f₁ e₁ = s.ctr i₁ b₁ f₁ e₁) :=
  ⟨fun _ => by simp [State.lane], fun _ _ _ => by simp [State.val], fun _ _ _ => by simp [State.cfg, State.val], fun _ _ _ _ => by simp [State.cfgF, State.val], by simp [State.portUp], fun _ => by simp [State.enabled, State.cfg, State.val, State.portUp], fun _ => by simp [State.session?], fun _ => by simp [State.engine], fun _ _ _ _ => by simp [State.ctr]⟩

@[simp] theorem State.setLane_frame (s : State) (l : Nat) (x : Lane) :
    (s.setLane l x).pending = s.pending ∧ (s.setLane l x).now = s.now ∧ (s.setLane l x).fresh = s.fresh ∧ (s.setLane l x).out = s.out ∧
    (s.setLane l x).power = s.power ∧ (s.setLane l x).sup = s.sup ∧ (s.setLane l x).mgmt = s.mgmt ∧ (s.setLane l x).store = s.store ∧
    (s.setLane l x).persist = s.persist ∧ (s.setLane l x).cnt = s.cnt ∧ (s.setLane l x).restarted = s.restarted ∧ (s.setLane l x).ports = s.ports ∧
    (s.setLane l x).fab = s.fab ∧ (s.setLane l x).edit = s.edit ∧ (s.setLane l x).prot = s.prot ∧ (s.setLane l x).ending = s.ending ∧ (s.setLane l x).engA = s.engA ∧
    (s.setLane l x).engB = s.engB ∧ (s.setLane l x).lease = s.lease ∧ (s.setLane l x).tim = s.tim ∧ (s.setLane l x).tod = s.tod ∧
    (s.setLane l x).sealing = s.sealing ∧ (s.setLane l x).pm = s.pm ∧ (s.setLane l x).sec = s.sec := by
  exact ⟨rfl, rfl, rfl, rfl, rfl, rfl, rfl, rfl, rfl, rfl, rfl, rfl, rfl, rfl, rfl, rfl, rfl, rfl, rfl, rfl, rfl, rfl, rfl, rfl⟩

@[simp] theorem State.setLane_reads (s : State) (l : Nat) (x : Lane) :
    (∀ i₁ b₁ e₁, (s.setLane l x).val i₁ b₁ e₁ = s.val i₁ b₁ e₁) ∧ (∀ i₁ b₁ e₁, (s.setLane l x).cfg i₁ b₁ e₁ = s.cfg i₁ b₁ e₁) ∧
    (∀ i₁ b₁ e₁ n₁, (s.setLane l x).cfgF i₁ b₁ e₁ n₁ = s.cfgF i₁ b₁ e₁ n₁) ∧ (s.setLane l x).portUp = s.portUp ∧
    (∀ l₁, (s.setLane l x).enabled l₁ = s.enabled l₁) ∧ (∀ i₁, (s.setLane l x).session? i₁ = s.session? i₁) ∧
    (∀ e₁, (s.setLane l x).engine e₁ = s.engine e₁) ∧ (∀ i₁ b₁ f₁ e₁, (s.setLane l x).ctr i₁ b₁ f₁ e₁ = s.ctr i₁ b₁ f₁ e₁) :=
  ⟨fun _ _ _ => by simp [State.val], fun _ _ _ => by simp [State.cfg, State.val], fun _ _ _ _ => by simp [State.cfgF, State.val], by simp [State.portUp], fun _ => by simp [State.enabled, State.cfg, State.val, State.portUp], fun _ => by simp [State.session?], fun _ => by simp [State.engine], fun _ _ _ _ => by simp [State.ctr]⟩

@[simp] theorem State.modLane_frame (s : State) (l : Nat) (f : Lane → Lane) :
    (s.modLane l f).pending = s.pending ∧ (s.modLane l f).now = s.now ∧ (s.modLane l f).fresh = s.fresh ∧ (s.modLane l f).out = s.out ∧
    (s.modLane l f).power = s.power ∧ (s.modLane l f).sup = s.sup ∧ (s.modLane l f).mgmt = s.mgmt ∧ (s.modLane l f).store = s.store ∧
    (s.modLane l f).persist = s.persist ∧ (s.modLane l f).cnt = s.cnt ∧ (s.modLane l f).restarted = s.restarted ∧ (s.modLane l f).ports = s.ports ∧
    (s.modLane l f).fab = s.fab ∧ (s.modLane l f).edit = s.edit ∧ (s.modLane l f).prot = s.prot ∧ (s.modLane l f).ending = s.ending ∧ (s.modLane l f).engA = s.engA ∧
    (s.modLane l f).engB = s.engB ∧ (s.modLane l f).lease = s.lease ∧ (s.modLane l f).tim = s.tim ∧ (s.modLane l f).tod = s.tod ∧
    (s.modLane l f).sealing = s.sealing ∧ (s.modLane l f).pm = s.pm ∧ (s.modLane l f).sec = s.sec := by
  exact ⟨rfl, rfl, rfl, rfl, rfl, rfl, rfl, rfl, rfl, rfl, rfl, rfl, rfl, rfl, rfl, rfl, rfl, rfl, rfl, rfl, rfl, rfl, rfl, rfl⟩

@[simp] theorem State.modLane_reads (s : State) (l : Nat) (f : Lane → Lane) :
    (∀ i₁ b₁ e₁, (s.modLane l f).val i₁ b₁ e₁ = s.val i₁ b₁ e₁) ∧ (∀ i₁ b₁ e₁, (s.modLane l f).cfg i₁ b₁ e₁ = s.cfg i₁ b₁ e₁) ∧
    (∀ i₁ b₁ e₁ n₁, (s.modLane l f).cfgF i₁ b₁ e₁ n₁ = s.cfgF i₁ b₁ e₁ n₁) ∧ (s.modLane l f).portUp = s.portUp ∧
    (∀ l₁, (s.modLane l f).enabled l₁ = s.enabled l₁) ∧ (∀ i₁, (s.modLane l f).session? i₁ = s.session? i₁) ∧
    (∀ e₁, (s.modLane l f).engine e₁ = s.engine e₁) ∧ (∀ i₁ b₁ f₁ e₁, (s.modLane l f).ctr i₁ b₁ f₁ e₁ = s.ctr i₁ b₁ f₁ e₁) :=
  ⟨fun _ _ _ => by simp [State.val], fun _ _ _ => by simp [State.cfg, State.val], fun _ _ _ _ => by simp [State.cfgF, State.val], by simp [State.portUp], fun _ => by simp [State.enabled, State.cfg, State.val, State.portUp], fun _ => by simp [State.session?], fun _ => by simp [State.engine], fun _ _ _ _ => by simp [State.ctr]⟩

@[simp] theorem State.modPort_frame (s : State) (p : Nat) (f : Port → Port) :
    (s.modPort p f).pending = s.pending ∧ (s.modPort p f).now = s.now ∧ (s.modPort p f).fresh = s.fresh ∧ (s.modPort p f).out = s.out ∧
    (s.modPort p f).power = s.power ∧ (s.modPort p f).sup = s.sup ∧ (s.modPort p f).mgmt = s.mgmt ∧ (s.modPort p f).store = s.store ∧
    (s.modPort p f).persist = s.persist ∧ (s.modPort p f).cnt = s.cnt ∧ (s.modPort p f).restarted = s.restarted ∧ (s.modPort p f).lanes = s.lanes ∧
    (s.modPort p f).fab = s.fab ∧ (s.modPort p f).edit = s.edit ∧ (s.modPort p f).prot = s.prot ∧ (s.modPort p f).ending = s.ending ∧ (s.modPort p f).engA = s.engA ∧
    (s.modPort p f).engB = s.engB ∧ (s.modPort p f).lease = s.lease ∧ (s.modPort p f).tim = s.tim ∧ (s.modPort p f).tod = s.tod ∧
    (s.modPort p f).sealing = s.sealing ∧ (s.modPort p f).pm = s.pm ∧ (s.modPort p f).sec = s.sec := by
  exact ⟨rfl, rfl, rfl, rfl, rfl, rfl, rfl, rfl, rfl, rfl, rfl, rfl, rfl, rfl, rfl, rfl, rfl, rfl, rfl, rfl, rfl, rfl, rfl, rfl⟩

@[simp] theorem State.modPort_reads (s : State) (p : Nat) (f : Port → Port) :
    (∀ k₁, (s.modPort p f).lane k₁ = s.lane k₁) ∧ (∀ i₁ b₁ e₁, (s.modPort p f).val i₁ b₁ e₁ = s.val i₁ b₁ e₁) ∧
    (∀ i₁ b₁ e₁, (s.modPort p f).cfg i₁ b₁ e₁ = s.cfg i₁ b₁ e₁) ∧ (∀ i₁ b₁ e₁ n₁, (s.modPort p f).cfgF i₁ b₁ e₁ n₁ = s.cfgF i₁ b₁ e₁ n₁) ∧
    (s.modPort p f).portUp = s.portUp ∧ (∀ l₁, (s.modPort p f).enabled l₁ = s.enabled l₁) ∧ (∀ i₁, (s.modPort p f).session? i₁ = s.session? i₁) ∧
    (∀ e₁, (s.modPort p f).engine e₁ = s.engine e₁) ∧ (∀ i₁ b₁ f₁ e₁, (s.modPort p f).ctr i₁ b₁ f₁ e₁ = s.ctr i₁ b₁ f₁ e₁) :=
  ⟨fun _ => by simp [State.lane], fun _ _ _ => by simp [State.val], fun _ _ _ => by simp [State.cfg, State.val], fun _ _ _ _ => by simp [State.cfgF, State.val], by simp [State.portUp], fun _ => by simp [State.enabled, State.cfg, State.val, State.portUp], fun _ => by simp [State.session?], fun _ => by simp [State.engine], fun _ _ _ _ => by simp [State.ctr]⟩

@[simp] theorem State.modEngine_frame (s : State) (e : EngId) (f : Engine → Engine) :
    (s.modEngine e f).pending = s.pending ∧ (s.modEngine e f).now = s.now ∧ (s.modEngine e f).fresh = s.fresh ∧ (s.modEngine e f).out = s.out ∧
    (s.modEngine e f).power = s.power ∧ (s.modEngine e f).sup = s.sup ∧ (s.modEngine e f).mgmt = s.mgmt ∧ (s.modEngine e f).store = s.store ∧
    (s.modEngine e f).persist = s.persist ∧ (s.modEngine e f).cnt = s.cnt ∧ (s.modEngine e f).restarted = s.restarted ∧
    (s.modEngine e f).lanes = s.lanes ∧ (s.modEngine e f).ports = s.ports ∧ (s.modEngine e f).fab = s.fab ∧ (s.modEngine e f).edit = s.edit ∧
    (s.modEngine e f).prot = s.prot ∧ (s.modEngine e f).ending = s.ending ∧ (s.modEngine e f).lease = s.lease ∧ (s.modEngine e f).tim = s.tim ∧ (s.modEngine e f).tod = s.tod ∧
    (s.modEngine e f).sealing = s.sealing ∧ (s.modEngine e f).pm = s.pm ∧ (s.modEngine e f).sec = s.sec := by
  unfold State.modEngine; split <;> simp

@[simp] theorem State.modEngine_reads (s : State) (e : EngId) (f : Engine → Engine) :
    (∀ k₁, (s.modEngine e f).lane k₁ = s.lane k₁) ∧ (∀ i₁ b₁ e₁, (s.modEngine e f).val i₁ b₁ e₁ = s.val i₁ b₁ e₁) ∧
    (∀ i₁ b₁ e₁, (s.modEngine e f).cfg i₁ b₁ e₁ = s.cfg i₁ b₁ e₁) ∧ (∀ i₁ b₁ e₁ n₁, (s.modEngine e f).cfgF i₁ b₁ e₁ n₁ = s.cfgF i₁ b₁ e₁ n₁) ∧
    (s.modEngine e f).portUp = s.portUp ∧ (∀ l₁, (s.modEngine e f).enabled l₁ = s.enabled l₁) ∧
    (∀ i₁, (s.modEngine e f).session? i₁ = s.session? i₁) ∧ (∀ i₁ b₁ f₁ e₁, (s.modEngine e f).ctr i₁ b₁ f₁ e₁ = s.ctr i₁ b₁ f₁ e₁) :=
  ⟨fun _ => by simp [State.lane], fun _ _ _ => by simp [State.val], fun _ _ _ => by simp [State.cfg, State.val], fun _ _ _ _ => by simp [State.cfgF, State.val], by simp [State.portUp], fun _ => by simp [State.enabled, State.cfg, State.val, State.portUp], fun _ => by simp [State.session?], fun _ _ _ _ => by simp [State.ctr]⟩

@[simp] theorem State.setVal_frame (s : State) (i b e : Nat) (v : List Nat) :
    (s.setVal i b e v).pending = s.pending ∧ (s.setVal i b e v).now = s.now ∧ (s.setVal i b e v).fresh = s.fresh ∧ (s.setVal i b e v).out = s.out ∧
    (s.setVal i b e v).power = s.power ∧ (s.setVal i b e v).sup = s.sup ∧ (s.setVal i b e v).mgmt = s.mgmt ∧ (s.setVal i b e v).store = s.store ∧
    (s.setVal i b e v).cnt = s.cnt ∧ (s.setVal i b e v).restarted = s.restarted ∧ (s.setVal i b e v).lanes = s.lanes ∧
    (s.setVal i b e v).ports = s.ports ∧ (s.setVal i b e v).fab = s.fab ∧ (s.setVal i b e v).edit = s.edit ∧ (s.setVal i b e v).prot = s.prot ∧ (s.setVal i b e v).ending = s.ending ∧
    (s.setVal i b e v).engA = s.engA ∧ (s.setVal i b e v).engB = s.engB ∧ (s.setVal i b e v).lease = s.lease ∧ (s.setVal i b e v).tim = s.tim ∧
    (s.setVal i b e v).tod = s.tod ∧ (s.setVal i b e v).sealing = s.sealing ∧ (s.setVal i b e v).pm = s.pm ∧ (s.setVal i b e v).sec = s.sec := by
  exact ⟨rfl, rfl, rfl, rfl, rfl, rfl, rfl, rfl, rfl, rfl, rfl, rfl, rfl, rfl, rfl, rfl, rfl, rfl, rfl, rfl, rfl, rfl, rfl, rfl⟩

@[simp] theorem State.setVal_reads (s : State) (i b e : Nat) (v : List Nat) :
    (∀ k₁, (s.setVal i b e v).lane k₁ = s.lane k₁) ∧ (s.setVal i b e v).portUp = s.portUp ∧ (∀ i₁, (s.setVal i b e v).session? i₁ = s.session? i₁) ∧
    (∀ e₁, (s.setVal i b e v).engine e₁ = s.engine e₁) ∧ (∀ i₁ b₁ f₁ e₁, (s.setVal i b e v).ctr i₁ b₁ f₁ e₁ = s.ctr i₁ b₁ f₁ e₁) :=
  ⟨fun _ => by simp [State.lane], by simp [State.portUp], fun _ => by simp [State.session?], fun _ => by simp [State.engine], fun _ _ _ _ => by simp [State.ctr]⟩

@[simp] theorem State.stage_frame (s : State) (i b e : Nat) :
    (s.stage i b e).pending = s.pending ∧ (s.stage i b e).now = s.now ∧ (s.stage i b e).fresh = s.fresh ∧ (s.stage i b e).out = s.out ∧
    (s.stage i b e).power = s.power ∧ (s.stage i b e).sup = s.sup ∧ (s.stage i b e).mgmt = s.mgmt ∧ (s.stage i b e).store = s.store ∧
    (s.stage i b e).cnt = s.cnt ∧ (s.stage i b e).restarted = s.restarted ∧ (s.stage i b e).lanes = s.lanes ∧ (s.stage i b e).ports = s.ports ∧
    (s.stage i b e).fab = s.fab ∧ (s.stage i b e).edit = s.edit ∧ (s.stage i b e).prot = s.prot ∧ (s.stage i b e).ending = s.ending ∧ (s.stage i b e).engA = s.engA ∧
    (s.stage i b e).engB = s.engB ∧ (s.stage i b e).lease = s.lease ∧ (s.stage i b e).tim = s.tim ∧ (s.stage i b e).tod = s.tod ∧
    (s.stage i b e).sealing = s.sealing ∧ (s.stage i b e).pm = s.pm ∧ (s.stage i b e).sec = s.sec := by
  exact ⟨rfl, rfl, rfl, rfl, rfl, rfl, rfl, rfl, rfl, rfl, rfl, rfl, rfl, rfl, rfl, rfl, rfl, rfl, rfl, rfl, rfl, rfl, rfl, rfl⟩

@[simp] theorem State.stage_reads (s : State) (i b e : Nat) :
    (∀ k₁, (s.stage i b e).lane k₁ = s.lane k₁) ∧ (s.stage i b e).portUp = s.portUp ∧ (∀ i₁, (s.stage i b e).session? i₁ = s.session? i₁) ∧
    (∀ e₁, (s.stage i b e).engine e₁ = s.engine e₁) ∧ (∀ i₁ b₁ f₁ e₁, (s.stage i b e).ctr i₁ b₁ f₁ e₁ = s.ctr i₁ b₁ f₁ e₁) :=
  ⟨fun _ => by simp [State.lane], by simp [State.portUp], fun _ => by simp [State.session?], fun _ => by simp [State.engine], fun _ _ _ _ => by simp [State.ctr]⟩

@[simp] theorem State.setStaged_frame (s : State) (i b e : Nat) (v : List Nat) (p : Bool) :
    (s.setStaged i b e v p).pending = s.pending ∧ (s.setStaged i b e v p).now = s.now ∧ (s.setStaged i b e v p).fresh = s.fresh ∧
    (s.setStaged i b e v p).out = s.out ∧ (s.setStaged i b e v p).power = s.power ∧ (s.setStaged i b e v p).sup = s.sup ∧
    (s.setStaged i b e v p).mgmt = s.mgmt ∧ (s.setStaged i b e v p).store = s.store ∧ (s.setStaged i b e v p).cnt = s.cnt ∧
    (s.setStaged i b e v p).restarted = s.restarted ∧ (s.setStaged i b e v p).lanes = s.lanes ∧ (s.setStaged i b e v p).ports = s.ports ∧
    (s.setStaged i b e v p).fab = s.fab ∧ (s.setStaged i b e v p).edit = s.edit ∧ (s.setStaged i b e v p).prot = s.prot ∧ (s.setStaged i b e v p).ending = s.ending ∧
    (s.setStaged i b e v p).engA = s.engA ∧ (s.setStaged i b e v p).engB = s.engB ∧ (s.setStaged i b e v p).lease = s.lease ∧
    (s.setStaged i b e v p).tim = s.tim ∧ (s.setStaged i b e v p).tod = s.tod ∧ (s.setStaged i b e v p).sealing = s.sealing ∧
    (s.setStaged i b e v p).pm = s.pm ∧ (s.setStaged i b e v p).sec = s.sec := by
  unfold State.setStaged; cases p <;> simp

@[simp] theorem State.setStaged_reads (s : State) (i b e : Nat) (v : List Nat) (p : Bool) :
    (∀ k₁, (s.setStaged i b e v p).lane k₁ = s.lane k₁) ∧ (s.setStaged i b e v p).portUp = s.portUp ∧
    (∀ i₁, (s.setStaged i b e v p).session? i₁ = s.session? i₁) ∧ (∀ e₁, (s.setStaged i b e v p).engine e₁ = s.engine e₁) ∧
    (∀ i₁ b₁ f₁ e₁, (s.setStaged i b e v p).ctr i₁ b₁ f₁ e₁ = s.ctr i₁ b₁ f₁ e₁) :=
  ⟨fun _ => by simp [State.lane], by simp [State.portUp], fun _ => by simp [State.session?], fun _ => by simp [State.engine], fun _ _ _ _ => by simp [State.ctr]⟩

@[simp] theorem State.countN_frame (s : State) (i b f e n : Nat) :
    (s.countN i b f e n).pending = s.pending ∧ (s.countN i b f e n).now = s.now ∧ (s.countN i b f e n).fresh = s.fresh ∧
    (s.countN i b f e n).out = s.out ∧ (s.countN i b f e n).power = s.power ∧ (s.countN i b f e n).sup = s.sup ∧ (s.countN i b f e n).mgmt = s.mgmt ∧
    (s.countN i b f e n).store = s.store ∧ (s.countN i b f e n).persist = s.persist ∧ (s.countN i b f e n).restarted = s.restarted ∧
    (s.countN i b f e n).lanes = s.lanes ∧ (s.countN i b f e n).ports = s.ports ∧ (s.countN i b f e n).fab = s.fab ∧
    (s.countN i b f e n).edit = s.edit ∧ (s.countN i b f e n).prot = s.prot ∧ (s.countN i b f e n).ending = s.ending ∧ (s.countN i b f e n).engA = s.engA ∧
    (s.countN i b f e n).engB = s.engB ∧ (s.countN i b f e n).lease = s.lease ∧ (s.countN i b f e n).tim = s.tim ∧ (s.countN i b f e n).tod = s.tod ∧
    (s.countN i b f e n).sealing = s.sealing ∧ (s.countN i b f e n).pm = s.pm ∧ (s.countN i b f e n).sec = s.sec := by
  exact ⟨rfl, rfl, rfl, rfl, rfl, rfl, rfl, rfl, rfl, rfl, rfl, rfl, rfl, rfl, rfl, rfl, rfl, rfl, rfl, rfl, rfl, rfl, rfl, rfl⟩

@[simp] theorem State.countN_reads (s : State) (i b f e n : Nat) :
    (∀ k₁, (s.countN i b f e n).lane k₁ = s.lane k₁) ∧ (∀ i₁ b₁ e₁, (s.countN i b f e n).val i₁ b₁ e₁ = s.val i₁ b₁ e₁) ∧
    (∀ i₁ b₁ e₁, (s.countN i b f e n).cfg i₁ b₁ e₁ = s.cfg i₁ b₁ e₁) ∧ (∀ i₁ b₁ e₁ n₁, (s.countN i b f e n).cfgF i₁ b₁ e₁ n₁ = s.cfgF i₁ b₁ e₁ n₁) ∧
    (s.countN i b f e n).portUp = s.portUp ∧ (∀ l₁, (s.countN i b f e n).enabled l₁ = s.enabled l₁) ∧
    (∀ i₁, (s.countN i b f e n).session? i₁ = s.session? i₁) ∧ (∀ e₁, (s.countN i b f e n).engine e₁ = s.engine e₁) :=
  ⟨fun _ => by simp [State.lane], fun _ _ _ => by simp [State.val], fun _ _ _ => by simp [State.cfg, State.val], fun _ _ _ _ => by simp [State.cfgF, State.val], by simp [State.portUp], fun _ => by simp [State.enabled, State.cfg, State.val, State.portUp], fun _ => by simp [State.session?], fun _ => by simp [State.engine]⟩

@[simp] theorem State.count_frame (s : State) (i b f e : Nat) :
    (s.count i b f e).pending = s.pending ∧ (s.count i b f e).now = s.now ∧ (s.count i b f e).fresh = s.fresh ∧ (s.count i b f e).out = s.out ∧
    (s.count i b f e).power = s.power ∧ (s.count i b f e).sup = s.sup ∧ (s.count i b f e).mgmt = s.mgmt ∧ (s.count i b f e).store = s.store ∧
    (s.count i b f e).persist = s.persist ∧ (s.count i b f e).restarted = s.restarted ∧ (s.count i b f e).lanes = s.lanes ∧
    (s.count i b f e).ports = s.ports ∧ (s.count i b f e).fab = s.fab ∧ (s.count i b f e).edit = s.edit ∧ (s.count i b f e).prot = s.prot ∧ (s.count i b f e).ending = s.ending ∧
    (s.count i b f e).engA = s.engA ∧ (s.count i b f e).engB = s.engB ∧ (s.count i b f e).lease = s.lease ∧ (s.count i b f e).tim = s.tim ∧
    (s.count i b f e).tod = s.tod ∧ (s.count i b f e).sealing = s.sealing ∧ (s.count i b f e).pm = s.pm ∧ (s.count i b f e).sec = s.sec := by
  exact ⟨rfl, rfl, rfl, rfl, rfl, rfl, rfl, rfl, rfl, rfl, rfl, rfl, rfl, rfl, rfl, rfl, rfl, rfl, rfl, rfl, rfl, rfl, rfl, rfl⟩

@[simp] theorem State.count_reads (s : State) (i b f e : Nat) :
    (∀ k₁, (s.count i b f e).lane k₁ = s.lane k₁) ∧ (∀ i₁ b₁ e₁, (s.count i b f e).val i₁ b₁ e₁ = s.val i₁ b₁ e₁) ∧
    (∀ i₁ b₁ e₁, (s.count i b f e).cfg i₁ b₁ e₁ = s.cfg i₁ b₁ e₁) ∧ (∀ i₁ b₁ e₁ n₁, (s.count i b f e).cfgF i₁ b₁ e₁ n₁ = s.cfgF i₁ b₁ e₁ n₁) ∧
    (s.count i b f e).portUp = s.portUp ∧ (∀ l₁, (s.count i b f e).enabled l₁ = s.enabled l₁) ∧
    (∀ i₁, (s.count i b f e).session? i₁ = s.session? i₁) ∧ (∀ e₁, (s.count i b f e).engine e₁ = s.engine e₁) :=
  ⟨fun _ => by simp [State.lane], fun _ _ _ => by simp [State.val], fun _ _ _ => by simp [State.cfg, State.val], fun _ _ _ _ => by simp [State.cfgF, State.val], by simp [State.portUp], fun _ => by simp [State.enabled, State.cfg, State.val, State.portUp], fun _ => by simp [State.session?], fun _ => by simp [State.engine]⟩

@[simp] theorem State.clearGroup_frame (s : State) (i e : Nat) :
    (s.clearGroup i e).pending = s.pending ∧ (s.clearGroup i e).now = s.now ∧ (s.clearGroup i e).fresh = s.fresh ∧ (s.clearGroup i e).out = s.out ∧
    (s.clearGroup i e).power = s.power ∧ (s.clearGroup i e).sup = s.sup ∧ (s.clearGroup i e).mgmt = s.mgmt ∧ (s.clearGroup i e).store = s.store ∧
    (s.clearGroup i e).persist = s.persist ∧ (s.clearGroup i e).lanes = s.lanes ∧ (s.clearGroup i e).ports = s.ports ∧
    (s.clearGroup i e).fab = s.fab ∧ (s.clearGroup i e).edit = s.edit ∧ (s.clearGroup i e).prot = s.prot ∧ (s.clearGroup i e).ending = s.ending ∧ (s.clearGroup i e).engA = s.engA ∧
    (s.clearGroup i e).engB = s.engB ∧ (s.clearGroup i e).lease = s.lease ∧ (s.clearGroup i e).tim = s.tim ∧ (s.clearGroup i e).tod = s.tod ∧
    (s.clearGroup i e).sealing = s.sealing ∧ (s.clearGroup i e).pm = s.pm ∧ (s.clearGroup i e).sec = s.sec := by
  exact ⟨rfl, rfl, rfl, rfl, rfl, rfl, rfl, rfl, rfl, rfl, rfl, rfl, rfl, rfl, rfl, rfl, rfl, rfl, rfl, rfl, rfl, rfl, rfl⟩

@[simp] theorem State.clearGroup_reads (s : State) (i e : Nat) :
    (∀ k₁, (s.clearGroup i e).lane k₁ = s.lane k₁) ∧ (∀ i₁ b₁ e₁, (s.clearGroup i e).val i₁ b₁ e₁ = s.val i₁ b₁ e₁) ∧
    (∀ i₁ b₁ e₁, (s.clearGroup i e).cfg i₁ b₁ e₁ = s.cfg i₁ b₁ e₁) ∧ (∀ i₁ b₁ e₁ n₁, (s.clearGroup i e).cfgF i₁ b₁ e₁ n₁ = s.cfgF i₁ b₁ e₁ n₁) ∧
    (s.clearGroup i e).portUp = s.portUp ∧ (∀ l₁, (s.clearGroup i e).enabled l₁ = s.enabled l₁) ∧
    (∀ i₁, (s.clearGroup i e).session? i₁ = s.session? i₁) ∧ (∀ e₁, (s.clearGroup i e).engine e₁ = s.engine e₁) :=
  ⟨fun _ => by simp [State.lane], fun _ _ _ => by simp [State.val], fun _ _ _ => by simp [State.cfg, State.val], fun _ _ _ _ => by simp [State.cfgF, State.val], by simp [State.portUp], fun _ => by simp [State.enabled, State.cfg, State.val, State.portUp], fun _ => by simp [State.session?], fun _ => by simp [State.engine]⟩

@[simp] theorem State.restartGroup_frame (s : State) (i e : Nat) :
    (s.restartGroup i e).pending = s.pending ∧ (s.restartGroup i e).now = s.now ∧ (s.restartGroup i e).fresh = s.fresh ∧
    (s.restartGroup i e).out = s.out ∧ (s.restartGroup i e).power = s.power ∧ (s.restartGroup i e).sup = s.sup ∧ (s.restartGroup i e).mgmt = s.mgmt ∧
    (s.restartGroup i e).store = s.store ∧ (s.restartGroup i e).persist = s.persist ∧ (s.restartGroup i e).lanes = s.lanes ∧
    (s.restartGroup i e).ports = s.ports ∧ (s.restartGroup i e).fab = s.fab ∧ (s.restartGroup i e).edit = s.edit ∧
    (s.restartGroup i e).prot = s.prot ∧ (s.restartGroup i e).ending = s.ending ∧ (s.restartGroup i e).engA = s.engA ∧ (s.restartGroup i e).engB = s.engB ∧
    (s.restartGroup i e).lease = s.lease ∧ (s.restartGroup i e).tim = s.tim ∧ (s.restartGroup i e).tod = s.tod ∧
    (s.restartGroup i e).sealing = s.sealing ∧ (s.restartGroup i e).pm = s.pm ∧ (s.restartGroup i e).sec = s.sec := by
  exact ⟨rfl, rfl, rfl, rfl, rfl, rfl, rfl, rfl, rfl, rfl, rfl, rfl, rfl, rfl, rfl, rfl, rfl, rfl, rfl, rfl, rfl, rfl, rfl⟩

@[simp] theorem State.restartGroup_reads (s : State) (i e : Nat) :
    (∀ k₁, (s.restartGroup i e).lane k₁ = s.lane k₁) ∧ (∀ i₁ b₁ e₁, (s.restartGroup i e).val i₁ b₁ e₁ = s.val i₁ b₁ e₁) ∧
    (∀ i₁ b₁ e₁, (s.restartGroup i e).cfg i₁ b₁ e₁ = s.cfg i₁ b₁ e₁) ∧ (∀ i₁ b₁ e₁ n₁, (s.restartGroup i e).cfgF i₁ b₁ e₁ n₁ = s.cfgF i₁ b₁ e₁ n₁) ∧
    (s.restartGroup i e).portUp = s.portUp ∧ (∀ l₁, (s.restartGroup i e).enabled l₁ = s.enabled l₁) ∧
    (∀ i₁, (s.restartGroup i e).session? i₁ = s.session? i₁) ∧ (∀ e₁, (s.restartGroup i e).engine e₁ = s.engine e₁) :=
  ⟨fun _ => by simp [State.lane], fun _ _ _ => by simp [State.val], fun _ _ _ => by simp [State.cfg, State.val], fun _ _ _ _ => by simp [State.cfgF, State.val], by simp [State.portUp], fun _ => by simp [State.enabled, State.cfg, State.val, State.portUp], fun _ => by simp [State.session?], fun _ => by simp [State.engine]⟩

@[simp] theorem State.modSession_frame (s : State) (i : Nat) (f : Session → Session) :
    (s.modSession i f).pending = s.pending ∧ (s.modSession i f).now = s.now ∧ (s.modSession i f).fresh = s.fresh ∧ (s.modSession i f).out = s.out ∧
    (s.modSession i f).power = s.power ∧ (s.modSession i f).sup = s.sup ∧ (s.modSession i f).store = s.store ∧
    (s.modSession i f).persist = s.persist ∧ (s.modSession i f).cnt = s.cnt ∧ (s.modSession i f).restarted = s.restarted ∧
    (s.modSession i f).lanes = s.lanes ∧ (s.modSession i f).ports = s.ports ∧ (s.modSession i f).fab = s.fab ∧ (s.modSession i f).edit = s.edit ∧
    (s.modSession i f).prot = s.prot ∧ (s.modSession i f).ending = s.ending ∧ (s.modSession i f).engA = s.engA ∧ (s.modSession i f).engB = s.engB ∧ (s.modSession i f).lease = s.lease ∧
    (s.modSession i f).tim = s.tim ∧ (s.modSession i f).tod = s.tod ∧ (s.modSession i f).sealing = s.sealing ∧ (s.modSession i f).pm = s.pm ∧
    (s.modSession i f).sec = s.sec := by
  unfold State.modSession; split <;> simp

@[simp] theorem State.modSession_reads (s : State) (i : Nat) (f : Session → Session) :
    (∀ k₁, (s.modSession i f).lane k₁ = s.lane k₁) ∧ (∀ i₁ b₁ e₁, (s.modSession i f).val i₁ b₁ e₁ = s.val i₁ b₁ e₁) ∧
    (∀ i₁ b₁ e₁, (s.modSession i f).cfg i₁ b₁ e₁ = s.cfg i₁ b₁ e₁) ∧ (∀ i₁ b₁ e₁ n₁, (s.modSession i f).cfgF i₁ b₁ e₁ n₁ = s.cfgF i₁ b₁ e₁ n₁) ∧
    (s.modSession i f).portUp = s.portUp ∧ (∀ l₁, (s.modSession i f).enabled l₁ = s.enabled l₁) ∧
    (∀ e₁, (s.modSession i f).engine e₁ = s.engine e₁) ∧ (∀ i₁ b₁ f₁ e₁, (s.modSession i f).ctr i₁ b₁ f₁ e₁ = s.ctr i₁ b₁ f₁ e₁) :=
  ⟨fun _ => by simp [State.lane], fun _ _ _ => by simp [State.val], fun _ _ _ => by simp [State.cfg, State.val], fun _ _ _ _ => by simp [State.cfgF, State.val], by simp [State.portUp], fun _ => by simp [State.enabled, State.cfg, State.val, State.portUp], fun _ => by simp [State.engine], fun _ _ _ _ => by simp [State.ctr]⟩

@[simp] theorem State.sentTo_frame (s : State) (i : Nat) :
    (s.sentTo i).pending = s.pending ∧ (s.sentTo i).now = s.now ∧ (s.sentTo i).fresh = s.fresh ∧ (s.sentTo i).out = s.out ∧
    (s.sentTo i).power = s.power ∧ (s.sentTo i).sup = s.sup ∧ (s.sentTo i).store = s.store ∧ (s.sentTo i).persist = s.persist ∧
    (s.sentTo i).cnt = s.cnt ∧ (s.sentTo i).restarted = s.restarted ∧ (s.sentTo i).lanes = s.lanes ∧ (s.sentTo i).ports = s.ports ∧
    (s.sentTo i).fab = s.fab ∧ (s.sentTo i).edit = s.edit ∧ (s.sentTo i).prot = s.prot ∧ (s.sentTo i).ending = s.ending ∧ (s.sentTo i).engA = s.engA ∧ (s.sentTo i).engB = s.engB ∧
    (s.sentTo i).lease = s.lease ∧ (s.sentTo i).tim = s.tim ∧ (s.sentTo i).tod = s.tod ∧ (s.sentTo i).sealing = s.sealing ∧ (s.sentTo i).pm = s.pm ∧
    (s.sentTo i).sec = s.sec := by
  simp [State.sentTo]

@[simp] theorem State.sentTo_reads (s : State) (i : Nat) :
    (∀ k₁, (s.sentTo i).lane k₁ = s.lane k₁) ∧ (∀ i₁ b₁ e₁, (s.sentTo i).val i₁ b₁ e₁ = s.val i₁ b₁ e₁) ∧
    (∀ i₁ b₁ e₁, (s.sentTo i).cfg i₁ b₁ e₁ = s.cfg i₁ b₁ e₁) ∧ (∀ i₁ b₁ e₁ n₁, (s.sentTo i).cfgF i₁ b₁ e₁ n₁ = s.cfgF i₁ b₁ e₁ n₁) ∧
    (s.sentTo i).portUp = s.portUp ∧ (∀ l₁, (s.sentTo i).enabled l₁ = s.enabled l₁) ∧ (∀ e₁, (s.sentTo i).engine e₁ = s.engine e₁) ∧
    (∀ i₁ b₁ f₁ e₁, (s.sentTo i).ctr i₁ b₁ f₁ e₁ = s.ctr i₁ b₁ f₁ e₁) :=
  ⟨fun _ => by simp [State.lane], fun _ _ _ => by simp [State.val], fun _ _ _ => by simp [State.cfg, State.val], fun _ _ _ _ => by simp [State.cfgF, State.val], by simp [State.portUp], fun _ => by simp [State.enabled, State.cfg, State.val, State.portUp], fun _ => by simp [State.engine], fun _ _ _ _ => by simp [State.ctr]⟩

@[simp] theorem State.modHop_frame (s : State) (h : Nat) (f : Hopper → Hopper) :
    (s.modHop h f).pending = s.pending ∧ (s.modHop h f).now = s.now ∧ (s.modHop h f).fresh = s.fresh ∧ (s.modHop h f).out = s.out ∧
    (s.modHop h f).power = s.power ∧ (s.modHop h f).sup = s.sup ∧ (s.modHop h f).mgmt = s.mgmt ∧ (s.modHop h f).persist = s.persist ∧
    (s.modHop h f).cnt = s.cnt ∧ (s.modHop h f).restarted = s.restarted ∧ (s.modHop h f).lanes = s.lanes ∧ (s.modHop h f).ports = s.ports ∧
    (s.modHop h f).fab = s.fab ∧ (s.modHop h f).edit = s.edit ∧ (s.modHop h f).prot = s.prot ∧ (s.modHop h f).ending = s.ending ∧ (s.modHop h f).engA = s.engA ∧
    (s.modHop h f).engB = s.engB ∧ (s.modHop h f).lease = s.lease ∧ (s.modHop h f).tim = s.tim ∧ (s.modHop h f).tod = s.tod ∧
    (s.modHop h f).sealing = s.sealing ∧ (s.modHop h f).pm = s.pm ∧ (s.modHop h f).sec = s.sec := by
  exact ⟨rfl, rfl, rfl, rfl, rfl, rfl, rfl, rfl, rfl, rfl, rfl, rfl, rfl, rfl, rfl, rfl, rfl, rfl, rfl, rfl, rfl, rfl, rfl, rfl⟩

@[simp] theorem State.modHop_reads (s : State) (h : Nat) (f : Hopper → Hopper) :
    (∀ k₁, (s.modHop h f).lane k₁ = s.lane k₁) ∧ (∀ i₁ b₁ e₁, (s.modHop h f).val i₁ b₁ e₁ = s.val i₁ b₁ e₁) ∧
    (∀ i₁ b₁ e₁, (s.modHop h f).cfg i₁ b₁ e₁ = s.cfg i₁ b₁ e₁) ∧ (∀ i₁ b₁ e₁ n₁, (s.modHop h f).cfgF i₁ b₁ e₁ n₁ = s.cfgF i₁ b₁ e₁ n₁) ∧
    (s.modHop h f).portUp = s.portUp ∧ (∀ l₁, (s.modHop h f).enabled l₁ = s.enabled l₁) ∧ (∀ i₁, (s.modHop h f).session? i₁ = s.session? i₁) ∧
    (∀ e₁, (s.modHop h f).engine e₁ = s.engine e₁) ∧ (∀ i₁ b₁ f₁ e₁, (s.modHop h f).ctr i₁ b₁ f₁ e₁ = s.ctr i₁ b₁ f₁ e₁) :=
  ⟨fun _ => by simp [State.lane], fun _ _ _ => by simp [State.val], fun _ _ _ => by simp [State.cfg, State.val], fun _ _ _ _ => by simp [State.cfgF, State.val], by simp [State.portUp], fun _ => by simp [State.enabled, State.cfg, State.val, State.portUp], fun _ => by simp [State.session?], fun _ => by simp [State.engine], fun _ _ _ _ => by simp [State.ctr]⟩

/-- A job of a cipher engine changes that engine's work and whose turn is next. -/
@[simp] theorem State.cipherJob_frame (s : State) (n : Nat) (g : Bool) :
    (s.cipherJob n g).pending = s.pending ∧ (s.cipherJob n g).now = s.now ∧ (s.cipherJob n g).fresh = s.fresh ∧ (s.cipherJob n g).power = s.power ∧
    (s.cipherJob n g).sup = s.sup ∧ (s.cipherJob n g).store = s.store ∧ (s.cipherJob n g).persist = s.persist ∧ (s.cipherJob n g).cnt = s.cnt ∧ (s.cipherJob n g).restarted = s.restarted ∧
    (s.cipherJob n g).lanes = s.lanes ∧ (s.cipherJob n g).ports = s.ports ∧ (s.cipherJob n g).fab = s.fab ∧ (s.cipherJob n g).edit = s.edit ∧ (s.cipherJob n g).prot = s.prot ∧
    (s.cipherJob n g).ending = s.ending ∧ (s.cipherJob n g).engA = s.engA ∧ (s.cipherJob n g).engB = s.engB ∧ (s.cipherJob n g).lease = s.lease ∧ (s.cipherJob n g).tim = s.tim ∧
    (s.cipherJob n g).tod = s.tod ∧ (s.cipherJob n g).sealing = s.sealing ∧ (s.cipherJob n g).pm = s.pm ∧ (s.cipherJob n g).sec = s.sec ∧ (s.cipherJob n g).out = s.out := by
  simp only [State.cipherJob]; split <;> simp

@[simp] theorem State.cipherJob_session? (s : State) (n : Nat) (g : Bool) (i : Nat) : (s.cipherJob n g).session? i = s.session? i := by
  simp only [State.cipherJob, State.session?]; split <;> rfl

/-- A SECURE message changes the sequence of its session, the work of a cipher engine, and what goes out. -/
@[simp] theorem State.sendSecure_frame (s : State) (i : Nat) (o : Output) (r : Resp) :
    (s.sendSecure i o r).pending = s.pending ∧ (s.sendSecure i o r).now = s.now ∧ (s.sendSecure i o r).fresh = s.fresh ∧ (s.sendSecure i o r).power = s.power ∧
    (s.sendSecure i o r).sup = s.sup ∧ (s.sendSecure i o r).store = s.store ∧ (s.sendSecure i o r).persist = s.persist ∧ (s.sendSecure i o r).cnt = s.cnt ∧ (s.sendSecure i o r).restarted = s.restarted ∧
    (s.sendSecure i o r).lanes = s.lanes ∧ (s.sendSecure i o r).ports = s.ports ∧ (s.sendSecure i o r).fab = s.fab ∧ (s.sendSecure i o r).edit = s.edit ∧ (s.sendSecure i o r).prot = s.prot ∧
    (s.sendSecure i o r).ending = s.ending ∧ (s.sendSecure i o r).engA = s.engA ∧ (s.sendSecure i o r).engB = s.engB ∧ (s.sendSecure i o r).lease = s.lease ∧ (s.sendSecure i o r).tim = s.tim ∧
    (s.sendSecure i o r).tod = s.tod ∧ (s.sendSecure i o r).sealing = s.sealing ∧ (s.sendSecure i o r).pm = s.pm ∧ (s.sendSecure i o r).sec = s.sec := by
  simp only [State.sendSecure]; split <;> simp

@[simp] theorem State.notifyOwner_frame (s : State) (h : Nat) :
    (s.notifyOwner h).pending = s.pending ∧ (s.notifyOwner h).now = s.now ∧ (s.notifyOwner h).fresh = s.fresh ∧ (s.notifyOwner h).power = s.power ∧
    (s.notifyOwner h).sup = s.sup ∧ (s.notifyOwner h).persist = s.persist ∧ (s.notifyOwner h).cnt = s.cnt ∧
    (s.notifyOwner h).restarted = s.restarted ∧ (s.notifyOwner h).lanes = s.lanes ∧ (s.notifyOwner h).ports = s.ports ∧
    (s.notifyOwner h).fab = s.fab ∧ (s.notifyOwner h).edit = s.edit ∧ (s.notifyOwner h).prot = s.prot ∧ (s.notifyOwner h).ending = s.ending ∧ (s.notifyOwner h).engA = s.engA ∧
    (s.notifyOwner h).engB = s.engB ∧ (s.notifyOwner h).lease = s.lease ∧ (s.notifyOwner h).tim = s.tim ∧ (s.notifyOwner h).tod = s.tod ∧
    (s.notifyOwner h).sealing = s.sealing ∧ (s.notifyOwner h).pm = s.pm ∧ (s.notifyOwner h).sec = s.sec := by
  simp only [State.notifyOwner]; split <;> simp

@[simp] theorem State.notifyOwner_reads (s : State) (h : Nat) :
    (∀ k₁, (s.notifyOwner h).lane k₁ = s.lane k₁) ∧ (∀ i₁ b₁ e₁, (s.notifyOwner h).val i₁ b₁ e₁ = s.val i₁ b₁ e₁) ∧
    (∀ i₁ b₁ e₁, (s.notifyOwner h).cfg i₁ b₁ e₁ = s.cfg i₁ b₁ e₁) ∧ (∀ i₁ b₁ e₁ n₁, (s.notifyOwner h).cfgF i₁ b₁ e₁ n₁ = s.cfgF i₁ b₁ e₁ n₁) ∧
    (s.notifyOwner h).portUp = s.portUp ∧ (∀ l₁, (s.notifyOwner h).enabled l₁ = s.enabled l₁) ∧ (∀ e₁, (s.notifyOwner h).engine e₁ = s.engine e₁) ∧
    (∀ i₁ b₁ f₁ e₁, (s.notifyOwner h).ctr i₁ b₁ f₁ e₁ = s.ctr i₁ b₁ f₁ e₁) :=
  ⟨fun _ => by simp [State.lane], fun _ _ _ => by simp [State.val], fun _ _ _ => by simp [State.cfg, State.val], fun _ _ _ _ => by simp [State.cfgF, State.val], by simp [State.portUp], fun _ => by simp [State.enabled, State.cfg, State.val, State.portUp], fun _ => by simp [State.engine], fun _ _ _ _ => by simp [State.ctr]⟩

@[simp] theorem State.writeUnit_frame (s : State) (h : Nat) (es : List Bytes) :
    (s.writeUnit h es).pending = s.pending ∧ (s.writeUnit h es).now = s.now ∧ (s.writeUnit h es).fresh = s.fresh ∧
    (s.writeUnit h es).power = s.power ∧ (s.writeUnit h es).sup = s.sup ∧ (s.writeUnit h es).persist = s.persist ∧
    (s.writeUnit h es).restarted = s.restarted ∧ (s.writeUnit h es).lanes = s.lanes ∧ (s.writeUnit h es).ports = s.ports ∧
    (s.writeUnit h es).fab = s.fab ∧ (s.writeUnit h es).edit = s.edit ∧ (s.writeUnit h es).prot = s.prot ∧ (s.writeUnit h es).ending = s.ending ∧ (s.writeUnit h es).engA = s.engA ∧
    (s.writeUnit h es).engB = s.engB ∧ (s.writeUnit h es).lease = s.lease ∧ (s.writeUnit h es).tim = s.tim ∧ (s.writeUnit h es).tod = s.tod ∧
    (s.writeUnit h es).sealing = s.sealing ∧ (s.writeUnit h es).pm = s.pm ∧ (s.writeUnit h es).sec = s.sec := by
  simp [State.writeUnit]

@[simp] theorem State.writeUnit_reads (s : State) (h : Nat) (es : List Bytes) :
    (∀ k₁, (s.writeUnit h es).lane k₁ = s.lane k₁) ∧ (∀ i₁ b₁ e₁, (s.writeUnit h es).val i₁ b₁ e₁ = s.val i₁ b₁ e₁) ∧
    (∀ i₁ b₁ e₁, (s.writeUnit h es).cfg i₁ b₁ e₁ = s.cfg i₁ b₁ e₁) ∧ (∀ i₁ b₁ e₁ n₁, (s.writeUnit h es).cfgF i₁ b₁ e₁ n₁ = s.cfgF i₁ b₁ e₁ n₁) ∧
    (s.writeUnit h es).portUp = s.portUp ∧ (∀ l₁, (s.writeUnit h es).enabled l₁ = s.enabled l₁) ∧ (∀ e₁, (s.writeUnit h es).engine e₁ = s.engine e₁) :=
  ⟨fun _ => by simp [State.lane], fun _ _ _ => by simp [State.val], fun _ _ _ => by simp [State.cfg, State.val], fun _ _ _ _ => by simp [State.cfgF, State.val], by simp [State.portUp], fun _ => by simp [State.enabled, State.cfg, State.val, State.portUp], fun _ => by simp [State.engine]⟩

@[simp] theorem State.postUnit_frame (s : State) (h : Nat) (es : List Bytes) (q : Bool) :
    (s.postUnit h es q).pending = s.pending ∧ (s.postUnit h es q).now = s.now ∧ (s.postUnit h es q).fresh = s.fresh ∧
    (s.postUnit h es q).power = s.power ∧ (s.postUnit h es q).sup = s.sup ∧ (s.postUnit h es q).persist = s.persist ∧
    (s.postUnit h es q).restarted = s.restarted ∧ (s.postUnit h es q).lanes = s.lanes ∧ (s.postUnit h es q).ports = s.ports ∧
    (s.postUnit h es q).fab = s.fab ∧ (s.postUnit h es q).edit = s.edit ∧ (s.postUnit h es q).prot = s.prot ∧ (s.postUnit h es q).ending = s.ending ∧ (s.postUnit h es q).engA = s.engA ∧
    (s.postUnit h es q).engB = s.engB ∧ (s.postUnit h es q).lease = s.lease ∧ (s.postUnit h es q).tim = s.tim ∧ (s.postUnit h es q).tod = s.tod ∧
    (s.postUnit h es q).sealing = s.sealing ∧ (s.postUnit h es q).pm = s.pm ∧ (s.postUnit h es q).sec = s.sec := by
  unfold State.postUnit; simp only; repeat' split
  all_goals simp

@[simp] theorem State.postUnit_reads (s : State) (h : Nat) (es : List Bytes) (q : Bool) :
    (∀ k₁, (s.postUnit h es q).lane k₁ = s.lane k₁) ∧ (∀ i₁ b₁ e₁, (s.postUnit h es q).val i₁ b₁ e₁ = s.val i₁ b₁ e₁) ∧
    (∀ i₁ b₁ e₁, (s.postUnit h es q).cfg i₁ b₁ e₁ = s.cfg i₁ b₁ e₁) ∧ (∀ i₁ b₁ e₁ n₁, (s.postUnit h es q).cfgF i₁ b₁ e₁ n₁ = s.cfgF i₁ b₁ e₁ n₁) ∧
    (s.postUnit h es q).portUp = s.portUp ∧ (∀ l₁, (s.postUnit h es q).enabled l₁ = s.enabled l₁) ∧
    (∀ e₁, (s.postUnit h es q).engine e₁ = s.engine e₁) :=
  ⟨fun _ => by simp [State.lane], fun _ _ _ => by simp [State.val], fun _ _ _ => by simp [State.cfg, State.val], fun _ _ _ _ => by simp [State.cfgF, State.val], by simp [State.portUp], fun _ => by simp [State.enabled, State.cfg, State.val, State.portUp], fun _ => by simp [State.engine]⟩

@[simp] theorem State.eventAt_frame (s : State) (c i b e st k : Nat) (p : Bytes) :
    (s.eventAt c i b e st k p).pending = s.pending ∧ (s.eventAt c i b e st k p).now = s.now ∧ (s.eventAt c i b e st k p).fresh = s.fresh ∧
    (s.eventAt c i b e st k p).power = s.power ∧ (s.eventAt c i b e st k p).sup = s.sup ∧ (s.eventAt c i b e st k p).persist = s.persist ∧
    (s.eventAt c i b e st k p).restarted = s.restarted ∧ (s.eventAt c i b e st k p).lanes = s.lanes ∧ (s.eventAt c i b e st k p).ports = s.ports ∧
    (s.eventAt c i b e st k p).fab = s.fab ∧ (s.eventAt c i b e st k p).edit = s.edit ∧ (s.eventAt c i b e st k p).prot = s.prot ∧ (s.eventAt c i b e st k p).ending = s.ending ∧
    (s.eventAt c i b e st k p).engA = s.engA ∧ (s.eventAt c i b e st k p).engB = s.engB ∧ (s.eventAt c i b e st k p).lease = s.lease ∧
    (s.eventAt c i b e st k p).tim = s.tim ∧ (s.eventAt c i b e st k p).tod = s.tod ∧ (s.eventAt c i b e st k p).sealing = s.sealing ∧
    (s.eventAt c i b e st k p).pm = s.pm ∧ (s.eventAt c i b e st k p).sec = s.sec := by
  refine ⟨?_, ?_, ?_, ?_, ?_, ?_, ?_, ?_, ?_, ?_, ?_, ?_, ?_, ?_, ?_, ?_, ?_, ?_, ?_, ?_, ?_⟩ <;> (simp only [State.eventAt]; apply State.each_keep; intro a s; simp)

@[simp] theorem State.eventAt_reads (s : State) (c i b e st k : Nat) (p : Bytes) :
    (∀ k₁, (s.eventAt c i b e st k p).lane k₁ = s.lane k₁) ∧ (∀ i₁ b₁ e₁, (s.eventAt c i b e st k p).val i₁ b₁ e₁ = s.val i₁ b₁ e₁) ∧
    (∀ i₁ b₁ e₁, (s.eventAt c i b e st k p).cfg i₁ b₁ e₁ = s.cfg i₁ b₁ e₁) ∧
    (∀ i₁ b₁ e₁ n₁, (s.eventAt c i b e st k p).cfgF i₁ b₁ e₁ n₁ = s.cfgF i₁ b₁ e₁ n₁) ∧ (s.eventAt c i b e st k p).portUp = s.portUp ∧
    (∀ l₁, (s.eventAt c i b e st k p).enabled l₁ = s.enabled l₁) ∧ (∀ e₁, (s.eventAt c i b e st k p).engine e₁ = s.engine e₁) :=
  ⟨fun _ => by simp [State.lane], fun _ _ _ => by simp [State.val], fun _ _ _ => by simp [State.cfg, State.val], fun _ _ _ _ => by simp [State.cfgF, State.val], by simp [State.portUp], fun _ => by simp [State.enabled, State.cfg, State.val, State.portUp], fun _ => by simp [State.engine]⟩

@[simp] theorem State.event_frame (s : State) (c i b e : Nat) (p : Bytes) :
    (s.event c i b e p).pending = s.pending ∧ (s.event c i b e p).now = s.now ∧ (s.event c i b e p).fresh = s.fresh ∧
    (s.event c i b e p).power = s.power ∧ (s.event c i b e p).sup = s.sup ∧ (s.event c i b e p).persist = s.persist ∧
    (s.event c i b e p).restarted = s.restarted ∧ (s.event c i b e p).lanes = s.lanes ∧ (s.event c i b e p).ports = s.ports ∧
    (s.event c i b e p).fab = s.fab ∧ (s.event c i b e p).edit = s.edit ∧ (s.event c i b e p).prot = s.prot ∧ (s.event c i b e p).ending = s.ending ∧ (s.event c i b e p).engA = s.engA ∧
    (s.event c i b e p).engB = s.engB ∧ (s.event c i b e p).lease = s.lease ∧ (s.event c i b e p).tim = s.tim ∧ (s.event c i b e p).tod = s.tod ∧
    (s.event c i b e p).sealing = s.sealing ∧ (s.event c i b e p).pm = s.pm ∧ (s.event c i b e p).sec = s.sec := by
  simp [State.event]

@[simp] theorem State.event_reads (s : State) (c i b e : Nat) (p : Bytes) :
    (∀ k₁, (s.event c i b e p).lane k₁ = s.lane k₁) ∧ (∀ i₁ b₁ e₁, (s.event c i b e p).val i₁ b₁ e₁ = s.val i₁ b₁ e₁) ∧
    (∀ i₁ b₁ e₁, (s.event c i b e p).cfg i₁ b₁ e₁ = s.cfg i₁ b₁ e₁) ∧ (∀ i₁ b₁ e₁ n₁, (s.event c i b e p).cfgF i₁ b₁ e₁ n₁ = s.cfgF i₁ b₁ e₁ n₁) ∧
    (s.event c i b e p).portUp = s.portUp ∧ (∀ l₁, (s.event c i b e p).enabled l₁ = s.enabled l₁) ∧
    (∀ e₁, (s.event c i b e p).engine e₁ = s.engine e₁) :=
  ⟨fun _ => by simp [State.lane], fun _ _ _ => by simp [State.val], fun _ _ _ => by simp [State.cfg, State.val], fun _ _ _ _ => by simp [State.cfgF, State.val], by simp [State.portUp], fun _ => by simp [State.enabled, State.cfg, State.val, State.portUp], fun _ => by simp [State.engine]⟩

@[simp] theorem State.alarmOut_frame (s : State) (n : Nat) (a : Alarm) (i : Nat) :
    (s.alarmOut n a i).pending = s.pending ∧ (s.alarmOut n a i).now = s.now ∧ (s.alarmOut n a i).fresh = s.fresh ∧
    (s.alarmOut n a i).power = s.power ∧ (s.alarmOut n a i).sup = s.sup ∧ (s.alarmOut n a i).persist = s.persist ∧
    (s.alarmOut n a i).restarted = s.restarted ∧ (s.alarmOut n a i).lanes = s.lanes ∧ (s.alarmOut n a i).ports = s.ports ∧
    (s.alarmOut n a i).fab = s.fab ∧ (s.alarmOut n a i).edit = s.edit ∧ (s.alarmOut n a i).prot = s.prot ∧ (s.alarmOut n a i).ending = s.ending ∧ (s.alarmOut n a i).engA = s.engA ∧
    (s.alarmOut n a i).engB = s.engB ∧ (s.alarmOut n a i).lease = s.lease ∧ (s.alarmOut n a i).tim = s.tim ∧ (s.alarmOut n a i).tod = s.tod ∧
    (s.alarmOut n a i).sealing = s.sealing ∧ (s.alarmOut n a i).pm = s.pm ∧ (s.alarmOut n a i).sec = s.sec := by
  refine ⟨?_, ?_, ?_, ?_, ?_, ?_, ?_, ?_, ?_, ?_, ?_, ?_, ?_, ?_, ?_, ?_, ?_, ?_, ?_, ?_, ?_⟩ <;> (simp only [State.alarmOut]; apply State.each_keep; intro a s; simp)

@[simp] theorem State.alarmOut_reads (s : State) (n : Nat) (a : Alarm) (i : Nat) :
    (∀ k₁, (s.alarmOut n a i).lane k₁ = s.lane k₁) ∧ (∀ i₁ b₁ e₁, (s.alarmOut n a i).val i₁ b₁ e₁ = s.val i₁ b₁ e₁) ∧
    (∀ i₁ b₁ e₁, (s.alarmOut n a i).cfg i₁ b₁ e₁ = s.cfg i₁ b₁ e₁) ∧ (∀ i₁ b₁ e₁ n₁, (s.alarmOut n a i).cfgF i₁ b₁ e₁ n₁ = s.cfgF i₁ b₁ e₁ n₁) ∧
    (s.alarmOut n a i).portUp = s.portUp ∧ (∀ l₁, (s.alarmOut n a i).enabled l₁ = s.enabled l₁) ∧ (∀ e₁, (s.alarmOut n a i).engine e₁ = s.engine e₁) :=
  ⟨fun _ => by simp [State.lane], fun _ _ _ => by simp [State.val], fun _ _ _ => by simp [State.cfg, State.val], fun _ _ _ _ => by simp [State.cfgF, State.val], by simp [State.portUp], fun _ => by simp [State.enabled, State.cfg, State.val, State.portUp], fun _ => by simp [State.engine]⟩

@[simp] theorem State.raiseAlarm_frame (s : State) (c : Option AlarmCond) (v i b n e : Nat) :
    (s.raiseAlarm c v i b n e).pending = s.pending ∧ (s.raiseAlarm c v i b n e).now = s.now ∧ (s.raiseAlarm c v i b n e).fresh = s.fresh ∧
    (s.raiseAlarm c v i b n e).power = s.power ∧ (s.raiseAlarm c v i b n e).sup = s.sup ∧ (s.raiseAlarm c v i b n e).persist = s.persist ∧
    (s.raiseAlarm c v i b n e).restarted = s.restarted ∧ (s.raiseAlarm c v i b n e).lanes = s.lanes ∧ (s.raiseAlarm c v i b n e).ports = s.ports ∧
    (s.raiseAlarm c v i b n e).fab = s.fab ∧ (s.raiseAlarm c v i b n e).edit = s.edit ∧ (s.raiseAlarm c v i b n e).prot = s.prot ∧ (s.raiseAlarm c v i b n e).ending = s.ending ∧
    (s.raiseAlarm c v i b n e).engA = s.engA ∧ (s.raiseAlarm c v i b n e).engB = s.engB ∧ (s.raiseAlarm c v i b n e).lease = s.lease ∧
    (s.raiseAlarm c v i b n e).tim = s.tim ∧ (s.raiseAlarm c v i b n e).tod = s.tod ∧ (s.raiseAlarm c v i b n e).sealing = s.sealing ∧
    (s.raiseAlarm c v i b n e).pm = s.pm ∧ (s.raiseAlarm c v i b n e).sec = s.sec := by
  simp [State.raiseAlarm]

@[simp] theorem State.raiseAlarm_reads (s : State) (c : Option AlarmCond) (v i b n e : Nat) :
    (∀ k₁, (s.raiseAlarm c v i b n e).lane k₁ = s.lane k₁) ∧ (∀ i₁ b₁ e₁, (s.raiseAlarm c v i b n e).val i₁ b₁ e₁ = s.val i₁ b₁ e₁) ∧
    (∀ i₁ b₁ e₁, (s.raiseAlarm c v i b n e).cfg i₁ b₁ e₁ = s.cfg i₁ b₁ e₁) ∧
    (∀ i₁ b₁ e₁ n₁, (s.raiseAlarm c v i b n e).cfgF i₁ b₁ e₁ n₁ = s.cfgF i₁ b₁ e₁ n₁) ∧ (s.raiseAlarm c v i b n e).portUp = s.portUp ∧
    (∀ l₁, (s.raiseAlarm c v i b n e).enabled l₁ = s.enabled l₁) ∧ (∀ e₁, (s.raiseAlarm c v i b n e).engine e₁ = s.engine e₁) :=
  ⟨fun _ => by simp [State.lane], fun _ _ _ => by simp [State.val], fun _ _ _ => by simp [State.cfg, State.val], fun _ _ _ _ => by simp [State.cfgF, State.val], by simp [State.portUp], fun _ => by simp [State.enabled, State.cfg, State.val, State.portUp], fun _ => by simp [State.engine]⟩

@[simp] theorem State.clearAlarm_frame (s : State) (a : Alarm) :
    (s.clearAlarm a).pending = s.pending ∧ (s.clearAlarm a).now = s.now ∧ (s.clearAlarm a).fresh = s.fresh ∧ (s.clearAlarm a).power = s.power ∧
    (s.clearAlarm a).sup = s.sup ∧ (s.clearAlarm a).persist = s.persist ∧ (s.clearAlarm a).restarted = s.restarted ∧
    (s.clearAlarm a).lanes = s.lanes ∧ (s.clearAlarm a).ports = s.ports ∧ (s.clearAlarm a).fab = s.fab ∧ (s.clearAlarm a).edit = s.edit ∧
    (s.clearAlarm a).prot = s.prot ∧ (s.clearAlarm a).ending = s.ending ∧ (s.clearAlarm a).engA = s.engA ∧ (s.clearAlarm a).engB = s.engB ∧ (s.clearAlarm a).lease = s.lease ∧
    (s.clearAlarm a).tim = s.tim ∧ (s.clearAlarm a).tod = s.tod ∧ (s.clearAlarm a).sealing = s.sealing ∧ (s.clearAlarm a).pm = s.pm ∧
    (s.clearAlarm a).sec = s.sec := by
  simp [State.clearAlarm]

@[simp] theorem State.clearAlarm_reads (s : State) (a : Alarm) :
    (∀ k₁, (s.clearAlarm a).lane k₁ = s.lane k₁) ∧ (∀ i₁ b₁ e₁, (s.clearAlarm a).val i₁ b₁ e₁ = s.val i₁ b₁ e₁) ∧
    (∀ i₁ b₁ e₁, (s.clearAlarm a).cfg i₁ b₁ e₁ = s.cfg i₁ b₁ e₁) ∧ (∀ i₁ b₁ e₁ n₁, (s.clearAlarm a).cfgF i₁ b₁ e₁ n₁ = s.cfgF i₁ b₁ e₁ n₁) ∧
    (s.clearAlarm a).portUp = s.portUp ∧ (∀ l₁, (s.clearAlarm a).enabled l₁ = s.enabled l₁) ∧ (∀ e₁, (s.clearAlarm a).engine e₁ = s.engine e₁) :=
  ⟨fun _ => by simp [State.lane], fun _ _ _ => by simp [State.val], fun _ _ _ => by simp [State.cfg, State.val], fun _ _ _ _ => by simp [State.cfgF, State.val], by simp [State.portUp], fun _ => by simp [State.enabled, State.cfg, State.val, State.portUp], fun _ => by simp [State.engine]⟩

@[simp] theorem State.raiseOnce_frame (s : State) (v i b n e : Nat) :
    (s.raiseOnce v i b n e).pending = s.pending ∧ (s.raiseOnce v i b n e).now = s.now ∧ (s.raiseOnce v i b n e).fresh = s.fresh ∧
    (s.raiseOnce v i b n e).power = s.power ∧ (s.raiseOnce v i b n e).sup = s.sup ∧ (s.raiseOnce v i b n e).persist = s.persist ∧
    (s.raiseOnce v i b n e).restarted = s.restarted ∧ (s.raiseOnce v i b n e).lanes = s.lanes ∧ (s.raiseOnce v i b n e).ports = s.ports ∧
    (s.raiseOnce v i b n e).fab = s.fab ∧ (s.raiseOnce v i b n e).edit = s.edit ∧ (s.raiseOnce v i b n e).prot = s.prot ∧ (s.raiseOnce v i b n e).ending = s.ending ∧
    (s.raiseOnce v i b n e).engA = s.engA ∧ (s.raiseOnce v i b n e).engB = s.engB ∧ (s.raiseOnce v i b n e).lease = s.lease ∧
    (s.raiseOnce v i b n e).tim = s.tim ∧ (s.raiseOnce v i b n e).tod = s.tod ∧ (s.raiseOnce v i b n e).sealing = s.sealing ∧
    (s.raiseOnce v i b n e).pm = s.pm ∧ (s.raiseOnce v i b n e).sec = s.sec := by
  unfold State.raiseOnce; split <;> simp

@[simp] theorem State.raiseOnce_reads (s : State) (v i b n e : Nat) :
    (∀ k₁, (s.raiseOnce v i b n e).lane k₁ = s.lane k₁) ∧ (∀ i₁ b₁ e₁, (s.raiseOnce v i b n e).val i₁ b₁ e₁ = s.val i₁ b₁ e₁) ∧
    (∀ i₁ b₁ e₁, (s.raiseOnce v i b n e).cfg i₁ b₁ e₁ = s.cfg i₁ b₁ e₁) ∧
    (∀ i₁ b₁ e₁ n₁, (s.raiseOnce v i b n e).cfgF i₁ b₁ e₁ n₁ = s.cfgF i₁ b₁ e₁ n₁) ∧ (s.raiseOnce v i b n e).portUp = s.portUp ∧
    (∀ l₁, (s.raiseOnce v i b n e).enabled l₁ = s.enabled l₁) ∧ (∀ e₁, (s.raiseOnce v i b n e).engine e₁ = s.engine e₁) :=
  ⟨fun _ => by simp [State.lane], fun _ _ _ => by simp [State.val], fun _ _ _ => by simp [State.cfg, State.val], fun _ _ _ _ => by simp [State.cfgF, State.val], by simp [State.portUp], fun _ => by simp [State.enabled, State.cfg, State.val, State.portUp], fun _ => by simp [State.engine]⟩

@[simp] theorem State.clearIf_frame (s : State) (i b n e : Nat) :
    (s.clearIf i b n e).pending = s.pending ∧ (s.clearIf i b n e).now = s.now ∧ (s.clearIf i b n e).fresh = s.fresh ∧
    (s.clearIf i b n e).power = s.power ∧ (s.clearIf i b n e).sup = s.sup ∧ (s.clearIf i b n e).persist = s.persist ∧
    (s.clearIf i b n e).restarted = s.restarted ∧ (s.clearIf i b n e).lanes = s.lanes ∧ (s.clearIf i b n e).ports = s.ports ∧
    (s.clearIf i b n e).fab = s.fab ∧ (s.clearIf i b n e).edit = s.edit ∧ (s.clearIf i b n e).prot = s.prot ∧ (s.clearIf i b n e).ending = s.ending ∧ (s.clearIf i b n e).engA = s.engA ∧
    (s.clearIf i b n e).engB = s.engB ∧ (s.clearIf i b n e).lease = s.lease ∧ (s.clearIf i b n e).tim = s.tim ∧ (s.clearIf i b n e).tod = s.tod ∧
    (s.clearIf i b n e).sealing = s.sealing ∧ (s.clearIf i b n e).pm = s.pm ∧ (s.clearIf i b n e).sec = s.sec := by
  unfold State.clearIf; split <;> simp

@[simp] theorem State.clearIf_reads (s : State) (i b n e : Nat) :
    (∀ k₁, (s.clearIf i b n e).lane k₁ = s.lane k₁) ∧ (∀ i₁ b₁ e₁, (s.clearIf i b n e).val i₁ b₁ e₁ = s.val i₁ b₁ e₁) ∧
    (∀ i₁ b₁ e₁, (s.clearIf i b n e).cfg i₁ b₁ e₁ = s.cfg i₁ b₁ e₁) ∧ (∀ i₁ b₁ e₁ n₁, (s.clearIf i b n e).cfgF i₁ b₁ e₁ n₁ = s.cfgF i₁ b₁ e₁ n₁) ∧
    (s.clearIf i b n e).portUp = s.portUp ∧ (∀ l₁, (s.clearIf i b n e).enabled l₁ = s.enabled l₁) ∧
    (∀ e₁, (s.clearIf i b n e).engine e₁ = s.engine e₁) :=
  ⟨fun _ => by simp [State.lane], fun _ _ _ => by simp [State.val], fun _ _ _ => by simp [State.cfg, State.val], fun _ _ _ _ => by simp [State.cfgF, State.val], by simp [State.portUp], fun _ => by simp [State.enabled, State.cfg, State.val, State.portUp], fun _ => by simp [State.engine]⟩

@[simp] theorem State.noteCond_frame (s : State) (c : AlarmCond) (p : Bool) :
    (s.noteCond c p).pending = s.pending ∧ (s.noteCond c p).now = s.now ∧ (s.noteCond c p).fresh = s.fresh ∧ (s.noteCond c p).out = s.out ∧
    (s.noteCond c p).power = s.power ∧ (s.noteCond c p).sup = s.sup ∧ (s.noteCond c p).mgmt = s.mgmt ∧ (s.noteCond c p).persist = s.persist ∧
    (s.noteCond c p).cnt = s.cnt ∧ (s.noteCond c p).restarted = s.restarted ∧ (s.noteCond c p).lanes = s.lanes ∧ (s.noteCond c p).ports = s.ports ∧
    (s.noteCond c p).fab = s.fab ∧ (s.noteCond c p).edit = s.edit ∧ (s.noteCond c p).prot = s.prot ∧ (s.noteCond c p).ending = s.ending ∧ (s.noteCond c p).engA = s.engA ∧
    (s.noteCond c p).engB = s.engB ∧ (s.noteCond c p).lease = s.lease ∧ (s.noteCond c p).tim = s.tim ∧ (s.noteCond c p).tod = s.tod ∧
    (s.noteCond c p).sealing = s.sealing ∧ (s.noteCond c p).pm = s.pm ∧ (s.noteCond c p).sec = s.sec := by
  unfold State.noteCond; repeat' split
  all_goals simp

@[simp] theorem State.noteCond_reads (s : State) (c : AlarmCond) (p : Bool) :
    (∀ k₁, (s.noteCond c p).lane k₁ = s.lane k₁) ∧ (∀ i₁ b₁ e₁, (s.noteCond c p).val i₁ b₁ e₁ = s.val i₁ b₁ e₁) ∧
    (∀ i₁ b₁ e₁, (s.noteCond c p).cfg i₁ b₁ e₁ = s.cfg i₁ b₁ e₁) ∧ (∀ i₁ b₁ e₁ n₁, (s.noteCond c p).cfgF i₁ b₁ e₁ n₁ = s.cfgF i₁ b₁ e₁ n₁) ∧
    (s.noteCond c p).portUp = s.portUp ∧ (∀ l₁, (s.noteCond c p).enabled l₁ = s.enabled l₁) ∧ (∀ i₁, (s.noteCond c p).session? i₁ = s.session? i₁) ∧
    (∀ e₁, (s.noteCond c p).engine e₁ = s.engine e₁) ∧ (∀ i₁ b₁ f₁ e₁, (s.noteCond c p).ctr i₁ b₁ f₁ e₁ = s.ctr i₁ b₁ f₁ e₁) :=
  ⟨fun _ => by simp [State.lane], fun _ _ _ => by simp [State.val], fun _ _ _ => by simp [State.cfg, State.val], fun _ _ _ _ => by simp [State.cfgF, State.val], by simp [State.portUp], fun _ => by simp [State.enabled, State.cfg, State.val, State.portUp], fun _ => by simp [State.session?], fun _ => by simp [State.engine], fun _ _ _ _ => by simp [State.ctr]⟩

@[simp] theorem State.auditWrite_frame (s : State) (rs : List AuditRec) :
    (s.auditWrite rs).pending = s.pending ∧ (s.auditWrite rs).now = s.now ∧ (s.auditWrite rs).fresh = s.fresh ∧ (s.auditWrite rs).out = s.out ∧
    (s.auditWrite rs).power = s.power ∧ (s.auditWrite rs).sup = s.sup ∧ (s.auditWrite rs).mgmt = s.mgmt ∧ (s.auditWrite rs).store = s.store ∧
    (s.auditWrite rs).persist = s.persist ∧ (s.auditWrite rs).restarted = s.restarted ∧ (s.auditWrite rs).lanes = s.lanes ∧
    (s.auditWrite rs).ports = s.ports ∧ (s.auditWrite rs).fab = s.fab ∧ (s.auditWrite rs).edit = s.edit ∧ (s.auditWrite rs).prot = s.prot ∧ (s.auditWrite rs).ending = s.ending ∧
    (s.auditWrite rs).engA = s.engA ∧ (s.auditWrite rs).engB = s.engB ∧ (s.auditWrite rs).lease = s.lease ∧ (s.auditWrite rs).tim = s.tim ∧
    (s.auditWrite rs).tod = s.tod ∧ (s.auditWrite rs).sealing = s.sealing ∧ (s.auditWrite rs).pm = s.pm := by
  simp [State.auditWrite]

@[simp] theorem State.auditWrite_reads (s : State) (rs : List AuditRec) :
    (∀ k₁, (s.auditWrite rs).lane k₁ = s.lane k₁) ∧ (∀ i₁ b₁ e₁, (s.auditWrite rs).val i₁ b₁ e₁ = s.val i₁ b₁ e₁) ∧
    (∀ i₁ b₁ e₁, (s.auditWrite rs).cfg i₁ b₁ e₁ = s.cfg i₁ b₁ e₁) ∧ (∀ i₁ b₁ e₁ n₁, (s.auditWrite rs).cfgF i₁ b₁ e₁ n₁ = s.cfgF i₁ b₁ e₁ n₁) ∧
    (s.auditWrite rs).portUp = s.portUp ∧ (∀ l₁, (s.auditWrite rs).enabled l₁ = s.enabled l₁) ∧
    (∀ i₁, (s.auditWrite rs).session? i₁ = s.session? i₁) ∧ (∀ e₁, (s.auditWrite rs).engine e₁ = s.engine e₁) :=
  ⟨fun _ => by simp [State.lane], fun _ _ _ => by simp [State.val], fun _ _ _ => by simp [State.cfg, State.val], fun _ _ _ _ => by simp [State.cfgF, State.val], by simp [State.portUp], fun _ => by simp [State.enabled, State.cfg, State.val, State.portUp], fun _ => by simp [State.session?], fun _ => by simp [State.engine]⟩

@[simp] theorem State.auditCond_frame (s : State) :
    (s.auditCond).pending = s.pending ∧ (s.auditCond).now = s.now ∧ (s.auditCond).fresh = s.fresh ∧ (s.auditCond).out = s.out ∧
    (s.auditCond).power = s.power ∧ (s.auditCond).sup = s.sup ∧ (s.auditCond).mgmt = s.mgmt ∧ (s.auditCond).persist = s.persist ∧
    (s.auditCond).cnt = s.cnt ∧ (s.auditCond).restarted = s.restarted ∧ (s.auditCond).lanes = s.lanes ∧ (s.auditCond).ports = s.ports ∧
    (s.auditCond).fab = s.fab ∧ (s.auditCond).edit = s.edit ∧ (s.auditCond).prot = s.prot ∧ (s.auditCond).ending = s.ending ∧ (s.auditCond).engA = s.engA ∧
    (s.auditCond).engB = s.engB ∧ (s.auditCond).lease = s.lease ∧ (s.auditCond).tim = s.tim ∧ (s.auditCond).tod = s.tod ∧
    (s.auditCond).sealing = s.sealing ∧ (s.auditCond).pm = s.pm ∧ (s.auditCond).sec = s.sec := by
  simp only [State.auditCond]; repeat' split
  all_goals simp

@[simp] theorem State.auditCond_reads (s : State) :
    (∀ k₁, (s.auditCond).lane k₁ = s.lane k₁) ∧ (∀ i₁ b₁ e₁, (s.auditCond).val i₁ b₁ e₁ = s.val i₁ b₁ e₁) ∧
    (∀ i₁ b₁ e₁, (s.auditCond).cfg i₁ b₁ e₁ = s.cfg i₁ b₁ e₁) ∧ (∀ i₁ b₁ e₁ n₁, (s.auditCond).cfgF i₁ b₁ e₁ n₁ = s.cfgF i₁ b₁ e₁ n₁) ∧
    (s.auditCond).portUp = s.portUp ∧ (∀ l₁, (s.auditCond).enabled l₁ = s.enabled l₁) ∧ (∀ i₁, (s.auditCond).session? i₁ = s.session? i₁) ∧
    (∀ e₁, (s.auditCond).engine e₁ = s.engine e₁) ∧ (∀ i₁ b₁ f₁ e₁, (s.auditCond).ctr i₁ b₁ f₁ e₁ = s.ctr i₁ b₁ f₁ e₁) :=
  ⟨fun _ => by simp [State.lane], fun _ _ _ => by simp [State.val], fun _ _ _ => by simp [State.cfg, State.val], fun _ _ _ _ => by simp [State.cfgF, State.val], by simp [State.portUp], fun _ => by simp [State.enabled, State.cfg, State.val, State.portUp], fun _ => by simp [State.session?], fun _ => by simp [State.engine], fun _ _ _ _ => by simp [State.ctr]⟩

@[simp] theorem State.audit_frame (s : State) (r : AuditRec) :
    (s.audit r).pending = s.pending ∧ (s.audit r).now = s.now ∧ (s.audit r).fresh = s.fresh ∧ (s.audit r).out = s.out ∧ (s.audit r).power = s.power ∧
    (s.audit r).sup = s.sup ∧ (s.audit r).mgmt = s.mgmt ∧ (s.audit r).persist = s.persist ∧ (s.audit r).restarted = s.restarted ∧
    (s.audit r).lanes = s.lanes ∧ (s.audit r).ports = s.ports ∧ (s.audit r).fab = s.fab ∧ (s.audit r).edit = s.edit ∧ (s.audit r).prot = s.prot ∧ (s.audit r).ending = s.ending ∧
    (s.audit r).engA = s.engA ∧ (s.audit r).engB = s.engB ∧ (s.audit r).lease = s.lease ∧ (s.audit r).tim = s.tim ∧ (s.audit r).tod = s.tod ∧
    (s.audit r).sealing = s.sealing ∧ (s.audit r).pm = s.pm := by
  simp only [State.audit]; repeat' split
  all_goals simp

@[simp] theorem State.audit_reads (s : State) (r : AuditRec) :
    (∀ k₁, (s.audit r).lane k₁ = s.lane k₁) ∧ (∀ i₁ b₁ e₁, (s.audit r).val i₁ b₁ e₁ = s.val i₁ b₁ e₁) ∧
    (∀ i₁ b₁ e₁, (s.audit r).cfg i₁ b₁ e₁ = s.cfg i₁ b₁ e₁) ∧ (∀ i₁ b₁ e₁ n₁, (s.audit r).cfgF i₁ b₁ e₁ n₁ = s.cfgF i₁ b₁ e₁ n₁) ∧
    (s.audit r).portUp = s.portUp ∧ (∀ l₁, (s.audit r).enabled l₁ = s.enabled l₁) ∧ (∀ i₁, (s.audit r).session? i₁ = s.session? i₁) ∧
    (∀ e₁, (s.audit r).engine e₁ = s.engine e₁) :=
  ⟨fun _ => by simp [State.lane], fun _ _ _ => by simp [State.val], fun _ _ _ => by simp [State.cfg, State.val], fun _ _ _ _ => by simp [State.cfgF, State.val], by simp [State.portUp], fun _ => by simp [State.enabled, State.cfg, State.val, State.portUp], fun _ => by simp [State.session?], fun _ => by simp [State.engine]⟩

@[simp] theorem State.auditObj_frame (s : State) (i b e : Nat) :
    (s.auditObj i b e).pending = s.pending ∧ (s.auditObj i b e).now = s.now ∧ (s.auditObj i b e).fresh = s.fresh ∧ (s.auditObj i b e).out = s.out ∧
    (s.auditObj i b e).power = s.power ∧ (s.auditObj i b e).sup = s.sup ∧ (s.auditObj i b e).mgmt = s.mgmt ∧ (s.auditObj i b e).persist = s.persist ∧
    (s.auditObj i b e).restarted = s.restarted ∧ (s.auditObj i b e).lanes = s.lanes ∧ (s.auditObj i b e).ports = s.ports ∧
    (s.auditObj i b e).fab = s.fab ∧ (s.auditObj i b e).edit = s.edit ∧ (s.auditObj i b e).prot = s.prot ∧ (s.auditObj i b e).ending = s.ending ∧ (s.auditObj i b e).engA = s.engA ∧
    (s.auditObj i b e).engB = s.engB ∧ (s.auditObj i b e).lease = s.lease ∧ (s.auditObj i b e).tim = s.tim ∧ (s.auditObj i b e).tod = s.tod ∧
    (s.auditObj i b e).sealing = s.sealing ∧ (s.auditObj i b e).pm = s.pm := by
  simp [State.auditObj]

@[simp] theorem State.auditObj_reads (s : State) (i b e : Nat) :
    (∀ k₁, (s.auditObj i b e).lane k₁ = s.lane k₁) ∧ (∀ i₁ b₁ e₁, (s.auditObj i b e).val i₁ b₁ e₁ = s.val i₁ b₁ e₁) ∧
    (∀ i₁ b₁ e₁, (s.auditObj i b e).cfg i₁ b₁ e₁ = s.cfg i₁ b₁ e₁) ∧ (∀ i₁ b₁ e₁ n₁, (s.auditObj i b e).cfgF i₁ b₁ e₁ n₁ = s.cfgF i₁ b₁ e₁ n₁) ∧
    (s.auditObj i b e).portUp = s.portUp ∧ (∀ l₁, (s.auditObj i b e).enabled l₁ = s.enabled l₁) ∧
    (∀ i₁, (s.auditObj i b e).session? i₁ = s.session? i₁) ∧ (∀ e₁, (s.auditObj i b e).engine e₁ = s.engine e₁) :=
  ⟨fun _ => by simp [State.lane], fun _ _ _ => by simp [State.val], fun _ _ _ => by simp [State.cfg, State.val], fun _ _ _ _ => by simp [State.cfgF, State.val], by simp [State.portUp], fun _ => by simp [State.enabled, State.cfg, State.val, State.portUp], fun _ => by simp [State.session?], fun _ => by simp [State.engine]⟩

@[simp] theorem State.releaseHoppers_frame (s : State) (i : Nat) :
    (s.releaseHoppers i).pending = s.pending ∧ (s.releaseHoppers i).now = s.now ∧ (s.releaseHoppers i).fresh = s.fresh ∧
    (s.releaseHoppers i).out = s.out ∧ (s.releaseHoppers i).power = s.power ∧ (s.releaseHoppers i).sup = s.sup ∧ (s.releaseHoppers i).mgmt = s.mgmt ∧
    (s.releaseHoppers i).persist = s.persist ∧ (s.releaseHoppers i).cnt = s.cnt ∧ (s.releaseHoppers i).restarted = s.restarted ∧
    (s.releaseHoppers i).lanes = s.lanes ∧ (s.releaseHoppers i).ports = s.ports ∧ (s.releaseHoppers i).fab = s.fab ∧
    (s.releaseHoppers i).edit = s.edit ∧ (s.releaseHoppers i).prot = s.prot ∧ (s.releaseHoppers i).ending = s.ending ∧ (s.releaseHoppers i).engA = s.engA ∧
    (s.releaseHoppers i).engB = s.engB ∧ (s.releaseHoppers i).lease = s.lease ∧ (s.releaseHoppers i).tim = s.tim ∧ (s.releaseHoppers i).tod = s.tod ∧
    (s.releaseHoppers i).sealing = s.sealing ∧ (s.releaseHoppers i).pm = s.pm ∧ (s.releaseHoppers i).sec = s.sec := by
  exact ⟨rfl, rfl, rfl, rfl, rfl, rfl, rfl, rfl, rfl, rfl, rfl, rfl, rfl, rfl, rfl, rfl, rfl, rfl, rfl, rfl, rfl, rfl, rfl, rfl⟩

@[simp] theorem State.releaseHoppers_reads (s : State) (i : Nat) :
    (∀ k₁, (s.releaseHoppers i).lane k₁ = s.lane k₁) ∧ (∀ i₁ b₁ e₁, (s.releaseHoppers i).val i₁ b₁ e₁ = s.val i₁ b₁ e₁) ∧
    (∀ i₁ b₁ e₁, (s.releaseHoppers i).cfg i₁ b₁ e₁ = s.cfg i₁ b₁ e₁) ∧ (∀ i₁ b₁ e₁ n₁, (s.releaseHoppers i).cfgF i₁ b₁ e₁ n₁ = s.cfgF i₁ b₁ e₁ n₁) ∧
    (s.releaseHoppers i).portUp = s.portUp ∧ (∀ l₁, (s.releaseHoppers i).enabled l₁ = s.enabled l₁) ∧
    (∀ i₁, (s.releaseHoppers i).session? i₁ = s.session? i₁) ∧ (∀ e₁, (s.releaseHoppers i).engine e₁ = s.engine e₁) ∧
    (∀ i₁ b₁ f₁ e₁, (s.releaseHoppers i).ctr i₁ b₁ f₁ e₁ = s.ctr i₁ b₁ f₁ e₁) :=
  ⟨fun _ => by simp [State.lane], fun _ _ _ => by simp [State.val], fun _ _ _ => by simp [State.cfg, State.val], fun _ _ _ _ => by simp [State.cfgF, State.val], by simp [State.portUp], fun _ => by simp [State.enabled, State.cfg, State.val, State.portUp], fun _ => by simp [State.session?], fun _ => by simp [State.engine], fun _ _ _ _ => by simp [State.ctr]⟩

@[simp] theorem State.modSlot_frame (s : State) (i : Nat) (f : Slot → Slot) :
    (s.modSlot i f).pending = s.pending ∧ (s.modSlot i f).now = s.now ∧ (s.modSlot i f).fresh = s.fresh ∧ (s.modSlot i f).out = s.out ∧
    (s.modSlot i f).power = s.power ∧ (s.modSlot i f).sup = s.sup ∧ (s.modSlot i f).mgmt = s.mgmt ∧ (s.modSlot i f).store = s.store ∧
    (s.modSlot i f).persist = s.persist ∧ (s.modSlot i f).cnt = s.cnt ∧ (s.modSlot i f).restarted = s.restarted ∧ (s.modSlot i f).lanes = s.lanes ∧
    (s.modSlot i f).ports = s.ports ∧ (s.modSlot i f).fab = s.fab ∧ (s.modSlot i f).edit = s.edit ∧ (s.modSlot i f).prot = s.prot ∧ (s.modSlot i f).ending = s.ending ∧
    (s.modSlot i f).engA = s.engA ∧ (s.modSlot i f).engB = s.engB ∧ (s.modSlot i f).lease = s.lease ∧ (s.modSlot i f).tim = s.tim ∧
    (s.modSlot i f).tod = s.tod ∧ (s.modSlot i f).sealing = s.sealing ∧ (s.modSlot i f).pm = s.pm := by
  unfold State.modSlot; split <;> simp

@[simp] theorem State.modSlot_reads (s : State) (i : Nat) (f : Slot → Slot) :
    (∀ k₁, (s.modSlot i f).lane k₁ = s.lane k₁) ∧ (∀ i₁ b₁ e₁, (s.modSlot i f).val i₁ b₁ e₁ = s.val i₁ b₁ e₁) ∧
    (∀ i₁ b₁ e₁, (s.modSlot i f).cfg i₁ b₁ e₁ = s.cfg i₁ b₁ e₁) ∧ (∀ i₁ b₁ e₁ n₁, (s.modSlot i f).cfgF i₁ b₁ e₁ n₁ = s.cfgF i₁ b₁ e₁ n₁) ∧
    (s.modSlot i f).portUp = s.portUp ∧ (∀ l₁, (s.modSlot i f).enabled l₁ = s.enabled l₁) ∧ (∀ i₁, (s.modSlot i f).session? i₁ = s.session? i₁) ∧
    (∀ e₁, (s.modSlot i f).engine e₁ = s.engine e₁) ∧ (∀ i₁ b₁ f₁ e₁, (s.modSlot i f).ctr i₁ b₁ f₁ e₁ = s.ctr i₁ b₁ f₁ e₁) :=
  ⟨fun _ => by simp [State.lane], fun _ _ _ => by simp [State.val], fun _ _ _ => by simp [State.cfg, State.val], fun _ _ _ _ => by simp [State.cfgF, State.val], by simp [State.portUp], fun _ => by simp [State.enabled, State.cfg, State.val, State.portUp], fun _ => by simp [State.session?], fun _ => by simp [State.engine], fun _ _ _ _ => by simp [State.ctr]⟩

@[simp] theorem State.dropTransfer_frame (s : State) (x : Transfer) :
    (s.dropTransfer x).pending = s.pending ∧ (s.dropTransfer x).now = s.now ∧ (s.dropTransfer x).fresh = s.fresh ∧ (s.dropTransfer x).out = s.out ∧
    (s.dropTransfer x).power = s.power ∧ (s.dropTransfer x).sup = s.sup ∧ (s.dropTransfer x).mgmt = s.mgmt ∧ (s.dropTransfer x).store = s.store ∧
    (s.dropTransfer x).persist = s.persist ∧ (s.dropTransfer x).cnt = s.cnt ∧ (s.dropTransfer x).restarted = s.restarted ∧
    (s.dropTransfer x).lanes = s.lanes ∧ (s.dropTransfer x).ports = s.ports ∧ (s.dropTransfer x).fab = s.fab ∧ (s.dropTransfer x).edit = s.edit ∧
    (s.dropTransfer x).prot = s.prot ∧ (s.dropTransfer x).ending = s.ending ∧ (s.dropTransfer x).engA = s.engA ∧ (s.dropTransfer x).engB = s.engB ∧ (s.dropTransfer x).lease = s.lease ∧
    (s.dropTransfer x).tim = s.tim ∧ (s.dropTransfer x).tod = s.tod ∧ (s.dropTransfer x).sealing = s.sealing ∧ (s.dropTransfer x).pm = s.pm := by
  unfold State.dropTransfer; split <;> simp

@[simp] theorem State.dropTransfer_reads (s : State) (x : Transfer) :
    (∀ k₁, (s.dropTransfer x).lane k₁ = s.lane k₁) ∧ (∀ i₁ b₁ e₁, (s.dropTransfer x).val i₁ b₁ e₁ = s.val i₁ b₁ e₁) ∧
    (∀ i₁ b₁ e₁, (s.dropTransfer x).cfg i₁ b₁ e₁ = s.cfg i₁ b₁ e₁) ∧ (∀ i₁ b₁ e₁ n₁, (s.dropTransfer x).cfgF i₁ b₁ e₁ n₁ = s.cfgF i₁ b₁ e₁ n₁) ∧
    (s.dropTransfer x).portUp = s.portUp ∧ (∀ l₁, (s.dropTransfer x).enabled l₁ = s.enabled l₁) ∧
    (∀ i₁, (s.dropTransfer x).session? i₁ = s.session? i₁) ∧ (∀ e₁, (s.dropTransfer x).engine e₁ = s.engine e₁) ∧
    (∀ i₁ b₁ f₁ e₁, (s.dropTransfer x).ctr i₁ b₁ f₁ e₁ = s.ctr i₁ b₁ f₁ e₁) :=
  ⟨fun _ => by simp [State.lane], fun _ _ _ => by simp [State.val], fun _ _ _ => by simp [State.cfg, State.val], fun _ _ _ _ => by simp [State.cfgF, State.val], by simp [State.portUp], fun _ => by simp [State.enabled, State.cfg, State.val, State.portUp], fun _ => by simp [State.session?], fun _ => by simp [State.engine], fun _ _ _ _ => by simp [State.ctr]⟩

@[simp] theorem State.dropTransfers_frame (s : State) (i : Nat) :
    (s.dropTransfers i).pending = s.pending ∧ (s.dropTransfers i).now = s.now ∧ (s.dropTransfers i).fresh = s.fresh ∧
    (s.dropTransfers i).out = s.out ∧ (s.dropTransfers i).power = s.power ∧ (s.dropTransfers i).sup = s.sup ∧ (s.dropTransfers i).store = s.store ∧
    (s.dropTransfers i).persist = s.persist ∧ (s.dropTransfers i).cnt = s.cnt ∧ (s.dropTransfers i).restarted = s.restarted ∧
    (s.dropTransfers i).lanes = s.lanes ∧ (s.dropTransfers i).ports = s.ports ∧ (s.dropTransfers i).fab = s.fab ∧ (s.dropTransfers i).edit = s.edit ∧
    (s.dropTransfers i).prot = s.prot ∧ (s.dropTransfers i).ending = s.ending ∧ (s.dropTransfers i).engA = s.engA ∧ (s.dropTransfers i).engB = s.engB ∧ (s.dropTransfers i).lease = s.lease ∧
    (s.dropTransfers i).tim = s.tim ∧ (s.dropTransfers i).tod = s.tod ∧ (s.dropTransfers i).sealing = s.sealing ∧ (s.dropTransfers i).pm = s.pm := by
  refine ⟨?_, ?_, ?_, ?_, ?_, ?_, ?_, ?_, ?_, ?_, ?_, ?_, ?_, ?_, ?_, ?_, ?_, ?_, ?_, ?_, ?_, ?_, ?_⟩ <;> (simp only [State.dropTransfers]; apply State.each_keep; intro a s; simp)

@[simp] theorem State.dropTransfers_reads (s : State) (i : Nat) :
    (∀ k₁, (s.dropTransfers i).lane k₁ = s.lane k₁) ∧ (∀ i₁ b₁ e₁, (s.dropTransfers i).val i₁ b₁ e₁ = s.val i₁ b₁ e₁) ∧
    (∀ i₁ b₁ e₁, (s.dropTransfers i).cfg i₁ b₁ e₁ = s.cfg i₁ b₁ e₁) ∧ (∀ i₁ b₁ e₁ n₁, (s.dropTransfers i).cfgF i₁ b₁ e₁ n₁ = s.cfgF i₁ b₁ e₁ n₁) ∧
    (s.dropTransfers i).portUp = s.portUp ∧ (∀ l₁, (s.dropTransfers i).enabled l₁ = s.enabled l₁) ∧
    (∀ e₁, (s.dropTransfers i).engine e₁ = s.engine e₁) ∧ (∀ i₁ b₁ f₁ e₁, (s.dropTransfers i).ctr i₁ b₁ f₁ e₁ = s.ctr i₁ b₁ f₁ e₁) :=
  ⟨fun _ => by simp [State.lane], fun _ _ _ => by simp [State.val], fun _ _ _ => by simp [State.cfg, State.val], fun _ _ _ _ => by simp [State.cfgF, State.val], by simp [State.portUp], fun _ => by simp [State.enabled, State.cfg, State.val, State.portUp], fun _ => by simp [State.engine], fun _ _ _ _ => by simp [State.ctr]⟩

@[simp] theorem State.closeSess_frame (s : State) (i c : Nat) :
    (s.closeSess i c).pending = s.pending ∧ (s.closeSess i c).now = s.now ∧ (s.closeSess i c).fresh = s.fresh ∧ (s.closeSess i c).out = s.out ∧
    (s.closeSess i c).power = s.power ∧ (s.closeSess i c).sup = s.sup ∧ (s.closeSess i c).persist = s.persist ∧
    (s.closeSess i c).restarted = s.restarted ∧ (s.closeSess i c).lanes = s.lanes ∧ (s.closeSess i c).ports = s.ports ∧
    (s.closeSess i c).fab = s.fab ∧ (s.closeSess i c).edit = s.edit ∧ (s.closeSess i c).prot = s.prot ∧ (s.closeSess i c).ending = s.ending ∧ (s.closeSess i c).engA = s.engA ∧
    (s.closeSess i c).engB = s.engB ∧ (s.closeSess i c).lease = s.lease ∧ (s.closeSess i c).tim = s.tim ∧ (s.closeSess i c).tod = s.tod ∧
    (s.closeSess i c).sealing = s.sealing ∧ (s.closeSess i c).pm = s.pm := by
  simp only [State.closeSess]; split <;> simp

@[simp] theorem State.closeSess_reads (s : State) (i c : Nat) :
    (∀ k₁, (s.closeSess i c).lane k₁ = s.lane k₁) ∧ (∀ i₁ b₁ e₁, (s.closeSess i c).val i₁ b₁ e₁ = s.val i₁ b₁ e₁) ∧
    (∀ i₁ b₁ e₁, (s.closeSess i c).cfg i₁ b₁ e₁ = s.cfg i₁ b₁ e₁) ∧ (∀ i₁ b₁ e₁ n₁, (s.closeSess i c).cfgF i₁ b₁ e₁ n₁ = s.cfgF i₁ b₁ e₁ n₁) ∧
    (s.closeSess i c).portUp = s.portUp ∧ (∀ l₁, (s.closeSess i c).enabled l₁ = s.enabled l₁) ∧ (∀ e₁, (s.closeSess i c).engine e₁ = s.engine e₁) :=
  ⟨fun _ => by simp [State.lane], fun _ _ _ => by simp [State.val], fun _ _ _ => by simp [State.cfg, State.val], fun _ _ _ _ => by simp [State.cfgF, State.val], by simp [State.portUp], fun _ => by simp [State.enabled, State.cfg, State.val, State.portUp], fun _ => by simp [State.engine]⟩

@[simp] theorem State.closeAll_frame (s : State) (c : Nat) :
    (s.closeAll c).pending = s.pending ∧ (s.closeAll c).now = s.now ∧ (s.closeAll c).fresh = s.fresh ∧ (s.closeAll c).out = s.out ∧
    (s.closeAll c).power = s.power ∧ (s.closeAll c).sup = s.sup ∧ (s.closeAll c).persist = s.persist ∧ (s.closeAll c).restarted = s.restarted ∧
    (s.closeAll c).lanes = s.lanes ∧ (s.closeAll c).ports = s.ports ∧ (s.closeAll c).fab = s.fab ∧ (s.closeAll c).edit = s.edit ∧
    (s.closeAll c).prot = s.prot ∧ (s.closeAll c).ending = s.ending ∧ (s.closeAll c).engA = s.engA ∧ (s.closeAll c).engB = s.engB ∧ (s.closeAll c).lease = s.lease ∧
    (s.closeAll c).tim = s.tim ∧ (s.closeAll c).tod = s.tod ∧ (s.closeAll c).sealing = s.sealing ∧ (s.closeAll c).pm = s.pm := by
  refine ⟨?_, ?_, ?_, ?_, ?_, ?_, ?_, ?_, ?_, ?_, ?_, ?_, ?_, ?_, ?_, ?_, ?_, ?_, ?_, ?_, ?_⟩ <;> (simp only [State.closeAll]; apply State.each_keep; intro a s; simp)

@[simp] theorem State.closeAll_reads (s : State) (c : Nat) :
    (∀ k₁, (s.closeAll c).lane k₁ = s.lane k₁) ∧ (∀ i₁ b₁ e₁, (s.closeAll c).val i₁ b₁ e₁ = s.val i₁ b₁ e₁) ∧
    (∀ i₁ b₁ e₁, (s.closeAll c).cfg i₁ b₁ e₁ = s.cfg i₁ b₁ e₁) ∧ (∀ i₁ b₁ e₁ n₁, (s.closeAll c).cfgF i₁ b₁ e₁ n₁ = s.cfgF i₁ b₁ e₁ n₁) ∧
    (s.closeAll c).portUp = s.portUp ∧ (∀ l₁, (s.closeAll c).enabled l₁ = s.enabled l₁) ∧ (∀ e₁, (s.closeAll c).engine e₁ = s.engine e₁) :=
  ⟨fun _ => by simp [State.lane], fun _ _ _ => by simp [State.val], fun _ _ _ => by simp [State.cfg, State.val], fun _ _ _ _ => by simp [State.cfgF, State.val], by simp [State.portUp], fun _ => by simp [State.enabled, State.cfg, State.val, State.portUp], fun _ => by simp [State.engine]⟩

@[simp] theorem State.seqLimit_frame (s : State) (i : Nat) :
    (s.seqLimit i).pending = s.pending ∧ (s.seqLimit i).now = s.now ∧ (s.seqLimit i).fresh = s.fresh ∧ (s.seqLimit i).out = s.out ∧
    (s.seqLimit i).power = s.power ∧ (s.seqLimit i).sup = s.sup ∧ (s.seqLimit i).persist = s.persist ∧ (s.seqLimit i).restarted = s.restarted ∧
    (s.seqLimit i).lanes = s.lanes ∧ (s.seqLimit i).ports = s.ports ∧ (s.seqLimit i).fab = s.fab ∧ (s.seqLimit i).edit = s.edit ∧
    (s.seqLimit i).prot = s.prot ∧ (s.seqLimit i).ending = s.ending ∧ (s.seqLimit i).engA = s.engA ∧ (s.seqLimit i).engB = s.engB ∧ (s.seqLimit i).lease = s.lease ∧
    (s.seqLimit i).tim = s.tim ∧ (s.seqLimit i).tod = s.tod ∧ (s.seqLimit i).sealing = s.sealing ∧ (s.seqLimit i).pm = s.pm := by
  unfold State.seqLimit; repeat' split
  all_goals simp

@[simp] theorem State.seqLimit_reads (s : State) (i : Nat) :
    (∀ k₁, (s.seqLimit i).lane k₁ = s.lane k₁) ∧ (∀ i₁ b₁ e₁, (s.seqLimit i).val i₁ b₁ e₁ = s.val i₁ b₁ e₁) ∧
    (∀ i₁ b₁ e₁, (s.seqLimit i).cfg i₁ b₁ e₁ = s.cfg i₁ b₁ e₁) ∧ (∀ i₁ b₁ e₁ n₁, (s.seqLimit i).cfgF i₁ b₁ e₁ n₁ = s.cfgF i₁ b₁ e₁ n₁) ∧
    (s.seqLimit i).portUp = s.portUp ∧ (∀ l₁, (s.seqLimit i).enabled l₁ = s.enabled l₁) ∧ (∀ e₁, (s.seqLimit i).engine e₁ = s.engine e₁) :=
  ⟨fun _ => by simp [State.lane], fun _ _ _ => by simp [State.val], fun _ _ _ => by simp [State.cfg, State.val], fun _ _ _ _ => by simp [State.cfgF, State.val], by simp [State.portUp], fun _ => by simp [State.enabled, State.cfg, State.val, State.portUp], fun _ => by simp [State.engine]⟩

@[simp] theorem State.respond_frame (s : State) (op : Nat) (q : Req) (a : Ans) :
    (s.respond op q a).pending = s.pending ∧ (s.respond op q a).now = s.now ∧ (s.respond op q a).fresh = s.fresh ∧
    (s.respond op q a).power = s.power ∧ (s.respond op q a).sup = s.sup ∧ (s.respond op q a).persist = s.persist ∧
    (s.respond op q a).restarted = s.restarted ∧ (s.respond op q a).lanes = s.lanes ∧ (s.respond op q a).ports = s.ports ∧
    (s.respond op q a).fab = s.fab ∧ (s.respond op q a).edit = s.edit ∧ (s.respond op q a).prot = s.prot ∧ (s.respond op q a).ending = s.ending ∧ (s.respond op q a).engA = s.engA ∧
    (s.respond op q a).engB = s.engB ∧ (s.respond op q a).lease = s.lease ∧ (s.respond op q a).tim = s.tim ∧ (s.respond op q a).tod = s.tod ∧
    (s.respond op q a).sealing = s.sealing ∧ (s.respond op q a).pm = s.pm := by
  simp only [State.respond]; split <;> simp

@[simp] theorem State.respond_reads (s : State) (op : Nat) (q : Req) (a : Ans) :
    (∀ k₁, (s.respond op q a).lane k₁ = s.lane k₁) ∧ (∀ i₁ b₁ e₁, (s.respond op q a).val i₁ b₁ e₁ = s.val i₁ b₁ e₁) ∧
    (∀ i₁ b₁ e₁, (s.respond op q a).cfg i₁ b₁ e₁ = s.cfg i₁ b₁ e₁) ∧ (∀ i₁ b₁ e₁ n₁, (s.respond op q a).cfgF i₁ b₁ e₁ n₁ = s.cfgF i₁ b₁ e₁ n₁) ∧
    (s.respond op q a).portUp = s.portUp ∧ (∀ l₁, (s.respond op q a).enabled l₁ = s.enabled l₁) ∧ (∀ e₁, (s.respond op q a).engine e₁ = s.engine e₁) :=
  ⟨fun _ => by simp [State.lane], fun _ _ _ => by simp [State.val], fun _ _ _ => by simp [State.cfg, State.val], fun _ _ _ _ => by simp [State.cfgF, State.val], by simp [State.portUp], fun _ => by simp [State.enabled, State.cfg, State.val, State.portUp], fun _ => by simp [State.engine]⟩

@[simp] theorem State.auditAccess_frame (s : State) (op : Nat) (q : Req) (x : Session) (a : Ans) :
    (s.auditAccess op q x a).pending = s.pending ∧ (s.auditAccess op q x a).now = s.now ∧ (s.auditAccess op q x a).fresh = s.fresh ∧
    (s.auditAccess op q x a).out = s.out ∧ (s.auditAccess op q x a).power = s.power ∧ (s.auditAccess op q x a).sup = s.sup ∧
    (s.auditAccess op q x a).mgmt = s.mgmt ∧ (s.auditAccess op q x a).persist = s.persist ∧ (s.auditAccess op q x a).restarted = s.restarted ∧
    (s.auditAccess op q x a).lanes = s.lanes ∧ (s.auditAccess op q x a).ports = s.ports ∧ (s.auditAccess op q x a).fab = s.fab ∧
    (s.auditAccess op q x a).edit = s.edit ∧ (s.auditAccess op q x a).prot = s.prot ∧ (s.auditAccess op q x a).ending = s.ending ∧ (s.auditAccess op q x a).engA = s.engA ∧
    (s.auditAccess op q x a).engB = s.engB ∧ (s.auditAccess op q x a).lease = s.lease ∧ (s.auditAccess op q x a).tim = s.tim ∧
    (s.auditAccess op q x a).tod = s.tod ∧ (s.auditAccess op q x a).sealing = s.sealing ∧ (s.auditAccess op q x a).pm = s.pm := by
  unfold State.auditAccess; split <;> simp

@[simp] theorem State.auditAccess_reads (s : State) (op : Nat) (q : Req) (x : Session) (a : Ans) :
    (∀ k₁, (s.auditAccess op q x a).lane k₁ = s.lane k₁) ∧ (∀ i₁ b₁ e₁, (s.auditAccess op q x a).val i₁ b₁ e₁ = s.val i₁ b₁ e₁) ∧
    (∀ i₁ b₁ e₁, (s.auditAccess op q x a).cfg i₁ b₁ e₁ = s.cfg i₁ b₁ e₁) ∧
    (∀ i₁ b₁ e₁ n₁, (s.auditAccess op q x a).cfgF i₁ b₁ e₁ n₁ = s.cfgF i₁ b₁ e₁ n₁) ∧ (s.auditAccess op q x a).portUp = s.portUp ∧
    (∀ l₁, (s.auditAccess op q x a).enabled l₁ = s.enabled l₁) ∧ (∀ i₁, (s.auditAccess op q x a).session? i₁ = s.session? i₁) ∧
    (∀ e₁, (s.auditAccess op q x a).engine e₁ = s.engine e₁) :=
  ⟨fun _ => by simp [State.lane], fun _ _ _ => by simp [State.val], fun _ _ _ => by simp [State.cfg, State.val], fun _ _ _ _ => by simp [State.cfgF, State.val], by simp [State.portUp], fun _ => by simp [State.enabled, State.cfg, State.val, State.portUp], fun _ => by simp [State.session?], fun _ => by simp [State.engine]⟩

@[simp] theorem State.answerHeld_frame (s : State) (i t : Nat) (a : Ans) :
    (s.answerHeld i t a).pending = s.pending ∧ (s.answerHeld i t a).now = s.now ∧ (s.answerHeld i t a).fresh = s.fresh ∧
    (s.answerHeld i t a).power = s.power ∧ (s.answerHeld i t a).sup = s.sup ∧ (s.answerHeld i t a).persist = s.persist ∧
    (s.answerHeld i t a).restarted = s.restarted ∧ (s.answerHeld i t a).lanes = s.lanes ∧ (s.answerHeld i t a).ports = s.ports ∧
    (s.answerHeld i t a).fab = s.fab ∧ (s.answerHeld i t a).edit = s.edit ∧ (s.answerHeld i t a).prot = s.prot ∧ (s.answerHeld i t a).ending = s.ending ∧ (s.answerHeld i t a).engA = s.engA ∧
    (s.answerHeld i t a).engB = s.engB ∧ (s.answerHeld i t a).lease = s.lease ∧ (s.answerHeld i t a).tim = s.tim ∧ (s.answerHeld i t a).tod = s.tod ∧
    (s.answerHeld i t a).sealing = s.sealing ∧ (s.answerHeld i t a).pm = s.pm := by
  unfold State.answerHeld; split <;> simp

@[simp] theorem State.answerHeld_reads (s : State) (i t : Nat) (a : Ans) :
    (∀ k₁, (s.answerHeld i t a).lane k₁ = s.lane k₁) ∧ (∀ i₁ b₁ e₁, (s.answerHeld i t a).val i₁ b₁ e₁ = s.val i₁ b₁ e₁) ∧
    (∀ i₁ b₁ e₁, (s.answerHeld i t a).cfg i₁ b₁ e₁ = s.cfg i₁ b₁ e₁) ∧ (∀ i₁ b₁ e₁ n₁, (s.answerHeld i t a).cfgF i₁ b₁ e₁ n₁ = s.cfgF i₁ b₁ e₁ n₁) ∧
    (s.answerHeld i t a).portUp = s.portUp ∧ (∀ l₁, (s.answerHeld i t a).enabled l₁ = s.enabled l₁) ∧
    (∀ e₁, (s.answerHeld i t a).engine e₁ = s.engine e₁) :=
  ⟨fun _ => by simp [State.lane], fun _ _ _ => by simp [State.val], fun _ _ _ => by simp [State.cfg, State.val], fun _ _ _ _ => by simp [State.cfgF, State.val], by simp [State.portUp], fun _ => by simp [State.enabled, State.cfg, State.val, State.portUp], fun _ => by simp [State.engine]⟩

/-! Read after write. -/

/-- A counter advances modulo 2^32 (12 R320). -/
theorem State.ctr_countN (s : State) (i b f e n : Nat) : (s.countN i b f e n).ctr i b f e = (s.ctr i b f e + n) % 4294967296 := by
  simp [State.ctr, State.countN, Ctr.add, BitVec.toNat_add]

theorem State.ctr_count (s : State) (i b f e : Nat) : (s.count i b f e).ctr i b f e = (s.ctr i b f e + 1) % 4294967296 :=
  State.ctr_countN ..

theorem State.ctr_countN_other (s : State) (i b f e n i' b' f' e' : Nat) (h : ctrKey i' b' f' e' ≠ ctrKey i b f e) :
    (s.countN i b f e n).ctr i' b' f' e' = s.ctr i' b' f' e' := by
  simp [State.ctr, State.countN, tget_tmod, h]

/-! Settings: what is written is read back, and no other setting changes. -/

theorem ssmOption_setVal (s : State) (i b e : Nat) (v : List Nat) (h : objKey 0x5400 1 0 ≠ objKey i b e) :
    ssmOption (s.setVal i b e v).persist.dict = ssmOption s.persist.dict := by
  simp [ssmOption, State.setVal, tget_tput, h]

theorem State.val_setVal (s : State) (i b e : Nat) (v : List Nat) (hv : v ≠ []) (h : objKey 0x5400 1 0 ≠ objKey i b e) :
    (s.setVal i b e v).val i b e = v := by
  rw [State.val, dictVal, ssmOption_setVal _ _ _ _ _ h]
  simp only [State.setVal, tget_tput_same]
  split
  · split at * <;> simp_all
  · split at * <;> simp_all

theorem State.val_setVal_other (s : State) (i b e i' b' e' : Nat) (v : List Nat) (h : objKey 0x5400 1 0 ≠ objKey i b e)
    (hk : objKey i' b' e' ≠ objKey i b e) : (s.setVal i b e v).val i' b' e' = s.val i' b' e' := by
  rw [State.val, State.val, dictVal, dictVal, ssmOption_setVal _ _ _ _ _ h]
  simp only [State.setVal, tget_tput, hk, if_false]

theorem State.val_setStaged (s : State) (i b e : Nat) (v : List Nat) (p : Bool) (hv : v ≠ []) (h : objKey 0x5400 1 0 ≠ objKey i b e) :
    (s.setStaged i b e v p).val i b e = v := by
  cases p <;> exact State.val_setVal s i b e v hv h

theorem State.val_setStaged_other (s : State) (i b e i' b' e' : Nat) (v : List Nat) (p : Bool) (h : objKey 0x5400 1 0 ≠ objKey i b e)
    (hk : objKey i' b' e' ≠ objKey i b e) : (s.setStaged i b e v p).val i' b' e' = s.val i' b' e' := by
  cases p <;> exact State.val_setVal_other s i b e i' b' e' v h hk

theorem objKey_inj {i b e i' b' e' : Nat} (h1 : b < 256) (h2 : b' < 256) (h3 : e < 4294967296) (h4 : e' < 4294967296) :
    objKey i b e = objKey i' b' e' ↔ i = i' ∧ b = b' ∧ e = e' := by
  unfold objKey; omega

end Sys2Proof.Machine
end

