-- ==== Sys2Proof/Laws/Lane.lean ====
section
/-! SUPPORT. What the operations on a lane do, and what they leave alone. -/

namespace Sys2Proof.Machine

@[simp] theorem State.noteLane_frame (s : State) (l : LaneId) :
    (s.noteLane l).pending = s.pending ∧ (s.noteLane l).now = s.now ∧ (s.noteLane l).fresh = s.fresh ∧ (s.noteLane l).out = s.out ∧
    (s.noteLane l).power = s.power ∧ (s.noteLane l).sup = s.sup ∧ (s.noteLane l).mgmt = s.mgmt ∧ (s.noteLane l).persist = s.persist ∧
    (s.noteLane l).cnt = s.cnt ∧ (s.noteLane l).restarted = s.restarted ∧ (s.noteLane l).lanes = s.lanes ∧ (s.noteLane l).ports = s.ports ∧
    (s.noteLane l).fab = s.fab ∧ (s.noteLane l).edit = s.edit ∧ (s.noteLane l).prot = s.prot ∧ (s.noteLane l).ending = s.ending ∧ (s.noteLane l).engA = s.engA ∧
    (s.noteLane l).engB = s.engB ∧ (s.noteLane l).lease = s.lease ∧ (s.noteLane l).tim = s.tim ∧ (s.noteLane l).tod = s.tod ∧
    (s.noteLane l).sealing = s.sealing ∧ (s.noteLane l).pm = s.pm ∧ (s.noteLane l).sec = s.sec := by
  refine ⟨?_, ?_, ?_, ?_, ?_, ?_, ?_, ?_, ?_, ?_, ?_, ?_, ?_, ?_, ?_, ?_, ?_, ?_, ?_, ?_, ?_, ?_, ?_, ?_⟩ <;> (simp only [State.noteLane]; apply State.each_keep; intro a s; simp)

@[simp] theorem State.noteLane_reads (s : State) (l : LaneId) :
    (∀ k₁, (s.noteLane l).lane k₁ = s.lane k₁) ∧ (∀ i₁ b₁ e₁, (s.noteLane l).val i₁ b₁ e₁ = s.val i₁ b₁ e₁) ∧
    (∀ i₁ b₁ e₁, (s.noteLane l).cfg i₁ b₁ e₁ = s.cfg i₁ b₁ e₁) ∧ (∀ i₁ b₁ e₁ n₁, (s.noteLane l).cfgF i₁ b₁ e₁ n₁ = s.cfgF i₁ b₁ e₁ n₁) ∧
    (s.noteLane l).portUp = s.portUp ∧ (∀ l₁, (s.noteLane l).enabled l₁ = s.enabled l₁) ∧ (∀ i₁, (s.noteLane l).session? i₁ = s.session? i₁) ∧
    (∀ e₁, (s.noteLane l).engine e₁ = s.engine e₁) ∧ (∀ i₁ b₁ f₁ e₁, (s.noteLane l).ctr i₁ b₁ f₁ e₁ = s.ctr i₁ b₁ f₁ e₁) :=
  ⟨fun _ => by simp [State.lane], fun _ _ _ => by simp [State.val], fun _ _ _ => by simp [State.cfg, State.val], fun _ _ _ _ => by simp [State.cfgF, State.val], by simp [State.portUp], fun _ => by simp [State.enabled, State.cfg, State.val, State.portUp], fun _ => by simp [State.session?], fun _ => by simp [State.engine], fun _ _ _ _ => by simp [State.ctr]⟩

@[simp] theorem State.modRef_frame (s : State) (r : Nat) (f : Ref → Ref) :
    (s.modRef r f).pending = s.pending ∧ (s.modRef r f).now = s.now ∧ (s.modRef r f).fresh = s.fresh ∧ (s.modRef r f).out = s.out ∧
    (s.modRef r f).power = s.power ∧ (s.modRef r f).sup = s.sup ∧ (s.modRef r f).mgmt = s.mgmt ∧ (s.modRef r f).store = s.store ∧
    (s.modRef r f).persist = s.persist ∧ (s.modRef r f).cnt = s.cnt ∧ (s.modRef r f).restarted = s.restarted ∧ (s.modRef r f).lanes = s.lanes ∧
    (s.modRef r f).ports = s.ports ∧ (s.modRef r f).fab = s.fab ∧ (s.modRef r f).edit = s.edit ∧ (s.modRef r f).prot = s.prot ∧ (s.modRef r f).ending = s.ending ∧
    (s.modRef r f).engA = s.engA ∧ (s.modRef r f).engB = s.engB ∧ (s.modRef r f).lease = s.lease ∧ (s.modRef r f).tod = s.tod ∧
    (s.modRef r f).sealing = s.sealing ∧ (s.modRef r f).pm = s.pm ∧ (s.modRef r f).sec = s.sec := by
  exact ⟨rfl, rfl, rfl, rfl, rfl, rfl, rfl, rfl, rfl, rfl, rfl, rfl, rfl, rfl, rfl, rfl, rfl, rfl, rfl, rfl, rfl, rfl, rfl, rfl⟩

@[simp] theorem State.modRef_reads (s : State) (r : Nat) (f : Ref → Ref) :
    (∀ k₁, (s.modRef r f).lane k₁ = s.lane k₁) ∧ (∀ i₁ b₁ e₁, (s.modRef r f).val i₁ b₁ e₁ = s.val i₁ b₁ e₁) ∧
    (∀ i₁ b₁ e₁, (s.modRef r f).cfg i₁ b₁ e₁ = s.cfg i₁ b₁ e₁) ∧ (∀ i₁ b₁ e₁ n₁, (s.modRef r f).cfgF i₁ b₁ e₁ n₁ = s.cfgF i₁ b₁ e₁ n₁) ∧
    (s.modRef r f).portUp = s.portUp ∧ (∀ l₁, (s.modRef r f).enabled l₁ = s.enabled l₁) ∧ (∀ i₁, (s.modRef r f).session? i₁ = s.session? i₁) ∧
    (∀ e₁, (s.modRef r f).engine e₁ = s.engine e₁) ∧ (∀ i₁ b₁ f₁ e₁, (s.modRef r f).ctr i₁ b₁ f₁ e₁ = s.ctr i₁ b₁ f₁ e₁) :=
  ⟨fun _ => by simp [State.lane], fun _ _ _ => by simp [State.val], fun _ _ _ => by simp [State.cfg, State.val], fun _ _ _ _ => by simp [State.cfgF, State.val], by simp [State.portUp], fun _ => by simp [State.enabled, State.cfg, State.val, State.portUp], fun _ => by simp [State.session?], fun _ => by simp [State.engine], fun _ _ _ _ => by simp [State.ctr]⟩

@[simp] theorem State.evalRef_frame (s : State) (r : RefId) :
    (s.evalRef r).pending = s.pending ∧ (s.evalRef r).now = s.now ∧ (s.evalRef r).fresh = s.fresh ∧ (s.evalRef r).out = s.out ∧
    (s.evalRef r).power = s.power ∧ (s.evalRef r).sup = s.sup ∧ (s.evalRef r).mgmt = s.mgmt ∧ (s.evalRef r).persist = s.persist ∧
    (s.evalRef r).restarted = s.restarted ∧ (s.evalRef r).lanes = s.lanes ∧ (s.evalRef r).ports = s.ports ∧ (s.evalRef r).fab = s.fab ∧
    (s.evalRef r).edit = s.edit ∧ (s.evalRef r).prot = s.prot ∧ (s.evalRef r).ending = s.ending ∧ (s.evalRef r).engA = s.engA ∧ (s.evalRef r).engB = s.engB ∧
    (s.evalRef r).lease = s.lease ∧ (s.evalRef r).tod = s.tod ∧ (s.evalRef r).sealing = s.sealing ∧ (s.evalRef r).pm = s.pm ∧
    (s.evalRef r).sec = s.sec := by
  simp only [State.evalRef]; repeat' split
  all_goals simp

@[simp] theorem State.evalRef_reads (s : State) (r : RefId) :
    (∀ k₁, (s.evalRef r).lane k₁ = s.lane k₁) ∧ (∀ i₁ b₁ e₁, (s.evalRef r).val i₁ b₁ e₁ = s.val i₁ b₁ e₁) ∧
    (∀ i₁ b₁ e₁, (s.evalRef r).cfg i₁ b₁ e₁ = s.cfg i₁ b₁ e₁) ∧ (∀ i₁ b₁ e₁ n₁, (s.evalRef r).cfgF i₁ b₁ e₁ n₁ = s.cfgF i₁ b₁ e₁ n₁) ∧
    (s.evalRef r).portUp = s.portUp ∧ (∀ l₁, (s.evalRef r).enabled l₁ = s.enabled l₁) ∧ (∀ i₁, (s.evalRef r).session? i₁ = s.session? i₁) ∧
    (∀ e₁, (s.evalRef r).engine e₁ = s.engine e₁) :=
  ⟨fun _ => by simp [State.lane], fun _ _ _ => by simp [State.val], fun _ _ _ => by simp [State.cfg, State.val], fun _ _ _ _ => by simp [State.cfgF, State.val], by simp [State.portUp], fun _ => by simp [State.enabled, State.cfg, State.val, State.portUp], fun _ => by simp [State.session?], fun _ => by simp [State.engine]⟩

@[simp] theorem State.evalRefs_frame (s : State) :
    (s.evalRefs).pending = s.pending ∧ (s.evalRefs).now = s.now ∧ (s.evalRefs).fresh = s.fresh ∧ (s.evalRefs).out = s.out ∧
    (s.evalRefs).power = s.power ∧ (s.evalRefs).sup = s.sup ∧ (s.evalRefs).mgmt = s.mgmt ∧ (s.evalRefs).persist = s.persist ∧
    (s.evalRefs).restarted = s.restarted ∧ (s.evalRefs).lanes = s.lanes ∧ (s.evalRefs).ports = s.ports ∧ (s.evalRefs).fab = s.fab ∧
    (s.evalRefs).edit = s.edit ∧ (s.evalRefs).prot = s.prot ∧ (s.evalRefs).ending = s.ending ∧ (s.evalRefs).engA = s.engA ∧ (s.evalRefs).engB = s.engB ∧
    (s.evalRefs).lease = s.lease ∧ (s.evalRefs).tod = s.tod ∧ (s.evalRefs).sealing = s.sealing ∧ (s.evalRefs).pm = s.pm ∧ (s.evalRefs).sec = s.sec := by
  refine ⟨?_, ?_, ?_, ?_, ?_, ?_, ?_, ?_, ?_, ?_, ?_, ?_, ?_, ?_, ?_, ?_, ?_, ?_, ?_, ?_, ?_, ?_⟩ <;> (simp only [State.evalRefs]; apply State.each_keep; intro a s; simp)

@[simp] theorem State.evalRefs_reads (s : State) :
    (∀ k₁, (s.evalRefs).lane k₁ = s.lane k₁) ∧ (∀ i₁ b₁ e₁, (s.evalRefs).val i₁ b₁ e₁ = s.val i₁ b₁ e₁) ∧
    (∀ i₁ b₁ e₁, (s.evalRefs).cfg i₁ b₁ e₁ = s.cfg i₁ b₁ e₁) ∧ (∀ i₁ b₁ e₁ n₁, (s.evalRefs).cfgF i₁ b₁ e₁ n₁ = s.cfgF i₁ b₁ e₁ n₁) ∧
    (s.evalRefs).portUp = s.portUp ∧ (∀ l₁, (s.evalRefs).enabled l₁ = s.enabled l₁) ∧ (∀ i₁, (s.evalRefs).session? i₁ = s.session? i₁) ∧
    (∀ e₁, (s.evalRefs).engine e₁ = s.engine e₁) :=
  ⟨fun _ => by simp [State.lane], fun _ _ _ => by simp [State.val], fun _ _ _ => by simp [State.cfg, State.val], fun _ _ _ _ => by simp [State.cfgF, State.val], by simp [State.portUp], fun _ => by simp [State.enabled, State.cfg, State.val, State.portUp], fun _ => by simp [State.session?], fun _ => by simp [State.engine]⟩

@[simp] theorem State.watchPort_frame (s : State) (p : Nat) :
    (s.watchPort p).pending = s.pending ∧ (s.watchPort p).now = s.now ∧ (s.watchPort p).fresh = s.fresh ∧ (s.watchPort p).out = s.out ∧
    (s.watchPort p).power = s.power ∧ (s.watchPort p).sup = s.sup ∧ (s.watchPort p).mgmt = s.mgmt ∧ (s.watchPort p).store = s.store ∧
    (s.watchPort p).persist = s.persist ∧ (s.watchPort p).cnt = s.cnt ∧ (s.watchPort p).restarted = s.restarted ∧ (s.watchPort p).lanes = s.lanes ∧
    (s.watchPort p).fab = s.fab ∧ (s.watchPort p).edit = s.edit ∧ (s.watchPort p).prot = s.prot ∧ (s.watchPort p).ending = s.ending ∧ (s.watchPort p).engA = s.engA ∧
    (s.watchPort p).engB = s.engB ∧ (s.watchPort p).lease = s.lease ∧ (s.watchPort p).tim = s.tim ∧ (s.watchPort p).tod = s.tod ∧
    (s.watchPort p).sealing = s.sealing ∧ (s.watchPort p).pm = s.pm ∧ (s.watchPort p).sec = s.sec := by
  simp only [State.watchPort]; repeat' split
  all_goals simp

@[simp] theorem State.watchPort_reads (s : State) (p : Nat) :
    (∀ k₁, (s.watchPort p).lane k₁ = s.lane k₁) ∧ (∀ i₁ b₁ e₁, (s.watchPort p).val i₁ b₁ e₁ = s.val i₁ b₁ e₁) ∧
    (∀ i₁ b₁ e₁, (s.watchPort p).cfg i₁ b₁ e₁ = s.cfg i₁ b₁ e₁) ∧ (∀ i₁ b₁ e₁ n₁, (s.watchPort p).cfgF i₁ b₁ e₁ n₁ = s.cfgF i₁ b₁ e₁ n₁) ∧
    (s.watchPort p).portUp = s.portUp ∧ (∀ l₁, (s.watchPort p).enabled l₁ = s.enabled l₁) ∧ (∀ i₁, (s.watchPort p).session? i₁ = s.session? i₁) ∧
    (∀ e₁, (s.watchPort p).engine e₁ = s.engine e₁) ∧ (∀ i₁ b₁ f₁ e₁, (s.watchPort p).ctr i₁ b₁ f₁ e₁ = s.ctr i₁ b₁ f₁ e₁) :=
  ⟨fun _ => by simp [State.lane], fun _ _ _ => by simp [State.val], fun _ _ _ => by simp [State.cfg, State.val], fun _ _ _ _ => by simp [State.cfgF, State.val], by simp [State.portUp], fun _ => by simp [State.enabled, State.cfg, State.val, State.portUp], fun _ => by simp [State.session?], fun _ => by simp [State.engine], fun _ _ _ _ => by simp [State.ctr]⟩

@[simp] theorem State.modNear_frame (s : State) (l : Nat) (f : Raw → Raw) :
    (s.modNear l f).pending = s.pending ∧ (s.modNear l f).now = s.now ∧ (s.modNear l f).fresh = s.fresh ∧ (s.modNear l f).out = s.out ∧
    (s.modNear l f).power = s.power ∧ (s.modNear l f).sup = s.sup ∧ (s.modNear l f).mgmt = s.mgmt ∧ (s.modNear l f).store = s.store ∧
    (s.modNear l f).persist = s.persist ∧ (s.modNear l f).cnt = s.cnt ∧ (s.modNear l f).restarted = s.restarted ∧ (s.modNear l f).lanes = s.lanes ∧
    (s.modNear l f).ports = s.ports ∧ (s.modNear l f).fab = s.fab ∧ (s.modNear l f).edit = s.edit ∧ (s.modNear l f).prot = s.prot ∧ (s.modNear l f).ending = s.ending ∧
    (s.modNear l f).engA = s.engA ∧ (s.modNear l f).engB = s.engB ∧ (s.modNear l f).lease = s.lease ∧ (s.modNear l f).tim = s.tim ∧
    (s.modNear l f).tod = s.tod ∧ (s.modNear l f).sealing = s.sealing ∧ (s.modNear l f).sec = s.sec := by
  exact ⟨rfl, rfl, rfl, rfl, rfl, rfl, rfl, rfl, rfl, rfl, rfl, rfl, rfl, rfl, rfl, rfl, rfl, rfl, rfl, rfl, rfl, rfl, rfl, rfl⟩

@[simp] theorem State.modNear_reads (s : State) (l : Nat) (f : Raw → Raw) :
    (∀ k₁, (s.modNear l f).lane k₁ = s.lane k₁) ∧ (∀ i₁ b₁ e₁, (s.modNear l f).val i₁ b₁ e₁ = s.val i₁ b₁ e₁) ∧
    (∀ i₁ b₁ e₁, (s.modNear l f).cfg i₁ b₁ e₁ = s.cfg i₁ b₁ e₁) ∧ (∀ i₁ b₁ e₁ n₁, (s.modNear l f).cfgF i₁ b₁ e₁ n₁ = s.cfgF i₁ b₁ e₁ n₁) ∧
    (s.modNear l f).portUp = s.portUp ∧ (∀ l₁, (s.modNear l f).enabled l₁ = s.enabled l₁) ∧ (∀ i₁, (s.modNear l f).session? i₁ = s.session? i₁) ∧
    (∀ e₁, (s.modNear l f).engine e₁ = s.engine e₁) ∧ (∀ i₁ b₁ f₁ e₁, (s.modNear l f).ctr i₁ b₁ f₁ e₁ = s.ctr i₁ b₁ f₁ e₁) :=
  ⟨fun _ => by simp [State.lane], fun _ _ _ => by simp [State.val], fun _ _ _ => by simp [State.cfg, State.val], fun _ _ _ _ => by simp [State.cfgF, State.val], by simp [State.portUp], fun _ => by simp [State.enabled, State.cfg, State.val, State.portUp], fun _ => by simp [State.session?], fun _ => by simp [State.engine], fun _ _ _ _ => by simp [State.ctr]⟩

@[simp] theorem State.modFar_frame (s : State) (l : Nat) (f : Raw → Raw) :
    (s.modFar l f).pending = s.pending ∧ (s.modFar l f).now = s.now ∧ (s.modFar l f).fresh = s.fresh ∧ (s.modFar l f).out = s.out ∧
    (s.modFar l f).power = s.power ∧ (s.modFar l f).sup = s.sup ∧ (s.modFar l f).mgmt = s.mgmt ∧ (s.modFar l f).store = s.store ∧
    (s.modFar l f).persist = s.persist ∧ (s.modFar l f).cnt = s.cnt ∧ (s.modFar l f).restarted = s.restarted ∧ (s.modFar l f).lanes = s.lanes ∧
    (s.modFar l f).ports = s.ports ∧ (s.modFar l f).fab = s.fab ∧ (s.modFar l f).edit = s.edit ∧ (s.modFar l f).prot = s.prot ∧ (s.modFar l f).ending = s.ending ∧
    (s.modFar l f).engA = s.engA ∧ (s.modFar l f).engB = s.engB ∧ (s.modFar l f).lease = s.lease ∧ (s.modFar l f).tim = s.tim ∧
    (s.modFar l f).tod = s.tod ∧ (s.modFar l f).sealing = s.sealing ∧ (s.modFar l f).sec = s.sec := by
  exact ⟨rfl, rfl, rfl, rfl, rfl, rfl, rfl, rfl, rfl, rfl, rfl, rfl, rfl, rfl, rfl, rfl, rfl, rfl, rfl, rfl, rfl, rfl, rfl, rfl⟩

@[simp] theorem State.modFar_reads (s : State) (l : Nat) (f : Raw → Raw) :
    (∀ k₁, (s.modFar l f).lane k₁ = s.lane k₁) ∧ (∀ i₁ b₁ e₁, (s.modFar l f).val i₁ b₁ e₁ = s.val i₁ b₁ e₁) ∧
    (∀ i₁ b₁ e₁, (s.modFar l f).cfg i₁ b₁ e₁ = s.cfg i₁ b₁ e₁) ∧ (∀ i₁ b₁ e₁ n₁, (s.modFar l f).cfgF i₁ b₁ e₁ n₁ = s.cfgF i₁ b₁ e₁ n₁) ∧
    (s.modFar l f).portUp = s.portUp ∧ (∀ l₁, (s.modFar l f).enabled l₁ = s.enabled l₁) ∧ (∀ i₁, (s.modFar l f).session? i₁ = s.session? i₁) ∧
    (∀ e₁, (s.modFar l f).engine e₁ = s.engine e₁) ∧ (∀ i₁ b₁ f₁ e₁, (s.modFar l f).ctr i₁ b₁ f₁ e₁ = s.ctr i₁ b₁ f₁ e₁) :=
  ⟨fun _ => by simp [State.lane], fun _ _ _ => by simp [State.val], fun _ _ _ => by simp [State.cfg, State.val], fun _ _ _ _ => by simp [State.cfgF, State.val], by simp [State.portUp], fun _ => by simp [State.enabled, State.cfg, State.val, State.portUp], fun _ => by simp [State.session?], fun _ => by simp [State.engine], fun _ _ _ _ => by simp [State.ctr]⟩

@[simp] theorem State.modStream_frame (s : State) (l : Nat) (f : Raw → Raw) :
    (s.modStream l f).pending = s.pending ∧ (s.modStream l f).now = s.now ∧ (s.modStream l f).fresh = s.fresh ∧ (s.modStream l f).out = s.out ∧
    (s.modStream l f).power = s.power ∧ (s.modStream l f).sup = s.sup ∧ (s.modStream l f).mgmt = s.mgmt ∧ (s.modStream l f).store = s.store ∧
    (s.modStream l f).persist = s.persist ∧ (s.modStream l f).cnt = s.cnt ∧ (s.modStream l f).restarted = s.restarted ∧
    (s.modStream l f).lanes = s.lanes ∧ (s.modStream l f).ports = s.ports ∧ (s.modStream l f).fab = s.fab ∧ (s.modStream l f).edit = s.edit ∧
    (s.modStream l f).prot = s.prot ∧ (s.modStream l f).ending = s.ending ∧ (s.modStream l f).engA = s.engA ∧ (s.modStream l f).engB = s.engB ∧ (s.modStream l f).lease = s.lease ∧
    (s.modStream l f).tim = s.tim ∧ (s.modStream l f).tod = s.tod ∧ (s.modStream l f).sealing = s.sealing ∧ (s.modStream l f).sec = s.sec := by
  exact ⟨rfl, rfl, rfl, rfl, rfl, rfl, rfl, rfl, rfl, rfl, rfl, rfl, rfl, rfl, rfl, rfl, rfl, rfl, rfl, rfl, rfl, rfl, rfl, rfl⟩

@[simp] theorem State.modStream_reads (s : State) (l : Nat) (f : Raw → Raw) :
    (∀ k₁, (s.modStream l f).lane k₁ = s.lane k₁) ∧ (∀ i₁ b₁ e₁, (s.modStream l f).val i₁ b₁ e₁ = s.val i₁ b₁ e₁) ∧
    (∀ i₁ b₁ e₁, (s.modStream l f).cfg i₁ b₁ e₁ = s.cfg i₁ b₁ e₁) ∧ (∀ i₁ b₁ e₁ n₁, (s.modStream l f).cfgF i₁ b₁ e₁ n₁ = s.cfgF i₁ b₁ e₁ n₁) ∧
    (s.modStream l f).portUp = s.portUp ∧ (∀ l₁, (s.modStream l f).enabled l₁ = s.enabled l₁) ∧
    (∀ i₁, (s.modStream l f).session? i₁ = s.session? i₁) ∧ (∀ e₁, (s.modStream l f).engine e₁ = s.engine e₁) ∧
    (∀ i₁ b₁ f₁ e₁, (s.modStream l f).ctr i₁ b₁ f₁ e₁ = s.ctr i₁ b₁ f₁ e₁) :=
  ⟨fun _ => by simp [State.lane], fun _ _ _ => by simp [State.val], fun _ _ _ => by simp [State.cfg, State.val], fun _ _ _ _ => by simp [State.cfgF, State.val], by simp [State.portUp], fun _ => by simp [State.enabled, State.cfg, State.val, State.portUp], fun _ => by simp [State.session?], fun _ => by simp [State.engine], fun _ _ _ _ => by simp [State.ctr]⟩

@[simp] theorem State.markBins_frame (s : State) (n : Nat) :
    (s.markBins n).pending = s.pending ∧ (s.markBins n).now = s.now ∧ (s.markBins n).fresh = s.fresh ∧ (s.markBins n).out = s.out ∧
    (s.markBins n).power = s.power ∧ (s.markBins n).sup = s.sup ∧ (s.markBins n).mgmt = s.mgmt ∧ (s.markBins n).store = s.store ∧
    (s.markBins n).persist = s.persist ∧ (s.markBins n).cnt = s.cnt ∧ (s.markBins n).restarted = s.restarted ∧ (s.markBins n).lanes = s.lanes ∧
    (s.markBins n).ports = s.ports ∧ (s.markBins n).fab = s.fab ∧ (s.markBins n).edit = s.edit ∧ (s.markBins n).prot = s.prot ∧ (s.markBins n).ending = s.ending ∧
    (s.markBins n).engA = s.engA ∧ (s.markBins n).engB = s.engB ∧ (s.markBins n).lease = s.lease ∧ (s.markBins n).tim = s.tim ∧
    (s.markBins n).tod = s.tod ∧ (s.markBins n).sealing = s.sealing ∧ (s.markBins n).sec = s.sec := by
  exact ⟨rfl, rfl, rfl, rfl, rfl, rfl, rfl, rfl, rfl, rfl, rfl, rfl, rfl, rfl, rfl, rfl, rfl, rfl, rfl, rfl, rfl, rfl, rfl, rfl⟩

@[simp] theorem State.markBins_reads (s : State) (n : Nat) :
    (∀ k₁, (s.markBins n).lane k₁ = s.lane k₁) ∧ (∀ i₁ b₁ e₁, (s.markBins n).val i₁ b₁ e₁ = s.val i₁ b₁ e₁) ∧
    (∀ i₁ b₁ e₁, (s.markBins n).cfg i₁ b₁ e₁ = s.cfg i₁ b₁ e₁) ∧ (∀ i₁ b₁ e₁ n₁, (s.markBins n).cfgF i₁ b₁ e₁ n₁ = s.cfgF i₁ b₁ e₁ n₁) ∧
    (s.markBins n).portUp = s.portUp ∧ (∀ l₁, (s.markBins n).enabled l₁ = s.enabled l₁) ∧ (∀ i₁, (s.markBins n).session? i₁ = s.session? i₁) ∧
    (∀ e₁, (s.markBins n).engine e₁ = s.engine e₁) ∧ (∀ i₁ b₁ f₁ e₁, (s.markBins n).ctr i₁ b₁ f₁ e₁ = s.ctr i₁ b₁ f₁ e₁) :=
  ⟨fun _ => by simp [State.lane], fun _ _ _ => by simp [State.val], fun _ _ _ => by simp [State.cfg, State.val], fun _ _ _ _ => by simp [State.cfgF, State.val], by simp [State.portUp], fun _ => by simp [State.enabled, State.cfg, State.val, State.portUp], fun _ => by simp [State.session?], fun _ => by simp [State.engine], fun _ _ _ _ => by simp [State.ctr]⟩

@[simp] theorem State.lanePartly_frame (s : State) (l : Nat) :
    (s.lanePartly l).pending = s.pending ∧ (s.lanePartly l).now = s.now ∧ (s.lanePartly l).fresh = s.fresh ∧ (s.lanePartly l).out = s.out ∧
    (s.lanePartly l).power = s.power ∧ (s.lanePartly l).sup = s.sup ∧ (s.lanePartly l).mgmt = s.mgmt ∧ (s.lanePartly l).store = s.store ∧
    (s.lanePartly l).persist = s.persist ∧ (s.lanePartly l).cnt = s.cnt ∧ (s.lanePartly l).restarted = s.restarted ∧
    (s.lanePartly l).lanes = s.lanes ∧ (s.lanePartly l).ports = s.ports ∧ (s.lanePartly l).fab = s.fab ∧ (s.lanePartly l).edit = s.edit ∧
    (s.lanePartly l).prot = s.prot ∧ (s.lanePartly l).ending = s.ending ∧ (s.lanePartly l).engA = s.engA ∧ (s.lanePartly l).engB = s.engB ∧ (s.lanePartly l).lease = s.lease ∧
    (s.lanePartly l).tim = s.tim ∧ (s.lanePartly l).tod = s.tod ∧ (s.lanePartly l).sealing = s.sealing ∧ (s.lanePartly l).sec = s.sec := by
  exact ⟨rfl, rfl, rfl, rfl, rfl, rfl, rfl, rfl, rfl, rfl, rfl, rfl, rfl, rfl, rfl, rfl, rfl, rfl, rfl, rfl, rfl, rfl, rfl, rfl⟩

@[simp] theorem State.lanePartly_reads (s : State) (l : Nat) :
    (∀ k₁, (s.lanePartly l).lane k₁ = s.lane k₁) ∧ (∀ i₁ b₁ e₁, (s.lanePartly l).val i₁ b₁ e₁ = s.val i₁ b₁ e₁) ∧
    (∀ i₁ b₁ e₁, (s.lanePartly l).cfg i₁ b₁ e₁ = s.cfg i₁ b₁ e₁) ∧ (∀ i₁ b₁ e₁ n₁, (s.lanePartly l).cfgF i₁ b₁ e₁ n₁ = s.cfgF i₁ b₁ e₁ n₁) ∧
    (s.lanePartly l).portUp = s.portUp ∧ (∀ l₁, (s.lanePartly l).enabled l₁ = s.enabled l₁) ∧ (∀ i₁, (s.lanePartly l).session? i₁ = s.session? i₁) ∧
    (∀ e₁, (s.lanePartly l).engine e₁ = s.engine e₁) ∧ (∀ i₁ b₁ f₁ e₁, (s.lanePartly l).ctr i₁ b₁ f₁ e₁ = s.ctr i₁ b₁ f₁ e₁) :=
  ⟨fun _ => by simp [State.lane], fun _ _ _ => by simp [State.val], fun _ _ _ => by simp [State.cfg, State.val], fun _ _ _ _ => by simp [State.cfgF, State.val], by simp [State.portUp], fun _ => by simp [State.enabled, State.cfg, State.val, State.portUp], fun _ => by simp [State.session?], fun _ => by simp [State.engine], fun _ _ _ _ => by simp [State.ctr]⟩

@[simp] theorem State.cutPayload_frame (s : State) (l : LaneId) :
    (s.cutPayload l).pending = s.pending ∧ (s.cutPayload l).now = s.now ∧ (s.cutPayload l).fresh = s.fresh ∧ (s.cutPayload l).out = s.out ∧
    (s.cutPayload l).power = s.power ∧ (s.cutPayload l).sup = s.sup ∧ (s.cutPayload l).mgmt = s.mgmt ∧ (s.cutPayload l).store = s.store ∧
    (s.cutPayload l).persist = s.persist ∧ (s.cutPayload l).cnt = s.cnt ∧ (s.cutPayload l).restarted = s.restarted ∧
    (s.cutPayload l).ports = s.ports ∧ (s.cutPayload l).edit = s.edit ∧ (s.cutPayload l).prot = s.prot ∧ (s.cutPayload l).ending = s.ending ∧ (s.cutPayload l).engA = s.engA ∧
    (s.cutPayload l).engB = s.engB ∧ (s.cutPayload l).lease = s.lease ∧ (s.cutPayload l).tim = s.tim ∧ (s.cutPayload l).tod = s.tod ∧
    (s.cutPayload l).sealing = s.sealing ∧ (s.cutPayload l).pm = s.pm ∧ (s.cutPayload l).sec = s.sec := by
  simp only [State.cutPayload]; repeat' split
  all_goals simp

@[simp] theorem State.cutPayload_reads (s : State) (l : LaneId) :
    (∀ i₁ b₁ e₁, (s.cutPayload l).val i₁ b₁ e₁ = s.val i₁ b₁ e₁) ∧ (∀ i₁ b₁ e₁, (s.cutPayload l).cfg i₁ b₁ e₁ = s.cfg i₁ b₁ e₁) ∧
    (∀ i₁ b₁ e₁ n₁, (s.cutPayload l).cfgF i₁ b₁ e₁ n₁ = s.cfgF i₁ b₁ e₁ n₁) ∧ (s.cutPayload l).portUp = s.portUp ∧
    (∀ l₁, (s.cutPayload l).enabled l₁ = s.enabled l₁) ∧ (∀ i₁, (s.cutPayload l).session? i₁ = s.session? i₁) ∧
    (∀ e₁, (s.cutPayload l).engine e₁ = s.engine e₁) ∧ (∀ i₁ b₁ f₁ e₁, (s.cutPayload l).ctr i₁ b₁ f₁ e₁ = s.ctr i₁ b₁ f₁ e₁) :=
  ⟨fun _ _ _ => by simp [State.val], fun _ _ _ => by simp [State.cfg, State.val], fun _ _ _ _ => by simp [State.cfgF, State.val], by simp [State.portUp], fun _ => by simp [State.enabled, State.cfg, State.val, State.portUp], fun _ => by simp [State.session?], fun _ => by simp [State.engine], fun _ _ _ _ => by simp [State.ctr]⟩

@[simp] theorem State.followEq_frame (s : State) (l : LaneId) :
    (s.followEq l).pending = s.pending ∧ (s.followEq l).now = s.now ∧ (s.followEq l).fresh = s.fresh ∧ (s.followEq l).out = s.out ∧
    (s.followEq l).power = s.power ∧ (s.followEq l).sup = s.sup ∧ (s.followEq l).mgmt = s.mgmt ∧ (s.followEq l).store = s.store ∧
    (s.followEq l).persist = s.persist ∧ (s.followEq l).cnt = s.cnt ∧ (s.followEq l).restarted = s.restarted ∧ (s.followEq l).ports = s.ports ∧
    (s.followEq l).fab = s.fab ∧ (s.followEq l).edit = s.edit ∧ (s.followEq l).prot = s.prot ∧ (s.followEq l).ending = s.ending ∧ (s.followEq l).engA = s.engA ∧
    (s.followEq l).engB = s.engB ∧ (s.followEq l).lease = s.lease ∧ (s.followEq l).tim = s.tim ∧ (s.followEq l).tod = s.tod ∧
    (s.followEq l).sealing = s.sealing ∧ (s.followEq l).pm = s.pm ∧ (s.followEq l).sec = s.sec := by
  simp [State.followEq]

@[simp] theorem State.followEq_reads (s : State) (l : LaneId) :
    (∀ i₁ b₁ e₁, (s.followEq l).val i₁ b₁ e₁ = s.val i₁ b₁ e₁) ∧ (∀ i₁ b₁ e₁, (s.followEq l).cfg i₁ b₁ e₁ = s.cfg i₁ b₁ e₁) ∧
    (∀ i₁ b₁ e₁ n₁, (s.followEq l).cfgF i₁ b₁ e₁ n₁ = s.cfgF i₁ b₁ e₁ n₁) ∧ (s.followEq l).portUp = s.portUp ∧
    (∀ l₁, (s.followEq l).enabled l₁ = s.enabled l₁) ∧ (∀ i₁, (s.followEq l).session? i₁ = s.session? i₁) ∧
    (∀ e₁, (s.followEq l).engine e₁ = s.engine e₁) ∧ (∀ i₁ b₁ f₁ e₁, (s.followEq l).ctr i₁ b₁ f₁ e₁ = s.ctr i₁ b₁ f₁ e₁) :=
  ⟨fun _ _ _ => by simp [State.val], fun _ _ _ => by simp [State.cfg, State.val], fun _ _ _ _ => by simp [State.cfgF, State.val], by simp [State.portUp], fun _ => by simp [State.enabled, State.cfg, State.val, State.portUp], fun _ => by simp [State.session?], fun _ => by simp [State.engine], fun _ _ _ _ => by simp [State.ctr]⟩

@[simp] theorem State.settle_frame (s : State) (l : LaneId) :
    (s.settle l).pending = s.pending ∧ (s.settle l).now = s.now ∧ (s.settle l).fresh = s.fresh ∧ (s.settle l).out = s.out ∧
    (s.settle l).power = s.power ∧ (s.settle l).sup = s.sup ∧ (s.settle l).mgmt = s.mgmt ∧ (s.settle l).persist = s.persist ∧
    (s.settle l).restarted = s.restarted ∧ (s.settle l).edit = s.edit ∧ (s.settle l).prot = s.prot ∧ (s.settle l).ending = s.ending ∧ (s.settle l).engA = s.engA ∧
    (s.settle l).engB = s.engB ∧ (s.settle l).lease = s.lease ∧ (s.settle l).tod = s.tod ∧ (s.settle l).sealing = s.sealing ∧ (s.settle l).sec = s.sec := by
  simp only [State.settle]; repeat' split
  all_goals simp

@[simp] theorem State.settle_reads (s : State) (l : LaneId) :
    (∀ i₁ b₁ e₁, (s.settle l).val i₁ b₁ e₁ = s.val i₁ b₁ e₁) ∧ (∀ i₁ b₁ e₁, (s.settle l).cfg i₁ b₁ e₁ = s.cfg i₁ b₁ e₁) ∧
    (∀ i₁ b₁ e₁ n₁, (s.settle l).cfgF i₁ b₁ e₁ n₁ = s.cfgF i₁ b₁ e₁ n₁) ∧ (s.settle l).portUp = s.portUp ∧
    (∀ l₁, (s.settle l).enabled l₁ = s.enabled l₁) ∧ (∀ i₁, (s.settle l).session? i₁ = s.session? i₁) ∧ (∀ e₁, (s.settle l).engine e₁ = s.engine e₁) :=
  ⟨fun _ _ _ => by simp [State.val], fun _ _ _ => by simp [State.cfg, State.val], fun _ _ _ _ => by simp [State.cfgF, State.val], by simp [State.portUp], fun _ => by simp [State.enabled, State.cfg, State.val, State.portUp], fun _ => by simp [State.session?], fun _ => by simp [State.engine]⟩

@[simp] theorem State.change_frame (s : State) (l : LaneId) (f : Lane → Lane) :
    (s.change l f).pending = s.pending ∧ (s.change l f).now = s.now ∧ (s.change l f).fresh = s.fresh ∧ (s.change l f).out = s.out ∧
    (s.change l f).power = s.power ∧ (s.change l f).sup = s.sup ∧ (s.change l f).mgmt = s.mgmt ∧ (s.change l f).persist = s.persist ∧
    (s.change l f).restarted = s.restarted ∧ (s.change l f).edit = s.edit ∧ (s.change l f).prot = s.prot ∧ (s.change l f).ending = s.ending ∧ (s.change l f).engA = s.engA ∧
    (s.change l f).engB = s.engB ∧ (s.change l f).lease = s.lease ∧ (s.change l f).tod = s.tod ∧ (s.change l f).sealing = s.sealing ∧
    (s.change l f).sec = s.sec := by
  simp [State.change]

@[simp] theorem State.change_reads (s : State) (l : LaneId) (f : Lane → Lane) :
    (∀ i₁ b₁ e₁, (s.change l f).val i₁ b₁ e₁ = s.val i₁ b₁ e₁) ∧ (∀ i₁ b₁ e₁, (s.change l f).cfg i₁ b₁ e₁ = s.cfg i₁ b₁ e₁) ∧
    (∀ i₁ b₁ e₁ n₁, (s.change l f).cfgF i₁ b₁ e₁ n₁ = s.cfgF i₁ b₁ e₁ n₁) ∧ (s.change l f).portUp = s.portUp ∧
    (∀ l₁, (s.change l f).enabled l₁ = s.enabled l₁) ∧ (∀ i₁, (s.change l f).session? i₁ = s.session? i₁) ∧
    (∀ e₁, (s.change l f).engine e₁ = s.engine e₁) :=
  ⟨fun _ _ _ => by simp [State.val], fun _ _ _ => by simp [State.cfg, State.val], fun _ _ _ _ => by simp [State.cfgF, State.val], by simp [State.portUp], fun _ => by simp [State.enabled, State.cfg, State.val, State.portUp], fun _ => by simp [State.session?], fun _ => by simp [State.engine]⟩

@[simp] theorem State.laneRestart_frame (s : State) (l : LaneId) (c : Bool) :
    (s.laneRestart l c).pending = s.pending ∧ (s.laneRestart l c).now = s.now ∧ (s.laneRestart l c).fresh = s.fresh ∧
    (s.laneRestart l c).out = s.out ∧ (s.laneRestart l c).power = s.power ∧ (s.laneRestart l c).sup = s.sup ∧ (s.laneRestart l c).mgmt = s.mgmt ∧
    (s.laneRestart l c).persist = s.persist ∧ (s.laneRestart l c).restarted = s.restarted ∧ (s.laneRestart l c).edit = s.edit ∧
    (s.laneRestart l c).prot = s.prot ∧ (s.laneRestart l c).ending = s.ending ∧ (s.laneRestart l c).engA = s.engA ∧ (s.laneRestart l c).engB = s.engB ∧ (s.laneRestart l c).lease = s.lease ∧
    (s.laneRestart l c).tod = s.tod ∧ (s.laneRestart l c).sealing = s.sealing ∧ (s.laneRestart l c).sec = s.sec := by
  simp only [State.laneRestart]; repeat' split
  all_goals simp

@[simp] theorem State.laneRestart_reads (s : State) (l : LaneId) (c : Bool) :
    (∀ i₁ b₁ e₁, (s.laneRestart l c).val i₁ b₁ e₁ = s.val i₁ b₁ e₁) ∧ (∀ i₁ b₁ e₁, (s.laneRestart l c).cfg i₁ b₁ e₁ = s.cfg i₁ b₁ e₁) ∧
    (∀ i₁ b₁ e₁ n₁, (s.laneRestart l c).cfgF i₁ b₁ e₁ n₁ = s.cfgF i₁ b₁ e₁ n₁) ∧ (s.laneRestart l c).portUp = s.portUp ∧
    (∀ l₁, (s.laneRestart l c).enabled l₁ = s.enabled l₁) ∧ (∀ i₁, (s.laneRestart l c).session? i₁ = s.session? i₁) ∧
    (∀ e₁, (s.laneRestart l c).engine e₁ = s.engine e₁) :=
  ⟨fun _ _ _ => by simp [State.val], fun _ _ _ => by simp [State.cfg, State.val], fun _ _ _ _ => by simp [State.cfgF, State.val], by simp [State.portUp], fun _ => by simp [State.enabled, State.cfg, State.val, State.portUp], fun _ => by simp [State.session?], fun _ => by simp [State.engine]⟩

@[simp] theorem State.fallHold_frame (s : State) (l : LaneId) (st : Nat) :
    (s.fallHold l st).pending = s.pending ∧ (s.fallHold l st).now = s.now ∧ (s.fallHold l st).fresh = s.fresh ∧ (s.fallHold l st).out = s.out ∧
    (s.fallHold l st).power = s.power ∧ (s.fallHold l st).sup = s.sup ∧ (s.fallHold l st).mgmt = s.mgmt ∧ (s.fallHold l st).persist = s.persist ∧
    (s.fallHold l st).restarted = s.restarted ∧ (s.fallHold l st).edit = s.edit ∧ (s.fallHold l st).prot = s.prot ∧ (s.fallHold l st).ending = s.ending ∧ (s.fallHold l st).engA = s.engA ∧
    (s.fallHold l st).engB = s.engB ∧ (s.fallHold l st).lease = s.lease ∧ (s.fallHold l st).tod = s.tod ∧ (s.fallHold l st).sealing = s.sealing ∧
    (s.fallHold l st).sec = s.sec := by
  simp [State.fallHold]

@[simp] theorem State.fallHold_reads (s : State) (l : LaneId) (st : Nat) :
    (∀ i₁ b₁ e₁, (s.fallHold l st).val i₁ b₁ e₁ = s.val i₁ b₁ e₁) ∧ (∀ i₁ b₁ e₁, (s.fallHold l st).cfg i₁ b₁ e₁ = s.cfg i₁ b₁ e₁) ∧
    (∀ i₁ b₁ e₁ n₁, (s.fallHold l st).cfgF i₁ b₁ e₁ n₁ = s.cfgF i₁ b₁ e₁ n₁) ∧ (s.fallHold l st).portUp = s.portUp ∧
    (∀ l₁, (s.fallHold l st).enabled l₁ = s.enabled l₁) ∧ (∀ i₁, (s.fallHold l st).session? i₁ = s.session? i₁) ∧
    (∀ e₁, (s.fallHold l st).engine e₁ = s.engine e₁) :=
  ⟨fun _ _ _ => by simp [State.val], fun _ _ _ => by simp [State.cfg, State.val], fun _ _ _ _ => by simp [State.cfgF, State.val], by simp [State.portUp], fun _ => by simp [State.enabled, State.cfg, State.val, State.portUp], fun _ => by simp [State.session?], fun _ => by simp [State.engine]⟩

@[simp] theorem State.laneOff_frame (s : State) (l : LaneId) :
    (s.laneOff l).pending = s.pending ∧ (s.laneOff l).now = s.now ∧ (s.laneOff l).fresh = s.fresh ∧ (s.laneOff l).out = s.out ∧
    (s.laneOff l).power = s.power ∧ (s.laneOff l).sup = s.sup ∧ (s.laneOff l).mgmt = s.mgmt ∧ (s.laneOff l).persist = s.persist ∧
    (s.laneOff l).restarted = s.restarted ∧ (s.laneOff l).edit = s.edit ∧ (s.laneOff l).prot = s.prot ∧ (s.laneOff l).ending = s.ending ∧ (s.laneOff l).engA = s.engA ∧
    (s.laneOff l).engB = s.engB ∧ (s.laneOff l).lease = s.lease ∧ (s.laneOff l).tod = s.tod ∧ (s.laneOff l).sealing = s.sealing ∧
    (s.laneOff l).sec = s.sec := by
  simp [State.laneOff]

@[simp] theorem State.laneOff_reads (s : State) (l : LaneId) :
    (∀ i₁ b₁ e₁, (s.laneOff l).val i₁ b₁ e₁ = s.val i₁ b₁ e₁) ∧ (∀ i₁ b₁ e₁, (s.laneOff l).cfg i₁ b₁ e₁ = s.cfg i₁ b₁ e₁) ∧
    (∀ i₁ b₁ e₁ n₁, (s.laneOff l).cfgF i₁ b₁ e₁ n₁ = s.cfgF i₁ b₁ e₁ n₁) ∧ (s.laneOff l).portUp = s.portUp ∧
    (∀ l₁, (s.laneOff l).enabled l₁ = s.enabled l₁) ∧ (∀ i₁, (s.laneOff l).session? i₁ = s.session? i₁) ∧
    (∀ e₁, (s.laneOff l).engine e₁ = s.engine e₁) :=
  ⟨fun _ _ _ => by simp [State.val], fun _ _ _ => by simp [State.cfg, State.val], fun _ _ _ _ => by simp [State.cfgF, State.val], by simp [State.portUp], fun _ => by simp [State.enabled, State.cfg, State.val, State.portUp], fun _ => by simp [State.session?], fun _ => by simp [State.engine]⟩

@[simp] theorem State.evalTim_frame (s : State) (l : LaneId) :
    (s.evalTim l).pending = s.pending ∧ (s.evalTim l).now = s.now ∧ (s.evalTim l).fresh = s.fresh ∧ (s.evalTim l).out = s.out ∧
    (s.evalTim l).power = s.power ∧ (s.evalTim l).sup = s.sup ∧ (s.evalTim l).mgmt = s.mgmt ∧ (s.evalTim l).persist = s.persist ∧
    (s.evalTim l).restarted = s.restarted ∧ (s.evalTim l).edit = s.edit ∧ (s.evalTim l).prot = s.prot ∧ (s.evalTim l).ending = s.ending ∧ (s.evalTim l).engA = s.engA ∧
    (s.evalTim l).engB = s.engB ∧ (s.evalTim l).lease = s.lease ∧ (s.evalTim l).tod = s.tod ∧ (s.evalTim l).sealing = s.sealing ∧
    (s.evalTim l).sec = s.sec := by
  simp [State.evalTim]

@[simp] theorem State.evalTim_reads (s : State) (l : LaneId) :
    (∀ i₁ b₁ e₁, (s.evalTim l).val i₁ b₁ e₁ = s.val i₁ b₁ e₁) ∧ (∀ i₁ b₁ e₁, (s.evalTim l).cfg i₁ b₁ e₁ = s.cfg i₁ b₁ e₁) ∧
    (∀ i₁ b₁ e₁ n₁, (s.evalTim l).cfgF i₁ b₁ e₁ n₁ = s.cfgF i₁ b₁ e₁ n₁) ∧ (s.evalTim l).portUp = s.portUp ∧
    (∀ l₁, (s.evalTim l).enabled l₁ = s.enabled l₁) ∧ (∀ i₁, (s.evalTim l).session? i₁ = s.session? i₁) ∧
    (∀ e₁, (s.evalTim l).engine e₁ = s.engine e₁) :=
  ⟨fun _ _ _ => by simp [State.val], fun _ _ _ => by simp [State.cfg, State.val], fun _ _ _ _ => by simp [State.cfgF, State.val], by simp [State.portUp], fun _ => by simp [State.enabled, State.cfg, State.val, State.portUp], fun _ => by simp [State.session?], fun _ => by simp [State.engine]⟩

/-! One lane. -/

theorem State.lane_setLane (s : State) (l k : Nat) (x : Lane) : (s.setLane l x).lane k = if k = l then x else s.lane k :=
  tget_tput ..

theorem State.lane_modLane (s : State) (l k : Nat) (f : Lane → Lane) :
    (s.modLane l f).lane k = if k = l then f (s.lane l) else s.lane k := State.lane_setLane ..

@[simp] theorem State.lane_modLane_same (s : State) (l : Nat) (f : Lane → Lane) : (s.modLane l f).lane l = f (s.lane l) := by
  simp [State.lane_modLane]

@[simp] theorem State.lane_setLane_same (s : State) (l : Nat) (x : Lane) : (s.setLane l x).lane l = x := by
  simp [State.lane_setLane]

/-- A lane reads the table of lanes alone. -/
theorem State.lane_of_lanes {s t : State} (h : t.lanes = s.lanes) (k : Nat) : t.lane k = s.lane k := by
  simp [State.lane, h]

theorem State.lane_get (s : State) (k : Nat) : tget {} s.lanes k = s.lane k := rfl

@[simp] theorem State.modLane_lanes (s : State) (l : Nat) (f : Lane → Lane) :
    (s.modLane l f).lanes = tput {} s.lanes l (f (s.lane l)) := rfl

/-- Following an equaliser writes the time its settings stand since, of its lane alone. -/
theorem State.followEq_lane (s : State) (l : LaneId) (k : Nat) :
    ∃ eq, (s.followEq l).lane k = if k = l then { s.lane l with eq := eq } else s.lane k := by
  simp only [State.followEq, State.lane_modLane]; exact ⟨_, rfl⟩

theorem State.followEq_lane_other (s : State) (l : LaneId) (k : Nat) (h : k ≠ l) : (s.followEq l).lane k = s.lane k := by
  simp [State.followEq, State.lane_modLane, h]

theorem State.cutPayload_lane (s : State) (l : LaneId) (k : Nat) :
    (s.cutPayload l).lane k = if k = l then { s.lane l with bay := { (s.lane l).bay with lanePay := false } } else s.lane k := by
  simp only [State.cutPayload]
  repeat' split
  all_goals simp_all [State.lane, tget_tput]

/-- Settling a lane leaves every other lane alone. -/
theorem State.settle_lane_other (s : State) (l : LaneId) (k : Nat) (h : k ≠ l) : (s.settle l).lane k = s.lane k := by
  simp only [State.settle]
  repeat' split
  all_goals simp [h, State.lane_modLane, State.cutPayload_lane, State.followEq_lane_other]

/-- Settling keeps of its lane what neither the ranking of defects nor equaliser, overhead, parity, channels and forebay hold. -/
theorem State.settle_keep {β : Type} (π : Lane → β) (hr : ∀ x, π x.rank = π x)
    (hc : ∀ x ch oh bay eq n m, π { x with ch := ch, oh := oh, bay := bay, eq := eq, par := { x.par with reiNext := n, reiSent := m } } = π x)
    (s : State) (l : LaneId) : π ((s.settle l).lane l) = π (s.lane l) := by
  have he : ∀ s : State, π ((s.followEq l).lane l) = π (s.lane l) := fun s => by
    obtain ⟨eq, h⟩ := s.followEq_lane l l
    rw [h, if_pos rfl]; exact hc (s.lane l) (s.lane l).ch (s.lane l).oh (s.lane l).bay eq (s.lane l).par.reiNext (s.lane l).par.reiSent
  simp only [State.settle]
  repeat' split
  all_goals simp [State.cutPayload_lane, hr, hc, he]

theorem Lane.rank_keep (x : Lane) : x.rank.bring = x.bring ∧ x.rank.tr = x.tr ∧ x.rank.df = x.df ∧ x.rank.par = x.par ∧ x.rank.tx = x.tx := by
  unfold Lane.rank; simp only; split <;> simp

/-- What settling keeps of its lane. -/
@[simp] theorem State.settle_lane (s : State) (l : LaneId) :
    ((s.settle l).lane l).bring = (s.lane l).bring ∧ ((s.settle l).lane l).tr = (s.lane l).tr ∧
    ((s.settle l).lane l).df = (s.lane l).df ∧ ((s.settle l).lane l).tx = (s.lane l).tx :=
  ⟨State.settle_keep Lane.bring (fun x => x.rank_keep.1) (fun _ _ _ _ _ _ _ => rfl) s l,
   State.settle_keep Lane.tr (fun x => x.rank_keep.2.1) (fun _ _ _ _ _ _ _ => rfl) s l,
   State.settle_keep Lane.df (fun x => x.rank_keep.2.2.1) (fun _ _ _ _ _ _ _ => rfl) s l,
   State.settle_keep Lane.tx (fun x => x.rank_keep.2.2.2.2) (fun _ _ _ _ _ _ _ => rfl) s l⟩

/-- The defects of a settled lane are the ranked ones. -/
@[simp] theorem State.settle_d (s : State) (l : LaneId) : ((s.settle l).lane l).d = (s.lane l).rank.d := by
  obtain ⟨eq, h⟩ := (s.modLane l fun x => x.rank).followEq_lane l l
  simp only [State.settle]
  repeat' split
  all_goals simp [State.cutPayload_lane, h]

/-- Settling writes of the fabric the all-ones marks alone, and of the timing the references alone. -/
theorem State.cutPayload_fab (s : State) (l : LaneId) :
    (s.cutPayload l).fab = { s.fab with ones0 := (s.cutPayload l).fab.ones0, ones1 := (s.cutPayload l).fab.ones1 } := by
  simp only [State.cutPayload]
  repeat' split
  all_goals simp

theorem State.evalRef_tim (s : State) (r : RefId) :
    ({ (s.evalRef r).tim with refs := [] } : Timing) = { s.tim with refs := [] } := by
  simp only [State.evalRef]
  repeat' split
  all_goals simp [State.modRef]

theorem State.evalRefs_tim (s : State) : ({ s.evalRefs.tim with refs := [] } : Timing) = { s.tim with refs := [] } := by
  unfold State.evalRefs
  generalize List.finRange 8 = rs
  exact State.each_keep (fun s => ({ s.tim with refs := [] } : Timing)) rs (fun r s => s.evalRef r)
    (fun r s => State.evalRef_tim s r) s

theorem Timing.refs_only {a b : Timing} (h : ({ a with refs := [] } : Timing) = { b with refs := [] }) : a = { b with refs := a.refs } := by
  cases a; cases b; simp_all

theorem State.settle_fab (s : State) (l : LaneId) :
    (s.settle l).fab = { s.fab with ones0 := (s.settle l).fab.ones0, ones1 := (s.settle l).fab.ones1 } := by
  simp only [State.settle]
  repeat' split
  all_goals simp
  all_goals (rw [State.cutPayload_fab]; simp)

theorem State.settle_tim (s : State) (l : LaneId) : (s.settle l).tim = { s.tim with refs := (s.settle l).tim.refs } := by
  apply Timing.refs_only
  simp only [State.settle]
  simp only [State.watchPort_frame]
  rw [State.evalRefs_tim]
  repeat' split
  all_goals simp

/-! Only one lane. -/

theorem State.noteCond_lessLanes (s : State) (c : AlarmCond) (b : Bool) : (s.noteCond c b).lessLanes = s.lessLanes := by
  unfold State.noteCond; repeat' split
  all_goals simp [State.lessLanes]

theorem State.noteLane_lessLanes (s : State) (l : LaneId) : (s.noteLane l).lessLanes = s.lessLanes := by
  unfold State.noteLane
  generalize List.finRange 8 = rs
  exact State.each_keep State.lessLanes rs _ (fun r s => State.noteCond_lessLanes ..) s

theorem State.evalRef_lessLanes (s : State) (r : RefId) : (s.evalRef r).lessLanes = s.lessLanes := by
  simp only [State.evalRef]
  rw [State.noteCond_lessLanes]
  repeat' split
  all_goals simp [State.lessLanes, State.modRef]

theorem State.evalRefs_lessLanes (s : State) : s.evalRefs.lessLanes = s.lessLanes := by
  unfold State.evalRefs
  generalize List.finRange 8 = rs
  exact State.each_keep State.lessLanes rs _ (fun r s => State.evalRef_lessLanes ..) s

theorem State.watchPort_lessLanes (s : State) (p : Nat) : (s.watchPort p).lessLanes = s.lessLanes := by
  simp [State.lessLanes]

theorem State.cutPayload_lessLanes (s : State) (l : LaneId) : (s.cutPayload l).lessLanes = s.lessLanes := by
  simp only [State.cutPayload]
  repeat' split
  all_goals simp [State.lessLanes]

theorem State.settle_lessLanes (s : State) (l : LaneId) : (s.settle l).lessLanes = s.lessLanes := by
  simp only [State.settle, State.watchPort_lessLanes, State.evalRefs_lessLanes, State.noteLane_lessLanes]
  have hc := fun s : State => State.cutPayload_lessLanes s l
  repeat' split
  all_goals simp_all [State.lessLanes, State.modNear, State.modFar]

theorem OnlyLane.refl (l : Nat) (s : State) : OnlyLane l s s := ⟨rfl, fun _ _ => rfl⟩

theorem OnlyLane.trans {l : Nat} {s t u : State} (h : OnlyLane l s t) (k : OnlyLane l t u) : OnlyLane l s u :=
  ⟨k.1.trans h.1, fun n hn => (k.2 n hn).trans (h.2 n hn)⟩

theorem OnlyLane.settle (s : State) (l : LaneId) : OnlyLane l s (s.settle l) :=
  ⟨s.settle_lessLanes l, fun k hk => s.settle_lane_other l k hk⟩

theorem OnlyLane.modLane (s : State) (l : Nat) (f : Lane → Lane) : OnlyLane l s (s.modLane l f) :=
  ⟨by simp [State.lessLanes], fun k hk => by simp [State.lane_modLane, hk]⟩

theorem OnlyLane.setLane (s : State) (l : Nat) (x : Lane) : OnlyLane l s (s.setLane l x) :=
  ⟨by simp [State.lessLanes], fun k hk => by simp [State.lane_setLane, hk]⟩

theorem OnlyLane.change (s : State) (l : LaneId) (f : Lane → Lane) : OnlyLane l s (s.change l f) :=
  (OnlyLane.modLane s l f).trans (OnlyLane.settle _ l)

theorem OnlyLane.countN (s : State) (l i b f e n : Nat) : OnlyLane l s (s.countN i b f e n) := ⟨by simp [State.lessLanes], by simp⟩

theorem OnlyLane.count (s : State) (l i b f e : Nat) : OnlyLane l s (s.count i b f e) := OnlyLane.countN ..

theorem OnlyLane.emit (s : State) (l : Nat) (o : Output) : OnlyLane l s (s.emit o) := ⟨by simp [State.lessLanes], by simp⟩

theorem OnlyLane.laneRestart (s : State) (l : LaneId) (c : Bool) : OnlyLane l s (s.laneRestart l c) := by
  unfold State.laneRestart
  split
  · cases c
    · exact OnlyLane.change ..
    · exact (OnlyLane.count ..).trans (OnlyLane.change ..)
  · exact OnlyLane.refl ..

/-- A command that changes one lane alone. -/
theorem OnlyLane.fixed {l : Nat} {s u : State} (h : OnlyLane l s.quiet u) : OnlyLane l s (s.fixed u) := by
  refine ⟨?_, fun k hk => (State.fixed_reads s u).1 k |>.trans ((h.2 k hk).trans rfl)⟩
  have h1 := h.1
  simp only [State.lessLanes, State.quiet, State.mk.injEq] at h1 ⊢
  simp_all

/-- What the transmitter sends is all of the bring-up that turning it to training writes. -/
@[simp] theorem Lane.sendTraining_bring (x : Lane) (l : Nat) : (x.sendTraining l).bring = { x.bring with txMode := .training } := by
  unfold Lane.sendTraining; split
  · rename_i h; rw [← h]
  · rfl

@[simp] theorem Lane.startZasyn_bring (x : Lane) : x.startZasyn.bring = { x.bring with txMode := .zasyn } := by
  unfold Lane.startZasyn; split
  · rename_i h; rw [← h]
  · rfl

@[simp] theorem State.trainTx_bring (s : State) (l : Nat) (x : Lane) :
    (s.trainTx l x).bring = { x.bring with txMode := if s.trains l then .training else .zasyn } := by
  unfold State.trainTx; repeat' split
  all_goals simp_all

/-- What a lane's restart leaves it in (03 R83). -/
theorem State.laneRestart_bring (s : State) (l : LaneId) (c : Bool) (h : s.enabled l = true) :
    ((s.laneRestart l c).lane l).bring.stage = 1 ∧ ((s.laneRestart l c).lane l).bring.stageSince = s.now ∧
    ((s.laneRestart l c).lane l).bring.holdSince = none ∧ ((s.laneRestart l c).lane l).bring.cdr = false := by
  simp only [State.laneRestart, h, if_true, State.change]
  cases c <;> simp [Lane.goto, Lane.lockDefects]

theorem State.evalRef_ctr (s : State) (r : RefId) (i b f e : Nat) (h : ctrKey i b f e ≠ ctrKey 0x5430 2 1 r) :
    (s.evalRef r).ctr i b f e = s.ctr i b f e := by
  simp only [State.evalRef]
  repeat' split
  all_goals simp [State.count, State.ctr_countN_other _ _ _ _ _ _ _ _ _ _ h]

/-- Settling counts qualification losses and discarded packets alone. -/
theorem State.settle_ctr (s : State) (l : LaneId) (i b f e : Nat) (h : ∀ r : RefId, ctrKey i b f e ≠ ctrKey 0x5430 2 1 r)
    (h' : ctrKey i b f e ≠ ctrKey 0x3050 7 0 l) : (s.settle l).ctr i b f e = s.ctr i b f e := by
  have hr (s : State) : s.evalRefs.ctr i b f e = s.ctr i b f e := by
    unfold State.evalRefs
    generalize List.finRange 8 = rs
    exact State.each_keep (fun s => s.ctr i b f e) rs _ (fun r s => State.evalRef_ctr _ _ _ _ _ _ (h r)) s
  simp only [State.settle]
  repeat' split
  all_goals simp [hr, State.ctr_countN_other _ _ _ _ _ _ _ _ _ _ h']

theorem State.change_ctr (s : State) (l : LaneId) (g : Lane → Lane) (i b f e : Nat)
    (h : ∀ r : RefId, ctrKey i b f e ≠ ctrKey 0x5430 2 1 r) (h' : ctrKey i b f e ≠ ctrKey 0x3050 7 0 l) :
    (s.change l g).ctr i b f e = s.ctr i b f e := by
  rw [State.change, State.settle_ctr _ _ _ _ _ _ h h']; simp

/-! Training (03 R75, R76). -/

@[simp] theorem requester_keep (x : Train) (l : Nat) (m : Bytes) (now : Nat) :
    (requester x l m now).validMsg = x.validMsg ∧ (requester x l m now).rxReady = x.rxReady ∧ (requester x l m now).answered = x.answered ∧
    (requester x l m now).taps = x.taps ∧ (requester x l m now).presetApplied = x.presetApplied := by
  simp only [requester, Train.newRequest]; repeat' split
  all_goals exact ⟨rfl, rfl, rfl, rfl, rfl⟩

@[simp] theorem respondTap_answered (x : Train) (m : Bytes) : (respondTap x m).answered = field m 4 1 := by
  simp only [respondTap]; split
  · split <;> rfl
  · rfl

/-- A preset request sets the taps once (03 R75). -/
theorem respondTap_preset (x : Train) (m : Bytes) (h : bit (field m 1 1) 1 = true) (h' : x.presetApplied = false) :
    (respondTap x m).taps = presetTaps (bits (field m 3 1) 2 0) ∧ (respondTap x m).presetApplied = true := by
  simp [respondTap, h, h', Train.setTaps, Train.taps]

@[simp] theorem Train.startTrail_keep (x : Train) (now : Nat) :
    (x.startTrail now).validMsg = x.validMsg ∧ (x.startTrail now).rxReady = x.rxReady ∧ (x.startTrail now).answered = x.answered ∧
    (x.startTrail now).taps = x.taps ∧ (x.startTrail now).presetApplied = x.presetApplied := by
  unfold Train.startTrail; split <;> exact ⟨rfl, rfl, rfl, rfl, rfl⟩

@[simp] theorem Train.hear_keep (x : Train) (m : Bytes) (r : Bool) :
    (x.hear m r).validMsg = true ∧ (x.hear m r).rxReady = r ∧ (x.hear m r).answered = x.answered ∧
    (x.hear m r).taps = x.taps ∧ (x.hear m r).presetApplied = x.presetApplied := ⟨rfl, rfl, rfl, rfl, rfl⟩

@[simp] theorem trainMessage_bring (x : Lane) (l : Nat) (m : Bytes) (r : Bool) (now : Nat) : (trainMessage x l m r now).bring = x.bring := rfl

end Sys2Proof.Machine
end

