-- ==== Sys2Proof/WellFormed.lean ====
section
/-! DEFINITION. Well-formed commands: every field that comes over a wire fits the width its layout table gives. -/

namespace Sys2Proof

/-- A number fits a field of n bits. -/
def fits (n v : Nat) : Bool := decide (v < 2 ^ n)

/-- Session and tag (14 Table 14-6). -/
def rqWf (r : Rq) : Bool := fits 32 r.session && fits 16 r.tag

/-- A request record, of a message of at most 1,452 bytes (14 Table 14-6, R350). -/
def reqWf (q : Req) : Bool :=
  fits 32 q.session && fits 16 q.tag && fits 8 q.flags && fits 16 q.index && fits 8 q.sub && fits 8 q.rsv && fits 32 q.element
    && fits 32 q.length && fits 32 q.offset && fits 32 q.total && decide (q.value.length ≤ 1396)

/-- A message header (14 Table 14-1). -/
def hdrWf (h : Hdr) : Bool :=
  fits 8 h.version && fits 8 h.kind && fits 16 h.length && fits 32 h.session && fits 64 h.sequence && fits 16 h.udpLength

/-- A source address and port. -/
def srcWf (x : Src) : Bool := fits 128 x.addr && fits 16 x.port

/-- An Ethernet frame. -/
def frameWf (f : EthFrame) : Bool := fits 48 f.src && fits 48 f.dst && fits 16 f.etherType

/-- An arm record (06 Table 6-10). -/
def armWf (r : ArmRec) : Bool :=
  fits 16 r.hopper && fits 32 r.client && fits 64 r.superframe && fits 8 r.sfi && fits 48 r.seconds && fits 32 r.nanoseconds

/-- A trigger arm record (10 Table 10-4). -/
def trigWf (r : TrigRec) : Bool :=
  fits 48 r.seconds && fits 32 r.nanoseconds && fits 64 r.period && fits 32 r.width && fits 32 r.count

/-- A seal record (02 Table 2-10). -/
def sealRecWf (r : SealRec) : Bool := fits 16 r.handle && fits 40 r.counter && fits 128 r.tag

/-- Measured phases lie within half a frame (04 R104). -/
def phasesWf (ps : List LanePhase) : Bool := ps.all fun p => decide (-62500 ≤ p.phase ∧ p.phase ≤ 62499)

/-- An upset names an entry of the page, companions counted, or a word of a frame buffer or of the ring (05 R129, R145). -/
def Upset.wf : Upset → Bool
  | .entry _ index _ => decide (index < 2097152)
  | .word _ _ w _ => decide (w < 4608000)
  | .stray _ _ w p v => decide (w < 4608000 ∧ p < 48 ∧ v < 96000)

/-- An observation of an internal frame boundary. -/
def boundaryWf (o : BoundaryObs) : Bool := phasesWf o.phases && o.upsets.all Upset.wf

/-- A measured eye: the height in a 16-bit field, the width at most one UI (03 Table 3-12). -/
def eyeWf (e : EyeObs) : Bool := fits 16 e.height && decide (e.width ≤ 1000)

/-- Counts of a matrix port (13 R344). -/
def countsWf (c : PortCounts) : Bool :=
  decide (c.port < 23 ∨ (32 ≤ c.port ∧ c.port < 48)) && fits 32 c.beatsRead && fits 32 c.beatsWritten && fits 32 c.stalled
    && fits 32 c.grants

/-- What a master had open (13 Table 13-7). -/
def resetWf (o : ResetObs) : Bool := fits 8 o.target && fits 8 o.beatsWritten && fits 8 o.beatsLeft && fits 8 o.responsesOwed

/-- A well-formed command. -/
def Instr.wf : Instr → Bool
  | .identity h src op q => hdrWf h && srcWf src && fits 8 op && reqWf q
  | .commissioningFrame _ => true
  | .hello h src => hdrWf h && srcWf src
  | .openSession h src serial _ _ _ => hdrWf h && srcWf src && fits 64 serial
  | .secure h src _ => hdrWf h && srcWf src
  | .handshakeLapse session => fits 32 session
  | .sessionIdleTimeout session => fits 32 session
  | .read q => reqWf q
  | .write q => reqWf q
  | .readMulti q => reqWf q
  | .domainRead q => reqWf q
  | .domainWrite q => reqWf q
  | .describe q => reqWf q
  | .hopperRead q => reqWf q
  | .hopperWrite q => reqWf q
  | .hopperAck q => reqWf q
  | .subscribe q => reqWf q
  | .release q => reqWf q
  | .nop q => reqWf q
  | .close q => reqWf q
  | .domainSnapshotExpiry session index sub element => fits 32 session && fits 16 index && fits 8 sub && fits 32 element
  | .domainTransferDrop session index sub element => fits 32 session && fits 16 index && fits 8 sub && fits 32 element
  | .hopperWriteTimeout session tag => fits 32 session && fits 16 tag
  | .hopperConfiguration rq hopper value => rqWf rq && fits 32 hopper && decide (value.length ≤ 1396)
  | .acknowledgeAlarm rq number => rqWf rq && fits 32 number
  | .acknowledgeAll rq => rqWf rq
  | .commit rq _ => rqWf rq
  | .commitComplete _ => true
  | .discardStaged rq _ => rqWf rq
  | .closeSession rq target _ => rqWf rq && fits 32 target
  | .managementAddressWrite rq value => rqWf rq && decide (value.length ≤ 1396)
  | .unrynPortWrite rq port => rqWf rq && fits 16 port
  | .mgtFrame _ f => frameWf f
  | .ringCheckTimer => true
  | .ringOpen => true
  | .ringClose => true
  | .flushFrame _ => true
  | .ipv6Datagram _ d => decide (40 ≤ d.length ∧ d.length ≤ 1535)
  | .supervisorRestart _ => true
  | .restartSupervisor rq _ => rqWf rq
  | .supervisorRestartComplete => true
  | .lockstepMismatch => true
  | .headWatchdog => true
  | .portDieFault => true
  | .txQueueFault _ => true
  | .linkFlit _ _ => true
  | .linkFramingLoss _ _ => true
  | .blockReceived _ _ _ => true
  | .overheadBlockReceived _ _ _ _ => true
  | .channelPacket _ _ => true
  | .sealRecord _ r _ => sealRecWf r
  | .sealRecordDeadline _ => true
  | .aisHoldEnd _ => true
  | .candidateExpectedPosition _ position _ _ => fits 17 position
  | .expectedFabPosition _ _ _ => true
  | .internalFrameBoundary o => boundaryWf o
  | .framePhaseAlignmentLost => true
  | .laneEnable rq lane => rqWf rq && fits 32 lane
  | .laneDisable rq lane => rqWf rq && fits 32 lane
  | .signalDetectAssert _ => true
  | .signalDetectDeassert _ => true
  | .signalDetectStable _ => true
  | .losDeclared _ => true
  | .losCleared _ => true
  | .cdrLockStable _ => true
  | .cdrLockTimeout _ => true
  | .cdrLockLost _ => true
  | .trainingMessage _ _ eye => eyeWf eye
  | .responseTimeExpiry _ => true
  | .trainingTimerExpiry _ => true
  | .trailingFramesEnd _ => true
  | .blockLockTimeout _ => true
  | .restartHoldExpiry _ => true
  | .retrain rq lane _ => rqWf rq && fits 32 lane
  | .rtrPeriodEnd _ => true
  | .gatherEnd _ => true
  | .loopbackOff rq lane => rqWf rq && fits 32 lane
  | .loopbackSerial rq lane => rqWf rq && fits 32 lane
  | .loopbackParallel rq lane => rqWf rq && fits 32 lane
  | .loopbackFarEnd rq lane => rqWf rq && fits 32 lane
  | .equaliserFreeze rq lane => rqWf rq && fits 32 lane
  | .equaliserUnfreeze rq lane => rqWf rq && fits 32 lane
  | .portWidthWrite rq port width => rqWf rq && fits 32 port && fits 8 width
  | .expectedTraceWrite rq lane text => rqWf rq && fits 32 lane && decide (text.length ≤ 1396)
  | .timModeWrite rq lane mode => rqWf rq && fits 32 lane && fits 8 mode
  | .failureRaised _ => true
  | .failureCleared _ => true
  | .slipCleared _ => true
  | .transactionTaken _ => true
  | .transactionComplete acceptance => fits 32 acceptance
  | .revertShadow rq _ => rqWf rq
  | .pageCopyEnd => true
  | .armNextFrame rq r => rqWf rq && armWf r
  | .armNamedMultiframe rq r => rqWf rq && armWf r
  | .armTaiInstant rq r => rqWf rq && armWf r
  | .sealPoint => true
  | .commitPoint => true
  | .activation => true
  | .cancelActivation rq number => rqWf rq && fits 32 number
  | .protectPortWrite rq port protect => rqWf rq && fits 32 port && fits 8 protect
  | .pairWriteTaken _ => true
  | .pairWriteTimeout _ => true
  | .pairModeWrite rq port mode => rqWf rq && fits 32 port && fits 8 mode
  | .holdOffExpiry _ _ => true
  | .pairEvaluation => true
  | .wtrExpiry _ => true
  | .lineClear rq port => rqWf rq && fits 32 port
  | .lockoutOfProtection rq port => rqWf rq && fits 32 port
  | .forcedSwitch rq port => rqWf rq && fits 32 port
  | .manualSwitchToProtect rq port => rqWf rq && fits 32 port
  | .manualSwitchToWorking rq port => rqWf rq && fits 32 port
  | .modeMismatchDeclared _ => true
  | .modeMismatchCleared _ => true
  | .selectorMismatchDeclared _ => true
  | .selectorMismatchCleared _ => true
  | .circuitWtrTick => true
  | .circuitWtrExpiry _ => true
  | .circuitCommandNone rq handle => rqWf rq && fits 32 handle
  | .circuitLockout rq handle => rqWf rq && fits 32 handle
  | .circuitForced rq handle => rqWf rq && fits 32 handle
  | .circuitManual rq handle => rqWf rq && fits 32 handle
  | .circuitRevertiveWrite rq handle value => rqWf rq && fits 32 handle && fits 8 value
  | .selectorWriteBack => true
  | .perFrameLeaseState _ => true
  | .wakeComplete _ _ => true
  | .renewal _ epoch => fits 32 epoch
  | .claim _ epoch => fits 32 epoch
  | .leaseExpiry => true
  | .admission => true
  | .tallyComparison _ _ _ => true
  | .coreRailFault _ => true
  | .islandRailLoss _ => true
  | .refreshDue => true
  | .refreshCheckpoint rq _ => rqWf rq
  | .refreshComplete _ _ => true
  | .heartbeat _ => true
  | .heartbeatLost _ => true
  | .manualSwitch rq _ => rqWf rq
  | .handover => true
  | .automaticRestart _ => true
  | .restartEngine rq engine => rqWf rq && fits 8 engine
  | .restartMarchComplete _ _ => true
  | .tallyRevocationWrite rq => rqWf rq
  | .referenceEdgeMissing _ => true
  | .frequencyMeasurement _ _ => true
  | .hardLimitExceeded _ => true
  | .softLimitFlag _ => true
  | .referenceWtrExpiry _ => true
  | .referenceSelection => true
  | .disagreementSet _ _ => true
  | .disagreementCleared _ _ => true
  | .selectClear rq ref => rqWf rq && fits 8 ref
  | .selectForced rq ref => rqWf rq && fits 8 ref
  | .selectManual rq ref => rqWf rq && fits 8 ref
  | .selectHoldover rq ref => rqWf rq && fits 8 ref
  | .selectFreeRun rq ref => rqWf rq && fits 8 ref
  | .governorLocked _ => true
  | .noLockTimeout => true
  | .historyEntry _ _ => true
  | .calibrationUpdate _ => true
  | .ocxoWarm => true
  | .ssmOptionWrite rq option => rqWf rq && fits 8 option
  | .realignFramePhase rq _ => rqWf rq
  | .realignment phases => phasesWf phases
  | .ppsInEdge => true
  | .todMessage message => decide (message.length = 16)
  | .todOut => true
  | .delayReqInterval => true
  | .sourceLost => true
  | .permitStep rq => rqWf rq
  | .permitSlew rq => rqWf rq
  | .timeSourceWrite rq source => rqWf rq && fits 8 source
  | .ptpSourceLaneWrite rq lane => rqWf rq && fits 8 lane
  | .armOneShot rq trig r => rqWf rq && fits 32 trig && trigWf r
  | .armPeriodic rq trig r => rqWf rq && fits 32 trig && trigWf r
  | .disarmTrigger rq trig _ => rqWf rq && fits 32 trig
  | .triggerFire _ => true
  | .triggerPulseEnd _ => true
  | .transmitStreamWrite rq stream value => rqWf rq && fits 32 stream && decide (value.length ≤ 1396)
  | .receiveStreamWrite rq stream value => rqWf rq && fits 32 stream && decide (value.length ≤ 1396)
  | .installKey rq slot wrapped switchAt => rqWf rq && fits 32 slot && wrapped.length == 56 && fits 64 switchAt
  | .keySwitch _ => true
  | .erasePendingKey rq slot => rqWf rq && fits 32 slot
  | .eraseSlotKey rq slot => rqWf rq && fits 32 slot
  | .eraseAllKeys rq _ => rqWf rq
  | .installKwk rq c => rqWf rq && c.bytes.length == 384
  | .installChannelKey rq channel wrapped => rqWf rq && fits 32 channel && wrapped.length == 56
  | .sendMessage rq channel message => rqWf rq && fits 32 channel && decide (message.length ≤ 1511)
  | .tamperDetected _ => true
  | .temperatureSample _ => true
  | .voltageExcursion _ => true
  | .glitchDetected _ => true
  | .clearTamper rq _ => rqWf rq
  | .authCountDecay => true
  | .secondBoundary => true
  | .secondClassify _ => true
  | .secondCommit => true
  | .wheelDrain _ => true
  | .clearCounters rq index element => rqWf rq && fits 16 index && fits 32 element
  | .cogWatchdogExpiry _ => true
  | .cogFault _ _ => true
  | .cogReloaded _ => true
  | .mapAuditPass _ milliseconds => fits 32 milliseconds
  | .matrixTimeout _ _ => true
  | .masterReset _ o => resetWf o
  | .marchSlice _ _ _ => true
  | .sliceResume => true
  | .marchPassDue => true
  | .startMarchPass rq _ => rqWf rq
  | .bandwidthWindowEnd counts => counts.all countsWf
  | .bandwidthWindowWrite rq milliseconds => rqWf rq && fits 16 milliseconds
  | .enrolCertificate rq record => rqWf rq && decide (record.length ≤ 1396)
  | .revokeCertificate rq serial => rqWf rq && fits 64 serial
  | .makerAccessWrite rq _ => rqWf rq
  | .auditFlush _ => true
  | .markRead rq sequence => rqWf rq && fits 64 sequence
  | .startTrial rq slot => rqWf rq && fits 8 slot
  | .confirmImage rq _ => rqWf rq
  | .enterRecovery rq _ => rqWf rq
  | .attestationNonce rq nonce => rqWf rq && decide (nonce.length ≤ 1396)
  | .attestationReportReady session => fits 32 session
  | .flashEraseComplete _ _ => true
  | .feedValid _ volts _ => fits 16 volts
  | .feedInvalid _ volts => fits 16 volts
  | .keepPresent => true
  | .keepLost => true
  | .hotSwapTrip _ => true
  | .hotSwapRetry _ => true
  | .holdUpCharged => true
  | .seated _ => true
  | .presentLost _ => true
  | .resetAssert => true
  | .resetRelease _ => true
  | .startupRetry _ => true
  | .startupComplete => true
  | .mapCheckpointStart => true
  | .mapCheckpointComplete _ => true
  | .eraseBudgetUnit => true
  | .restoreDefaults rq _ => rqWf rq
  | .powerFail => true
  | .referenceActivityRestored _ => true
  | .tamperConditionEnded _ => true
  | .voltageConditionEnded _ => true
  | .macAddressAgeing mac => fits 48 mac
  | .mgtLinkChange _ _ => true
  | .keptResponseExpiry session tag => fits 32 session && fits 16 tag
  | .overheadQueueFault _ => true
  | .scratchpadEccUncorrectable _ _ => true
  | .slewComplete => true

end Sys2Proof
end

