-- ==== Sys2Proof/Laws/PerInstr.lean ====
section
/-! SUPPORT. Per command: the session that a well-formed command names fits the 32 bits of its field (14 Table 14-6). -/

namespace Sys2Proof.Laws.Bounded

open Sys2Proof

/-- The session that a command names, where it names one. -/
def named : Instr → Option Nat
  | .identity _ _ _ q => some q.session
  | .commissioningFrame _ => none
  | .hello _ _ => none
  | .openSession _ _ _ _ _ _ => none
  | .secure _ _ _ => none
  | .handshakeLapse n => some n
  | .sessionIdleTimeout n => some n
  | .read q => some q.session
  | .write q => some q.session
  | .readMulti q => some q.session
  | .domainRead q => some q.session
  | .domainWrite q => some q.session
  | .describe q => some q.session
  | .hopperRead q => some q.session
  | .hopperWrite q => some q.session
  | .hopperAck q => some q.session
  | .subscribe q => some q.session
  | .release q => some q.session
  | .nop q => some q.session
  | .close q => some q.session
  | .domainSnapshotExpiry n _ _ _ => some n
  | .domainTransferDrop n _ _ _ => some n
  | .hopperWriteTimeout n _ => some n
  | .hopperConfiguration rq _ _ => some rq.session
  | .acknowledgeAlarm rq _ => some rq.session
  | .acknowledgeAll rq => some rq.session
  | .commit rq _ => some rq.session
  | .commitComplete _ => none
  | .discardStaged rq _ => some rq.session
  | .closeSession rq _ _ => some rq.session
  | .managementAddressWrite rq _ => some rq.session
  | .unrynPortWrite rq _ => some rq.session
  | .mgtFrame _ _ => none
  | .ringCheckTimer => none
  | .ringOpen => none
  | .ringClose => none
  | .flushFrame _ => none
  | .ipv6Datagram _ _ => none
  | .supervisorRestart _ => none
  | .restartSupervisor rq _ => some rq.session
  | .supervisorRestartComplete => none
  | .lockstepMismatch => none
  | .headWatchdog => none
  | .portDieFault => none
  | .txQueueFault _ => none
  | .linkFlit _ _ => none
  | .linkFramingLoss _ _ => none
  | .blockReceived _ _ _ => none
  | .overheadBlockReceived _ _ _ _ => none
  | .channelPacket _ _ => none
  | .sealRecord _ _ _ => none
  | .sealRecordDeadline _ => none
  | .aisHoldEnd _ => none
  | .candidateExpectedPosition _ _ _ _ => none
  | .expectedFabPosition _ _ _ => none
  | .internalFrameBoundary _ => none
  | .framePhaseAlignmentLost => none
  | .laneEnable rq _ => some rq.session
  | .laneDisable rq _ => some rq.session
  | .signalDetectAssert _ => none
  | .signalDetectDeassert _ => none
  | .signalDetectStable _ => none
  | .losDeclared _ => none
  | .losCleared _ => none
  | .cdrLockStable _ => none
  | .cdrLockTimeout _ => none
  | .cdrLockLost _ => none
  | .trainingMessage _ _ _ => none
  | .responseTimeExpiry _ => none
  | .trainingTimerExpiry _ => none
  | .trailingFramesEnd _ => none
  | .blockLockTimeout _ => none
  | .restartHoldExpiry _ => none
  | .retrain rq _ _ => some rq.session
  | .rtrPeriodEnd _ => none
  | .gatherEnd _ => none
  | .loopbackOff rq _ => some rq.session
  | .loopbackSerial rq _ => some rq.session
  | .loopbackParallel rq _ => some rq.session
  | .loopbackFarEnd rq _ => some rq.session
  | .equaliserFreeze rq _ => some rq.session
  | .equaliserUnfreeze rq _ => some rq.session
  | .portWidthWrite rq _ _ => some rq.session
  | .expectedTraceWrite rq _ _ => some rq.session
  | .timModeWrite rq _ _ => some rq.session
  | .failureRaised _ => none
  | .failureCleared _ => none
  | .slipCleared _ => none
  | .transactionTaken _ => none
  | .transactionComplete _ => none
  | .revertShadow rq _ => some rq.session
  | .pageCopyEnd => none
  | .armNextFrame rq _ => some rq.session
  | .armNamedMultiframe rq _ => some rq.session
  | .armTaiInstant rq _ => some rq.session
  | .sealPoint => none
  | .commitPoint => none
  | .activation => none
  | .cancelActivation rq _ => some rq.session
  | .protectPortWrite rq _ _ => some rq.session
  | .pairWriteTaken _ => none
  | .pairWriteTimeout _ => none
  | .pairModeWrite rq _ _ => some rq.session
  | .holdOffExpiry _ _ => none
  | .pairEvaluation => none
  | .wtrExpiry _ => none
  | .lineClear rq _ => some rq.session
  | .lockoutOfProtection rq _ => some rq.session
  | .forcedSwitch rq _ => some rq.session
  | .manualSwitchToProtect rq _ => some rq.session
  | .manualSwitchToWorking rq _ => some rq.session
  | .modeMismatchDeclared _ => none
  | .modeMismatchCleared _ => none
  | .selectorMismatchDeclared _ => none
  | .selectorMismatchCleared _ => none
  | .circuitWtrTick => none
  | .circuitWtrExpiry _ => none
  | .circuitCommandNone rq _ => some rq.session
  | .circuitLockout rq _ => some rq.session
  | .circuitForced rq _ => some rq.session
  | .circuitManual rq _ => some rq.session
  | .circuitRevertiveWrite rq _ _ => some rq.session
  | .selectorWriteBack => none
  | .perFrameLeaseState _ => none
  | .wakeComplete _ _ => none
  | .renewal _ _ => none
  | .claim _ _ => none
  | .leaseExpiry => none
  | .admission => none
  | .tallyComparison _ _ _ => none
  | .coreRailFault _ => none
  | .islandRailLoss _ => none
  | .refreshDue => none
  | .refreshCheckpoint rq _ => some rq.session
  | .refreshComplete _ _ => none
  | .heartbeat _ => none
  | .heartbeatLost _ => none
  | .manualSwitch rq _ => some rq.session
  | .handover => none
  | .automaticRestart _ => none
  | .restartEngine rq _ => some rq.session
  | .restartMarchComplete _ _ => none
  | .tallyRevocationWrite rq => some rq.session
  | .referenceEdgeMissing _ => none
  | .frequencyMeasurement _ _ => none
  | .hardLimitExceeded _ => none
  | .softLimitFlag _ => none
  | .referenceWtrExpiry _ => none
  | .referenceSelection => none
  | .disagreementSet _ _ => none
  | .disagreementCleared _ _ => none
  | .selectClear rq _ => some rq.session
  | .selectForced rq _ => some rq.session
  | .selectManual rq _ => some rq.session
  | .selectHoldover rq _ => some rq.session
  | .selectFreeRun rq _ => some rq.session
  | .governorLocked _ => none
  | .noLockTimeout => none
  | .historyEntry _ _ => none
  | .calibrationUpdate _ => none
  | .ocxoWarm => none
  | .ssmOptionWrite rq _ => some rq.session
  | .realignFramePhase rq _ => some rq.session
  | .realignment _ => none
  | .ppsInEdge => none
  | .todMessage _ => none
  | .todOut => none
  | .delayReqInterval => none
  | .sourceLost => none
  | .permitStep rq => some rq.session
  | .permitSlew rq => some rq.session
  | .timeSourceWrite rq _ => some rq.session
  | .ptpSourceLaneWrite rq _ => some rq.session
  | .armOneShot rq _ _ => some rq.session
  | .armPeriodic rq _ _ => some rq.session
  | .disarmTrigger rq _ _ => some rq.session
  | .triggerFire _ => none
  | .triggerPulseEnd _ => none
  | .transmitStreamWrite rq _ _ => some rq.session
  | .receiveStreamWrite rq _ _ => some rq.session
  | .installKey rq _ _ _ => some rq.session
  | .keySwitch _ => none
  | .erasePendingKey rq _ => some rq.session
  | .eraseSlotKey rq _ => some rq.session
  | .eraseAllKeys rq _ => some rq.session
  | .installKwk rq _ => some rq.session
  | .installChannelKey rq _ _ => some rq.session
  | .sendMessage rq _ _ => some rq.session
  | .tamperDetected _ => none
  | .temperatureSample _ => none
  | .voltageExcursion _ => none
  | .glitchDetected _ => none
  | .clearTamper rq _ => some rq.session
  | .authCountDecay => none
  | .secondBoundary => none
  | .secondClassify _ => none
  | .secondCommit => none
  | .wheelDrain _ => none
  | .clearCounters rq _ _ => some rq.session
  | .cogWatchdogExpiry _ => none
  | .cogFault _ _ => none
  | .cogReloaded _ => none
  | .mapAuditPass _ _ => none
  | .matrixTimeout _ _ => none
  | .masterReset _ _ => none
  | .marchSlice _ _ _ => none
  | .sliceResume => none
  | .marchPassDue => none
  | .startMarchPass rq _ => some rq.session
  | .bandwidthWindowEnd _ => none
  | .bandwidthWindowWrite rq _ => some rq.session
  | .enrolCertificate rq _ => some rq.session
  | .revokeCertificate rq _ => some rq.session
  | .makerAccessWrite rq _ => some rq.session
  | .auditFlush _ => none
  | .markRead rq _ => some rq.session
  | .startTrial rq _ => some rq.session
  | .confirmImage rq _ => some rq.session
  | .enterRecovery rq _ => some rq.session
  | .attestationNonce rq _ => some rq.session
  | .attestationReportReady n => some n
  | .flashEraseComplete _ _ => none
  | .feedValid _ _ _ => none
  | .feedInvalid _ _ => none
  | .keepPresent => none
  | .keepLost => none
  | .hotSwapTrip _ => none
  | .hotSwapRetry _ => none
  | .holdUpCharged => none
  | .seated _ => none
  | .presentLost _ => none
  | .resetAssert => none
  | .resetRelease _ => none
  | .startupRetry _ => none
  | .startupComplete => none
  | .mapCheckpointStart => none
  | .mapCheckpointComplete _ => none
  | .eraseBudgetUnit => none
  | .restoreDefaults rq _ => some rq.session
  | .powerFail => none
  | .referenceActivityRestored _ => none
  | .tamperConditionEnded _ => none
  | .voltageConditionEnded _ => none
  | .macAddressAgeing _ => none
  | .mgtLinkChange _ _ => none
  | .keptResponseExpiry n _ => some n
  | .overheadQueueFault _ => none
  | .scratchpadEccUncorrectable _ _ => none
  | .slewComplete => none

/-- A well-formed command that names a session names one of 32 bits. -/
def Statement (i : Instr) : Prop := i.wf = true → ∀ n, named i = some n → n < 4294967296

theorem of_none {i : Instr} (h : named i = none) : Statement i := fun _ n e => by rw [h] at e; cases e

theorem of_some {i : Instr} {n : Nat} (h : named i = some n) (w : i.wf = true → n < 4294967296) : Statement i := fun hw m e => by
  rw [h] at e; cases e; exact w hw

theorem of_and {a b : Bool} (h : (a && b) = true) : a = true := by cases a <;> simp_all

theorem of_and_right {a b : Bool} (h : (a && b) = true) : b = true := by cases b <;> simp_all

theorem of_rq {r : Rq} (h : rqWf r = true) : r.session < 4294967296 := by simp [rqWf, fits] at h; omega

theorem of_req {q : Req} (h : reqWf q = true) : q.session < 4294967296 := by simp [reqWf, fits] at h; omega

theorem of_fits {n : Nat} (h : fits 32 n = true) : n < 4294967296 := by simpa [fits] using h

theorem identity (a0 : Hdr) (a1 : Src) (a2 : Nat) (a3 : Req) : Statement (.identity a0 a1 a2 a3) := of_some rfl fun h => of_req (of_and_right h)
theorem commissioningFrame (a0 : Bytes) : Statement (.commissioningFrame a0) := of_none rfl
theorem hello (a0 : Hdr) (a1 : Src) : Statement (.hello a0 a1) := of_none rfl
theorem openSession (a0 : Hdr) (a1 : Src) (a2 : Nat) (a3 : Bool) (a4 : Bool) (a5 : BitVec 256) : Statement (.openSession a0 a1 a2 a3 a4 a5) := of_none rfl
theorem secure (a0 : Hdr) (a1 : Src) (a2 : Bool) : Statement (.secure a0 a1 a2) := of_none rfl
theorem handshakeLapse (a0 : Nat) : Statement (.handshakeLapse a0) := of_some rfl fun h => of_fits h
theorem sessionIdleTimeout (a0 : Nat) : Statement (.sessionIdleTimeout a0) := of_some rfl fun h => of_fits h
theorem read (a0 : Req) : Statement (.read a0) := of_some rfl fun h => of_req h
theorem write (a0 : Req) : Statement (.write a0) := of_some rfl fun h => of_req h
theorem readMulti (a0 : Req) : Statement (.readMulti a0) := of_some rfl fun h => of_req h
theorem domainRead (a0 : Req) : Statement (.domainRead a0) := of_some rfl fun h => of_req h
theorem domainWrite (a0 : Req) : Statement (.domainWrite a0) := of_some rfl fun h => of_req h
theorem describe (a0 : Req) : Statement (.describe a0) := of_some rfl fun h => of_req h
theorem hopperRead (a0 : Req) : Statement (.hopperRead a0) := of_some rfl fun h => of_req h
theorem hopperWrite (a0 : Req) : Statement (.hopperWrite a0) := of_some rfl fun h => of_req h
theorem hopperAck (a0 : Req) : Statement (.hopperAck a0) := of_some rfl fun h => of_req h
theorem subscribe (a0 : Req) : Statement (.subscribe a0) := of_some rfl fun h => of_req h
theorem release (a0 : Req) : Statement (.release a0) := of_some rfl fun h => of_req h
theorem nop (a0 : Req) : Statement (.nop a0) := of_some rfl fun h => of_req h
theorem close (a0 : Req) : Statement (.close a0) := of_some rfl fun h => of_req h
theorem domainSnapshotExpiry (a0 : Nat) (a1 : Nat) (a2 : Nat) (a3 : Nat) : Statement (.domainSnapshotExpiry a0 a1 a2 a3) := of_some rfl fun h => of_fits (of_and (of_and (of_and h)))
theorem domainTransferDrop (a0 : Nat) (a1 : Nat) (a2 : Nat) (a3 : Nat) : Statement (.domainTransferDrop a0 a1 a2 a3) := of_some rfl fun h => of_fits (of_and (of_and (of_and h)))
theorem hopperWriteTimeout (a0 : Nat) (a1 : Nat) : Statement (.hopperWriteTimeout a0 a1) := of_some rfl fun h => of_fits (of_and h)
theorem hopperConfiguration (a0 : Rq) (a1 : Nat) (a2 : Bytes) : Statement (.hopperConfiguration a0 a1 a2) := of_some rfl fun h => of_rq (of_and (of_and h))
theorem acknowledgeAlarm (a0 : Rq) (a1 : Nat) : Statement (.acknowledgeAlarm a0 a1) := of_some rfl fun h => of_rq (of_and h)
theorem acknowledgeAll (a0 : Rq) : Statement (.acknowledgeAll a0) := of_some rfl fun h => of_rq h
theorem commit (a0 : Rq) (a1 : Byte) : Statement (.commit a0 a1) := of_some rfl fun h => of_rq h
theorem commitComplete (a0 : Bool) : Statement (.commitComplete a0) := of_none rfl
theorem discardStaged (a0 : Rq) (a1 : Byte) : Statement (.discardStaged a0 a1) := of_some rfl fun h => of_rq h
theorem closeSession (a0 : Rq) (a1 : Nat) (a2 : Byte) : Statement (.closeSession a0 a1 a2) := of_some rfl fun h => of_rq (of_and h)
theorem managementAddressWrite (a0 : Rq) (a1 : Bytes) : Statement (.managementAddressWrite a0 a1) := of_some rfl fun h => of_rq (of_and h)
theorem unrynPortWrite (a0 : Rq) (a1 : Nat) : Statement (.unrynPortWrite a0 a1) := of_some rfl fun h => of_rq (of_and h)
theorem mgtFrame (a0 : Fin 2) (a1 : EthFrame) : Statement (.mgtFrame a0 a1) := of_none rfl
theorem ringCheckTimer : Statement .ringCheckTimer := of_none rfl
theorem ringOpen : Statement .ringOpen := of_none rfl
theorem ringClose : Statement .ringClose := of_none rfl
theorem flushFrame (a0 : Fin 2) : Statement (.flushFrame a0) := of_none rfl
theorem ipv6Datagram (a0 : IfId) (a1 : Bytes) : Statement (.ipv6Datagram a0 a1) := of_none rfl
theorem supervisorRestart (a0 : RestartCause) : Statement (.supervisorRestart a0) := of_none rfl
theorem restartSupervisor (a0 : Rq) (a1 : Byte) : Statement (.restartSupervisor a0 a1) := of_some rfl fun h => of_rq h
theorem supervisorRestartComplete : Statement .supervisorRestartComplete := of_none rfl
theorem lockstepMismatch : Statement .lockstepMismatch := of_none rfl
theorem headWatchdog : Statement .headWatchdog := of_none rfl
theorem portDieFault : Statement .portDieFault := of_none rfl
theorem txQueueFault (a0 : LaneId) : Statement (.txQueueFault a0) := of_none rfl
theorem linkFlit (a0 : EngId) (a1 : FlitCheck) : Statement (.linkFlit a0 a1) := of_none rfl
theorem linkFramingLoss (a0 : EngId) (a1 : LinkFault) : Statement (.linkFramingLoss a0 a1) := of_none rfl
theorem blockReceived (a0 : LaneId) (a1 : BitVec 2) (a2 : BitVec 64) : Statement (.blockReceived a0 a1 a2) := of_none rfl
theorem overheadBlockReceived (a0 : LaneId) (a1 : Fin 1000) (a2 : BitVec 2) (a3 : BitVec 64) : Statement (.overheadBlockReceived a0 a1 a2 a3) := of_none rfl
theorem channelPacket (a0 : LaneId) (a1 : Chan) : Statement (.channelPacket a0 a1) := of_none rfl
theorem sealRecord (a0 : LaneId) (a1 : SealRec) (a2 : Bool) : Statement (.sealRecord a0 a1 a2) := of_none rfl
theorem sealRecordDeadline (a0 : Fin 65536) : Statement (.sealRecordDeadline a0) := of_none rfl
theorem aisHoldEnd (a0 : Fin 65536) : Statement (.aisHoldEnd a0) := of_none rfl
theorem candidateExpectedPosition (a0 : LaneId) (a1 : Nat) (a2 : BitVec 2) (a3 : BitVec 64) : Statement (.candidateExpectedPosition a0 a1 a2 a3) := of_none rfl
theorem expectedFabPosition (a0 : LaneId) (a1 : BitVec 2) (a2 : BitVec 64) : Statement (.expectedFabPosition a0 a1 a2) := of_none rfl
theorem internalFrameBoundary (a0 : BoundaryObs) : Statement (.internalFrameBoundary a0) := of_none rfl
theorem framePhaseAlignmentLost : Statement .framePhaseAlignmentLost := of_none rfl
theorem laneEnable (a0 : Rq) (a1 : Nat) : Statement (.laneEnable a0 a1) := of_some rfl fun h => of_rq (of_and h)
theorem laneDisable (a0 : Rq) (a1 : Nat) : Statement (.laneDisable a0 a1) := of_some rfl fun h => of_rq (of_and h)
theorem signalDetectAssert (a0 : LaneId) : Statement (.signalDetectAssert a0) := of_none rfl
theorem signalDetectDeassert (a0 : LaneId) : Statement (.signalDetectDeassert a0) := of_none rfl
theorem signalDetectStable (a0 : LaneId) : Statement (.signalDetectStable a0) := of_none rfl
theorem losDeclared (a0 : LaneId) : Statement (.losDeclared a0) := of_none rfl
theorem losCleared (a0 : LaneId) : Statement (.losCleared a0) := of_none rfl
theorem cdrLockStable (a0 : LaneId) : Statement (.cdrLockStable a0) := of_none rfl
theorem cdrLockTimeout (a0 : LaneId) : Statement (.cdrLockTimeout a0) := of_none rfl
theorem cdrLockLost (a0 : LaneId) : Statement (.cdrLockLost a0) := of_none rfl
theorem trainingMessage (a0 : LaneId) (a1 : BitVec 304) (a2 : EyeObs) : Statement (.trainingMessage a0 a1 a2) := of_none rfl
theorem responseTimeExpiry (a0 : LaneId) : Statement (.responseTimeExpiry a0) := of_none rfl
theorem trainingTimerExpiry (a0 : LaneId) : Statement (.trainingTimerExpiry a0) := of_none rfl
theorem trailingFramesEnd (a0 : LaneId) : Statement (.trailingFramesEnd a0) := of_none rfl
theorem blockLockTimeout (a0 : LaneId) : Statement (.blockLockTimeout a0) := of_none rfl
theorem restartHoldExpiry (a0 : LaneId) : Statement (.restartHoldExpiry a0) := of_none rfl
theorem retrain (a0 : Rq) (a1 : Nat) (a2 : Byte) : Statement (.retrain a0 a1 a2) := of_some rfl fun h => of_rq (of_and h)
theorem rtrPeriodEnd (a0 : LaneId) : Statement (.rtrPeriodEnd a0) := of_none rfl
theorem gatherEnd (a0 : LaneId) : Statement (.gatherEnd a0) := of_none rfl
theorem loopbackOff (a0 : Rq) (a1 : Nat) : Statement (.loopbackOff a0 a1) := of_some rfl fun h => of_rq (of_and h)
theorem loopbackSerial (a0 : Rq) (a1 : Nat) : Statement (.loopbackSerial a0 a1) := of_some rfl fun h => of_rq (of_and h)
theorem loopbackParallel (a0 : Rq) (a1 : Nat) : Statement (.loopbackParallel a0 a1) := of_some rfl fun h => of_rq (of_and h)
theorem loopbackFarEnd (a0 : Rq) (a1 : Nat) : Statement (.loopbackFarEnd a0 a1) := of_some rfl fun h => of_rq (of_and h)
theorem equaliserFreeze (a0 : Rq) (a1 : Nat) : Statement (.equaliserFreeze a0 a1) := of_some rfl fun h => of_rq (of_and h)
theorem equaliserUnfreeze (a0 : Rq) (a1 : Nat) : Statement (.equaliserUnfreeze a0 a1) := of_some rfl fun h => of_rq (of_and h)
theorem portWidthWrite (a0 : Rq) (a1 : Nat) (a2 : Nat) : Statement (.portWidthWrite a0 a1 a2) := of_some rfl fun h => of_rq (of_and (of_and h))
theorem expectedTraceWrite (a0 : Rq) (a1 : Nat) (a2 : Bytes) : Statement (.expectedTraceWrite a0 a1 a2) := of_some rfl fun h => of_rq (of_and (of_and h))
theorem timModeWrite (a0 : Rq) (a1 : Nat) (a2 : Nat) : Statement (.timModeWrite a0 a1 a2) := of_some rfl fun h => of_rq (of_and (of_and h))
theorem failureRaised (a0 : AlarmCond) : Statement (.failureRaised a0) := of_none rfl
theorem failureCleared (a0 : AlarmCond) : Statement (.failureCleared a0) := of_none rfl
theorem slipCleared (a0 : LaneId) : Statement (.slipCleared a0) := of_none rfl
theorem transactionTaken (a0 : Fin 8192) : Statement (.transactionTaken a0) := of_none rfl
theorem transactionComplete (a0 : Nat) : Statement (.transactionComplete a0) := of_none rfl
theorem revertShadow (a0 : Rq) (a1 : Byte) : Statement (.revertShadow a0 a1) := of_some rfl fun h => of_rq h
theorem pageCopyEnd : Statement .pageCopyEnd := of_none rfl
theorem armNextFrame (a0 : Rq) (a1 : ArmRec) : Statement (.armNextFrame a0 a1) := of_some rfl fun h => of_rq (of_and h)
theorem armNamedMultiframe (a0 : Rq) (a1 : ArmRec) : Statement (.armNamedMultiframe a0 a1) := of_some rfl fun h => of_rq (of_and h)
theorem armTaiInstant (a0 : Rq) (a1 : ArmRec) : Statement (.armTaiInstant a0 a1) := of_some rfl fun h => of_rq (of_and h)
theorem sealPoint : Statement .sealPoint := of_none rfl
theorem commitPoint : Statement .commitPoint := of_none rfl
theorem activation : Statement .activation := of_none rfl
theorem cancelActivation (a0 : Rq) (a1 : Nat) : Statement (.cancelActivation a0 a1) := of_some rfl fun h => of_rq (of_and h)
theorem protectPortWrite (a0 : Rq) (a1 : Nat) (a2 : Nat) : Statement (.protectPortWrite a0 a1 a2) := of_some rfl fun h => of_rq (of_and (of_and h))
theorem pairWriteTaken (a0 : LaneId) : Statement (.pairWriteTaken a0) := of_none rfl
theorem pairWriteTimeout (a0 : LaneId) : Statement (.pairWriteTimeout a0) := of_none rfl
theorem pairModeWrite (a0 : Rq) (a1 : Nat) (a2 : Nat) : Statement (.pairModeWrite a0 a1 a2) := of_some rfl fun h => of_rq (of_and (of_and h))
theorem holdOffExpiry (a0 : LaneId) (a1 : PairSide) : Statement (.holdOffExpiry a0 a1) := of_none rfl
theorem pairEvaluation : Statement .pairEvaluation := of_none rfl
theorem wtrExpiry (a0 : LaneId) : Statement (.wtrExpiry a0) := of_none rfl
theorem lineClear (a0 : Rq) (a1 : Nat) : Statement (.lineClear a0 a1) := of_some rfl fun h => of_rq (of_and h)
theorem lockoutOfProtection (a0 : Rq) (a1 : Nat) : Statement (.lockoutOfProtection a0 a1) := of_some rfl fun h => of_rq (of_and h)
theorem forcedSwitch (a0 : Rq) (a1 : Nat) : Statement (.forcedSwitch a0 a1) := of_some rfl fun h => of_rq (of_and h)
theorem manualSwitchToProtect (a0 : Rq) (a1 : Nat) : Statement (.manualSwitchToProtect a0 a1) := of_some rfl fun h => of_rq (of_and h)
theorem manualSwitchToWorking (a0 : Rq) (a1 : Nat) : Statement (.manualSwitchToWorking a0 a1) := of_some rfl fun h => of_rq (of_and h)
theorem modeMismatchDeclared (a0 : LaneId) : Statement (.modeMismatchDeclared a0) := of_none rfl
theorem modeMismatchCleared (a0 : LaneId) : Statement (.modeMismatchCleared a0) := of_none rfl
theorem selectorMismatchDeclared (a0 : LaneId) : Statement (.selectorMismatchDeclared a0) := of_none rfl
theorem selectorMismatchCleared (a0 : LaneId) : Statement (.selectorMismatchCleared a0) := of_none rfl
theorem circuitWtrTick : Statement .circuitWtrTick := of_none rfl
theorem circuitWtrExpiry (a0 : Fin 262144) : Statement (.circuitWtrExpiry a0) := of_none rfl
theorem circuitCommandNone (a0 : Rq) (a1 : Nat) : Statement (.circuitCommandNone a0 a1) := of_some rfl fun h => of_rq (of_and h)
theorem circuitLockout (a0 : Rq) (a1 : Nat) : Statement (.circuitLockout a0 a1) := of_some rfl fun h => of_rq (of_and h)
theorem circuitForced (a0 : Rq) (a1 : Nat) : Statement (.circuitForced a0 a1) := of_some rfl fun h => of_rq (of_and h)
theorem circuitManual (a0 : Rq) (a1 : Nat) : Statement (.circuitManual a0 a1) := of_some rfl fun h => of_rq (of_and h)
theorem circuitRevertiveWrite (a0 : Rq) (a1 : Nat) (a2 : Nat) : Statement (.circuitRevertiveWrite a0 a1 a2) := of_some rfl fun h => of_rq (of_and (of_and h))
theorem selectorWriteBack : Statement .selectorWriteBack := of_none rfl
theorem perFrameLeaseState (a0 : EngId) : Statement (.perFrameLeaseState a0) := of_none rfl
theorem wakeComplete (a0 : EngId) (a1 : WakeResult) : Statement (.wakeComplete a0 a1) := of_none rfl
theorem renewal (a0 : EngId) (a1 : Nat) : Statement (.renewal a0 a1) := of_none rfl
theorem claim (a0 : EngId) (a1 : Nat) : Statement (.claim a0 a1) := of_none rfl
theorem leaseExpiry : Statement .leaseExpiry := of_none rfl
theorem admission : Statement .admission := of_none rfl
theorem tallyComparison (a0 : Option (BitVec 32)) (a1 : BitVec 32) (a2 : Bool) : Statement (.tallyComparison a0 a1 a2) := of_none rfl
theorem coreRailFault (a0 : EngId) : Statement (.coreRailFault a0) := of_none rfl
theorem islandRailLoss (a0 : EngId) : Statement (.islandRailLoss a0) := of_none rfl
theorem refreshDue : Statement .refreshDue := of_none rfl
theorem refreshCheckpoint (a0 : Rq) (a1 : Byte) : Statement (.refreshCheckpoint a0 a1) := of_some rfl fun h => of_rq h
theorem refreshComplete (a0 : EngId) (a1 : RefreshObs) : Statement (.refreshComplete a0 a1) := of_none rfl
theorem heartbeat (a0 : EngId) : Statement (.heartbeat a0) := of_none rfl
theorem heartbeatLost (a0 : EngId) : Statement (.heartbeatLost a0) := of_none rfl
theorem manualSwitch (a0 : Rq) (a1 : Byte) : Statement (.manualSwitch a0 a1) := of_some rfl fun h => of_rq h
theorem handover : Statement .handover := of_none rfl
theorem automaticRestart (a0 : EngId) : Statement (.automaticRestart a0) := of_none rfl
theorem restartEngine (a0 : Rq) (a1 : Nat) : Statement (.restartEngine a0 a1) := of_some rfl fun h => of_rq (of_and h)
theorem restartMarchComplete (a0 : EngId) (a1 : List (Fin 640)) : Statement (.restartMarchComplete a0 a1) := of_none rfl
theorem tallyRevocationWrite (a0 : Rq) : Statement (.tallyRevocationWrite a0) := of_some rfl fun h => of_rq h
theorem referenceEdgeMissing (a0 : RefId) : Statement (.referenceEdgeMissing a0) := of_none rfl
theorem frequencyMeasurement (a0 : RefId) (a1 : Int) : Statement (.frequencyMeasurement a0 a1) := of_none rfl
theorem hardLimitExceeded (a0 : RefId) : Statement (.hardLimitExceeded a0) := of_none rfl
theorem softLimitFlag (a0 : RefId) : Statement (.softLimitFlag a0) := of_none rfl
theorem referenceWtrExpiry (a0 : RefId) : Statement (.referenceWtrExpiry a0) := of_none rfl
theorem referenceSelection : Statement .referenceSelection := of_none rfl
theorem disagreementSet (a0 : RefId) (a1 : RefId) : Statement (.disagreementSet a0 a1) := of_none rfl
theorem disagreementCleared (a0 : RefId) (a1 : RefId) : Statement (.disagreementCleared a0 a1) := of_none rfl
theorem selectClear (a0 : Rq) (a1 : Nat) : Statement (.selectClear a0 a1) := of_some rfl fun h => of_rq (of_and h)
theorem selectForced (a0 : Rq) (a1 : Nat) : Statement (.selectForced a0 a1) := of_some rfl fun h => of_rq (of_and h)
theorem selectManual (a0 : Rq) (a1 : Nat) : Statement (.selectManual a0 a1) := of_some rfl fun h => of_rq (of_and h)
theorem selectHoldover (a0 : Rq) (a1 : Nat) : Statement (.selectHoldover a0 a1) := of_some rfl fun h => of_rq (of_and h)
theorem selectFreeRun (a0 : Rq) (a1 : Nat) : Statement (.selectFreeRun a0 a1) := of_some rfl fun h => of_rq (of_and h)
theorem governorLocked (a0 : GovId) : Statement (.governorLocked a0) := of_none rfl
theorem noLockTimeout : Statement .noLockTimeout := of_none rfl
theorem historyEntry (a0 : GovId) (a1 : Int) : Statement (.historyEntry a0 a1) := of_none rfl
theorem calibrationUpdate (a0 : Int) : Statement (.calibrationUpdate a0) := of_none rfl
theorem ocxoWarm : Statement .ocxoWarm := of_none rfl
theorem ssmOptionWrite (a0 : Rq) (a1 : Nat) : Statement (.ssmOptionWrite a0 a1) := of_some rfl fun h => of_rq (of_and h)
theorem realignFramePhase (a0 : Rq) (a1 : Byte) : Statement (.realignFramePhase a0 a1) := of_some rfl fun h => of_rq h
theorem realignment (a0 : List LanePhase) : Statement (.realignment a0) := of_none rfl
theorem ppsInEdge : Statement .ppsInEdge := of_none rfl
theorem todMessage (a0 : Bytes) : Statement (.todMessage a0) := of_none rfl
theorem todOut : Statement .todOut := of_none rfl
theorem delayReqInterval : Statement .delayReqInterval := of_none rfl
theorem sourceLost : Statement .sourceLost := of_none rfl
theorem permitStep (a0 : Rq) : Statement (.permitStep a0) := of_some rfl fun h => of_rq h
theorem permitSlew (a0 : Rq) : Statement (.permitSlew a0) := of_some rfl fun h => of_rq h
theorem timeSourceWrite (a0 : Rq) (a1 : Nat) : Statement (.timeSourceWrite a0 a1) := of_some rfl fun h => of_rq (of_and h)
theorem ptpSourceLaneWrite (a0 : Rq) (a1 : Nat) : Statement (.ptpSourceLaneWrite a0 a1) := of_some rfl fun h => of_rq (of_and h)
theorem armOneShot (a0 : Rq) (a1 : Nat) (a2 : TrigRec) : Statement (.armOneShot a0 a1 a2) := of_some rfl fun h => of_rq (of_and (of_and h))
theorem armPeriodic (a0 : Rq) (a1 : Nat) (a2 : TrigRec) : Statement (.armPeriodic a0 a1 a2) := of_some rfl fun h => of_rq (of_and (of_and h))
theorem disarmTrigger (a0 : Rq) (a1 : Nat) (a2 : Byte) : Statement (.disarmTrigger a0 a1 a2) := of_some rfl fun h => of_rq (of_and h)
theorem triggerFire (a0 : TrigId) : Statement (.triggerFire a0) := of_none rfl
theorem triggerPulseEnd (a0 : TrigId) : Statement (.triggerPulseEnd a0) := of_none rfl
theorem transmitStreamWrite (a0 : Rq) (a1 : Nat) (a2 : Bytes) : Statement (.transmitStreamWrite a0 a1 a2) := of_some rfl fun h => of_rq (of_and (of_and h))
theorem receiveStreamWrite (a0 : Rq) (a1 : Nat) (a2 : Bytes) : Statement (.receiveStreamWrite a0 a1 a2) := of_some rfl fun h => of_rq (of_and (of_and h))
theorem installKey (a0 : Rq) (a1 : Nat) (a2 : Bytes) (a3 : Nat) : Statement (.installKey a0 a1 a2 a3) := of_some rfl fun h => of_rq (of_and (of_and (of_and h)))
theorem keySwitch (a0 : Fin 16384) : Statement (.keySwitch a0) := of_none rfl
theorem erasePendingKey (a0 : Rq) (a1 : Nat) : Statement (.erasePendingKey a0 a1) := of_some rfl fun h => of_rq (of_and h)
theorem eraseSlotKey (a0 : Rq) (a1 : Nat) : Statement (.eraseSlotKey a0 a1) := of_some rfl fun h => of_rq (of_and h)
theorem eraseAllKeys (a0 : Rq) (a1 : Byte) : Statement (.eraseAllKeys a0 a1) := of_some rfl fun h => of_rq h
theorem installKwk (a0 : Rq) (a1 : KwkCipher) : Statement (.installKwk a0 a1) := of_some rfl fun h => of_rq (of_and h)
theorem installChannelKey (a0 : Rq) (a1 : Nat) (a2 : Bytes) : Statement (.installChannelKey a0 a1 a2) := of_some rfl fun h => of_rq (of_and (of_and h))
theorem sendMessage (a0 : Rq) (a1 : Nat) (a2 : Bytes) : Statement (.sendMessage a0 a1 a2) := of_some rfl fun h => of_rq (of_and (of_and h))
theorem tamperDetected (a0 : TamperInput) : Statement (.tamperDetected a0) := of_none rfl
theorem temperatureSample (a0 : Temps) : Statement (.temperatureSample a0) := of_none rfl
theorem voltageExcursion (a0 : Rail) : Statement (.voltageExcursion a0) := of_none rfl
theorem glitchDetected (a0 : GlitchKind) : Statement (.glitchDetected a0) := of_none rfl
theorem clearTamper (a0 : Rq) (a1 : Byte) : Statement (.clearTamper a0 a1) := of_some rfl fun h => of_rq h
theorem authCountDecay : Statement .authCountDecay := of_none rfl
theorem secondBoundary : Statement .secondBoundary := of_none rfl
theorem secondClassify (a0 : Entity) : Statement (.secondClassify a0) := of_none rfl
theorem secondCommit : Statement .secondCommit := of_none rfl
theorem wheelDrain (a0 : WheelId) : Statement (.wheelDrain a0) := of_none rfl
theorem clearCounters (a0 : Rq) (a1 : Nat) (a2 : Nat) : Statement (.clearCounters a0 a1 a2) := of_some rfl fun h => of_rq (of_and (of_and h))
theorem cogWatchdogExpiry (a0 : CogId) : Statement (.cogWatchdogExpiry a0) := of_none rfl
theorem cogFault (a0 : CogId) (a1 : CogFaultKind) : Statement (.cogFault a0 a1) := of_none rfl
theorem cogReloaded (a0 : CogId) : Statement (.cogReloaded a0) := of_none rfl
theorem mapAuditPass (a0 : List Nat) (a1 : Nat) : Statement (.mapAuditPass a0 a1) := of_none rfl
theorem matrixTimeout (a0 : MasterId) (a1 : TargetId) : Statement (.matrixTimeout a0 a1) := of_none rfl
theorem masterReset (a0 : MasterId) (a1 : ResetObs) : Statement (.masterReset a0 a1) := of_none rfl
theorem marchSlice (a0 : BankId) (a1 : Fin 64) (a2 : SliceResult) : Statement (.marchSlice a0 a1 a2) := of_none rfl
theorem sliceResume : Statement .sliceResume := of_none rfl
theorem marchPassDue : Statement .marchPassDue := of_none rfl
theorem startMarchPass (a0 : Rq) (a1 : Byte) : Statement (.startMarchPass a0 a1) := of_some rfl fun h => of_rq h
theorem bandwidthWindowEnd (a0 : List PortCounts) : Statement (.bandwidthWindowEnd a0) := of_none rfl
theorem bandwidthWindowWrite (a0 : Rq) (a1 : Nat) : Statement (.bandwidthWindowWrite a0 a1) := of_some rfl fun h => of_rq (of_and h)
theorem enrolCertificate (a0 : Rq) (a1 : Bytes) : Statement (.enrolCertificate a0 a1) := of_some rfl fun h => of_rq (of_and h)
theorem revokeCertificate (a0 : Rq) (a1 : Nat) : Statement (.revokeCertificate a0 a1) := of_some rfl fun h => of_rq (of_and h)
theorem makerAccessWrite (a0 : Rq) (a1 : Byte) : Statement (.makerAccessWrite a0 a1) := of_some rfl fun h => of_rq h
theorem auditFlush (a0 : Bool) : Statement (.auditFlush a0) := of_none rfl
theorem markRead (a0 : Rq) (a1 : Nat) : Statement (.markRead a0 a1) := of_some rfl fun h => of_rq (of_and h)
theorem startTrial (a0 : Rq) (a1 : Nat) : Statement (.startTrial a0 a1) := of_some rfl fun h => of_rq (of_and h)
theorem confirmImage (a0 : Rq) (a1 : Byte) : Statement (.confirmImage a0 a1) := of_some rfl fun h => of_rq h
theorem enterRecovery (a0 : Rq) (a1 : Byte) : Statement (.enterRecovery a0 a1) := of_some rfl fun h => of_rq h
theorem attestationNonce (a0 : Rq) (a1 : Bytes) : Statement (.attestationNonce a0 a1) := of_some rfl fun h => of_rq (of_and h)
theorem attestationReportReady (a0 : Nat) : Statement (.attestationReportReady a0) := of_some rfl fun h => of_fits h
theorem flashEraseComplete (a0 : Fin 14) (a1 : Bool) : Statement (.flashEraseComplete a0 a1) := of_none rfl
theorem feedValid (a0 : FeedId) (a1 : Volts) (a2 : BootObs) : Statement (.feedValid a0 a1 a2) := of_none rfl
theorem feedInvalid (a0 : FeedId) (a1 : Volts) : Statement (.feedInvalid a0 a1) := of_none rfl
theorem keepPresent : Statement .keepPresent := of_none rfl
theorem keepLost : Statement .keepLost := of_none rfl
theorem hotSwapTrip (a0 : FeedId) : Statement (.hotSwapTrip a0) := of_none rfl
theorem hotSwapRetry (a0 : FeedId) : Statement (.hotSwapRetry a0) := of_none rfl
theorem holdUpCharged : Statement .holdUpCharged := of_none rfl
theorem seated (a0 : BootObs) : Statement (.seated a0) := of_none rfl
theorem presentLost (a0 : Fin 2) : Statement (.presentLost a0) := of_none rfl
theorem resetAssert : Statement .resetAssert := of_none rfl
theorem resetRelease (a0 : BootObs) : Statement (.resetRelease a0) := of_none rfl
theorem startupRetry (a0 : BootObs) : Statement (.startupRetry a0) := of_none rfl
theorem startupComplete : Statement .startupComplete := of_none rfl
theorem mapCheckpointStart : Statement .mapCheckpointStart := of_none rfl
theorem mapCheckpointComplete (a0 : Bool) : Statement (.mapCheckpointComplete a0) := of_none rfl
theorem eraseBudgetUnit : Statement .eraseBudgetUnit := of_none rfl
theorem restoreDefaults (a0 : Rq) (a1 : Byte) : Statement (.restoreDefaults a0 a1) := of_some rfl fun h => of_rq h
theorem powerFail : Statement .powerFail := of_none rfl
theorem referenceActivityRestored (a0 : RefId) : Statement (.referenceActivityRestored a0) := of_none rfl
theorem tamperConditionEnded (a0 : TamperInput) : Statement (.tamperConditionEnded a0) := of_none rfl
theorem voltageConditionEnded (a0 : Rail) : Statement (.voltageConditionEnded a0) := of_none rfl
theorem macAddressAgeing (a0 : Nat) : Statement (.macAddressAgeing a0) := of_none rfl
theorem mgtLinkChange (a0 : Fin 2) (a1 : Bool) : Statement (.mgtLinkChange a0 a1) := of_none rfl
theorem keptResponseExpiry (a0 : Nat) (a1 : Nat) : Statement (.keptResponseExpiry a0 a1) := of_some rfl fun h => of_fits (of_and h)
theorem overheadQueueFault (a0 : LaneId) : Statement (.overheadQueueFault a0) := of_none rfl
theorem scratchpadEccUncorrectable (a0 : BankId) (a1 : ScratchUse) : Statement (.scratchpadEccUncorrectable a0 a1) := of_none rfl
theorem slewComplete : Statement .slewComplete := of_none rfl

end Sys2Proof.Laws.Bounded
end

