-- ==== Sys2Proof/Laws/Request.lean ====
section
/-! SUPPORT. The course of a request that is taken up, and of a write that passes its checks. -/

namespace Sys2Proof.Machine

@[simp] theorem State.heard_frame (s : State) (i : Nat) :
    (s.heard i).pending = s.pending ∧ (s.heard i).now = s.now ∧ (s.heard i).out = s.out ∧ (s.heard i).power = s.power ∧
    (s.heard i).sup = s.sup ∧ (s.heard i).store = s.store ∧ (s.heard i).persist = s.persist ∧ (s.heard i).cnt = s.cnt ∧
    (s.heard i).restarted = s.restarted ∧ (s.heard i).lanes = s.lanes ∧ (s.heard i).ports = s.ports ∧ (s.heard i).fab = s.fab ∧
    (s.heard i).edit = s.edit ∧ (s.heard i).prot = s.prot ∧ (s.heard i).ending = s.ending ∧ (s.heard i).engA = s.engA ∧ (s.heard i).engB = s.engB ∧
    (s.heard i).lease = s.lease ∧ (s.heard i).tim = s.tim ∧ (s.heard i).tod = s.tod ∧ (s.heard i).sealing = s.sealing ∧
    (s.heard i).pm = s.pm ∧ (s.heard i).sec = s.sec ∧ (s.heard i).fresh = s.fresh := by
  simp only [State.heard, State.modSession_frame, and_self]

@[simp] theorem State.heard_reads (s : State) (i : Nat) :
    (∀ k, (s.heard i).lane k = s.lane k) ∧ (∀ a b c, (s.heard i).val a b c = s.val a b c) ∧ (∀ a b c, (s.heard i).cfg a b c = s.cfg a b c) ∧
    (∀ a b c d, (s.heard i).cfgF a b c d = s.cfgF a b c d) ∧ (s.heard i).portUp = s.portUp ∧ (∀ l, (s.heard i).enabled l = s.enabled l) ∧
    (∀ e, (s.heard i).engine e = s.engine e) ∧ (∀ a b c d, (s.heard i).ctr a b c d = s.ctr a b c d) := by
  simp [State.heard]

theorem find_tins (t : Tab Session) (n m : Nat) (a : Session) :
    ((tins t n a).find? fun e => e.1 == m).map Prod.snd = if m = n then some a else (t.find? fun e => e.1 == m).map Prod.snd := by
  by_cases hm : m = n
  · subst hm
    induction t with
    | nil => simp [tins]
    | cons e t ih =>
      obtain ⟨k, v⟩ := e
      simp only [tins]
      split
      · simp
      · split
        · simp
        · rename_i h
          have hk : (k == m) = false := by simpa using fun h' => h h'.symm
          simpa [List.find?_cons, hk] using ih
  · have hn : (n == m) = false := by simpa using fun h => hm h.symm
    simp only [hm, if_false]
    induction t with
    | nil => simp [tins, hn]
    | cons e t ih =>
      obtain ⟨k, v⟩ := e
      simp only [tins]
      split
      · simp [hn]
      · split
        · subst_vars; simp [hn]
        · simp only [List.find?_cons]
          cases hk : (k == m)
          · exact ih
          · rfl

/-- The session that a change leaves (14 R354). -/
theorem State.session_mod (s : State) (i j : Nat) (f : Session → Session) (x : Session) (h : s.session? i = some x) (hf : f x ≠ {}) :
    (s.modSession i f).session? j = if j = i then some (f x) else s.session? j := by
  have hx : tget ({} : Session) s.mgmt.sessions i = x := by
    simp only [State.session?] at h
    revert h
    generalize s.mgmt.sessions = t
    intro h
    induction t with
    | nil => simp at h
    | cons e t ih =>
      obtain ⟨k, v⟩ := e
      simp only [List.find?_cons] at h
      by_cases hk : k = i
      · simp_all [tget]
      · have hb : (k == i) = false := by simpa using hk
        have hk' : ¬ i = k := fun h => hk h.symm
        rw [hb] at h
        simp only [tget, hk', if_false]
        exact ih h
  rw [State.modSession, h]
  simp only [Option.isSome_some, if_true, State.session?, tmod, hx, tput, hf, if_false]
  exact find_tins _ _ _ _

/-! The answer. -/

/-- The state with the response of a request kept, sent and numbered (14 R358). -/
def State.answered (s : State) (op : Nat) (q : Req) (a : Ans) : State :=
  ({ s with mgmt.kept := s.mgmt.kept ++ [(⟨q.session, op, q, respOf op q a, s.now⟩ : Kept)] } : State).sendSecure q.session
    (.response q.session (respOf op q a)) (respOf op q a)

/-- The session that a SECURE message leaves, and what goes out with it (14 R354). -/
theorem State.sendSecure_session (s : State) (i : Nat) (o : Output) (r : Resp) (x : Session) (h : s.session? i = some x) (hr : x.role ≠ 0) :
    (s.sendSecure i o r).session? i = some { x with sendSeq := x.sendSeq + 1 } ∧
    (s.sendSecure i o r).out = s.out ++ [o, .secure i x.sendSeq (secureMessage x.key i x.sendSeq r.bytes)] := by
  have h' : (s.cipherJob r.bytes.length).session? i = some x := by simpa using h
  constructor
  · simp only [State.sendSecure, h, State.emit_reads]
    rw [State.sentTo, State.session_mod _ _ _ _ _ h' (fun hc => hr (congrArg Session.role hc)), if_pos rfl]
  · simp [State.sendSecure, h, State.emit, State.sentTo]

theorem State.respond_eq (s : State) (op : Nat) (q : Req) (a : Ans) (x : Session) (h : s.session? q.session = some x)
    (hr : x.role ≠ 0) (h1 : x.sendSeq + 1 < 281474976710656) (h2 : x.recvMax < 281474976710656) :
    s.respond op q a = s.answered op q a := by
  have h0 : ({ s with mgmt.kept := s.mgmt.kept ++ [(⟨q.session, op, q, respOf op q a, s.now⟩ : Kept)] } : State).session? q.session = some x := h
  have hs : (s.answered op q a).session? q.session = some { x with sendSeq := x.sendSeq + 1 } := by
    exact (State.sendSecure_session _ _ _ _ x h0 hr).1
  have hn : ¬ (281474976710656 ≤ x.sendSeq + 1 ∨ 281474976710656 ≤ x.recvMax) := by omega
  simp only [State.respond, h, Option.isSome_some, if_true]
  show State.seqLimit (s.answered op q a) q.session = _
  unfold State.seqLimit
  rw [hs]
  simp only [hn, if_false]

theorem State.answered_out (s : State) (op : Nat) (q : Req) (a : Ans) (x : Session) (h : s.session? q.session = some x) (hr : x.role ≠ 0) :
    (s.answered op q a).out = s.out ++ [.response q.session (respOf op q a),
      .secure q.session x.sendSeq (secureMessage x.key q.session x.sendSeq (respOf op q a).bytes)] := by
  have h0 : ({ s with mgmt.kept := s.mgmt.kept ++ [(⟨q.session, op, q, respOf op q a, s.now⟩ : Kept)] } : State).session? q.session = some x := h
  rw [State.answered, (State.sendSecure_session _ _ _ _ x h0 hr).2]

theorem State.modSession_lessAnswers (s : State) (i : Nat) (f : Session → Session) : (s.modSession i f).lessAnswers = s.lessAnswers := by
  unfold State.modSession; split <;> rfl

theorem State.cipherJob_lessAnswers (s : State) (n : Nat) (g : Bool) : (s.cipherJob n g).lessAnswers = s.lessAnswers := by
  unfold State.cipherJob; split <;> rfl

theorem State.emit_lessAnswers (s : State) (o : Output) : (s.emit o).lessAnswers = s.lessAnswers := rfl

theorem State.sendSecure_lessAnswers (s : State) (i : Nat) (o : Output) (r : Resp) : (s.sendSecure i o r).lessAnswers = s.lessAnswers := by
  unfold State.sendSecure; split
  · rw [State.emit_lessAnswers, State.emit_lessAnswers, State.sentTo, State.modSession_lessAnswers, State.cipherJob_lessAnswers]
  · rw [State.emit_lessAnswers]

theorem State.answered_lessAnswers (s : State) (op : Nat) (q : Req) (a : Ans) : (s.answered op q a).lessAnswers = s.lessAnswers := by
  rw [State.answered, State.sendSecure_lessAnswers, State.lessAnswers, State.lessAnswers]

theorem State.noteCond_lessAnswers (s : State) (c : AlarmCond) (b : Bool) : (s.noteCond c b).lessAnswers = s.lessAnswers := by
  unfold State.noteCond; repeat' split
  all_goals rfl

theorem State.audit_lessAnswers (s : State) (r : AuditRec) : (s.audit r).lessAnswers = s.lessAnswers := by
  have h (s : State) : s.auditCond.lessAnswers = s.lessAnswers := by
    simp only [State.auditCond]; repeat' split
    all_goals first | exact State.noteCond_lessAnswers .. | rfl
  simp only [State.audit]
  repeat' split
  all_goals first | (rw [h]; rfl) | rfl

@[simp] theorem State.answered_frame (s : State) (op : Nat) (q : Req) (a : Ans) :
    (s.answered op q a).persist = s.persist ∧ (s.answered op q a).lanes = s.lanes ∧ (s.answered op q a).power = s.power ∧
    (s.answered op q a).sup = s.sup ∧ (s.answered op q a).fab = s.fab ∧ (s.answered op q a).edit = s.edit ∧
    (s.answered op q a).prot = s.prot ∧ (s.answered op q a).ending = s.ending ∧ (s.answered op q a).engA = s.engA ∧ (s.answered op q a).engB = s.engB ∧
    (s.answered op q a).lease = s.lease ∧ (s.answered op q a).tim = s.tim ∧ (s.answered op q a).tod = s.tod ∧
    (s.answered op q a).sealing = s.sealing ∧ (s.answered op q a).pm = s.pm ∧ (s.answered op q a).sec = s.sec ∧
    (s.answered op q a).store = s.store ∧ (s.answered op q a).cnt = s.cnt ∧ (s.answered op q a).ports = s.ports ∧
    (s.answered op q a).restarted = s.restarted ∧ (s.answered op q a).now = s.now ∧ (s.answered op q a).fresh = s.fresh := by
  simp only [State.answered, State.sendSecure_frame, and_self]

@[simp] theorem State.answered_reads (s : State) (op : Nat) (q : Req) (a : Ans) :
    (∀ k, (s.answered op q a).lane k = s.lane k) ∧ (∀ i b e, (s.answered op q a).val i b e = s.val i b e) ∧
    (∀ i b e, (s.answered op q a).cfg i b e = s.cfg i b e) ∧ (∀ i b e n, (s.answered op q a).cfgF i b e n = s.cfgF i b e n) ∧
    (s.answered op q a).portUp = s.portUp ∧ (∀ l, (s.answered op q a).enabled l = s.enabled l) ∧
    (∀ e, (s.answered op q a).engine e = s.engine e) ∧ (∀ i b f e, (s.answered op q a).ctr i b f e = s.ctr i b f e) := by
  simp [State.lane, State.val, State.cfg, State.cfgF, State.portUp, State.enabled, State.engine, State.ctr]

/-! The course. -/

theorem request_up {op : Nat} {q : Req} {x : Session} {s : State} (h : TakenUp op q x s) (hm : makerOwn op q x = false)
    (body : Session → State → Act) :
    request op q body s = match body x (s.heard q.session) with
      | .done u a post => post (u.respond op q a)
      | .refuse a => ((s.heard q.session).auditAccess op q x a).respond op q a
      | .hold u => { u with mgmt.flight := u.mgmt.flight ++ [(⟨q.session, op, q, u.now⟩ : Flight)] } := by
  obtain ⟨h1, h2, hr, h3, h4, h5, h6, h7, h8, h9⟩ := h
  have hk : (s.heard q.session).keptFor op q = none := by
    unfold State.heard State.modSession; split <;> exact h4
  have hf : (s.heard q.session).mgmt.flight = s.mgmt.flight := by
    unfold State.heard State.modSession; split <;> rfl
  have hi : (s.heard q.session).inFlight q.session = s.inFlight q.session := by simp [State.inFlight, hf]
  have hn : ¬ (32 ≤ s.inFlight q.session ∨ 512 ≤ s.mgmt.flight.length) := by omega
  unfold request
  rw [h1, h2]
  simp only
  rw [show (s.modSession q.session fun y => { y with lastAt := s.now }) = s.heard q.session from rfl]
  simp only [h3, Bool.not_true, Bool.false_eq_true, if_false, hk, hi, hf, hn, h7, hm] <;> rfl

theorem TakenUp.quiet {op : Nat} {q : Req} {x : Session} {s : State} (h : TakenUp op q x s) : TakenUp op q x s.quiet := h

theorem TakenUp.session {op : Nat} {q : Req} {x : Session} {s : State} (h : TakenUp op q x s) :
    (s.heard q.session).session? q.session = some { x with lastAt := s.now } := by
  obtain ⟨_, h2, hr, _⟩ := h
  rw [State.heard, State.session_mod _ _ _ _ _ h2 (fun hc => hr (congrArg Session.role hc)), if_pos rfl]

/-- The checks of a write do not depend on when its session was last heard. -/
theorem State.heard_writeCheck (s : State) (i : Nat) (x : Session) (h : s.session? i = some x) (hr : x.role ≠ 0) (q : Req) (r : Nat) :
    (s.heard i).writeCheck q r = s.writeCheck q r := by
  have hs (k : Nat) : ((s.heard i).session? k).isSome = (s.session? k).isSome := by
    rw [State.heard, State.session_mod _ _ _ _ _ h (fun hc => hr (congrArg Session.role hc))]
    split <;> simp_all
  have he (o : Obj) (el : Nat) : (s.heard i).elemOf o el = s.elemOf o el := by
    have hp (l : Nat) : (s.heard i).portOf l = s.portOf l := by
      have hw (k : Nat) : (s.heard i).width k = s.width k := by simp [State.width]
      simp only [State.portOf, hw]
    have hh (l : Nat) : (s.heard i).hasProt l = s.hasProt l := by simp [State.hasProt]
    unfold State.elemOf
    cases o.elems <;> simp [hs, hp, hh, State.sealElem]
  have hc (o : Obj) (el : Nat) : (s.heard i).elemCheck o el = s.elemCheck o el := by
    unfold State.elemCheck
    simp only [he]
  unfold State.writeCheck State.object? State.reachable State.lacksDies
  simp only [hc, State.heard_frame, State.heard_reads]

/-- What a passed check says of the object and the element. -/
theorem State.writeCheck_ok {s : State} {q : Req} {r : Nat} {o : Obj} (h : s.writeCheck q r = .ok o) :
    s.object? q.index q.sub = some o ∧ s.elemCheck o q.element = none ∧ mayWrite o r = true ∧ o.access.writes = true ∧
    fieldsOk o.ranges (o.split q.value) = true ∧ s.lacksDies q.index = false := by
  unfold State.writeCheck at h
  split at h
  · simp at h
  · split at h
    · simp at h
    · repeat' split at h
      all_goals simp_all

theorem State.object_find {s : State} {index sub : Nat} {o : Obj} (h : s.object? index sub = some o) (h0 : sub ≠ 0) (h1 : sub ≠ 0xFE) :
    findObj index sub = some o := by
  unfold State.object? at h
  repeat' split at h
  all_goals simp_all

/-- Every object that the manual gives lies below the maker's range (14 Table 14-19). -/
theorem findObj_below {index sub : Nat} {o : Obj} (h : findObj index sub = some o) : index < 0xF000 := by
  refine Nat.lt_of_not_le fun hc => ?_
  have hn (k : Nat) (hk : k ≤ 10) : index / 4096 ≠ k := by omega
  simp [findObj, objsAt, hn] at h

theorem makerOwn_found {op index sub : Nat} {q : Req} {o : Obj} (h : findObj index sub = some o) (hq : q.index = index) (x : Session) :
    makerOwn op q x = false := by
  have := findObj_below h
  simp only [makerOwn, decide_eq_false_iff_not]
  omega

theorem Writes.check {rq : Rq} {index sub el : Nat} {v : Bytes} {x : Session} {o : Obj} {s : State} (h : Writes rq index sub el v x s)
    (ho : findObj index sub = some o) (h0 : sub ≠ 0) (h1 : sub ≠ 0xFE) : s.writeCheck (writeReq rq index sub el v) x.role = .ok o := by
  obtain ⟨_, ⟨o', hc⟩, _⟩ := h
  have := State.object_find (State.writeCheck_ok hc).1 h0 h1
  have he : o = o' := Option.some.inj (ho.symm.trans this)
  rw [he, hc]

/-- A write that passes its checks, and whose own effect applies, is recorded and answered OK (14 R364; 15 R394). -/
theorem writeOf_done {rq : Rq} {index sub el : Nat} {v : Bytes} {x : Session} {o : Obj} {s : State} (h : Writes rq index sub el v x s)
    (ho : findObj index sub = some o) (h0 : sub ≠ 0) (h1 : sub ≠ 0xFE) (hq : ¬ (index = 0x5E10 ∧ sub = 3))
    {eff : Session → List Nat → State → Act} {u : State} {a : Ans} {post : State → State}
    (he : eff x (o.split v) (s.heard rq.session) = .done u a post) (ha : a.status = 0) :
    writeOf rq index sub el v eff s =
      post ((u.audit (writeRec (s.heard rq.session) (writeReq rq index sub el v) x o (if withheld index sub then a.offset else a.detail))).respond
        2 (writeReq rq index sub el v) { a with offset := 0 }) := by
  have hc := h.check ho h0 h1
  obtain ⟨ht, _, hb⟩ := h
  rw [writeOf, request_up ht (makerOwn_found ho rfl x)]
  have hc' : (s.heard (writeReq rq index sub el v).session).writeCheck (writeReq rq index sub el v) x.role = .ok o := by
    rw [State.heard_writeCheck s _ x ht.2.1 ht.2.2.1]; exact hc
  have hv : (writeReq rq index sub el v).value = v := rfl
  have hb' : ¬ 256 ≤ (s.heard (writeReq rq index sub el v).session).sec.buffer.length := by simp; omega
  have he' : eff x (o.split v) (s.heard (writeReq rq index sub el v).session) = .done u a post := he
  simp only [writeBody, hc', hv, he', audited]
  have h1 : ¬ ((writeReq rq index sub el v).index = 24080 ∧ (writeReq rq index sub el v).sub = 3 ∨ a.status ≠ stOk) := by
    simp [ha]; exact fun h1 h2 => hq ⟨h1, h2⟩
  simp only [h1, if_false, hb']
  rfl

/-- A write whose effect leaves the management part alone is answered with OK, and the answer changes what answers change. -/
theorem writeOf_ok {rq : Rq} {index sub el : Nat} {v : Bytes} {x : Session} {o : Obj} {s : State} (h : Writes rq index sub el v x s)
    (ho : findObj index sub = some o) (h0 : sub ≠ 0) (h1 : sub ≠ 0xFE) (hq : ¬ (index = 0x5E10 ∧ sub = 3))
    {eff : Session → List Nat → State → Act} {u : State} {a : Ans} {post : State → State}
    (he : eff x (o.split v) (s.heard rq.session) = .done u a post) (ha : a.status = 0) (hm : u.mgmt = (s.heard rq.session).mgmt) :
    writeOf rq index sub el v eff s =
      post ((u.audit (writeRec (s.heard rq.session) (writeReq rq index sub el v) x o (if withheld index sub then a.offset else a.detail))).answered
        2 (writeReq rq index sub el v) { a with offset := 0 }) := by
  rw [writeOf_done h ho h0 h1 hq he ha]
  obtain ⟨ht, _, _⟩ := h
  congr 1
  refine State.respond_eq _ _ _ _ { x with lastAt := s.now } ?_ ht.2.2.1 ?_ ?_
  · simp only [State.audit_reads]
    rw [State.session?, hm]
    exact ht.session
  · exact ht.2.2.2.2.2.2.2.2.1
  · exact ht.2.2.2.2.2.2.2.2.2

/-- A write that its own checks refuse is answered with that refusal. -/
theorem writeOf_refused {rq : Rq} {index sub el : Nat} {v : Bytes} {x : Session} {o : Obj} {s : State} (h : Writes rq index sub el v x s)
    (ho : findObj index sub = some o) (h0 : sub ≠ 0) (h1 : sub ≠ 0xFE)
    {eff : Session → List Nat → State → Act} {a : Ans} (he : eff x (o.split v) (s.heard rq.session) = .refuse a) :
    writeOf rq index sub el v eff s =
      ((s.heard rq.session).auditAccess 2 (writeReq rq index sub el v) x a).respond 2 (writeReq rq index sub el v) a := by
  have hc := h.check ho h0 h1
  obtain ⟨ht, _, hb⟩ := h
  rw [writeOf, request_up ht (makerOwn_found ho rfl x)]
  have hc' : (s.heard (writeReq rq index sub el v).session).writeCheck (writeReq rq index sub el v) x.role = .ok o := by
    rw [State.heard_writeCheck s _ x ht.2.1 ht.2.2.1]; exact hc
  have he' : eff x (o.split (writeReq rq index sub el v).value) (s.heard (writeReq rq index sub el v).session) = .refuse a := he
  simp only [writeBody, hc', he', audited]
  rfl

end Sys2Proof.Machine
end

