-- ==== Sys2Proof/Tests/Slice0.lean ====
section
/-! SUPPORT. Tests: ill-formed commands are refused, and for every statement a concrete state and operands that meet each clause's hypotheses,
with what the command then leaves. -/

namespace Sys2Proof.Tests
open Sys2Proof Sys2Proof.Machine

/-! The theorems are checked one after another: checked at once, each would hold a thread and its stack. -/
set_option Elab.async false

/-- Whether a request is taken up, as a computation. -/
def upOk (op : Nat) (q : Req) (x : Session) (s : State) : Bool :=
  s.serves && decide (s.session? q.session = some x) && decide (x.role ≠ 0) && step1 op q && decide (s.keptFor op q = none)
    && decide (s.inFlight q.session < 32 ∧ s.mgmt.flight.length < 512) && !(s.mgmt.flight.any fun f => f.session == q.session && f.req.tag == q.tag)
    && decide (x.sendSeq + 1 < 281474976710656 ∧ x.recvMax < 281474976710656)

/-- Whether a WRITE is taken up and passes the checks of every WRITE. -/
def wOk (rq : Rq) (index sub el : Nat) (v : Bytes) (x : Session) (s : State) : Bool :=
  upOk 2 (writeReq rq index sub el v) x s && (match s.writeCheck (writeReq rq index sub el v) x.role with | .ok _ => true | .error _ => false)
    && decide (s.sec.buffer.length < 256)

theorem takenUp_of {op : Nat} {q : Req} {x : Session} {s : State} (h : upOk op q x s = true) : TakenUp op q x s := by
  simp only [upOk, Bool.and_eq_true, decide_eq_true_eq, Bool.not_eq_true'] at h
  exact ⟨h.1.1.1.1.1.1.1, h.1.1.1.1.1.1.2, h.1.1.1.1.1.2, h.1.1.1.1.2, h.1.1.1.2, h.1.1.2.1, h.1.1.2.2, h.1.2, h.2.1, h.2.2⟩

theorem writes_of {rq : Rq} {index sub el : Nat} {v : Bytes} {x : Session} {s : State} (h : wOk rq index sub el v x s = true) :
    Writes rq index sub el v x s := by
  simp only [wOk, Bool.and_eq_true, decide_eq_true_eq] at h
  refine ⟨takenUp_of h.1.1, ?_, h.2⟩
  have h2 := h.1.2
  split at h2
  · exact ⟨_, ‹_›⟩
  · cases h2

/-- What a command leaves, seen through a computation. -/
def after (o : Out) (p : State → Bool) : Bool :=
  match o with
  | .next t => p t
  | _ => false

/-- A maker's session. -/
def mk : Session := { role := 3, cert := 7, addr := 1, port := 2, sendSeq := 1 }

/-- A module in service with one open session. -/
def base : State :=
  { State.reset with
    power.seated := true, power.supRail := true, power.portRail := true, power.resetN := true, power.step := 9, sup.up := true, sup.state := 1
    mgmt.sessions := [(1, mk)], now := 10000000000000 }

/-- The session and tag of the tests' requests. -/
def rq : Rq := ⟨1, 5⟩

/-- A request record of that session. -/
def rec_ (index sub el length : Nat) (value : Bytes := []) (offset total : Nat := 0) : Req := ⟨1, 5, 0, index, sub, 0, el, length, offset, total, value⟩

/-- The base state with lane 0 enabled and changed. -/
def lane0 (f : Lane → Lane) : State := (base.setVal 0x2000 1 0 [1]).modLane 0 f

/-- Lane 0 in a stage, since a time long ago. -/
def staged (n : Nat) : State := lane0 fun x => { x with bring.stage := n, bring.sd := true, bring.cdr := true }

/-- Its answer, as a status. -/
def answers (t : State) : List Nat := t.out.filterMap fun o => match o with | .response _ r => some r.status | _ => none

theorem wit_SignalCommandsMoveTheLane :
    ((lane0 id).listens 0 = true ∧ ((lane0 id).lane 0).bring.sd = false ∧
      after (exec (.signalDetectAssert 0) (lane0 id)) (fun t => (t.lane 0).bring.sd && (t.lane 0).bring.sdRun == base.now) = true) ∧
    ((staged 4).listens 0 = true ∧ ((staged 4).lane 0).bring.sd = true ∧
      after (exec (.signalDetectDeassert 0) (staged 4)) (fun t => (t.lane 0).bring.stage == 1 && (t.lane 0).bring.holdSince == some base.now) = true) ∧
    ((staged 1).listens 0 = true ∧ (staged 1).over ((staged 1).lane 0).bring.sdRun 100000 = true ∧
      after (exec (.signalDetectStable 0) (staged 1)) (fun t => (t.lane 0).bring.stage == 2) = true) ∧
    ((staged 2).enabled 0 = true ∧ after (exec (.cdrLockStable 0) (staged 2)) (fun t => (t.lane 0).bring.stage == 3) = true) ∧
    ((staged 2).over ((staged 2).lane 0).bring.stageSince 10000000 = true ∧
      after (exec (.cdrLockTimeout 0) (staged 2)) (fun t => (t.lane 0).bring.stage == 1 && t.ctr 0x2030 5 0 0 == 1) = true) ∧
    (after (exec (.cdrLockLost 0) (staged 3)) (fun t => (t.lane 0).bring.stage == 1) = true ∧
      after (exec (.cdrLockLost 0) (staged 9)) (fun t => (t.lane 0).bring.stage == 2) = true) ∧
    (let s := lane0 fun x => { x with bring.stage := 2, bring.sd := true, bring.holdSince := some 7 };
      s.listens 0 = true ∧ (s.lane 0).bring.holdSince.isSome = true ∧
      after (exec (.signalDetectDeassert 0) s) (fun t => (t.lane 0).bring.stage == 1 && (t.lane 0).bring.holdSince == some 7) = true ∧
      after (exec (.cdrLockStable 0) s) (fun t => (t.lane 0).bring.stage == 4) = true) ∧
    (let s := (staged 2).setVal 0x2000 2 0 [1];
      s.fixedMode 0 = true ∧ after (exec (.cdrLockStable 0) s) (fun t => (t.lane 0).bring.stage == 4) = true) ∧
    (let s := (staged 4).setVal 0x2000 8 0 [2];
      s.loopback 0 = 2 ∧ after (exec (.cdrLockLost 0) s) (fun t => t.lanes == s.lanes) = true ∧ (staged 3).loopback 0 ≠ 2) := by decide +kernel

theorem wit_LaneTimersExpire :
    ((lane0 id).listens 0 = true ∧ ((lane0 id).lane 0).bring.sd = false ∧ ((lane0 id).lane 0).d.los = false ∧ (lane0 id).over ((lane0 id).lane 0).bring.sdSince 10000 = true ∧
      after (exec (.losDeclared 0) (lane0 id)) (fun t => (t.lane 0).d.los) = true) ∧
    (let s := lane0 fun x => { x with d.los := true, bring.sd := true };
      (s.lane 0).d.los = true ∧ (s.lane 0).bring.sd = true ∧ s.over (s.lane 0).bring.sdSince 100000 = true ∧ after (exec (.losCleared 0) s) (fun t => !(t.lane 0).d.los) = true) ∧
    (let s := lane0 fun x => { x with d.slip := true };
      s.over (s.lane 0).d.slipAt 10000000000 = true ∧ after (exec (.slipCleared 0) s) (fun t => !(t.lane 0).d.slip) = true) ∧
    ((staged 4).enabled 0 = true ∧ (staged 4).over ((staged 4).lane 0).bring.stageSince 5000000 = true ∧
      after (exec (.blockLockTimeout 0) (staged 4)) (fun t => (t.lane 0).bring.stage == 1 && t.ctr 0x2030 1 0 0 == 1) = true) ∧
    ((staged 4).enabled 0 = true ∧ ((staged 4).lane 0).bring.holdSince = none) ∧
    (let s := lane0 fun x => { x with bring.stage := 4, bring.holdSince := some 0 };
      s.enabled 0 = true ∧ s.over 0 (s.cfg 0x2000 6 0 * 1000000) = true ∧ after (exec (.restartHoldExpiry 0) s) (fun t => (t.lane 0).bring.stage == 1 && t.ctr 0x2030 1 0 0 == 1) = true) ∧
    (let s := lane0 fun x => { x with bring.stage := 9, bring.txMode := .zasyn, tr.rtrSince := some 0 };
      s.enabled 0 = true ∧ (s.lane 0).tr.rtrSince = some 0 ∧ s.over 0 1000000 = true ∧ after (exec (.rtrPeriodEnd 0) s) (fun t => (t.lane 0).bring.stage == 1 && t.ctr 0x2030 1 0 0 == 1) = true) := by decide +kernel

/-- A training message that asks for nothing: 0x51, six bytes, and their CRC-8 (03 Table 3-6). -/
def msg (b : Bytes) : Bytes := [0x51] ++ b ++ beBytes 1 (crc8 ([0x51] ++ b))

/-- Its training frame's marker and message field, UI 0 in bit 0. -/
def symbols (m : Bytes) : BitVec 304 := BitVec.ofNat 304 (flagsWord (trainingHead m))

/-- An eye that is ready at its limits. -/
def eye : EyeObs := ⟨true, 30, 300⟩

theorem wit_TrainingRunsItsCourse :
    ((staged 3).listens 0 = true ∧ trainingMessageOf (symbols (msg [0, 0, 0, 9, 0, 0])) = some (msg [0, 0, 0, 9, 0, 0]) ∧
      trainingMessageOf (~~~(symbols (msg [0, 0, 0, 9, 0, 0]))) = some (msg [0, 0, 0, 9, 0, 0]) ∧
      after (exec (.trainingMessage 0 (symbols (msg [0, 0, 0, 9, 0, 0])) eye) (staged 3))
        (fun t => (t.lane 0).tr.validMsg && (t.lane 0).tr.answered == 9 && (t.lane 0).tr.rxReady) = true ∧
      after (exec (.trainingMessage 0 (symbols (msg [0, 0x40, 0, 9, 0, 0])) { eye with height := 29 }) (staged 3)) (fun t => !(t.lane 0).tr.rxReady) = true ∧
      ((staged 3).lane 0).tr.presetApplied = false ∧ bit (field (msg [2, 0, 3, 9, 0, 0]) 1 1) 1 = true ∧
      after (exec (.trainingMessage 0 (symbols (msg [2, 0, 3, 9, 0, 0])) eye) (staged 3))
        (fun t => (t.lane 0).tr.taps == (2, 12, 2) && (t.lane 0).tr.presetApplied) = true) ∧
    (let s := lane0 fun x => { x with bring.stage := 3, tr.reqSince := some 0 };
      s.over 0 1000000 = true ∧ after (exec (.responseTimeExpiry 0) s) (fun t => (t.lane 0).tr.holdFrames == 17) = true) ∧
    (let s := lane0 fun x => { x with bring.stage := 3, tr.trainSince := some 0, tr.validMsg := true };
      (s.lane 0).tr.trailSince = none ∧ s.over 0 (s.cfg 0x2000 4 0 * 1000000) = true ∧ s.enabled 0 = true ∧
      after (exec (.trainingTimerExpiry 0) s) (fun t => (t.lane 0).bring.stage == 1 && t.ctr 0x2030 2 0 0 == 1) = true) ∧
    (let s := (lane0 fun x => { x with bring.stage := 3, tr.trainSince := some 0 }).setVal 0x2000 3 0 [1];
      s.cfg 0x2000 3 0 = 1 ∧ (s.lane 0).tr.validMsg = false ∧ (s.lane 0).tr.trailSince = none ∧ s.over 0 (s.cfg 0x2000 4 0 * 1000000) = true ∧
      after (exec (.trainingTimerExpiry 0) s) (fun t => (t.lane 0).bring.stage == 4 && t.ctr 0x2030 3 0 0 == 1) = true) ∧
    (let s := lane0 fun x => { x with bring.stage := 3, tr.trailSince := some 0 };
      s.over 0 21990 = true ∧ after (exec (.trailingFramesEnd 0) s) (fun t => (t.lane 0).bring.stage == 4) = true) := by decide +kernel

theorem wit_GathersEndAndQueueFaultsAreConfined :
    (let s := (staged 8).modPort 0 fun p => { p with gather := some 0 };
      (s.port 0).gather = some 0 ∧ s.over 0 4000000 = true ∧ after (exec (.gatherEnd 0) s) (fun t => (t.port 0).gather == none) = true) ∧
    ((staged 9).enabled 0 = true ∧ after (exec (.txQueueFault 0) (staged 9)) (fun t => (t.lane 0).df.scr == BitVec.allOnes 58 && t.sec.nextSeq == (staged 9).sec.nextSeq + 1) = true) ∧
    (let s := (staged 8).modPort 0 fun p => { p with gather := some 0 };
      s.portOf 0 = 0 ∧ (s.lane 0).bring.stage = 8 ∧ s.portOf 1 ≠ 0) ∧
    (let s := lane0 fun x => { x with bring.stage := 9, df.frameLock := true };
      s.enabled 0 = true ∧ (s.lane 0).df.frameLock = true ∧ after (exec (.overheadQueueFault 0) s) (fun t => (t.lane 0).bring.stage == 5 && t.lane 1 == s.lane 1) = true) := by decide +kernel

theorem wit_LaneEnableDisableRetrain :
    base.portUp = true ∧
    (wOk rq 0x2000 1 47 (u8 1) mk base = true ∧ base.cfg 0x2000 1 47 ≠ 1 ∧
      after (exec (.laneEnable rq 47) base) (fun t => (t.lane 47).bring.stage == 1 && t.cfg 0x2000 1 47 == 1 && answers t == [0]) = true) ∧
    (wOk rq 0x2000 1 0 (u8 0) mk (staged 9) = true ∧ (staged 9).cfg 0x2000 1 0 = 1 ∧
      after (exec (.laneDisable rq 0) (staged 9)) (fun t => (t.lane 0).bring == {} && t.cfg 0x2000 1 0 == 0) = true) ∧
    (wOk rq 0x2000 9 0 [1] mk (staged 9) = true ∧ (staged 9).enabled 0 = true ∧
      (let s := lane0 fun x => { x with bring.stage := 9, bring.txMode := .zasyn };
        wOk rq 0x2000 9 0 [1] mk s = true ∧ s.enabled 0 = true ∧ after (exec (.retrain rq 0 1) s) (fun t => (t.lane 0).tr.rtrSince == some base.now) = true) ∧
      (let s := lane0 fun x => { x with bring.stage := 3, bring.txMode := .training };
        wOk rq 0x2000 9 0 [1] mk s = true ∧ s.enabled 0 = true ∧ after (exec (.retrain rq 0 1) s) (fun t => (t.lane 0).bring.stage == 1) = true)) := by
  decide +kernel

theorem wit_LoopbackFollowsItsSetting :
    (wOk rq 0x2000 8 0 (u8 1) mk (staged 9) = true ∧ (staged 9).cfg 0x2000 8 0 = 0 ∧
      after (exec (.loopbackSerial rq 0) (staged 9)) (fun t => (t.lane 0).bring.stage == 2 && t.cfg 0x2000 8 0 == 1) = true) ∧
    (wOk rq 0x2000 8 0 (u8 2) mk (staged 9) = true ∧
      after (exec (.loopbackParallel rq 0) (staged 9)) (fun t => (t.lane 0).bring.stage == 4 && t.cfg 0x2000 8 0 == 2) = true) ∧
    (wOk rq 0x2000 8 0 (u8 3) mk (staged 9) = true ∧
      after (exec (.loopbackFarEnd rq 0) (staged 9)) (fun t => (t.lane 0).tx.felbTx && t.cfg 0x2000 8 0 == 3) = true) ∧
    (let s := (staged 9).setVal 0x2000 8 0 [3];
      s.enabled 0 = true ∧ wOk rq 0x2000 8 0 (u8 0) mk s = true ∧ s.cfg 0x2000 8 0 = 3 ∧
      after (exec (.loopbackOff rq 0) s) (fun t => t.cfg 0x2000 8 0 == 0 && (t.lane 0).bring.stage == 9) = true) ∧
    (let s := (staged 9).setVal 0x2000 8 0 [1];
      s.enabled 0 = true ∧ s.cfg 0x2000 8 0 = 1 ∧ wOk rq 0x2000 8 0 (u8 0) mk s = true ∧ after (exec (.loopbackOff rq 0) s) (fun t => (t.lane 0).bring.stage == 1) = true ∧
      wOk rq 0x2000 8 0 (u8 2) mk s = true ∧ after (exec (.loopbackParallel rq 0) s) (fun t => answers t == [2] && t.lanes == s.lanes) = true) := by decide +kernel

theorem wit_LaneAndPortSettingsAct :
    (wOk rq 0x2020 0x0D 0 (u8 1) mk base = true ∧ after (exec (.equaliserFreeze rq 0) base) (fun t => t.cfg 0x2020 0x0D 0 == 1) = true) ∧
    (wOk rq 0x2020 0x0D 0 (u8 1) mk (staged 5) = true ∧
      after (exec (.equaliserFreeze rq 0) (staged 5)) (fun t => (t.lane 0).eq.fixedAt == some base.now) = true) ∧
    (let s := (lane0 fun x => { x with bring.stage := 5, eq.fixedAt := some 7 }).setVal 0x2020 0x0D 0 [1];
      wOk rq 0x2020 0x0D 0 (u8 0) mk s = true ∧ (s.lane 0).bring.stage ≠ 1 ∧
      after (exec (.equaliserUnfreeze rq 0) s) (fun t => (t.lane 0).eq.fixedAt == none && t.cfg 0x2020 0x0D 0 == 0) = true) ∧
    (wOk rq 0x2020 0x0D 47 (u8 0) mk base = true ∧ after (exec (.equaliserUnfreeze rq 47) base) (fun t => t.cfg 0x2020 0x0D 47 == 0) = true) ∧
    (let text : Bytes := List.replicate 60 0x41;
      wOk rq 0x3020 2 0 text mk base = true ∧ printable 60 (beNat text) = true ∧
      after (exec (.expectedTraceWrite rq 0 text) base) (fun t => t.cfg 0x3020 2 0 == beNat text) = true) ∧
    (let s := lane0 fun x => { x with d.tim := true };
      wOk rq 0x3020 4 0 (u8 0) mk s = true ∧ after (exec (.timModeWrite rq 0 0) s) (fun t => !(t.lane 0).d.tim) = true) ∧
    (let s := (staged 9).setVal 0x2000 1 47 [1];
      wOk rq 0x2800 1 44 (u8 4) mk s = true ∧ s.userOf 44 (max 4 (s.width 44)) = none ∧ (∀ k, k < 4 → s.inPair (s.portOf (44 + k)) = false) ∧
      (∀ k, k < 4 → 44 ≤ s.portOf (44 + k) ∧ s.portOf (44 + k) + s.width (s.portOf (44 + k)) ≤ 44 + 4 ∨ s.portOf (44 + k) = 44) ∧ 44 + s.width 44 ≤ 48 ∧
      after (exec (.portWidthWrite rq 44 4) s) (fun t => t.width 44 == 4 && (t.lane 47).bring.stage == 1 && t.lane 0 == s.lane 0) = true) := by decide +kernel

theorem wit_HeadersMakeAndBreakBlockLock :
    ((staged 4).enabled 0 = true ∧ headerOk 1 = true ∧
      after (exec (.blockReceived 0 1 0) (staged 4)) (fun t => (t.lane 0).df.goodRun == 1) = true ∧
      after (exec (.blockReceived 0 0 0) (staged 4)) (fun t => (t.lane 0).df.bitSlips == 1) = true) ∧
    (let s := lane0 fun x => { x with bring.stage := 4, df.goodRun := 63 };
      s.enabled 0 = true ∧ 4 ≤ (s.lane 0).bring.stage ∧ (s.lane 0).df.blockLock = false ∧ headerOk (if s.inverts 0 then ~~~2 else 2) = true ∧
      after (exec (.blockReceived 0 2 0) s) (fun t => (t.lane 0).df.blockLock && (t.lane 0).bring.stage == 5) = true) ∧
    (let s := lane0 fun x => { x with bring.stage := 7, df.blockLock := true, df.heads := List.replicate 15 false };
      s.enabled 0 = true ∧ s.inverts 0 = false ∧ 16 ≤ ((headerOk 3 :: (s.lane 0).df.heads).take 64).countP (!·) ∧
      after (exec (.blockReceived 0 3 0) s) (fun t => !(t.lane 0).df.blockLock && (t.lane 0).bring.stage == 4) = true) := by decide +kernel

/-- The FAB of MFI 5, SFI 6 and a lane tag, as a block's content (02 R36, R37). -/
def fab56 : BitVec 64 := bytesBlock (fabBytes ⟨5, 6, laneTag 1 0 0⟩)

/-- A block of type 0x96 with seven bytes of content, the last byte of the number first (02 R33). -/
def so (v : Nat) : BitVec 64 := bytesBlock (0x96 :: ((beBytes 8 v).drop 1).reverse)

theorem wit_FrameLockAndOverhead :
    (let s := lane0 fun x => { x with bring.stage := 6, df.blockLock := true, df.cands := [{ pos := 3, count := 2, mfi := 4, sfi := 6 }] };
      fabOf 2 fab56 = some ⟨5, 6, laneTag 1 0 0⟩ ∧
      after (exec (.candidateExpectedPosition 0 3 2 fab56) s) (fun t => (t.lane 0).df.frameLock && (t.lane 0).bring.stage == 7 && (t.lane 0).df.expMfi == 5) = true) ∧
    (let s := lane0 fun x => { x with bring.stage := 6, df.blockLock := true, df.cands := [{ pos := 3, count := 2, mfi := 5, sfi := 6 }] };
      fabOf 2 0 = none ∧ after (exec (.candidateExpectedPosition 0 3 2 0) s) (fun t => (t.lane 0).df.cands == []) = true) ∧
    (let s := lane0 fun x => { x with bring.stage := 7, df.blockLock := true, df.frameLock := true, df.missRun := 3 };
      after (exec (.expectedFabPosition 0 2 0) s) (fun t => !(t.lane 0).df.frameLock && (t.lane 0).bring.stage == 5 && t.ctr 0x3050 1 0 0 == 1) = true) ∧
    (let s := lane0 fun x => { x with df.frameLock := true };
      overheadOf 0 0 = none ∧ after (exec (.overheadBlockReceived 0 999 0 0) s) (fun t => t.lane 0 == s.lane 0 && t.ctr 0x3050 0xC 0 0 == 1) = true ∧
      after (exec (.overheadBlockReceived 0 1 0 0) s) (fun t => t.ctr 0x3050 0xC 0 0 == 1) = true ∧
      overheadOf 2 (so 0x1122334455667788) ≠ none ∧
      after (exec (.overheadBlockReceived 0 4 2 (so 0x1122334455667788)) s) (fun t => t.lanes == s.lanes && t.cnt == s.cnt) = true ∧
      after (exec (.overheadBlockReceived 0 999 2 (so 0x1122334455667788)) s) (fun t => t.lanes == s.lanes && t.cnt == s.cnt) = true ∧
      after (exec (.overheadBlockReceived 0 128 2 (so 0x1122334455667788)) s) (fun t => tget 0 (t.lane 0).ch.sealIn 0 == 0x89) = true ∧
      overheadOf 2 (so 0x11223344050A0B0C) = some [0x0C, 0x0B, 0x0A, 0x05, 0x44, 0x33, 0x22] ∧ bit 0x0A 6 = false ∧
      after (exec (.overheadBlockReceived 0 3 2 (so 0x11223344050A0B0C)) s)
        (fun t => (t.lane 0).tr.partnerStatus == 0x0A && (t.lane 0).tr.partnerPre == 5 && (t.lane 0).tr.partnerPost == 0x33) = true) ∧
    (let s := lane0 fun x => { x with bring.stage := 6, df.blockLock := true, df.cands := [{ pos := 3, count := 2, mfi := 4, sfi := 6, tag := laneTag 1 0 0, tagRun := 2 }] };
      (s.lane 0).df.cands.find? (fun c => c.pos == 3) = some { pos := 3, count := 2, mfi := 4, sfi := 6, tag := laneTag 1 0 0, tagRun := 2 } ∧
      fabOf 2 fab56 = some ⟨5, 6, laneTag 1 0 0⟩ ∧
      after (exec (.candidateExpectedPosition 0 3 2 fab56) s) (fun t => (t.lane 0).df.frameLock && (t.lane 0).bring.stage == 8) = true) := by
  decide +kernel

/-- A holder is admitted; hopper 3 carries edits, hopper 4 completions, hopper 5 events. -/
def led : State :=
  ((({ base with lease.holder := some 0, lease.admitted := true, lease.renewedAt := 10000000000000 : State }.setVal 0x7000 1 3 [1, 16, 1, 0, 0, 0]).setVal
    0x7000 1 4 [2, 16, 1, 0, 0, 0]).setVal 0x7000 1 5 [3, 16, 0, 0, 0, 0])

/-- A 64-byte hopper entry. -/
def ent (b : Bytes) : Bytes := b ++ List.replicate (64 - b.length) 0

/-- A transaction that adds circuit 9 with one slot of all-ones at port 0 (06 Tables 6-2 to 6-7): BEGIN of tag 7 with 3 entries and 1 operation. -/
def addNine : List Bytes :=
  [ent [1, 0, 0, 7, 0, 3, 0, 1, 0, 4, 0, 0, 0, 0, 0, 9], ent [2, 1, 0, 7, 0, 0, 0, 9, 1, 0],
   ent [3, 0, 0, 7, 0, 0xFF, 0xFF, 0x40, 0, 0, 0, 1, 0, 0, 0, 1, 0, 0, 0, 5, 0, 0, 0, 0, 0, 0, 0, 0, 0, 0, 0, 1]]

/-- That transaction waits in hopper 3. -/
def offered : State := led.modHop 3 fun x => { x with entries := addNine.map fun b => (true, b), p := 3 }

theorem wit_TransactionsApplyAndTheShadowReverts :
    (offered.sup.up = true ∧ offered.compiles = true ∧ offered.hopKind 3 = 1 ∧ offered.takingState = 0 ∧ offered.hopEntries 3 = addNine ∧ offered.turnOf = some 3 ∧
      offered.countOk 3 (addNine.headD []) = true ∧ ((parseTrans addNine).toOption.isSome) = true ∧ (offered.quiet.consume 3 3).noLease = false ∧
      ((offered.quiet.consume 3 3).edit.flight.find? fun x => x.hopper == 3 && x.tag == (beginOf 3 (addNine.headD [])).tag) = none ∧
      ((parseTrans addNine).toOption.any fun ops => ((offered.quiet.consume 3 3).accept.2.applyOps (offered.quiet.consume 3 3).edit.nextAcc 0
        (offered.quiet.consume 3 3).fab.shadow ops).toOption.isSome) = true ∧ (beginOf 3 (addNine.headD [])).check = false ∧
      after (exec (.transactionTaken 3) offered) (fun t => t.fab.shadow.map (fun e => (e.handle, e.egress, e.kind)) == [(9, 5, 1)] && t.fab.active == [] &&
        t.edit.flight.map (fun x => (x.acc, x.status, x.client, x.completion)) == [(some 1, 0, 9, 4)]) = true) ∧
    (let s := { offered with sup.cogs := (List.range 256).map fun c => (c, { state := 1 }) };
      s.compiles = false ∧ after (exec (.transactionTaken 3) s) (fun t => t.fab.shadow == [] && (t.hop 3).entries.length == 3) = true) ∧
    (let s := led.modHop 3 fun x => { x with entries := [(true, ent [1, 0, 0, 7, 0, 2])] };
      s.turnOf = some 3 ∧ s.countOk 3 (ent [1, 0, 0, 7, 0, 2]) = false ∧
      after (exec (.transactionTaken 3) s) (fun t => t.edit.flight.map (fun x => (x.acc, x.status, x.detail)) == [(none, 3, 0x10)]) = true) ∧
    (let s := { offered with edit.flight := [{ hopper := 3, tag := 7, acc := some 0 }] };
      s.takingState = 0 ∧ s.countOk 3 (addNine.headD []) = true ∧ ((parseTrans addNine).toOption.isSome) = true ∧
      ((s.quiet.consume 3 3).edit.flight.find? fun x => x.hopper == 3 && x.tag == (beginOf 3 (addNine.headD [])).tag).isSome = true ∧
      s.turnOf = some 3 ∧ after (exec (.transactionTaken 3) s) (fun t => t.fab.shadow == [] && (t.edit.flight.getLast?.map fun x => (x.status, x.detail)) == some (7, 0x16)) = true) ∧
    (let s := { led with edit.flight := [{ hopper := 3, tag := 7, acc := some 0, completion := 4 }] };
      s.edit.flight.find? (fun x => x.acc.getD 0xFFFFFFFF == 0 && !x.finished) = some { hopper := 3, tag := 7, acc := some 0, completion := 4 } ∧
      s.completionHopper { hopper := 3, tag := 7, acc := some 0, completion := 4 } = some 4 ∧ s.hopRoom 4 1 = true ∧ (s.hop 4).overflow = [] ∧
      after (exec (.transactionComplete 0) s) (fun t => (t.hop 4).entries.length == 1 && t.ctr 0x4000 3 0 0 == 1 && t.edit.flight == []) = true) ∧
    (let s := { led with fab.active := [{ handle := 1 }], fab.shadow := [{ handle := 2 }] };
      wOk rq 0x4010 1 0 [1] mk s = true ∧ s.edit.armed = none ∧ s.edit.flight = [] ∧
      after (exec (.revertShadow rq 1) s) (fun t => t.fab.shadow == [{ handle := 1 }] && t.fab.copyBusy && answers t == [0]) = true ∧
      wOk rq 0x4010 1 0 [1] mk { s with edit.armed := some { number := 2 } } = true ∧
      after (exec (.revertShadow rq 1) { s with edit.armed := some { number := 2 } }) (fun t => t.fab == s.fab && answers t == [2]) = true) ∧
    after (exec .pageCopyEnd { led with fab.copyBusy := true, fab.fanoutBusy := true }) (fun t => !t.fab.copyBusy && !t.fab.fanoutBusy) = true := by
  decide +kernel

theorem wit_ActivationsAreArmed :
    (led.hopKind 4 = 2 ∧ led.edit.armed = none ∧ led.noLease = false) ∧
    (wOk rq 0x4100 1 0 (armBytes 0 ⟨4, 9, 0, 0, 0, 0⟩) mk led = true ∧
      after (exec (.armNextFrame rq ⟨4, 9, 0, 0, 0, 0⟩) led) (fun t => (t.edit.armed.map fun a => (a.number, a.mode, a.hopper, a.client, a.state)) == some (1, 0, 4, 9, 4)
        && t.edit.nextAct == 2) = true) ∧
    (wOk rq 0x4100 1 0 (armBytes 1 ⟨4, 9, 0, 124, 0, 0⟩) mk led = true ∧ led.frameNow < armTarget 1 ⟨4, 9, 0, 124, 0, 0⟩ ∧
      50000000 < led.untilBoundary (led.fab.frameNo + (armTarget 1 ⟨4, 9, 0, 124, 0, 0⟩ - led.frameNow)) ∧
      led.untilBoundary (led.fab.frameNo + (armTarget 1 ⟨4, 9, 0, 124, 0, 0⟩ - led.frameNow)) ≤ 86400000000000 ∧
      after (exec (.armNamedMultiframe rq ⟨4, 9, 0, 124, 0, 0⟩) led) (fun t => (t.edit.armed.map fun a => (a.state, a.target, a.sfi)) == some (1, some 15872, 124)) = true) ∧
    (let s := { led with tod.ever := true, tim.aligned := true };
      wOk rq 0x4100 1 0 (armBytes 2 ⟨4, 9, 0, 0, 1, 999999999⟩) mk s = true ∧ s.frameNow < armTarget 2 ⟨4, 9, 0, 0, 1, 999999999⟩ ∧
      50000000 < s.untilBoundary (s.fab.frameNo + (armTarget 2 ⟨4, 9, 0, 0, 1, 999999999⟩ - s.frameNow)) ∧
      s.untilBoundary (s.fab.frameNo + (armTarget 2 ⟨4, 9, 0, 0, 1, 999999999⟩ - s.frameNow)) ≤ 86400000000000 ∧ s.tod.tjr = false ∧
      after (exec (.armTaiInstant rq ⟨4, 9, 0, 0, 1, 999999999⟩) s) (fun t => (t.edit.armed.map fun a => (a.state, a.target)) == some (1, some 16000)) = true) ∧
    (let s := { led with fab.sfi := 3 };
      wOk rq 0x4100 1 0 (armBytes 1 ⟨4, 9, 0, 3, 0, 0⟩) mk s = true ∧ armTarget 1 ⟨4, 9, 0, 3, 0, 0⟩ ≤ s.frameNow ∧
      after (exec (.armNamedMultiframe rq ⟨4, 9, 0, 3, 0, 0⟩) s) (fun t => answers t == [2] && t.edit.armed == none) = true) := by decide +kernel

theorem wit_ActivationsSealCommitAndExecute :
    (let s := { led with edit.armed := some { mode := 1, state := 1, target := some 400 } };
      s.untilBoundary 400 ≤ 50000000 ∧ after (exec .sealPoint s) (fun t => (t.edit.armed.map Armed.state) == some 3) = true ∧
      after (exec .sealPoint { s with edit.flight := [{}] }) (fun t => (t.edit.armed.map Armed.state) == some 2) = true) ∧
    (let s := { led with edit.armed := some { mode := 1, state := 3, target := some 8 } };
      s.untilBoundary 8 ≤ 1000000 ∧ s.lease.admitted = true ∧ after (exec .commitPoint s) (fun t => (t.edit.armed.map Armed.state) == some 4) = true) ∧
    (let s := { led with edit.armed := some { mode := 1, state := 4, target := some 1, number := 6 }, fab.shadow := [{ handle := 2 }] };
      s.fab.frameNo + 1 = 1 ∧ s.lease.admitted = true ∧ after (exec .activation s) (fun t => t.fab.active == [{ handle := 2 }] && t.edit.armed == none && t.edit.activeNo == 6 && t.ctr 0x4100 5 0 0 == 1) = true) ∧
    (let s := { led with edit.armed := some { mode := 1, state := 3, target := some 800, number := 6 } };
      wOk rq 0x4100 2 0 (beBytes 4 6) mk s = true ∧
      after (exec (.cancelActivation rq 6) s) (fun t => t.edit.armed == none && t.ctr 0x4100 6 0 0 == 1 && answers t == [0]) = true) := by decide +kernel

/-- Ports 0 and 4 form a pair in force. -/
def paired (x : Pair) : State := { led with prot.pairs := [(0, { x with protect := 4 })] }

/-- That pair, with bytes accepted from the far end. -/
def heard (aps : Nat) (x : Pair) : State := (paired x).modLane 4 fun y => { y with oh.apsAcc := aps, oh.apsInvalid := false, bring.logical := some 0 }

theorem wit_PairsAreWrittenAndTaken :
    (led.pairRefusal 0 48 ≠ none ∧ led.pairRefusal 0 47 = none ∧ wOk rq 0x3800 1 0 (u8 47) mk led = true ∧
      after (exec (.protectPortWrite rq 0 47) led) (fun t => t.prot.writes == [⟨0, 47, 1, 5, led.now⟩] && t.mgmt.flight.length == 1 && t.out == []) = true) ∧
    (let s := { led with prot.writes := [⟨0, 4, 1, 5, 0⟩] };
      s.prot.writes.find? (fun w => w.port == 0) = some ⟨0, 4, 1, 5, 0⟩ ∧ s.pairHeld = false ∧ s.sup.up = true ∧ s.pairRefusal 0 4 = none ∧
      (({ s.quiet with prot.writes := [] }.accept.2).modPair 0 fun x => { x with pending := true, next := 4 }).pageLimit (s.pairPage 0 4) = none ∧
      after (exec (.pairWriteTaken 0) s) (fun t => t.prot.writes == [] && (t.pair 0).pending && (t.pair 0).next == 4 && t.cfg 0x3800 1 0 == 4 && t.edit.included == 1) = true ∧
      s.prot.writes.find? (fun w => w.port == 0 && s.over w.since (secs 4)) = some ⟨0, 4, 1, 5, 0⟩ ∧ after (exec (.pairWriteTimeout 0) s) (fun t => t.prot.writes == [] && !(t.pair 0).pending) = true) ∧
    (wOk rq 0x3800 1 0 (u8 255) mk led = true ∧ (led.pair 0).pending = false ∧ (led.pair 0).protect = 255 ∧ led.prot.writes = [] ∧
      led.edit.armed = none ∧ led.noLease = false ∧
      after (exec (.protectPortWrite rq 0 255) led) (fun t => answers t == [0] && t.prot == led.prot) = true) ∧
    (let s := { led with edit.armed := some { number := 2 } };
      wOk rq 0x3800 1 0 (u8 255) mk s = true ∧ after (exec (.protectPortWrite rq 0 255) s) (fun t => answers t == [2] && t.prot == s.prot) = true) ∧
    (base.noLease = true ∧ wOk rq 0x3800 1 0 (u8 255) mk base = true ∧
      after (exec (.protectPortWrite rq 0 255) base) (fun t => answers t == [2] && t.prot == base.prot) = true) ∧
    (wOk rq 0x3800 2 47 (u8 1) mk led = true ∧ led.forerunner 47 = false ∧
      after (exec (.pairModeWrite rq 47 1) led) (fun t => t.cfg 0x3800 2 47 == 1 && answers t == [0]) = true) := by decide +kernel

theorem wit_PairsAreEvaluated :
    (let s := paired { holdW := some 0, holdP := some 0 };
      s.sup.up = true ∧ s.cogServes 0 = true ∧ s.over 0 (s.cfg 0x3800 4 0 * 100000000) = true ∧
      after (exec (.holdOffExpiry 0 .working) (s.modCog 0 fun x => { x with state := 1 })) (fun t => t.prot == s.prot) = true ∧
      after (exec (.holdOffExpiry 0 .working) { s with sup.up := false }) (fun t => t.prot == s.prot) = true ∧
      after (exec (.holdOffExpiry 0 .working) s) (fun t => (t.pair 0).holdW == none && !(t.pair 0).sfW) = true ∧
      after (exec (.holdOffExpiry 0 .protect) s) (fun t => (t.pair 0).holdP == none && !(t.pair 0).sfP) = true) ∧
    (let s := (paired {}).modLane 0 fun x => { x with d.failedLatched := true };
      twf {} s.prot.pairs ∧ s.sup.up = true ∧ s.fab.frameNo % 8 = 0 ∧ s.cogServes 0 = true ∧
      after (exec .pairEvaluation s) (fun t => (t.pair 0).state == 0xB && (t.pair 0).selector && t.ctr 0x3800 8 0 0 == 1) = true) ∧
    (let s := paired { wtr := some 0, state := 5, selector := true };
      s.sup.up = true ∧ (s.pair 0).state = 5 ∧ s.over 0 (secs (60 * s.cfg 0x3800 3 0)) = true ∧ localGoverns 0 (s.farRequest 0 (s.pair 0)) = true ∧
      after (exec (.wtrExpiry 0) s) (fun t => (t.pair 0).state == 0 && !(t.pair 0).selector && t.ctr 0x3800 8 0 0 == 1) = true ∧
      after (exec (.wtrExpiry 0) (s.modPair 0 fun x => { x with stored := 2 })) (fun t => (t.pair 0).state == 0xD && (t.pair 0).selector) = true) := by
  delta twf
  decide +kernel

theorem wit_LineCommandsAndMismatches :
    (let s := paired { stored := 4 };
      (s.pair 0).protect ≠ 255 ∧ wOk rq 0x3800 5 0 (u8 0) mk s = true ∧ wOk rq 0x3800 5 0 (u8 1) mk s = true ∧ wOk rq 0x3800 5 0 (u8 2) mk s = true ∧
      wOk rq 0x3800 5 0 (u8 3) mk s = true ∧ wOk rq 0x3800 5 0 (u8 4) mk s = true ∧ s.outranked 0 2 (s.pair 0) = false ∧
      s.outranked 0 3 (s.pair 0) = false ∧ s.outranked 0 4 (s.pair 0) = false ∧
      after (exec (.lineClear rq 0) s) (fun t => (t.pair 0).stored == 0) = true ∧
      after (exec (.lockoutOfProtection rq 0) s) (fun t => (t.pair 0).stored == 1) = true ∧
      after (exec (.forcedSwitch rq 0) s) (fun t => (t.pair 0).stored == 2) = true ∧
      after (exec (.manualSwitchToProtect rq 0) s) (fun t => (t.pair 0).stored == 3) = true ∧
      after (exec (.manualSwitchToWorking rq 0) s) (fun t => (t.pair 0).stored == 4) = true) ∧
    (let s := paired { sfP := true };
      s.outranked 0 2 (s.pair 0) = true ∧ wOk rq 0x3800 5 0 (u8 2) mk s = true ∧
      after (exec (.forcedSwitch rq 0) s) (fun t => answers t == [2] && t.prot == s.prot) = true ∧
      after (exec (.forcedSwitch rq 8) s) (fun t => answers t == [2]) = true) ∧
    (let s := heard 0 { modeSince := some 0 };
      s.sup.up = true ∧ s.apsUp (s.pair 0) = true ∧ s.over 0 50000000 = true ∧ s.modeBad 0 (s.pair 0) = true ∧
      after (exec (.modeMismatchDeclared 0) s) (fun t => (t.pair 0).modeMis && (t.findAlarm 0x3800 6 1 0).isSome) = true) ∧
    (let s := heard 0x0B000100 { selSince := some 0 };
      s.apsUp (s.pair 0) = true ∧ s.over 0 1000000000 = true ∧ s.selBad 0 (s.pair 0) = true ∧
      after (exec (.selectorMismatchDeclared 0) s) (fun t => (t.pair 0).selMis && (t.findAlarm 0x3800 6 2 0).isSome) = true) ∧
    (let s := (heard 0x0B000000 { modeMis := true, selMis := true, modeSince := some 0, selSince := some 0 }).raiseOnce 1 0x3800 6 1 0;
      s.modeBad 0 (s.pair 0) = false ∧ s.selBad 0 (s.pair 0) = false ∧ (s.findAlarm 0x3800 6 1 0).isSome = true ∧
      s.apsUp (s.pair 0) = true ∧
      after (exec (.modeMismatchCleared 0) s) (fun t => !(t.pair 0).modeMis && t.store.alarms.isEmpty) = true ∧
      after (exec (.selectorMismatchCleared 0) s) (fun t => !(t.pair 0).selMis && t.store.alarms.length == 1) = true) := by decide +kernel

/-- Circuit 9 has one protected run, under selector 2. -/
def protRun : State := { led with fab.active := [{ handle := 9, comp := some { prot := true, selIdx := 2, altIn := 768000 * 4 } }] }

theorem wit_CircuitSelectorsFollowTheirCommands :
    (wOk rq 0x3840 1 9 (u8 3) mk protRun = true ∧ wOk rq 0x3840 1 9 (u8 2) mk protRun = true ∧ wOk rq 0x3840 1 9 (u8 1) mk protRun = true ∧
      wOk rq 0x3840 1 9 (u8 0) mk protRun = true ∧ protRun.protRunsOf.length = 1 ∧
      after (exec (.circuitManual rq 9) protRun) (fun t => (tget {} t.fab.sel 2).cmd == 3 && tget 0 t.prot.cmdTbl 9 == 3 && answers t == [0]) = true ∧
      after (exec (.circuitForced rq 9) protRun) (fun t => (tget {} t.fab.sel 2).cmd == 2) = true ∧
      protRun.cogServes (policyCog 9) = true ∧ policyCog 9 = 249 ∧
      (let s := protRun.modCog 249 fun x => { x with state := 1 };
        wOk rq 0x3840 1 9 (u8 2) mk s = true ∧ s.cogServes (policyCog 9) = false ∧
        after (exec (.circuitForced rq 9) s) (fun t => t.fab.sel == [] && tget 0 t.prot.cmdTbl 9 == 2) = true ∧
        after (exec (.cogReloaded 249) { s with prot.cmdTbl := [(9, 2)] }) (fun t => (tget {} t.fab.sel 2).cmd == 2) = true) ∧
      after (exec (.circuitLockout rq 9) protRun) (fun t => (tget {} t.fab.sel 2).cmd == 1) = true ∧
      after (exec (.circuitCommandNone rq 9) { protRun with fab.sel := [(2, { cmd := 2 })] }) (fun t => (tget {} t.fab.sel 2).cmd == 0) = true) ∧
    (wOk rq 0x3840 2 9 (u8 1) mk protRun = true ∧
      after (exec (.circuitRevertiveWrite rq 9 1) protRun) (fun t => (tget {} t.fab.sel 2).rev && tget 0 t.fab.revTbl 9 == 1) = true) ∧
    (let s := { protRun with prot.writeBack := true, prot.cmdTbl := [(9, 2)], fab.revTbl := [(9, 2)] };
      s.lease.admitted = true ∧ s.sup.up = true ∧ after (exec .selectorWriteBack s) (fun t => !t.prot.writeBack && tget {} t.fab.sel 2 == { cmd := 2 }) = true) ∧
    (led.over led.fab.tickAt (4 * led.cfg 0x3810 2 0 * 1000000000) = true ∧ after (exec .circuitWtrTick led) (fun t => t.fab.wtrTick) = true) ∧
    (let s := { led with fab.tickAt := led.now };
      s.over s.fab.tickAt (4 * s.cfg 0x3810 2 0 * 1000000000) = false ∧ after (exec .circuitWtrTick s) (fun t => !t.fab.wtrTick) = true) ∧
    (let s := { protRun with fab.wtrTick := true, fab.sel := [(2, { sel := true, rev := true, wtr := 1 })] };
      (s.protRunsOf.find? fun p => p.2.selIdx == 2).isSome = true ∧ (∀ p ∈ s.protRunsOf, s.primFails p.1 = false ∧ s.altFails p.1 p.2 = false) ∧
      after (exec (.circuitWtrExpiry 2) s) (fun t => tget {} t.fab.sel 2 == { rev := true }) = true) := by decide +kernel

/-- Engine 0 holds the lease; engine 1 is in a state, with a valid checkpoint. -/
def standby (st : EngState) : State := { led with engA.state := .holder, engB := { state := st, area0 := { valid := true } } }

/-- Nobody holds the lease, and engine 1 is in a state. -/
def vacant (st : EngState) : State := { standby st with lease := {}, engA.state := .failed }

theorem wit_TheLeaseIsClaimedRenewedAndLapses :
    ((vacant .armed).claimWaits = false ∧ (vacant .armed).expired = false ∧ (vacant .armed).lease.holder = none ∧ ((vacant .armed).engine 1).state = .armed ∧
      after (exec (.claim 1 0) (vacant .armed)) (fun t => t.lease.holder == some 1 && t.lease.epoch == 1 && (t.engine 1).state == .holder && !t.lease.admitted) = true ∧
      after (exec (.claim 1 9) (vacant .armed)) (fun t => t.lease.holder == none && t.ctr 0x5020 4 0 0 == 1) = true) ∧
    (led.lease.holder = some 0 ∧ after (exec (.renewal 0 0) { led with now := led.now + 5 }) (fun t => t.lease.renewedAt == led.now + 5 && t.lease.expiry == 4) = true ∧
      after (exec (.renewal 0 1) (standby .cold)) (fun t => t.lease.holder == none && (t.engine 0).state == .failed && (t.engine 0).cause == 7) = true) ∧
    (let s := { led with now := led.now + 4000001 };
      s.lease.renewedAt + s.lease.expiry * 1000000 < s.now ∧ s.triggered = false ∧ s.renewalWaits = false ∧ after (exec .leaseExpiry s) (fun t => t.lease.holder == none && (t.engine 0).cause == 4) = true ∧
      after (exec .leaseExpiry { led with now := led.now + 4000000 }) (fun t => t.lease.holder == some 0) = true) ∧
    (let s := { standby .armed with now := led.now + 4000001 };
      s.lease.holder = some 0 ∧ (s.engine 1).state = .armed ∧ s.lease.renewedAt + s.lease.expiry * 1000000 < s.now ∧ s.triggered = false ∧
      s.renewalWaits = false ∧
      after (exec (.claim 1 0) s) (fun t => t.lease.holder == some 1 && (t.engine 0).state == .failed && (t.engine 0).cause == 4) = true) ∧
    (let s := { standby .armed with now := led.now + 4000001, pending := [.renewal 0 0] };
      s.expired = true ∧ s.triggered = false ∧ s.overdue = false ∧ s.renewalWaits = true ∧
      after (exec .leaseExpiry s) (fun t => t.lease.holder == some 0) = true ∧
      s.now ≤ s.lease.renewedAt + s.lease.expiry * 1000000 + 1 ∧ after (exec (.renewal 0 0) s) (fun t => t.lease.renewedAt == s.now) = true) ∧
    (let s := { standby .armed with now := led.now + 4000002 };
      s.triggered = false ∧ s.lease.renewedAt + s.lease.expiry * 1000000 + 1 < s.now ∧
      after (exec (.renewal 0 0) s) (fun t => t.lease.holder == none && (t.engine 0).cause == 7 && t.ctr 0x5020 3 0 0 == 1) = true) ∧
    (let s := { standby .armed with now := led.now + 4000001, pending := [.coreRailFault 0] };
      s.triggered = true ∧ after (exec .leaseExpiry s) (fun t => t.lease.holder == some 0) = true) ∧
    (let s := { vacant .armed with engA.state := .armed, pending := [.claim 0 0] };
      s.claimWaits = true ∧ s.expired = false ∧ after (exec (.claim 1 0) s) (fun t => t.lease.holder == none && t.ctr 0x5020 4 0 0 == 1) = true ∧
      after (exec (.claim 0 0) s) (fun t => t.lease.holder == some 0 && (t.engine 1).state == .cold) = true) ∧
    (let s := { led with lease.admitted := false, lease.revokedAt := some 0 };
      s.over s.lease.grantAt 10000 = true ∧ after (exec .admission s) (fun t => t.lease.admitted && t.prot.writeBack && t.ctr 0x5020 5 0 0 == 1) = true) := by
  decide +kernel

theorem wit_EnginesWakeAndHandOver :
    (after (exec (.perFrameLeaseState 1) (vacant .cold)) (fun t => (t.engine 1).state == .waking) = true ∧
      after (exec (.perFrameLeaseState 1) (vacant .refreshing)) (fun t => (t.engine 1).state == .waking) = true ∧
      after (exec (.perFrameLeaseState 1) (standby .armed)) (fun t => (t.engine 1).state == .cold) = true) ∧
    (((vacant .waking).engine 1).newer = some { valid := true } ∧
      after (exec (.wakeComplete 1 .done) { vacant .waking with edit.journal := [{ kind := 1, entry := { handle := 9 } }, { pos := 1, kind := 3 }] })
        (fun t => (t.engine 1).state == .armed && t.fab.active == [{ handle := 9 }]) = true ∧
      after (exec (.wakeComplete 1 .done) (standby .waking)) (fun t => (t.engine 1).state == .armed && t.fab == (standby .waking).fab) = true ∧
      after (exec (.wakeComplete 1 .faulty) (vacant .waking)) (fun t => (t.engine 1).state == .failed && (t.engine 1).cause == 9) = true ∧
      (((vacant .waking).engine 1).area0.valid && ((vacant .waking).engine 1).area1.valid) = false ∧
      after (exec (.wakeComplete 1 .older) (vacant .waking)) (fun t => (t.engine 1).state == .failed && (t.engine 1).cause == 9) = true) ∧
    (let s := { vacant .waking with engB := { state := .waking, area0 := { valid := true }, area1 := { valid := true, seq := 1, page := [{ handle := 9 }] } } };
      (s.engine 1).area0.valid = true ∧ (s.engine 1).area1.valid = true ∧
      after (exec (.wakeComplete 1 .older) s) (fun t => (t.engine 1).state == .armed && (t.engine 1).cause == 2 && t.fab.active == [] &&
        (t.engine 1).area0.valid && !(t.engine 1).area1.valid) = true) ∧
    (wOk rq 0x5000 3 0 [1] mk (standby .cold) = true ∧ (standby .cold).readyEngine ((standby .cold).engine 1) = true ∧
      (standby .cold).refreshing = false ∧ (standby .cold).restartingEng = false ∧
      after (exec (.manualSwitch rq 1) (standby .cold)) (fun t => (t.engine 1).state == .waking && (t.engine 1).switching && answers t == [0]) = true) ∧
    (let s := { standby .armed with engB.switching := true };
      s.over (s.engine 1).armedAt 10000 = true ∧ s.commitOpen = false ∧
      after (exec .handover s) (fun t => t.lease.holder == some 1 && (t.engine 0).state == .restarting && (t.engine 0).cause == 8 && t.lease.admitted) = true) := by
  decide +kernel

theorem wit_FaultsAndTheTallyRevoke :
    (after (exec (.coreRailFault 0) (standby .cold)) (fun t => t.lease.holder == none && (t.engine 0).cause == 5) = true ∧
      after (exec (.coreRailFault 1) (standby .cold)) (fun t => t.lease.holder == some 0 && (t.engine 1).state == .failed) = true ∧
      after (exec (.islandRailLoss 1) (standby .cold)) (fun t => (t.engine 1).state == .down && (t.engine 1).areas == [] && !(t.engine 1).held.isEmpty) = true ∧
      after (exec (.islandRailLoss 0) (standby .cold)) (fun t => (t.engine 0).state == .down && t.lease.holder == none) = true) ∧
    (((standby .armed).engine 1).linked = true ∧ after (exec (.linkFlit 1 .good) (standby .armed)) (fun t => t.cnt == []) = true ∧
      after (exec (.linkFlit 1 .corrected) (standby .armed)) (fun t => t.ctr 0x5010 4 0 1 == 1) = true ∧
      after (exec (.linkFlit 1 .uncorrectable) (standby .armed)) (fun t => t.ctr 0x5010 5 0 1 == 1) = true ∧
      after (exec (.linkFramingLoss 0 .framing) (standby .armed)) (fun t => t.lease.holder == none && (t.engine 0).cause == 6) = true ∧
      after (exec (.linkFramingLoss 1 .framing) (standby .armed)) (fun t => t.lease.holder == some 0 && (t.engine 1).cause == 6) = true) ∧
    (let s := { standby .cold with lease.window := [true, false, true], lease.sumP := 1, lease.sumM := 1 };
      s.tallyEvaluated true = true ∧ s.cfg 0x5000 8 0 ≠ 0 ∧ s.lease.tallyTakeover = none ∧ s.lease.holder = some 0 ∧
      3 ≤ ((((some 3#32).isNone || s.lease.sumP ^^^ (some 3#32).getD 0 != s.lease.sumM ^^^ 0#32) :: s.lease.window).take 8).countP id ∧
      after (exec (.tallyComparison (some 3) 0 true) s) (fun t => t.lease.holder == none && (t.engine 0).cause == 1 && t.ctr 0x5030 2 0 0 == 1) = true ∧
      after (exec (.tallyComparison none 0 true) s) (fun t => t.lease.holder == none && (t.engine 0).cause == 1) = true ∧
      ((((some 0#32).isNone || s.lease.sumP ^^^ (some 0#32).getD 0 != s.lease.sumM ^^^ 0#32) :: s.lease.window).take 8).countP id < 3 ∧
      after (exec (.tallyComparison (some 0) 0 true) s) (fun t => t.lease.window == [false, true, false, true] && t.lease.lastM == 1 && t.lease.lastP == 1) = true ∧
      s.tallyEvaluated false = false ∧ after (exec (.tallyComparison none 2 false) s) (fun t => t.ctr 0x5030 3 0 0 == 1) = true ∧
      wOk rq 0x5000 8 0 (u8 1) mk s = true ∧ after (exec (.tallyRevocationWrite rq) s) (fun t => t.lease.window == [] && t.cfg 0x5000 8 0 == 1) = true) := by
  decide +kernel

theorem wit_EnginesRefreshAndReturn :
    (let s := standby .cold;
      s.refreshTarget = some 1 ∧ s.over (s.engine 1).refreshedAt (60 * s.cfg 0x5000 6 0 * 1000000000) = true ∧
      after (exec .refreshDue s) (fun t => (t.engine 1).state == .refreshing) = true ∧ wOk rq 0x5000 5 0 [1] mk s = true ∧
      after (exec (.refreshCheckpoint rq 1) s) (fun t => (t.engine 1).state == .refreshing) = true) ∧
    (let s := standby .cold;
      let u := { s with engB.refreshedAt := s.now, edit.head := 70000 };
      u.refreshTarget = some 1 ∧ u.cfg 0x5000 7 0 ≤ u.edit.head - (u.engine 1).refreshHead ∧
      after (exec .refreshDue u) (fun t => (t.engine 1).state == .refreshing) = true) ∧
    (let s := { standby .refreshing with fab.active := [{ handle := 9 }] };
      repairAll (s.engine 1).repairs ((s.engine 1).marched [448, 7]) = ([448], true) ∧
      after (exec (.refreshComplete 1 ⟨[448, 7], true, true⟩) s) (fun t => (t.engine 1).state == .cold && (t.engine 1).area1.page == [{ handle := 9 }] &&
        (t.engine 1).repairs == [448]) = true ∧
      after (exec (.refreshComplete 1 ⟨[448, 7], false, true⟩) s) (fun t => (t.engine 1).state == .cold && (t.engine 1).cause == 2) = true ∧
      after (exec (.heartbeat 0) s) (fun t => (t.engine 1).hbReceived && (t.engine 1).hbAt == s.now && (t.engine 1).hbPeer == EngState.holder.code) = true ∧
      (s.engine 1).hbLost = false ∧ s.over (s.engine 1).hbAt 3000000 = true ∧
      after (exec (.heartbeatLost 1) s) (fun t => (t.engine 1).hbLost && t.cnt == s.cnt) = true) ∧
    (let s := { standby .refreshing with engB.repairs := List.replicate 16 7 };
      (repairAll (s.engine 1).repairs ((s.engine 1).marched [448])).2 = false ∧
      after (exec (.refreshComplete 1 ⟨[448], true, true⟩) s) (fun t => (t.engine 1).state == .unusable && (t.engine 1).cause == 10) = true) ∧
    (let s := (standby .failed).setVal 0x5000 2 0 [1];
      s.over (s.engine 1).failedAt 1000000000 = true ∧ s.cfg 0x5000 2 0 = 1 ∧ (s.engine 1).restarts = [] ∧ after (exec (.automaticRestart 1) s) (fun t => (t.engine 1).state == .restarting && (t.engine 1).restarts == [s.now]) = true ∧
      wOk rq 0x5000 4 0 (u8 1) mk s = true ∧ after (exec (.restartEngine rq 1) s) (fun t => (t.engine 1).state == .restarting) = true) ∧
    ((repairAll [] [639]).2 = true ∧ (repairAll (List.replicate 16 7) [8]).2 = false ∧ (standby .restarting).lease.holder ≠ none ∧
      (vacant .restarting).lease.holder = none ∧
      after (exec (.restartMarchComplete 1 [3]) (standby .restarting)) (fun t => (t.engine 1).state == .cold && (t.engine 1).repairs == [3]) = true ∧
      after (exec (.restartMarchComplete 1 [3]) (vacant .restarting)) (fun t => (t.engine 1).state == .waking && (t.engine 1).area0.valid) = true ∧
      after (exec (.restartMarchComplete 1 [8]) { standby .restarting with engB.repairs := List.replicate 16 7 })
        (fun t => (t.engine 1).state == .unusable && (t.engine 1).cause == 10) = true) := by
  decide +kernel

/-- Two reference inputs run and are qualified, with a level assigned to each; the OCXO is warm. -/
def clocked : State :=
  ((((({ base with tim.warm := true, tim.refs := [(0, { active := true, qual := true, seen := true }), (1, { active := true, qual := true, seen := true })] : State }.setVal
    0x5420 1 0 [1]).setVal 0x5420 1 1 [1]).setVal 0x5420 5 0 [1]).setVal 0x5420 5 1 [1]).setVal 0x5400 2 0 [0])

/-- The system governor is Locked to reference 0. -/
def locked : State := { clocked with tim.selected := some 0, tim.sys.state := .locked, tim.sys.ref := 0 }

theorem wit_ReferencesAreMonitored :
    (clocked.portUp = true ∧ (clocked.ref 0).qual = true ∧ clocked.refOn 0 = true ∧ clocked.candidate 1 = true ∧
      after (exec (.referenceEdgeMissing 0) clocked) (fun t => !(t.ref 0).qual && (t.ref 1).qual && t.ctr 0x5430 2 1 0 == 1) = true ∧
      after (exec (.referenceActivityRestored 1) clocked) (fun t => (t.ref 1).active) = true) ∧
    (after (exec (.frequencyMeasurement 0 4600001) clocked) (fun t => (t.ref 0).hardBad == 1 && (t.ref 0).softBad == 1) = true ∧
      after (exec (.frequencyMeasurement 0 (-4600000)) clocked) (fun t => (t.ref 0).hardBad == 0 && (t.ref 0).softBad == 1) = true ∧
      after (exec (.frequencyMeasurement 0 4600001) { clocked with tim.warm := false }) (fun t => (t.ref 0).hardBad == 1 && !(t.ref 0).hardDis &&
        (t.ref 0).offset == 4600001) = true) ∧
    (let s := clocked.modRef 0 fun x => { x with hardBad := 100, softBad := 100 };
      s.tim.warm = true ∧ (s.ref 0).hardDis = false ∧ (s.ref 0).softFlag = false ∧ s.following 0 = false ∧ after (exec (.hardLimitExceeded 0) s) (fun t => (t.ref 0).hardDis && !(t.ref 0).qual) = true ∧
      after (exec (.softLimitFlag 0) s) (fun t => (t.ref 0).softFlag) = true ∧ (s.setVal 0x5400 9 0 [1]).cfg 0x5400 9 0 = 1 ∧
      after (exec (.softLimitFlag 0) (s.setVal 0x5400 9 0 [1])) (fun t => (t.ref 0).softFlag && !(t.ref 0).qual) = true) ∧
    (let s := clocked.modRef 0 fun x => { x with noLock := true, qual := false, wtrSince := some 0 };
      (s.ref 0).wtrSince = some 0 ∧ s.over 0 (60 * s.cfg 0x5400 4 0 * 1000000000) = true ∧
      after (exec (.referenceWtrExpiry 0) s) (fun t => !(t.ref 0).noLock && (t.ref 0).wtrSince == none && (t.ref 0).qual) = true) := by decide +kernel

theorem wit_TheFantailSelects :
    (clocked.portUp = true ∧ clocked.tim.cmd ≠ 2 ∧ clocked.quiet.evalRefs.wantRef = some 0 ∧ clocked.tim.selected ≠ some 0 ∧
      after (exec .referenceSelection clocked) (fun t => t.tim.selected == some 0 && t.tim.sys.state == .acquiring && t.ctr 0x5440 5 0 0 == 1) = true) ∧
    (let s := { clocked with tim.apart := [(1, 1)], tim.near := [(1, 1)] };
      tget 0 s.tim.apart (pairKey 0 1) ≠ 0 ∧ s.candidate 0 = true ∧ s.candidate 1 = true ∧
      tget 0 s.tim.near (pairKey 1 0) ≠ 0 ∧ s.over (tget 0 s.tim.near (pairKey 1 0) - 1) 60000000000 = true ∧
      s.over (tget 0 s.tim.apart (pairKey 0 1) - 1) 10000000000 = true ∧ s.disagreeing 0 1 = false ∧ s.refKey 0 = s.refKey 1 ∧
      after (exec (.disagreementSet 0 1) s) (fun t => t.tim.disagree == [(0, 1)]) = true ∧
      after (exec (.disagreementCleared 1 0) { s with tim.disagree := [(0, 1)] }) (fun t => t.tim.disagree == []) = true) ∧
    (wOk rq 0x5400 0x0A 0 (selBytes 0 0) mk locked = true ∧ wOk rq 0x5400 0x0A 0 (selBytes 1 0) mk locked = true ∧ wOk rq 0x5400 0x0A 0 (selBytes 2 1) mk locked = true ∧
      wOk rq 0x5400 0x0A 0 (selBytes 3 255) mk locked = true ∧ wOk rq 0x5400 0x0A 0 (selBytes 4 255) mk locked = true ∧
      locked.cfg 0x5420 1 0 = 1 ∧ wOk rq 0x5400 0x0A 0 (selBytes 2 7) mk locked = true ∧ locked.manualHolds 1 = true ∧ ({ locked.quiet with tim.cmd := 2, tim.cmdRef := 1 }.evalRefs).manualHolds 1 = true ∧ locked.manualHolds 7 = false ∧
      after (exec (.selectClear rq 0) { locked with tim.cmd := 1 }) (fun t => t.tim.cmd == 0 && answers t == [0]) = true ∧
      after (exec (.selectForced rq 0) locked) (fun t => t.tim.cmd == 1 && t.tim.cmdRef == 0) = true ∧
      after (exec (.selectManual rq 1) locked) (fun t => t.tim.cmd == 2 && t.tim.selected == some 1) = true ∧
      after (exec (.selectHoldover rq 255) locked) (fun t => t.tim.cmd == 3 && t.tim.selected == none) = true ∧
      after (exec (.selectFreeRun rq 255) locked) (fun t => t.tim.cmd == 4 && t.tim.sys.state == .freeRun) = true ∧
      after (exec (.selectManual rq 7) locked) (fun t => t.tim == locked.tim && answers t == [2]) = true) := by decide +kernel

theorem wit_GovernorsOptionsAndFramePhase :
    (let s := { locked with tim.sys.state := .acquiring, tim.time.state := .acquiring, tod.state := .locked };
      s.over (s.pulledAt (s.gov 0)) 10000000000 = true ∧ s.pullLeft (s.gov 0) = 0 ∧ s.uses 0 = true ∧
      s.over (s.pulledAt (s.gov 1)) 10000000000 = true ∧ s.pullLeft (s.gov 1) = 0 ∧ s.uses 1 = true ∧ after (exec (.governorLocked 0) s) (fun t => (t.gov 0).state == .locked && (t.gov 1).state == .acquiring) = true ∧
      after (exec (.governorLocked 1) s) (fun t => (t.gov 1).state == .locked) = true ∧
      s.over s.tim.sys.since 600000000000 = true ∧ after (exec .noLockTimeout s) (fun t => (t.ref 0).noLock && t.tim.selected == some 1) = true) ∧
    (locked.uses 0 = true ∧ (locked.gov 0).minutes = [] ∧ locked.over (locked.gov 0).since 60000000000 = true ∧
      after (exec (.historyEntry 0 (-7)) locked) (fun t => t.tim.sys.history == [-7] && t.tim.sys.minutes == [t.now]) = true) ∧
    (let s := { locked with now := 90000000000000, tim.rankOne := some 1, persist.dict := tput [] locked.persist.dict (objKey 0x5420 6 0) [2] };
      s.watchRank.tim.rankOne = some 1 ∧ s.over (max 1 s.tim.calibratedAt) 86400000000000 = true ∧ after (exec (.calibrationUpdate 12) s) (fun t => t.tim.calibration == 12) = true) ∧
    (let s := { base with tim.ocxoOn := some 0 };
      s.tim.warm = false ∧ s.cfg 0x5400 9 0 ≠ 1 ∧ s.over 0 600000000000 = true ∧ after (exec .ocxoWarm s) (fun t => t.tim.warm) = true) ∧
    (wOk rq 0x5400 1 0 (u8 2) mk base = true ∧ wOk rq 0x5400 1 0 (u8 1) mk base = true ∧
      after (exec (.ssmOptionWrite rq 2) base) (fun t => t.cfg 0x5400 1 0 == 2 && t.cfg 0x5400 7 0 == 0x0D && t.cfg 0x5420 6 7 == 1 && t.cfg 0x5470 2 1 == 0x0C) = true ∧
      after (exec (.ssmOptionWrite rq 1) base) (fun t => t.cfg 0x5400 7 0 == 8 && t.cfg 0x5420 6 0 == 2 && t.cfg 0x5470 2 0 == 0x0B) = true) ∧
    (let s := { base with tod.ever := true, tod.counter := 65536 * 1990000000 };
      wOk rq 0x5460 3 0 [1] mk s = true ∧ s.tod.tjr = false ∧ s.tim.realignAt = none ∧ s.edit.armed = none ∧ after (exec (.realignFramePhase rq 1) s) (fun t => t.tim.realignAt == some 4 && answers t == [0]) = true ∧
      wOk rq 0x5460 3 0 [1] mk base = true ∧ after (exec (.realignFramePhase rq 1) base) (fun t => answers t == [2]) = true) ∧
    (let s := { base with tim.aligned := true, tim.outRun := 16, fab.localN := 5, sealing.slots := [(2, { cur := some {}, pend := some {} })] };
      after (exec .framePhaseAlignmentLost s) (fun t => !t.tim.aligned && t.fab.superframe == 5 && (t.keySlot 2).pend == none && (t.keySlot 2).cur == some {}) = true) := by
  decide +kernel

theorem wit_TriggersFire :
    (let r : TrigRec := ⟨2, 999999999, 0, 10, 0⟩;
      10000 * 65536 ≤ (fromTime80 (r.seconds * 4294967296 + r.nanoseconds) : Int) - base.tod.counter ∧
      (fromTime80 (r.seconds * 4294967296 + r.nanoseconds) : Int) - base.tod.counter < 140737488355328 * 65536 ∧ (base.trig 7).armed = false ∧
      wOk rq 0x5840 1 7 (trigBytes 1 r) mk base = true ∧
      after (exec (.armOneShot rq 7 r) base) (fun t => (t.trig 7).armed && !(t.trig 7).periodic && (t.trig 7).target == 2999999999 * 65536) = true) ∧
    (let r : TrigRec := ⟨2, 0, 1000 * 65536, 990, 4⟩;
      10000 * 65536 ≤ (fromTime80 (r.seconds * 4294967296 + r.nanoseconds) : Int) - base.tod.counter ∧
      1000 * 65536 ≤ r.period ∧ r.period ≤ 140737488355328 * 65536 ∧ (r.width + 10) * 65536 ≤ r.period ∧ wOk rq 0x5840 1 0 (trigBytes 2 r) mk base = true ∧
      after (exec (.armPeriodic rq 0 r) base) (fun t => (t.trig 0).armed && (t.trig 0).periodic && (t.trig 0).left == 4) = true) ∧
    (let s := base.modTrig 3 fun x => { x with armed := true, periodic := true, target := 65536, period := 65536 * 1000, width := 10, left := 4, high := true };
      wOk rq 0x5840 2 3 [1] mk s = true ∧ after (exec (.disarmTrigger rq 3 1) s) (fun t => !(t.trig 3).armed && (t.trig 3).high) = true ∧
      s.trigAhead 3 > 0 ∧
      (let u := { s with tod.counter := 65536 };
        u.portUp = true ∧ (u.trig 3).overtaken = false ∧ (u.trig 3).left ≠ 1 ∧ u.trigAhead 3 ≤ 0 ∧ 0 < ahead (shortTime u.tod.counter) (shortTime ((u.trig 3).target + (u.trig 3).period)) ∧
        after (exec (.triggerFire 3) u) (fun t => t.out == [.trigRise 3] && (t.trig 3).target == 65536 * 1001 && (t.trig 3).left == 3) = true ∧
        after (exec (.triggerFire 3) (u.modTrig 3 fun x => { x with periodic := false })) (fun t => !(t.trig 3).armed && (t.trig 3).high && t.ctr 0x5840 3 3 3 == 1) = true) ∧
      (s.trig 3).highEnd ≤ s.now ∧ after (exec (.triggerPulseEnd 3) s) (fun t => t.out == [.trigFall 3] && !(t.trig 3).high) = true) := by decide +kernel

/-- A ToD message for second 5 and UTC offset 37 (10 Table 10-2). -/
def tod5 : Bytes := todBytes true 5 37

theorem wit_PulsesAndMessagesGiveSamples :
    (base.portUp = true ∧ base.edgeTooSoon = false ∧
      after (exec .ppsInEdge { base with tod.counter := 9 }) (fun t => t.tod.edgeAt == some t.now && t.tod.edgeTime == 9) = true) ∧
    (let s := { base with tod.edgeAt := some (base.now - 499999999) };
      s.edgeTooSoon = true ∧ after (exec .ppsInEdge s) (fun t => t.tod == s.tod && t.ctr 0x5820 6 2 0 == 1) = true) ∧
    ({ base with tod.edgeAt := some (base.now - 500000000) }.edgeTooSoon = false) ∧
    (let s := { (base.setVal 0x5800 1 0 [2]) with tod.edgeAt := some (base.now - 100000000), tod.edgeTime := 5 * 65536000000000 + 65536 };
      todOk tod5 = some (5, 37) ∧ s.timeSource = 2 ∧ s.sup.up = true ∧ s.tod.edgeNamed = false ∧ s.now - 100000000 + 100000000 ≤ s.now ∧
      s.now ≤ s.now - 100000000 + 900000000 ∧
      after (exec (.todMessage tod5) s) (fun t => t.tod.edgeNamed && t.tod.utc == 37 && t.tod.lastSample == 65536 && t.ctr 0x5820 6 1 0 == 1) = true ∧
      after (exec (.todMessage tod5) { s with now := s.now - 1 }) (fun t => !t.tod.edgeNamed) = true) ∧
    (let s := { base with tod.todPending := true, tod.todSecond := 5, tod.utc := 37 };
      s.tod.todPending = true ∧ s.over s.tod.todAt 200000000 = true ∧ after (exec .todOut s) (fun t => t.out == [.tod (todBytes false 5 37)]) = true) := by decide +kernel

theorem wit_TimeSourcesAndJumps :
    (let s := ((staged 9).setVal 0x5800 1 0 [1]).setVal 0x5810 1 0 [0];
      s.ptpLane = some 0 ∧ s.timeSource = 1 ∧ ((s.lane 0).timeFill + 45 + 4 ≤ 8192) ∧ (s.lane 0).bring.stage = 9 ∧
      s.sup.up = true ∧ s.tod.reqAt = none ∧ s.over 0 (logSeconds (signed 8 (s.cfg 0x5810 3 0))) = true ∧
      s.over s.now (logSeconds (signed 8 (s.cfg 0x5810 3 0))) = false ∧
      after (exec .delayReqInterval { s with tod.reqAt := some s.now }) (fun t => t.lanes == s.lanes && t.tod.dreqSeq == 0) = true ∧
      after (exec .delayReqInterval { s with tod.reqAt := some 0 }) (fun t => t.tod.reqAt == some s.now && (t.lane 0).ch.timeTx.length == 1) = true ∧
      after (exec .delayReqInterval s) (fun t => t.tod.dreqSeq == 1 && (t.lane 0).ch.timeTx.length == 1) = true) ∧
    (let s := { base with tod.state := .locked, tod.qualified := true, tod.run := [3] };
      s.sup.up = true ∧ s.sourceGone = true ∧ { s with tod.state := .unset }.sourceGone = true ∧
      after (exec .sourceLost { s with tod.state := .unset }) (fun t => t.tod.state == .unset) = true ∧ after (exec .sourceLost s) (fun t => t.tod.state == .holdover && !t.tod.qualified && t.tod.run == []) = true ∧
      wOk rq 0x5800 1 0 (u8 2) mk s = true ∧ 2 ≠ s.timeSource ∧ after (exec (.timeSourceWrite rq 2) s) (fun t => t.timeSource == 2 && !t.tod.qualified) = true ∧
      wOk rq 0x5810 1 0 (u8 47) mk s = true ∧ 47 ≠ s.cfg 0x5810 1 0 ∧
      after (exec (.ptpSourceLaneWrite rq 47) { s with tod.delays := [4] }) (fun t => t.cfg 0x5810 1 0 == 47 && t.tod.delays == []) = true) ∧
    (let s := { base with tod.tjr := true };
      wOk rq 0x5800 4 0 (u8 1) mk s = true ∧ wOk rq 0x5800 4 0 (u8 2) mk s = true ∧
      after (exec (.permitStep rq) s) (fun t => t.tod.permit == 1 && answers t == [0]) = true ∧
      after (exec (.permitSlew rq) s) (fun t => t.tod.permit == 2) = true ∧
      wOk rq 0x5800 4 0 (u8 1) mk base = true ∧ after (exec (.permitStep rq) base) (fun t => t.tod.permit == 0 && answers t == [2]) = true) ∧
    (let s := { base with tod.slewing := true, tod.slewFrac := 3 };
      s.tod.slewLeft = 0 ∧ after (exec .slewComplete s) (fun t => !t.tod.slewing && t.tod.slewFrac == 0) = true) ∧
    (let s := { base with tod.slewing := true, tod.slewLeft := 5 };
      s.tod.slewLeft ≠ 0 ∧ after (exec .slewComplete s) (fun t => t.tod == s.tod) = true ∧ s.pending = [] ∧ s.power.portRail = true ∧
      s.power.portFault = false) := by decide +kernel

/-- Lane 0 is in frame lock with a receive stream 3 of circuit 9, handle 21 and slot 2; transmit stream 7 leaves on lane 47. -/
def sealing : State :=
  let s := ((staged 9).modLane 0 fun x => { x with df.frameLock := true }).setVal 0x5C30 1 3 [1, 9, 0, 21, 2, 5, 0];
  { s with sealing.rx := [(3, { live := true, begun := true, state := .synced, failRun := 2 })]
           sealing.slots := [(2, { cur := some ⟨8, 1⟩, pend := some ⟨9, 2⟩, switchAt := 4, mark := 9 })], sealing.kwk := some 5 }

/-- A record of a handle, and the state that has it at hand. -/
def rec0 (handle : Nat) : SealRec := ⟨handle, false, 0, 0⟩
def recorded (handle : Nat) : State := sealing.modLane 0 fun x => { x with ch.sealReady := [(2, rec0 handle)] }

/-- The record of interval 6 of stream 3, whose tag is over no byte, and the stream that is due to have it. -/
def rec6 : SealRec := ⟨21, false, 6, 0xd13393cdd8d25ece502bceeb1bcc8b54⟩
def due6 : State :=
  { (sealing.modLane 0 fun x => { x with ch.sealReady := [(2, rec6)] }) with
    sealing.rx := [(3, { live := true, begun := true, state := .synced, failRun := 2, expected := 7, verified := some 5 })] }

/-- No record of the interval can come any more: frame 127 is past its seal channel. -/
def late : State := sealing.modLane 0 fun x => { x with df.expMfi := 127, df.blockPos := 97 * 896 }

theorem wit_SealRecordsAreJudged :
    ((sealing.lane 0).ch.sealReady.head?.map Prod.snd ≠ some (rec0 21) ∧ after (exec (.sealRecord 0 (rec0 21) true) sealing) (fun t => t.lanes == sealing.lanes && t.cnt == []) = true ∧
      ((recorded 22).lane 0).ch.sealReady.head?.map Prod.snd ≠ some (rec0 21) ∧ after (exec (.sealRecord 0 (rec0 21) true) (recorded 22)) (fun t => t.lanes == (recorded 22).lanes) = true) ∧
    (let s := (recorded 21).modLane 0 fun x => { x with d.los := true };
      s.laneFailed 0 = true ∧ (s.lane 0).ch.sealReady = [(2, rec0 21)] ∧ s.tagAgrees 0 (rec0 21) false = true ∧
      after (exec (.sealRecord 0 (rec0 21) false) s) (fun t => (t.lane 0).ch.sealReady == [] && t.sealing == s.sealing) = true) ∧
    ((recorded 65534).laneFailed 0 = false ∧ 16384 ≤ 65534 ∧ after (exec (.sealRecord 0 (rec0 65534) true) (recorded 65534)) (fun t => t.ctr 0x3050 0xB 0 0 == 1) = true) ∧
    (let s := (recorded 21).modLane 0 fun x => { x with ch.sealSeen := [21] };
      s.laneFailed 0 = false ∧ (s.lane 0).ch.sealSeen.contains 21 = true ∧
      after (exec (.sealRecord 0 (rec0 21) false) s) (fun t => t.ctr 0x3050 9 0 0 == 1 && t.sealing == s.sealing) = true) ∧
    ((recorded 16383).laneFailed 0 = false ∧ ((recorded 16383).lane 0).ch.sealSeen.contains 16383 = false ∧ (recorded 16383).rxByHandle 0 16383 = none ∧
      after (exec (.sealRecord 0 (rec0 16383) true) (recorded 16383)) (fun t => t.ctr 0x3050 0xA 0 0 == 1) = true) ∧
    ((recorded 21).rxByHandle 0 21 = some 3 ∧ ((recorded 21).rxS 3).live = true ∧ ((recorded 21).rxS 3).begun = true ∧
      ((recorded 21).rxS 3).recordIn = false ∧ ((recorded 21).rxS 3).unver = false ∧
      after (exec (.sealRecord 0 (rec0 21) false) (recorded 21)) (fun t => (t.rxS 3).sealf && (t.rxS 3).recordIn && t.ctr 0x5C32 1 2 3 == 1) = true) ∧
    ((sealing.rxS 3).live = true ∧ (sealing.rxS 3).begun = true ∧ (sealing.rxS 3).recordIn = false ∧ (sealing.rxS 3).unver = false ∧
      2 ≤ (sealing.rxS 3).failRun ∧ sealing.recordLate 3 = false ∧ after (exec (.sealRecordDeadline 3) sealing) (fun t => t.sealing == sealing.sealing) = true) ∧
    ((late.lane (late.rxF 3 2)).ch.aisPrev = false ∧ late.recordLate 3 = true ∧ late.sealing = sealing.sealing ∧
      after (exec (.sealRecordDeadline 3) late) (fun t => (t.rxS 3).sealf && (t.rxS 3).state == .acquire && t.ctr 0x5C32 1 3 3 == 1) = true) ∧
    (let s := sealing.modRx 3 fun x => { x with hold := 1 };
      (s.rxS 3).hold = 1 ∧ after (exec (.aisHoldEnd 3) s) (fun t => (t.rxS 3).hold == 0) = true) := by decide +kernel

/-- Wrapped under the key-wrapping key 5: key 77 with serial 10 for slot 2, receiving on lane 0, and key 9 with serial 1 for channel 7. -/
def wrapped2 : Bytes := beBytes 56 0x6ef94573bb13513e1e2f7964bcaa65e5cc77fafcb89ebcde5b80653d7e5520a34b6f6764edeeeb32ff3144e6eeccded0c24c266746d57bc2
def wrapped7 : Bytes := beBytes 56 0xb9150e94f061ab51532209261c9cd48211cff5eaf3324cf3eb33641147f9994cdba8d73d0120c41577013208e2bfd5528379f9ddf24565e1

theorem wit_SealRecordsThatFit :
    due6.laneFailed 0 = false ∧ (due6.lane 0).ch.sealReady = [(2, rec6)] ∧ due6.tagAgrees 0 rec6 true = true ∧ due6.rxByHandle 0 21 = some 3 ∧
      (due6.curKey (due6.rxF 3 4)).isSome = true ∧ (due6.rxS 3).oldKey = false ∧ (due6.rxS 3).verified = some 5 ∧ due6.rxF 3 6 = 0 ∧
      (due6.rxS 3).expected = 7 ∧ (due6.rxS 3).nkPrev = 0 ∧ rec6.newKey = ((due6.rxS 3).nkPrev == 1) ∧
      after (exec (.sealRecord 0 rec6 true) due6) (fun t => (t.rxS 3).recordIn && (t.rxS 3).failRun == 0 && (t.rxS 3).verified == some 6 &&
        t.ctr 0x5C32 1 1 3 == 1) = true ∧
      after (exec (.sealRecord 0 rec6 false) due6) (fun t => t.lanes == due6.lanes) = true := by decide +kernel

theorem wit_KeysAreInstalledTakenOverAndErased :
    (let s := { sealing with fab.superframe := 4 };
      (s.keySlot 2).pend.isSome = true ∧ s.switchDue 2 = true ∧ sealing.switchDue 2 = false ∧
      after (exec (.keySwitch 2) sealing) (fun t => t.sealing == sealing.sealing) = true ∧
      after (exec (.keySwitch 2) s) (fun t => (t.keySlot 2) == { cur := some ⟨9, 2⟩, mark := 9 }) = true) ∧
    (let s := { (sealing.setVal 0x5C10 2 2 [0, 1]) with sealing.slots := [(2, { mark := 9 })] };
      wOk rq 0x5C10 1 2 (wrapped2 ++ beBytes 8 0) mk s = true ∧ s.keysBarred = false ∧ s.bindLane 2 = 0 ∧ s.bindDir 2 = 1 ∧ 0 < s.persist.markFree ∧
      s.sealing.kwk.isSome = true ∧ s.sealing.eraseAlarm = false ∧ (s.keySlot 2).mark < 10 ∧ s.persist.markOk = true ∧ (s.keySlot 2).cur = none ∧
      (s.keySlot 2).pend = none ∧ s.unwrapped wrapped2 = some ⟨10, 2, 0, 1, 77⟩ ∧
      after (exec (.installKey rq 2 wrapped2 0) s) (fun t => t.keySlot 2 == { cur := some ⟨10, 77⟩, mark := 10 } && t.persist.markFree == 8191) = true) ∧
    (let s := { (sealing.setVal 0x5C10 2 2 [0, 1]) with sealing.slots := [(2, { cur := some ⟨8, 1⟩, mark := 9 })] };
      wOk rq 0x5C10 1 2 (wrapped2 ++ beBytes 8 43200) mk s = true ∧ s.unwrapped wrapped2 = some ⟨10, 2, 0, 1, 77⟩ ∧ s.fab.superframe + 2 ≤ 43200 ∧ 43200 ≤ s.fab.superframe + 43200 ∧
      s.keysBarred = false ∧ s.bindLane 2 = 0 ∧ s.bindDir 2 = 1 ∧ (s.keySlot 2).mark < 10 ∧ (s.keySlot 2).cur.isSome = true ∧ (s.keySlot 2).pend = none ∧
      after (exec (.installKey rq 2 wrapped2 43200) s)
        (fun t => t.keySlot 2 == { cur := some ⟨8, 1⟩, pend := some ⟨10, 77⟩, switchAt := 43200, mark := 10 }) = true) ∧
    (let w := wrapped2.set 55 0;
      wOk rq 0x5C10 1 2 (w ++ beBytes 8 0) mk sealing = true ∧ sealing.unwrapped w = none ∧
      (sealing.cfg 0x9020 2 0 = 0 ∨ sealing.sec.authCount + 1 < sealing.cfg 0x9020 2 0) ∧
      after (exec (.installKey rq 2 w 0) sealing) (fun t => answers t == [8] && t.sec.authCount == 1 && t.sealing == sealing.sealing) = true) ∧
    (wOk rq 0x5C10 5 2 (u8 1) mk sealing = true ∧ after (exec (.erasePendingKey rq 2) sealing) (fun t => t.keySlot 2 == { cur := some ⟨8, 1⟩, mark := 9 }) = true ∧
      wOk rq 0x5C10 5 2 (u8 2) mk sealing = true ∧ after (exec (.eraseSlotKey rq 2) sealing) (fun t => t.keySlot 2 == { mark := 9 }) = true) := by decide +kernel

theorem wit_WrappingAndChannelKeysAreInstalled :
    (wOk rq 0x5E00 1 0 (zeros 384) mk sealing = true ∧ sealing.keysBarred = false ∧
      after (exec (.installKwk rq ⟨zeros 384, some 6⟩) sealing) (fun t => t.sealing.kwk == some 6) = true ∧
      (sealing.cfg 0x9020 2 0 = 0 ∨ sealing.sec.authCount + 1 < sealing.cfg 0x9020 2 0) ∧
      after (exec (.installKwk rq ⟨zeros 384, none⟩) sealing) (fun t => t.sealing.kwk == some 5 && t.sec.authCount == 1 && answers t == [8]) = true) ∧
    (let s := sealing.setVal 0x5E10 1 7 [0, 3, 4, 0];
      wOk rq 0x5E10 2 7 wrapped7 mk s = true ∧ s.unwrapped wrapped7 = some ⟨1, 0x8007, 0, 2, 9⟩ ∧ s.cfgF 0x5E10 1 7 0 = 0 ∧ s.chanMark 7 < 1 ∧
      s.keysBarred = false ∧ s.sealing.kwk.isSome = true ∧ s.sealing.eraseAlarm = false ∧ 0 < s.persist.markFree ∧ s.persist.markOk = true ∧
      after (exec (.installChannelKey rq 7 wrapped7) s) (fun t => (t.chan 7).key == some ⟨1, 9⟩ && t.chanMark 7 == 1) = true) := by decide +kernel

/-- Channel 7 has a key and lane 0. -/
def guarded : State := { (sealing.setVal 0x5E10 1 7 [0, 3, 4, 0]) with sealing.channels := [(7, { key := some ⟨1, 9⟩, last := 3 })] }

/-- A channel packet with its length and CRC (02 Table 2-7). -/
def packet (d : Bytes) : Bytes := beBytes 2 d.length ++ d ++ beBytes 2 (crc16 (beBytes 2 d.length ++ d))

/-- Lane 0 with one packet to be taken from its time and its data channel. -/
def arrived (p : Bytes) : State :=
  guarded.modLane 0 fun x => { x with ch.timeRx.ready := [({}, p)], ch.dataRx.ready := [({}, p)] }

theorem wit_GuardedMessagesAndPackets :
    ((guarded.chan 7).key = some ⟨1, 9⟩ ∧ guarded.cfgF 0x5E10 1 7 0 < 48 ∧ (guarded.lane 0).bring.stage = 9 ∧ (guarded.chan 7).queue.length < 16 ∧
      wOk rq 0x5E10 3 7 (zeros 1396) mk guarded = true ∧ upOk 5 (sendReq rq 7 (zeros 1397)) mk guarded = true ∧
      (match guarded.writeCheck (writeReq rq 0x5E10 3 7 (zeros 1397)) 3 with | .ok _ => true | .error _ => false) = true ∧
      wOk rq 0x5E10 3 7 (zeros 3) mk guarded = true ∧ after (exec (.sendMessage rq 7 (zeros 3)) guarded) (fun t => (t.chan 7).next == 2 && (t.chan 7).queue.length == 1 && t.ctr 0x5E10 4 3 7 == 0) = true) ∧
    (packetData 512 [0, 1, 2] = none ∧ after (exec (.channelPacket 0 .time) (arrived [0, 1, 2])) (fun t => t.ctr 0x3050 7 0 0 == 1) = true ∧
      packetData 512 (packet [9]) = some [9] ∧
      field [9] 0 1 ≠ 1 ∧
      after (exec (.channelPacket 0 .time) (arrived (packet [9]))) (fun t => (t.lane 0).ch.oddTypes == 1 && t.cnt == []) = true ∧
      (arrived [0, 1, 2]).sup.up = true ∧ packetData 1536 [0, 1, 2] = none ∧
      after (exec (.channelPacket 0 .data) (arrived [0, 1, 2])) (fun t => t.ctr 0x3050 7 0 0 == 1 && (t.lane 0).ch.dataRx.ready == []) = true) ∧
    (let d : Bytes := [0x17] ++ beBytes 8 4 ++ zeros 17;
      (arrived (packet d)).sup.up = true ∧ (arrived (packet d)).cfgF 0x5E10 1 7 0 = 0 ∧ ((arrived (packet d)).chan 7).key = some ⟨1, 9⟩ ∧
      packetData 1536 (packet d) = some d ∧ field d 0 1 = 0x10 + 7 ∧ 25 ≤ (d.drop 1).length ∧ (guarded.chan 7).last < field (d.drop 1) 0 8 ∧
      ((arrived (packet d)).lane 0).ch.dataRx.ready = [({}, packet d)] ∧
      after (exec (.channelPacket 0 .data) (arrived (packet d))) (fun t => t.ctr 0x5E10 4 6 7 == 1 && (t.chan 7).last == 3) = true) := by decide +kernel

theorem wit_StreamsAreConfigured :
    (let s := sealing.setVal 0x5C10 2 6 [47, 0];
      wOk rq 0x5C20 1 65535 (joinFields [1, 4, 1, 1, 2, 2, 4] [1, 9, 14, 47, 16383, 6, 5]) mk s = true ∧ s.boundTo 6 47 0 = true ∧ s.txUser 65535 = none ∧
      s.txStreams = [] ∧
      after (exec (.transmitStreamWrite rq 65535 (joinFields [1, 4, 1, 1, 2, 2, 4] [1, 9, 14, 47, 16383, 6, 5])) s)
        (fun t => t.val 0x5C20 1 65535 == [1, 9, 14, 47, 16383, 6, 5] && answers t == [0]) = true) ∧
    (let s := sealing.setVal 0x5C10 2 6 [47, 1];
      wOk rq 0x5C30 1 0 (joinFields [1, 4, 1, 2, 2, 4, 1] [1, 9, 47, 1, 6, 5, 0]) mk s = true ∧ s.boundTo 6 47 1 = true ∧ s.rxUser 0 = none ∧
      (∀ i ∈ s.rxStreams, i ≠ 0 → (s.rxF i 2 ≠ 47 ∨ s.rxF i 3 ≠ 1) ∧ (s.rxF i 4 ≠ 6 ∨ s.rxF i 5 ≠ 5)) ∧
      after (exec (.receiveStreamWrite rq 0 (joinFields [1, 4, 1, 2, 2, 4, 1] [1, 9, 47, 1, 6, 5, 0])) s)
        (fun t => t.val 0x5C30 1 0 == [1, 9, 47, 1, 6, 5, 0] && answers t == [0]) = true) := by decide +kernel

/-- Keys, a KWK and a channel key are held, and a feed is good. -/
def keyed : State := { guarded with power.valid := [true, true] }

/-- No key, no session and no handshake is left, with the erasure's cause. -/
def bare (cause : Nat) (t : State) : Bool :=
  t.sealing.slots.all (fun e => e.2.cur.isNone && e.2.pend.isNone) && t.sealing.channels.all (fun e => e.2.key.isNone) && t.sealing.kwk.isNone
    && t.mgmt.sessions.isEmpty && t.mgmt.handshakes.isEmpty && t.sealing.eraseCause == cause

theorem wit_ErasureTakesEveryKey :
    (wOk rq 0x5C40 1 0 [0x5A] mk keyed = true ∧ (keyed.keySlot 2).cur.isSome = true ∧
      after (exec (.eraseAllKeys rq 0x5A) keyed) (fun t => bare 0 t && t.ctr 0x5C40 2 3 0 == 1) = true) ∧
    (keyed.power.supRail = true ∧ keyed.sec.loopOpen = false ∧ after (exec (.tamperDetected .loop) keyed) (fun t => bare 1 t && t.sec.latched) = true) ∧
    (let s := keyed.setVal 0x9020 1 0 [1];
      s.cfg 0x9020 1 0 = 1 ∧ s.sec.pinLow = false ∧ after (exec (.tamperDetected .pin) s) (fun t => bare 1 t && t.sec.pinLow) = true) ∧
    (let s := keyed.setVal 0x9020 1 0 [0];
      s.sec.pinLow = false ∧ s.cfg 0x9020 1 0 ≠ 1 ∧ after (exec (.tamperDetected .pin) s) (fun t => t.sec.pinLow && t.sealing == s.sealing) = true) ∧
    (let x : Temps := ⟨0, 11001, 0, 0, 0, 0⟩;
      11000 < moduleTemp x ∧ moduleTemp x ≤ 11500 ∧ keyed.sec.hot = false ∧ after (exec (.temperatureSample x) keyed) (fun t => bare 2 t && t.sec.hot) = true) ∧
    (let x : Temps := ⟨0, -4501, -4501, -4501, -4501, 0⟩;
      moduleTemp x < -4500 ∧ after (exec (.temperatureSample x) keyed) (fun t => bare 2 t && t.sec.hot) = true) ∧
    (keyed.railFed .portDie = true ∧ keyed.sec.volt.contains .portDie = false ∧ after (exec (.voltageExcursion .portDie) keyed) (fun t => bare 3 t && t.sec.volt == [.portDie]) = true) ∧
    (keyed.monitored .sysClock = true ∧ after (exec (.glitchDetected .sysClock) keyed) (fun t => bare 4 t && t.ctr 0x9020 5 4 0 == 1) = true) := by decide +kernel

theorem wit_EnvironmentFollowsItsInputs :
    after (exec (.tamperConditionEnded .loop) { base with sec.loopOpen := true }) (fun t => !t.sec.loopOpen) = true ∧
    after (exec (.tamperConditionEnded .pin) { base with sec.pinLow := true }) (fun t => !t.sec.pinLow) = true ∧
    after (exec (.voltageConditionEnded .portDie) { base with sec.volt := [.portDie] }) (fun t => t.sec.volt == []) = true ∧
    (-4500 ≤ moduleTemp ⟨0, 11000, 0, 0, 0, 0⟩ ∧ moduleTemp ⟨0, 11000, 0, 0, 0, 0⟩ ≤ 11000 ∧ -4500 ≤ moduleTemp ⟨0, -4500, -4500, -4500, -4500, 0⟩ ∧
      after (exec (.temperatureSample ⟨0, 11000, 0, 0, 0, 0⟩) { base with sec.hot := true }) (fun t => !t.sec.hot) = true) ∧
    (let s := { base with sec.authCount := 3 };
      s.sec.authCount ≠ 0 ∧ s.over s.sec.authAt (secs 600) = true ∧ after (exec .authCountDecay s) (fun t => t.sec.authCount == 2 && t.sec.authAt == s.now) = true) ∧
    (let s := { base with sec.latched := true };
      wOk rq 0x9020 4 0 [0x5A] mk s = true ∧ s.sec.loopOpen = false ∧ s.pinTampers = false ∧ after (exec (.clearTamper rq 0x5A) s) (fun t => !t.sec.latched && answers t == [0]) = true) := by
  decide +kernel

/-- An enrolment record of an installer with serial 5 (15 Table 15-2). -/
def installer5 : Bytes := beBytes 8 5 ++ [2] ++ zeros 3 ++ zeros 32 ++ [0x80] ++ zeros 383 ++ beBytes 4 65537

/-- Go on with a number once it is evaluated. -/
def force {α : Type} (c : Nat) (k : Nat → α) : α := match c with | 0 => k 0 | n + 1 => k (n + 1)

theorem force_eq {α : Type} (c : Nat) (k : Nat → α) : force c k = k c := by cases c <;> rfl

/-- The CRC-16, evaluated byte by byte. -/
def crcEager : Nat → Bytes → Nat
  | c, [] => c
  | c, b :: bs => force (crcByte 16 0x1021 c b) fun c => crcEager c bs

theorem crcEager_eq (c : Nat) (b : Bytes) : crcEager c b = crc 16 0x1021 c b := by
  induction b generalizing c with
  | nil => rfl
  | cons x xs ih => simp [crcEager, force_eq, ih, crc]

/-- The commissioning frame that carries it (15 R393). -/
def frame5 : Bytes := beBytes 2 0x434D ++ beBytes 2 432 ++ installer5 ++ beBytes 2 (crcEager 0xFFFF (beBytes 2 0x434D ++ beBytes 2 432 ++ installer5))

theorem wit_CertificatesMakersAndTheJournal :
    (recordOk installer5 = true ∧ field installer5 0 8 = 5 ∧ base.sec.mark < 5 ∧ base.sec.certs.length < 128 ∧ base.persist.enrolOk = true ∧ wOk rq 0x9010 1 0 installer5 mk base = true ∧
      after (exec (.enrolCertificate rq installer5) base) (fun t => t.sec.mark == 5 && t.sec.certs.length == 2) = true) ∧
    (base.certsOf 2 = 0 ∧ frame5.length = 438 ∧ field frame5 436 2 = crcEager 0xFFFF (frame5.take 436) ∧ (frame5.drop 4).take 432 = installer5 ∧
      field frame5 0 2 = 0x434D ∧ field frame5 2 2 = 432) ∧
    (let s := { base with sec.certs := [⟨1, 3, [], [], 65537, 0⟩, ⟨7, 3, [], [], 65537, 0⟩] };
      (beBytes 8 7).length = 8 ∧ mk.role = 3 ∧ wOk rq 0x9010 2 0 (beBytes 8 7) mk s = true ∧ s.sec.certs.find? (fun c => c.serial == 7) = some ⟨7, 3, [], [], 65537, 0⟩ ∧
      after (exec (.revokeCertificate rq 7) s) (fun t => t.sec.certs.length == 1 && t.mgmt.sessions == []) = true) ∧
    (wOk rq 0x9000 1 0 [0] mk base = true ∧ wOk rq 0x9000 1 0 [1] mk base = true ∧
      after (exec (.makerAccessWrite rq 0) base) (fun t => t.cfg 0x9000 1 0 == 0 && t.mgmt.sessions == []) = true ∧
      after (exec (.makerAccessWrite rq 1) base) (fun t => t.cfg 0x9000 1 0 == 1 && t.mgmt.sessions.length == 1) = true) ∧
    (let s := { base with sec.buffer := [{ seq := 1 }, { seq := 2 }], sec.nextSeq := 3 };
      s.power.supRail = true ∧ after (exec (.auditFlush true) s) (fun t => t.sec.buffer == [] && t.sec.audit == [{ seq := 1 }, { seq := 2 }]) = true ∧
      after (exec (.auditFlush false) s) (fun t => t.sec.buffer.length == 2 && t.ctr 0x9030 1 5 0 == 1) = true ∧
      wOk rq 0x9030 3 0 (beBytes 8 9) mk s = true ∧ after (exec (.markRead rq 9) s) (fun t => t.sec.readTo == 2 && answers t == [0]) = true) := by
  decide +kernel

theorem wit_CommissioningFrame :
    base.sup.up = true ∧ base.certsOf 2 = 0 ∧ frame5.length = 438 ∧ field frame5 0 2 = 0x434D ∧ field frame5 2 2 = 432 ∧
    field frame5 436 2 = crc16 (frame5.take 436) ∧ recordOk ((frame5.drop 4).take 432) = true ∧ field ((frame5.drop 4).take 432) 8 1 = 2 ∧
    base.sec.mark < field ((frame5.drop 4).take 432) 0 8 ∧ base.sec.certs.length < 128 ∧ base.persist.enrolOk = true ∧ base.sec.buffer.length < 256 := by
  rw [crc16, ← crcEager_eq]
  decide +kernel

theorem wit_ImagesTrialsAndReports :
    (base.imageValid 0 = true ∧ base.power.supRail = true ∧ base.power.seated = true ∧ base.power.portRail = true ∧ wOk rq 0x1030 2 0 (u8 0) mk base = true ∧
      after (exec (.startTrial rq 0) base) (fun t => !t.sup.up && t.sup.lastCause == 4 && t.mgmt.sessions == [] && answers t == [0]) = true) ∧
    (let s := { base with sec.header.pendA := true, sec.slotA.secVersion := 6 };
      wOk rq 0x1030 3 0 [0x5A] mk s = true ∧ s.sec.running < 2 ∧ s.sec.header.pend s.sec.running = true ∧
      after (exec (.confirmImage rq 0x5A) s) (fun t => !t.sec.header.pendA && t.sec.floor == 6 && answers t == [0]) = true) ∧
    (wOk rq 0x1030 4 0 [0x5A] mk base = true ∧
      after (exec (.enterRecovery rq 0x5A) base) (fun t => t.sup.state == 3 && t.sec.running == 255) = true) ∧
    (wOk rq 0x9040 1 0 (zeros 32) mk base = true ∧
      after (exec (.attestationNonce rq (zeros 32)) base) (fun t => tget {} t.sec.reports 1 == { nonce := zeros 32, since := base.now }) = true) ∧
    (let s := { base with sec.reports := [(1, { nonce := zeros 32 })] };
      s.serves = true ∧ (s.session? 1).isSome = true ∧ (tget {} s.sec.reports 1).nonce ≠ [] ∧ (tget {} s.sec.reports 1).report = none ∧ after (exec (.attestationReportReady 1) s) (fun t => (tget {} t.sec.reports 1).report.isSome) = true) := by
  decide +kernel

theorem wit_BoundariesBeginFrames :
    (base.portUp = true ∧ base.edit.armed = none ∧ base.lease.holder = none ∧
      after (exec (.internalFrameBoundary ⟨[], []⟩) { base with fab.mfi := 127, fab.sfi := 124, fab.active := [{ handle := 3 }] })
      (fun t => t.fab.frameNo == 1 && t.fab.mfi == 0 && t.fab.sfi == 0 && t.out.contains .fp8k && t.fab.active == [{ handle := 3 }]) = true) ∧
    (let s := { base with tim.realignAt := some 4, tod.counter := 4 * tcSecond, sealing.slots := [(2, { pend := some {} })] };
      s.portUp = true ∧ 4 * tcSecond ≤ s.tod.counter ∧
      after (exec (.realignment []) s) (fun t => t.fab.superframe == 2 && t.tim.aligned && t.tim.realignAt == none && (t.keySlot 2).pend == none && t.ctr 0x5460 4 4 0 == 1) = true ∧
      after (exec (.realignment []) { s with tod.counter := s.tod.counter - 1 }) (fun t => !t.tim.aligned) = true) := by decide +kernel

theorem wit_SecondsAreLatchedAndClassified :
    (let s := { staged 9 with tod.counter := 5 * tcSecond, tod.secondNo := 4, pm.near := [(0, { raw := { errored := 2400 } })] };
      s.sup.up = true ∧ s.portUp = true ∧ s.second ≠ s.tod.secondNo ∧ s.enabled 0 = true ∧ (s.mon (.near 0)).latched = none ∧
      after (exec .secondBoundary s) (fun t => t.tod.secondNo == 5 && (t.mon (.near 0)).latched == some { errored := 2400, unlocked := true } && (t.mon (.near 0)).latchedAt == 4) = true) ∧
    (let s := { base with pm.near := [(47, { latched := some { errored := 2399 }, latchedAt := 4 })] };
      s.cogRuns (.near 47) = true ∧ after (exec (.secondClassify (.near 47)) s) (fun t => (t.mon (.near 47)).queue.map (fun q => (q.cls, q.bbe, q.start)) == [(2, 2399, 4)]) = true ∧
      after (exec (.secondClassify (.near 47)) { base with pm.near := [(47, { latched := some { errored := 2400 } })] })
        (fun t => (t.mon (.near 47)).queue.map Second.cls == [3]) = true) ∧
    (let s := { base with pm.far := [(3, { latched := some { errored := 1, slip := true } })], pm.stream := [(9, { latched := some { errored := 19 } })] };
      s.cogRuns (.far 3) = true ∧ s.cogRuns (.stream 9) = true ∧ s.nearDefect (.far 3) = false ∧ s.nearDefect (.stream 9) = false ∧
      after (exec (.secondClassify (.far 3)) s) (fun t => (t.mon (.far 3)).queue.map Second.cls == [2]) = true ∧
      after (exec (.secondClassify (.stream 9)) s) (fun t => (t.mon (.stream 9)).queue.map Second.cls == [3]) = true) ∧
    (let s := { base with pm.near := [(47, { latched := some { off := true, errored := 2400 }, latchedAt := 4 })] };
      after (exec (.secondClassify (.near 47)) s) (fun t => (t.mon (.near 47)).queue.map Second.cls == [0]) = true ∧
      after (exec (.secondClassify (.near 46)) s) (fun t => t.pm == s.pm) = true ∧
      (let u := s.modCog (entCog (.near 47)) fun x => { x with state := 1 };
        u.cogRuns (.near 47) = false ∧ after (exec (.secondClassify (.near 47)) u) (fun t => t.pm == u.pm) = true)) := by decide +kernel

theorem wit_SecondsAreCommittedAndBinsDrained :
    (let s := { base with pm.near := [(0, { queue := [{ start := 900, ended := 0, cls := 1 }] })], pm.quarter := 0 };
      s.entities = [.near 0] ∧ s.cogRuns (.near 0) = true ∧ (s.mon (.near 0)).unavail = false ∧
      s.cogServes 0 = true ∧ s.over 0 10000000000 = true ∧ s.cfg 0x6000 2 0 = s.pm.offset ∧
      after (exec .secondCommit s) (fun t => (t.mon (.near 0)).queue == [] && (t.mon (.near 0)).lastCls == 1 && (t.mon (.near 0)).q15.elapsed == 1
        && (t.mon (.near 0)).q15.start == 900) = true) ∧
    (let s := { base with pm.draining := true, pm.near := [(0, { closed15 := [{ used := true, es := 1 }] })] };
      s.pm.wheels.length = 0 ∧ Entity.near 0 ∈ s.entities ∧ entWheel (.near 0) = 0 ∧
      after (exec (.wheelDrain 0) s) (fun t => (t.mon (.near 0)).closed15 == [] && (t.mon (.near 0)).hist15.length == 1 && t.pm.draining) = true ∧
      after (exec (.wheelDrain 15) { s with pm.wheels := (List.finRange 16).take 15 }) (fun t => !t.pm.draining && t.ctr 0x6040 1 5 0 == 1) = true ∧
      after (exec (.wheelDrain 1) s) (fun t => t.pm == s.pm) = true) := by decide +kernel

theorem wit_RestartsStopClassification :
    (let s := { staged 9 with sup.up := false, tod.counter := 5 * tcSecond, tod.secondNo := 4, pm.near := [(0, { latched := some {}, queue := [{}] })] };
      s.sup.up = false ∧ s.portUp = true ∧ s.second ≠ s.tod.secondNo ∧ s.enabled 0 = true ∧
      after (exec (.secondClassify (.near 0)) s) (fun t => t.pm == s.pm) = true ∧ after (exec .secondCommit s) (fun t => t.pm == s.pm) = true ∧
      after (exec .secondBoundary s) (fun t => (t.mon (.near 0)).latched == none && (t.mon (.near 0)).queue.length == 3) = true) := by decide +kernel

theorem wit_CountersAreCleared :
    (let s := (base.count 0x5020 4 0 0).count 0x5030 2 0 0;
      wOk rq 0x6F00 1 0 (beBytes 2 0x5020 ++ beBytes 4 0) mk s = true ∧ s.reachable 0x5020 = true ∧
      (∃ o ∈ objsOfIndex 0x5020, o.ctrs ≠ [] ∧ s.elemOf o 0 = none) ∧ s.ctr 0x5020 4 0 0 = 1 ∧
      after (exec (.clearCounters rq 0x5020 0) s) (fun t => t.ctr 0x5020 4 0 0 == 0 && t.ctr 0x5030 2 0 0 == 1 && answers t == [0]) = true) ∧
    (let s := standby .cold;
      s.reachable 0x4820 = true ∧ wOk rq 0x6F00 1 0 (beBytes 2 0x4820 ++ beBytes 4 1) mk s = true ∧ (s.engine 1).state.coreOn = false ∧
      after (exec (.clearCounters rq 0x4820 1) s) (fun t => answers t == [2]) = true ∧ base.coldTarget 0x5020 0 = none) ∧
    (let s := { base with pm.near := [(47, { q15 := { used := true, start := 900, es := 3 } })] };
      wOk rq 0x6F00 1 0 (beBytes 2 0x6010 ++ beBytes 4 47) mk s = true ∧ s.reachable 0x6010 = true ∧
      after (exec (.clearCounters rq 0x6010 47) s) (fun t => (t.mon (.near 47)).q15 == { used := true, start := 900, flags := 17 }) = true) := by decide +kernel

theorem wit_RestartsKeepTheTrafficAndEnd :
    (sealing.power.supRail = true ∧ sealing.power.seated = true ∧
      after (exec (.supervisorRestart .command) sealing) (fun t => !t.sup.up && t.mgmt.sessions == [] && t.sealing == sealing.sealing && t.lanes == sealing.lanes && t.ctr 0x8000 1 3 0 == 1) = true ∧
      wOk rq 0x8000 2 0 [0x5A] mk sealing = true ∧
      after (exec (.restartSupervisor rq 0x5A) sealing) (fun t => !t.sup.up && t.sup.lastCause == 4 && answers t == [0]) = true ∧
      after (exec .lockstepMismatch sealing) (fun t => t.sup.lastCause == 1 && t.ctr 0x8000 3 2 0 == 1) = true ∧
      sealing.watchdogDue = true ∧ after (exec .headWatchdog sealing) (fun t => t.sup.lastCause == 2) = true ∧
      (let s := { sealing with sec.header.pendA := true, sup.state := 0 };
        { s with sup.handoffAt := s.now - 60000000000 }.watchdogDue = true ∧ { s with sup.handoffAt := s.now - 59999999999 }.watchdogDue = false ∧
        after (exec .headWatchdog { s with sup.handoffAt := s.now - 59999999999 }) (fun t => t.sup.up && t.sup.lastCause == s.sup.lastCause) = true) ∧
      after (exec (.scratchpadEccUncorrectable 63 .firmware) sealing) (fun t => t.sup.lastCause == 5 && t.ctr 0x8120 3 0 63 == 1) = true ∧
      after (exec (.scratchpadEccUncorrectable 63 .other) sealing) (fun t => t.sup.up && t.ctr 0x8120 3 0 63 == 1) = true) ∧
    (let s := { sealing with sup.up := false, sup.restarting := true, fab.active := [{ handle := 1 }] };
      s.sup.restarting = true ∧ s.edit.armed = none ∧ s.power.portRail = true ∧
      after (exec .supervisorRestartComplete s) (fun t => t.sup.up && t.sup.state == 1 && t.fab.shadow == [{ handle := 1 }]) = true ∧
      after (exec .supervisorRestartComplete { s with edit.armed := some {} }) (fun t => t.sup.up && t.fab.shadow == []) = true ∧
      after (exec .portDieFault s) (fun t => !t.portUp && t.lanes == [] && (t.keySlot 2).cur == none && t.sealing.kwk == some 5 && t.fab.active == [{ handle := 1 }]) = true) := by
  decide +kernel

/-- What a reset master showed. -/
def reset5 : ResetObs := ⟨1, 2, 3, 4⟩

theorem wit_CogsMatrixAndAudit :
    (base.sup.up = true ∧ (base.cog 255).state = 0 ∧ ((base.cog 255).faults.filter fun b => !base.over b 3600000000000).length < 2 ∧ after (exec (.cogWatchdogExpiry 255) base) (fun t => (t.cog 255).state == 1 && (t.cog 255).lastFault == 1 && t.ctr 0x8010 2 0 255 == 1) = true ∧
      after (exec (.cogFault 0 .refusedAccess) base) (fun t => (t.cog 0).state == 1 && (t.cog 0).lastFault == 3 && t.ctr 0x8200 2 4 7 == 1) = true ∧
      (let s := base.modCog 7 fun x => { x with faults := [base.now, base.now] };
        (s.cog 7).state = 0 ∧ (s.cog 7).second = false ∧ s.power.supRail = true ∧ s.power.seated = true ∧
        2 ≤ ((s.cog 7).faults.filter fun b => !s.over b 3600000000000).length ∧
        after (exec (.cogWatchdogExpiry 7) s) (fun t => !t.sup.up && t.sup.lastCause == 3) = true) ∧
      after (exec (.cogReloaded 7) (base.modCog 7 fun x => { x with state := 1 })) (fun t => (t.cog 7).state == 0) = true) ∧
    (led.sup.up = true ∧ led.lease.admitted = true ∧ led.cogServes 239 = true ∧ led.fab.copyBusy = false ∧
      after (exec (.mapAuditPass [4, 5] 800) led) (fun t => t.sup.auditMs == 800 && t.ctr 0x8030 1 0 0 == 2 && t.sup.auditBad) = true ∧
      after (exec (.mapAuditPass [] 800) led) (fun t => t.ctr 0x8030 2 1 0 == 1 && !t.sup.auditBad) = true) ∧
    (base.power.supRail = true ∧ { base with sup.state := 2 }.sup.state ≠ 1 ∧ after (exec (.matrixTimeout 22 15) { base with sup.state := 2 }) (fun t => t.ctr 0x8200 3 2 15 == 1 && t.ctr 0x8200 2 4 22 == 1 && t.parkedOn 15 == 22) = true ∧
      { base with sup.state := 2 }.mayReach 22 15 = true ∧
      dmaClass 4 = true ∧ dmaClass 22 = false ∧ base.mayReach 1 7 = true ∧ base.mayReach 6 0 = false ∧ { base with sup.state := 3 }.mayReach 6 13 = true ∧
      base.mayReach 1 13 = false ∧ base.mayReach 22 12 = false ∧ base.mayReach 0 12 = false ∧
      after (exec (.matrixTimeout 1 13) base) (fun t => t.ctr 0x8200 3 2 13 == 0 && t.ctr 0x8200 3 3 13 == 1 && t.ctr 0x8200 2 4 1 == 1) = true ∧
      base.parkedOn 13 = 5 ∧ after (exec (.masterReset 5 reset5) base) (fun t => t.ctr 0x8200 2 3 5 == 1) = true ∧
      (let s := { base with sup.state := 2 };
        s.parkedOn 13 = 5 ∧ after (exec (.masterReset 5 reset5) s) (fun t => t.parkedOn 13 == 255) = true)) ∧
    (base.over base.sup.windowAt (base.cfg 0x8300 1 0 * 1000000) = true ∧
      after (exec (.bandwidthWindowEnd [⟨47, 1, 2, 3, 4⟩]) base) (fun t => t.ctr 0x8310 1 0 47 == 1 && t.ctr 0x8310 4 0 47 == 4 && t.ctr 0x8310 1 0 0 == 0) = true ∧
      wOk rq 0x8300 1 0 (beBytes 2 10) mk base = true ∧
      after (exec (.bandwidthWindowWrite rq 10) (base.count 0x8310 1 0 47)) (fun t => t.cfg 0x8300 1 0 == 10 && t.ctr 0x8310 1 0 47 == 0) = true) := by decide +kernel

theorem wit_TheBolterMarches :
    (let s := (base.modBank 63 fun x => { x with power := 2 });
      s.nextBank 0 = some 63 ∧ s.over s.sup.passAt (3600 * s.cfg 0x8110 1 0 * 1000000000) = false ∧
      s.sup.up = true ∧ s.sup.passing = false ∧
      (let u := { s with now := 9000000000000000 };
        u.over u.sup.passAt (3600 * u.cfg 0x8110 1 0 * 1000000000) = true ∧ after (exec .marchPassDue u) (fun t => t.sup.passing && t.sup.bolterBank == 63) = true) ∧
      wOk rq 0x8110 3 0 [0x5A] mk s = true ∧ after (exec (.startMarchPass rq 0x5A) s) (fun t => t.sup.passing && t.sup.bolterBank == 63 && answers t == [0]) = true ∧
      (let u := { s with sup.passing := true, sup.bolterBank := 63 };
        u.sup.bolterSlice = 0 ∧ u.sup.suspendedAt = none ∧ (u.bank 63).suspended + 1 < 16 ∧ { u with sup.suspendedAt := some 0 }.over 0 10000 = true ∧
        u.retired < 8 ∧ u.sup.banks.Pairwise (fun a b => a.1 < b.1) ∧
        after (exec (.marchSlice 63 0 .passed) u) (fun t => t.sup.bolterSlice == 1) = true ∧
        after (exec (.marchSlice 63 0 .suspended) u) (fun t => t.sup.suspendedAt == some t.now && t.ctr 0x8110 2 5 0 == 1) = true ∧
        after (exec (.marchSlice 63 0 .failed) u) (fun t => (t.bank 63).retired && !t.sup.passing) = true ∧
        after (exec .sliceResume { u with sup.suspendedAt := some 0 }) (fun t => t.sup.suspendedAt == none) = true)) := by decide +kernel

/-- A message of a kind for a session, with a sequence and a body. -/
def hdr (kind session sequence : Nat) (body : Bytes) : Hdr := ⟨1, kind, 16 + body.length, session, sequence, 16 + body.length, body⟩

/-- Nobody may be rejected, and one handshake is pending. -/
def greeted : State :=
  { (base.setVal 0x9000 1 0 [1]) with mgmt.handshakes := [(9, { addr := 1, port := 2, since := base.now })], mgmt.opens := 8 }

theorem wit_HandshakesOpenSessions :
    (base.serves = true ∧ hdrOk (hdr 5 0 0 (zeros 24)) 5 = true ∧ (base.rate 1).identity < 100 ∧
      hdrOk (hdr 5 0 0 (zeros 23)) 5 = false ∧ hdrOk (hdr 1 0 0 (zeros 1)) 1 = false ∧ hdrOk (hdr 3 0 0 (zeros 807)) 3 = false ∧
      hdrOk (hdr 0x10 0 0 (zeros 39)) 0x10 = false ∧
      after (exec (.identity (hdr 5 0 0 (zeros 24)) ⟨1, 2⟩ 1 (rec_ 0x1000 3 0 0)) base) (fun t => t.out == [.identityReply
        { op := 0x81, tag := 5, index := 0x1000, sub := 3, value := [0, 0x30] }] && (t.rate 1).identity == 1) = true) ∧
    (let s := { base with mgmt.rates := [{ addr := 1, second := base.now / 1000000000, identity := 100 }] };
      s.serves = true ∧ 100 ≤ (s.rate 1).identity ∧ after (exec (.identity (hdr 5 0 0 (zeros 24)) ⟨1, 2⟩ 1 (rec_ 0x1000 3 0 0)) s) (fun t => t.out == [] && t.ctr 0x9130 4 6 0 == 1) = true) ∧
    (greeted.serves = true ∧ hdrOk (hdr 1 0 0 []) 1 = true ∧ greeted.mgmt.handshakes.length < 16 ∧ greeted.freeId = 10 ∧ greeted.freeId ≤ 0xFFFFFFFE ∧
      after (exec (.hello (hdr 1 0 0 []) ⟨1, 3⟩) greeted) (fun t => t.mgmt.handshakes.map Prod.fst == [9, 10] && t.fresh == 1) = true) ∧
    (hdrOk (hdr 3 9 0 (zeros 808)) 3 = true ∧ greeted.mgmt.sessions.length < 64 ∧ greeted.pendingFrom 9 ⟨1, 2⟩ = true ∧ (greeted.sec.certs.find? fun c => c.serial == 1 && greeted.mayOpen c).isSome = true ∧
      after (exec (.openSession (hdr 3 9 0 (zeros 808)) ⟨1, 2⟩ 1 true true 77) greeted) (fun t => (t.session? 9).isSome && t.mgmt.handshakes == [] && t.out.length == 2) = true ∧
      greeted.pendingFrom 9 ⟨1, 3⟩ = false ∧
      after (exec (.openSession (hdr 3 9 0 (zeros 808)) ⟨1, 3⟩ 1 true true 77) greeted) (fun t => t.out == [.reject 9 2 0x42] && t.mgmt == greeted.mgmt) = true) ∧
    after (exec (.handshakeLapse 9) { greeted with now := greeted.now + 5000000000 }) (fun t => t.mgmt.handshakes == []) = true := by decide +kernel

/-- The SECURE messages with 24 zero bytes of session 1 under key 0, by their sequences. -/
def said (sequence : Nat) : Hdr :=
  hdr 0x10 1 sequence (beBytes 40 (match sequence with
    | 5 => 0x601e054d436fe4f72e6af37db06d463f167c81510e0d49df8ab9c892b9903d6329e2a5189828f764
    | 70 => 0x383078fa82520d6614040a5f918272a4104a50cf1906179337b114386a18706a594993dc8188b629
    | _ => 0xa9aa5643b6f80b45155663ace9115627459eef5e087430189a9314748ca51491f77aa341f865d906))

theorem wit_SessionsServeAndClose :
    (let s := { base with mgmt.sessions := [(1, { mk with recvMax := 70, recvSeen := [70, 69] })] };
      (mk.fresh 0 = true) ∧ s.serves = true ∧ hdrOk (said 71) 0x10 = true ∧ s.session? 1 = some { mk with recvMax := 70, recvSeen := [70, 69] } ∧
      mk.addr = 1 ∧ mk.port = 2 ∧ mk.role ≠ 0 ∧ { mk with recvMax := 70, recvSeen := [70, 69] }.fresh 71 = true ∧
      { mk with recvMax := 70, recvSeen := [70, 69] }.fresh 70 = false ∧
      mk.opens (said 71) = true ∧ mk.opens (said 70) = true ∧ mk.opens (said 72) = false ∧
      after (exec (.secure (said 71) ⟨1, 2⟩ false) s) (fun t => t.cnt == s.cnt && t.mgmt == s.mgmt) = true ∧
      after (exec (.secure (said 71) ⟨1, 2⟩ true) s) (fun t => (t.session? 1).map (fun x => (x.recvMax, x.recvSeen)) == some (71, [71, 70, 69])) = true ∧
      after (exec (.secure (said 70) ⟨1, 2⟩ true) s) (fun t => t.ctr 0x9130 4 3 0 == 1) = true ∧
      after (exec (.secure (said 5) ⟨1, 2⟩ true) s) (fun t => t.ctr 0x9130 4 3 0 == 1) = true ∧
      after (exec (.secure (said 72) ⟨1, 2⟩ false) s) (fun t => t.ctr 0x9130 4 2 0 == 1) = true) ∧
    (upOk 0x20 (rec_ 0 0 0 0) mk base = true ∧ after (exec (.nop (rec_ 0 0 0 0)) base) (fun t => answers t == [0] && t.mgmt.kept.length == 1) = true ∧
      upOk 0x21 (rec_ 0 0 0 0) mk base = true ∧ after (exec (.close (rec_ 0 0 0 0)) base) (fun t => answers t == [0] && t.mgmt.sessions == []) = true) ∧
    after (exec (.keptResponseExpiry 1 5) { base with mgmt.kept := [{ session := 1, req := rec_ 0 0 0 0 }] }) (fun t => t.mgmt.kept == []) = true ∧
    (let s := { base with mgmt.sessions := [(1, mk), (7, mk)] };
      wOk rq 0x9130 3 7 [0x5A] mk s = true ∧ after (exec (.closeSession rq 7 0x5A) s) (fun t => t.mgmt.sessions.map Prod.fst == [1]) = true ∧
      s.session? 1 = some mk ∧ s.over mk.lastAt (s.cfg 0x9100 3 0 * 1000000000) = true ∧ after (exec (.sessionIdleTimeout 1) s) (fun t => t.mgmt.sessions.map Prod.fst == [7]) = true) ∧
    (wOk rq 0x9100 1 0 (beBytes 16 5 ++ [64] ++ zeros 16) mk base = true ∧
      after (exec (.managementAddressWrite rq (beBytes 16 5 ++ [64] ++ zeros 16)) base) (fun t => t.val 0x9100 1 0 == [5, 64, 0] && t.mgmt.sessions == []) = true ∧
      wOk rq 0x9100 2 0 (beBytes 2 7000) mk base = true ∧
      after (exec (.unrynPortWrite rq 7000) base) (fun t => t.cfg 0x9100 2 0 == 7000 && t.mgmt.sessions == []) = true) := by decide +kernel

/-- Both management links are up. -/
def linked : State := { base with mgmt.link := [true, true], mgmt.macs := [(0x20, 1, 0)] }

theorem own_allNodes (s : State) : s.ownAddr (0xFF02 * 2 ^ 112 + 1) = true := by simp [State.ownAddr]

theorem own_none (s : State) (h0 : s.mgmtAddr = 0) (a : Nat) (h : a < 0xFF02 * 2 ^ 112) (ha : a ≠ linkLocal) : s.ownAddr a = false := by
  generalize hl : linkLocal = l at ha
  simp only [State.ownAddr, hl, h0, if_true, List.contains_cons, List.contains_nil, List.any_cons, List.any_nil, Bool.or_false, Bool.or_eq_false_iff]
  refine ⟨⟨?_, ?_⟩, ?_⟩ <;> (apply beq_false_of_ne; omega)

theorem wit_FramesAndDatagramsAreForwarded :
    (linked.power.supRail = true ∧ linked.linkUp 0 = true ∧ linked.linkUp 1 = true ∧ linked.linkUp 2 = true ∧ linked.ringMaster = false ∧
      linked.mgmt.macs.find? (fun e => e.1 == 0x20) = some (0x20, 1, 0) ∧ bit 0xFF0000000000 40 = true ∧
      after (exec (.mgtFrame 0 ⟨0x10, 0xFF0000000000, 0, 1522, false⟩) linked) (fun t => t.out.length == 2 && t.mgmt.macs.length == 2) = true ∧
      after (exec (.mgtFrame 0 ⟨0x10, 0xFF0000000000, 0, 1523, false⟩) linked) (fun t => t.out == [] && t.ctr 0x9100 6 3 0 == 1) = true ∧
      after (exec (.mgtFrame 1 ⟨0x10, 0xFF0000000000, 0, 60, true⟩) linked) (fun t => t.out == [] && t.ctr 0x9100 6 3 1 == 1) = true) ∧
    (let s := linked.setVal 0x9100 5 0 [1];
      s.power.supRail = true ∧ s.linkUp 0 = true ∧ s.linkUp 1 = true ∧ s.mgmt.ringOpen = false ∧ s.over s.power.startAt 30000000 = true ∧
      s.ringMaster = true ∧ s.over s.mgmt.checkSent 10000000 = true ∧ after (exec .ringCheckTimer s) (fun t => t.out == [.ringCheck 0]) = true ∧
      s.over s.mgmt.checkAt 30000000 = true ∧ after (exec .ringOpen s) (fun t => t.mgmt.ringOpen && t.mgmt.macs == [] && t.out == [.flush 0, .flush 1]) = true ∧
      (let u := { s with mgmt.ringOpen := true, mgmt.checkAt := s.now };
        u.over u.mgmt.checkFrom 1000000000 = true ∧ u.over u.mgmt.checkAt 20000000 = false ∧
        after (exec .ringClose u) (fun t => !t.mgmt.ringOpen && t.out == [.flush 0, .flush 1]) = true)) ∧
    (linked.linkUp (1 - 1) = true ∧ linked.ringBlocked = false ∧ after (exec (.flushFrame 1) linked) (fun t => t.mgmt.macs == [] && t.out == [.flush 0]) = true ∧
      after (exec (.macAddressAgeing 0x20) linked) (fun t => t.mgmt.macs == []) = true ∧
      after (exec (.mgtLinkChange 1 false) linked) (fun t => t.mgmt.link == [true, false]) = true) := by decide +kernel

/-- Lanes 0 and 5 are IPv6 interfaces, lane 5 in stage 9 with the route 2000::/4. -/
def routed : State :=
  (((base.setVal 0x9110 3 0 [1]).setVal 0x9110 3 5 [1]).setVal 0x9110 1 0 [0x2000 * 2 ^ 112, 4, 5]).modLane 5 fun x => { x with bring.stage := 9 }

/-- A datagram to an address, with a hop limit. -/
def datagram (a hops : Nat) : Bytes := zeros 7 ++ beBytes 1 hops ++ zeros 16 ++ beBytes 16 a

theorem wit_DatagramsAreForwarded :
    field (datagram (0xFF02 * 2 ^ 112 + 1) 64) 24 16 = 0xFF02 * 2 ^ 112 + 1 ∧ 40 ≤ (datagram 0 0).length ∧ field (datagram 0 0) 6 1 ≠ 44 ∧
    routed.sup.up = true ∧ routed.inBand 0 = true ∧ routed.inBand 5 = true ∧ (routed.lane 5).bring.stage = 9 ∧ (routed.lane 5).dataRoom (datagram 0 0).length = true ∧
    1 < field (datagram 0 64) 7 1 ∧ field (datagram 0 1) 7 1 ≤ 1 := by decide +kernel

/-- An echo request to all nodes, and a datagram to them that is no ICMPv6 message. -/
theorem wit_EchoesAreAnswered :
    let d := icmpPacket 5 (0xFF02 * 2 ^ 112 + 1) 64 [128, 0] [0, 1, 0, 2, 7]
    field d 24 16 = 0xFF02 * 2 ^ 112 + 1 ∧ 40 ≤ d.length ∧ field d 6 1 ≠ 44 ∧ base.sup.up = true ∧ (base.icmpAnswer d).isSome = true ∧
      base.icmpAnswer (d.set 48 6) = none ∧ base.icmpAnswer (datagram (0xFF02 * 2 ^ 112 + 1) 64) = none := by decide +kernel

theorem wit_RoutesAreFound :
    ∃ a, routed.ownAddr a = false ∧ routed.route a = some 5 ∧ field (datagram a 64) 24 16 = a ∧ field (datagram a 1) 24 16 = a := by
  have h0 : routed.mgmtAddr = 0 := by decide +kernel
  by_cases h : 0x2001 * 2 ^ 112 = linkLocal
  · exact ⟨0x2001 * 2 ^ 112 + 1, own_none _ h0 _ (by decide) (by rw [← h]; decide), by decide +kernel⟩
  · exact ⟨0x2001 * 2 ^ 112, own_none _ h0 _ (by decide) h, by decide +kernel⟩

/-! O51 to O55: the objects, the hoppers and the alarms (14). -/

theorem wit_DescribeReturnsTheDescriptor :
    (let q := rec_ 0x2000 1 0 0;
      upOk 6 q mk base = true ∧ (base.object? 0x2000 1).isSome = true ∧ q.sub ≠ 0 ∧ q.sub ≠ 0xFE ∧ after (exec (.describe q) base) (fun t => answers t == [0]) = true) ∧
    (let q := rec_ 0x1234 1 0 0;
      upOk 6 q mk base = true ∧ base.object? 0x1234 1 = none ∧ makerOwn 6 q mk = false ∧ after (exec (.describe q) base) (fun t => answers t == [5]) = true) ∧
    (let q := rec_ 0xF000 1 0 0;
      upOk 6 q mk base = true ∧ makerOwn 6 q mk = true ∧ makerOwn 6 q { mk with role := 2 } = false) ∧
    (let s : State := { base with power.ordering := false };
      upOk 6 (rec_ 0x5C40 1 0 0) mk s = true ∧ sealingObj 0x5C40 = true ∧ after (exec (.describe (rec_ 0x5C40 1 0 0)) s) (fun t => answers t == [5]) = true ∧
      upOk 6 (rec_ 0x6030 1 2 0) mk s = true ∧ (s.object? 0x6030 1).isSome = true ∧
      after (exec (.describe (rec_ 0x6030 1 2 0)) s) (fun t => answers t == [5]) = true ∧
      after (exec (.describe (rec_ 0x6030 1 1 0)) s) (fun t => answers t == [0]) = true) ∧
    (upOk 6 (rec_ 0x6030 1 2 0) mk base = true ∧ base.power.ordering = true ∧ (base.object? 0x6030 1).isSome = true ∧
      after (exec (.describe (rec_ 0x6030 1 2 0)) base) (fun t => answers t == [0]) = true) := by
  decide +kernel

/-- The values its answers carry. -/
def values (t : State) : List Bytes := t.out.filterMap fun o => match o with | .response _ r => some r.value | _ => none

/-- A check that finds an object. -/
def finds {ε α : Type} (e : Except ε α) : Bool := match e with | .ok _ => true | .error _ => false

/-- What a read's own check finds. -/
def found (e : Except Ans Obj) : Option Obj := match e with | .ok o => some o | .error _ => none

theorem wit_ReadsAndDomains :
    (let q := rec_ 0x3000 3 0 0;
      let u := base.quiet.heard q.session;
      upOk 1 q mk base = true ∧ (found (u.readCheck q mk.role)).isSome = true ∧
      ((found (u.readCheck q mk.role)).all fun o => u.wholeCheck q.session o q.element == none && o.access == .rwp && o.ty != 13) = true ∧
      after (exec (.read q) base) (fun t => answers t == [0] && values t == [[2]]) = true) ∧
    (let q := rec_ 0x1234 3 0 0;
      let u := base.quiet.heard q.session;
      upOk 1 q mk base = true ∧ finds (u.readCheck q mk.role) = false ∧ makerOwn 1 q mk = false ∧
      upOk 1 { q with index := 0xFFFF } mk base = true ∧ makerOwn 1 { q with index := 0xFFFF } mk = true ∧ after (exec (.read q) base) (fun t => answers t == [5]) = true) ∧
    (let q := rec_ 0x3000 1 47 3;
      let u := base.quiet.heard q.session;
      upOk 3 q mk base = true ∧ q.sub ≤ 255 ∧ ((u.object? q.index q.sub).any fun o => (u.elemCheck o q.element).isNone) = true ∧
      (itemBytes q.sub (u.readItem q mk.role q.sub)).length ≤ 1378 ∧ q.flags ≠ 1 ∧
      after (exec (.readMulti q) base) (fun t => answers t == [0] && values t == [[1, 0, 0, 1, 0, 2, 5, 0, 0, 3, 0, 0, 1, 2]]) = true) := by
  decide +kernel

/-- The legs of circuit 9, which session 1 has read at offset 0. -/
def snapped (at_ : Nat) : State :=
  { base with fab.active := [{ handle := 9 }], mgmt.snapshots := [{ session := 1, index := 0x4200, sub := 3, element := 9, data := List.replicate 100 7, readAt := at_ }] }

theorem wit_DomainsAreRead :
    (let s := { base with fab.active := [{ handle := 9 }, { handle := 10 }] };
      let q := rec_ 0x4200 3 9 1400;
      let u := s.quiet.heard q.session;
      upOk 4 q mk s = true ∧ ((found (u.readCheck q mk.role)).any fun o => o.ty == 13 && (u.notReadable q.session o q.element).isNone) = true ∧
      q.offset = 0 ∧ ((u.domain q.session q.index q.sub q.element).any fun d => d != []) = true ∧
      after (exec (.domainRead q) s) (fun t => answers t == [0] && t.mgmt.snapshots.length == 1) = true) ∧
    (let s := snapped base.now;
      let q := rec_ 0x4200 3 9 1400 [] 99;
      let u := s.quiet.heard q.session;
      upOk 4 q mk s = true ∧ ((found (u.readCheck q mk.role)).any fun o => o.ty == 13) = true ∧ q.offset ≠ 0 ∧
      s.mgmt.snapshots.find? (fun y => y.of q.session q.index q.sub q.element) =
        some { session := 1, index := 0x4200, sub := 3, element := 9, data := List.replicate 100 7, readAt := base.now } ∧
      q.offset < (List.replicate 100 (7 : Byte)).length ∧ after (exec (.domainRead q) s) (fun t => answers t == [0] && values t == [[7]]) = true) ∧
    after (exec (.domainSnapshotExpiry 1 0x4200 3 9) (snapped (base.now - 10000000000))) (fun t => t.mgmt.snapshots == []) = true ∧
    after (exec (.domainSnapshotExpiry 1 0x4200 3 9) (snapped (base.now - 9999999999))) (fun t => t.mgmt.snapshots.length == 1) = true ∧
    (∀ y ∈ (snapped 0).mgmt.snapshots, ∀ z ∈ (snapped 0).mgmt.snapshots, z.of y.session y.index y.sub y.element = true → z = y) := by
  decide +kernel

theorem wit_DomainsAreWritten :
    (let q := { rec_ 0x5E10 3 0 4 [1, 2, 3, 4] 0 8 with element := 7 };
      upOk 5 q mk base = true ∧ base.sup.state ≠ 3 ∧ q.element < 8 ∧ mk.role = 3 ∧ 0 < q.length ∧ q.total ≤ 1511 ∧ q.offset + q.length < q.total ∧
      base.mgmt.transfers = [] ∧
      after (exec (.domainWrite q) base) (fun t => t.mgmt.transfers.map (fun f => (f.total, f.segs)) == [(8, [(0, [1, 2, 3, 4])])] && answers t == [0]) = true) ∧
    (let s : State := { base with mgmt.transfers := [{ session := 1, index := 0x5E10, sub := 3, element := 7, total := 8, lastAt := 0 }] };
      (s.mgmt.transfers.find? (fun f => f.session == 1 && f.of 0x5E10 3 7 && s.over f.lastAt 10000000000)).isSome = true ∧
      after (exec (.domainTransferDrop 1 0x5E10 3 7) s) (fun t => t.mgmt.transfers == []) = true) ∧
    (let s : State := { base with mgmt.transfers := [{ session := 1, index := 0x1030, sub := 4, element := 1, total := 8, lastAt := 0 }], sec.slotB.state := 3 };
      (s.mgmt.transfers.find? (fun f => f.session == 1 && f.of 0x1030 4 1 && s.over f.lastAt 10000000000)).isSome = true ∧ (s.slot 1).state = 3 ∧
      after (exec (.domainTransferDrop 1 0x1030 4 1) s) (fun t => t.mgmt.transfers == [] && (t.slot 1).state == 2) = true) := by
  decide +kernel

theorem wit_WritesAreAppliedAndDiscarded :
    (wOk rq 0x3000 3 7 [3] mk base = true ∧ ((findObj 0x3000 3).any fun o => o.ty != 13 && o.fields != [] && o.access == .rwp
        && (base.storeCheck 0x3000 3 7 (o.split [3])).isNone) = true ∧ 0x3000 * 256 + 3 ∉ actingObjs ∧
      after (exec (.write (writeReq rq 0x3000 3 7 [3])) base) (fun t => t.cfg 0x3000 3 7 == 3 && t.persist.staged == [objKey 0x3000 3 7] && answers t == [0]) = true) ∧
    (wOk rq 0x2010 4 0 [2, 12, 2] mk (staged 9) = true ∧
      ((findObj 0x2010 4).any fun o => ((staged 9).storeCheck 0x2010 4 0 (o.split [2, 12, 2])).isNone) = true ∧
      after (exec (.write (writeReq rq 0x2010 4 0 [1, 12, 2])) ((staged 9).setVal 0x2000 2 0 [1]))
        (fun t => answers t == [0] && (t.lane 0).tr.taps == (1, 12, 2) && t.fixedMode 0) = true) ∧
    (let s := (staged 2).modLane 0 fun x => { x with bring.txMode := .training };
      wOk rq 0x2000 5 0 (u8 7) mk s = true ∧ (s.lane 0).bring.stage = 2 ∧
      after (exec (.write (writeReq rq 0x2000 5 0 (u8 7))) s) (fun t => (t.lane 0).tr.taps == (4, 4, 8) && t.cfg 0x2000 5 0 == 7) = true ∧
      after (exec (.write (writeReq rq 0x2000 5 0 (u8 7))) (staged 3)) (fun t => t.lane 0 == (staged 3).lane 0 && answers t == [0]) = true) ∧
    (base.persist.committing = false ∧ base.persist.staged = [] ∧
      wOk rq 0x9120 2 0 [1] mk base = true ∧ after (exec (.discardStaged rq 1) base) (fun t => answers t == [0]) = true) ∧
    (let s := (base.setVal 0x3000 3 7 [3]);
      let u : State := { s with persist.staged := [objKey 0x3000 3 7] };
      wOk rq 0x9120 2 0 [1] mk u = true ∧ u.persist.committing = false ∧ u.sup.state ≠ 3 ∧ u.newestCopy = none ∧ u.portUp = true ∧ u.cfg 0x3000 3 7 = 3 ∧
      after (exec (.discardStaged rq 1) u) (fun t => t.cfg 0x3000 3 7 == 2 && t.persist.staged == [] && answers t == [0]) = true) ∧
    (let s : State := { base with persist.committing := true };
      wOk rq 0x9120 2 0 [1] mk s = true ∧ after (exec (.discardStaged rq 1) s) (fun t => answers t == [1]) = true) := by
  decide +kernel

/-- Hopper 3 holds two entries and is session 1's. -/
def owned : State := led.modHop 3 fun x => { x with owner := 1, entries := [(true, ent [1]), (true, ent [2])], p := 2, highest := 2 }

theorem wit_HoppersCarryEntriesToTheirOwners :
    (let q := rec_ 0 0 3 2;
      owned.sup.state ≠ 3 ∧ owned.hopKind 3 ≠ 0 ∧ (owned.hop 3).owner = q.session ∧ upOk 0x10 q mk owned = true ∧ (owned.hop 3).at_ q.offset < (owned.hop 3).fill ∧
      after (exec (.hopperRead q) owned) (fun t => answers t == [0] && values t == [ent [1] ++ ent [2]]) = true) ∧
    (let q := rec_ 0 0 3 4 (beBytes 4 1);
      (owned.hop 3).overflow = [] ∧ (owned.hop 3).held = [] ∧ owned.edit.flight = [] ∧ upOk 0x12 q mk owned = true ∧ (owned.hop 3).at_ (beNat q.value) ≤ (owned.hop 3).fill ∧
      after (exec (.hopperAck q) owned) (fun t => answers t == [0] && (t.hop 3).entries == [(true, ent [2])]) = true) ∧
    (let q := rec_ 0 0 3 64 (ent [3]) 2;
      owned.hopKind 3 = 1 ∧ (owned.hop 3).held = [] ∧ mk.sendSeq + 2 < 281474976710656 ∧ upOk 0x11 q mk owned = true ∧ q.offset = (owned.hop 3).expected ∧ owned.hopRoom 3 1 = true ∧
      after (exec (.hopperWrite q) owned) (fun t => answers t == [0] && (t.hop 3).entries.map Prod.snd == [ent [1], ent [2], ent [3]]) = true) ∧
    (let s := owned.modHop 3 fun x => { x with entries := List.replicate 16 (true, ent [1]), p := 16 };
      let q := rec_ 0 0 3 64 (ent [3]) 16;
      upOk 0x11 q mk s = true ∧ q.offset = (s.hop 3).expected ∧ s.hopRoom 3 1 = false ∧ s.hopPolicy 3 ≠ 2 ∧
      after (exec (.hopperWrite q) s) (fun t => answers t == [9]) = true ∧
      (let u := s.setVal 0x7000 1 3 [1, 16, 2, 0, 0, 0];
        upOk 0x11 q mk u = true ∧ u.hopRoom 3 1 = false ∧ u.hopPolicy 3 = 2 ∧
        after (exec (.hopperWrite q) u) (fun t => answers t == [] && (t.hop 3).held.length == 1) = true)) ∧
    (let q := rec_ 0 0 3 64 (ent [3]) 16;
      let s : State := { (owned.modHop 3 fun x => { x with held := [⟨1, 5, q, 16, [ent [3]], 0⟩] }) with mgmt.flight := [⟨1, 0x11, q, 0⟩] };
      ((s.store.hoppers.find? fun e => e.2.held.any fun w => w.session == 1 && w.tag == 5 && s.over w.since 1000000000).map Prod.fst) = some 3 ∧
      (s.hop 3).held.length = 1 ∧ s.session? 1 = some mk ∧ mk.role ≠ 0 ∧ mk.recvMax < 281474976710656 ∧
      s.mgmt.flight.find? (fun f => f.session == 1 && f.req.tag == 5) = some ⟨1, 0x11, q, 0⟩ ∧ q.session = 1 ∧
      after (exec (.hopperWriteTimeout 1 5) s) (fun t => answers t == [1] && (t.hop 3).held == [] && t.mgmt.flight == []) = true) := by
  decide +kernel

theorem wit_HoppersAreOwned :
    (let q := rec_ 0 0 5 1 [1];
      upOk 0x13 q mk led = true ∧ mayOwn (led.hopKind 5) mk.role = true ∧ (led.hop 5).owner = 0 ∧
      after (exec (.subscribe q) led) (fun t => answers t == [0] && (t.hop 5).owner == 1 && (t.hop 5).greeted) = true ∧
      led.sup.state ≠ 3 ∧ led.sup.again = false ∧ beNat q.value = 1 ∧
      (let s : State := { led with sup.again := true };
        s.hopKind 5 = 3 ∧ (s.hop 5).greeted = false ∧ (s.hop 5).overflow = [] ∧ upOk 0x13 q mk s = true ∧
        s.hopRoom 5 s.restartUnit.length = true ∧
        after (exec (.subscribe q) s) (fun t => answers t == [0] && (t.hop 5).entries.length == s.restartUnit.length) = true)) ∧
    (let q := rec_ 0 0 5 1 [1];
      let s := led.modHop 5 fun x => { x with owner := 2 };
      mayOwn (s.hopKind 5) mk.role = true ∧ (s.hop 5).owner ≠ 0 ∧ (s.hop 5).owner ≠ q.session ∧
      upOk 0x13 q mk s = true ∧ after (exec (.subscribe q) s) (fun t => answers t == [7]) = true) ∧
    (let q := rec_ 0 0 3 1 [0];
      beNat q.value = 0 ∧ (owned.hop 3).owner = q.session ∧ upOk 0x13 q mk owned = true ∧ after (exec (.release q) owned) (fun t => answers t == [0] && (t.hop 3).owner == 0) = true) ∧
    (let v := [1, 0, 32, 1, 0, 8, 0, 0, 0];
      ((findObj 0x7000 1).map fun o => o.split v) = some [1, 32, 1, 8, 0, 0] ∧ (led.hop 9).owner = 0 ∧ (led.hop 9).entries = [] ∧ (led.hop 9).held = [] ∧
      32 ≠ led.hopDepth 9 ∧ (owned.hop 3).owner ≠ 0 ∧ owned.depthSum 3 + 32 ≤ 65536 ∧
      wOk rq 0x7000 1 9 v mk led = true ∧ depthOk 32 = true ∧ led.depthSum 9 + 32 ≤ 65536 ∧
      after (exec (.hopperConfiguration rq 9 v) led) (fun t => answers t == [0] && t.val 0x7000 1 9 == [1, 32, 1, 8, 0, 0]) = true ∧
      wOk rq 0x7000 1 3 v mk owned = true ∧ owned.hopDepth 3 ≠ 32 ∧
      after (exec (.hopperConfiguration rq 3 v) owned) (fun t => answers t == [2]) = true) := by
  decide +kernel

/-- No admitted holder, for a long time; it is a failure or not yet. -/
def headless (p f : Bool) : State :=
  { base with lease.admitted := true, store.conds := [{ cond := .noHolder, present := p, since := 0, failed := f }], store.alarms :=
      if f then [{ cond := some .noHolder, number := 1, severity := 3 }] else [], store.nextAlarm := 2 }

theorem wit_AlarmsAreRaisedClearedAndAcknowledged :
    (let s := headless true false;
      s.sup.up = true ∧ s.failed .noHolder = false ∧ s.condNow .noHolder = true ∧ s.condFor .noHolder true (s.report .noHolder).raise = true ∧ (s.report .noHolder).severity ≠ 0 ∧
      after (exec (.failureRaised .noHolder) s) (fun t => t.failed .noHolder && t.store.alarms.map Alarm.severity == [3] && t.almOutput 3) = true) ∧
    (let s : State := { base.setVal 0x3000 3 0 [0] with store.conds := [{ cond := .lane 0 1, present := true, since := 0 }] };
      s.failed (.lane 0 1) = false ∧ s.condNow (.lane 0 1) = true ∧ (s.report (.lane 0 1)).severity = 0 ∧ s.condFor (.lane 0 1) true (s.report (.lane 0 1)).raise = true ∧
      after (exec (.failureRaised (.lane 0 1)) s) (fun t => t.failed (.lane 0 1) && t.store.alarms == []) = true) ∧
    (let s := headless false true;
      s.sup.up = true ∧ s.failed .noHolder = true ∧ s.condFor .noHolder false (s.report .noHolder).clear = true ∧ s.mayClear .noHolder = true ∧
      after (exec (.failureCleared .noHolder) s) (fun t => !t.failed .noHolder && t.store.alarms == []) = true) ∧
    (let s := headless true true;
      (s.store.alarms.find? fun a => a.number == 1).isSome = true ∧ (s.store.alarms.find? fun a => a.number == 9) = none ∧
      wOk rq 0x7800 2 0 (beBytes 4 1) mk s = true ∧
      after (exec (.acknowledgeAlarm rq 1) s) (fun t => answers t == [0] && t.store.alarms.map Alarm.acked == [true]) = true ∧
      wOk rq 0x7800 2 0 (beBytes 4 9) mk s = true ∧ after (exec (.acknowledgeAlarm rq 9) s) (fun t => answers t == [5]) = true ∧
      wOk rq 0x7800 2 0 (beBytes 4 0xFFFFFFFF) mk s = true ∧
      after (exec (.acknowledgeAll rq) s) (fun t => answers t == [0] && t.store.alarms.map Alarm.acked == [true] && !t.almOutput 3) = true) := by
  decide +kernel

/-! O56 to O58: reset, start-up, feeds and flash (16). -/

/-- What a start-up finds when all is well. -/
def boots : BootObs := ⟨true, true, true, [], [], [], true, true, []⟩

theorem wit_ResetsTakeVolatileStateAndStartAgain :
    after (exec .resetAssert sealing) (fun t => !t.power.resetN && !t.power.supRail && t.lanes == [] && t.sealing.kwk == none) = true ∧
    after (exec (.presentLost 0) sealing) (fun t => !t.power.seated && t.power.present.contains true && t.mgmt.sessions == []) = true ∧
    (let s : State := { base with power.present := [false, false], power.resetN := false, power.supRail := false, power.portRail := false };
      { s with power.resetN := true }.startable = false ∧
      { s with power.resetN := true, power.valid := [true, false] }.startable = true ∧ s.power.valid.length = 2 ∧ s.power.resetN = false ∧
      after (exec (.resetRelease boots) { s with power.valid := [true, false] }) (fun t => t.power.supRail && t.power.cause == 1 && t.power.startAt == s.now) = true ∧
      after (exec (.resetRelease boots) s) (fun t => t.power.resetN && !t.power.supRail) = true ∧
      after (exec (.resetRelease { boots with railsGood := false }) { s with power.valid := [true, false] }) (fun t =>
        t.power.internal && t.power.retryAt == some (s.now + 1000000000) && !t.power.supRail) = true) ∧
    (let s : State := { base with power.seated := false, power.supRail := false, power.portRail := false };
      { s with power.present := [false, false], power.seated := true }.startable = false ∧
      { s with power.present := [false, false], power.seated := true, power.valid := [true, false] }.startable = true ∧
      s.power.seated = false ∧ after (exec (.seated boots) s) (fun t => t.power.seated && !t.power.supRail) = true ∧
      after (exec (.seated boots) { s with power.valid := [true, false] }) (fun t => t.power.seated && t.power.supRail && t.power.cause == 3) = true) ∧
    (let s : State := { base with power.present := [false, false], power.valid := [true, true], power.internal := true, power.cause := 2, power.retryAt := some base.now };
      s.power.thermal = false ∧ s.power.retryAt = some base.now ∧ s.power.internal = true ∧ base.now ≤ s.now ∧ boots.railsGood = true ∧
      { s with power.internal := false, power.retryAt := none }.startable = true ∧
      after (exec (.startupRetry boots) s) (fun t => !t.power.internal && t.power.supRail && t.power.cause == 2) = true) := by decide +kernel

theorem wit_StartupCompletesAndPowerFails :
    (let s : State := { base with power.step := 8, lease.admitted := true, sup.state := 0 };
      s.power.step = 8 ∧ s.sup.restarting = false ∧ after (exec .startupComplete s) (fun t => t.power.step == 9 && t.sup.state == 1) = true ∧
      (let u : State := { s with lease.admitted := false, power.startAt := 0 };
        { u with power.valid := [true, false] }.powered = true ∧ u.over u.power.startAt 30000000000 = true ∧
        after (exec .startupComplete { u with power.valid := [true, false] }) (fun t => t.power.step == 9) = true ∧
        after (exec .startupComplete { u with power.valid := [true, false], power.step := 3, sup.state := 3 }) (fun t => t.power.step == 9 && t.sup.state == 3) = true)) ∧
    (sealing.powered = false ∧ base.powered = false ∧ sealing.power.supRail = true ∧ after (exec .powerFail { sealing with power.valid := [true, false] }) (fun t => t.power.supRail) = true ∧ sealing.power.fail = false ∧ sealing.power.keep = false ∧
      after (exec .powerFail sealing) (fun t => !t.power.supRail && !t.power.portRail && t.tim.ocxoOn == none && t.sealing.kwk == none) = true) ∧
    (let s : State := { sealing with power.keep := true };
      s.powered = false ∧ s.power.fail = false ∧
      after (exec .powerFail s) (fun t => t.power.supRail && !t.power.portRail && t.power.fail && t.lanes == [] && t.sealing.kwk == some 5 &&
        t.engA.state == .down) = true) ∧
    (let s : State := { base with power.supRail := false, power.portRail := false, tim.ocxoOn := some 3 };
      s.powered = false ∧ s.power.fail = false ∧ after (exec .powerFail { s with power.holdUp := true }) (fun t => t.tim.ocxoOn == none && !t.power.holdUp) = true ∧
      after (exec .powerFail { s with power.keep := true }) (fun t => t.tim.ocxoOn == some 3) = true) := by
  decide +kernel

theorem wit_FeedsAndHotSwapSwitches :
    (let s : State := { base with power.valid := [true, false] };
      s.powered = true ∧ s.power.valid.getD 0 false = true ∧ after (exec (.feedValid 1 480 boots) s) (fun t => t.power.valid == [true, true] && t.power.volts == [s.power.volts.headD 0, 480]) = true ∧
      after (exec (.feedInvalid 0 300) s) (fun t => t.power.valid == [false, false] && t.ctr 0xA000 3 1 0 == 1) = true) ∧
    (let s : State := { base with power.present := [false, false], power.supRail := false, power.portRail := false };
      s.powered = false ∧ s.power.seated = true ∧ s.inReset = false ∧ s.power.valid.length = 2 ∧ s.power.hsOpen.length = 2 ∧
      s.power.supRail = false ∧ s.power.portRail = false ∧ s.power.locked.getD 0 false = false ∧ boots.railsGood = true ∧
      after (exec (.feedValid 0 480 boots) s) (fun t => t.power.valid == [true, false] && t.power.supRail && t.power.cause == 0) = true) ∧
    (let s : State := { base with power.portRail := false, sup.state := 3 };
      s.power.supRail = true ∧ after (exec (.feedValid 0 480 boots) s) (fun t => t.power.valid == [true, false] && !t.power.portRail && t.lanes == []) = true) ∧
    (after (exec .keepPresent base) (fun t => t.power.keep && t.tim.ocxoOn == some base.now) = true ∧
      after (exec .keepPresent { base with tim.ocxoOn := some 3 }) (fun t => t.power.keep && t.tim.ocxoOn == some 3) = true ∧
      (let s : State := { base with power.keep := true, power.portRail := false };
        s.power.keep = true ∧ s.power.portRail = false ∧ s.powered = false ∧ after (exec .keepLost s) (fun t => !t.power.keep && !t.power.supRail && t.tim.ocxoOn == none) = true) ∧
      (let s : State := { base with power.keep := true, power.valid := [true, false] };
        s.powered = true ∧ s.noFeed = false ∧ after (exec .keepLost s) (fun t => !t.power.keep && t.power.supRail && t.ctr 0xA000 3 5 0 == 1) = true ∧
        after (exec .holdUpCharged s) (fun t => t.power.holdUp) = true)) ∧
    (let s : State := { base with power.valid := [true, true], power.trips := [[9000000000000, 9990000000000, 9991000000000], []] };
      s.feeds 0 = true ∧ s.feeds 1 = true ∧
      after (exec (.hotSwapTrip 0) s) (fun t => t.power.hsOpen == [true, false] && t.power.locked == [true, false] && t.ctr 0xA000 3 4 0 == 1) = true ∧
      after (exec (.hotSwapTrip 1) s) (fun t => t.power.locked == [false, false]) = true ∧
      s.power.trips.getD 0 [] = [9000000000000, 9990000000000, 9991000000000] ∧ s.power.valid.getD 0 false = true ∧ s.power.locked.getD 0 false = false ∧
      s.over 9000000000000 1000000000 = true ∧
      after (exec (.hotSwapRetry 0) { s with power.hsOpen := [true, false] }) (fun t => t.power.hsOpen == [false, false]) = true) := by
  decide +kernel

theorem wit_SettingsAreCommitted :
    (let s : State := { base with persist.staged := [objKey 0x3000 3 7], persist.erased := [true, true, true, true] };
      wOk rq 0x9120 1 0 [1] mk s = true ∧ s.persist.committing = false ∧ s.persist.staged ≠ [] ∧ s.erasedArea s.nextCopy = true ∧
      after (exec (.commit rq 1) s) (fun t => t.persist.committing && t.persist.captureKeys == [objKey 0x3000 3 7] && t.persist.staged == [] && t.out == []) = true) ∧
    (let s : State := { base with persist.committing := true, persist.captureKeys := [objKey 0x3000 3 7] };
      after (exec (.commitComplete true) s) (fun t => !t.persist.committing && t.persist.copy0.valid && t.ctr 0x9120 3 5 0 == 1) = true ∧
      after (exec (.commitComplete false) s) (fun t => t.persist.staged == [objKey 0x3000 3 7] && t.persist.lastResult == 15 && t.ctr 0xA020 3 1 0 == 1) = true) ∧
    (wOk rq 0xA010 2 0 [0x5A] mk base = true ∧ base.persist.committing = false ∧
      after (exec (.restoreDefaults rq 0x5A) base) (fun t => t.power.internal && t.power.cause == 5 && t.persist.restored && answers t == [0]) = true) := by
  decide +kernel

theorem wit_FlashAreasAreErasedAndWritten :
    (let s : State := { led with persist.mapDueAt := some 0, persist.erased := [true, true, true, true] };
      s.sup.up = true ∧ s.persist.mapDueAt.isSome = true ∧ s.persist.mapWriting = none ∧ s.lease.admitted = true ∧ s.fab.copyBusy = false ∧
      s.erasedArea s.nextMap = true ∧ s.over s.persist.mapAt 10000000000 = true ∧
      after (exec .mapCheckpointStart s) (fun t => t.persist.mapWriting == some s.nextMap && t.persist.mapImage.seq == 1) = true) ∧
    (let s : State := { led with persist.mapDueAt := some 0, persist.mapWriting := some led.nextMap, persist.mapImage := { valid := true, seq := 1 } };
      s.persist.mapWriting = some s.nextMap ∧ max s.persist.map0.seq s.persist.map1.seq < s.persist.mapImage.seq ∧
      after (exec (.mapCheckpointComplete true) s) (fun t => t.persist.mapWriting == none && t.persist.mapDueAt == none && (t.map led.nextMap).seq == 1 && (t.map led.nextMap).valid) = true ∧
      after (exec (.mapCheckpointComplete false) s) (fun t => t.persist.mapWriting == none && t.persist.mapDueAt == some 0) = true) ∧
    (let s : State := { base with persist.eraseAt := [some 0, none, none, some 0], persist.erased := [false, false, true, false] };
      s.power.supRail = true ∧ (s.erasingArea (8 - 8)).isSome = true ∧ (s.erasingArea (11 - 8)).isSome = true ∧
      after (exec (.flashEraseComplete 8 true) s) (fun t => t.persist.erased == [true, false, true, false]) = true ∧
      after (exec (.flashEraseComplete 11 false) s) (fun t => t.persist.erased == [false, false, true, false] && t.persist.badArea.contains 11) = true) ∧
    (let s : State := { base with persist.erased := [true, true, true, true], persist.budget := [3, 24, 0, 1], persist.budgetAt := 0 };
      s.over s.persist.budgetAt 7200000000000 = true ∧ s.erasedArea s.nextCopy = true ∧ s.erasedArea s.nextMap = true ∧
      after (exec .eraseBudgetUnit s) (fun t => t.persist.budget == [4, 24, 1, 2]) = true) := by decide +kernel

/-! O1 to O4: steps; and the checks of well-formedness. -/

theorem wit_Steps : State.reset.pending = [] ∧ Steps State.reset State.reset.tick ∧ Reaches State.reset State.reset.tick :=
  ⟨rfl, rfl, .step .here rfl⟩

theorem wit_TablesStayCanonical : State.reset.wf ∧ Steps State.reset State.reset.tick := by
  refine ⟨?_, rfl⟩
  simp [State.wf, State.reset, twf]

theorem wit_AnM1nNeverSeals :
    (let t : State := { base with power.ordering := false };
      Reaches t t ∧ t.power.ordering = false ∧ t.lanes = [] ∧ sealingObj 0x5C40 = true ∧ upOk 1 (rec_ 0x5C40 2 0 0) mk t = true ∧ upOk 2 (rec_ 0x5C40 1 1 1 [0]) mk t = true ∧
      upOk 3 (rec_ 0x5C40 1 0 2) mk t = true ∧ upOk 4 (rec_ 0x5E10 3 0 4) mk t = true ∧ upOk 5 (rec_ 0x5E10 3 0 4 [1, 2, 3, 4] 0 8) mk t = true ∧
      upOk 6 (rec_ 0x5C40 1 0 0) mk t = true ∧ after (exec (.write (rec_ 0x5C40 1 0 1 [0x5A])) t) (fun u => answers u == [5]) = true) :=
  ⟨.here, by decide +kernel⟩

/-- A header, a source and a frame whose fields fit. -/
def ah : Hdr := ⟨1, 0, 16, 1, 1, 16, []⟩

theorem wf_header : hdrWf ah = true ∧ hdrWf { ah with version := 256 } = false ∧ hdrWf { ah with kind := 256 } = false ∧
    hdrWf { ah with length := 65536 } = false ∧ hdrWf { ah with session := 4294967296 } = false ∧
    hdrWf { ah with sequence := 18446744073709551616 } = false ∧ hdrWf { ah with udpLength := 65536 } = false := by decide +kernel

theorem wf_request : reqWf (rec_ 0x2000 1 0 0) = true ∧ reqWf { rec_ 0 0 0 0 with session := 4294967296 } = false ∧
    reqWf { rec_ 0 0 0 0 with tag := 65536 } = false ∧ reqWf { rec_ 0 0 0 0 with flags := 256 } = false ∧ reqWf (rec_ 65536 0 0 0) = false ∧
    reqWf (rec_ 0 256 0 0) = false ∧ reqWf { rec_ 0 0 0 0 with rsv := 256 } = false ∧ reqWf (rec_ 0 0 4294967296 0) = false ∧
    reqWf (rec_ 0 0 0 4294967296) = false ∧ reqWf (rec_ 0 0 0 0 [] 4294967296) = false ∧ reqWf (rec_ 0 0 0 0 [] 0 4294967296) = false ∧
    reqWf (rec_ 0 0 0 0 (zeros 1397)) = false ∧ rqWf rq = true ∧ rqWf ⟨4294967296, 0⟩ = false ∧ rqWf ⟨0, 65536⟩ = false := by decide +kernel

theorem wf_records : srcWf ⟨2 ^ 128, 0⟩ = false ∧ srcWf ⟨0, 65536⟩ = false ∧ srcWf ⟨1, 1⟩ = true ∧
    frameWf ⟨2 ^ 48, 0, 0, 60, true⟩ = false ∧ frameWf ⟨0, 2 ^ 48, 0, 60, true⟩ = false ∧ frameWf ⟨0, 0, 65536, 60, true⟩ = false ∧
    frameWf ⟨0, 0, 0, 60, true⟩ = true ∧ armWf ⟨0, 0, 0, 0, 0, 0⟩ = true ∧ armWf ⟨65536, 0, 0, 0, 0, 0⟩ = false ∧
    armWf ⟨0, 2 ^ 32, 0, 0, 0, 0⟩ = false ∧ armWf ⟨0, 0, 2 ^ 64, 0, 0, 0⟩ = false ∧ armWf ⟨0, 0, 0, 256, 0, 0⟩ = false ∧
    armWf ⟨0, 0, 0, 0, 2 ^ 48, 0⟩ = false ∧ armWf ⟨0, 0, 0, 0, 0, 2 ^ 32⟩ = false ∧ trigWf ⟨0, 0, 0, 0, 0⟩ = true ∧
    trigWf ⟨2 ^ 48, 0, 0, 0, 0⟩ = false ∧ trigWf ⟨0, 2 ^ 32, 0, 0, 0⟩ = false ∧ trigWf ⟨0, 0, 2 ^ 64, 0, 0⟩ = false ∧
    trigWf ⟨0, 0, 0, 2 ^ 32, 0⟩ = false ∧ trigWf ⟨0, 0, 0, 0, 2 ^ 32⟩ = false ∧ eyeWf ⟨true, 65535, 1000⟩ = true ∧
    sealRecWf ⟨65535, true, 0, 0⟩ = true ∧ sealRecWf ⟨65536, true, 0, 0⟩ = false ∧ sealRecWf ⟨0, true, 2 ^ 40, 0⟩ = false ∧
    sealRecWf ⟨0, true, 0, 2 ^ 128⟩ = false ∧
    eyeWf ⟨true, 65536, 0⟩ = false ∧ eyeWf ⟨true, 0, 1001⟩ = false := by decide +kernel

theorem wf_measured : boundaryWf ⟨[⟨0, -62500⟩, ⟨1, 62499⟩], [.entry 0 2097151 1, .word 0 false 4607999 1, .stray 1 true 0 47 95999]⟩ = true ∧
    boundaryWf ⟨[⟨0, -62501⟩], []⟩ = false ∧ boundaryWf ⟨[⟨0, 62500⟩], []⟩ = false ∧ boundaryWf ⟨[], [.entry 0 2097152 1]⟩ = false ∧
    boundaryWf ⟨[], [.word 0 false 4608000 1]⟩ = false ∧ boundaryWf ⟨[], [.stray 0 false 4608000 0 0]⟩ = false ∧
    boundaryWf ⟨[], [.stray 0 false 0 48 0]⟩ = false ∧ boundaryWf ⟨[], [.stray 0 false 0 0 96000]⟩ = false ∧ countsWf ⟨22, 1, 1, 1, 1⟩ = true ∧ countsWf ⟨32, 1, 1, 1, 1⟩ = true ∧
    countsWf ⟨23, 1, 1, 1, 1⟩ = false ∧ countsWf ⟨48, 1, 1, 1, 1⟩ = false ∧ countsWf ⟨0, 2 ^ 32, 0, 0, 0⟩ = false ∧
    countsWf ⟨0, 0, 2 ^ 32, 0, 0⟩ = false ∧ countsWf ⟨0, 0, 0, 2 ^ 32, 0⟩ = false ∧ countsWf ⟨0, 0, 0, 0, 2 ^ 32⟩ = false ∧
    resetWf ⟨255, 255, 255, 255⟩ = true ∧ resetWf ⟨256, 0, 0, 0⟩ = false ∧ resetWf ⟨0, 256, 0, 0⟩ = false ∧ resetWf ⟨0, 0, 256, 0⟩ = false ∧
    resetWf ⟨0, 0, 0, 256⟩ = false := by decide +kernel

theorem wf_operands :
    Instr.wf (.identity ah ⟨1, 1⟩ 256 (rec_ 0 0 0 0)) = false ∧ Instr.wf (.openSession ah ⟨1, 1⟩ (2 ^ 64) false 0 0) = false ∧
    Instr.wf (.handshakeLapse (2 ^ 32)) = false ∧ Instr.wf (.hopperConfiguration rq (2 ^ 32) []) = false ∧
    Instr.wf (.hopperConfiguration rq 0 (zeros 1397)) = false ∧ Instr.wf (.acknowledgeAlarm rq (2 ^ 32)) = false ∧
    Instr.wf (.managementAddressWrite rq (zeros 1397)) = false ∧ Instr.wf (.unrynPortWrite rq 65536) = false ∧
    Instr.wf (.ipv6Datagram .management (zeros 39)) = false ∧ Instr.wf (.ipv6Datagram .management (zeros 40)) = true ∧ Instr.wf (.laneEnable rq (2 ^ 32)) = false ∧
    Instr.wf (.trainingMessage 0 0 ⟨true, 65536, 0⟩) = false ∧ Instr.wf (.portWidthWrite rq 0 256) = false ∧
    Instr.wf (.candidateExpectedPosition 0 131072 0 0) = false ∧ Instr.wf (.domainSnapshotExpiry 0 65536 0 0) = false ∧
    Instr.wf (.restartEngine rq 256) = false ∧ Instr.wf (.todMessage (zeros 15)) = false ∧ Instr.wf (.todMessage (zeros 16)) = true ∧
    Instr.wf (.sendMessage rq 0 (zeros 1512)) = false ∧ Instr.wf (.bandwidthWindowWrite rq 65536) = false ∧
    Instr.wf (.markRead rq (2 ^ 64)) = false ∧ Instr.wf (.feedInvalid 0 65536) = false ∧ Instr.wf (.macAddressAgeing (2 ^ 48)) = false ∧
    Instr.wf (.keptResponseExpiry 0 65536) = false ∧ Instr.wf (.installKey rq 0 (zeros 56) (2 ^ 64)) = false := by decide +kernel

theorem wf_lengths : Instr.wf (.ipv6Datagram .management (zeros 1536)) = false ∧ Instr.wf (.enrolCertificate rq (zeros 1397)) = false ∧
    Instr.wf (.attestationNonce rq (zeros 1397)) = false ∧ Instr.wf (.expectedTraceWrite rq 0 (zeros 1397)) = false ∧
    Instr.wf (.transmitStreamWrite rq 0 (zeros 1397)) = false ∧ Instr.wf (.receiveStreamWrite rq 0 (zeros 1397)) = false := by decide +kernel

/-- Published values: FIPS 197 C.3; test case 14 of the GCM specification; SP 800-38B D.3; RFC 3394 4.1; RFC 5649 6; FIPS 180-4 "abc". -/
theorem test_aes : aes (beBytes 32 0x000102030405060708090a0b0c0d0e0f101112131415161718191a1b1c1d1e1f) (beBytes 16 0x00112233445566778899aabbccddeeff)
      = beBytes 16 0x8ea2b7ca516745bfeafc49904b496089 ∧
    invAes (beBytes 32 0x000102030405060708090a0b0c0d0e0f101112131415161718191a1b1c1d1e1f) (beBytes 16 0x8ea2b7ca516745bfeafc49904b496089)
      = beBytes 16 0x00112233445566778899aabbccddeeff := by decide +kernel
theorem test_gcm : gcmSeal 0 0 [] (zeros 16) = beBytes 32 0xcea7403d4d606b6e074ec5d3baf39d18d0d1c8a799996bf0265b98b5d48ab919 := by decide +kernel
theorem test_cmac : cmac (beBytes 32 0x603deb1015ca71be2b73aef0857d77811f352c073b6108d72d9810a30914dff4) []
    = .data (beBytes 16 0x028962f61b7bf89efc6b551f4667d983) := by decide +kernel
theorem test_kw : kwWrap (beBytes 16 0x000102030405060708090A0B0C0D0E0F) (beBytes 16 0x00112233445566778899AABBCCDDEEFF)
    = .data (beBytes 24 0x1FA68B0A8112B447AEF34BD8FB5A7B829D3E862371D2CFE5) := by decide +kernel
theorem test_kwp : kwpWrap (beBytes 24 0x5840df6e29b02af1ab493b705bf16ea1ae8338f4dcc176a8) (beBytes 7 0x466f7250617369)
    = .data (beBytes 16 0xafbeb0f07dfbf5419200f2ccb50bb24f) := by decide +kernel
theorem test_sha256 : sha256 [0x61, 0x62, 0x63] = 0xba7816bf8f01cfea414140de5dae2223b00361a396177a9cb410ff61f20015ad := by decide +kernel

/-- The worked example of 14 R359: the header of the response, and the length of its record. -/
theorem test_response : let r : Resp := { op := 0x83, tag := 0x0102, index := 0x2030, sub := 1, element := 17, detailValue := 5, value := zeros 46 }
    r.bytes = beBytes 16 0x8300010220300100000000110000002E ++ beBytes 8 5 ++ zeros 54 ∧ r.bytes.length = 78 := by decide +kernel

/-- The areas of the flash follow one another from its first byte to its last (16 Table 16-5). -/
theorem test_areas : (List.range 14).all (fun i => (areaSpan.getD i (0, 0)).2 + 1 == ((areaSpan ++ [reservedSpan]).getD (i + 1) (0, 0)).1) = true ∧
    (areaSpan.getD 0 (0, 0)).1 = 0 ∧ reservedSpan.2 + 1 = 128 * 1024 * 1024 := by decide +kernel

/-- A header's bytes read back as the header; one with a byte changed reads as none (16 R423). -/
theorem test_header : let h : Header := { seq := 9, copy := 1, preferred := 1, pendA := false, pendB := true, countA := 2, countB := 3 }
    Header.read 1 h.bytes = some h ∧ Header.read 1 (h.bytes.set 4 1) = none := by decide +kernel

/-- A frame of the commissioning line begins at its two start bytes (15 R393). -/
theorem test_frameStart : frameStart [0x00, 0x43, 0x43, 0x4D, 0x01] = [0x43, 0x4D, 0x01] ∧ frameStart [0x43] = [] := by decide +kernel

end Sys2Proof.Tests
end

section
/-! PROOFS. What every step keeps (00 R1): no command writes the ordering code, and a tick leaves the power inputs alone. -/

namespace Sys2Proof.Machine

/-! Every step keeps the ordering code and lets no time run back (00 R1; 03 R71). -/

/-- A command runs to the state of a function of its own, put under what no command changes: the queue, the clock and the ordering code. -/
theorem exec_fixed (c : Instr) (s : State) : ∃ u, exec c s = .next (s.fixed u) := by
  cases c
  case sendMessage rq channel message =>
    show ∃ u, execSendMessage rq channel message s = _
    unfold execSendMessage
    split <;> exact ⟨_, rfl⟩
  all_goals exact ⟨_, rfl⟩

/-- The power inputs and the clock of a state, which time running on the lanes, the engines and the sessions leaves alone. -/
def State.supply (s : State) : Power × Nat := (s.power, s.now)

@[simp] theorem State.tickTraining_supply (s : State) (l : LaneId) : (s.tickTraining l).supply = s.supply := by
  simp only [State.tickTraining]
  split <;> simp [State.supply, State.trainingFrame]

@[simp] theorem State.missBeat_supply (s : State) (e : EngId) : (s.missBeat e).supply = s.supply := by
  simp only [State.missBeat]
  split <;> simp [State.supply]

@[simp] theorem State.closeSpent_supply (s : State) : s.closeSpent.supply = s.supply :=
  State.each_keep State.supply _ _ (fun i t => by simp [State.supply]) s

@[simp] theorem State.tickTime_power (s : State) : s.tickTime.power = s.power := by
  simp only [State.tickTime]
  split
  · split <;> rfl
  · rfl

/-- A tick takes the clock on by one nanosecond and leaves the power inputs alone. -/
theorem State.tick_supply (s : State) : s.tick.supply = (s.power, s.now + 1) := by
  simp only [State.tick, State.closeSpent_supply, State.missBeat_supply]
  rw [State.each_keep State.supply _ _ fun l t => t.tickTraining_supply l]
  exact congrArg (·, s.now + 1) s.tickTime_power

/-- One step keeps the ordering code and never takes the clock back. -/
theorem Steps.ordering_now {s t : State} (h : Steps s t) : t.power.ordering = s.power.ordering ∧ s.now ≤ t.now := by
  unfold Steps step at h
  split at h
  next =>
    obtain ⟨hp, hn⟩ := Prod.ext_iff.mp s.tick_supply
    cases h
    exact ⟨congrArg Power.ordering hp, (Nat.le_succ s.now).trans_eq hn.symm⟩
  next c rest _ =>
    obtain ⟨u, hu⟩ := exec_fixed c { s with pending := rest }
    cases hu.symm.trans h
    exact ⟨rfl, Nat.le_refl _⟩

/-- What is reached has the ordering code of the start, at no earlier time. -/
theorem Reaches.ordering_now {s t : State} (h : Reaches s t) : t.power.ordering = s.power.ordering ∧ s.now ≤ t.now := by
  induction h with
  | here => exact ⟨rfl, Nat.le_refl _⟩
  | step _ hstep ih => exact ⟨hstep.ordering_now.1.trans ih.1, ih.2.trans hstep.ordering_now.2⟩

/-- Of the identity objects, the ordering code and the feature word say the ordering code alone (00 Table 0-3). -/
theorem State.identityValue_of_ordering {s t : State} (h : t.power.ordering = s.power.ordering) :
    t.identityValue 0x1000 4 = s.identityValue 0x1000 4 ∧ t.identityValue 0x1000 5 = s.identityValue 0x1000 5 := by
  constructor <;> (unfold State.identityValue; rw [h])

/-- Settles O2: every step, command or tick, keeps the ordering code, which the ordering code and feature word objects are read from. -/
theorem noStepChangesTheOrderingCode : Obligations.NoStepChangesTheOrderingCode := fun _ _ h =>
  have ho := h.ordering_now.1
  ⟨ho, State.identityValue_of_ordering ho⟩

end Sys2Proof.Machine
end

section
/-! PROOFS. A seal record at hand in a lane, and the operations that bring none (00 R2; 02 R60). -/

namespace Sys2Proof.Machine

/-- No seal record is at hand in the channels of a lane: none waits for the FAB that ends its frame, none for SEAL_RECORD (02 R60). -/
def Chans.noRecord (c : Chans) : Prop := c.sealReady = [] ∧ c.sealWait = []

/-- No lane of a table has a seal record at hand. -/
structure NoRecords (t : Tab Lane) : Prop where
  noRecord : ∀ l, (tget {} t l).ch.noRecord

/-- However a request ends, no lane has a seal record at hand, and what follows its response brings none. -/
inductive Act.noRecords : Act → Prop
  | done {s : State} {a : Ans} {post : State → State} (hs : NoRecords s.lanes)
      (hpost : ∀ u : State, NoRecords u.lanes → NoRecords (post u).lanes) : Act.noRecords (.done s a post)
  | refuse (a : Ans) : Act.noRecords (.refuse a)
  | hold {s : State} (hs : NoRecords s.lanes) : Act.noRecords (.hold s)

@[simp] theorem State.lanes_ite (c : Prop) [Decidable c] (s t : State) :
    (if c then s else t).lanes = if c then s.lanes else t.lanes := apply_ite State.lanes c s t

@[simp] theorem Lane.ch_ite (c : Prop) [Decidable c] (x y : Lane) : (if c then x else y).ch = if c then x.ch else y.ch :=
  apply_ite Lane.ch c x y

@[simp] theorem Chans.noRecord_mk (timeRx dataRx : ChanRx) (timeTx : List TxPkt) (dataTx : List Bytes) (dataQueue oddTypes : Nat)
    (aisSeen aisPrev : Bool) (multi : Nat) (txTime txData timeLeft dataLeft : Bytes) (failSeen : Bool) (sealSeen : List Nat)
    (sealIn : Tab Nat) (sealWait sealReady : List (Nat × SealRec)) :
    (⟨timeRx, dataRx, timeTx, dataTx, dataQueue, oddTypes, aisSeen, aisPrev, multi, txTime, txData, timeLeft, dataLeft, failSeen, sealSeen,
      sealIn, sealWait, sealReady⟩ : Chans).noRecord ↔ sealReady = [] ∧ sealWait = [] := Iff.rfl

@[simp] theorem Chans.noRecord_ite {c : Prop} [Decidable c] {x y : Chans} (hx : x.noRecord) (hy : y.noRecord) :
    (if c then x else y).noRecord := by
  split <;> assumption

@[simp] theorem Chans.noRecord.ready {c : Chans} (h : c.noRecord) : c.sealReady = [] := h.1

@[simp] theorem Chans.noRecord.wait {c : Chans} (h : c.noRecord) : c.sealWait = [] := h.2

@[simp] theorem noRecords_nil : NoRecords [] := ⟨fun _ => ⟨rfl, rfl⟩⟩

theorem NoRecords.of_lanes {s t : State} (hs : NoRecords s.lanes) (h : t.lanes = s.lanes) : NoRecords t.lanes := h.symm ▸ hs

@[simp] theorem NoRecords.lane {s : State} (h : NoRecords s.lanes) (l : Nat) : (s.lane l).ch.noRecord := h.noRecord l

/-- Writing a lane without a record at hand brings none (whatever an unlisted lane is taken to be). -/
@[simp] theorem NoRecords.tput {t : Tab Lane} (h : NoRecords t) {x : Lane} (hx : x.ch.noRecord) (d : Lane) (l : Nat) :
    NoRecords (tput d t l x) := by
  refine ⟨fun k => ?_⟩
  unfold Machine.tput
  by_cases hk : k = l
  · subst hk
    split
    · rw [tget_tdel_same]; exact ⟨rfl, rfl⟩
    · rw [tget_tins_same]; exact hx
  · split
    · rw [tget_tdel_other _ _ _ _ hk]; exact h.noRecord k
    · rw [tget_tins_other _ _ _ _ _ hk]; exact h.noRecord k

@[simp] theorem NoRecords.ite {c : Prop} [Decidable c] {t u : Tab Lane} (ht : NoRecords t) (hu : NoRecords u) :
    NoRecords (if c then t else u) := by
  split <;> assumption

@[simp] theorem Act.noRecords_done (s : State) (a : Ans) (post : State → State) :
    (Act.done s a post).noRecords ↔ NoRecords s.lanes ∧ ∀ u : State, NoRecords u.lanes → NoRecords (post u).lanes :=
  ⟨fun | .done hs hpost => ⟨hs, hpost⟩, fun h => .done h.1 h.2⟩

@[simp] theorem Act.noRecords_refuse (a : Ans) : (Act.refuse a).noRecords := .refuse a

@[simp] theorem Act.noRecords_hold (s : State) : (Act.hold s).noRecords ↔ NoRecords s.lanes :=
  ⟨fun | .hold hs => hs, .hold⟩

@[simp] theorem Act.noRecords_ok (s : State) : (ok s).noRecords ↔ NoRecords s.lanes :=
  ⟨fun | .done hs _ => hs, fun h => .done h fun _ => id⟩

@[simp] theorem Act.noRecords_okWith (s : State) (d v : Nat) : (okWith s d v).noRecords ↔ NoRecords s.lanes :=
  ⟨fun | .done hs _ => hs, fun h => .done h fun _ => id⟩

@[simp] theorem Act.noRecords_guard (b : Bool) (a : Ans) (k : Act) : (guardAct b a k).noRecords ↔ (b = false → k.noRecords) := by
  cases b <;> simp [guardAct]

@[simp] theorem Act.noRecords_ite (c : Prop) [Decidable c] (a b : Act) :
    (if c then a else b).noRecords ↔ (c → a.noRecords) ∧ (¬ c → b.noRecords) := by
  split <;> simp_all

/-- The effect of a write brings no record to hand. -/
def Effect.noRecords (e : Session → List Nat → State → Act) : Prop := ∀ x vs s, NoRecords s.lanes → (e x vs s).noRecords

theorem Effect.noRecords.ite {c : Prop} [Decidable c] {e f : Session → List Nat → State → Act} (he : Effect.noRecords e)
    (hf : Effect.noRecords f) : Effect.noRecords (if c then e else f) := by
  split <;> assumption

@[simp] theorem State.setLane_noRecords {s : State} {x : Lane} (hs : NoRecords s.lanes) (hx : x.ch.noRecord) (l : Nat) :
    NoRecords (s.setLane l x).lanes := hs.tput hx _ l

@[simp] theorem State.modLane_noRecords {s : State} {l : Nat} {f : Lane → Lane} (hs : NoRecords s.lanes) (hf : (f (s.lane l)).ch.noRecord) :
    NoRecords (s.modLane l f).lanes := hs.tput hf _ l

/-- What each application leaves free of records, the fold leaves free of them. -/
@[simp] theorem NoRecords.each {α : Type} {s : State} {f : α → State → State} (h : NoRecords s.lanes)
    (hf : ∀ a s, NoRecords s.lanes → NoRecords (f a s).lanes) (l : List α) : NoRecords (s.each l f).lanes := by
  simp only [State.each]
  induction l generalizing s with
  | nil => exact h
  | cons a l ih => exact ih (hf a s h)

@[simp] theorem State.each_lanes {α : Type} {f : α → State → State} (hf : ∀ a s, (f a s).lanes = s.lanes) (s : State) (l : List α) :
    (s.each l f).lanes = s.lanes := State.each_keep State.lanes l f hf s

@[simp] theorem State.free_lanes (s : State) : s.free.2.lanes = s.lanes := by simp only [State.free]

@[simp] theorem State.when_noRecords {s : State} {f : State → State} (hs : NoRecords s.lanes)
    (hf : ∀ t, NoRecords t.lanes → NoRecords (f t).lanes) (b : Bool) : NoRecords (s.when b f).lanes := by
  cases b
  · exact hs
  · exact hf s hs

/-! Lanes. -/

@[simp] theorem Lane.rank_ch (x : Lane) : x.rank.ch = x.ch := by
  simp only [Lane.rank]; split <;> simp

@[simp] theorem Lane.below_noRecord {x : Lane} (hx : x.ch.noRecord) (st : Nat) : (x.below st).ch.noRecord := by
  simp [Lane.below, hx]

@[simp] theorem Lane.goto_noRecord {x : Lane} (hx : x.ch.noRecord) (st now : Nat) : (x.goto st now).ch.noRecord := by
  simp [Lane.goto, hx]

@[simp] theorem Lane.startTraining_ch (x : Lane) (l now : Nat) : (x.startTraining l now).ch = x.ch := by
  simp only [Lane.startTraining]

@[simp] theorem Lane.lockDefects_ch (x : Lane) : x.lockDefects.ch = x.ch := by
  simp only [Lane.lockDefects]

@[simp] theorem Lane.startZasyn_ch (x : Lane) : x.startZasyn.ch = x.ch := by
  unfold Lane.startZasyn; split <;> rfl

@[simp] theorem Lane.sendTraining_ch (x : Lane) (l : Nat) : (x.sendTraining l).ch = x.ch := by
  unfold Lane.sendTraining; split <;> rfl

@[simp] theorem State.trainTx_ch (s : State) (l : Nat) (x : Lane) : (s.trainTx l x).ch = x.ch := by
  simp [State.trainTx]

@[simp] theorem Lane.toBlockLock_noRecord {x : Lane} (hx : x.ch.noRecord) (now : Nat) : (x.toBlockLock now).ch.noRecord :=
  Lane.goto_noRecord hx 4 now

@[simp] theorem Lane.place_noRecord {x : Lane} (hx : x.ch.noRecord) (d : Int) (now : Nat) (first : Int) :
    (x.place d now first).ch.noRecord := by
  simp [Lane.place, hx]

@[simp] theorem State.freshLane_noRecord (s : State) (l : Nat) : (s.freshLane l).ch.noRecord := by
  simp [State.freshLane]

@[simp] theorem trainMessage_ch (x : Lane) (l : Nat) (m : Bytes) (r : Bool) (now : Nat) : (trainMessage x l m r now).ch = x.ch := by
  simp only [trainMessage]

@[simp] theorem Lane.seeEye_ch (x : Lane) (e : EyeObs) : (x.seeEye e).ch = x.ch := by
  simp only [Lane.seeEye]

@[simp] theorem Lane.loopIn_noRecord {x : Lane} (hx : x.ch.noRecord) (st now : Nat) : (x.loopIn st now).ch.noRecord := by
  simp [Lane.loopIn, hx]

@[simp] theorem Lane.newFrame_noRecord {x : Lane} (hx : x.ch.noRecord) (mfi : Nat) (arr : Int) : (x.newFrame mfi arr).ch.noRecord := by
  simp [Lane.newFrame, hx]

@[simp] theorem Lane.cutBay_ch (x : Lane) (c : Cand) : (x.cutBay c).ch = x.ch := by
  simp only [Lane.cutBay]

end Sys2Proof.Machine
end

section
/-! PROOFS. No function of the model but the one for a row of the seal region brings a record to hand: it leaves the table of lanes alone,
or each lane that it writes keeps to no record. -/

namespace Sys2Proof.Machine

/-! Shared operations (Machine/Ops). -/

@[simp] theorem State.drainOverflow_lanes (h n : Nat) (s : State) : (State.drainOverflow h n s).lanes = s.lanes := by
  induction n generalizing s with
  | zero => rfl
  | succ n ih =>
    simp only [State.drainOverflow]
    split
    · rfl
    · split <;> simp [ih]

@[simp] theorem State.spoilSlot_lanes (s : State) (t : Nat) : (s.spoilSlot t).lanes = s.lanes := by simp [State.spoilSlot]

/-! The course of a request (Machine/Requests; 14 Table 14-13). -/

@[simp] theorem State.makerAct_noRecords {s : State} (hs : NoRecords s.lanes) : s.makerAct.noRecords := by simp [State.makerAct, hs]

/-- A request whose body brings no record brings none: what comes before and after it touches no lane. -/
@[simp] theorem request_noRecords {s : State} (hs : NoRecords s.lanes) {body : Session → State → Act}
    (hb : ∀ x s, NoRecords s.lanes → (body x s).noRecords) (op : Nat) (q : Req) : NoRecords (request op q body s).lanes := by
  unfold request
  split
  next x _ _ =>
    have hm : NoRecords (s.modSession q.session fun y => { y with lastAt := s.now }).lanes := by simpa using hs
    generalize (s.modSession q.session fun y => { y with lastAt := s.now }) = u at hm
    have ha : (if makerOwn op q x then u.makerAct else body x u).noRecords := by simp [hm, hb]
    simp only
    generalize (if makerOwn op q x then u.makerAct else body x u) = act at ha
    cases act <;> (repeat' split) <;> simp_all
  next => exact hs

@[simp] theorem audited_noRecords {act : Act} (h : act.noRecords) (q : Req) (x : Session) (o : Obj) (s : State) :
    (audited q x o s act).noRecords := by
  cases act with
  | done t a post => simp only [audited]; split <;> [exact h; split <;> simp_all]
  | refuse a => exact h
  | hold t => simp only [audited]; split <;> simp_all

@[simp] theorem writeBody_noRecords {s : State} (hs : NoRecords s.lanes) {eff : Session → List Nat → State → Act}
    (he : ∀ x vs s, NoRecords s.lanes → (eff x vs s).noRecords) (q : Req) (x : Session) : (writeBody q eff x s).noRecords := by
  unfold writeBody
  split <;> simp [he, hs]

@[simp] theorem writeOf_noRecords {s : State} (hs : NoRecords s.lanes) {eff : Session → List Nat → State → Act}
    (he : ∀ x vs s, NoRecords s.lanes → (eff x vs s).noRecords) (rq : Rq) (index sub el : Nat) (v : Bytes) :
    NoRecords (writeOf rq index sub el v eff s).lanes :=
  request_noRecords hs (fun x _ h => writeBody_noRecords h he _ x) 2 _

/-! Operations on a lane (Machine/LaneOps; 03). -/

@[simp] theorem State.cutPayload_noRecords {s : State} (hs : NoRecords s.lanes) (l : LaneId) : NoRecords (s.cutPayload l).lanes := by
  simp only [State.cutPayload]
  split <;> simp [hs]

@[simp] theorem State.followEq_noRecords {s : State} (hs : NoRecords s.lanes) (l : LaneId) : NoRecords (s.followEq l).lanes := by
  simp [State.followEq, hs]

@[simp] theorem State.settle_noRecords {s : State} (hs : NoRecords s.lanes) (l : LaneId) : NoRecords (s.settle l).lanes := by
  unfold State.settle
  extract_lets a x b c d e
  have ha : NoRecords a.lanes := State.followEq_noRecords (State.modLane_noRecords hs (by simp [hs])) l
  have hb : NoRecords b.lanes := by simp [b, ha]
  have hc : NoRecords c.lanes := by simp [c, hb]
  have hd : NoRecords d.lanes := by simp [d, hb, hc]
  have he : NoRecords e.lanes := by simpa [e] using hd
  simpa using he

@[simp] theorem State.change_noRecords {s : State} {l : LaneId} {f : Lane → Lane} (hs : NoRecords s.lanes)
    (hf : (f (s.lane l)).ch.noRecord) : NoRecords (s.change l f).lanes :=
  State.settle_noRecords (State.modLane_noRecords hs hf) l

@[simp] theorem State.laneRestart_noRecords {s : State} (hs : NoRecords s.lanes) (l : LaneId) (counted : Bool) :
    NoRecords (s.laneRestart l counted).lanes := by
  simp only [State.laneRestart]
  repeat' split
  all_goals simp (disch := simp [hs]) [hs]

@[simp] theorem State.fallHold_noRecords {s : State} (hs : NoRecords s.lanes) (l : LaneId) (st : Nat) : NoRecords (s.fallHold l st).lanes := by
  simp (disch := simp [hs]) [State.fallHold]

@[simp] theorem State.placeSet_noRecords {s : State} (hs : NoRecords s.lanes) (p : Nat) (ls : List LaneId) : NoRecords (s.placeSet p ls).lanes := by
  simp only [State.placeSet, State.modPort_frame]
  exact NoRecords.each hs (fun d s h => State.change_noRecords h (by simp [h])) _

@[simp] theorem State.tryPlace_noRecords {s : State} (hs : NoRecords s.lanes) (l : LaneId) : NoRecords (s.tryPlace l).lanes := by
  simp only [State.tryPlace]
  repeat' split
  all_goals simp (disch := simp [hs]) [hs]

/-! The lane commands (Machine/Lanes; 03, 04). -/

@[simp] theorem State.laneOff_noRecords {s : State} (hs : NoRecords s.lanes) (l : LaneId) : NoRecords (s.laneOff l).lanes := by
  simp [State.laneOff, hs]

@[simp] theorem effEnable_noRecords {s : State} (hs : NoRecords s.lanes) (el : Nat) (x : Session) (vs : List Nat) :
    (effEnable el x vs s).noRecords := by simp [effEnable, hs]

@[simp] theorem effTrainMode_noRecords {s : State} (hs : NoRecords s.lanes) (el : Nat) (x : Session) (vs : List Nat) :
    (effTrainMode el x vs s).noRecords := by
  simp only [effTrainMode]
  repeat' split
  all_goals simp (disch := simp [hs]) [hs]

@[simp] theorem effPreset_noRecords {s : State} (hs : NoRecords s.lanes) (el : Nat) (x : Session) (vs : List Nat) :
    (effPreset el x vs s).noRecords := by simp [effPreset, hs]

@[simp] theorem sdAssert_noRecords {s : State} (hs : NoRecords s.lanes) (l : LaneId) : NoRecords (sdAssert l s).lanes := by
  unfold sdAssert
  split <;> simp [hs]

@[simp] theorem sdDeassert_noRecords {s : State} (hs : NoRecords s.lanes) (l : LaneId) : NoRecords (sdDeassert l s).lanes := by
  unfold sdDeassert
  split
  · extract_lets st t
    have ht : NoRecords t.lanes := by simp [t, hs]
    repeat' split
    all_goals simp [ht]
  · exact hs

@[simp] theorem sdStable_noRecords {s : State} (hs : NoRecords s.lanes) (l : LaneId) : NoRecords (sdStable l s).lanes := by
  simp only [sdStable]
  repeat' split
  all_goals simp (disch := simp [hs]) [hs]

@[simp] theorem declareLos_noRecords {s : State} (hs : NoRecords s.lanes) (l : LaneId) : NoRecords (declareLos l s).lanes := by
  simp only [declareLos]
  split <;> simp [hs]

@[simp] theorem clearLos_noRecords {s : State} (hs : NoRecords s.lanes) (l : LaneId) : NoRecords (clearLos l s).lanes := by
  simp only [clearLos]
  split <;> simp (disch := simp [hs]) [hs]

@[simp] theorem cdrStable_noRecords {s : State} (hs : NoRecords s.lanes) (l : LaneId) : NoRecords (cdrStable l s).lanes := by
  simp only [cdrStable]
  repeat' split
  all_goals simp (disch := simp [hs]) [hs]

@[simp] theorem cdrTimeout_noRecords {s : State} (hs : NoRecords s.lanes) (l : LaneId) : NoRecords (cdrTimeout l s).lanes := by
  simp only [cdrTimeout]
  repeat' split
  all_goals simp (disch := simp [hs]) [hs]

@[simp] theorem cdrLost_noRecords {s : State} (hs : NoRecords s.lanes) (l : LaneId) : NoRecords (cdrLost l s).lanes := by
  unfold cdrLost
  extract_lets x t
  have ht : NoRecords t.lanes := by simp [t, hs]
  clear_value t
  repeat' split
  all_goals simp (disch := simp [hs, ht]) [hs, ht]

@[simp] theorem recvTraining_noRecords {s : State} (hs : NoRecords s.lanes) (l : LaneId) (w : BitVec 304) (e : EyeObs) :
    NoRecords (recvTraining l w e s).lanes := by
  unfold recvTraining
  extract_lets x t n u
  have ht : NoRecords t.lanes := by simp [t, hs]
  have hu : NoRecords u.lanes := by simp [u, hs]
  clear_value t u
  repeat' split
  all_goals simp (disch := simp [hs, ht, hu]) [hs, hu]

@[simp] theorem responseTime_noRecords {s : State} (hs : NoRecords s.lanes) (l : LaneId) : NoRecords (responseTime l s).lanes := by
  simp only [responseTime]
  repeat' split
  all_goals simp [hs]

@[simp] theorem State.trainingFrame_noRecords {s : State} (hs : NoRecords s.lanes) (l : LaneId) : NoRecords (s.trainingFrame l).lanes := by
  simp [State.trainingFrame, hs]

@[simp] theorem State.tickTraining_noRecords {s : State} (hs : NoRecords s.lanes) (l : LaneId) : NoRecords (s.tickTraining l).lanes := by
  simp only [State.tickTraining]
  repeat' split
  all_goals simp (disch := simp [hs])

@[simp] theorem trainingTimer_noRecords {s : State} (hs : NoRecords s.lanes) (l : LaneId) : NoRecords (trainingTimer l s).lanes := by
  simp only [trainingTimer]
  repeat' split
  all_goals simp (disch := simp [hs]) [hs]

@[simp] theorem trailingEnd_noRecords {s : State} (hs : NoRecords s.lanes) (l : LaneId) : NoRecords (trailingEnd l s).lanes := by
  simp only [trailingEnd]
  repeat' split
  all_goals simp (disch := simp [hs]) [hs]

@[simp] theorem blockLockTimeout_noRecords {s : State} (hs : NoRecords s.lanes) (l : LaneId) : NoRecords (blockLockTimeout l s).lanes := by
  simp [blockLockTimeout, hs]

@[simp] theorem holdExpiry_noRecords {s : State} (hs : NoRecords s.lanes) (l : LaneId) : NoRecords (holdExpiry l s).lanes := by
  unfold holdExpiry
  split <;> simp [hs]

@[simp] theorem effRetrain_noRecords {s : State} (hs : NoRecords s.lanes) (el : Nat) (x : Session) (vs : List Nat) :
    (effRetrain el x vs s).noRecords := by simp [effRetrain, hs]

@[simp] theorem rtrEnd_noRecords {s : State} (hs : NoRecords s.lanes) (l : LaneId) : NoRecords (rtrEnd l s).lanes := by
  unfold rtrEnd
  split <;> simp [hs]

@[simp] theorem gatherEnd_noRecords {s : State} (hs : NoRecords s.lanes) (p : LaneId) : NoRecords (gatherEnd p s).lanes := by
  unfold gatherEnd
  split
  · split
    · extract_lets waiting set t u
      have hu : NoRecords u.lanes := NoRecords.each (by simpa [t] using hs) (fun l s h => by split <;> simp [h]) _
      clear_value u set
      split <;> simp [hu]
    · exact hs
  · exact hs

@[simp] theorem effLoopback_noRecords {s : State} (hs : NoRecords s.lanes) (el : Nat) (x : Session) (vs : List Nat) :
    (effLoopback el x vs s).noRecords := by simp (disch := simp [hs]) [effLoopback, hs]

@[simp] theorem effFreeze_noRecords {s : State} (hs : NoRecords s.lanes) (el : Nat) (x : Session) (vs : List Nat) :
    (effFreeze el x vs s).noRecords := by simp [effFreeze, hs]

@[simp] theorem State.portDefaults_lanes (s : State) (p : Nat) : (s.portDefaults p).lanes = s.lanes :=
  State.each_lanes (fun _ _ => by simp) s _

@[simp] theorem effWidth_noRecords {s : State} (hs : NoRecords s.lanes) (el : Nat) (x : Session) (vs : List Nat) :
    (effWidth el x vs s).noRecords := by
  unfold effWidth
  extract_lets w old range ports across t u v r
  have hr : NoRecords r.lanes := by simpa [r, v, u, t] using hs
  clear_value r
  repeat' split
  all_goals simp +contextual [hr]

@[simp] theorem State.evalTim_noRecords {s : State} (hs : NoRecords s.lanes) (l : LaneId) : NoRecords (s.evalTim l).lanes := by
  simp [State.evalTim, hs]

@[simp] theorem effExpectedTrace_noRecords {s : State} (hs : NoRecords s.lanes) (el : Nat) (x : Session) (vs : List Nat) :
    (effExpectedTrace el x vs s).noRecords := by simp [effExpectedTrace, hs]

@[simp] theorem effTimMode_noRecords {s : State} (hs : NoRecords s.lanes) (el : Nat) (x : Session) (vs : List Nat) :
    (effTimMode el x vs s).noRecords := by simp [effTimMode, hs]

@[simp] theorem slipEnd_noRecords {s : State} (hs : NoRecords s.lanes) (l : LaneId) : NoRecords (slipEnd l s).lanes := by
  simp only [slipEnd]
  split <;> simp [hs]

@[simp] theorem txQueueFault_noRecords {s : State} (hs : NoRecords s.lanes) (l : LaneId) : NoRecords (txQueueFault l s).lanes := by
  simp only [txQueueFault]
  split <;> simp [hs]

@[simp] theorem overheadQueueFault_noRecords {s : State} (hs : NoRecords s.lanes) (l : LaneId) : NoRecords (overheadQueueFault l s).lanes := by
  simp only [overheadQueueFault]
  repeat' split
  all_goals simp (disch := simp [hs]) [hs]

/-! Operations of circuit sealing (Machine/SealOps; 11). -/

@[simp] theorem State.modTx_lanes (s : State) (k : Nat) (f : TxStream → TxStream) : (s.modTx k f).lanes = s.lanes := by simp [State.modTx]

@[simp] theorem State.modRx_lanes (s : State) (k : Nat) (f : RxStream → RxStream) : (s.modRx k f).lanes = s.lanes := by simp [State.modRx]

@[simp] theorem State.settleRx_lanes (s : State) (k : Nat) : (s.settleRx k).lanes = s.lanes := by simp [State.settleRx]

@[simp] theorem State.settleTx_lanes (s : State) (k : Nat) : (s.settleTx k).lanes = s.lanes := by simp [State.settleTx]

@[simp] theorem State.checkRxKey_lanes (s : State) (k : Nat) : (s.checkRxKey k).lanes = s.lanes := by simp [State.checkRxKey]

@[simp] theorem State.orphanStreams_lanes (s : State) : s.orphanStreams.lanes = s.lanes := by simp [State.orphanStreams]

@[simp] theorem State.reloadStreams_lanes (s : State) : s.reloadStreams.lanes = s.lanes := by
  unfold State.reloadStreams
  extract_lets a b c d
  calc _ = d.lanes := State.each_lanes (fun _ _ => State.modTx_lanes ..) d _
    _ = c.lanes := State.each_lanes (fun _ _ => by simp) c _
    _ = b.lanes := State.each_lanes (fun _ _ => State.modRx_lanes ..) b _
    _ = a.lanes := State.each_lanes (fun _ _ => by simp) a _
    _ = s.lanes := State.orphanStreams_lanes s

@[simp] theorem State.verdictFail_lanes (s : State) (k kind : Nat) : (s.verdictFail k kind).lanes = s.lanes := by simp [State.verdictFail]

@[simp] theorem State.verdictOk_lanes (s : State) (k c : Nat) : (s.verdictOk k c).lanes = s.lanes := by simp [State.verdictOk]

@[simp] theorem State.verdictNone_lanes (s : State) (k : Nat) : (s.verdictNone k).lanes = s.lanes := by simp [State.verdictNone]

@[simp] theorem State.judge_lanes (s : State) (k at_ : Nat) (r : SealRec) : (s.judge k at_ r).lanes = s.lanes := by simp [State.judge]

@[simp] theorem State.takeRecord_noRecords {s : State} (hs : NoRecords s.lanes) (l : LaneId) (at_ : Nat) (r : SealRec) :
    NoRecords (s.takeRecord l at_ r).lanes := by
  simp only [State.takeRecord]
  repeat' split
  all_goals simp [hs]

@[simp] theorem State.noRecord_lanes (s : State) (k : Nat) : (s.noRecord k).lanes = s.lanes := by simp [State.noRecord]

@[simp] theorem State.closeInterval_noRecords {s : State} (hs : NoRecords s.lanes) (l : LaneId) : NoRecords (s.closeInterval l).lanes := by
  unfold State.closeInterval
  extract_lets ch t u
  have ht : NoRecords t.lanes := by simp [t, hs]
  have hu : NoRecords u.lanes := NoRecords.each ht (fun p s h => by simp [h]) _
  rw [State.each_lanes fun k s => State.noRecord_lanes s k]
  exact hu

@[simp] theorem State.rxMultiframe_noRecords {s : State} (hs : NoRecords s.lanes) (l : LaneId) : NoRecords (s.rxMultiframe l).lanes := by
  simp (disch := simp [hs]) [State.rxMultiframe]

@[simp] theorem State.rxFrameBase_lanes (s : State) (l : LaneId) : (s.rxFrameBase l).lanes = s.lanes := by simp [State.rxFrameBase]

@[simp] theorem State.emptyRecords_noRecords {s : State} (hs : NoRecords s.lanes) : NoRecords s.emptyRecords.lanes := by
  unfold State.emptyRecords
  extract_lets gone src t
  have ht : NoRecords t.lanes := hs
  clear_value t
  exact NoRecords.each ht (fun l s h => by simp [h]) _

@[simp] theorem State.dropDataKeys_noRecords {s : State} (hs : NoRecords s.lanes) : NoRecords s.dropDataKeys.lanes := by
  unfold State.dropDataKeys
  extract_lets _ a _ b _ c _ d e _ f
  have ha : NoRecords a.lanes := State.emptyRecords_noRecords hs
  have he : NoRecords e.lanes := by simpa [e, d, c, b] using ha
  have hf : NoRecords f.lanes := he
  rw [State.each_lanes fun _ _ => by simp]
  exact hf

@[simp] theorem State.eraseKeys_noRecords {s : State} (hs : NoRecords s.lanes) (cause : Nat) : NoRecords (s.eraseKeys cause).lanes := by
  simp [State.eraseKeys, hs]

@[simp] theorem State.keyInstalled_lanes (s : State) : s.keyInstalled.lanes = s.lanes := by simp [State.keyInstalled]

@[simp] theorem State.authFail_noRecords {s : State} (hs : NoRecords s.lanes) : NoRecords s.authFail.lanes := by simp [State.authFail, hs]

/-! The deframer, which the seal rows come in by (Machine/Deframer; 02 R60, 03 R82 to R91). -/

@[simp] theorem State.blockLocked_noRecords {s : State} (hs : NoRecords s.lanes) (l : LaneId) : NoRecords (s.blockLocked l).lanes := by
  unfold State.blockLocked
  extract_lets t
  have ht : NoRecords t.lanes := by simpa [t] using hs
  exact State.change_noRecords ht (by simp [ht])

@[simp] theorem State.searchBlock_noRecords {s : State} (hs : NoRecords s.lanes) (l : LaneId) (valid : Bool) :
    NoRecords (s.searchBlock l valid).lanes := by
  simp only [State.searchBlock]
  repeat' split
  all_goals simp [hs]

@[simp] theorem State.payload_noRecords {s : State} (hs : NoRecords s.lanes) (l : LaneId) (row blk : Nat) (w : BitVec 64) :
    NoRecords (s.payload l row blk w).lanes := by
  simp only [State.payload]
  split <;> simp [hs]

@[simp] theorem State.deliver_noRecords {s : State} (hs : NoRecords s.lanes) (l : LaneId) (pos : Nat) (h : BitVec 2) (w : BitVec 64) :
    NoRecords (s.deliver l pos h w).lanes := by simp [State.deliver, hs]

@[simp] theorem State.startCand_noRecords {s : State} (hs : NoRecords s.lanes) (l : LaneId) (pos : Nat) (h : BitVec 2) (w : BitVec 64) :
    NoRecords (s.startCand l pos h w).lanes := by
  unfold State.startCand
  extract_lets x
  split
  · exact hs
  · extract_lets t c u
    have ht : NoRecords t.lanes := by simp [t, hs]
    have hu : NoRecords u.lanes := by simp [u, ht]
    clear_value t u
    repeat' split
    all_goals simp (disch := simp [hu]) [ht, hu]

@[simp] theorem recvBlock_noRecords {s : State} (hs : NoRecords s.lanes) (l : LaneId) (header : BitVec 2) (payload : BitVec 64) :
    NoRecords (recvBlock l header payload s).lanes := by
  unfold recvBlock
  extract_lets x inv h r clear t heads pos u v
  have ht : NoRecords t.lanes := by simp [t, hs]
  have hu : NoRecords u.lanes := by simp [u, ht]
  have hv : NoRecords v.lanes := by simp only [v]; split <;> simp (disch := simp [hu]) [hu]
  clear_value t u v
  repeat' split
  all_goals simp (disch := simp [ht, hv]) [hs, hu]

@[simp] theorem State.identify_noRecords {s : State} (hs : NoRecords s.lanes) (l : LaneId) (tag : Nat) : NoRecords (s.identify l tag).lanes := by
  simp only [State.identify]
  repeat' split
  all_goals simp (disch := simp [hs])

@[simp] theorem State.tryIdentify_noRecords {s : State} (hs : NoRecords s.lanes) (l : LaneId) : NoRecords (s.tryIdentify l).lanes := by
  simp [State.tryIdentify, hs]

@[simp] theorem State.multiframeAt_noRecords {s : State} (hs : NoRecords s.lanes) (l : LaneId) (mfi : Nat) :
    NoRecords (s.multiframeAt l mfi).lanes := by simp [State.multiframeAt, hs]

@[simp] theorem State.frameLocked_noRecords {s : State} (hs : NoRecords s.lanes) (l : LaneId) (c : Cand) : NoRecords (s.frameLocked l c).lanes := by
  unfold State.frameLocked
  extract_lets t
  have ht : NoRecords t.lanes := State.change_noRecords hs (Lane.newFrame_noRecord (by simp [hs.lane l]) _ _)
  simp [ht]

@[simp] theorem State.timeRow_noRecords {s : State} (hs : NoRecords s.lanes) (l : LaneId) (row : Nat) (b : Option Bytes) :
    NoRecords (s.timeRow l row b).lanes := by simp [State.timeRow, hs]

@[simp] theorem State.dataRow_noRecords {s : State} (hs : NoRecords s.lanes) (l : LaneId) (row : Nat) (b : Option Bytes) :
    NoRecords (s.dataRow l row b).lanes := by simp [State.dataRow, hs]

@[simp] theorem State.channelRow_noRecords {s : State} (hs : NoRecords s.lanes) (l : LaneId) (row : Nat) (b : Option Bytes) :
    NoRecords (s.channelRow l row b).lanes := by simp [State.channelRow, hs]

@[simp] theorem State.closeFrame_noRecords {s : State} (hs : NoRecords s.lanes) (l : LaneId) (keep : Bool) :
    NoRecords (s.closeFrame l keep).lanes := by simp [State.closeFrame, hs]

@[simp] theorem State.voidStart_lanes (s : State) (l : LaneId) (starts : Bool) : (s.voidStart l starts).lanes = s.lanes := by simp [State.voidStart]

@[simp] theorem State.frameMoved_noRecords {s : State} (hs : NoRecords s.lanes) (l : LaneId) (old c : Cand) :
    NoRecords (s.frameMoved l old c).lanes := by
  unfold State.frameMoved
  extract_lets fly a _ b d e f g k
  have hb : NoRecords b.lanes := by
    simp only [b]
    repeat' split
    all_goals simpa [a] using hs
  clear_value b
  have hd : NoRecords d.lanes := by simp [d, hb.lane l, hb]
  clear_value d
  have he : NoRecords e.lanes := by simp [e, hd]
  clear_value e
  have hf : NoRecords f.lanes := by simp [f, he]
  clear_value f
  have hg : NoRecords g.lanes := NoRecords.each hf (fun r s h => by simp [h]) _
  clear_value g
  have hk : NoRecords k.lanes := State.modLane_noRecords (State.closeFrame_noRecords hg l true) (Lane.newFrame_noRecord (by simp [hg]) _ _)
  simp [hk]

@[simp] theorem candAt_noRecords {s : State} (hs : NoRecords s.lanes) (l : LaneId) (pos : Nat) (header : BitVec 2)
    (content : BitVec 64) : NoRecords (candAt l pos header content s).lanes := by
  unfold candAt
  extract_lets x
  split
  · exact hs
  · split
    · simp [hs]
    · extract_lets c' t u
      have ht : NoRecords t.lanes := by simp [t, hs]
      clear_value t
      have hu : NoRecords u.lanes := by
        simp only [u]
        split
        · exact State.change_noRecords ht (by simp [ht])
        · exact ht
      clear_value u c'
      repeat' split
      all_goals simp [ht, hu]

@[simp] theorem State.tagSeen_noRecords {s : State} (hs : NoRecords s.lanes) (l : LaneId) (tag : Nat) : NoRecords (s.tagSeen l tag).lanes := by
  unfold State.tagSeen
  extract_lets x n m t
  have ht : NoRecords t.lanes := by simp [t, hs]
  clear_value t
  split
  · exact State.tryIdentify_noRecords (by simp [hs]) l
  · split
    · split
      · exact State.change_noRecords hs (by simp [hs])
      · split
        · exact State.tryPlace_noRecords (by simp [ht]) l
        · exact ht
    · exact hs

@[simp] theorem State.fabMissing_noRecords {s : State} (hs : NoRecords s.lanes) (l : LaneId) : NoRecords (s.fabMissing l).lanes := by
  simp [State.fabMissing, hs]

@[simp] theorem State.frameTurn_noRecords {s : State} (hs : NoRecords s.lanes) (l : LaneId) (keep : Bool) : NoRecords (s.frameTurn l keep).lanes := by
  unfold State.frameTurn
  extract_lets t n a
  have hc := State.closeFrame_noRecords hs l keep
  generalize s.closeFrame l keep = u at hc
  refine State.multiframeAt_noRecords (State.modLane_noRecords hc ?_) l _
  simp [Lane.newFrame, hc]

@[simp] theorem fabAt_noRecords {s : State} (hs : NoRecords s.lanes) (l : LaneId) (header : BitVec 2) (content : BitVec 64) :
    NoRecords (fabAt l header content s).lanes := by
  unfold fabAt
  extract_lets x e t u v
  have ht : NoRecords t.lanes := by simp [t, hs]
  clear_value t
  have hu : NoRecords u.lanes := State.fabMissing_noRecords ht l
  clear_value u
  have hv : NoRecords v.lanes := by
    simp only [v]
    split
    · rw [State.lanes_ite]
      exact NoRecords.ite (State.change_noRecords hu (by simp [hu])) hu
    · refine State.tagSeen_noRecords (State.change_noRecords (by simp [ht]) ?_) l _
      simp [ht]
  clear_value v
  repeat' split
  all_goals simp [hs, hv]

@[simp] theorem State.checkBip_noRecords {s : State} (hs : NoRecords s.lanes) (l : LaneId) (sent : BitVec 16) :
    NoRecords (s.checkBip l sent).lanes := by
  simp only [State.checkBip]
  repeat' split
  all_goals simp (disch := simp [hs])

@[simp] theorem State.takeRei_lanes (s : State) (l : LaneId) (v : Nat) : (s.takeRei l v).lanes = s.lanes := by simp [State.takeRei]

@[simp] theorem State.row1_noRecords {s : State} (hs : NoRecords s.lanes) (l : LaneId) (b : Bytes) : NoRecords (s.row1 l b).lanes := by
  unfold State.row1
  extract_lets t f
  have ht : NoRecords t.lanes := by simp [t, hs]
  clear_value t
  exact State.change_noRecords ht (by simp [ht])

@[simp] theorem State.ssmAccepted_lanes (s : State) (l : LaneId) (code : Nat) : (s.ssmAccepted l code).lanes = s.lanes := by simp [State.ssmAccepted]

@[simp] theorem State.row2_noRecords {s : State} (hs : NoRecords s.lanes) (l : LaneId) (b : Bytes) : NoRecords (s.row2 l b).lanes := by
  unfold State.row2
  extract_lets failed x aps code _ t o new
  have ht : NoRecords t.lanes := by simp [t, hs]
  clear_value t
  exact State.tryIdentify_noRecords (State.evalTim_noRecords (by simp [ht]) l) l

@[simp] theorem State.row3_noRecords {s : State} (hs : NoRecords s.lanes) (l : LaneId) (b : Bytes) : NoRecords (s.row3 l b).lanes := by
  unfold State.row3
  extract_lets st t
  have ht : NoRecords t.lanes := by simp [t, hs]
  clear_value t
  split <;> simp [ht]

@[simp] theorem State.erroredRow_noRecords {s : State} (hs : NoRecords s.lanes) (l : LaneId) (row : Nat) : NoRecords (s.erroredRow l row).lanes := by
  simp [State.erroredRow, hs]

/-- An IDZ48-M1N takes no record in from its seal rows (00 R2). -/
theorem State.sealRow_noRecords {s : State} (hs : NoRecords s.lanes) (ho : s.power.ordering = false) (l : LaneId) (row : Nat) (b : Bytes) :
    NoRecords (s.sealRow l row b).lanes := by simp [State.sealRow, ho, hs]

/-- No overhead block brings an IDZ48-M1N a record: only a row of the seal region could (02 R60). -/
theorem recvOverhead_noRecords {s : State} (hs : NoRecords s.lanes) (ho : s.power.ordering = false) (l : LaneId) (row : Fin 1000)
    (header : BitVec 2) (content : BitVec 64) : NoRecords (recvOverhead l row header content s).lanes := by
  unfold recvOverhead
  extract_lets r b t
  split
  · have ht : NoRecords t.lanes := by
      simp only [t]
      split
      · exact State.erroredRow_noRecords hs l _
      · exact hs
    split
    · exact State.channelRow_noRecords ht l _ _
    · cases hb : b with
      | none => exact ht
      | some d =>
        have hts : t = s := by simp [t, hb]
        rw [hts]
        dsimp only
        split_ifs
        · exact State.row1_noRecords hs l d
        · exact State.row2_noRecords hs l d
        · exact State.row3_noRecords hs l d
        · exact State.sealRow_noRecords hs ho l _ d
        · exact hs
  · exact hs

/-! The sealing commands (Machine/Sealing; 11). -/

@[simp] theorem sealRecord_noRecords {s : State} (hs : NoRecords s.lanes) (l : LaneId) (r : SealRec) (tagOk : Bool) :
    NoRecords (sealRecord l r tagOk s).lanes := by simp [sealRecord, hs]

@[simp] theorem sealDeadline_lanes (k : Fin 65536) (s : State) : (sealDeadline k s).lanes = s.lanes := by simp [sealDeadline]

@[simp] theorem holdEnd_lanes (k : Fin 65536) (s : State) : (holdEnd k s).lanes = s.lanes := by simp [holdEnd]

@[simp] theorem State.beginStreams_lanes (s : State) (slot : Nat) : (s.beginStreams slot).lanes = s.lanes := by simp [State.beginStreams]

@[simp] theorem badUnwrap_noRecords {s : State} (hs : NoRecords s.lanes) : (badUnwrap s).noRecords := by simp [badUnwrap, hs]

@[simp] theorem effInstallKey_noRecords {s : State} (hs : NoRecords s.lanes) (slot : Nat)
    (plain : Option KeyPlain) (switchAt : Nat) (x : Session) (vs : List Nat) :
    (effInstallKey slot plain switchAt x vs s).noRecords := by
  unfold effInstallKey
  cases plain with
  | none => simp [hs]
  | some p =>
    simp only [Act.noRecords_ite, Act.noRecords_refuse, implies_true, true_and]
    intro _ _
    split <;> (intros; simp [hs])

@[simp] theorem switchKey_lanes (slot : Nat) (s : State) : (switchKey slot s).lanes = s.lanes := by simp [switchKey]

@[simp] theorem effEraseSlot_noRecords {s : State} (hs : NoRecords s.lanes) (slot : Nat) (x : Session) (vs : List Nat) :
    (effEraseSlot slot x vs s).noRecords := by simp [effEraseSlot, hs]

@[simp] theorem effEraseAll_noRecords {s : State} (hs : NoRecords s.lanes) (x : Session) (vs : List Nat) : (effEraseAll x vs s).noRecords := by
  simp [effEraseAll, hs]

@[simp] theorem effInstallKwk_noRecords {s : State} (hs : NoRecords s.lanes) (plain : Option (BitVec 256)) (x : Session) (vs : List Nat) :
    (effInstallKwk plain x vs s).noRecords := by
  unfold effInstallKwk
  repeat' split
  all_goals simp [hs]

@[simp] theorem effTxStream_noRecords {s : State} (hs : NoRecords s.lanes) (k : Nat) (x : Session) (vs : List Nat) :
    (effTxStream k x vs s).noRecords := by
  unfold effTxStream
  repeat' split
  all_goals simp [hs]

@[simp] theorem effRxStream_noRecords {s : State} (hs : NoRecords s.lanes) (k : Nat) (x : Session) (vs : List Nat) :
    (effRxStream k x vs s).noRecords := by
  unfold effRxStream
  split <;> simp [hs]

@[simp] theorem effBinding_noRecords {s : State} (hs : NoRecords s.lanes) (slot : Nat) (x : Session) (vs : List Nat) :
    (effBinding slot x vs s).noRecords := by simp [effBinding, hs]

@[simp] theorem State.modChan_lanes (s : State) (ch : Nat) (f : Channel → Channel) : (s.modChan ch f).lanes = s.lanes := by simp [State.modChan]

@[simp] theorem effChannelKey_noRecords {s : State} (hs : NoRecords s.lanes) (ch : Nat) (plain : Option KeyPlain) (x : Session) (vs : List Nat) :
    (effChannelKey ch plain x vs s).noRecords := by
  unfold effChannelKey
  repeat' split
  all_goals simp [hs]

@[simp] theorem effSend_noRecords {s : State} (hs : NoRecords s.lanes) (ch : Nat) (m : Bytes) (x : Session) (vs : List Nat) :
    (effSend ch m x vs s).noRecords := by
  simp only [effSend]
  split <;> simp [hs]

@[simp] theorem State.guardedIn_lanes (s : State) (l : LaneId) (ch : Nat) (body : Bytes) : (s.guardedIn l ch body).lanes = s.lanes := by
  simp only [State.guardedIn]
  repeat' split
  all_goals simp

/-! Hoppers, the journal and activations (Machine/EventOps; 06). -/

@[simp] theorem State.drainHeld_lanes (s : State) (h n : Nat) : (State.drainHeld h n s).lanes = s.lanes := by
  induction n generalizing s with
  | zero => rfl
  | succ n ih =>
    simp only [State.drainHeld]
    split
    · rfl
    · split
      · simp [ih]
      · split <;> simp [ih]

@[simp] theorem State.transDone_lanes (s : State) (t : Trans) : (s.transDone t).lanes = s.lanes := by simp [State.transDone]

@[simp] theorem State.drainDone_lanes (s : State) (h n : Nat) : (State.drainDone h n s).lanes = s.lanes := by
  induction n generalizing s with
  | zero => rfl
  | succ n ih =>
    simp only [State.drainDone]
    split
    · split <;> simp [ih]
    · rfl

@[simp] theorem State.journal_lanes (s : State) (kind : Nat) (e : Entry) (number acc : Nat) : (s.journal kind e number acc).lanes = s.lanes := by
  simp [State.journal]

@[simp] theorem State.journalTrans_lanes (s : State) (removed inserted : List Entry) (acc : Nat) :
    (s.journalTrans removed inserted acc).lanes = s.lanes := by simp [State.journalTrans]

@[simp] theorem State.journalUpTo_lanes (s : State) (t : Trans) : (s.journalUpTo t).lanes = s.lanes := by simp [State.journalUpTo]

@[simp] theorem State.accept_lanes (s : State) : s.accept.2.lanes = s.lanes := by simp only [State.accept]

@[simp] theorem State.putTrans_lanes (s : State) (t : Trans) : (s.putTrans t).lanes = s.lanes := by simp [State.putTrans]

@[simp] theorem State.include_lanes (s : State) (acc : Nat) (page : List Entry) : (s.include acc page).lanes = s.lanes := by simp [State.include]

@[simp] theorem State.activationOut_lanes (s : State) (a : Armed) (e : Bytes) : (s.activationOut a e).lanes = s.lanes := by simp [State.activationOut]

@[simp] theorem State.cancelArmed_lanes (s : State) (status detail : Nat) : (s.cancelArmed status detail).lanes = s.lanes := by
  unfold State.cancelArmed
  split <;> simp

@[simp] theorem State.modArmed_lanes (s : State) (f : Armed → Armed) : (s.modArmed f).lanes = s.lanes := by simp [State.modArmed]

@[simp] theorem State.undoFlight_lanes (s : State) : s.undoFlight.lanes = s.lanes := by simp [State.undoFlight]

@[simp] theorem State.setTarget_lanes (s : State) : s.setTarget.lanes = s.lanes := by simp [State.setTarget]

@[simp] theorem State.checkSealed_lanes (s : State) : s.checkSealed.lanes = s.lanes := by
  unfold State.checkSealed
  split <;> simp

@[simp] theorem State.sealNow_lanes (s : State) : s.sealNow.lanes = s.lanes := by
  unfold State.sealNow
  split <;> simp

@[simp] theorem State.swapPages_lanes (s : State) (number : Nat) : (s.swapPages number).lanes = s.lanes := by
  unfold State.swapPages
  extract_lets a page sel revs gone _ _ _ b c
  have hb : b.lanes = s.lanes := by simp [b, a]
  clear_value b
  simp [c, hb]

@[simp] theorem State.abandonMap_lanes (s : State) : s.abandonMap.lanes = s.lanes := by
  unfold State.abandonMap
  split <;> simp

@[simp] theorem State.mapDue_lanes (s : State) : s.mapDue.lanes = s.lanes := by simp [State.mapDue]

@[simp] theorem State.executeArmed_lanes (s : State) (snapshot : Nat) : (s.executeArmed snapshot).lanes = s.lanes := by
  unfold State.executeArmed
  split <;> simp

@[simp] theorem State.dueActivation_lanes (s : State) (count snapshot : Nat) : (s.dueActivation count snapshot).lanes = s.lanes := by
  unfold State.dueActivation
  split <;> simp

@[simp] theorem State.makeRoom_lanes (s : State) (h : Nat) : (s.makeRoom h).lanes = s.lanes := by simp [State.makeRoom]

@[simp] theorem State.consume_lanes (s : State) (h n : Nat) : (s.consume h n).lanes = s.lanes := by simp [State.consume]

@[simp] theorem State.discardFlight_lanes (s : State) : s.discardFlight.lanes = s.lanes := by simp [State.discardFlight]

/-! The read path (Machine/FabricOps; 05, 07). -/

@[simp] theorem State.evalRun_lanes (s : State) (p : Entry × Companion) (tick : Bool) : (s.evalRun p tick).lanes = s.lanes := by simp [State.evalRun]

@[simp] theorem State.evalSels_lanes (s : State) : s.evalSels.lanes = s.lanes := by simp [State.evalSels]

@[simp] theorem State.keepEnding_lanes (s : State) : s.keepEnding.lanes = s.lanes := by simp [State.keepEnding]

@[simp] theorem State.modPair_lanes (s : State) (p : Nat) (f : Pair → Pair) : (s.modPair p f).lanes = s.lanes := by simp [State.modPair]

@[simp] theorem State.runPair_lanes (s : State) (p : Nat) : (s.runPair p).lanes = s.lanes := by simp [State.runPair]

/-! The edit commands (Machine/Edits; 06). -/

@[simp] theorem State.admitTrans_lanes (s : State) (t : Trans) (ops : List EditOp) : (s.admitTrans t ops).lanes = s.lanes := by
  unfold State.admitTrans
  extract_lets acc u v
  split
  · simp [u]
  · split
    · simp [u]
    · split <;> simp [u]

@[simp] theorem State.takeHead_lanes (s : State) (h : Nat) (b : Bytes) (bs : List Bytes) : (s.takeHead h b bs).lanes = s.lanes := by
  simp only [State.takeHead]
  repeat' split
  all_goals simp

@[simp] theorem takeTrans_lanes (h : Nat) (s : State) : (takeTrans h s).lanes = s.lanes := by
  simp only [takeTrans]
  repeat' split
  all_goals simp

@[simp] theorem completeTrans_lanes (acceptance : Nat) (s : State) : (completeTrans acceptance s).lanes = s.lanes := by
  simp only [completeTrans]
  repeat' split
  all_goals simp

@[simp] theorem State.revertPairs_lanes (s : State) : s.revertPairs.lanes = s.lanes := by simp [State.revertPairs]

@[simp] theorem effRevert_noRecords {s : State} (hs : NoRecords s.lanes) (x : Session) (vs : List Nat) : (effRevert x vs s).noRecords := by
  unfold effRevert
  split <;> simp [hs]

@[simp] theorem copyEnd_lanes (s : State) : (copyEnd s).lanes = s.lanes := by simp [copyEnd]

@[simp] theorem effArm_noRecords {s : State} (hs : NoRecords s.lanes) (mode : Nat) (r : ArmRec) : (effArm mode r s).noRecords := by
  unfold effArm
  repeat' split
  all_goals simp [hs]

@[simp] theorem effArmWrite_noRecords {s : State} (hs : NoRecords s.lanes) (x : Session) (vs : List Nat) : (effArmWrite x vs s).noRecords := by
  simp [effArmWrite, hs]

@[simp] theorem sealPoint_lanes (s : State) : (sealPoint s).lanes = s.lanes := by
  unfold sealPoint
  split <;> simp

@[simp] theorem commitPoint_lanes (s : State) : (commitPoint s).lanes = s.lanes := by
  simp only [commitPoint]
  repeat' split
  all_goals simp

@[simp] theorem activation_lanes (s : State) : (activation s).lanes = s.lanes := by simp [activation]

@[simp] theorem effCancel_noRecords {s : State} (hs : NoRecords s.lanes) (x : Session) (vs : List Nat) : (effCancel x vs s).noRecords := by
  unfold effCancel
  split <;> simp [hs]

/-! Engines and the lease (Machine/Engines; 08). -/

@[simp] theorem State.recordFail_lanes (s : State) (e : EngId) (cause : Nat) : (s.recordFail e cause).lanes = s.lanes := by simp [State.recordFail]

@[simp] theorem State.failEngine_lanes (s : State) (e : EngId) (cause : Nat) : (s.failEngine e cause).lanes = s.lanes := by simp [State.failEngine]

@[simp] theorem State.revoke_lanes (s : State) (cause : Nat) : (s.revoke cause).lanes = s.lanes := by
  unfold State.revoke
  split <;> simp

@[simp] theorem State.watchEngines_lanes (s : State) : s.watchEngines.lanes = s.lanes := by simp [State.watchEngines]

@[simp] theorem State.tell_lanes (s : State) (e : EngId) (granted : Bool) : (s.tell e granted).lanes = s.lanes := by simp [State.tell]

@[simp] theorem State.freshSelectors_lanes (s : State) : s.freshSelectors.lanes = s.lanes := by simp [State.freshSelectors]

@[simp] theorem State.pruneJournal_lanes (s : State) : s.pruneJournal.lanes = s.lanes := by simp [State.pruneJournal]

@[simp] theorem leaseState_lanes (e : EngId) (s : State) : (leaseState e s).lanes = s.lanes := by simp [leaseState]

@[simp] theorem State.loadPages_lanes (s : State) (i : Image) : (s.loadPages i).lanes = s.lanes := by simp [State.loadPages]

@[simp] theorem State.newerBad_lanes (s : State) (e : EngId) : (s.newerBad e).lanes = s.lanes := by simp [State.newerBad]

@[simp] theorem wakeEnd_lanes (e : EngId) (r : WakeResult) (s : State) : (wakeEnd e r s).lanes = s.lanes := by
  simp only [wakeEnd]
  repeat' split
  all_goals simp

@[simp] theorem coreRail_lanes (e : EngId) (s : State) : (coreRail e s).lanes = s.lanes := by simp [coreRail]

@[simp] theorem State.engineDown_lanes (s : State) (e : EngId) (cause : Nat) : (s.engineDown e cause).lanes = s.lanes := by simp [State.engineDown]

@[simp] theorem islandLost_lanes (e : EngId) (s : State) : (islandLost e s).lanes = s.lanes := by simp [islandLost]

@[simp] theorem linkFlit_lanes (e : EngId) (c : FlitCheck) (s : State) : (linkFlit e c s).lanes = s.lanes := by
  unfold linkFlit
  repeat' split
  all_goals simp

@[simp] theorem State.engineFault_lanes (s : State) (e : EngId) (cause : Nat) : (s.engineFault e cause).lanes = s.lanes := by
  unfold State.engineFault
  repeat' split
  all_goals simp

@[simp] theorem linkLoss_lanes (e : EngId) (x : LinkFault) (s : State) : (linkLoss e x s).lanes = s.lanes := by simp [linkLoss]

@[simp] theorem State.unusableEngine_lanes (s : State) (e : EngId) : (s.unusableEngine e).lanes = s.lanes := by simp [State.unusableEngine]

@[simp] theorem State.startRefresh_lanes (s : State) : s.startRefresh.lanes = s.lanes := by
  unfold State.startRefresh
  split <;> simp

@[simp] theorem refreshDue_lanes (s : State) : (refreshDue s).lanes = s.lanes := by
  unfold refreshDue
  split <;> simp

@[simp] theorem effRefresh_noRecords {s : State} (hs : NoRecords s.lanes) (x : Session) (vs : List Nat) : (effRefresh x vs s).noRecords := by
  simp [effRefresh, hs]

@[simp] theorem State.endRefresh_lanes (s : State) (e : EngId) (imageOk keptOk : Bool) : (s.endRefresh e imageOk keptOk).lanes = s.lanes := by
  simp [State.endRefresh]

@[simp] theorem refreshEnd_lanes (e : EngId) (o : RefreshObs) (s : State) : (refreshEnd e o s).lanes = s.lanes := by simp [refreshEnd]

@[simp] theorem heartbeat_lanes (sender : EngId) (s : State) : (heartbeat sender s).lanes = s.lanes := by simp [heartbeat]

@[simp] theorem State.missBeat_lanes (s : State) (e : EngId) : (s.missBeat e).lanes = s.lanes := by simp [State.missBeat]

@[simp] theorem heartLost_lanes (e : EngId) (s : State) : (heartLost e s).lanes = s.lanes := by simp [heartLost]

@[simp] theorem effManualSwitch_noRecords {s : State} (hs : NoRecords s.lanes) (x : Session) (vs : List Nat) :
    (effManualSwitch x vs s).noRecords := by
  unfold effManualSwitch
  split <;> simp [hs]

@[simp] theorem handOver_lanes (s : State) : (handOver s).lanes = s.lanes := by
  unfold handOver
  split <;> simp

@[simp] theorem State.startRestart_lanes (s : State) (e : EngId) : (s.startRestart e).lanes = s.lanes := by simp [State.startRestart]

@[simp] theorem autoRestart_lanes (e : EngId) (s : State) : (autoRestart e s).lanes = s.lanes := by simp [autoRestart]

@[simp] theorem effRestartEngine_noRecords {s : State} (hs : NoRecords s.lanes) (x : Session) (vs : List Nat) :
    (effRestartEngine x vs s).noRecords := by simp [effRestartEngine, hs]

@[simp] theorem marchEnd_lanes (e : EngId) (bad : List (Fin 640)) (s : State) : (marchEnd e bad s).lanes = s.lanes := by
  simp only [marchEnd]
  repeat' split
  all_goals simp

@[simp] theorem effTallyRevocation_noRecords {s : State} (hs : NoRecords s.lanes) (x : Session) (vs : List Nat) :
    (effTallyRevocation x vs s).noRecords := by simp [effTallyRevocation, hs]

/-! The sluice (Machine/Sluice; 08). -/

@[simp] theorem State.declareTally_lanes (s : State) : s.declareTally.lanes = s.lanes := by
  unfold State.declareTally
  repeat' split
  all_goals simp

@[simp] theorem compareTally_lanes (checkFault : Option (BitVec 32)) (portFault : BitVec 32) (loop : Bool) (s : State) :
    (compareTally checkFault portFault loop s).lanes = s.lanes := by simp [compareTally]

@[simp] theorem State.depose_lanes (s : State) (e : EngId) (late : Bool) : (s.depose e late).lanes = s.lanes := by simp [State.depose]

@[simp] theorem renew_lanes (e : EngId) (epoch : Nat) (s : State) : (renew e epoch s).lanes = s.lanes := by simp [renew]

@[simp] theorem leaseLapse_lanes (s : State) : (leaseLapse s).lanes = s.lanes := by simp [leaseLapse]

@[simp] theorem State.grant_lanes (s : State) (e : EngId) : (s.grant e).lanes = s.lanes := by simp [State.grant]

@[simp] theorem claimLease_lanes (e : EngId) (epoch : Nat) (s : State) : (claimLease e epoch s).lanes = s.lanes := by simp [claimLease]

@[simp] theorem admitHolder_lanes (s : State) : (admitHolder s).lanes = s.lanes := by
  simp only [admitHolder]
  repeat' split
  all_goals simp

/-! References and governors (Machine/Timing; 09). -/

@[simp] theorem State.modGov_lanes (s : State) (g : GovId) (f : Gov → Gov) : (s.modGov g f).lanes = s.lanes := by simp [State.modGov]

@[simp] theorem State.loseGov_lanes (s : State) (g : GovId) : (s.loseGov g).lanes = s.lanes := by simp [State.loseGov]

@[simp] theorem State.correctRate_lanes (s : State) (x : Int) : (s.correctRate x).lanes = s.lanes := by simp [State.correctRate]

@[simp] theorem State.watchTiming_lanes (s : State) : s.watchTiming.lanes = s.lanes := by simp [State.watchTiming]

@[simp] theorem State.watchRank_lanes (s : State) : s.watchRank.lanes = s.lanes := by simp [State.watchRank]

@[simp] theorem State.selectRef_lanes (s : State) : s.selectRef.lanes = s.lanes := by
  simp only [State.selectRef]
  repeat' split
  all_goals simp

@[simp] theorem edgeMissing_lanes (r : RefId) (s : State) : (edgeMissing r s).lanes = s.lanes := by simp [edgeMissing]

@[simp] theorem activityBack_lanes (r : RefId) (s : State) : (activityBack r s).lanes = s.lanes := by simp [activityBack]

@[simp] theorem State.comparePair_lanes (s : State) (a b : RefId) : (s.comparePair a b).lanes = s.lanes := by simp [State.comparePair]

@[simp] theorem freqResult_lanes (r : RefId) (offset : Int) (s : State) : (freqResult r offset s).lanes = s.lanes := by simp [freqResult]

@[simp] theorem State.cutHistory_lanes (s : State) : s.cutHistory.lanes = s.lanes := by simp [State.cutHistory]

@[simp] theorem State.softStops_lanes (s : State) : s.softStops.lanes = s.lanes := by
  unfold State.softStops
  split <;> simp

@[simp] theorem hardLimit_lanes (r : RefId) (s : State) : (hardLimit r s).lanes = s.lanes := by simp [hardLimit]

@[simp] theorem softLimit_lanes (r : RefId) (s : State) : (softLimit r s).lanes = s.lanes := by simp [softLimit]

@[simp] theorem refWtrEnd_lanes (r : RefId) (s : State) : (refWtrEnd r s).lanes = s.lanes := by
  unfold refWtrEnd
  split <;> simp

@[simp] theorem disagreeSet_lanes (a b : RefId) (s : State) : (disagreeSet a b s).lanes = s.lanes := by simp [disagreeSet]

@[simp] theorem disagreeClear_lanes (a b : RefId) (s : State) : (disagreeClear a b s).lanes = s.lanes := by simp [disagreeClear]

@[simp] theorem effSelect_noRecords {s : State} (hs : NoRecords s.lanes) (x : Session) (vs : List Nat) : (effSelect x vs s).noRecords := by
  simp [effSelect, hs]

@[simp] theorem govLocked_lanes (g : GovId) (s : State) : (govLocked g s).lanes = s.lanes := by simp [govLocked]

@[simp] theorem noLock_lanes (s : State) : (noLock s).lanes = s.lanes := by
  unfold noLock
  split <;> simp

@[simp] theorem historyMinute_lanes (g : GovId) (mean : Int) (s : State) : (historyMinute g mean s).lanes = s.lanes := by simp [historyMinute]

@[simp] theorem calibrate_lanes (mean : Int) (s : State) : (calibrate mean s).lanes = s.lanes := by
  simp only [calibrate]
  split <;> simp

@[simp] theorem ocxoWarm_lanes (s : State) : (ocxoWarm s).lanes = s.lanes := by
  unfold ocxoWarm
  split <;> simp

@[simp] theorem State.toDefault_lanes (s : State) (index sub el : Nat) : (s.toDefault index sub el).lanes = s.lanes := by simp [State.toDefault]

@[simp] theorem effSsmOption_noRecords {s : State} (hs : NoRecords s.lanes) (x : Session) (vs : List Nat) : (effSsmOption x vs s).noRecords := by
  simp [effSsmOption, hs]

@[simp] theorem effRealign_noRecords {s : State} (hs : NoRecords s.lanes) (x : Session) (vs : List Nat) : (effRealign x vs s).noRecords := by
  unfold effRealign
  repeat' split
  all_goals simp [hs]

@[simp] theorem State.setAligned_lanes (s : State) (b : Bool) : (s.setAligned b).lanes = s.lanes := by simp [State.setAligned]

@[simp] theorem State.cancelPending_lanes (s : State) : s.cancelPending.lanes = s.lanes := by simp [State.cancelPending]

@[simp] theorem alignmentLost_lanes (s : State) : (alignmentLost s).lanes = s.lanes := by simp [alignmentLost]

/-! Time of day (Machine/Time; 10). -/

@[simp] theorem State.modTrig_lanes (s : State) (t : Nat) (f : Trig → Trig) : (s.modTrig t f).lanes = s.lanes := by simp [State.modTrig]

@[simp] theorem State.trigEvent_lanes (s : State) (t : Nat) : (s.trigEvent t).lanes = s.lanes := by simp [State.trigEvent]

@[simp] theorem fireTrigger_lanes (t : TrigId) (s : State) : (fireTrigger t s).lanes = s.lanes := by simp [fireTrigger]

@[simp] theorem pulseEnd_lanes (t : TrigId) (s : State) : (pulseEnd t s).lanes = s.lanes := by simp [pulseEnd]

@[simp] theorem effArmTrigger_noRecords {s : State} (hs : NoRecords s.lanes) (t : Nat) (x : Session) (vs : List Nat) :
    (effArmTrigger t x vs s).noRecords := by simp [effArmTrigger, hs]

@[simp] theorem effDisarm_noRecords {s : State} (hs : NoRecords s.lanes) (t : Nat) (x : Session) (vs : List Nat) :
    (effDisarm t x vs s).noRecords := by simp [effDisarm, hs]

@[simp] theorem State.moveTime_lanes (s : State) (d : Int) : (s.moveTime d).lanes = s.lanes := by simp [State.moveTime]

@[simp] theorem State.stepTime_lanes (s : State) (d : Int) (kind : Nat) : (s.stepTime d kind).lanes = s.lanes := by simp [State.stepTime]

@[simp] theorem State.timeAcquire_lanes (s : State) : s.timeAcquire.lanes = s.lanes := by simp [State.timeAcquire]

@[simp] theorem State.timeHold_lanes (s : State) : s.timeHold.lanes = s.lanes := by simp [State.timeHold]

@[simp] theorem State.raiseTjr_lanes (s : State) : s.raiseTjr.lanes = s.lanes := by
  simp only [State.raiseTjr]
  split <;> simp

@[simp] theorem State.applyPermit_lanes (s : State) (m : Int) : (s.applyPermit m).lanes = s.lanes := by simp [State.applyPermit]

@[simp] theorem State.sampleRunning_lanes (s : State) (x : Int) (outlier : Bool) : (s.sampleRunning x outlier).lanes = s.lanes := by
  simp [State.sampleRunning]

@[simp] theorem State.sampleHold_lanes (s : State) (x : Int) (outlier newly : Bool) (m : Int) (limit : Nat) :
    (s.sampleHold x outlier newly m limit).lanes = s.lanes := by simp [State.sampleHold]

@[simp] theorem State.takeSample_lanes (s : State) (x : Int) : (s.takeSample x).lanes = s.lanes := by
  simp only [State.takeSample]
  split <;> simp

@[simp] theorem State.breakRun_lanes (s : State) : s.breakRun.lanes = s.lanes := by simp [State.breakRun]

@[simp] theorem State.loseSource_lanes (s : State) : s.loseSource.lanes = s.lanes := by simp [State.loseSource]

@[simp] theorem sourceLost_lanes (s : State) : (sourceLost s).lanes = s.lanes := by simp [sourceLost]

@[simp] theorem effPermit_noRecords {s : State} (hs : NoRecords s.lanes) (x : Session) (vs : List Nat) : (effPermit x vs s).noRecords := by
  simp [effPermit, hs]

@[simp] theorem slewEnd_lanes (s : State) : (slewEnd s).lanes = s.lanes := by simp [slewEnd]

@[simp] theorem effTimeSource_noRecords {s : State} (hs : NoRecords s.lanes) (x : Session) (vs : List Nat) : (effTimeSource x vs s).noRecords := by
  simp [effTimeSource, hs]

@[simp] theorem effPtpLane_noRecords {s : State} (hs : NoRecords s.lanes) (x : Session) (vs : List Nat) : (effPtpLane x vs s).noRecords := by
  simp [effPtpLane, hs]

@[simp] theorem ppsEdge_lanes (s : State) : (ppsEdge s).lanes = s.lanes := by simp [ppsEdge]

@[simp] theorem todIn_lanes (m : Bytes) (s : State) : (todIn m s).lanes = s.lanes := by
  unfold todIn
  split <;> simp

@[simp] theorem todSend_lanes (s : State) : (todSend s).lanes = s.lanes := by simp [todSend]

@[simp] theorem State.ptpAnnounce_lanes (s : State) (m : Bytes) : (s.ptpAnnounce m).lanes = s.lanes := by
  simp only [State.ptpAnnounce]
  repeat' split
  all_goals simp

@[simp] theorem State.ptpSample_lanes (s : State) : s.ptpSample.lanes = s.lanes := by simp [State.ptpSample]

@[simp] theorem State.ptpSync_lanes (s : State) (m : Bytes) (ingress : Int) : (s.ptpSync m ingress).lanes = s.lanes := by simp [State.ptpSync]

@[simp] theorem State.ptpFollowUp_lanes (s : State) (m : Bytes) : (s.ptpFollowUp m).lanes = s.lanes := by simp [State.ptpFollowUp]

@[simp] theorem State.ptpDelayResp_lanes (s : State) (m : Bytes) : (s.ptpDelayResp m).lanes = s.lanes := by
  unfold State.ptpDelayResp
  split <;> simp

@[simp] theorem State.ptpReceive_lanes (s : State) (l : Nat) (m : Bytes) (ingress : Int) : (s.ptpReceive l m ingress).lanes = s.lanes := by
  unfold State.ptpReceive
  repeat' split
  all_goals simp

@[simp] theorem State.queueTime_noRecords {s : State} (hs : NoRecords s.lanes) (l : Nat) (p : TxPkt) : NoRecords (s.queueTime l p).lanes := by
  simp [State.queueTime, hs]

@[simp] theorem delayInterval_noRecords {s : State} (hs : NoRecords s.lanes) : NoRecords (delayInterval s).lanes := by
  unfold delayInterval
  split <;> simp [hs]

@[simp] theorem State.ptpPacket_noRecords {s : State} (hs : NoRecords s.lanes) (l : LaneId) (data : Bytes) (ingress : Int) :
    NoRecords (s.ptpPacket l data ingress).lanes := by
  unfold State.ptpPacket
  extract_lets m ty mine t timed outs
  have ht : NoRecords t.lanes := by simp [t, hs]
  clear_value t
  split
  · simp [hs]
  · split
    · exact ht
    · refine NoRecords.each ht (fun k u hu => ?_) _
      repeat' split
      all_goals simp [hu]

/-! The frame boundary and the realignment (Machine/Boundary; 02, 04, 05, 09). -/

@[simp] theorem State.txEnd_noRecords {s : State} (hs : NoRecords s.lanes) (o : State) (fill : List (Nat × Nat)) (rows : Nat) (l : LaneId) :
    NoRecords (s.txEnd o fill rows l).lanes := by
  unfold State.txEnd
  extract_lets p lost t b
  have ht : NoRecords t.lanes := by simpa [t] using hs
  clear_value t
  split
  · simp [ht]
  · exact hs

@[simp] theorem State.sendTime_noRecords {s : State} (hs : NoRecords s.lanes) (l : LaneId) : NoRecords (s.sendTime l).lanes := by
  simp [State.sendTime, hs]

@[simp] theorem State.sendData_noRecords {s : State} (hs : NoRecords s.lanes) (l : LaneId) : NoRecords (s.sendData l).lanes := by
  simp [State.sendData, hs]

@[simp] theorem State.nearEvent_lanes (s : State) (k n : Nat) : (s.nearEvent k n).lanes = s.lanes := by simp [State.nearEvent]

@[simp] theorem State.txInterval_lanes (s : State) (k : Nat) : (s.txInterval k).lanes = s.lanes := by simp [State.txInterval]

@[simp] theorem State.txMultiframe_lanes (s : State) (l : LaneId) : (s.txMultiframe l).lanes = s.lanes := by simp [State.txMultiframe]

@[simp] theorem State.dropRecords_lanes (s : State) (l : LaneId) : (s.dropRecords l).lanes = s.lanes := by simp [State.dropRecords]

@[simp] theorem State.txStart_noRecords {s : State} (hs : NoRecords s.lanes) (l : LaneId) (num : Nat × Nat) : NoRecords (s.txStart l num).lanes := by
  unfold State.txStart
  extract_lets first runsOn a b c loop recs d fab so e
  have ha : NoRecords a.lanes := State.modLane_noRecords hs (Chans.noRecord_ite (by simp [hs]) (hs.lane l))
  clear_value a
  have hb : NoRecords b.lanes := by
    simp only [b]
    split <;> simp [ha]
  clear_value b
  have hc : NoRecords c.lanes := by
    simp only [c]
    repeat' split
    all_goals simp [hb]
  clear_value c
  have hd : NoRecords d.lanes := by simp [d, hc]
  clear_value d
  have he : NoRecords e.lanes := by simp [e, hd]
  clear_value e
  exact State.sendData_noRecords (State.sendTime_noRecords he l) l

@[simp] theorem State.txStarts_noRecords {s : State} (hs : NoRecords s.lanes) : NoRecords s.txStarts.lanes := by
  unfold State.txStarts
  simp_all

@[simp] theorem State.takeLanePhase_noRecords {s : State} (hs : NoRecords s.lanes) (o : LanePhase) : NoRecords (s.takeLanePhase o).lanes := by
  simp only [State.takeLanePhase]
  split <;> simp [hs]

@[simp] theorem State.placeMoved_noRecords {s : State} (hs : NoRecords s.lanes) (p : Nat) : NoRecords (s.placeMoved p).lanes := by
  unfold State.placeMoved
  extract_lets ms
  split
  · split <;> simp [hs]
  · refine NoRecords.each hs (fun l t ht => State.modLane_noRecords ht ?_) _
    split <;> simp [ht]

@[simp] theorem State.checkWander_noRecords {s : State} (hs : NoRecords s.lanes) (l : LaneId) : NoRecords (s.checkWander l).lanes := by
  simp only [State.checkWander]
  repeat' split
  all_goals simp (disch := simp [hs]) [hs]

@[simp] theorem State.followSkew_noRecords {s : State} (hs : NoRecords s.lanes) (p : Nat) : NoRecords (s.followSkew p).lanes := by
  unfold State.followSkew
  extract_lets w t
  have ht : NoRecords t.lanes := NoRecords.each hs (fun l u hu => by simp [hu]) _
  clear_value t
  split <;> simp [hs, ht]

@[simp] theorem State.slipLane_noRecords {s : State} (hs : NoRecords s.lanes) (l : LaneId) (add : Bool) : NoRecords (s.slipLane l add).lanes := by
  simp [State.slipLane, hs]

@[simp] theorem State.slipPort_noRecords {s : State} (hs : NoRecords s.lanes) (p : Nat) : NoRecords (s.slipPort p).lanes := by
  unfold State.slipPort
  extract_lets ls hold least
  have slips (b : Bool) : NoRecords (s.each ls fun l s => s.slipLane l b).lanes := NoRecords.each hs (fun l u hu => by simp [hu]) _
  split
  · exact slips true
  · split
    · exact slips false
    · exact hs

@[simp] theorem State.putBuffer_lanes (s : State) (n p : Nat) (bytes : Tab Byte) : (s.putBuffer n p bytes).lanes = s.lanes := by
  simp [State.putBuffer]

@[simp] theorem State.setOnes_lanes (s : State) (n p v : Nat) : (s.setOnes n p v).lanes = s.lanes := by simp [State.setOnes]

@[simp] theorem State.readLane_noRecords {s : State} (hs : NoRecords s.lanes) (n : Nat) (l : LaneId) : NoRecords (s.readLane n l).lanes := by
  simp only [State.readLane]
  repeat' split
  all_goals simp (disch := simp [hs])

@[simp] theorem State.restoreLane_noRecords {s : State} (hs : NoRecords s.lanes) (l : LaneId) : NoRecords (s.restoreLane l).lanes := by
  simp [State.restoreLane, hs]

@[simp] theorem State.freshOnes_lanes (s : State) (n : Nat) : (s.freshOnes n).lanes = s.lanes := by simp [State.freshOnes]

@[simp] theorem State.readyFrame_noRecords {s : State} (hs : NoRecords s.lanes) (n : Nat) : NoRecords (s.readyFrame n).lanes := by
  unfold State.readyFrame
  simp_all

@[simp] theorem State.forebay_noRecords {s : State} (hs : NoRecords s.lanes) (n : Nat) (phases : List LanePhase) :
    NoRecords (s.forebay n phases).lanes := by
  unfold State.forebay
  extract_lets a b c d e
  have ha : NoRecords a.lanes := NoRecords.each hs (fun _ t ht => by simp [ht]) _
  clear_value a
  have hb : NoRecords b.lanes := NoRecords.each ha (fun _ t ht => by simp [ht]) _
  clear_value b
  have hc : NoRecords c.lanes := NoRecords.each hb (fun _ t ht => by simp [ht]) _
  clear_value c
  have hd : NoRecords d.lanes := NoRecords.each hc (fun _ t ht => by simp [ht]) _
  clear_value d
  have he : NoRecords e.lanes := NoRecords.each hd (fun _ t ht => by simp [ht]) _
  exact State.readyFrame_noRecords he n

@[simp] theorem State.hardSwitch_lanes (s : State) (l : LaneId) : (s.hardSwitch l).lanes = s.lanes := by simp [State.hardSwitch]

@[simp] theorem State.pulse_lanes (s : State) (ls : List LaneId) : (s.pulse ls).lanes = s.lanes := by simp [State.pulse]

@[simp] theorem State.loadLineSels_lanes (s : State) : s.loadLineSels.lanes = s.lanes := by simp [State.loadLineSels]

@[simp] theorem State.followPairs_lanes (s : State) : s.followPairs.lanes = s.lanes := by simp [State.followPairs]

@[simp] theorem State.latchFails_noRecords {s : State} (hs : NoRecords s.lanes) : NoRecords s.latchFails.lanes := by
  unfold State.latchFails
  extract_lets news t _ u
  have ht : NoRecords t.lanes := NoRecords.each hs (fun _ u hu => by simp [hu]) _
  clear_value t
  simpa [u] using ht

@[simp] theorem State.engineReport_lanes (s : State) (e : EngId) (r : ReadReport) : (s.engineReport e r).lanes = s.lanes := by
  simp [State.engineReport]

@[simp] theorem State.nextIdentity_lanes (s : State) : s.nextIdentity.lanes = s.lanes := by simp [State.nextIdentity]

@[simp] theorem State.measurePhase_lanes (s : State) : s.measurePhase.lanes = s.lanes := by simp only [State.measurePhase]

@[simp] theorem State.ppsOut_lanes (s : State) : s.ppsOut.lanes = s.lanes := by simp [State.ppsOut]

@[simp] theorem State.endFrame_noRecords {s : State} (hs : NoRecords s.lanes) (us : List Upset) (rows : Nat) :
    NoRecords (s.endFrame us rows).lanes := by
  unfold State.endFrame
  extract_lets o fill _ t u _
  have ht : NoRecords t.lanes := by simpa [t] using hs
  clear_value t
  have hu : NoRecords u.lanes := NoRecords.each ht (fun _ u hu => by simp [hu]) _
  clear_value u
  simpa using hu

@[simp] theorem State.openRows_lanes (s : State) : s.openRows.lanes = s.lanes := by simp [State.openRows]

@[simp] theorem State.tableSteps_noRecords {s : State} (hs : NoRecords s.lanes) (n : Nat) (before : Tab Bool) :
    NoRecords (s.tableSteps n before).lanes := by simp [State.tableSteps, hs]

@[simp] theorem State.startFrame_noRecords {s : State} (hs : NoRecords s.lanes) : NoRecords s.startFrame.lanes := by simp [State.startFrame, hs]

@[simp] theorem State.snapFabs_noRecords {s : State} (hs : NoRecords s.lanes) : NoRecords s.snapFabs.lanes :=
  NoRecords.each hs (fun _ u hu => by simp [hu]) _

@[simp] theorem frameBoundary_noRecords {s : State} (hs : NoRecords s.lanes) (o : BoundaryObs) : NoRecords (frameBoundary o s).lanes := by
  unfold frameBoundary
  extract_lets n sels a b t t' _ u v w _
  have ht : NoRecords t.lanes := State.endFrame_noRecords hs _ _
  clear_value t
  have ht' : NoRecords t'.lanes := by simpa [t'] using ht
  clear_value t'
  have hu : NoRecords u.lanes := State.snapFabs_noRecords (by simpa using ht')
  clear_value u
  have hv : NoRecords v.lanes := State.tableSteps_noRecords (State.forebay_noRecords hu _ _) _ _
  clear_value v
  have hw : NoRecords w.lanes := State.startFrame_noRecords (by simpa using hv)
  clear_value w
  split
  · exact hs
  · simpa using hw

@[simp] theorem State.replaceLanes_noRecords {s : State} (hs : NoRecords s.lanes) (n : Nat) (phases : List LanePhase) :
    NoRecords (s.replaceLanes n phases).lanes := by
  unfold State.replaceLanes
  extract_lets a b
  have ha : NoRecords a.lanes := NoRecords.each hs (fun _ t ht => by simp [ht]) _
  clear_value a
  have hb : NoRecords b.lanes := by
    refine NoRecords.each ha (fun p t ht => ?_) _
    extract_lets ls
    split
    · exact ht
    · exact State.placeSet_noRecords (NoRecords.each ht (fun _ u hu => by simp [hu]) _) _ _
  clear_value b
  simpa using hb

@[simp] theorem State.taiIdentity_lanes (s : State) (t : Nat) : (s.taiIdentity t).lanes = s.lanes := by simp [State.taiIdentity]

@[simp] theorem State.cutStreams_lanes (s : State) (near : Bool) : (s.cutStreams near).lanes = s.lanes := by simp [State.cutStreams]

@[simp] theorem realign_noRecords {s : State} (hs : NoRecords s.lanes) (phases : List LanePhase) : NoRecords (realign phases s).lanes := by
  unfold realign
  split
  · exact hs
  next t _ =>
    extract_lets n sels near age a a' _ b c _ d _ _ _ e f
    have ha : NoRecords a.lanes := by
      rw [show a.lanes = (s.endFrame [] (if near then 1000 else age / 125)).lanes from State.cutStreams_lanes _ _]
      exact State.endFrame_noRecords hs _ _
    clear_value a
    have ha' : NoRecords a'.lanes := by simpa [a'] using ha
    clear_value a'
    have hb : NoRecords b.lanes := State.snapFabs_noRecords (by simpa using ha')
    clear_value b
    have hc : NoRecords c.lanes := State.forebay_noRecords hb _ _
    clear_value c
    have hd : NoRecords d.lanes := State.readyFrame_noRecords (State.replaceLanes_noRecords hb _ _) _
    clear_value d
    have he : NoRecords e.lanes := by
      simp only [e]
      split
      · simpa using hc
      · simpa using hd
    clear_value e
    have hf : NoRecords f.lanes := by simpa [f] using he
    clear_value f
    split
    · exact hs
    · exact State.startFrame_noRecords (State.tableSteps_noRecords hf _ _)

/-! Performance monitoring (Machine/Pm; 12). -/

@[simp] theorem State.modMon_lanes (s : State) (e : Entity) (f : Mon → Mon) : (s.modMon e f).lanes = s.lanes := by
  unfold State.modMon
  split <;> simp

@[simp] theorem secondEnd_lanes (s : State) : (secondEnd s).lanes = s.lanes := by simp [secondEnd]

@[simp] theorem classify_lanes (e : Entity) (s : State) : (classify e s).lanes = s.lanes := by
  unfold classify
  split <;> simp

@[simp] theorem State.cross_lanes (s : State) (e : Entity) (len : Nat) (old new : Bin) (sec : Nat) : (s.cross e len old new sec).lanes = s.lanes := by
  simp [State.cross]

@[simp] theorem State.commitOne_lanes (s : State) (e : Entity) : (s.commitOne e).lanes = s.lanes := by
  simp only [State.commitOne]
  split <;> simp

@[simp] theorem State.checkOffset_lanes (s : State) : s.checkOffset.lanes = s.lanes := by
  unfold State.checkOffset
  split <;> simp

@[simp] theorem commitSecond_lanes (s : State) : (commitSecond s).lanes = s.lanes := by simp [commitSecond]

@[simp] theorem State.exportBin_lanes (s : State) (x : Bytes) : (s.exportBin x).lanes = s.lanes := by simp [State.exportBin]

@[simp] theorem State.drainEntity_lanes (s : State) (e : Entity) : (s.drainEntity e).lanes = s.lanes := by simp [State.drainEntity]

@[simp] theorem drainWheel_lanes (w : WheelId) (s : State) : (drainWheel w s).lanes = s.lanes := by simp [drainWheel]

@[simp] theorem State.clearMon_lanes (s : State) (e : Entity) : (s.clearMon e).lanes = s.lanes := by simp [State.clearMon]

@[simp] theorem effClear_noRecords {s : State} (hs : NoRecords s.lanes) (x : Session) (vs : List Nat) : (effClear x vs s).noRecords := by
  simp only [effClear]
  repeat' split
  all_goals simp [hs]

/-! The protection commands (Machine/Protection; 07). -/

@[simp] theorem effProtectPort_noRecords {s : State} (hs : NoRecords s.lanes) (session tag p : Nat) (x : Session) (vs : List Nat) :
    (effProtectPort session tag p x vs s).noRecords := by
  simp only [effProtectPort]
  repeat' split
  all_goals simp [hs]

@[simp] theorem State.journalFlight_lanes (s : State) : s.journalFlight.lanes = s.lanes := by
  unfold State.journalFlight
  split <;> simp

@[simp] theorem takePair_lanes (s : State) (port : LaneId) : (takePair port s).lanes = s.lanes := by
  unfold takePair
  split
  · rfl
  next w _ =>
    extract_lets _ t page acc u v x y
    have hu : u.lanes = s.lanes := by simp [u, t]
    have hv : v.lanes = s.lanes := by simp [v, hu]
    have hx : x.lanes = s.lanes := by simp [x, hv]
    have hy : y.lanes = s.lanes := by simp [y, hx]
    clear_value y x v u
    split
    · rfl
    · split
      · simp [t]
      · split <;> simp [hu, hy]

@[simp] theorem pairTimeout_lanes (port : LaneId) (s : State) : (pairTimeout port s).lanes = s.lanes := by
  unfold pairTimeout
  split <;> simp

@[simp] theorem effPairMode_noRecords {s : State} (hs : NoRecords s.lanes) (p : Nat) (x : Session) (vs : List Nat) :
    (effPairMode p x vs s).noRecords := by simp [effPairMode, hs]

@[simp] theorem holdOffEnd_lanes (p : LaneId) (side : PairSide) (s : State) : (holdOffEnd p side s).lanes = s.lanes := by
  simp only [holdOffEnd]
  repeat' split
  all_goals simp

@[simp] theorem evalPairs_lanes (s : State) : (evalPairs s).lanes = s.lanes := by simp [evalPairs]

@[simp] theorem lineWtrEnd_lanes (p : LaneId) (s : State) : (lineWtrEnd p s).lanes = s.lanes := by
  simp only [lineWtrEnd]
  split <;> simp

@[simp] theorem effLine_noRecords {s : State} (hs : NoRecords s.lanes) (p : Nat) (x : Session) (vs : List Nat) : (effLine p x vs s).noRecords := by
  simp [effLine, hs]

@[simp] theorem modeMismatch_lanes (p : LaneId) (up : Bool) (s : State) : (modeMismatch p up s).lanes = s.lanes := by simp [modeMismatch]

@[simp] theorem selectorMismatch_lanes (p : LaneId) (up : Bool) (s : State) : (selectorMismatch p up s).lanes = s.lanes := by simp [selectorMismatch]

@[simp] theorem wtrTick_lanes (s : State) : (wtrTick s).lanes = s.lanes := by simp [wtrTick]

@[simp] theorem wtrReached_lanes (i : Fin 262144) (s : State) : (wtrReached i s).lanes = s.lanes := by
  unfold wtrReached
  split <;> simp

@[simp] theorem State.modSels_lanes (s : State) (h : Nat) (f : Sel → Sel) : (s.modSels h f).lanes = s.lanes := by simp [State.modSels]

@[simp] theorem effCircuitCmd_noRecords {s : State} (hs : NoRecords s.lanes) (h : Nat) (x : Session) (vs : List Nat) :
    (effCircuitCmd h x vs s).noRecords := by simp [effCircuitCmd, hs]

@[simp] theorem effRevertive_noRecords {s : State} (hs : NoRecords s.lanes) (h : Nat) (x : Session) (vs : List Nat) :
    (effRevertive h x vs s).noRecords := by simp [effRevertive, hs]

@[simp] theorem State.writeCopies_lanes (s : State) (some_ : Nat → Bool) : (s.writeCopies some_).lanes = s.lanes := by simp [State.writeCopies]

@[simp] theorem writeBackSels_lanes (s : State) : (writeBackSels s).lanes = s.lanes := by simp [writeBackSels]

/-! The supervisor (Machine/Supervisor; 13). -/

@[simp] theorem State.countErase_lanes (s : State) (area : Fin 14) : (s.countErase area).lanes = s.lanes := by simp [State.countErase]

@[simp] theorem State.badArea_lanes (s : State) (n : Nat) (bad : Bool) : (s.badArea n bad).lanes = s.lanes := by simp [State.badArea]

@[simp] theorem State.putHeader_lanes (s : State) (h : Header) : (s.putHeader h).lanes = s.lanes := by simp [State.putHeader]

@[simp] theorem State.takeHeader_lanes (s : State) : s.takeHeader.lanes = s.lanes := by
  unfold State.takeHeader
  split <;> simp

@[simp] theorem State.writeHeader_lanes (s : State) (f : Header → Header) : (s.writeHeader f).lanes = s.lanes := by simp [State.writeHeader]

@[simp] theorem State.auditBoot_lanes (s : State) (slot result : Nat) : (s.auditBoot slot result).lanes = s.lanes := by simp [State.auditBoot]

@[simp] theorem State.recovery_lanes (s : State) : s.recovery.lanes = s.lanes := by simp [State.recovery]

@[simp] theorem State.bootSlot_lanes (s : State) : s.bootSlot.lanes = s.lanes := by
  simp only [State.bootSlot]
  split <;> simp

@[simp] theorem State.recommit_lanes (s : State) (result : Nat) : (s.recommit result).lanes = s.lanes := by simp [State.recommit]

@[simp] theorem State.dropFlash_lanes (s : State) : s.dropFlash.lanes = s.lanes := by
  simp only [State.dropFlash]
  split <;> simp

@[simp] theorem State.supRestart_lanes (s : State) (cause : Nat) (recover : Bool) : (s.supRestart cause recover).lanes = s.lanes := by
  simp [State.supRestart]

@[simp] theorem effRestartSup_noRecords {s : State} (hs : NoRecords s.lanes) (x : Session) (vs : List Nat) : (effRestartSup x vs s).noRecords := by
  simp [effRestartSup, hs]

@[simp] theorem lockstep_lanes (s : State) : (lockstep s).lanes = s.lanes := by simp [lockstep]

@[simp] theorem State.rebuildShadow_lanes (s : State) : s.rebuildShadow.lanes = s.lanes := by simp [State.rebuildShadow]

@[simp] theorem State.restartWtr_lanes (s : State) (p : Nat) : (s.restartWtr p).lanes = s.lanes := by simp [State.restartWtr]

@[simp] theorem State.clearGone_lanes (s : State) : s.clearGone.lanes = s.lanes := by simp [State.clearGone]

@[simp] theorem State.lateBootRec_lanes (s : State) : s.lateBootRec.lanes = s.lanes := by
  unfold State.lateBootRec
  split <;> simp

@[simp] theorem State.heardAgain_lanes (s : State) : s.heardAgain.lanes = s.lanes := by simp [State.heardAgain]

@[simp] theorem restartEnd_lanes (s : State) : (restartEnd s).lanes = s.lanes := by simp [restartEnd]

@[simp] theorem State.portLost_noRecords (s : State) : NoRecords s.portLost.lanes := by simp [State.portLost]

@[simp] theorem portFault_noRecords {s : State} (hs : NoRecords s.lanes) : NoRecords (portFault s).lanes := by simp [portFault, hs]

@[simp] theorem State.modCog_lanes (s : State) (c : Nat) (f : Cog → Cog) : (s.modCog c f).lanes = s.lanes := by simp [State.modCog]

@[simp] theorem cogFaulted_lanes (c : CogId) (kind : Nat) (s : State) : (cogFaulted c kind s).lanes = s.lanes := by simp [cogFaulted]

@[simp] theorem cogBack_lanes (c : CogId) (s : State) : (cogBack c s).lanes = s.lanes := by simp [cogBack]

@[simp] theorem auditPass_lanes (bad : List Nat) (ms : Nat) (s : State) : (auditPass bad ms s).lanes = s.lanes := by simp [auditPass]

@[simp] theorem State.starve_lanes (s : State) (g : Nat) : (s.starve g).lanes = s.lanes := by simp [State.starve]

@[simp] theorem State.errorResponse_lanes (s : State) (m t : Nat) : (s.errorResponse m t).lanes = s.lanes := by simp [State.errorResponse]

@[simp] theorem matrixTimeout_lanes (m : MasterId) (t : TargetId) (s : State) : (matrixTimeout m t s).lanes = s.lanes := by simp [matrixTimeout]

@[simp] theorem State.resetWheel_lanes (s : State) (w : Nat) : (s.resetWheel w).lanes = s.lanes := by simp [State.resetWheel]

@[simp] theorem masterReset_lanes (m : MasterId) (o : ResetObs) (s : State) : (masterReset m o s).lanes = s.lanes := by simp [masterReset]

@[simp] theorem State.modBank_lanes (s : State) (b : Nat) (f : Bank → Bank) : (s.modBank b f).lanes = s.lanes := by simp [State.modBank]

@[simp] theorem State.freshSlices_lanes (s : State) : s.freshSlices.lanes = s.lanes := by simp [State.freshSlices]

@[simp] theorem State.startPass_lanes (s : State) : s.startPass.lanes = s.lanes := by
  unfold State.startPass
  split <;> simp

@[simp] theorem State.endPass_lanes (s : State) : s.endPass.lanes = s.lanes := by simp [State.endPass]

@[simp] theorem State.advanceBank_lanes (s : State) (b : Nat) : (s.advanceBank b).lanes = s.lanes := by
  unfold State.advanceBank
  split <;> simp

@[simp] theorem State.advance_lanes (s : State) : s.advance.lanes = s.lanes := by simp [State.advance]

@[simp] theorem State.retireBank_lanes (s : State) (b : Nat) : (s.retireBank b).lanes = s.lanes := by simp [State.retireBank]

@[simp] theorem marchSlice_lanes (b : BankId) (k : Fin 64) (r : SliceResult) (s : State) : (marchSlice b k r s).lanes = s.lanes := by
  unfold marchSlice
  repeat' split
  all_goals simp

@[simp] theorem sliceAgain_lanes (s : State) : (sliceAgain s).lanes = s.lanes := by
  unfold sliceAgain
  split <;> simp

@[simp] theorem passDue_lanes (s : State) : (passDue s).lanes = s.lanes := by simp [passDue]

@[simp] theorem effStartPass_noRecords {s : State} (hs : NoRecords s.lanes) (x : Session) (vs : List Nat) : (effStartPass x vs s).noRecords := by
  simp [effStartPass, hs]

@[simp] theorem scratchError_lanes (b : BankId) (use : ScratchUse) (s : State) : (scratchError b use s).lanes = s.lanes := by
  unfold scratchError
  repeat' split
  all_goals simp

@[simp] theorem windowEnd_lanes (cs : List PortCounts) (s : State) : (windowEnd cs s).lanes = s.lanes := by simp [windowEnd]

@[simp] theorem effWindow_noRecords {s : State} (hs : NoRecords s.lanes) (x : Session) (vs : List Nat) : (effWindow x vs s).noRecords := by
  simp [effWindow, hs]

/-! Power, start-up and flash (Machine/Power; 16). -/

@[simp] theorem State.setCopy_lanes (s : State) (a : Nat) (c : DictCopy) : (s.setCopy a c).lanes = s.lanes := by simp [State.setCopy]

@[simp] theorem State.setMap_lanes (s : State) (a : Nat) (i : Image) : (s.setMap a i).lanes = s.lanes := by simp [State.setMap]

@[simp] theorem State.startErase_lanes (s : State) (a : Nat) : (s.startErase a).lanes = s.lanes := by simp [State.startErase]

@[simp] theorem State.eraseAhead_lanes (s : State) : s.eraseAhead.lanes = s.lanes := by simp [State.eraseAhead]

@[simp] theorem eraseEnd_lanes (n : Fin 14) (ok : Bool) (s : State) : (eraseEnd n ok s).lanes = s.lanes := by simp [eraseEnd]

@[simp] theorem budgetUnit_lanes (s : State) : (budgetUnit s).lanes = s.lanes := by simp [budgetUnit]

@[simp] theorem effCommit_noRecords {s : State} (hs : NoRecords s.lanes) (x : Session) (vs : List Nat) : (effCommit x vs s).noRecords := by
  simp only [effCommit]
  repeat' split
  all_goals simp [hs]

@[simp] theorem State.answerCommit_lanes (s : State) (a : Ans) : (s.answerCommit a).lanes = s.lanes := by
  unfold State.answerCommit
  split <;> simp

@[simp] theorem commitEnd_lanes (verified : Bool) (s : State) : (commitEnd verified s).lanes = s.lanes := by simp [commitEnd]

@[simp] theorem mapStart_lanes (s : State) : (mapStart s).lanes = s.lanes := by simp [mapStart]

@[simp] theorem mapEnd_lanes (verified : Bool) (s : State) : (mapEnd verified s).lanes = s.lanes := by
  unfold mapEnd
  split <;> simp

@[simp] theorem State.volatileLost_noRecords (s : State) : NoRecords s.volatileLost.lanes := by simp [State.volatileLost]

@[simp] theorem State.ocxoOff_lanes (s : State) : s.ocxoOff.lanes = s.lanes := by simp [State.ocxoOff]

@[simp] theorem State.internalReset_noRecords (s : State) (cause dur : Nat) :
    NoRecords (s.internalReset cause dur).lanes := by simp [State.internalReset]

@[simp] theorem State.restorePairs_lanes (s : State) : s.restorePairs.lanes = s.lanes := by simp [State.restorePairs]

@[simp] theorem State.startPortDie_noRecords {s : State} (hs : NoRecords s.lanes) : NoRecords s.startPortDie.lanes := by
  unfold State.startPortDie
  extract_lets _ a b
  have ha : NoRecords a.lanes := hs
  clear_value a
  have hb : NoRecords b.lanes := by
    refine NoRecords.each ha (fun l t ht => ?_) _
    split
    · exact State.settle_noRecords (by simp [ht]) l
    · exact ht
  clear_value b
  simpa using hb

@[simp] theorem State.loadMap_lanes (s : State) : s.loadMap.lanes = s.lanes := by
  unfold State.loadMap
  extract_lets i _ _ _
  split
  next a b _ =>
    extract_lets gone a' b' t u v w
    have hu : u.lanes = s.lanes := by simp [u, t]
    clear_value u
    have hw : w.lanes = s.lanes := by
      simp only [w, v, State.reloadStreams_lanes]
      split <;> simp [hu]
    clear_value w
    split <;> simp [hw]

@[simp] theorem State.startEngine_lanes (s : State) (e : EngId) (bad : List (Fin 640)) (good : Bool) :
    (s.startEngine e bad good).lanes = s.lanes := by simp [State.startEngine]

@[simp] theorem State.startTraffic_noRecords {s : State} (hs : NoRecords s.lanes) (o : BootObs) : NoRecords (s.startTraffic o).lanes := by
  simp [State.startTraffic, hs]

@[simp] theorem State.restoreDict_lanes (s : State) : s.restoreDict.lanes = s.lanes := by
  unfold State.restoreDict
  split <;> simp

@[simp] theorem State.restoreMap_lanes (s : State) : s.restoreMap.lanes = s.lanes := by simp [State.restoreMap]

@[simp] theorem State.noteWear_lanes (s : State) : s.noteWear.lanes = s.lanes := by simp [State.noteWear]

@[simp] theorem State.damage_lanes (s : State) (areas : List (Fin 14)) : (s.damage areas).lanes = s.lanes := by
  refine State.each_lanes (fun a t => ?_) s areas
  split <;> simp

@[simp] theorem State.failTags_lanes (s : State) (tagA tagB : Bool) : (s.failTags tagA tagB).lanes = s.lanes := by simp [State.failTags]

@[simp] theorem State.tamper_noRecords {s : State} (hs : NoRecords s.lanes) : NoRecords s.tamper.lanes := by simp [State.tamper, hs]

@[simp] theorem State.senseTamper_noRecords {s : State} (hs : NoRecords s.lanes) : NoRecords s.senseTamper.lanes := by
  simp only [State.senseTamper]
  repeat' split
  all_goals simp [hs]

@[simp] theorem State.startUp_noRecords (s : State) (o : BootObs) (cause : Nat) : NoRecords (s.startUp o cause).lanes := by
  simp only [State.startUp]
  repeat' split
  all_goals simp

@[simp] theorem State.restartCounters_lanes (s : State) : s.restartCounters.lanes = s.lanes := by simp [State.restartCounters]

@[simp] theorem State.resume_noRecords {s : State} (hs : NoRecords s.lanes) (o : BootObs) : NoRecords (s.resume o).lanes := by simp [State.resume, hs]

@[simp] theorem startupEnd_lanes (s : State) : (startupEnd s).lanes = s.lanes := by simp [startupEnd]

@[simp] theorem State.chooseFeed_lanes (s : State) : s.chooseFeed.lanes = s.lanes := by simp [State.chooseFeed]

@[simp] theorem State.watchFeeds_lanes (s : State) : s.watchFeeds.lanes = s.lanes := by simp [State.watchFeeds]

@[simp] theorem feedUp_noRecords {s : State} (hs : NoRecords s.lanes) (f : FeedId) (volts : Nat) (o : BootObs) :
    NoRecords (feedUp f volts o s).lanes := by
  simp only [feedUp]
  repeat' split
  all_goals simp [hs]

@[simp] theorem feedDown_lanes (f : FeedId) (volts : Nat) (s : State) : (feedDown f volts s).lanes = s.lanes := by simp [feedDown]

@[simp] theorem keepGone_noRecords {s : State} (hs : NoRecords s.lanes) : NoRecords (keepGone s).lanes := by
  unfold keepGone
  split <;> simp [hs]

@[simp] theorem trip_noRecords {s : State} (hs : NoRecords s.lanes) (f : FeedId) : NoRecords (trip f s).lanes := by
  unfold trip
  split <;> simp [hs]

@[simp] theorem retrySwitch_lanes (f : FeedId) (s : State) : (retrySwitch f s).lanes = s.lanes := by
  unfold retrySwitch
  split <;> simp

@[simp] theorem seat_noRecords {s : State} (hs : NoRecords s.lanes) (o : BootObs) : NoRecords (seat o s).lanes := by
  unfold seat
  split <;> simp [hs]

@[simp] theorem unseat_noRecords (p : Fin 2) (s : State) : NoRecords (unseat p s).lanes := by simp [unseat]

@[simp] theorem releaseReset_noRecords {s : State} (hs : NoRecords s.lanes) (o : BootObs) : NoRecords (releaseReset o s).lanes := by
  unfold releaseReset
  split <;> simp [hs]

@[simp] theorem startAgain_noRecords {s : State} (hs : NoRecords s.lanes) (o : BootObs) : NoRecords (startAgain o s).lanes := by
  unfold startAgain
  repeat' split
  all_goals simp [hs]

@[simp] theorem State.failTrans_lanes (s : State) (t : Trans) : (s.failTrans t).lanes = s.lanes := by
  simp only [State.failTrans]
  split <;> simp

@[simp] theorem State.failFlight_lanes (s : State) : s.failFlight.lanes = s.lanes := by simp [State.failFlight]

@[simp] theorem State.failWrites_lanes (s : State) : s.failWrites.lanes = s.lanes := by simp [State.failWrites]

@[simp] theorem powerFail_noRecords {s : State} (hs : NoRecords s.lanes) : NoRecords (powerFail s).lanes := by
  unfold powerFail
  repeat' split
  all_goals simp [hs]

@[simp] theorem State.writeDefaults_lanes (s : State) : s.writeDefaults.lanes = s.lanes := by simp [State.writeDefaults]

@[simp] theorem effDefaults_noRecords {s : State} (hs : NoRecords s.lanes) (x : Session) (vs : List Nat) : (effDefaults x vs s).noRecords := by
  unfold effDefaults
  repeat' split
  all_goals simp_all

/-! Security (Machine/Security; 15). -/

@[simp] theorem State.enrol_lanes (s : State) (b : Bytes) : (s.enrol b).lanes = s.lanes := by simp [State.enrol]

@[simp] theorem effEnrol_noRecords {s : State} (hs : NoRecords s.lanes) (b : Bytes) (x : Session) (vs : List Nat) :
    (effEnrol b x vs s).noRecords := by
  unfold effEnrol
  split <;> simp [hs]

@[simp] theorem State.closeWhere_lanes (s : State) (cause : Nat) (p : Session → Bool) : (s.closeWhere cause p).lanes = s.lanes := by
  simp [State.closeWhere]

@[simp] theorem effRevokeCert_noRecords {s : State} (hs : NoRecords s.lanes) (x : Session) (vs : List Nat) : (effRevokeCert x vs s).noRecords := by
  unfold effRevokeCert
  split <;> simp [hs]

@[simp] theorem commissioning_lanes (bytes : Bytes) (s : State) : (commissioning bytes s).lanes = s.lanes := by
  simp only [commissioning]
  repeat' split
  all_goals simp

@[simp] theorem effMakerAccess_noRecords {s : State} (hs : NoRecords s.lanes) (x : Session) (vs : List Nat) : (effMakerAccess x vs s).noRecords := by
  simp [effMakerAccess, hs]

@[simp] theorem flushAudit_lanes (good : Bool) (s : State) : (flushAudit good s).lanes = s.lanes := by simp [flushAudit]

@[simp] theorem effMarkRead_noRecords {s : State} (hs : NoRecords s.lanes) (x : Session) (vs : List Nat) : (effMarkRead x vs s).noRecords := by
  simp [effMarkRead, hs]

@[simp] theorem State.auditImage_lanes (s : State) (sub t : Nat) : (s.auditImage sub t).lanes = s.lanes := by simp [State.auditImage]

@[simp] theorem State.startTrialBoot_noRecords {s : State} (hs : NoRecords s.lanes) : NoRecords s.startTrialBoot.lanes := by
  simp [State.startTrialBoot, hs]

@[simp] theorem effTrial_noRecords {s : State} (hs : NoRecords s.lanes) (x : Session) (vs : List Nat) : (effTrial x vs s).noRecords := by
  unfold effTrial
  simp_all

@[simp] theorem effConfirm_noRecords {s : State} (hs : NoRecords s.lanes) (x : Session) (vs : List Nat) : (effConfirm x vs s).noRecords := by
  simp [effConfirm, hs]

@[simp] theorem effRecovery_noRecords {s : State} (hs : NoRecords s.lanes) (x : Session) (vs : List Nat) : (effRecovery x vs s).noRecords := by
  simp [effRecovery, hs]

@[simp] theorem effNonce_noRecords {s : State} (hs : NoRecords s.lanes) (session : Nat) (nonce : Bytes) (x : Session) (vs : List Nat) :
    (effNonce session nonce x vs s).noRecords := by simp [effNonce, hs]

@[simp] theorem reportReady_lanes (session : Nat) (s : State) : (reportReady session s).lanes = s.lanes := by simp [reportReady]

@[simp] theorem tamperSeen_noRecords {s : State} (hs : NoRecords s.lanes) (i : TamperInput) : NoRecords (tamperSeen i s).lanes := by
  unfold tamperSeen
  have step (u : State) (hu : NoRecords u.lanes) (b : Bool) : NoRecords (u.when b State.tamper).lanes :=
    State.when_noRecords hu (fun _ => State.tamper_noRecords) b
  split
  · split
    · exact hs
    · exact step _ (by simpa using hs) _
  · split
    · exact hs
    · exact step _ (by simpa using hs) _

@[simp] theorem effTamperEnable_noRecords {s : State} (hs : NoRecords s.lanes) (x : Session) (vs : List Nat) :
    (effTamperEnable x vs s).noRecords := by
  unfold effTamperEnable
  simp_all

@[simp] theorem effClearTamper_noRecords {s : State} (hs : NoRecords s.lanes) (x : Session) (vs : List Nat) : (effClearTamper x vs s).noRecords := by
  simp [effClearTamper, hs]

@[simp] theorem State.environment_noRecords {s : State} (hs : NoRecords s.lanes) (cause : Nat) : NoRecords (s.environment cause).lanes := by
  simp [State.environment, hs]

@[simp] theorem tempSample_noRecords {s : State} (hs : NoRecords s.lanes) (t : Temps) : NoRecords (tempSample t s).lanes := by
  unfold tempSample
  extract_lets m out was _ _ a b c d _ _
  have ha : NoRecords a.lanes := hs
  clear_value a
  have hb : NoRecords b.lanes := State.when_noRecords ha (fun u hu => by simp [hu]) _
  clear_value b
  have hc : NoRecords c.lanes := by
    simp only [c]
    repeat' split
    all_goals simp [hb]
  clear_value c
  have hd : NoRecords d.lanes := State.internalReset_noRecords ..
  clear_value d
  split
  · simpa using hd
  · split
    · simpa using hc
    · exact hc

@[simp] theorem railOut_noRecords {s : State} (hs : NoRecords s.lanes) (r : Rail) : NoRecords (railOut r s).lanes := by simp [railOut, hs]

@[simp] theorem glitch_noRecords {s : State} (hs : NoRecords s.lanes) (k : GlitchKind) : NoRecords (glitch k s).lanes := by
  unfold glitch
  exact State.when_noRecords hs (fun u hu => by simp [hu]) _

@[simp] theorem authDecay_lanes (s : State) : (authDecay s).lanes = s.lanes := by simp [authDecay]

/-! The management ports and sessions (Machine/Mgmt; 14). -/

@[simp] theorem State.setRate_lanes (s : State) (r : Rate) : (s.setRate r).lanes = s.lanes := by simp [State.setRate]

@[simp] theorem State.malformed_lanes (s : State) : s.malformed.lanes = s.lanes := by simp [State.malformed]

@[simp] theorem State.sendReject_lanes (s : State) (id status detail : Nat) : (s.sendReject id status detail).lanes = s.lanes := by
  simp [State.sendReject]

@[simp] theorem identityMsg_lanes (h : Hdr) (src : Src) (op : Nat) (q : Req) (s : State) : (identityMsg h src op q s).lanes = s.lanes := by
  simp [identityMsg]

@[simp] theorem helloMsg_lanes (h : Hdr) (src : Src) (s : State) : (helloMsg h src s).lanes = s.lanes := by simp [helloMsg]

@[simp] theorem State.refuseOpen_noRecords {s : State} (hs : NoRecords s.lanes) (id serial status detail : Nat) (counted : Bool) :
    NoRecords (s.refuseOpen id serial status detail counted).lanes := by
  simp only [State.refuseOpen, State.sendReject_lanes]
  exact State.when_noRecords (by simpa using hs) (fun _ => State.authFail_noRecords) _

@[simp] theorem State.opened_lanes (s : State) (id : Nat) (src : Src) (c : Cert) (key : BitVec 256) : (s.opened id src c key).lanes = s.lanes := by
  simp [State.opened]

@[simp] theorem openMsg_noRecords {s : State} (hs : NoRecords s.lanes) (h : Hdr) (src : Src) (serial : Nat)
    (signatureOk transportOk : Bool) (key : BitVec 256) :
    NoRecords (openMsg h src serial signatureOk transportOk key s).lanes := by
  simp only [openMsg]
  repeat' split
  all_goals simp [hs]

@[simp] theorem lapse_lanes (id : Nat) (s : State) : (lapse id s).lanes = s.lanes := by simp [lapse]

@[simp] theorem secureMsg_lanes (h : Hdr) (src : Src) (tagOk : Bool) (s : State) : (secureMsg h src tagOk s).lanes = s.lanes := by
  unfold secureMsg
  repeat' split
  all_goals simp

@[simp] theorem keptEnd_lanes (id tag : Nat) (s : State) : (keptEnd id tag s).lanes = s.lanes := by simp [keptEnd]

@[simp] theorem idleEnd_lanes (id : Nat) (s : State) : (idleEnd id s).lanes = s.lanes := by
  unfold idleEnd
  split <;> simp

@[simp] theorem effCloseSession_noRecords {s : State} (hs : NoRecords s.lanes) (target : Nat) (x : Session) (vs : List Nat) :
    (effCloseSession target x vs s).noRecords := by simp [effCloseSession, hs]

@[simp] theorem effAddress_noRecords {s : State} (hs : NoRecords s.lanes) (sub : Nat) (x : Session) (vs : List Nat) :
    (effAddress sub x vs s).noRecords := by simp [effAddress, hs]

@[simp] theorem effRingMaster_noRecords {s : State} (hs : NoRecords s.lanes) (x : Session) (vs : List Nat) : (effRingMaster x vs s).noRecords := by
  simp [effRingMaster, hs]

@[simp] theorem State.learn_lanes (s : State) (mac p : Nat) : (s.learn mac p).lanes = s.lanes := by simp [State.learn]

@[simp] theorem State.checkSeen_lanes (s : State) : s.checkSeen.lanes = s.lanes := by simp [State.checkSeen]

@[simp] theorem switchFrame_lanes (p : Fin 2) (f : EthFrame) (s : State) : (switchFrame p f s).lanes = s.lanes := by simp [switchFrame]

@[simp] theorem State.switchSend_lanes (s : State) (p : Nat) (o : Output) : (s.switchSend p o).lanes = s.lanes := by simp [State.switchSend]

@[simp] theorem State.flushMacs_lanes (s : State) : s.flushMacs.lanes = s.lanes := by simp [State.flushMacs]

@[simp] theorem ringTimer_lanes (s : State) : (ringTimer s).lanes = s.lanes := by simp [ringTimer]

@[simp] theorem State.ringFlush_lanes (s : State) : s.ringFlush.lanes = s.lanes := by simp [State.ringFlush]

@[simp] theorem openRing_lanes (s : State) : (openRing s).lanes = s.lanes := by simp [openRing]

@[simp] theorem closeRing_lanes (s : State) : (closeRing s).lanes = s.lanes := by simp [closeRing]

@[simp] theorem flushSeen_lanes (p : Fin 2) (s : State) : (flushSeen p s).lanes = s.lanes := by simp [flushSeen]

@[simp] theorem ageMac_lanes (mac : Nat) (s : State) : (ageMac mac s).lanes = s.lanes := by simp [ageMac]

@[simp] theorem State.dropAt_lanes (a : Option Nat) (s : State) : (State.dropAt a s).lanes = s.lanes := by
  unfold State.dropAt
  split <;> simp

@[simp] theorem State.toLane_noRecords {s : State} (hs : NoRecords s.lanes) (origin : Option Nat) (l : Nat) (b : Bytes) :
    NoRecords (s.toLane origin l b).lanes := by
  unfold State.toLane
  split <;> simp [hs]

@[simp] theorem State.own_noRecords {s : State} (hs : NoRecords s.lanes) (origin : Option Nat) (b : Bytes) : NoRecords (s.own origin b).lanes := by
  simp only [State.own]
  split <;> simp [hs]

@[simp] theorem State.datagram_noRecords {s : State} (hs : NoRecords s.lanes) (origin : Option Nat) (b : Bytes) :
    NoRecords (s.datagram origin b).lanes := by
  simp only [State.datagram]
  repeat' split
  all_goals simp [hs]

@[simp] theorem State.laneDatagram_noRecords {s : State} (hs : NoRecords s.lanes) (l : Nat) (b : Bytes) : NoRecords (s.laneDatagram l b).lanes := by
  simp [State.laneDatagram, hs]

/-! The hopper operations (Machine/Hoppers; 14). -/

@[simp] theorem hopperOp_noRecords {k : Hopper → Act} (hk : ∀ h, (k h).noRecords) (q : Req) (s : State) : (hopperOp q k s).noRecords := by
  unfold hopperOp
  repeat' split
  all_goals simp [hk]

@[simp] theorem readBody_noRecords {s : State} (hs : NoRecords s.lanes) (q : Req) : (readBody q s).noRecords := by simp [readBody, hs]

@[simp] theorem ackBody_noRecords {s : State} (hs : NoRecords s.lanes) (q : Req) : (ackBody q s).noRecords := by simp [ackBody, hs]

@[simp] theorem hopperWriteBody_noRecords {s : State} (hs : NoRecords s.lanes) (q : Req) : (hopperWriteBody q s).noRecords := by
  simp [hopperWriteBody, hs]

@[simp] theorem State.heldOut_lanes (s : State) (h : Nat) (w : Held) : (s.heldOut h w).lanes = s.lanes := by simp [State.heldOut]

@[simp] theorem heldEnd_lanes (id tag : Nat) (s : State) : (heldEnd id tag s).lanes = s.lanes := by
  simp only [heldEnd]
  repeat' split
  all_goals simp

@[simp] theorem State.claimHopper_lanes (s : State) (h id : Nat) : (s.claimHopper h id).lanes = s.lanes := by simp [State.claimHopper]

@[simp] theorem subscribeBody_noRecords {s : State} (hs : NoRecords s.lanes) (q : Req) (role : Nat) : (subscribeBody q role s).noRecords := by
  simp [subscribeBody, hs]

@[simp] theorem effHopper_noRecords {s : State} (hs : NoRecords s.lanes) (h : Nat) (x : Session) (vs : List Nat) :
    (effHopper h x vs s).noRecords := by simp [effHopper, hs]

/-! The packets of the channels (Machine/Channels; 02). -/

@[simp] theorem State.oddPacket_noRecords {s : State} (hs : NoRecords s.lanes) (l : LaneId) : NoRecords (s.oddPacket l).lanes := by
  simp [State.oddPacket, hs]

@[simp] theorem State.badPacket_lanes (s : State) (l : LaneId) : (s.badPacket l).lanes = s.lanes := by simp [State.badPacket]

@[simp] theorem timePacketIn_noRecords {s : State} (hs : NoRecords s.lanes) (l : LaneId) : NoRecords (timePacketIn l s).lanes := by
  simp only [timePacketIn]
  repeat' split
  all_goals simp (disch := simp [hs]) [hs]

@[simp] theorem dataPacketIn_noRecords {s : State} (hs : NoRecords s.lanes) (l : LaneId) : NoRecords (dataPacketIn l s).lanes := by
  simp only [dataPacketIn]
  repeat' split
  all_goals simp (disch := simp [hs]) [hs]

/-! Failures and alarms (Machine/Alarms; 14). -/

@[simp] theorem failureRaised_lanes (c : AlarmCond) (s : State) : (failureRaised c s).lanes = s.lanes := by simp [failureRaised]

@[simp] theorem failureCleared_lanes (c : AlarmCond) (s : State) : (failureCleared c s).lanes = s.lanes := by
  simp only [failureCleared]
  repeat' split
  all_goals simp

@[simp] theorem effAck_noRecords {s : State} (hs : NoRecords s.lanes) (session : Nat) (x : Session) (vs : List Nat) :
    (effAck session x vs s).noRecords := by
  simp only [effAck]
  repeat' split
  all_goals simp [hs]

/-! The values of objects (Machine/Values; 14). -/

@[simp] theorem State.measure_lanes (s : State) (index sub : Nat) : (s.measure index sub).lanes = s.lanes := by simp [State.measure]

/-! Access to objects (Machine/Access; 14). -/

@[simp] theorem readObj_noRecords {s : State} (hs : NoRecords s.lanes) (q : Req) (x : Session) : (readObj q x s).noRecords := by
  unfold readObj
  repeat' split
  all_goals simp [hs]

@[simp] theorem readItems_lanes (q : Req) (role room n sub : Nat) (s : State) : (readItems q role room n sub s).2.2.lanes = s.lanes := by
  induction n generalizing room sub s with
  | zero => rfl
  | succ n ih =>
    simp only [readItems]
    split
    · rfl
    · simp [ih]

@[simp] theorem readMultiObj_noRecords {s : State} (hs : NoRecords s.lanes) (q : Req) (x : Session) : (readMultiObj q x s).noRecords := by
  unfold readMultiObj
  split
  · simp
  · split <;> simp [hs]

@[simp] theorem describeObj_noRecords {s : State} (hs : NoRecords s.lanes) (q : Req) (x : Session) : (describeObj q x s).noRecords := by
  unfold describeObj
  split <;> simp [hs]

@[simp] theorem State.holdSnapshot_lanes (s : State) (x : Snapshot) : (s.holdSnapshot x).lanes = s.lanes := by simp [State.holdSnapshot]

@[simp] theorem domainReadObj_noRecords {s : State} (hs : NoRecords s.lanes) (q : Req) (x : Session) : (domainReadObj q x s).noRecords := by
  unfold domainReadObj
  repeat' split
  all_goals simp [hs]

@[simp] theorem snapshotEnd_lanes (session index sub el : Nat) (s : State) : (snapshotEnd session index sub el s).lanes = s.lanes := by
  simp [snapshotEnd]

@[simp] theorem State.store_lanes (s : State) (o : Obj) (el : Nat) (vs : List Nat) : (s.store_ o el vs).lanes = s.lanes := by simp [State.store_]

@[simp] theorem State.refreshTaps_noRecords {s : State} (hs : NoRecords s.lanes) (l : Nat) : NoRecords (s.refreshTaps l).lanes := by
  unfold State.refreshTaps
  split <;> simp [hs]

@[simp] theorem effStore_noRecords {s : State} (hs : NoRecords s.lanes) (index sub el : Nat) (x : Session) (vs : List Nat) :
    (effStore index sub el x vs s).noRecords := by
  unfold effStore
  split <;> simp [hs]

@[simp] theorem effLow_noRecords {s : State} (hs : NoRecords s.lanes) (session tag index sub el : Nat) (x : Session) (vs : List Nat) :
    (effLow session tag index sub el x vs s).noRecords := by
  have h : Effect.noRecords (effLow session tag index sub el) := by
    unfold effLow
    iterate 17 refine Effect.noRecords.ite (fun _ _ _ hs => by simp [hs]) ?_
    exact fun _ _ _ hs => by simp [hs]
  exact h x vs s hs

@[simp] theorem effMid_noRecords {s : State} (hs : NoRecords s.lanes) (index sub el : Nat) (value : Bytes) (x : Session) (vs : List Nat) :
    (effMid index sub el value x vs s).noRecords := by simp [effMid, hs]

@[simp] theorem effHigh_noRecords {s : State} (hs : NoRecords s.lanes) (session index sub el : Nat) (value : Bytes) (x : Session) (vs : List Nat) :
    (effHigh session index sub el value x vs s).noRecords := by
  have h : Effect.noRecords (effHigh session index sub el value) := by
    unfold effHigh
    iterate 19 refine Effect.noRecords.ite (fun _ _ _ hs => by simp [hs]) ?_
    exact fun _ _ _ hs => by simp [hs]
  exact h x vs s hs

@[simp] theorem effAny_noRecords {s : State} (hs : NoRecords s.lanes) (session tag index sub el : Nat) (value : Bytes) (x : Session) (vs : List Nat) :
    (effAny session tag index sub el value x vs s).noRecords := by
  unfold effAny
  repeat' split
  all_goals simp [hs]

/-- What one discarded element leaves, and what follows its response, has no record at hand. -/
theorem State.discardOne_noRecords {s : State} (hs : NoRecords s.lanes) {session : Nat} {x : Session} {committed : Tab (List Nat)} {k : Nat}
    {r : State × (State → State)} (h : s.discardOne session x committed k = some r) :
    NoRecords r.1.lanes ∧ ∀ u : State, NoRecords u.lanes → NoRecords (r.2 u).lanes := by
  unfold State.discardOne at h
  extract_lets index sub el vs drop at h
  split at h
  · cases h
  next o _ =>
    have ha := effAny_noRecords hs session noTag index sub el (o.join vs) x vs
    have hdrop (t : State) : (drop t).lanes = t.lanes := by simp only [drop]
    clear_value drop
    split at h
    · cases h
    · split at h <;> rename_i he <;> rw [he] at ha
      · split at h
        · cases h
          obtain ⟨ht, hpost⟩ := (Act.noRecords_done ..).mp ha
          exact ⟨ht.of_lanes (hdrop _), hpost⟩
        · cases h
      · cases h
        exact ⟨((Act.noRecords_hold _).mp ha).of_lanes (hdrop _), fun _ hu => hu⟩
      · cases h

/-- Discarding elements one by one leaves no record at hand, nor does what follows the response. -/
theorem discardAll_noRecords {s : State} (hs : NoRecords s.lanes) (session : Nat) (x : Session) (committed : Tab (List Nat)) (ks : List Nat) :
    NoRecords (discardAll session x committed ks s).1.lanes ∧
      ∀ u : State, NoRecords u.lanes → NoRecords ((discardAll session x committed ks s).2.1 u).lanes := by
  induction ks generalizing s with
  | nil => exact ⟨hs, fun _ hu => hu⟩
  | cons k ks ih =>
    unfold discardAll
    split
    next t post hk =>
      obtain ⟨ht, hpost⟩ := State.discardOne_noRecords hs hk
      exact ⟨(ih ht).1, fun u hu => (ih ht).2 _ (hpost u hu)⟩
    next => exact ih hs

@[simp] theorem effDiscard_noRecords {s : State} (hs : NoRecords s.lanes) (session : Nat) (x : Session) (vs : List Nat) :
    (effDiscard session x vs s).noRecords := by
  unfold effDiscard
  extract_lets r
  have h : NoRecords r.1.lanes ∧ ∀ u : State, NoRecords u.lanes → NoRecords (r.2.1 u).lanes :=
    discardAll_noRecords hs session x s.committed s.persist.staged
  split
  · exact .refuse _
  · split <;> exact .done h.1 h.2

@[simp] theorem State.putTransfer_lanes (s : State) (t : Transfer) : (s.putTransfer t).lanes = s.lanes := by simp [State.putTransfer]

@[simp] theorem State.endTransfer_lanes (s : State) (index sub el : Nat) : (s.endTransfer index sub el).lanes = s.lanes := by simp [State.endTransfer]

@[simp] theorem State.applyImage_noRecords {s : State} (hs : NoRecords s.lanes) (t : Nat) (b : Bytes) : (s.applyImage t b).noRecords := by
  unfold State.applyImage
  split <;> simp [hs]

@[simp] theorem State.beginImage_lanes (s : State) (t total : Nat) (first : Bool) : (s.beginImage t total first).lanes = s.lanes := by
  simp [State.beginImage]

@[simp] theorem State.applyDomain_noRecords {s : State} (hs : NoRecords s.lanes) (q : Req) (x : Session) (v : Bytes) :
    (s.applyDomain q x v).noRecords := by simp [State.applyDomain, hs]

@[simp] theorem segment_noRecords {s : State} (hs : NoRecords s.lanes) (q : Req) (total offset : Nat) (o : Obj) (x : Session) :
    (segment q total offset o x s).noRecords := by
  unfold segment
  repeat' split
  all_goals simp [hs]

@[simp] theorem domainWriteObj_noRecords {s : State} (hs : NoRecords s.lanes) (q : Req) (x : Session) : (domainWriteObj q x s).noRecords := by
  unfold domainWriteObj
  repeat' split
  all_goals simp [hs]

@[simp] theorem transferDrop_lanes (session index sub el : Nat) (s : State) : (transferDrop session index sub el s).lanes = s.lanes := by
  unfold transferDrop
  split <;> simp

@[simp] theorem effWrite_noRecords {s : State} (hs : NoRecords s.lanes) (q : Req) (x : Session) (vs : List Nat) : (effWrite q x vs s).noRecords := by
  unfold effWrite
  split <;> simp [hs]

@[simp] theorem writeObj_noRecords {s : State} (hs : NoRecords s.lanes) (q : Req) (x : Session) : (writeObj q x s).noRecords := by
  unfold writeObj
  split <;> simp [hs]

/-! The passage of time (Machine/Tick). -/

@[simp] theorem State.countTime_lanes (s : State) : s.countTime.lanes = s.lanes := by simp [State.countTime]

@[simp] theorem State.slewStep_lanes (s : State) : s.slewStep.lanes = s.lanes := by simp [State.slewStep]

@[simp] theorem State.tickTime_lanes (s : State) : s.tickTime.lanes = s.lanes := by simp [State.tickTime]

@[simp] theorem State.closeSpent_lanes (s : State) : s.closeSpent.lanes = s.lanes := by simp [State.closeSpent]

end Sys2Proof.Machine
end

section
/-! PROOFS. An IDZ48-M1N takes no seal record in, and has no sealing object (00 R2). -/

namespace Sys2Proof.Machine

theorem execSendMessage_noRecords (rq : Rq) (channel : Nat) (message : Bytes) {s : State} (hs : NoRecords s.lanes) :
    ∃ u, execSendMessage rq channel message s = .next (s.fixed u) ∧ NoRecords u.lanes := by
  replace hs : NoRecords s.quiet.lanes := hs
  unfold execSendMessage
  split
  · exact ⟨_, rfl, writeOf_noRecords hs (fun x v _ h => effSend_noRecords h _ _ x v) ..⟩
  · exact ⟨_, rfl, request_noRecords hs (fun x _ h => writeBody_noRecords h (fun x v _ h => effSend_noRecords h _ _ x v) _ x) ..⟩

theorem NoRecords.state_ite {b : Bool} {s t : State} (hs : NoRecords s.lanes) (ht : NoRecords t.lanes) :
    NoRecords (if b then s else t).lanes := by
  cases b <;> assumption

/-- A command that runs on an IDZ48-M1N with no record at hand leaves none at hand: none but the overhead blocks could bring one. -/
theorem exec_noRecords (c : Instr) {s : State} (hs : NoRecords s.lanes) (ho : s.power.ordering = false) :
    ∃ u, exec c s = .next (s.fixed u) ∧ NoRecords u.lanes := by
  have hq : NoRecords s.quiet.lanes := hs
  cases c with
  | identity => exact ⟨_, rfl, hq.of_lanes (identityMsg_lanes ..)⟩
  | commissioningFrame => exact ⟨_, rfl, hq.of_lanes (commissioning_lanes ..)⟩
  | hello => exact ⟨_, rfl, hq.of_lanes (helloMsg_lanes ..)⟩
  | openSession => exact ⟨_, rfl, openMsg_noRecords hq ..⟩
  | secure => exact ⟨_, rfl, hq.of_lanes (secureMsg_lanes ..)⟩
  | handshakeLapse => exact ⟨_, rfl, hq.of_lanes (lapse_lanes ..)⟩
  | sessionIdleTimeout => exact ⟨_, rfl, hq.of_lanes (idleEnd_lanes ..)⟩
  | read => exact ⟨_, rfl, request_noRecords hq (fun x _ h => readObj_noRecords h _ x) ..⟩
  | write => exact ⟨_, rfl, request_noRecords hq (fun x _ h => writeObj_noRecords h _ x) ..⟩
  | readMulti => exact ⟨_, rfl, request_noRecords hq (fun x _ h => readMultiObj_noRecords h _ x) ..⟩
  | domainRead => exact ⟨_, rfl, request_noRecords hq (fun x _ h => domainReadObj_noRecords h _ x) ..⟩
  | domainWrite => exact ⟨_, rfl, request_noRecords hq (fun x _ h => domainWriteObj_noRecords h _ x) ..⟩
  | describe => exact ⟨_, rfl, request_noRecords hq (fun x _ h => describeObj_noRecords h _ x) ..⟩
  | hopperRead => exact ⟨_, rfl, request_noRecords hq (fun _ _ h => readBody_noRecords h _) ..⟩
  | hopperWrite => exact ⟨_, rfl, request_noRecords hq (fun _ _ h => hopperWriteBody_noRecords h _) ..⟩
  | hopperAck => exact ⟨_, rfl, request_noRecords hq (fun _ _ h => ackBody_noRecords h _) ..⟩
  | subscribe => exact ⟨_, rfl, request_noRecords hq (fun x _ h => subscribeBody_noRecords h _ x.role) ..⟩
  | release => exact ⟨_, rfl, request_noRecords hq (fun x _ h => subscribeBody_noRecords h _ x.role) ..⟩
  | nop => exact ⟨_, rfl, request_noRecords hq (fun _ _ h => (Act.noRecords_ok _).mpr h) ..⟩
  | close => exact ⟨_, rfl, request_noRecords hq (fun _ _ h => .done h fun u hu => by simp [hu]) ..⟩
  | domainSnapshotExpiry => exact ⟨_, rfl, hq.of_lanes (snapshotEnd_lanes ..)⟩
  | domainTransferDrop => exact ⟨_, rfl, hq.of_lanes (transferDrop_lanes ..)⟩
  | hopperWriteTimeout => exact ⟨_, rfl, hq.of_lanes (heldEnd_lanes ..)⟩
  | hopperConfiguration => exact ⟨_, rfl, writeOf_noRecords hq (fun x v _ h => effHopper_noRecords h _ x v) ..⟩
  | acknowledgeAlarm => exact ⟨_, rfl, writeOf_noRecords hq (fun x v _ h => effAck_noRecords h _ x v) ..⟩
  | acknowledgeAll => exact ⟨_, rfl, writeOf_noRecords hq (fun x v _ h => effAck_noRecords h _ x v) ..⟩
  | commit => exact ⟨_, rfl, writeOf_noRecords hq (fun x v _ h => effCommit_noRecords h x v) ..⟩
  | commitComplete => exact ⟨_, rfl, hq.of_lanes (commitEnd_lanes ..)⟩
  | discardStaged => exact ⟨_, rfl, writeOf_noRecords hq (fun x v _ h => effDiscard_noRecords h _ x v) ..⟩
  | closeSession => exact ⟨_, rfl, writeOf_noRecords hq (fun x v _ h => effCloseSession_noRecords h _ x v) ..⟩
  | managementAddressWrite => exact ⟨_, rfl, writeOf_noRecords hq (fun x v _ h => effAddress_noRecords h _ x v) ..⟩
  | unrynPortWrite => exact ⟨_, rfl, writeOf_noRecords hq (fun x v _ h => effAddress_noRecords h _ x v) ..⟩
  | mgtFrame => exact ⟨_, rfl, hq.of_lanes (switchFrame_lanes ..)⟩
  | ringCheckTimer => exact ⟨_, rfl, hq.of_lanes (ringTimer_lanes ..)⟩
  | ringOpen => exact ⟨_, rfl, hq.of_lanes (openRing_lanes ..)⟩
  | ringClose => exact ⟨_, rfl, hq.of_lanes (closeRing_lanes ..)⟩
  | flushFrame => exact ⟨_, rfl, hq.of_lanes (flushSeen_lanes ..)⟩
  | ipv6Datagram origin d => exact ⟨_, rfl, by
      cases origin with
      | lane l => exact State.laneDatagram_noRecords hq l d
      | management => exact .state_ite (State.datagram_noRecords hq none d) hq⟩
  | supervisorRestart => exact ⟨_, rfl, hq.of_lanes (State.supRestart_lanes ..)⟩
  | restartSupervisor => exact ⟨_, rfl, writeOf_noRecords hq (fun x v _ h => effRestartSup_noRecords h x v) ..⟩
  | supervisorRestartComplete => exact ⟨_, rfl, hq.of_lanes (restartEnd_lanes ..)⟩
  | lockstepMismatch => exact ⟨_, rfl, hq.of_lanes (lockstep_lanes ..)⟩
  | headWatchdog => exact ⟨_, rfl, .state_ite (hq.of_lanes (State.supRestart_lanes ..)) hq⟩
  | portDieFault => exact ⟨_, rfl, portFault_noRecords hq ..⟩
  | txQueueFault => exact ⟨_, rfl, txQueueFault_noRecords hq ..⟩
  | linkFlit => exact ⟨_, rfl, hq.of_lanes (linkFlit_lanes ..)⟩
  | linkFramingLoss => exact ⟨_, rfl, hq.of_lanes (linkLoss_lanes ..)⟩
  | blockReceived => exact ⟨_, rfl, recvBlock_noRecords hq ..⟩
  | overheadBlockReceived => exact ⟨_, rfl, recvOverhead_noRecords hq ho ..⟩
  | channelPacket _ chan => exact ⟨_, rfl, by
      cases chan with
      | time => exact timePacketIn_noRecords hq _
      | data => exact dataPacketIn_noRecords hq _⟩
  | sealRecord => exact ⟨_, rfl, sealRecord_noRecords hq ..⟩
  | sealRecordDeadline => exact ⟨_, rfl, hq.of_lanes (sealDeadline_lanes ..)⟩
  | aisHoldEnd => exact ⟨_, rfl, hq.of_lanes (holdEnd_lanes ..)⟩
  | candidateExpectedPosition => exact ⟨_, rfl, candAt_noRecords hq ..⟩
  | expectedFabPosition => exact ⟨_, rfl, fabAt_noRecords hq ..⟩
  | internalFrameBoundary => exact ⟨_, rfl, frameBoundary_noRecords hq ..⟩
  | framePhaseAlignmentLost => exact ⟨_, rfl, hq.of_lanes (alignmentLost_lanes ..)⟩
  | laneEnable => exact ⟨_, rfl, writeOf_noRecords hq (fun x v _ h => effEnable_noRecords h _ x v) ..⟩
  | laneDisable => exact ⟨_, rfl, writeOf_noRecords hq (fun x v _ h => effEnable_noRecords h _ x v) ..⟩
  | signalDetectAssert => exact ⟨_, rfl, sdAssert_noRecords hq ..⟩
  | signalDetectDeassert => exact ⟨_, rfl, sdDeassert_noRecords hq ..⟩
  | signalDetectStable => exact ⟨_, rfl, sdStable_noRecords hq ..⟩
  | losDeclared => exact ⟨_, rfl, declareLos_noRecords hq ..⟩
  | losCleared => exact ⟨_, rfl, clearLos_noRecords hq ..⟩
  | cdrLockStable => exact ⟨_, rfl, cdrStable_noRecords hq ..⟩
  | cdrLockTimeout => exact ⟨_, rfl, cdrTimeout_noRecords hq ..⟩
  | cdrLockLost => exact ⟨_, rfl, cdrLost_noRecords hq ..⟩
  | trainingMessage => exact ⟨_, rfl, recvTraining_noRecords hq ..⟩
  | responseTimeExpiry => exact ⟨_, rfl, responseTime_noRecords hq ..⟩
  | trainingTimerExpiry => exact ⟨_, rfl, trainingTimer_noRecords hq ..⟩
  | trailingFramesEnd => exact ⟨_, rfl, trailingEnd_noRecords hq ..⟩
  | blockLockTimeout => exact ⟨_, rfl, blockLockTimeout_noRecords hq ..⟩
  | restartHoldExpiry => exact ⟨_, rfl, holdExpiry_noRecords hq ..⟩
  | retrain => exact ⟨_, rfl, writeOf_noRecords hq (fun x v _ h => effRetrain_noRecords h _ x v) ..⟩
  | rtrPeriodEnd => exact ⟨_, rfl, rtrEnd_noRecords hq ..⟩
  | gatherEnd => exact ⟨_, rfl, gatherEnd_noRecords hq ..⟩
  | loopbackOff => exact ⟨_, rfl, writeOf_noRecords hq (fun x v _ h => effLoopback_noRecords h _ x v) ..⟩
  | loopbackSerial => exact ⟨_, rfl, writeOf_noRecords hq (fun x v _ h => effLoopback_noRecords h _ x v) ..⟩
  | loopbackParallel => exact ⟨_, rfl, writeOf_noRecords hq (fun x v _ h => effLoopback_noRecords h _ x v) ..⟩
  | loopbackFarEnd => exact ⟨_, rfl, writeOf_noRecords hq (fun x v _ h => effLoopback_noRecords h _ x v) ..⟩
  | equaliserFreeze => exact ⟨_, rfl, writeOf_noRecords hq (fun x v _ h => effFreeze_noRecords h _ x v) ..⟩
  | equaliserUnfreeze => exact ⟨_, rfl, writeOf_noRecords hq (fun x v _ h => effFreeze_noRecords h _ x v) ..⟩
  | portWidthWrite => exact ⟨_, rfl, writeOf_noRecords hq (fun x v _ h => effWidth_noRecords h _ x v) ..⟩
  | expectedTraceWrite => exact ⟨_, rfl, writeOf_noRecords hq (fun x v _ h => effExpectedTrace_noRecords h _ x v) ..⟩
  | timModeWrite => exact ⟨_, rfl, writeOf_noRecords hq (fun x v _ h => effTimMode_noRecords h _ x v) ..⟩
  | failureRaised => exact ⟨_, rfl, hq.of_lanes (failureRaised_lanes ..)⟩
  | failureCleared => exact ⟨_, rfl, hq.of_lanes (failureCleared_lanes ..)⟩
  | slipCleared => exact ⟨_, rfl, slipEnd_noRecords hq ..⟩
  | transactionTaken => exact ⟨_, rfl, hq.of_lanes (takeTrans_lanes ..)⟩
  | transactionComplete => exact ⟨_, rfl, hq.of_lanes (completeTrans_lanes ..)⟩
  | revertShadow => exact ⟨_, rfl, writeOf_noRecords hq (fun x v _ h => effRevert_noRecords h x v) ..⟩
  | pageCopyEnd => exact ⟨_, rfl, hq.of_lanes (copyEnd_lanes ..)⟩
  | armNextFrame => exact ⟨_, rfl, writeOf_noRecords hq (fun x v _ h => effArmWrite_noRecords h x v) ..⟩
  | armNamedMultiframe => exact ⟨_, rfl, writeOf_noRecords hq (fun x v _ h => effArmWrite_noRecords h x v) ..⟩
  | armTaiInstant => exact ⟨_, rfl, writeOf_noRecords hq (fun x v _ h => effArmWrite_noRecords h x v) ..⟩
  | sealPoint => exact ⟨_, rfl, hq.of_lanes (sealPoint_lanes ..)⟩
  | commitPoint => exact ⟨_, rfl, hq.of_lanes (commitPoint_lanes ..)⟩
  | activation => exact ⟨_, rfl, hq.of_lanes (activation_lanes ..)⟩
  | cancelActivation => exact ⟨_, rfl, writeOf_noRecords hq (fun x v _ h => effCancel_noRecords h x v) ..⟩
  | protectPortWrite => exact ⟨_, rfl, writeOf_noRecords hq (fun x v _ h => effProtectPort_noRecords h _ _ _ x v) ..⟩
  | pairWriteTaken => exact ⟨_, rfl, hq.of_lanes (takePair_lanes ..)⟩
  | pairWriteTimeout => exact ⟨_, rfl, hq.of_lanes (pairTimeout_lanes ..)⟩
  | pairModeWrite => exact ⟨_, rfl, writeOf_noRecords hq (fun x v _ h => effPairMode_noRecords h _ x v) ..⟩
  | holdOffExpiry => exact ⟨_, rfl, hq.of_lanes (holdOffEnd_lanes ..)⟩
  | pairEvaluation => exact ⟨_, rfl, hq.of_lanes (evalPairs_lanes ..)⟩
  | wtrExpiry => exact ⟨_, rfl, hq.of_lanes (lineWtrEnd_lanes ..)⟩
  | lineClear => exact ⟨_, rfl, writeOf_noRecords hq (fun x v _ h => effLine_noRecords h _ x v) ..⟩
  | lockoutOfProtection => exact ⟨_, rfl, writeOf_noRecords hq (fun x v _ h => effLine_noRecords h _ x v) ..⟩
  | forcedSwitch => exact ⟨_, rfl, writeOf_noRecords hq (fun x v _ h => effLine_noRecords h _ x v) ..⟩
  | manualSwitchToProtect => exact ⟨_, rfl, writeOf_noRecords hq (fun x v _ h => effLine_noRecords h _ x v) ..⟩
  | manualSwitchToWorking => exact ⟨_, rfl, writeOf_noRecords hq (fun x v _ h => effLine_noRecords h _ x v) ..⟩
  | modeMismatchDeclared => exact ⟨_, rfl, hq.of_lanes (modeMismatch_lanes ..)⟩
  | modeMismatchCleared => exact ⟨_, rfl, hq.of_lanes (modeMismatch_lanes ..)⟩
  | selectorMismatchDeclared => exact ⟨_, rfl, hq.of_lanes (selectorMismatch_lanes ..)⟩
  | selectorMismatchCleared => exact ⟨_, rfl, hq.of_lanes (selectorMismatch_lanes ..)⟩
  | circuitWtrTick => exact ⟨_, rfl, hq.of_lanes (wtrTick_lanes ..)⟩
  | circuitWtrExpiry => exact ⟨_, rfl, hq.of_lanes (wtrReached_lanes ..)⟩
  | circuitCommandNone => exact ⟨_, rfl, writeOf_noRecords hq (fun x v _ h => effCircuitCmd_noRecords h _ x v) ..⟩
  | circuitLockout => exact ⟨_, rfl, writeOf_noRecords hq (fun x v _ h => effCircuitCmd_noRecords h _ x v) ..⟩
  | circuitForced => exact ⟨_, rfl, writeOf_noRecords hq (fun x v _ h => effCircuitCmd_noRecords h _ x v) ..⟩
  | circuitManual => exact ⟨_, rfl, writeOf_noRecords hq (fun x v _ h => effCircuitCmd_noRecords h _ x v) ..⟩
  | circuitRevertiveWrite => exact ⟨_, rfl, writeOf_noRecords hq (fun x v _ h => effRevertive_noRecords h _ x v) ..⟩
  | selectorWriteBack => exact ⟨_, rfl, hq.of_lanes (writeBackSels_lanes ..)⟩
  | perFrameLeaseState => exact ⟨_, rfl, hq.of_lanes (leaseState_lanes ..)⟩
  | wakeComplete => exact ⟨_, rfl, hq.of_lanes (wakeEnd_lanes ..)⟩
  | renewal => exact ⟨_, rfl, hq.of_lanes (renew_lanes ..)⟩
  | claim => exact ⟨_, rfl, hq.of_lanes (claimLease_lanes ..)⟩
  | leaseExpiry => exact ⟨_, rfl, hq.of_lanes (leaseLapse_lanes ..)⟩
  | admission => exact ⟨_, rfl, hq.of_lanes (admitHolder_lanes ..)⟩
  | tallyComparison => exact ⟨_, rfl, hq.of_lanes (compareTally_lanes ..)⟩
  | coreRailFault => exact ⟨_, rfl, hq.of_lanes (coreRail_lanes ..)⟩
  | islandRailLoss => exact ⟨_, rfl, hq.of_lanes (islandLost_lanes ..)⟩
  | refreshDue => exact ⟨_, rfl, hq.of_lanes (refreshDue_lanes ..)⟩
  | refreshCheckpoint => exact ⟨_, rfl, writeOf_noRecords hq (fun x v _ h => effRefresh_noRecords h x v) ..⟩
  | refreshComplete => exact ⟨_, rfl, hq.of_lanes (refreshEnd_lanes ..)⟩
  | heartbeat => exact ⟨_, rfl, hq.of_lanes (heartbeat_lanes ..)⟩
  | heartbeatLost => exact ⟨_, rfl, hq.of_lanes (heartLost_lanes ..)⟩
  | manualSwitch => exact ⟨_, rfl, writeOf_noRecords hq (fun x v _ h => effManualSwitch_noRecords h x v) ..⟩
  | handover => exact ⟨_, rfl, hq.of_lanes (handOver_lanes ..)⟩
  | automaticRestart => exact ⟨_, rfl, hq.of_lanes (autoRestart_lanes ..)⟩
  | restartEngine => exact ⟨_, rfl, writeOf_noRecords hq (fun x v _ h => effRestartEngine_noRecords h x v) ..⟩
  | restartMarchComplete => exact ⟨_, rfl, hq.of_lanes (marchEnd_lanes ..)⟩
  | tallyRevocationWrite => exact ⟨_, rfl, writeOf_noRecords hq (fun x v _ h => effTallyRevocation_noRecords h x v) ..⟩
  | referenceEdgeMissing => exact ⟨_, rfl, hq.of_lanes (edgeMissing_lanes ..)⟩
  | frequencyMeasurement => exact ⟨_, rfl, hq.of_lanes (freqResult_lanes ..)⟩
  | hardLimitExceeded => exact ⟨_, rfl, hq.of_lanes (hardLimit_lanes ..)⟩
  | softLimitFlag => exact ⟨_, rfl, hq.of_lanes (softLimit_lanes ..)⟩
  | referenceWtrExpiry => exact ⟨_, rfl, hq.of_lanes (refWtrEnd_lanes ..)⟩
  | referenceSelection => exact ⟨_, rfl, hq.of_lanes (State.selectRef_lanes ..)⟩
  | disagreementSet => exact ⟨_, rfl, hq.of_lanes (disagreeSet_lanes ..)⟩
  | disagreementCleared => exact ⟨_, rfl, hq.of_lanes (disagreeClear_lanes ..)⟩
  | selectClear => exact ⟨_, rfl, writeOf_noRecords hq (fun x v _ h => effSelect_noRecords h x v) ..⟩
  | selectForced => exact ⟨_, rfl, writeOf_noRecords hq (fun x v _ h => effSelect_noRecords h x v) ..⟩
  | selectManual => exact ⟨_, rfl, writeOf_noRecords hq (fun x v _ h => effSelect_noRecords h x v) ..⟩
  | selectHoldover => exact ⟨_, rfl, writeOf_noRecords hq (fun x v _ h => effSelect_noRecords h x v) ..⟩
  | selectFreeRun => exact ⟨_, rfl, writeOf_noRecords hq (fun x v _ h => effSelect_noRecords h x v) ..⟩
  | governorLocked => exact ⟨_, rfl, hq.of_lanes (govLocked_lanes ..)⟩
  | noLockTimeout => exact ⟨_, rfl, hq.of_lanes (noLock_lanes ..)⟩
  | historyEntry => exact ⟨_, rfl, hq.of_lanes (historyMinute_lanes ..)⟩
  | calibrationUpdate => exact ⟨_, rfl, hq.of_lanes (calibrate_lanes ..)⟩
  | ocxoWarm => exact ⟨_, rfl, hq.of_lanes (ocxoWarm_lanes ..)⟩
  | ssmOptionWrite => exact ⟨_, rfl, writeOf_noRecords hq (fun x v _ h => effSsmOption_noRecords h x v) ..⟩
  | realignFramePhase => exact ⟨_, rfl, writeOf_noRecords hq (fun x v _ h => effRealign_noRecords h x v) ..⟩
  | realignment => exact ⟨_, rfl, realign_noRecords hq ..⟩
  | ppsInEdge => exact ⟨_, rfl, hq.of_lanes (ppsEdge_lanes ..)⟩
  | todMessage => exact ⟨_, rfl, hq.of_lanes (todIn_lanes ..)⟩
  | todOut => exact ⟨_, rfl, hq.of_lanes (todSend_lanes ..)⟩
  | delayReqInterval => exact ⟨_, rfl, delayInterval_noRecords hq ..⟩
  | sourceLost => exact ⟨_, rfl, hq.of_lanes (sourceLost_lanes ..)⟩
  | permitStep => exact ⟨_, rfl, writeOf_noRecords hq (fun x v _ h => effPermit_noRecords h x v) ..⟩
  | permitSlew => exact ⟨_, rfl, writeOf_noRecords hq (fun x v _ h => effPermit_noRecords h x v) ..⟩
  | timeSourceWrite => exact ⟨_, rfl, writeOf_noRecords hq (fun x v _ h => effTimeSource_noRecords h x v) ..⟩
  | ptpSourceLaneWrite => exact ⟨_, rfl, writeOf_noRecords hq (fun x v _ h => effPtpLane_noRecords h x v) ..⟩
  | armOneShot => exact ⟨_, rfl, writeOf_noRecords hq (fun x v _ h => effArmTrigger_noRecords h _ x v) ..⟩
  | armPeriodic => exact ⟨_, rfl, writeOf_noRecords hq (fun x v _ h => effArmTrigger_noRecords h _ x v) ..⟩
  | disarmTrigger => exact ⟨_, rfl, writeOf_noRecords hq (fun x v _ h => effDisarm_noRecords h _ x v) ..⟩
  | triggerFire => exact ⟨_, rfl, hq.of_lanes (fireTrigger_lanes ..)⟩
  | triggerPulseEnd => exact ⟨_, rfl, hq.of_lanes (pulseEnd_lanes ..)⟩
  | transmitStreamWrite => exact ⟨_, rfl, writeOf_noRecords hq (fun x v _ h => effTxStream_noRecords h _ x v) ..⟩
  | receiveStreamWrite => exact ⟨_, rfl, writeOf_noRecords hq (fun x v _ h => effRxStream_noRecords h _ x v) ..⟩
  | installKey => exact ⟨_, rfl, writeOf_noRecords hq (fun x v _ h => effInstallKey_noRecords h _ _ _ x v) ..⟩
  | keySwitch => exact ⟨_, rfl, hq.of_lanes (switchKey_lanes ..)⟩
  | erasePendingKey => exact ⟨_, rfl, writeOf_noRecords hq (fun x v _ h => effEraseSlot_noRecords h _ x v) ..⟩
  | eraseSlotKey => exact ⟨_, rfl, writeOf_noRecords hq (fun x v _ h => effEraseSlot_noRecords h _ x v) ..⟩
  | eraseAllKeys => exact ⟨_, rfl, writeOf_noRecords hq (fun x v _ h => effEraseAll_noRecords h x v) ..⟩
  | installKwk => exact ⟨_, rfl, writeOf_noRecords hq (fun x v _ h => effInstallKwk_noRecords h _ x v) ..⟩
  | installChannelKey => exact ⟨_, rfl, writeOf_noRecords hq (fun x v _ h => effChannelKey_noRecords h _ _ x v) ..⟩
  | sendMessage rq channel message => exact execSendMessage_noRecords rq channel message hs
  | tamperDetected => exact ⟨_, rfl, tamperSeen_noRecords hq ..⟩
  | temperatureSample => exact ⟨_, rfl, tempSample_noRecords hq ..⟩
  | voltageExcursion => exact ⟨_, rfl, railOut_noRecords hq ..⟩
  | glitchDetected => exact ⟨_, rfl, glitch_noRecords hq ..⟩
  | clearTamper => exact ⟨_, rfl, writeOf_noRecords hq (fun x v _ h => effClearTamper_noRecords h x v) ..⟩
  | authCountDecay => exact ⟨_, rfl, hq.of_lanes (authDecay_lanes ..)⟩
  | secondBoundary => exact ⟨_, rfl, hq.of_lanes (secondEnd_lanes ..)⟩
  | secondClassify => exact ⟨_, rfl, hq.of_lanes (classify_lanes ..)⟩
  | secondCommit => exact ⟨_, rfl, hq.of_lanes (commitSecond_lanes ..)⟩
  | wheelDrain => exact ⟨_, rfl, hq.of_lanes (drainWheel_lanes ..)⟩
  | clearCounters => exact ⟨_, rfl, writeOf_noRecords hq (fun x v _ h => effClear_noRecords h x v) ..⟩
  | cogWatchdogExpiry => exact ⟨_, rfl, hq.of_lanes (cogFaulted_lanes ..)⟩
  | cogFault => exact ⟨_, rfl, hq.of_lanes (cogFaulted_lanes ..)⟩
  | cogReloaded => exact ⟨_, rfl, hq.of_lanes (cogBack_lanes ..)⟩
  | mapAuditPass => exact ⟨_, rfl, hq.of_lanes (auditPass_lanes ..)⟩
  | matrixTimeout => exact ⟨_, rfl, hq.of_lanes (matrixTimeout_lanes ..)⟩
  | masterReset => exact ⟨_, rfl, hq.of_lanes (masterReset_lanes ..)⟩
  | marchSlice => exact ⟨_, rfl, hq.of_lanes (marchSlice_lanes ..)⟩
  | sliceResume => exact ⟨_, rfl, hq.of_lanes (sliceAgain_lanes ..)⟩
  | marchPassDue => exact ⟨_, rfl, hq.of_lanes (passDue_lanes ..)⟩
  | startMarchPass => exact ⟨_, rfl, writeOf_noRecords hq (fun x v _ h => effStartPass_noRecords h x v) ..⟩
  | bandwidthWindowEnd => exact ⟨_, rfl, hq.of_lanes (windowEnd_lanes ..)⟩
  | bandwidthWindowWrite => exact ⟨_, rfl, writeOf_noRecords hq (fun x v _ h => effWindow_noRecords h x v) ..⟩
  | enrolCertificate => exact ⟨_, rfl, writeOf_noRecords hq (fun x v _ h => effEnrol_noRecords h _ x v) ..⟩
  | revokeCertificate => exact ⟨_, rfl, writeOf_noRecords hq (fun x v _ h => effRevokeCert_noRecords h x v) ..⟩
  | makerAccessWrite => exact ⟨_, rfl, writeOf_noRecords hq (fun x v _ h => effMakerAccess_noRecords h x v) ..⟩
  | auditFlush => exact ⟨_, rfl, hq.of_lanes (flushAudit_lanes ..)⟩
  | markRead => exact ⟨_, rfl, writeOf_noRecords hq (fun x v _ h => effMarkRead_noRecords h x v) ..⟩
  | startTrial => exact ⟨_, rfl, writeOf_noRecords hq (fun x v _ h => effTrial_noRecords h x v) ..⟩
  | confirmImage => exact ⟨_, rfl, writeOf_noRecords hq (fun x v _ h => effConfirm_noRecords h x v) ..⟩
  | enterRecovery => exact ⟨_, rfl, writeOf_noRecords hq (fun x v _ h => effRecovery_noRecords h x v) ..⟩
  | attestationNonce => exact ⟨_, rfl, writeOf_noRecords hq (fun x v _ h => effNonce_noRecords h _ _ x v) ..⟩
  | attestationReportReady => exact ⟨_, rfl, hq.of_lanes (reportReady_lanes ..)⟩
  | flashEraseComplete => exact ⟨_, rfl, .state_ite (hq.of_lanes (eraseEnd_lanes ..)) hq⟩
  | feedValid => exact ⟨_, rfl, feedUp_noRecords hq ..⟩
  | feedInvalid => exact ⟨_, rfl, hq.of_lanes (feedDown_lanes ..)⟩
  | keepPresent => exact ⟨_, rfl, hq⟩
  | keepLost => exact ⟨_, rfl, keepGone_noRecords hq ..⟩
  | hotSwapTrip => exact ⟨_, rfl, trip_noRecords hq ..⟩
  | hotSwapRetry => exact ⟨_, rfl, hq.of_lanes (retrySwitch_lanes ..)⟩
  | holdUpCharged => exact ⟨_, rfl, .state_ite hq hq⟩
  | seated => exact ⟨_, rfl, seat_noRecords hq ..⟩
  | presentLost => exact ⟨_, rfl, unseat_noRecords ..⟩
  | resetAssert => exact ⟨_, rfl, State.volatileLost_noRecords _⟩
  | resetRelease => exact ⟨_, rfl, releaseReset_noRecords hq ..⟩
  | startupRetry => exact ⟨_, rfl, startAgain_noRecords hq ..⟩
  | startupComplete => exact ⟨_, rfl, hq.of_lanes (startupEnd_lanes ..)⟩
  | mapCheckpointStart => exact ⟨_, rfl, hq.of_lanes (mapStart_lanes ..)⟩
  | mapCheckpointComplete => exact ⟨_, rfl, hq.of_lanes (mapEnd_lanes ..)⟩
  | eraseBudgetUnit => exact ⟨_, rfl, hq.of_lanes (budgetUnit_lanes ..)⟩
  | restoreDefaults => exact ⟨_, rfl, writeOf_noRecords hq (fun x v _ h => effDefaults_noRecords h x v) ..⟩
  | powerFail => exact ⟨_, rfl, powerFail_noRecords hq ..⟩
  | referenceActivityRestored => exact ⟨_, rfl, hq.of_lanes (activityBack_lanes ..)⟩
  | tamperConditionEnded input => exact ⟨_, rfl, by cases input <;> exact hq⟩
  | voltageConditionEnded => exact ⟨_, rfl, hq⟩
  | macAddressAgeing => exact ⟨_, rfl, hq.of_lanes (ageMac_lanes ..)⟩
  | mgtLinkChange => exact ⟨_, rfl, .state_ite hq hq⟩
  | keptResponseExpiry => exact ⟨_, rfl, hq.of_lanes (keptEnd_lanes ..)⟩
  | overheadQueueFault => exact ⟨_, rfl, overheadQueueFault_noRecords hq ..⟩
  | scratchpadEccUncorrectable => exact ⟨_, rfl, hq.of_lanes (scratchError_lanes ..)⟩
  | slewComplete => exact ⟨_, rfl, hq.of_lanes (slewEnd_lanes ..)⟩

theorem State.tick_noRecords {s : State} (hs : NoRecords s.lanes) : NoRecords s.tick.lanes := by
  have ht : NoRecords ({ s.tickTime with now := s.now + 1, out := [] } : State).lanes := hs.of_lanes s.tickTime_lanes
  simp only [State.tick, State.closeSpent_lanes, State.missBeat_lanes]
  exact ht.each (fun l u hu => State.tickTraining_noRecords hu l) _

/-- A step from a state of an IDZ48-M1N with no record at hand leaves none at hand. -/
theorem Steps.noRecords {s t : State} (h : Steps s t) (ho : s.power.ordering = false) (hs : NoRecords s.lanes) : NoRecords t.lanes := by
  unfold Steps step at h
  split at h
  next =>
    cases h
    exact State.tick_noRecords hs
  next c rest _ =>
    obtain ⟨u, hu, hn⟩ := exec_noRecords c (s := { s with pending := rest }) hs ho
    cases hu.symm.trans h
    exact hn

theorem Reaches.noRecords {s t : State} (h : Reaches s t) (ho : s.power.ordering = false) (hs : NoRecords s.lanes) : NoRecords t.lanes := by
  induction h with
  | here => exact hs
  | step hst hstep ih => exact hstep.noRecords (hst.ordering_now.1.trans ho) ih

/-! SEAL_RECORD, and access to the sealing objects. -/

/-- With no record at hand SEAL_RECORD does nothing (02 R60). -/
theorem exec_sealRecord_of_noRecord {s : State} {l : LaneId} (h : (s.lane l).ch.sealReady = []) (r : SealRec) (ok : Bool) :
    exec (.sealRecord l r ok) s = .next s.quiet := by
  have hn : sealRecord l r ok s.quiet = s.quiet := by
    unfold sealRecord
    rw [show (s.quiet.lane l).ch.sealReady = [] from h]
  exact congrArg (fun t => Host.Outcome.next (s.fixed t)) hn

/-- An IDZ48-M1N has no sealing object (00 R2). -/
theorem State.object?_of_sealingObj {s : State} (ho : s.power.ordering = false) {index : Nat} (hi : sealingObj index = true) (sub : Nat) :
    s.object? index sub = none := by
  simp [State.object?, State.reachable, ho, hi]

theorem makerOwn_of_sealingObj {q : Req} (hi : sealingObj q.index = true) (op : Nat) (x : Session) : makerOwn op q x = false := by
  have hlt : q.index < 0xF000 := by
    simp only [sealingObj, Bool.or_eq_true, decide_eq_true_eq, beq_iff_eq] at hi
    omega
  simp only [makerOwn, decide_eq_false_iff_not]
  omega

theorem State.fixed_lessAnswers {s t : State} (h : t.lessAnswers = s.lessAnswers) : (s.fixed t).lessAnswers = s.lessAnswers :=
  congrArg (State.fixed s) h

/-- A request that is taken up, and whose body finds no object, is answered ABSENT and changes nothing else (14 Table 14-13). -/
theorem run_request_absent {op : Nat} {q : Req} {x : Session} {s : State} (h : TakenUp op q x s) (hop : op < 128) (hm : makerOwn op q x = false)
    {body : Session → State → Act} (hb : body x (s.quiet.heard q.session) = .refuse (refusal stAbsent)) :
    ∃ u, run (request op q body) s = .next u ∧ Answered op q 5 u ∧ u.lessAnswers = s.lessAnswers := by
  have hr : request op q body s.quiet = (s.quiet.heard q.session).answered op q (refusal stAbsent) := by
    rw [request_up h.quiet hm, hb]
    have hx := h.quiet.session
    obtain ⟨_, _, hrole, _, _, _, _, _, hsend, hrecv⟩ := h
    exact State.respond_eq _ op q _ _ hx hrole hsend hrecv
  refine ⟨_, rfl, ⟨respOf op q (refusal stAbsent), ?_, congrArg (· + 128) (Nat.mod_eq_of_lt hop), rfl, rfl⟩, State.fixed_lessAnswers ?_⟩
  · rw [hr]
    show _ ∈ ((s.quiet.heard q.session).answered op q (refusal stAbsent)).out
    rw [State.answered_out _ op q _ _ h.quiet.session h.2.2.1]
    simp
  · rw [hr, State.answered_lessAnswers]
    exact State.modSession_lessAnswers ..


/-- Settles O3: no command of an M1N takes a seal record in, a request finds no sealing object there, and time does not run back. -/
theorem anM1nNeverSeals : Obligations.AnM1nNeverSeals := by
  unfold Obligations.AnM1nNeverSeals
  intro s t ho hs h
  have ht : NoRecords t.lanes := h.noRecords ho ⟨hs⟩
  obtain ⟨hto, hnow⟩ := h.ordering_now
  refine ⟨hnow, fun l => ht.lane l, fun l r ok => exec_sealRecord_of_noRecord (ht.lane l).ready r ok, fun q x hq => ?_⟩
  have hobj : (t.quiet.heard q.session).object? q.index q.sub = none :=
    State.object?_of_sealingObj (by simpa using hto.trans ho) hq q.sub
  have hm (op : Nat) := makerOwn_of_sealingObj hq op x
  refine ⟨fun h => ?_, fun h => ?_, fun h => ?_, fun h => ?_, fun h => ?_, fun h => ?_⟩
  · exact run_request_absent h (by decide) (hm 1) (by simp only [readObj, State.readCheck, hobj])
  · exact run_request_absent h (by decide) (hm 2) (by simp only [writeObj, State.writeCheck, hobj])
  · exact run_request_absent h (by decide) (hm 3) (by simp only [readMultiObj, hobj])
  · exact run_request_absent h (by decide) (hm 4) (by simp only [domainReadObj, State.readCheck, hobj])
  · exact run_request_absent h (by decide) (hm 5) (by simp only [domainWriteObj, hobj])
  · exact run_request_absent h (by decide) (hm 6) (by simp only [describeObj, hobj])

end Sys2Proof.Machine
end

section
/-! PROOFS. The end of a gather reaches the waiting lanes of its port alone, and a queue fault its own lane (01 R20; 03 R90). -/

namespace Sys2Proof.Machine

/-! Several lanes. -/

/-- Only some lanes, and what lanes share, differ. -/
def OnlyLanes (ls : List LaneId) (s t : State) : Prop := t.lessLanes = s.lessLanes ∧ ∀ k : LaneId, k ∉ ls → t.lane k = s.lane k

theorem OnlyLanes.refl (ls : List LaneId) (s : State) : OnlyLanes ls s s := ⟨rfl, fun _ _ => rfl⟩

theorem OnlyLanes.trans {ls : List LaneId} {s t u : State} (h : OnlyLanes ls s t) (k : OnlyLanes ls t u) : OnlyLanes ls s u :=
  ⟨k.1.trans h.1, fun n hn => (k.2 n hn).trans (h.2 n hn)⟩

theorem OnlyLane.onlyLanes {ls : List LaneId} {l : LaneId} {s t : State} (h : OnlyLane l s t) (hl : l ∈ ls) : OnlyLanes ls s t :=
  ⟨h.1, fun k hk => h.2 k fun he => hk (Fin.val_injective he ▸ hl)⟩

theorem OnlyLanes.fixed {ls : List LaneId} {s u : State} (h : OnlyLanes ls s.quiet u) : OnlyLanes ls s (s.fixed u) := by
  refine ⟨?_, h.2⟩
  obtain ⟨hl, -⟩ := h
  simp only [State.lessLanes, State.quiet, State.mk.injEq] at hl ⊢
  simp_all

theorem OnlyLanes.modPort (ls : List LaneId) (s : State) (p : Nat) (f : Port → Port) : OnlyLanes ls s (s.modPort p f) :=
  ⟨by simp [State.lessLanes], fun k _ => by simp⟩

theorem OnlyLanes.each {α : Type} {ls : List LaneId} {f : α → State → State} (as : List α) (h : ∀ a ∈ as, ∀ s, OnlyLanes ls s (f a s))
    (s : State) : OnlyLanes ls s (s.each as f) := by
  unfold State.each
  induction as generalizing s with
  | nil => exact .refl ls s
  | cons a as ih => exact (h a List.mem_cons_self s).trans (ih (fun b hb => h b (List.mem_cons_of_mem a hb)) _)

/-- Placing a set changes the lanes of the set alone (03 R90). -/
theorem OnlyLanes.placeSet (s : State) (p : Nat) (ls : List LaneId) : OnlyLanes ls s (s.placeSet p ls) := by
  simp only [State.placeSet]
  refine .trans (.each _ (fun d hd s => ?_) s) (.modPort ..)
  obtain ⟨l, hl, rfl⟩ := List.mem_map.mp hd
  exact (OnlyLane.change s l _).onlyLanes hl

/-- A lane is placed alone, inside the window of a port in service, or with the lanes gathered with it (03 R90). -/
theorem OnlyLanes.tryPlace {ls : List LaneId} {s : State} {l : LaneId} (hl : l ∈ ls)
    (hg : ∀ k ∈ (s.port (s.portOf l)).gatherSet, k ∈ ls) : OnlyLanes ls s (s.tryPlace l) := by
  have sub {ks : List LaneId} {t : State} (h : OnlyLanes ks s t) (hk : ∀ k ∈ ks, k ∈ ls) : OnlyLanes ls s t :=
    ⟨h.1, fun n hn => h.2 n fun hm => hn (hk n hm)⟩
  simp only [State.tryPlace]
  split
  · exact .refl ..
  split
  · exact sub (.placeSet ..) (by simpa using hl)
  split
  · split
    · split <;> exact (OnlyLane.change ..).onlyLanes hl
    · exact .refl ..
  · split
    · exact sub (.placeSet ..) fun k hk => hg k (List.mem_filter.mp hk).1
    · exact .refl ..

/-! The gather. -/

theorem State.gatherChoice_sub (s : State) (ls : List LaneId) : ∀ k ∈ s.gatherChoice ls, k ∈ ls := by
  simp only [State.gatherChoice]
  refine List.foldlRecOn (motive := fun best => ∀ k ∈ best, k ∈ ls) _ _ (by simp) fun best hb set hs => ?_
  obtain ⟨l, _, rfl⟩ := List.mem_map.mp hs
  split
  · exact fun k hk => (List.mem_filter.mp hk).1
  · exact hb

theorem State.mem_portLanes (s : State) (p : Nat) (l : LaneId) : l ∈ s.portLanes p ↔ s.portOf l = p := by
  simp [State.portLanes]

/-- A port is made of lanes by its width, a setting. -/
theorem State.portOf_of_dict {s t : State} (h : t.persist.dict = s.persist.dict) (l : Nat) : t.portOf l = s.portOf l := by
  have hw (p : Nat) : t.width p = s.width p := by simp only [State.width, State.cfg, State.val, h]
  simp only [State.portOf, hw]

/-- A lane skewed beyond the window (03 R90). -/
def Lane.skewed (x : Lane) : Lane := { x with tr := { x.tr with skewExc := true } }

/-- The lanes of a list that are not in a set are marked as skewed beyond the window, and no other (03 R90). -/
theorem State.markSkewed_lane (ls set : List LaneId) (s : State) (k : LaneId) :
    (s.each ls fun l s => if set.contains l then s else s.modLane l Lane.skewed).lane k =
      if k ∈ ls ∧ k ∉ set then (s.lane k).skewed else s.lane k := by
  simp only [State.each]
  induction ls generalizing s with
  | nil => simp
  | cons l ls ih =>
    rw [List.foldl_cons, ih]
    by_cases hl : l ∈ set
    · have hk : k ∉ set → k ≠ l := fun h he => h (he ▸ hl)
      by_cases hs : k ∈ set <;> simp [hl, hs, hk]
    · by_cases he : k = l
      · subst he; simp [hl, Lane.skewed]
      · simp [hl, he, State.lane_modLane, Fin.val_inj]

theorem State.port_modPort (s : State) (p : Nat) (f : Port → Port) : (s.modPort p f).port p = f (s.port p) :=
  tget_tmod_same ..

theorem State.placeSet_port (s : State) (p : Nat) (ls : List LaneId) : ((s.placeSet p ls).port p).gather = none := by
  simp only [State.placeSet, State.port_modPort]

/-- A port in service starts no gather (03 R90). -/
theorem State.watchPort_gather {s : State} {p : Nat} {l : LaneId} (hl : s.portOf l = p) (h9 : (s.lane l).bring.stage = 9)
    (h : (s.port p).gather = none) : ((s.watchPort p).port p).gather = none := by
  have hany : (s.portLanes p).any (fun l => (s.lane l).bring.stage == 9) = true :=
    List.any_eq_true.mpr ⟨l, (s.mem_portLanes p l).mpr hl, by simp [h9]⟩
  simp only [State.watchPort]
  split
  · exact h
  · have hw (f : Port → Port) : (s.modPort p f).width p = s.width p := by simp [State.width]
    simp_all [State.port_modPort]

/-- Settling a lane starts no gather at a port in service (03 R90). -/
theorem State.settle_gather {s : State} {l k : LaneId} (hk : s.portOf k = s.portOf l) (h9 : ((s.settle l).lane k).bring.stage = 9)
    (h : (s.port (s.portOf l)).gather = none) : ((s.settle l).port (s.portOf l)).gather = none := by
  have hp {t : State} (h : t.persist = s.persist) (n : Nat) : t.portOf n = s.portOf n := State.portOf_of_dict (congrArg Persist.dict h) n
  have hport {t : State} (ht : t.ports = s.ports) : (t.port (s.portOf l)).gather = none := by simpa [State.port, ht] using h
  simp only [State.settle, State.watchPort_reads] at h9 ⊢
  rw [hp (by (repeat' split) <;> simp)]
  refine State.watchPort_gather ((hp ?_ k).trans hk) h9 (hport ?_)
  all_goals (repeat' split) <;> simp

/-- Changing a lane starts no gather at a port that has a lane in service afterwards (03 R90). -/
theorem State.change_gather {s : State} {l k : LaneId} {f : Lane → Lane} (hk : s.portOf k = s.portOf l)
    (h9 : ((s.change l f).lane k).bring.stage = 9) (h : (s.port (s.portOf l)).gather = none) :
    ((s.change l f).port (s.portOf l)).gather = none := by
  have hp (n : Nat) : (s.modLane l f).portOf n = s.portOf n := State.portOf_of_dict rfl n
  rw [State.change] at h9 ⊢
  rw [← hp l] at h ⊢
  exact State.settle_gather ((hp k).trans (hk.trans (hp l).symm)) h9 h

@[simp] theorem Lane.place_stage (x : Lane) (d : Int) (now : Nat) (first : Int) : (x.place d now first).bring.stage = 9 := by
  simp only [Lane.place]
  split
  · assumption
  · rfl

theorem State.mem_inService {s : State} {p : Nat} {k : LaneId} : k ∈ s.inService p ↔ s.portOf k = p ∧ (s.lane k).bring.stage = 9 := by
  simp [State.inService, State.mem_portLanes]

/-- Placing a lane starts no gather (03 R90). -/
theorem State.tryPlace_gather {s : State} {l : LaneId} (h : (s.port (s.portOf l)).gather = none) :
    ((s.tryPlace l).port (s.portOf l)).gather = none := by
  simp only [State.tryPlace]
  split
  · exact h
  next h8 =>
  split
  · exact s.placeSet_port ..
  split
  next k ks hks =>
    obtain ⟨hk, h9⟩ := State.mem_inService.mp (hks ▸ List.mem_cons_self : k ∈ s.inService (s.portOf l))
    split
    · split
      · exact State.change_gather rfl (by simp [State.change]) h
      · have hn : (k : Nat) ≠ l := fun he => by simp_all
        refine State.change_gather hk ?_ h
        rw [(OnlyLane.change s l _).2 k hn, h9]
    · exact h
  next =>
    split
    · exact s.placeSet_port ..
    · exact h

/-- The lanes of a port that wait for the end of its gather (03 R90). -/
def State.waiting (s : State) (p : Nat) : List LaneId := (s.portLanes p).filter fun l => (s.lane l).bring.stage == 8

theorem State.mem_waiting {s : State} {p : Nat} {k : LaneId} : k ∈ s.waiting p ↔ s.portOf k = p ∧ (s.lane k).bring.stage = 8 := by
  simp [State.waiting, State.mem_portLanes]

/-- The state in which a gather has chosen its set, and the lanes outside it are marked (03 R90). -/
def State.gathered (s : State) (p : Nat) : State :=
  (s.modPort p fun q => { q with gather := none, gatherSet := s.gatherChoice (s.waiting p) }).each (s.waiting p) fun l t =>
    if (s.gatherChoice (s.waiting p)).contains l then t else t.modLane l Lane.skewed

/-- The gather of a port ends with its set chosen, and its first lane is placed, if it may be (03 R90). -/
theorem gatherEnd_eq {s : State} {p : LaneId} {u : Nat} (hg : (s.port p).gather = some u) (ho : s.over u 4000000 = true) :
    gatherEnd p s = match s.gatherChoice (s.waiting p) with
      | l :: _ => (s.gathered p).tryPlace l
      | [] => s.gathered p := by
  unfold gatherEnd
  simp only [hg, msecs, ho]
  rfl

theorem State.gathered_onlyLanes (s : State) (p : Nat) : OnlyLanes (s.waiting p) s (s.gathered p) := by
  refine (OnlyLanes.modPort _ s p _).trans (.each _ (fun l hl t => ?_) _)
  split
  · exact .refl ..
  · exact (OnlyLane.modLane t l _).onlyLanes hl

/-- What the end of a gather makes of a lane's port and settings. -/
theorem State.gathered_keep {β : Type} (π : State → β) (h : ∀ (t : State) (l : Nat) f, π (t.modLane l f) = π t) (s : State) (p : Nat) :
    π (s.gathered p) = π (s.modPort p fun q => { q with gather := none, gatherSet := s.gatherChoice (s.waiting p) }) := by
  refine State.each_keep π _ _ (fun l t => ?_) _
  split
  · rfl
  · exact h ..

theorem State.gathered_port (s : State) (p : Nat) :
    (s.gathered p).port p = { s.port p with gather := none, gatherSet := s.gatherChoice (s.waiting p) } :=
  (State.gathered_keep (fun t => t.port p) (fun _ _ _ => rfl) s p).trans (s.port_modPort ..)

theorem State.gathered_portOf (s : State) (p l : Nat) : (s.gathered p).portOf l = s.portOf l :=
  State.portOf_of_dict (State.gathered_keep (fun t => t.persist.dict) (fun _ _ _ => rfl) s p) l

theorem State.gathered_skewed {s : State} {p : Nat} {k : LaneId} (hk : k ∈ s.waiting p) (hn : k ∉ s.gatherChoice (s.waiting p)) :
    ((s.gathered p).lane k).tr.skewExc = true := by
  rw [State.gathered, State.markSkewed_lane, if_pos ⟨hk, hn⟩]
  rfl

/-- The end of a gather starts no other, changes its waiting lanes alone, and marks those outside the chosen set (03 R90). -/
theorem gatherEnd_confined {s : State} {p : LaneId} {u : Nat} (hg : (s.port p).gather = some u) (ho : s.over u 4000000 = true) :
    ((gatherEnd p s).port p).gather = none ∧ OnlyLanes (s.waiting p) s (gatherEnd p s) ∧
    ∀ k, k ∈ s.waiting p → k ∉ s.gatherChoice (s.waiting p) → ((gatherEnd p s).lane k).tr.skewExc = true := by
  have hm := s.gathered_onlyLanes p
  rw [gatherEnd_eq hg ho]
  split
  next l ls hset =>
    have hl : l ∈ s.gatherChoice (s.waiting p) := hset ▸ List.mem_cons_self
    have hp : (s.gathered p).portOf l = p := (s.gathered_portOf p l).trans (State.mem_waiting.mp (s.gatherChoice_sub _ l hl)).1
    have ht : OnlyLanes (s.gatherChoice (s.waiting p)) (s.gathered p) ((s.gathered p).tryPlace l) :=
      .tryPlace hl fun k hk => by rwa [hp, s.gathered_port] at hk
    refine ⟨?_, hm.trans ⟨ht.1, fun k hk => ht.2 k fun hc => hk (s.gatherChoice_sub _ k hc)⟩, fun k hk hn => ?_⟩
    · have := State.tryPlace_gather (s := s.gathered p) (l := l) (by rw [hp, s.gathered_port])
      rwa [hp] at this
    · rw [ht.2 k hn]
      exact State.gathered_skewed hk hn
  · exact ⟨by rw [s.gathered_port], hm, fun k hk hn => State.gathered_skewed hk hn⟩

/-! Faults of queues. -/

/-- An internal fault is recorded while the audit buffer has room (15 R396; log entry 174). -/
theorem State.auditObj_nextSeq {s : State} (h : s.sec.buffer.length < 256) (i b e : Nat) :
    (s.auditObj i b e).sec.nextSeq = s.sec.nextSeq + 1 := by
  have hb : ¬ 256 ≤ s.sec.buffer.length := by omega
  simp [State.auditObj, State.audit, moduleRec, hb]

/-- A fault of a transmit queue reloads the scrambler of its lane and starts its transmit frames afresh (01 Table 1-4). -/
theorem txQueueFault_eq {s : State} {l : LaneId} (h : s.enabled l = true) :
    txQueueFault l s = (s.auditObj 0x2020 1 l).modLane l fun x =>
      { x with df := { x.df with scr := BitVec.allOnes 58 }, tx := { x.tx with txRun := false } } := by
  simp [txQueueFault, h]

/-- A fault of the overhead queue of a lane in frame takes it to LOF (01 Table 1-4). -/
theorem overheadQueueFault_eq {s : State} {l : LaneId} (h : s.enabled l = true) (hf : (s.lane l).df.frameLock = true) :
    overheadQueueFault l s = (s.auditObj 0x2020 1 l).change l fun x => (x.goto 5 s.now).lockDefects := by
  simp [overheadQueueFault, h, hf]

/-- Settles O9, clause by clause: the gather's end by the lanes it marks and places, a queue fault by the one lane it changes. -/
theorem gathersEndAndQueueFaultsAreConfined : Obligations.GathersEndAndQueueFaultsAreConfined := by
  unfold Obligations.GathersEndAndQueueFaultsAreConfined
  refine ⟨fun s p u hg ho => ?_, fun s l hl hb => ⟨?_, fun hf => ?_⟩⟩
  · obtain ⟨hgather, honly, hskew⟩ := gatherEnd_confined (s := s.quiet) hg ho
    obtain ⟨hless, hlanes⟩ := honly.fixed
    exact ⟨_, rfl, hgather, hless, fun k hk => hlanes k fun hm => hk (State.mem_waiting.mp hm).1,
      fun k hp h8 hn => hskew k (State.mem_waiting.mpr ⟨hp, h8⟩) hn⟩
  · refine ⟨_, rfl, ?_⟩
    rw [txQueueFault_eq (by simpa using hl)]
    refine ⟨fun k hk => by simp [State.lane_modLane, hk], by simp, ?_, by simp, by simp, by simp⟩
    exact State.auditObj_nextSeq (s := s.quiet) hb ..
  · refine ⟨_, rfl, ?_⟩
    rw [overheadQueueFault_eq (by simpa using hl) (by simpa using hf)]
    refine ⟨fun k hk => ?_, ?_, ?_, ?_, by simp, by simp⟩
    · simpa using (OnlyLane.change (s.quiet.auditObj 0x2020 1 l) l _).2 k hk
    · simp [State.change, Lane.goto, Lane.lockDefects]
    · simp [State.change, Lane.goto, Lane.below, Lane.lockDefects]
    · simpa using State.auditObj_nextSeq (s := s.quiet) hb ..

end Sys2Proof.Machine
end

section
/-! PROOFS. What an answered write leaves beside the answer (14 R358, R364). -/

namespace Sys2Proof.Machine

/-- A count leaves every other counter alone (12 R320). -/
theorem State.ctr_count_of_ne {i b f e i' b' f' e' : Nat} (h : ctrKey i' b' f' e' ≠ ctrKey i b f e) (s : State) :
    (s.count i b f e).ctr i' b' f' e' = s.ctr i' b' f' e' := State.ctr_countN_other _ _ _ _ _ _ _ _ _ _ h

/-- A record of a kind that is not written to flash at once counts nothing (15 R396). -/
theorem State.audit_cnt (s : State) {r : AuditRec} (h : r.kind ≠ 4 ∧ r.kind ≠ 6 ∧ r.kind ≠ 7) : (s.audit r).cnt = s.cnt := by
  simp only [State.audit, h]
  repeat' split
  all_goals simp_all

/-- A write is answered with a status, and the answer changes what answers change, and no counter. -/
structure AnswersWith (q : Req) (status : Nat) (u r : State) : Prop where
  answered : Answered 2 q status r
  less : r.lessAnswers = u.lessAnswers
  cnt : r.cnt = u.cnt

theorem AnswersWith.fixed {q : Req} {status : Nat} {s u r : State} (h : AnswersWith q status u r) :
    AnswersWith q status (s.fixed u) (s.fixed r) :=
  ⟨h.answered, congrArg (State.fixed s) h.less, h.cnt⟩

theorem AnswersWith.of_eq {q : Req} {status : Nat} {u r : State} (w : State) (h : AnswersWith q status w r)
    (hl : w.lessAnswers = u.lessAnswers) (hc : w.cnt = u.cnt) : AnswersWith q status u r :=
  ⟨h.answered, h.less.trans hl, h.cnt.trans hc⟩

theorem AnswersWith.ctr {q : Req} {status : Nat} {u r : State} (h : AnswersWith q status u r) (i b f e : Nat) : r.ctr i b f e = u.ctr i b f e := by
  simp only [State.ctr, h.cnt]

/-- An open session below the limits of its sequences is answered (14 R355, R358). -/
theorem State.respond_answersWith {u : State} {q : Req} {a : Ans} {x : Session} (h : u.session? q.session = some x) (hr : x.role ≠ 0)
    (h1 : x.sendSeq + 1 < 281474976710656) (h2 : x.recvMax < 281474976710656) : AnswersWith q a.status u (u.respond 2 q a) := by
  rw [State.respond_eq _ _ _ _ x h hr h1 h2]
  refine ⟨⟨respOf 2 q a, ?_, rfl, rfl, rfl⟩, u.answered_lessAnswers 2 q a, by simp⟩
  simp [State.answered_out _ 2 q a x h hr]

/-- A write whose effect applies is answered with the status that the effect gives (14 R364). -/
theorem writeOf_answers {rq : Rq} {index sub el : Nat} {v : Bytes} {x : Session} {o : Obj} {s : State} (h : Writes rq index sub el v x s)
    (ho : findObj index sub = some o) (h0 : sub ≠ 0) (h1 : sub ≠ 0xFE) (hq : ¬ (index = 0x5E10 ∧ sub = 3))
    {eff : Session → List Nat → State → Act} {u : State} {a : Ans} {post : State → State}
    (he : eff x (o.split v) (s.heard rq.session) = .done u a post) (hm : u.mgmt.sessions = (s.heard rq.session).mgmt.sessions) :
    ∃ r, writeOf rq index sub el v eff s = post r ∧ AnswersWith (writeReq rq index sub el v) a.status u r := by
  have hc := h.check ho h0 h1
  have hdone := fun ha => writeOf_done h ho h0 h1 hq he ha
  obtain ⟨ht, -, -⟩ := h
  have ⟨_, hx, hr, _, _, _, _, _, hsend, hrecv⟩ := ht
  have hsession {w : State} (hw : w.mgmt = u.mgmt) : w.session? rq.session = some { x with lastAt := s.now } := by
    rw [State.session?, hw, hm]
    exact ht.session
  have hanswer {w : State} (hw : w.mgmt = u.mgmt) (a : Ans) :=
    State.respond_answersWith (q := writeReq rq index sub el v) (a := a) (hsession hw) hr hsend hrecv
  by_cases ha : a.status = 0
  · refine ⟨_, hdone ha, ?_⟩
    exact (hanswer (by simp) { a with offset := 0 }).of_eq _ (u.audit_lessAnswers _) (u.audit_cnt (by simp [writeRec]))
  · refine ⟨_, ?_, hanswer rfl a⟩
    have hc' : (s.heard (writeReq rq index sub el v).session).writeCheck (writeReq rq index sub el v) x.role = .ok o := by
      rw [State.heard_writeCheck s _ x hx hr]; exact hc
    have he' : eff x (o.split (writeReq rq index sub el v).value) (s.heard (writeReq rq index sub el v).session) = .done u a post := he
    rw [writeOf, request_up ht (makerOwn_found ho rfl x)]
    simp only [writeBody, hc', he', audited, ne_eq, ha, not_false_eq_true, or_true, if_true]

/-- A command that writes an object, where its effect applies, runs to what follows the answer (14 R364). -/
theorem run_writeOf_answers {rq : Rq} {index sub el : Nat} {v : Bytes} {x : Session} {o : Obj} {s : State} (h : Writes rq index sub el v x s)
    (ho : findObj index sub = some o) (h0 : sub ≠ 0) (h1 : sub ≠ 0xFE) (hq : ¬ (index = 0x5E10 ∧ sub = 3))
    {eff : Session → List Nat → State → Act} {u : State} {a : Ans} {post : State → State}
    (he : eff x (o.split v) (s.quiet.heard rq.session) = .done u a post) (hm : u.mgmt.sessions = (s.quiet.heard rq.session).mgmt.sessions) :
    ∃ r, run (writeOf rq index sub el v eff) s = .next (s.fixed (post r)) ∧ AnswersWith (writeReq rq index sub el v) a.status u r := by
  obtain ⟨r, hr, ha⟩ := writeOf_answers (s := s.quiet) h ho h0 h1 hq he hm
  exact ⟨r, congrArg (fun t => Host.Outcome.next (s.fixed t)) hr, ha⟩

theorem State.heard_lessAnswers (s : State) (i : Nat) : (s.heard i).lessAnswers = s.lessAnswers := State.modSession_lessAnswers ..

/-- An answer leaves the settings alone. -/
theorem AnswersWith.val {q : Req} {status : Nat} {u r : State} (h : AnswersWith q status u r) (i b e : Nat) : r.val i b e = u.val i b e := by
  have hp : r.persist = u.persist := (congrArg State.persist h.less :)
  simp only [State.val, hp]

end Sys2Proof.Machine
end

section
/-! PROOFS. What the failure of an engine, and the revocation of the lease, write and leave (08 R216, R230, Table 8-2). -/

namespace Sys2Proof.Machine

/-! Counters. -/

/-- A counter that no entry of a hopper counts. -/
def OffHoppers (i b f e : Nat) : Prop := ∀ n h, ctrKey i b f e ≠ ctrKey 0x7010 2 n h

@[simp] theorem State.postUnit_ctr {i b f e : Nat} (h : OffHoppers i b f e) (s : State) (hop : Nat) (es : List Bytes) (q : Bool) :
    (s.postUnit hop es q).ctr i b f e = s.ctr i b f e := by
  have hc (s : State) (n k hop : Nat) : (s.countN 0x7010 2 n hop k).ctr i b f e = s.ctr i b f e := s.ctr_countN_other _ _ _ _ _ _ _ _ _ (h n hop)
  simp only [State.postUnit, State.writeUnit]
  repeat' split
  all_goals simp [hc]

/-- An event counts at hoppers alone (14 R377). -/
@[simp] theorem State.event_ctr {i b f e : Nat} (h : OffHoppers i b f e) (s : State) (c x y z : Nat) (p : Bytes) :
    (s.event c x y z p).ctr i b f e = s.ctr i b f e := by
  simp only [State.event, State.eventAt]
  exact State.each_keep (State.ctr · i b f e) _ _ (fun k t => t.postUnit_ctr h ..) _

/-! Engines. -/

@[simp] theorem State.modEngine_engine (s : State) (e k : EngId) (f : Engine → Engine) :
    (s.modEngine e f).engine k = if k = e then f (s.engine e) else s.engine k := by
  fin_cases e <;> fin_cases k <;> rfl

@[simp] theorem otherEng_ne (e : EngId) : otherEng e ≠ e := by
  fin_cases e <;> decide

theorem State.modEngine_keep (s : State) (e : EngId) (f : Engine → Engine) : { s.modEngine e f with engA := s.engA, engB := s.engB } = s := by
  unfold State.modEngine
  split <;> rfl

/-- An engine fails with a cause, at a time: what 5010:03 shows of it, and its state (08 R216). -/
def Engine.failed (x : Engine) (cause epoch stamp now : Nat) : Engine :=
  { x with cause := cause, failEpoch := epoch, failStamp := stamp, state := .failed, failedAt := now, switching := false }

@[simp] theorem State.failEngine_engine (s : State) (e k : EngId) (cause : Nat) :
    (s.failEngine e cause).engine k = if k = e then (s.engine e).failed cause s.lease.epoch s.stamp s.now else s.engine k := by
  simp only [State.failEngine, State.recordFail, State.modEngine_engine, State.event_reads, if_true]
  split <;> rfl

@[simp] theorem State.failEngine_frame (s : State) (e : EngId) (cause : Nat) :
    (s.failEngine e cause).pending = s.pending ∧ (s.failEngine e cause).now = s.now ∧ (s.failEngine e cause).power = s.power ∧
    (s.failEngine e cause).sup = s.sup ∧ (s.failEngine e cause).persist = s.persist ∧ (s.failEngine e cause).lanes = s.lanes ∧
    (s.failEngine e cause).fab = s.fab ∧ (s.failEngine e cause).lease = s.lease ∧ (s.failEngine e cause).prot = s.prot ∧
    (s.failEngine e cause).sealing = s.sealing ∧ (s.failEngine e cause).sec = s.sec := by
  simp [State.failEngine, State.recordFail]

@[simp] theorem State.failEngine_ctr {i b f e : Nat} (h : OffHoppers i b f e) (s : State) (g : EngId) (cause : Nat) :
    (s.failEngine g cause).ctr i b f e = s.ctr i b f e := by
  simp [State.failEngine, State.recordFail, h]

/-! The lease. -/

/-- Giving up a map checkpoint writes the stored state and one counter (16 R424). -/
@[simp] theorem State.abandonMap_frame (s : State) :
    s.abandonMap.now = s.now ∧ s.abandonMap.power = s.power ∧ s.abandonMap.lanes = s.lanes ∧ s.abandonMap.fab = s.fab ∧
    s.abandonMap.engA = s.engA ∧ s.abandonMap.engB = s.engB ∧ s.abandonMap.lease = s.lease := by
  unfold State.abandonMap
  split <;> simp

@[simp] theorem State.abandonMap_engine (s : State) (e : EngId) : s.abandonMap.engine e = s.engine e := by
  simp [State.engine]

theorem State.abandonMap_ctr {i b f e : Nat} (h : ctrKey i b f e ≠ ctrKey 0xA020 2 8 0) (s : State) : s.abandonMap.ctr i b f e = s.ctr i b f e := by
  unfold State.abandonMap
  split
  · exact State.ctr_count_of_ne h _
  · rfl

/-- The lease revoked: no holder, nothing admitted (08 R214, R230). -/
theorem State.revoke_lease {s : State} {e : EngId} (h : s.lease.holder = some e) (cause : Nat) :
    (s.revoke cause).lease.holder = none ∧ (s.revoke cause).lease.admitted = false := by
  simp [State.revoke, h]

/-- Revoking the lease fails its holder (08 R216). -/
theorem State.revoke_engine {s : State} {e : EngId} (h : s.lease.holder = some e) (cause : Nat) (k : EngId) :
    (s.revoke cause).engine k = if k = e then (s.engine e).failed cause s.lease.epoch s.stamp s.now else s.engine k := by
  rw [← State.failEngine_engine]
  simp only [State.revoke, h, State.abandonMap_engine]
  rfl

@[simp] theorem State.revoke_frame (s : State) (cause : Nat) :
    (s.revoke cause).now = s.now ∧ (s.revoke cause).power = s.power ∧ (s.revoke cause).fab = s.fab := by
  unfold State.revoke
  split <;> simp

theorem State.revoke_ctr {i b f e : Nat} (h : OffHoppers i b f e) (h' : ctrKey i b f e ≠ ctrKey 0xA020 2 8 0) (s : State) (cause : Nat) :
    (s.revoke cause).ctr i b f e = s.ctr i b f e := by
  unfold State.revoke
  split
  · rfl
  · rw [State.abandonMap_ctr h']
    exact State.failEngine_ctr h ..

/-- The state without its alarm conditions. -/
def State.lessConds (s : State) : State := { s with store.conds := [] }

theorem State.noteCond_lessConds (s : State) (c : AlarmCond) (p : Bool) : (s.noteCond c p).lessConds = s.lessConds := by
  unfold State.noteCond
  repeat' split
  all_goals rfl

/-- The alarms of the engines note conditions alone (08 R231). -/
theorem State.watchEngines_lessConds (s : State) : s.watchEngines.lessConds = s.lessConds := by
  simp only [State.watchEngines, State.noteCond_lessConds]

theorem State.eq_of_lessConds {s t : State} (h : t.lessConds = s.lessConds) : t = { s with store.conds := t.store.conds } := by
  have hs : ({ t.store with conds := [] } : Store) = { s.store with conds := [] } := congrArg State.store h
  have ht : t.store = { s.store with conds := t.store.conds } :=
    congrArg (fun x : Store => { x with conds := t.store.conds }) hs
  calc t = { t.lessConds with store := t.store } := rfl
    _ = { s.lessConds with store := { s.store with conds := t.store.conds } } := by rw [h, ht]

@[simp] theorem State.watchEngines_frame (s : State) :
    s.watchEngines.now = s.now ∧ s.watchEngines.power = s.power ∧ s.watchEngines.sup = s.sup ∧ s.watchEngines.mgmt = s.mgmt ∧
    s.watchEngines.persist = s.persist ∧ s.watchEngines.cnt = s.cnt ∧
    s.watchEngines.fab = s.fab ∧ s.watchEngines.engA = s.engA ∧ s.watchEngines.engB = s.engB ∧ s.watchEngines.lease = s.lease ∧
    s.watchEngines.sealing = s.sealing ∧ s.watchEngines.sec = s.sec := by
  simp [State.watchEngines]

@[simp] theorem State.watchEngines_reads (s : State) :
    (∀ e, s.watchEngines.engine e = s.engine e) ∧ (∀ i b f e, s.watchEngines.ctr i b f e = s.ctr i b f e) := by
  simp [State.watchEngines]

/-! Faults of rails and links (01 R23; 08 Table 8-2). -/

/-- A core rail out of its window revokes the lease of a holder (08 Table 8-2). -/
theorem coreRail_holder {s : State} {e : EngId} (h : s.lease.holder = some e) (hu : (s.engine e).state ≠ .unusable)
    (hd : (s.engine e).state ≠ .down) : coreRail e s = (s.revoke 5).watchEngines := by
  simp [coreRail, h, hu, hd]

/-- A core rail out of its window fails an engine that does not hold the lease (08 Table 8-2). -/
theorem coreRail_standby {s : State} {e : EngId} (h : s.lease.holder ≠ some e) (hu : (s.engine e).state ≠ .unusable)
    (hd : (s.engine e).state ≠ .down) : coreRail e s = (s.failEngine e 5).watchEngines := by
  simp [coreRail, h, hu, hd]

/-- What a core rail out of its window leaves (08 Table 8-2). -/
theorem coreRail_spec {s : State} {e : EngId} (hu : (s.engine e).state ≠ .unusable) (hd : (s.engine e).state ≠ .down) :
    (coreRail e s).engine e = (s.engine e).failed 5 s.lease.epoch s.stamp s.now ∧
    (coreRail e s).engine (otherEng e) = s.engine (otherEng e) ∧
    (s.lease.holder = some e → (coreRail e s).lease.holder = none ∧ (coreRail e s).lease.admitted = false) ∧
    (s.lease.holder ≠ some e → (coreRail e s).lease = s.lease) ∧ (coreRail e s).fab = s.fab := by
  by_cases h : s.lease.holder = some e
  · rw [coreRail_holder h hu hd]
    simp [State.revoke_engine h, State.revoke_lease h, h]
  · rw [coreRail_standby h hu hd]
    simp [h]

/-- What the loss of an island's rail leaves (08 R210, Table 8-2). -/
theorem islandLost_spec (s : State) (e : EngId) :
    ((islandLost e s).engine e).state = .down ∧ ((islandLost e s).engine e).areas = [] ∧
    (s.lease.holder ≠ some e → ((islandLost e s).engine e).held = s.restartCount e :: s.checkpointFields e) ∧
    (s.lease.holder = some e → (islandLost e s).lease.holder = none) ∧
    (islandLost e s).engine (otherEng e) = s.engine (otherEng e) ∧ (islandLost e s).fab = s.fab := by
  simp only [islandLost, State.engineDown]
  by_cases h : s.lease.holder = some e
  · simp [h, Engine.areas, State.revoke_engine h, State.revoke_lease h]
  · simp [h, Engine.areas]

/-- A link that loses framing takes the lease from its engine, or fails it where it is armed (01 R23). -/
theorem linkLoss_spec {s : State} {e : EngId} (f : LinkFault) (hl : (s.engine e).linked = true)
    (h : s.lease.holder = some e ∨ (s.engine e).state = .armed) :
    (linkLoss e f s).engine e = (s.engine e).failed 6 s.lease.epoch s.stamp s.now ∧
    (s.lease.holder = some e → (linkLoss e f s).lease.holder = none) ∧ (s.lease.holder ≠ some e → (linkLoss e f s).lease = s.lease) := by
  simp only [linkLoss, State.engineFault, hl, if_true]
  by_cases hh : s.lease.holder = some e
  · simp [hh, State.revoke_engine hh, State.revoke_lease hh]
  · have ha := h.resolve_left hh
    simp [hh, ha]

/-! The tally (08 R219, R230). -/

/-- A comparison does not match: P has not arrived, or the sums differ (08 R219). -/
def State.mismatch (s : State) (c : Option (BitVec 32)) (f : BitVec 32) : Bool :=
  c.isNone || s.lease.sumP ^^^ c.getD 0 != s.lease.sumM ^^^ f

/-- An evaluated comparison as it is recorded: the window, both sums, and a mismatch counted (08 R219). -/
def State.compared (s : State) (c : Option (BitVec 32)) (f : BitVec 32) : State :=
  { s with
    fresh := if c.isSome then s.fresh else s.fresh + 1
    cnt := if s.mismatch c f then (s.count 0x5030 2 0 0).cnt else s.cnt
    lease.window := (s.mismatch c f :: s.lease.window).take 8
    lease.lastP := if c.isSome then (s.lease.sumP ^^^ c.getD 0).toNat else s.free.1 % 4294967296
    lease.lastM := (s.lease.sumM ^^^ f).toNat, lease.lastFrame := s.frameNow - 1 }

theorem compareTally_eq {s : State} {loop : Bool} (h : s.tallyEvaluated loop = true) (c : Option (BitVec 32)) (f : BitVec 32) :
    compareTally c f loop s =
      (if 3 ≤ (s.compared c f).lease.window.countP id then (s.compared c f).declareTally else s.compared c f).watchEngines := by
  simp only [compareTally, h, if_true]
  cases c with
  | none => rfl
  | some d =>
    simp only [State.compared, State.mismatch, Option.isSome_some, Option.isNone_some, Bool.not_true, Bool.false_or, Option.getD_some]
    cases s.lease.sumP ^^^ d != s.lease.sumM ^^^ f <;> rfl

/-- Recording a comparison writes the lease, one counter and the place in the free values (08 R219). -/
theorem State.compared_keep (s : State) (c : Option (BitVec 32)) (f : BitVec 32) :
    { s.compared c f with lease := s.lease, cnt := s.cnt, fresh := s.fresh } = s := rfl

theorem State.compared_lease (s : State) (c : Option (BitVec 32)) (f : BitVec 32) :
    (s.compared c f).lease.holder = s.lease.holder ∧ (s.compared c f).lease.tallyTakeover = s.lease.tallyTakeover ∧
    (s.compared c f).lease.window = (s.mismatch c f :: s.lease.window).take 8 ∧
    (s.compared c f).lease.lastM = (s.lease.sumM ^^^ f).toNat ∧
    ∀ d, c = some d → (s.compared c f).lease.lastP = (s.lease.sumP ^^^ d).toNat :=
  ⟨rfl, rfl, rfl, rfl, fun _ hd => hd ▸ rfl⟩

theorem State.compared_ctr {s : State} {c : Option (BitVec 32)} {f : BitVec 32} (h : s.mismatch c f = true) :
    (s.compared c f).ctr 0x5030 2 0 0 = (s.ctr 0x5030 2 0 0 + 1) % 4294967296 := by
  rw [← State.ctr_count]
  simp [State.ctr, State.compared, h]

theorem offHoppers_5030 (b f e : Nat) (hb : b < 256) (hf : f < 64) (he : e < 4294967296) : OffHoppers 0x5030 b f e := fun n h => by
  unfold ctrKey
  omega

/-- The third mismatch of eight revokes the lease, where revocation is set and no takeover was caused by TALLY before (08 R219, R230). -/
theorem compareTally_revokes {s : State} {loop : Bool} {c : Option (BitVec 32)} {f : BitVec 32} {e : EngId} (h : s.tallyEvaluated loop = true)
    (hr : s.cfg 0x5000 8 0 ≠ 0) (ht : s.lease.tallyTakeover = none) (he : s.lease.holder = some e)
    (hc : 3 ≤ ((s.mismatch c f :: s.lease.window).take 8).countP id) :
    (compareTally c f loop s).lease.holder = none ∧ (compareTally c f loop s).lease.admitted = false ∧
    (compareTally c f loop s).engine e = (s.engine e).failed 1 s.lease.epoch s.stamp s.now ∧
    (s.mismatch c f = true → (compareTally c f loop s).ctr 0x5030 2 0 0 = (s.ctr 0x5030 2 0 0 + 1) % 4294967296) ∧
    (compareTally c f loop s).fab = s.fab := by
  obtain ⟨hholder, htake, hwin, -, -⟩ := s.compared_lease c f
  have hd : (s.compared c f).declareTally = (s.compared c f).revoke 1 := by
    have hcfg : (s.compared c f).cfg 0x5000 8 0 = s.cfg 0x5000 8 0 := rfl
    simp only [State.declareTally, hcfg, hr, if_false, htake, ht]
  rw [compareTally_eq h, hwin, if_pos hc, hd]
  rw [he] at hholder
  refine ⟨by simp [State.revoke_lease hholder], by simp [State.revoke_lease hholder], ?_, fun hm => ?_, by simp; rfl⟩
  · simp only [State.watchEngines_reads, State.revoke_engine hholder, if_true]
    rfl
  · rw [(State.watchEngines_reads _).2, State.revoke_ctr (offHoppers_5030 2 0 0 (by decide) (by decide) (by decide)) (by decide), State.compared_ctr hm]

/-- Fewer than three mismatches of eight are recorded alone (08 R219). -/
theorem compareTally_records {s : State} {loop : Bool} {c : Option (BitVec 32)} {f : BitVec 32} (h : s.tallyEvaluated loop = true)
    (hc : ((s.mismatch c f :: s.lease.window).take 8).countP id < 3) : compareTally c f loop s = (s.compared c f).watchEngines := by
  rw [compareTally_eq h, (s.compared_lease c f).2.2.1, if_neg (Nat.not_le.mpr hc)]

/-- A comparison that is not evaluated is counted alone (08 R219). -/
theorem compareTally_notEvaluated {s : State} {loop : Bool} (h : s.tallyEvaluated loop = false) (c : Option (BitVec 32)) (f : BitVec 32) :
    compareTally c f loop s = s.count 0x5030 3 0 0 := by
  simp [compareTally, h]

/-- Setting the tally's revocation clears its window (08 R230). -/
theorem effTallyRevocation_set (x : Session) (s : State) :
    effTallyRevocation x [1] s = ok ({ s.setVal 0x5000 8 0 [1] with lease.window := [], lease.commonTally := false }.watchEngines) := rfl

theorem State.watchEngines_lessAnswers (s : State) : s.watchEngines.lessAnswers = s.lessAnswers := by
  simp only [State.watchEngines, State.noteCond_lessAnswers]

/-- The state without its lease. -/
def State.lessLease (s : State) : State := { s with lease := {} }

/-- A write that sets the tally's revocation stores it and clears the window, and nothing else (08 R230). -/
theorem tallyRevocation_spec {rq : Rq} {x : Session} {s : State} (h : Writes rq 0x5000 8 0 (u8 1) x s) :
    ∃ t, exec (.tallyRevocationWrite rq) s = .next t ∧ Answered 2 (writeReq rq 0x5000 8 0 (u8 1)) 0 t ∧ t.cfg 0x5000 8 0 = 1 ∧
      SetsOnly 0x5000 8 0 s t ∧ t.lease = { s.lease with window := [], commonTally := false } ∧
      { t.lessAnswers.lessSettings with lease := s.lease } = s.lessAnswers.lessSettings := by
  obtain ⟨r, hr, ha⟩ := run_writeOf_answers h rfl (by decide) (by decide) (by decide) (effTallyRevocation_set ..) (by simp)
  have hval (i b e : Nat) : r.val i b e = ((s.quiet.heard rq.session).setVal 0x5000 8 0 [1]).val i b e := by
    rw [ha.val]
    simp only [State.val, State.watchEngines_frame]
  have hopt : objKey 0x5400 1 0 ≠ objKey 0x5000 8 0 := by decide
  refine ⟨_, hr, ha.answered, ?_, fun i b e hk => ?_, ?_, ?_⟩
  · exact congrArg (·.headD 0) ((hval ..).trans (State.val_setVal _ _ _ _ _ (by decide) hopt))
  · exact (hval i b e).trans ((State.val_setVal_other _ _ _ _ _ _ _ _ hopt hk).trans (by simp))
  · have hl : r.lease = _ := (congrArg State.lease ha.less :)
    exact hl.trans (by simp [State.lessAnswers])
  · have hless : r.lessAnswers.lessSettings.lessLease = s.quiet.lessAnswers.lessSettings.lessLease :=
      calc r.lessAnswers.lessSettings.lessLease
        _ = (s.quiet.heard rq.session).lessAnswers.lessSettings.lessLease :=
          congrArg (·.lessSettings.lessLease) (ha.less.trans (State.watchEngines_lessAnswers _))
        _ = s.quiet.lessAnswers.lessSettings.lessLease := by rw [State.heard_lessAnswers]
    exact congrArg (fun w => { s.fixed w with lease := s.lease }) hless

/-- What 5010:02 and 5010:06 show does not depend on what was sent last. -/
theorem State.quiet_checkpoint (s : State) (e : EngId) :
    s.quiet.restartCount e = s.restartCount e ∧ s.quiet.checkpointFields e = s.checkpointFields e := by
  have hstale (x : Engine) : s.quiet.staleEngine x = s.staleEngine x := rfl
  have hready (x : Engine) : s.quiet.readyEngine x = s.readyEngine x := rfl
  have hmeas (k n : Nat) : s.quiet.meas k n = s.meas k n := rfl
  have hbehind (i : Image) : s.quiet.behind i = s.behind i := rfl
  simp only [State.restartCount, State.recentRestarts, State.checkpointFields, State.checkpointNow, State.quiet_reads, State.quiet_frame, hstale,
    hready, hmeas, hbehind, and_self]

/-- Settles O24, clause by clause from what each fault, comparison and write leaves. -/
theorem faultsAndTheTallyRevoke : Obligations.FaultsAndTheTallyRevoke := by
  unfold Obligations.FaultsAndTheTallyRevoke
  refine ⟨fun s e => ⟨fun hu hd => ?_, ?_, fun hl => ⟨?_, ?_, ?_⟩, fun f hl hh => ?_, fun f ha hh => ?_⟩,
    fun s loop c f => ⟨fun h hr ht e he hc => ?_, fun h hc => ?_, fun h => ?_, fun rq x h => tallyRevocation_spec h⟩⟩
  · obtain ⟨he, ho, hhold, hstand, hfab⟩ := coreRail_spec (s := s.quiet) hu hd
    refine ⟨_, rfl, ?_, ?_, ?_, hhold, hstand, ho, coreRail_lanes .., hfab⟩
    all_goals exact (congrArg _ he).trans rfl
  · obtain ⟨hst, hareas, hheld, hhold, ho, hfab⟩ := islandLost_spec s.quiet e
    rw [(s.quiet_checkpoint e).1, (s.quiet_checkpoint e).2] at hheld
    refine ⟨_, rfl, ?_⟩
    simp only [State.fixed_reads, State.fixed_frame]
    exact ⟨hst, hareas, hheld, hhold, ho, islandLost_lanes .., hfab⟩
  · exact ⟨_, rfl, by simp [linkFlit, hl]; rfl⟩
  · exact ⟨_, rfl, by simp [linkFlit, hl]; rfl, by simp [linkFlit, hl, State.ctr_count]⟩
  · exact ⟨_, rfl, by simp [linkFlit, hl]; rfl, by simp [linkFlit, hl, State.ctr_count]⟩
  · obtain ⟨he, hhold, -⟩ := linkLoss_spec (s := s.quiet) f hl (.inl hh)
    exact ⟨_, rfl, hhold hh, congrArg Engine.state he, congrArg Engine.cause he, linkLoss_lanes ..⟩
  · have hl : (s.engine e).linked = true := by simp [Engine.linked, ha]
    obtain ⟨he, -, hstand⟩ := linkLoss_spec (s := s.quiet) f hl (.inr ha)
    exact ⟨_, rfl, hstand hh, congrArg Engine.state he, congrArg Engine.cause he, linkLoss_lanes ..⟩
  · obtain ⟨hhold, hadm, heng, hctr, hfab⟩ := compareTally_revokes (s := s.quiet) h hr ht he hc
    exact ⟨_, rfl, hhold, hadm, congrArg Engine.state heng, congrArg Engine.cause heng, hctr, compareTally_lanes .., hfab⟩
  · refine ⟨_, rfl, ?_⟩
    rw [compareTally_records (s := s.quiet) h hc]
    obtain ⟨hhold, -, hwin, hm, hp⟩ := s.quiet.compared_lease c f
    refine ⟨?_, ?_, ?_, fun d hd => ?_, fun hb => ?_, ?_⟩
    · simpa using hhold
    · simp only [State.fixed_frame, State.watchEngines_frame]
      exact hwin
    · simpa using hm
    · simpa using hp d hd
    · simpa using State.compared_ctr (s := s.quiet) hb
    · rw [State.eq_of_lessConds (State.watchEngines_lessConds _)]
      rfl
  · refine ⟨_, rfl, ?_⟩
    rw [compareTally_notEvaluated (s := s.quiet) h]
    exact ⟨rfl, s.ctr_count ..⟩

end Sys2Proof.Machine
end

section
/-! PROOFS. A clear reaches the counters of its group, or the open bins of its lane, and nothing else (12 R320, R323). -/

namespace Sys2Proof.Machine

/-! The operand. -/

theorem beNat_append (b : Bytes) (x : Byte) : beNat (b ++ [x]) = beNat b * 256 + x.toNat := by
  simp [beNat]

/-- A number that fits is read back from its bytes (00 R11). -/
theorem beNat_beBytes {n v : Nat} (h : v < 256 ^ n) : beNat (beBytes n v) = v := by
  induction n generalizing v with
  | zero => simp [beBytes, beNat]; omega
  | succ n ih =>
    rw [beBytes, beNat_append, ih (by omega), BitVec.toNat_ofNat]
    omega

theorem clearObj_split {o : Obj} (ho : findObj 0x6F00 1 = some o) {index el : Nat} (hi : index < 65536) (he : el < 4294967296) :
    o.split (beBytes 2 index ++ beBytes 4 el) = [index, el] := by
  cases (Option.some.inj ho : _ = o)
  have ht : (beBytes 4 el).take 4 = beBytes 4 el := List.take_of_length_le (by simp)
  simp [Obj.split, splitFields, ht, beNat_beBytes, hi, he]

/-! Objects and elements. -/

theorem mem_objsOfIndex {index sub : Nat} {o : Obj} (h : findObj index sub = some o) : o ∈ objsOfIndex index := by
  have hp := List.find?_some h
  simp only [Bool.and_eq_true] at hp
  exact List.mem_filter.mpr ⟨List.mem_of_find?_eq_some h, hp.1⟩

theorem State.elemOf_upTo {s : State} {o : Obj} {n el : Nat} (ho : o.elems = .upTo n) (h : el < n) (hi : o.index ≠ 0x6030) :
    s.elemOf o el = none := by
  simp [State.elemOf, ho, State.sealElem, hi, Nat.not_le.mpr h]

/-- Which elements there are does not depend on when a session was last heard. -/
theorem State.heard_elemOf {s : State} {i : Nat} {x : Session} (h : s.session? i = some x) (hr : x.role ≠ 0) (o : Obj) (el : Nat) :
    (s.heard i).elemOf o el = s.elemOf o el := by
  have hs (k : Nat) : ((s.heard i).session? k).isSome = (s.session? k).isSome := by
    rw [State.heard, State.session_mod _ _ _ _ _ h (fun hc => hr (congrArg Session.role hc))]
    split <;> simp_all
  have hp (l : Nat) : (s.heard i).portOf l = s.portOf l := State.portOf_of_dict (by simp) l
  have hh (l : Nat) : (s.heard i).hasProt l = s.hasProt l := by simp [State.hasProt]
  unfold State.elemOf
  cases o.elems <;> simp [hs, hp, hh, State.sealElem]

/-! The group. -/

theorem tget_tputs_default {α β : Type} [DecidableEq α] (d : α) (key : β → Nat) (gs : List β) (t : Tab α) (k : Nat) :
    tget d (gs.foldl (fun c g => tput d c (key g) d) t) k = if k ∈ gs.map key then d else tget d t k := by
  induction gs generalizing t with
  | nil => simp
  | cons g gs ih =>
    rw [List.foldl_cons, ih, tget_tput]
    by_cases hk : k = key g <;> simp [hk]

/-- A clear of a group sets its counters to 0 and leaves every other (12 R320). -/
theorem State.clearGroup_cnt (s : State) (index el k : Nat) :
    tget {} (s.clearGroup index el).cnt k =
      if k ∈ (groupOf index).map fun g => ctrKey index g.1 g.2 el then {} else tget {} s.cnt k :=
  tget_tputs_default ..

theorem State.clearGroup_ctr {index el : Nat} {g : Nat × Nat} (h : g ∈ groupOf index) (s : State) :
    (s.clearGroup index el).ctr index g.1 g.2 el = 0 := by
  rw [State.ctr, s.clearGroup_cnt, if_pos (List.mem_map_of_mem (f := fun g => ctrKey index g.1 g.2 el) h)]
  rfl

theorem State.clearGroup_ctr_other {index el i b f e : Nat} (h : ∀ g ∈ groupOf index, ctrKey i b f e ≠ ctrKey index g.1 g.2 el) (s : State) :
    (s.clearGroup index el).ctr i b f e = s.ctr i b f e := by
  rw [State.ctr, s.clearGroup_cnt, if_neg]
  · rfl
  · intro hm
    obtain ⟨g, hg, hk⟩ := List.mem_map.mp hm
    exact h g hg hk.symm

/-- A cleared group has no carry and no Restarted bit (12 R320). -/
theorem State.clearGroup_status (s : State) (index el : Nat) : (s.clearGroup index el).groupStatus index el = 0 := by
  have hc : ∀ g ∈ groupOf index, (tget {} (s.clearGroup index el).cnt (ctrKey index g.1 g.2 el)).carry = false := fun g hg => by
    rw [s.clearGroup_cnt, if_pos (List.mem_map_of_mem (f := fun g => ctrKey index g.1 g.2 el) hg)]
  have hr : tget false (s.clearGroup index el).restarted (objKey index 0 el) = false := by simp [State.clearGroup]
  have hf : ((groupOf index).filterMap fun g =>
      let i := if g.2 = 0 then g.1 else g.2
      if (tget {} (s.clearGroup index el).cnt (ctrKey index g.1 g.2 el)).carry && decide (1 ≤ i ∧ i ≤ 13) then some i else none) = [] :=
    List.filterMap_eq_nil_iff.mpr fun g hg => by
      simp only [hc g hg, Bool.false_and, Bool.false_eq_true, if_false]
  simp only [State.groupStatus, hf, hr]
  rfl

theorem State.groupStatus_of_eq {s t : State} (hc : t.cnt = s.cnt) (hr : t.restarted = s.restarted) (index el : Nat) :
    t.groupStatus index el = s.groupStatus index el := by
  simp only [State.groupStatus, hc, hr]

/-- The state without its Restarted bits. -/
def State.lessRestarted (s : State) : State := { s with restarted := [] }

/-- The clear of the counters of a cipher engine, 5F00, clears its work too. -/
def State.clearCipher (s : State) (index el : Nat) : State :=
  if index = 0x5F00 then (if el = 0 then { s with mgmt.cipher0 := {} } else { s with mgmt.cipher1 := {} }) else s

theorem State.clearCipher_keep (s : State) (index el : Nat) :
    (s.clearCipher index el).lessAnswers = s.lessAnswers ∧ (s.clearCipher index el).cnt = s.cnt ∧
    (s.clearCipher index el).mgmt.sessions = s.mgmt.sessions := by
  unfold State.clearCipher
  repeat' split
  all_goals exact ⟨rfl, rfl, rfl⟩

theorem State.count_lessAnswers (s : State) (i b f e : Nat) : (s.count i b f e).lessAnswers = s.lessAnswers := rfl

/-- The state without the bins of its lanes and its Restarted bits. -/
def State.lessBins (s : State) : State := { s with pm.near := [], pm.far := [], restarted := [] }

theorem State.clearBins_lessBins (s : State) (l : LaneId) (index el : Nat) :
    (((s.clearMon (.near l)).clearMon (.far l)).clearGroup index el).lessAnswers.lessBins = s.lessAnswers.lessBins := by
  simp only [State.clearMon, State.modMon, State.clearGroup, State.lessAnswers, State.lessBins]

theorem State.clearGroup_lessRestarted (s : State) (index el : Nat) :
    (s.clearGroup index el).lessAnswers.lessRestarted = s.lessAnswers.lessRestarted := rfl

/-! The effect of the write. -/

/-- An element that some object of an index has can be aimed at. -/
theorem State.anyElem {s : State} {index el : Nat} {p : Obj → Bool} {o : Obj} (hm : o ∈ objsOfIndex index) (hp : p o = true)
    (he : s.elemOf o el = none) : (((objsOfIndex index).filter p).any fun o => (s.elemOf o el).isNone) = true :=
  List.any_eq_true.mpr ⟨o, List.mem_filter.mpr ⟨hm, hp⟩, Option.isNone_iff_eq_none.mpr he⟩

/-- The clear of a group of counters (12 R320). -/
theorem effClear_group {s : State} {index el : Nat} (hr : s.reachable index = true) (hm : index ≠ 0x3840)
    (hb : index ∉ [0x6010, 0x6011, 0x6020, 0x6021]) (ho : ∃ o ∈ objsOfIndex index, o.ctrs ≠ [] ∧ s.elemOf o el = none)
    (hc : s.coldTarget index el = none) (x : Session) :
    effClear x [index, el] s = ok ((s.clearCipher index el).clearGroup index el) := by
  obtain ⟨o, hmem, hctrs, helem⟩ := ho
  have hbins : [0x6010, 0x6011, 0x6020, 0x6021].contains index = false := by simpa using hb
  have hgroup : (groupOf index).isEmpty = false := by
    obtain ⟨f, hf⟩ := List.exists_mem_of_ne_nil _ hctrs
    refine List.isEmpty_eq_false_iff.mpr (List.ne_nil_of_mem (a := (o.sub, f)) ?_)
    exact List.mem_flatMap.mpr ⟨o, hmem, List.mem_map_of_mem hf⟩
  have hany : (((objsOfIndex index).filter fun o => false || !o.ctrs.isEmpty).any fun o => (s.elemOf o el).isNone) = true :=
    State.anyElem hmem (by simpa using hctrs) helem
  have hent : entitiesAt index el = [] := by
    simp only [List.mem_cons, List.not_mem_nil, or_false, not_or] at hb
    simp [entitiesAt, hb]
  simp only [effClear, List.headD_cons, List.getD_cons_succ, List.getD_cons_zero, hbins, hr, hgroup, hany, hc, hent, hm]
  rfl

/-- A clear aimed at an engine whose core is off is answered STATE, and the access counts at both ends (01 R22; 13 R333; log entry 162). -/
theorem effClear_cold {s : State} {e : EngId} (hr : s.reachable 0x4820 = true) (hc : (s.engine e).state.coreOn = false) (x : Session) :
    effClear x [0x4820, e] s =
      .done ((s.count 0x8200 2 4 0).count 0x8200 3 3 (8 + e)) (naming stState 0x5010 1 e) id := by
  have hany : (((objsOfIndex 0x4820).filter fun o => false || !o.ctrs.isEmpty).any fun o => (s.elemOf o e).isNone) = true :=
    State.anyElem (mem_objsOfIndex (sub := 1) rfl) rfl (State.elemOf_upTo (n := 2) rfl e.isLt (by decide))
  have heng : engOf e = e := by fin_cases e <;> rfl
  have hcold : s.coldTarget 0x4820 e = some e := by
    simp only [State.coldTarget, heng, hc, e.isLt, and_self, if_true]
  have hbins : [0x6010, 0x6011, 0x6020, 0x6021].contains 0x4820 = false := by decide
  have hgroup : (groupOf 0x4820).isEmpty = false := by decide
  simp only [effClear, List.headD_cons, List.getD_cons_succ, List.getD_cons_zero, hbins, hr, hgroup, hany, hcold]
  rfl

/-- The clear of a lane's bins clears the open bins of both its ends (12 R323). -/
theorem effClear_bins {s : State} {l : LaneId} (hr : s.reachable 0x6010 = true) (x : Session) :
    effClear x [0x6010, l] s = ok (((s.clearMon (.near l)).clearMon (.far l)).clearGroup 0x6010 l) := by
  have hany : (((objsOfIndex 0x6010).filter fun o => true || !o.ctrs.isEmpty).any fun o => (s.elemOf o l).isNone) = true :=
    State.anyElem (mem_objsOfIndex (sub := 1) rfl) rfl (State.elemOf_upTo (n := 48) rfl l.isLt (by decide))
  have hlane : laneOf l = l := by simp [laneOf]
  have hcold : s.coldTarget 0x6010 l = none := by simp [State.coldTarget]
  have hent : entitiesAt 0x6010 l = [.near l, .far l] := by simp [entitiesAt, hlane]
  have hbins : [0x6010, 0x6011, 0x6020, 0x6021].contains 0x6010 = true := by decide
  simp only [effClear, List.headD_cons, List.getD_cons_succ, List.getD_cons_zero, hbins, hr, hany, hcold, hent]
  rfl

theorem AnswersWith.restarted {q : Req} {status : Nat} {u r : State} (h : AnswersWith q status u r) : r.restarted = u.restarted :=
  (congrArg State.restarted h.less :)

theorem AnswersWith.mon {q : Req} {status : Nat} {u r : State} (h : AnswersWith q status u r) (e : Entity) : r.mon e = u.mon e := by
  have hp : r.pm = u.pm := (congrArg State.pm h.less :)
  simp only [State.mon, hp]

section

variable {rq : Rq} {x : Session} {s : State} {index el : Nat}

theorem State.heard_reachable (s : State) (i index : Nat) : (s.heard i).reachable index = s.reachable index := by
  simp [State.reachable]

/-- A write of 6F00:01 where its effect applies (12 R320). -/
theorem run_clear_answers (hi : index < 65536) (he : el < 4294967296) (h : Writes rq 0x6F00 1 0 (beBytes 2 index ++ beBytes 4 el) x s)
    {u : State} {a : Ans} (heff : effClear x [index, el] (s.quiet.heard rq.session) = .done u a id)
    (hm : u.mgmt.sessions = (s.quiet.heard rq.session).mgmt.sessions) :
    ∃ r, exec (.clearCounters rq index el) s = .next (s.fixed r) ∧
      AnswersWith (writeReq rq 0x6F00 1 0 (beBytes 2 index ++ beBytes 4 el)) a.status u r :=
  run_writeOf_answers h rfl (by decide) (by decide) (by decide) ((congrArg (effClear x · _) (clearObj_split rfl hi he)).trans heff) hm

/-- A group of counters is cleared (12 R320). -/
theorem clearCounters_group (hi : index < 65536) (he : el < 4294967296) (h : Writes rq 0x6F00 1 0 (beBytes 2 index ++ beBytes 4 el) x s)
    (hr : s.reachable index = true) (hm : index ≠ 0x3840) (hb : index ∉ [0x6010, 0x6011, 0x6020, 0x6021])
    (ho : ∃ o ∈ objsOfIndex index, o.ctrs ≠ [] ∧ s.elemOf o el = none) (hc : s.coldTarget index el = none) :
    ∃ t, exec (.clearCounters rq index el) s = .next t ∧ Answered 2 (writeReq rq 0x6F00 1 0 (beBytes 2 index ++ beBytes 4 el)) 0 t ∧
      (∀ g ∈ groupOf index, t.ctr index g.1 g.2 el = 0) ∧ t.groupStatus index el = 0 ∧
      (∀ i b f e, (∀ g ∈ groupOf index, ctrKey i b f e ≠ ctrKey index g.1 g.2 el) → t.ctr i b f e = s.ctr i b f e) ∧
      { t.lessAnswers with restarted := s.restarted } = s.lessAnswers := by
  have ⟨⟨_, hx, hrole, _⟩, _⟩ := h
  obtain ⟨o, hmem, hctrs, helem⟩ := ho
  obtain ⟨hless, hcnt, hsessions⟩ := (s.quiet.heard rq.session).clearCipher_keep index el
  have heff := effClear_group (s := s.quiet.heard rq.session) ((s.quiet.heard_reachable _ index).trans hr) hm hb
    ⟨o, hmem, hctrs, (State.heard_elemOf (s := s.quiet) hx hrole o el).trans helem⟩ (by simpa [State.coldTarget] using hc) x
  obtain ⟨r, hrun, ha⟩ := run_clear_answers hi he h heff hsessions
  refine ⟨_, hrun, ha.answered, fun g hg => ?_, ?_, fun i b f e hk => ?_, ?_⟩
  · exact (ha.ctr ..).trans (State.clearGroup_ctr hg _)
  · exact (State.groupStatus_of_eq ha.cnt ha.restarted ..).trans (State.clearGroup_status ..)
  · have hu : ((s.quiet.heard rq.session).clearCipher index el).ctr i b f e = s.ctr i b f e := by simp [State.ctr, hcnt]
    exact (ha.ctr ..).trans ((State.clearGroup_ctr_other hk _).trans hu)
  · have hrest : r.lessAnswers.lessRestarted = s.quiet.lessAnswers.lessRestarted :=
      calc r.lessAnswers.lessRestarted
        _ = (((s.quiet.heard rq.session).clearCipher index el).clearGroup index el).lessAnswers.lessRestarted := by rw [ha.less]
        _ = s.quiet.lessAnswers.lessRestarted := by rw [State.clearGroup_lessRestarted, hless, State.heard_lessAnswers]
    exact congrArg (fun w => { s.fixed w with restarted := s.restarted }) hrest

/-- A clear aimed at an engine whose core is off clears nothing (01 R22; log entry 162). -/
theorem clearCounters_cold {e : EngId} (h : Writes rq 0x6F00 1 0 (beBytes 2 0x4820 ++ beBytes 4 e) x s) (hr : s.reachable 0x4820 = true)
    (hoff : (s.engine e).state.coreOn = false) :
    ∃ t, exec (.clearCounters rq 0x4820 e) s = .next t ∧ Answered 2 (writeReq rq 0x6F00 1 0 (beBytes 2 0x4820 ++ beBytes 4 e)) 2 t ∧
      t.ctr 0x8200 2 4 0 = (s.ctr 0x8200 2 4 0 + 1) % 4294967296 ∧ t.ctr 0x8200 3 3 (8 + e) = (s.ctr 0x8200 3 3 (8 + e) + 1) % 4294967296 ∧
      (∀ g ∈ groupOf 0x4820, t.ctr 0x4820 g.1 g.2 e = s.ctr 0x4820 g.1 g.2 e) ∧ t.lessAnswers = s.lessAnswers := by
  have heff := effClear_cold (s := s.quiet.heard rq.session) ((s.quiet.heard_reachable _ 0x4820).trans hr) (by simpa using hoff) x
  obtain ⟨r, hrun, ha⟩ := run_clear_answers (by decide) (by omega) h heff (by simp)
  have hne : ctrKey 0x8200 2 4 0 ≠ ctrKey 0x8200 3 3 (8 + e) := by unfold ctrKey; omega
  have hgroup : ∀ g ∈ groupOf 0x4820, g.1 < 256 ∧ g.2 < 64 := by decide
  refine ⟨_, hrun, ha.answered, ?_, ?_, fun g hg => ?_, ?_⟩
  · exact (ha.ctr ..).trans ((State.ctr_count_of_ne hne _).trans ((State.ctr_count ..).trans (by simp)))
  · refine (ha.ctr ..).trans ((State.ctr_count ..).trans ?_)
    rw [State.ctr_count_of_ne hne.symm]
    simp
  · obtain ⟨h1, h2⟩ := hgroup g hg
    have hk (b f i : Nat) (hi : i < 4294967296) : ctrKey 0x4820 g.1 g.2 e ≠ ctrKey 0x8200 b f i := by unfold ctrKey; omega
    refine (ha.ctr ..).trans ((State.ctr_count_of_ne (hk 3 3 _ (by omega)) _).trans ?_)
    exact (State.ctr_count_of_ne (hk 2 4 _ (by omega)) _).trans (by simp)
  · have hl : r.lessAnswers = s.quiet.lessAnswers := by rw [ha.less, State.count_lessAnswers, State.count_lessAnswers, State.heard_lessAnswers]
    exact congrArg s.fixed hl

/-- The open bins of a lane are cleared (12 R323). -/
theorem clearCounters_bins {l : LaneId} (h : Writes rq 0x6F00 1 0 (beBytes 2 0x6010 ++ beBytes 4 l) x s) (hr : s.reachable 0x6010 = true) :
    ∃ t, exec (.clearCounters rq 0x6010 l) s = .next t ∧ Answered 2 (writeReq rq 0x6F00 1 0 (beBytes 2 0x6010 ++ beBytes 4 l)) 0 t ∧
      t.mon (.near l) = (s.mon (.near l)).clear ∧ (∀ k : LaneId, k ≠ l → t.mon (.near k) = s.mon (.near k)) ∧
      { t.lessAnswers with pm.near := s.pm.near, pm.far := s.pm.far, restarted := s.restarted } = s.lessAnswers := by
  have heff := effClear_bins (s := s.quiet.heard rq.session) (l := l) ((s.quiet.heard_reachable _ 0x6010).trans hr) x
  obtain ⟨r, hrun, ha⟩ := run_clear_answers (by decide) (by omega) h heff rfl
  have hmon (k : LaneId) : r.mon (.near k) = if k = l then (s.mon (.near k)).clear else s.mon (.near k) := by
    rw [ha.mon]
    show tget {} (tmod {} (s.quiet.heard rq.session).pm.near l Mon.clear) k = _
    rw [tget_tmod]
    split <;> simp_all [State.mon, Fin.val_inj]
  refine ⟨_, hrun, ha.answered, ?_, fun k hk => ?_, ?_⟩
  · exact (hmon l).trans (if_pos rfl)
  · exact (hmon k).trans (if_neg hk)
  · have hl : r.lessAnswers.lessBins = s.quiet.lessAnswers.lessBins := by
      rw [ha.less, State.clearBins_lessBins, State.heard_lessAnswers]
    exact congrArg (fun w => { s.fixed w with pm.near := s.pm.near, pm.far := s.pm.far, restarted := s.restarted }) hl

end

/-- Settles O45: the effect of the write clears a group or the bins of a lane, or counts a refused access, and the answer adds nothing. -/
theorem countersAreCleared : Obligations.CountersAreCleared := by
  unfold Obligations.CountersAreCleared
  intro s rq x index el hi he h hr
  refine ⟨fun hm hb ho hc => clearCounters_group hi he h hr hm hb ho hc, fun e hidx hel hoff => ?_, fun hidx l hel => ?_⟩
  · subst hidx hel
    exact clearCounters_cold h hr hoff
  · subst hidx hel
    exact clearCounters_bins h hr

end Sys2Proof.Machine
end

section
/-! PROOFS. What a supervisor restart closes, and the traffic that goes on through it (01 R16; 15 R402). -/

namespace Sys2Proof.Machine

/-! Sessions. -/

theorem tdel_eq_filter {α : Type} (t : Tab α) (n : Nat) : tdel t n = t.filter fun e => e.1 != n := by
  induction t with
  | nil => rfl
  | cons e t ih =>
    obtain ⟨k, v⟩ := e
    by_cases h : n = k
    · subst h; simp [tdel, ih]
    · have hk : k ≠ n := fun h' => h h'.symm
      simp [tdel, ih, h, hk]

@[simp] theorem State.dropTransfer_mgmt (s : State) (x : Transfer) : (s.dropTransfer x).mgmt = s.mgmt := by
  simp only [State.dropTransfer]
  split <;> simp

@[simp] theorem State.dropTransfers_sessions (s : State) (i : Nat) : (s.dropTransfers i).mgmt.sessions = s.mgmt.sessions := by
  simp only [State.dropTransfers]
  exact State.each_keep (fun s => s.mgmt.sessions) _ _ (fun x t => by simp) s

/-- Closing a session takes it out of the table (14 R355). -/
theorem State.closeSess_sessions (s : State) (i c : Nat) : (s.closeSess i c).mgmt.sessions = s.mgmt.sessions.filter fun e => e.1 != i := by
  simp only [State.closeSess]
  split
  · simp [tdel_eq_filter]
  next h =>
    refine (List.filter_eq_self.mpr fun e he => ?_).symm
    simp only [Bool.not_eq_true, List.any_eq_false] at h
    simpa using h e he

theorem State.eachClose_sessions (ids : List Nat) (c : Nat) (s : State) :
    (s.each ids fun i s => s.closeSess i c).mgmt.sessions = s.mgmt.sessions.filter fun e => !ids.contains e.1 := by
  simp only [State.each]
  induction ids generalizing s with
  | nil => simp
  | cons i ids ih =>
    rw [List.foldl_cons, ih, State.closeSess_sessions, List.filter_filter]
    refine List.filter_congr fun e _ => ?_
    by_cases h : e.1 = i <;> simp [h]

/-- Closing every session leaves none (14 R355). -/
@[simp] theorem State.closeAll_sessions (s : State) (c : Nat) : (s.closeAll c).mgmt.sessions = [] := by
  rw [State.closeAll, State.eachClose_sessions, List.filter_eq_nil_iff]
  intro e he
  have hm : e.1 ∈ s.mgmt.sessions.map Prod.fst := List.mem_map_of_mem he
  simp [hm]

@[simp] theorem State.closeAll_cnt (s : State) (c : Nat) : (s.closeAll c).cnt = s.cnt := by
  simp only [State.closeAll]
  refine State.each_keep (fun s => s.cnt) _ _ (fun i t => ?_) s
  simp only [State.closeSess]
  split
  · rw [State.audit_cnt _ (by simp)]; simp
  · rfl

/-! The traffic. -/

/-- What goes on through a supervisor restart, and what the restart keeps of the counters and of what is sent (01 R16). -/
structure Traffic where
  active : List Entry
  lease : Lease
  lanes : Tab Lane
  sealing : Sealing
  tim : Timing
  tod : Tod
  dict : Tab (List Nat)
  cnt : Tab Ctr
  out : List Output

def State.traffic (s : State) : Traffic :=
  ⟨s.fab.active, s.lease, s.lanes, s.sealing, s.tim, s.tod, s.persist.dict, s.cnt, s.out⟩

/-- The supervisor is down since a restart of a cause, without a session, a handshake or a request, and the traffic goes on (01 R16). -/
structure State.Restarted (cause : Nat) (going : Traffic) (s : State) : Prop where
  up : s.sup.up = false
  cause : s.sup.lastCause = cause
  sessions : s.mgmt.sessions = []
  handshakes : s.mgmt.handshakes = []
  flight : s.mgmt.flight = []
  traffic : s.traffic = going

/-! The parts of a restart. -/

theorem State.modMon_frame (s : State) (e : Entity) (f : Mon → Mon) :
    (s.modMon e f).traffic = s.traffic ∧ (s.modMon e f).sup = s.sup ∧ (s.modMon e f).mgmt = s.mgmt := by
  cases e <;> exact ⟨rfl, rfl, rfl⟩

theorem State.dropFlash_frame (s : State) : s.dropFlash.traffic = s.traffic ∧ s.dropFlash.sup = s.sup ∧ s.dropFlash.mgmt = s.mgmt := by
  unfold State.dropFlash
  cases s.persist.committing <;> simp only [Bool.false_eq_true, if_false, if_true, State.recommit] <;> split <;> exact ⟨rfl, rfl, rfl⟩

theorem State.checkSealed_frame (s : State) : s.checkSealed.traffic = s.traffic ∧ s.checkSealed.sup = s.sup ∧ s.checkSealed.mgmt = s.mgmt := by
  simp only [State.checkSealed]
  repeat' split
  all_goals exact ⟨rfl, rfl, rfl⟩

theorem State.writeHeader_frame (s : State) (f : Header → Header) :
    (s.writeHeader f).traffic = s.traffic ∧ (s.writeHeader f).sup = s.sup ∧ (s.writeHeader f).mgmt = s.mgmt := by
  simp only [State.writeHeader, State.putHeader, State.countErase, State.badArea]
  repeat' split
  all_goals simp [State.traffic]

theorem State.audit_traffic (s : State) {r : AuditRec} (h : r.kind ≠ 4 ∧ r.kind ≠ 6 ∧ r.kind ≠ 7) : (s.audit r).traffic = s.traffic := by
  simp [State.traffic, s.audit_cnt h]

theorem State.auditBoot_frame (s : State) (slot result : Nat) :
    (s.auditBoot slot result).traffic = s.traffic ∧ (s.auditBoot slot result).sup.up = s.sup.up ∧
    (s.auditBoot slot result).sup.lastCause = s.sup.lastCause ∧ (s.auditBoot slot result).mgmt = s.mgmt := by
  simp only [State.auditBoot]
  split
  · exact ⟨rfl, rfl, rfl, rfl⟩
  · exact ⟨s.audit_traffic (by simp [moduleRec]), by simp, by simp, by simp⟩

namespace State.Restarted

variable {c : Nat} {T : Traffic} {s t : State}

theorem of_eq (h : s.Restarted c T) (ht : t.traffic = s.traffic) (hup : t.sup.up = s.sup.up) (hc : t.sup.lastCause = s.sup.lastCause)
    (hm : t.mgmt = s.mgmt) : t.Restarted c T :=
  ⟨hup.trans h.up, hc.trans h.cause, hm ▸ h.sessions, hm ▸ h.handshakes, hm ▸ h.flight, ht.trans h.traffic⟩

theorem auditBoot (h : s.Restarted c T) (slot result : Nat) : (s.auditBoot slot result).Restarted c T := by
  obtain ⟨ht, hup, hc, hm⟩ := s.auditBoot_frame slot result
  exact h.of_eq ht hup hc hm

/-- Entering recovery leaves the traffic alone (15 R403). -/
theorem recovery (h : s.Restarted c T) : s.recovery.Restarted c T :=
  auditBoot (s := { s with sec.running := 255, sup.state := 3, sup.up := false, sup.restarting := false })
    ⟨rfl, h.cause, h.sessions, h.handshakes, h.flight, h.traffic⟩ 255 3

theorem writeHeader (h : s.Restarted c T) (f : Header → Header) : (s.writeHeader f).Restarted c T := by
  obtain ⟨ht, hs, hm⟩ := s.writeHeader_frame f
  exact h.of_eq ht (congrArg Sup.up hs) (congrArg Sup.lastCause hs) hm

theorem ite {b : Bool} (hs : s.Restarted c T) (ht : t.Restarted c T) : (if b then s else t).Restarted c T := by
  cases b <;> assumption

theorem handedOff (h : s.Restarted c T) (slot at_ : Nat) : ({ s with sec.running := slot, sup.handoffAt := at_ } : State).Restarted c T :=
  ⟨h.up, h.cause, h.sessions, h.handshakes, h.flight, h.traffic⟩

/-- The boot ROM's choice of a slot leaves the traffic alone (15 R400). -/
theorem bootSlot (h : s.Restarted c T) : s.bootSlot.Restarted c T := by
  simp only [State.bootSlot]
  split
  · exact recovery (ite (h.writeHeader _) h)
  next =>
    have hclean (b : Bool) (f : Header → Header) : (if b then s.writeHeader f else s).Restarted c T := ite (h.writeHeader f) h
    exact auditBoot (handedOff (ite ((hclean ..).writeHeader _) (hclean ..)) ..) ..

theorem checkSealed (h : s.Restarted c T) : s.checkSealed.Restarted c T := by
  obtain ⟨ht, hs, hm⟩ := s.checkSealed_frame
  exact h.of_eq ht (congrArg Sup.up hs) (congrArg Sup.lastCause hs) hm

theorem eachPair (h : s.Restarted c T) (ps : List Nat) (f : Pair → Pair) : (s.each ps fun p s => s.modPair p f).Restarted c T := by
  have hk {β : Type} (π : State → β) (hπ : ∀ s p, π (s.modPair p f) = π s) := State.each_keep π ps (fun p s => s.modPair p f) fun p s => hπ s p
  exact h.of_eq (hk State.traffic (fun _ _ => rfl) s) (hk (·.sup.up) (fun _ _ => rfl) s) (hk (·.sup.lastCause) (fun _ _ => rfl) s)
    (hk State.mgmt (fun _ _ => rfl) s)

end State.Restarted

/-- Until its firmware starts afresh a supervisor finishes or gives up what it does, and the sessions are closed (01 R16). -/
def State.cutOff (s : State) : State := (((s.count 0x8000 1 3 0).auditObj 0x8000 1 0).closeAll 7).discardFlight.dropFlash

theorem State.cutOff_spec (s : State) : s.cutOff.traffic = (s.count 0x8000 1 3 0).traffic ∧ s.cutOff.mgmt.sessions = [] := by
  obtain ⟨ht, -, hm⟩ := ((((s.count 0x8000 1 3 0).auditObj 0x8000 1 0).closeAll 7).discardFlight).dropFlash_frame
  refine ⟨ht.trans ?_, (congrArg Mgmt.sessions hm).trans (State.closeAll_sessions _ 7)⟩
  have hc : ((s.count 0x8000 1 3 0).auditObj 0x8000 1 0).cnt = (s.count 0x8000 1 3 0).cnt := State.audit_cnt _ (by simp [moduleRec])
  simp [State.traffic, State.discardFlight, State.undoFlight, hc]

/-- A supervisor restart of a powered and seated module (01 R16). -/
theorem State.supRestart_restarted {s : State} (hr : s.power.supRail = true) (hs : s.power.seated = true) (c : Nat) :
    (s.supRestart c).Restarted c (s.count 0x8000 1 3 0).traffic := by
  obtain ⟨htraffic, hsessions⟩ := s.cutOff_spec
  have hmon {β : Type} (π : State → β) (hπ : ∀ t e f, π (t.modMon e f) = π t) (es : List Entity) (f : Entity → Mon → Mon) (t : State) :
      π (t.each es fun e u => u.modMon e (f e)) = π t := State.each_keep π es _ (fun e u => hπ u e (f e)) t
  simp only [State.supRestart, hr, hs, Bool.not_true, Bool.or_self, Bool.false_eq_true, if_false]
  refine .bootSlot (.checkSealed (.eachPair ?_ _ _))
  refine ⟨rfl, rfl, ?_, rfl, rfl, ?_⟩
  · exact (hmon (·.mgmt.sessions) (fun t e f => congrArg Mgmt.sessions (t.modMon_frame e f).2.2) _ _ _).trans hsessions
  · exact (hmon State.traffic (fun t e f => (t.modMon_frame e f).1) _ _ _).trans htraffic

/-- The traffic without the counters and what is sent. -/
def Traffic.flow (t : Traffic) : Traffic := { t with cnt := [], out := [] }

/-- What a supervisor restart closes, and what goes on: `w` is the state from which it begins, with the traffic of `s` (01 R16). -/
theorem State.Restarted.down {c : Nat} {s w u : State} (h : u.Restarted c (w.count 0x8000 1 3 0).traffic)
    (hw : w.traffic.flow = s.traffic.flow) (hc : w.ctr 0x8000 1 3 0 = s.ctr 0x8000 1 3 0) :
    u.sup.up = false ∧ u.sup.lastCause = c ∧ u.mgmt.sessions = [] ∧ u.mgmt.handshakes = [] ∧ u.mgmt.flight = [] ∧
    u.fab.active = s.fab.active ∧ u.lease = s.lease ∧ u.lanes = s.lanes ∧ u.sealing = s.sealing ∧ u.tim = s.tim ∧ u.tod = s.tod ∧
    u.persist.dict = s.persist.dict ∧ u.ctr 0x8000 1 3 0 = (s.ctr 0x8000 1 3 0 + 1) % 4294967296 := by
  have hf : u.traffic.flow = s.traffic.flow := (congrArg Traffic.flow h.traffic).trans hw
  have hcnt : u.cnt = (w.count 0x8000 1 3 0).cnt := congrArg Traffic.cnt h.traffic
  refine ⟨h.up, h.cause, h.sessions, h.handshakes, h.flight, congrArg Traffic.active hf, congrArg Traffic.lease hf, congrArg Traffic.lanes hf,
    congrArg Traffic.sealing hf, congrArg Traffic.tim hf, congrArg Traffic.tod hf, congrArg Traffic.dict hf, ?_⟩
  rw [← hc, ← State.ctr_count, State.ctr, State.ctr, hcnt]

theorem State.Restarted.ctr {c : Nat} {w u : State} (h : u.Restarted c (w.count 0x8000 1 3 0).traffic) {i b f e : Nat}
    (hk : ctrKey i b f e ≠ ctrKey 0x8000 1 3 0) : u.ctr i b f e = w.ctr i b f e := by
  have hcnt : u.cnt = (w.count 0x8000 1 3 0).cnt := congrArg Traffic.cnt h.traffic
  rw [← State.ctr_count_of_ne hk w, State.ctr, State.ctr, hcnt]

/-! The end of a restart, and the port die (01 R16 to R18). -/

/-- What runs beside the requests: the supervisor's own state, the pages, the lease, the lanes and the seal. -/
def State.running (s : State) : Sup × Fabric × Lease × Tab Lane × Sealing := (s.sup, s.fab, s.lease, s.lanes, s.sealing)

theorem State.running_ext {s : State} {u : Sup} {f : Fabric} {e : Lease} {t : Tab Lane} {g : Sealing} (h : s.running = (u, f, e, t, g)) :
    s.sup = u ∧ s.fab = f ∧ s.lease = e ∧ s.lanes = t ∧ s.sealing = g := by
  simpa [State.running] using h

theorem State.clearGone_running (s : State) : s.clearGone.running = s.running := by
  simp only [State.clearGone]
  exact State.each_keep State.running _ _ (fun a t => by simp [State.running]) s

theorem State.eachCond_running {α : Type} (s : State) (as : List α) (c : α → AlarmCond) (p : Bool) :
    (s.each as fun a s => s.noteCond (c a) p).running = s.running :=
  State.each_keep State.running _ _ (fun a t => by simp [State.running]) s

theorem State.eachWtr_running (s : State) (ps : List Nat) : (s.each ps fun p s => s.restartWtr p).running = s.running :=
  State.each_keep State.running ps (fun p s => s.restartWtr p) (fun _ _ => rfl) s

theorem State.markBins_running (s : State) (flags : Nat) : (s.markBins flags).running = s.running := rfl

theorem State.orphanStreams_running (s : State) : s.orphanStreams.running = s.running := by
  simp only [State.orphanStreams]
  refine State.each_keep State.running _ _ (fun k t => ?_) s
  rfl

theorem State.revertPairs_running (s : State) : s.revertPairs.running = s.running := by
  simp only [State.revertPairs]
  exact State.each_keep State.running _ _ (fun p t => by simp [State.running, State.modPair]) s

theorem State.journal_running (s : State) (kind : Nat) (e : Entry) (n a : Nat) : (s.journal kind e n a).running = s.running := by
  simp only [State.journal]
  split <;> rfl

theorem State.lateBootRec_frame (s : State) :
    s.lateBootRec.sup = { s.sup with bootRec := none } ∧ s.lateBootRec.fab = s.fab ∧ s.lateBootRec.lease = s.lease ∧
    s.lateBootRec.lanes = s.lanes ∧ s.lateBootRec.sealing = s.sealing ∧ s.lateBootRec.edit = s.edit := by
  unfold State.lateBootRec
  split
  · simp
  next h =>
    refine ⟨?_, rfl, rfl, rfl, rfl, rfl⟩
    rw [← h]

/-- With no activation armed the shadow page is the active one again (01 R16). -/
theorem State.rebuildShadow_running (s : State) :
    s.rebuildShadow.running =
      (s.sup, if s.edit.armed.isSome then s.fab else { s.fab with shadow := s.fab.active }, s.lease, s.lanes, s.sealing) := by
  simp only [State.rebuildShadow]
  split
  · rfl
  · rw [State.orphanStreams_running]
    have hj : (if s.fab.shadow = s.fab.active then s else s.journal 4 {} 0 0).revertPairs.running = s.running := by
      rw [State.revertPairs_running]
      split
      · rfl
      · exact s.journal_running ..
    exact congrArg (fun r : Sup × Fabric × Lease × Tab Lane × Sealing => (r.1, { r.2.1 with shadow := r.2.1.active }, r.2.2)) hj

/-- The end of a supervisor restart (01 R16). -/
theorem restartEnd_running {s : State} (h : s.sup.restarting = true) :
    (restartEnd s).running =
      ({ s.sup with up := true, restarting := false, state := 1, parked := [], bootRec := none },
        if s.edit.armed.isSome then s.fab else { s.fab with shadow := s.fab.active }, s.lease, s.lanes, s.sealing) := by
  obtain ⟨hsup, hfab, hlease, hlanes, hseal, hedit⟩ :=
    State.lateBootRec_frame { s with sup.up := true, sup.restarting := false, sup.state := 1, sup.parked := [] }
  simp only [restartEnd, h, if_true, State.clearGone_running, State.eachCond_running, State.eachWtr_running, State.markBins_running,
    State.rebuildShadow_running, State.heardAgain, hsup, hfab, hlease, hlanes, hseal, hedit]

theorem State.watchTiming_frame (s : State) :
    s.watchTiming.power = s.power ∧ s.watchTiming.sup = s.sup ∧ s.watchTiming.lanes = s.lanes ∧ s.watchTiming.fab = s.fab ∧
    s.watchTiming.sealing = s.sealing ∧ s.watchTiming.sec = s.sec := by
  simp [State.watchTiming]

/-- A fault of the port die fails the engines whose links run, and loses what the die held (01 R18). -/
theorem portFault_spec {s : State} (h : s.power.portRail = true) :
    (portFault s).power = { s.power with portFault := true } ∧ (portFault s).sup = s.sup ∧
    (portFault s).lanes = [] ∧ (portFault s).fab.active = s.fab.active ∧ (portFault s).fab.shadow = s.fab.shadow ∧
    (portFault s).sealing.slots = (tmap {} s.sealing.slots fun _ x => { mark := x.mark }) ∧ (portFault s).sealing.kwk = s.sealing.kwk ∧
    (portFault s).sec = s.sec := by
  have hfail (t : State) (b : Bool) (e : EngId) : (if b then t.failEngine e 7 else t).power = t.power ∧
      (if b then t.failEngine e 7 else t).sup = t.sup ∧ (if b then t.failEngine e 7 else t).lanes = t.lanes ∧
      (if b then t.failEngine e 7 else t).fab = t.fab ∧ (if b then t.failEngine e 7 else t).sealing = t.sealing ∧
      (if b then t.failEngine e 7 else t).sec = t.sec := by cases b <;> simp
  simp only [portFault, h, Bool.not_true, Bool.false_eq_true, if_false, State.watchEngines_frame, State.watchEngines_lanes, hfail,
    State.watchTiming_frame]
  exact ⟨rfl, rfl, rfl, rfl, rfl, rfl, rfl, rfl⟩

/-- What every mapped value has, what is read of the table has, where an unlisted key's does too. -/
theorem tget_tmap_of {α : Type} [DecidableEq α] {P : α → Prop} {d : α} (hd : P d) {f : Nat → α → α} (hf : ∀ k x, P (f k x)) (t : Tab α) (n : Nat) :
    P (tget d (tmap d t f) n) := by
  have hmem : ∀ e ∈ tmap d t f, P e.2 := fun e he => by
    obtain ⟨x, -, rfl⟩ := List.mem_map.mp (List.mem_filter.mp he).1
    exact hf ..
  revert hmem
  generalize tmap d t f = u
  intro hmem
  induction u with
  | nil => exact hd
  | cons e u ih =>
    obtain ⟨k, v⟩ := e
    simp only [tget]
    split
    · exact hmem (k, v) List.mem_cons_self
    · exact ih fun e he => hmem e (List.mem_cons_of_mem _ he)

/-! The commands. -/

theorem lockstep_eq {s : State} (hr : s.power.supRail = true) (hs : s.power.seated = true) : lockstep s = (s.count 0x8000 3 2 0).supRestart 1 := by
  simp [lockstep, hr, hs]

/-- An uncorrectable word of the firmware's memory restarts the supervisor (13 R339). -/
theorem scratchError_firmware {s : State} (hr : s.power.supRail = true) (b : BankId) :
    scratchError b .firmware s = ((s.count 0x8120 3 0 b).count 0x8200 3 3 ((b : Nat) / 8)).supRestart 5 := by
  simp [scratchError, hr]

theorem scratchError_other {s : State} (hr : s.power.supRail = true) (b : BankId) :
    scratchError b .other s = (s.count 0x8120 3 0 b).count 0x8200 3 3 ((b : Nat) / 8) := by
  simp [scratchError, hr]

/-- The word is counted at its bank (13 R339). -/
theorem State.ctr_scratch (s : State) (b : BankId) :
    ((s.count 0x8120 3 0 b).count 0x8200 3 3 ((b : Nat) / 8)).ctr 0x8120 3 0 b = (s.ctr 0x8120 3 0 b + 1) % 4294967296 := by
  rw [State.ctr_count_of_ne (by unfold ctrKey; omega), State.ctr_count]

/-- The head-core watchdog restarts the supervisor when it is due (01 R16; 15 R402). -/
theorem exec_headWatchdog (s : State) :
    exec .headWatchdog s = .next (s.fixed (if s.watchdogDue then s.quiet.supRestart 2 else s.quiet)) := rfl

theorem restartSupervisor_spec {s : State} (hr : s.power.supRail = true) (hs : s.power.seated = true) {rq : Rq} {arg : Byte} {x : Session}
    (h : Writes rq 0x8000 2 0 [arg] x s) :
    ∃ r : State, exec (.restartSupervisor rq arg) s = .next (s.fixed (r.supRestart 4)) ∧ Answered 2 (writeReq rq 0x8000 2 0 [arg]) 0 (r.supRestart 4) ∧
      (r.supRestart 4).Restarted 4 (r.count 0x8000 1 3 0).traffic ∧ r.traffic.flow = s.traffic.flow ∧
      r.ctr 0x8000 1 3 0 = s.ctr 0x8000 1 3 0 := by
  obtain ⟨r, hrun, ha⟩ := run_writeOf_answers (eff := effRestartSup) h rfl (by decide) (by decide) (by decide) rfl rfl
  have hless : r.lessAnswers = s.quiet.lessAnswers := ha.less.trans (State.heard_lessAnswers s.quiet rq.session)
  have hpower : r.power = s.power := (congrArg State.power hless :)
  have hd := State.supRestart_restarted (s := r) (hpower ▸ hr) (hpower ▸ hs) 4
  have hout : (r.supRestart 4).out = r.out := congrArg Traffic.out hd.traffic
  obtain ⟨resp, hresp, hrest⟩ := ha.answered
  refine ⟨r, hrun, ⟨resp, hout ▸ hresp, hrest⟩, hd, ?_, ?_⟩
  · exact (congrArg (fun w : State => w.traffic.flow) hless :)
  · exact (ha.ctr ..).trans (by simp)

/-- Settles O46: every cause of a restart comes to the same restart; its end and the fault of the port die by what each writes. -/
theorem restartsKeepTheTrafficAndEnd : Obligations.RestartsKeepTheTrafficAndEnd := by
  unfold Obligations.RestartsKeepTheTrafficAndEnd
  refine ⟨fun s hr hs => ?_, fun s => ⟨fun h => ?_, fun h => ?_⟩⟩
  · have hgo (w : State) (hp : w.power = s.power) (c : Nat) := State.supRestart_restarted (s := w) (hp ▸ hr) (hp ▸ hs) c
    refine ⟨fun c => ?_, fun rq arg x h => ?_, ?_, fun h => ?_, fun h => ?_, fun b => ?_, fun b => ?_⟩
    · exact ⟨_, rfl, (hgo s.quiet rfl _).down rfl rfl⟩
    · obtain ⟨r, hrun, hans, hd, hflow, hctr⟩ := restartSupervisor_spec hr hs h
      exact ⟨_, hrun, hans, hd.down hflow hctr⟩
    · have hd := hgo (s.quiet.count 0x8000 3 2 0) rfl 1
      rw [← lockstep_eq (s := s.quiet) hr hs] at hd
      exact ⟨_, rfl, hd.down rfl (State.ctr_count_of_ne (by decide) _),
        (hd.ctr (by decide)).trans (State.ctr_count ..)⟩
    · rw [exec_headWatchdog, h]
      exact ⟨_, rfl, (hgo s.quiet rfl 2).down rfl rfl⟩
    · rw [exec_headWatchdog, h]
      exact ⟨_, rfl, rfl⟩
    · have hd := hgo ((s.quiet.count 0x8120 3 0 b).count 0x8200 3 3 ((b : Nat) / 8)) rfl 5
      rw [← scratchError_firmware (s := s.quiet) hr] at hd
      refine ⟨_, rfl, hd.down rfl ?_, (hd.ctr (by unfold ctrKey; omega)).trans (State.ctr_scratch ..)⟩
      rw [State.ctr_count_of_ne (by unfold ctrKey; omega), State.ctr_count_of_ne (by unfold ctrKey; omega)]
      rfl
    · refine ⟨_, rfl, ?_⟩
      rw [scratchError_other (s := s.quiet) hr]
      exact ⟨rfl, s.quiet.ctr_scratch b⟩
  · obtain ⟨hsup, hfab, hlease, hlanes, hsealing⟩ := State.running_ext (restartEnd_running (s := s.quiet) h)
    refine ⟨_, rfl, congrArg Sup.up hsup, congrArg Sup.restarting hsup, congrArg Sup.state hsup, congrArg Sup.parked hsup, ?_, hlease, hlanes,
      hsealing, fun ha => ?_, fun ha => ?_⟩
    all_goals refine (congrArg _ hfab).trans ?_
    · split <;> rfl
    · simp [ha]
    · simp [ha]
  · obtain ⟨hpower, hsup, hlanes, hactive, hshadow, hslots, hkwk, hsec⟩ := portFault_spec (s := s.quiet) h
    refine ⟨_, rfl, ?_, congrArg Power.portFault hpower, hlanes, hactive, hshadow, fun k => ?_, hkwk, congrArg Sup.up hsup, congrArg Security.certs hsec⟩
    · have hp := congrArg Power.portFault hpower
      simp [State.portUp, hp]
    · show (tget {} (portFault s.quiet).sealing.slots k).cur = none ∧ (tget {} (portFault s.quiet).sealing.slots k).pend = none
      rw [hslots]
      exact tget_tmap_of (P := fun x : KeySlot => x.cur = none ∧ x.pend = none) ⟨rfl, rfl⟩ (fun _ _ => ⟨rfl, rfl⟩) _ k

end Sys2Proof.Machine
end

section
/-! PROOFS. A seal record at hand is taken once, and gives the one verdict on its interval (02 R60; 11 R288 to R292). -/

namespace Sys2Proof.Machine

/-! Verdicts (11 R288 to R292). -/

/-- All but what a verdict on an interval writes: counters, the stream's raw data and its own state, and alarm conditions. -/
def State.lessVerdicts (s : State) : State := { s with cnt := [], pm.stream := [], sealing.rx := [], store.conds := [] }

/-- Where what a verdict writes is set back, the verdict is gone. -/
theorem State.eq_of_lessVerdicts {s t : State} (h : t.lessVerdicts = s.lessVerdicts) :
    { t with cnt := s.cnt, pm.stream := s.pm.stream, sealing.rx := s.sealing.rx, store.conds := s.store.conds } = s := by
  have hs := congrArg (fun w : State =>
    { w with cnt := s.cnt, pm.stream := s.pm.stream, sealing.rx := s.sealing.rx, store.conds := s.store.conds }) h
  exact hs

/-- With the lanes set back too, so is what the record did to its lane. -/
theorem State.eq_of_lessVerdicts_lanes {s t u : State} (h : t.lessVerdicts = u.lessVerdicts) (hu : { u with lanes := s.lanes } = s) :
    { t with cnt := s.cnt, lanes := s.lanes, pm.stream := s.pm.stream, sealing.rx := s.sealing.rx, store.conds := s.store.conds } = s := by
  have hl : ({ t with lanes := s.lanes } : State).lessVerdicts = s.lessVerdicts := by
    rw [← hu]
    exact congrArg (fun w : State => { w with lanes := s.lanes }) h
  exact State.eq_of_lessVerdicts hl

theorem State.rxS_modRx (s : State) (k j : Nat) (f : RxStream → RxStream) :
    (s.modRx k f).rxS j = if j = k then f (s.rxS k) else s.rxS j := tget_tmod ..

theorem State.settleRx_lessVerdicts (s : State) (k : Nat) : (s.settleRx k).lessVerdicts = s.lessVerdicts := by
  have hnote (s : State) (c : AlarmCond) (p : Bool) : (s.noteCond c p).lessVerdicts = s.lessVerdicts := by
    rw [State.eq_of_lessConds (s.noteCond_lessConds c p)]
    rfl
  have hstream (s : State) (k : Nat) (f : Raw → Raw) : (s.modStream k f).lessVerdicts = s.lessVerdicts := rfl
  simp only [State.settleRx]
  split <;> simp only [hstream, hnote]

@[simp] theorem State.settleRx_keep (s : State) (k : Nat) :
    (s.settleRx k).sealing = s.sealing ∧ (s.settleRx k).cnt = s.cnt ∧ (s.settleRx k).out = s.out := by
  simp only [State.settleRx]
  split <;> simp

/-- The stream's part of a failed verdict: three in a row raise SEALF (11 R290, R292). -/
def RxStream.fail (x : RxStream) (hold : Bool) (h : Nat) : RxStream :=
  let run := min 3 (x.failRun + 1)
  let y := { x with recordIn := true, failRun := run, okRun := 0, hold := if x.state = .synced ∨ hold = true then h + 2 else x.hold }
  if run = 3 then { y with sealf := true, state := .acquire, waitSync := 0 } else y

theorem RxStream.fail_runs (x : RxStream) (hold : Bool) (h : Nat) :
    (x.fail hold h).recordIn = true ∧ (x.fail hold h).failRun = min 3 (x.failRun + 1) ∧ (x.fail hold h).okRun = 0 := by
  simp only [RxStream.fail]
  split <;> exact ⟨rfl, rfl, rfl⟩

theorem RxStream.fail_third {x : RxStream} (hx : 2 ≤ x.failRun) (hold : Bool) (h : Nat) :
    (x.fail hold h).sealf = true ∧ (x.fail hold h).state = .acquire := by
  have h3 : min 3 (x.failRun + 1) = 3 := by omega
  simp [RxStream.fail, h3]

/-- What a failed verdict writes: its counter, the stream, and what verdicts share. -/
theorem State.verdictFail_spec (s : State) (k kind : Nat) :
    (s.verdictFail k kind).lessVerdicts = s.lessVerdicts ∧
    (s.verdictFail k kind).rxS k = (s.rxS k).fail (s.rxF k 6 == 1) (s.cfg 0x5C00 1 0) ∧
    (s.verdictFail k kind).ctr 0x5C32 1 kind k = (s.ctr 0x5C32 1 kind k + 1) % 4294967296 := by
  simp only [State.verdictFail]
  refine ⟨?_, ?_, ?_⟩
  · rw [State.settleRx_lessVerdicts]
    rfl
  · rw [State.rxS, (State.settleRx_keep _ _).1]
    exact (State.rxS_modRx ..).trans (if_pos rfl)
  · rw [State.ctr, (State.settleRx_keep _ _).2.1]
    exact s.ctr_count 0x5C32 1 kind k

/-- The runs of a stream after a failed verdict (11 R290). -/
theorem State.verdictFail_runs (s : State) (k kind : Nat) :
    ((s.verdictFail k kind).rxS k).recordIn = true ∧ ((s.verdictFail k kind).rxS k).failRun = min 3 ((s.rxS k).failRun + 1) ∧
    ((s.verdictFail k kind).rxS k).okRun = 0 := by
  rw [(s.verdictFail_spec k kind).2.1]
  exact RxStream.fail_runs ..

theorem State.verdictFail_third {s : State} {k : Nat} (h : 2 ≤ (s.rxS k).failRun) (kind : Nat) :
    ((s.verdictFail k kind).rxS k).sealf = true ∧ ((s.verdictFail k kind).rxS k).state = .acquire := by
  rw [(s.verdictFail_spec k kind).2.1]
  exact RxStream.fail_third h ..

/-- The stream's part of a good verdict with counter c: in hold mode the interval is released (11 R288, R291, R292). -/
def RxStream.verify (x : RxStream) (hold stuck : Bool) (c multi : Nat) (key : Option KeyVal) : RxStream :=
  let ok := min 2 (x.okRun + 1)
  let x := { x with recordIn := true, failRun := 0, okRun := ok, sealf := x.sealf && !(ok == 2 && !stuck) }
  let x := if x.oldKey then { x with oldVerified := some c } else { x with verified := some c }
  if hold then { x with state := .synced, releases := (key.map fun v => (multi, c, v)).toList ++ x.releases.take 1 }
  else if x.state = .acquire ∧ !x.oldKey then { x with expected := c + 1, waitSync := 1 }
  else x

theorem RxStream.verify_runs {x : RxStream} (hx : x.oldKey = false) (hold stuck : Bool) (c multi : Nat) (key : Option KeyVal) :
    (x.verify hold stuck c multi key).recordIn = true ∧ (x.verify hold stuck c multi key).failRun = 0 ∧
    (x.verify hold stuck c multi key).okRun = min 2 (x.okRun + 1) ∧ (x.verify hold stuck c multi key).verified = some c := by
  simp only [RxStream.verify, hx, Bool.false_eq_true, if_false]
  split
  · exact ⟨rfl, rfl, rfl, rfl⟩
  · split <;> exact ⟨rfl, rfl, rfl, rfl⟩

/-- What a good verdict writes: its counter, the stream, and what verdicts share (11 R288, R292). -/
theorem State.verdictOk_spec (s : State) (k c : Nat) :
    (s.verdictOk k c).lessVerdicts = s.lessVerdicts ∧
    (∃ hold stuck multi key, (s.verdictOk k c).rxS k = (s.rxS k).verify hold stuck c multi key) ∧
    (s.verdictOk k c).ctr 0x5C32 1 1 k = (s.ctr 0x5C32 1 1 k + 1) % 4294967296 := by
  simp only [State.verdictOk]
  refine ⟨?_, ⟨s.rxF k 6 == 1, (s.rxS k).keyx || (s.curKey (s.rxF k 4)).isNone, (s.lane (s.rxF k 2)).ch.multi - 1, s.intervalKey k, ?_⟩, ?_⟩
  · rw [State.settleRx_lessVerdicts]
    rfl
  · rw [State.rxS, (State.settleRx_keep _ _).1]
    exact (State.rxS_modRx ..).trans (if_pos rfl)
  · rw [State.ctr, (State.settleRx_keep _ _).2.1]
    exact s.ctr_count 0x5C32 1 1 k

/-- The runs of a stream after a good verdict, and the counter it verified (11 R288, R292). -/
theorem State.verdictOk_runs {s : State} {k : Nat} (ho : (s.rxS k).oldKey = false) (c : Nat) :
    ((s.verdictOk k c).rxS k).recordIn = true ∧ ((s.verdictOk k c).rxS k).failRun = 0 ∧
    ((s.verdictOk k c).rxS k).okRun = min 2 ((s.rxS k).okRun + 1) ∧ ((s.verdictOk k c).rxS k).verified = some c := by
  obtain ⟨-, ⟨hold, stuck, multi, key, hrx⟩, -⟩ := s.verdictOk_spec k c
  rw [hrx]
  exact RxStream.verify_runs ho ..

/-! The record (02 R60; 11 R288, R289). -/

/-- The channels of one lane alone are changed. -/
def State.modCh (s : State) (l : Nat) (f : Chans → Chans) : State := s.modLane l fun x => { x with ch := f x.ch }

/-- What judging a record reads of the lanes, a change of channels leaves alone. -/
@[simp] theorem State.modCh_reads (s : State) (l : Nat) (f : Chans → Chans) :
    (∀ k, (s.modCh l f).laneFailed k = s.laneFailed k) ∧ (∀ h, (s.modCh l f).rxByHandle l h = s.rxByHandle l h) ∧
    (∀ k, (s.modCh l f).rxS k = s.rxS k) ∧ (∀ k i, (s.modCh l f).rxF k i = s.rxF k i) ∧ (∀ k, (s.modCh l f).curKey k = s.curKey k) ∧
    (∀ k r, (s.modCh l f).tagFits k r = s.tagFits k r) ∧ (∀ i b n e, (s.modCh l f).ctr i b n e = s.ctr i b n e) := by
  have hlane (k : Nat) : ((s.modCh l f).lane k).d = (s.lane k).d ∧ ((s.modCh l f).lane k).bring = (s.lane k).bring := by
    rw [State.modCh, State.lane_modLane]
    split <;> simp_all
  refine ⟨fun k => ?_, fun _ => rfl, fun _ => rfl, fun _ _ => rfl, fun _ => rfl, fun k r => ?_, fun _ _ _ _ => rfl⟩
  · simp only [State.laneFailed, hlane]
    rfl
  · simp only [State.tagFits, hlane]
    rfl

theorem State.modCh_lane (s : State) (l k : Nat) (f : Chans → Chans) :
    (s.modCh l f).lane k = if k = l then { s.lane l with ch := f (s.lane l).ch } else s.lane k := State.lane_modLane ..

/-- The oldest record at hand is gone from its lane (02 R60). -/
def State.popRecord (s : State) (l : Nat) (rs : List (Nat × SealRec)) : State := s.modCh l fun c => { c with sealReady := rs }

/-- The handle of a record is among those that came in this multiframe (02 R60). -/
def State.sawHandle (s : State) (l h : Nat) : State := s.modCh l fun c => { c with sealSeen := h :: c.sealSeen }

theorem State.modCh_back (s : State) (l : Nat) (f : Chans → Chans) (x : Tab Lane) : { s.modCh l f with lanes := x } = { s with lanes := x } := rfl

theorem State.count_back (s : State) (i b f e : Nat) (c : Tab Ctr) (x : Tab Lane) :
    { s.count i b f e with cnt := c, lanes := x } = { s with cnt := c, lanes := x } := rfl

theorem State.popRecord_back (s : State) (l : Nat) (rs : List (Nat × SealRec)) : { s.popRecord l rs with lanes := s.lanes } = s :=
  s.modCh_back ..

theorem State.sawHandle_back (s : State) (l h : Nat) (rs : List (Nat × SealRec)) :
    { (s.popRecord l rs).sawHandle l h with lanes := s.lanes } = s :=
  ((s.popRecord l rs).modCh_back ..).trans (s.popRecord_back ..)

/-- A state that differs in lanes alone, with a counter counted. -/
theorem State.count_lanes_back {s t : State} (h : { t with lanes := s.lanes } = s) (i b f e : Nat) :
    { t.count i b f e with cnt := s.cnt, lanes := s.lanes } = s :=
  (t.count_back ..).trans (congrArg (fun w : State => { w with cnt := s.cnt }) h)

theorem sealRecord_eq {s : State} {l : LaneId} {p : Nat} {r : SealRec} {rs : List (Nat × SealRec)} {ok : Bool}
    (h : (s.lane l).ch.sealReady = (p, r) :: rs) (ha : s.tagAgrees l r ok = true) :
    sealRecord l r ok s = (s.popRecord l rs).takeRecord l p r := by
  simp only [sealRecord, h, ha]
  rfl

/-- A command that names another record, or another verdict, does nothing (log entry 144). -/
theorem sealRecord_other {s : State} {l : LaneId} {r : SealRec} {ok : Bool}
    (h : (s.lane l).ch.sealReady.head?.map Prod.snd ≠ some r ∨ s.tagAgrees l r ok = false) : sealRecord l r ok s = s := by
  unfold sealRecord
  split
  · rfl
  next x rs hx =>
    rw [if_neg]
    rintro ⟨hr, ha⟩
    rw [hx] at h
    simp_all

section

variable {s : State} {l : LaneId} {p : Nat} {r : SealRec} {k : Nat}

theorem State.takeRecord_failed (hf : s.laneFailed l = true) : s.takeRecord l p r = s := by
  simp [State.takeRecord, hf]

theorem State.takeRecord_outOfRange (hf : s.laneFailed l = false) (hr : 16384 ≤ r.handle) : s.takeRecord l p r = s.count 0x3050 0xB 0 l := by
  simp [State.takeRecord, hf, hr]

variable (hf : s.laneFailed l = false) (hr : r.handle < 16384)
include hf hr

theorem State.takeRecord_repeated (hs : (s.lane l).ch.sealSeen.contains r.handle = true) : s.takeRecord l p r = s.count 0x3050 9 0 l := by
  simp only [State.takeRecord, hf, Nat.not_le.mpr hr, hs, if_true, if_false, Bool.false_eq_true]

variable (hs : (s.lane l).ch.sealSeen.contains r.handle = false)
include hs

theorem State.takeRecord_unowned (hk : s.rxByHandle l r.handle = none) :
    s.takeRecord l p r = (s.sawHandle l r.handle).count 0x3050 0xA 0 l := by
  simp only [State.takeRecord, hf, Nat.not_le.mpr hr, hs, if_false, Bool.false_eq_true]
  split
  · rfl
  next j hj => cases hk.symm.trans (hj : s.rxByHandle l r.handle = some j)

/-- A record of a stream whose interval still waits for one is judged (11 R289). -/
theorem State.takeRecord_judged (hk : s.rxByHandle l r.handle = some k) (hlive : (s.rxS k).live = true) (hbegun : (s.rxS k).begun = true)
    (hin : (s.rxS k).recordIn = false) : s.takeRecord l p r = (s.sawHandle l r.handle).judge k p r := by
  have hwait : ((s.rxS k).live && (s.rxS k).begun && !(s.rxS k).recordIn) = true := by simp [hlive, hbegun, hin]
  simp only [State.takeRecord, hf, Nat.not_le.mpr hr, hs, if_false, Bool.false_eq_true]
  split
  next hj => cases hk.symm.trans (hj : s.rxByHandle l r.handle = none)
  next j hj =>
    cases hk.symm.trans (hj : s.rxByHandle l r.handle = some j)
    exact if_pos hwait

end

section

variable {s : State} {k p : Nat} {r : SealRec} (hu : (s.rxS k).unver = false) (hp : s.rxF k 6 = 1 → p ≤ 700)
include hu hp

/-- A record whose tag does not fit fails its interval (11 R288). -/
theorem State.judge_tag (ht : s.tagFits k r = false) : s.judge k p r = s.verdictFail k 2 := by
  have hlate : ¬(s.rxF k 6 = 1 ∧ 700 < p) := fun h => Nat.not_lt.mpr (hp h.1) h.2
  simp [State.judge, hu, hlate, ht]

/-- A record that is good and in turn verifies its interval (11 R288, R289). -/
theorem State.judge_good (ht : s.tagFits k r = true) (hk : (s.curKey (s.rxF k 4)).isSome = true) (ho : (s.rxS k).oldKey = false)
    (hf : ∀ c, (s.rxS k).verified = some c → c < r.counter)
    (hd : s.rxF k 6 = 0 → (s.rxS k).state = .synced → r.counter + 1 = (s.rxS k).expected)
    (hn : (s.rxS k).nkPrev = 2 ∨ r.newKey = ((s.rxS k).nkPrev == 1)) : s.judge k p r = s.verdictOk k r.counter := by
  have hlate : ¬(s.rxF k 6 = 1 ∧ 700 < p) := fun h => Nat.not_lt.mpr (hp h.1) h.2
  have hturn : (!(s.rxF k 6 == 0 && (s.rxS k).state == .synced) || r.counter + 1 == (s.rxS k).expected) = true := by
    simp only [Bool.or_eq_true, Bool.not_eq_true', Bool.and_eq_false_iff, beq_eq_false_iff_ne, beq_iff_eq]
    tauto
  have hkey : ((s.rxS k).nkPrev == 2 || r.newKey == ((s.rxS k).nkPrev == 1)) = true := by simpa using hn
  have hcur : (s.curKey (s.rxF k 4)).isNone = false := by simpa using hk
  simp only [State.judge, hu, hlate, ht, ho, hcur, hturn, hkey, if_false, Bool.false_eq_true, Bool.not_true, Bool.or_self, Bool.and_true]
  split
  next c hc => simp [hf c hc]
  next => rfl

end

/-! The commands. -/

/-- A lane's record is taken, and no other lane changes (02 R60). -/
structure TookRecord (l : LaneId) (rs : List (Nat × SealRec)) (s t : State) : Prop where
  ready : (t.lane l).ch.sealReady = rs
  others : ∀ j, j ≠ (l : Nat) → t.lane j = s.lane j

theorem TookRecord.popRecord (s : State) (l : LaneId) (rs : List (Nat × SealRec)) : TookRecord l rs s (s.popRecord l rs) :=
  ⟨by rw [State.popRecord, State.modCh_lane, if_pos rfl], fun j hj => by rw [State.popRecord, State.modCh_lane, if_neg hj]⟩

theorem TookRecord.sawHandle (s : State) (l : LaneId) (rs : List (Nat × SealRec)) (h : Nat) :
    TookRecord l rs s ((s.popRecord l rs).sawHandle l h) := by
  obtain ⟨hr, ho⟩ := TookRecord.popRecord s l rs
  constructor
  · rw [State.sawHandle, State.modCh_lane, if_pos rfl]
    exact hr
  · intro j hj
    rw [State.sawHandle, State.modCh_lane, if_neg hj]
    exact ho j hj

theorem TookRecord.of_lanes {s t u : State} {l : LaneId} {rs : List (Nat × SealRec)} (h : TookRecord l rs s t) (hu : u.lanes = t.lanes) :
    TookRecord l rs s u :=
  ⟨(congrArg (·.ch.sealReady) (State.lane_of_lanes hu l)).trans h.ready, fun j hj => (State.lane_of_lanes hu j).trans (h.others j hj)⟩

theorem State.popRecord_seen (s : State) (l : LaneId) (rs : List (Nat × SealRec)) :
    ((s.popRecord l rs).lane l).ch.sealSeen = (s.lane l).ch.sealSeen := by
  rw [State.popRecord, State.modCh_lane, if_pos rfl]

theorem State.popRecord_laneFailed (s : State) (l k : Nat) (rs : List (Nat × SealRec)) : (s.popRecord l rs).laneFailed k = s.laneFailed k :=
  (s.modCh_reads ..).1 k

theorem State.sawHandle_seen (s : State) (l : LaneId) (rs : List (Nat × SealRec)) (h : Nat) :
    (((s.popRecord l rs).sawHandle l h).lane l).ch.sealSeen = h :: (s.lane l).ch.sealSeen := by
  rw [State.sawHandle, State.modCh_lane, if_pos rfl, ← s.popRecord_seen l rs]

/-- The receiver's own tag verdict is the command's (log entry 144). -/
theorem State.tagFits_of_agrees {s : State} {l : LaneId} {r : SealRec} {rs : List (Nat × SealRec)} {ok : Bool} {k : Nat}
    (hagrees : s.tagAgrees l r ok = true) (hk : s.rxByHandle l r.handle = some k) :
    ((s.popRecord l rs).sawHandle l r.handle).tagFits k r = ok := by
  have hsaw : ((s.popRecord l rs).sawHandle l r.handle).tagFits k r = (s.popRecord l rs).tagFits k r :=
    (State.modCh_reads ..).2.2.2.2.2.1 k r
  have hpop : (s.popRecord l rs).tagFits k r = s.tagFits k r := (State.modCh_reads ..).2.2.2.2.2.1 k r
  rw [hsaw, hpop]
  simpa [State.tagAgrees, hk] using hagrees

section

variable {s : State} {l : LaneId} {p : Nat} {r : SealRec} {rs : List (Nat × SealRec)} {ok : Bool} {k : Nat}
  (hready : (s.lane l).ch.sealReady = (p, r) :: rs) (hagrees : s.tagAgrees l r ok = true)
include hready hagrees

theorem sealRecord_failed (hf : s.laneFailed l = true) : sealRecord l r ok s = s.popRecord l rs :=
  (sealRecord_eq hready hagrees).trans (State.takeRecord_failed ((s.popRecord_laneFailed ..).trans hf))

variable (hf : s.laneFailed l = false)
include hf

theorem sealRecord_outOfRange (hr : 16384 ≤ r.handle) : sealRecord l r ok s = (s.popRecord l rs).count 0x3050 0xB 0 l :=
  (sealRecord_eq hready hagrees).trans (State.takeRecord_outOfRange ((s.popRecord_laneFailed ..).trans hf) hr)

variable (hr : r.handle < 16384)
include hr

theorem sealRecord_repeated (hs : (s.lane l).ch.sealSeen.contains r.handle = true) :
    sealRecord l r ok s = (s.popRecord l rs).count 0x3050 9 0 l :=
  (sealRecord_eq hready hagrees).trans
    (State.takeRecord_repeated ((s.popRecord_laneFailed ..).trans hf) hr (by rwa [s.popRecord_seen]))

variable (hs : (s.lane l).ch.sealSeen.contains r.handle = false)
include hs

theorem sealRecord_unowned (hk : s.rxByHandle l r.handle = none) :
    sealRecord l r ok s = ((s.popRecord l rs).sawHandle l r.handle).count 0x3050 0xA 0 l :=
  (sealRecord_eq hready hagrees).trans
    (State.takeRecord_unowned ((s.popRecord_laneFailed ..).trans hf) hr (by rwa [s.popRecord_seen]) hk)

variable (hk : s.rxByHandle l r.handle = some k) (hlive : (s.rxS k).live = true) (hbegun : (s.rxS k).begun = true)
  (hin : (s.rxS k).recordIn = false)
include hk hlive hbegun hin

theorem sealRecord_judged : sealRecord l r ok s = ((s.popRecord l rs).sawHandle l r.handle).judge k p r :=
  (sealRecord_eq hready hagrees).trans
    (State.takeRecord_judged ((s.popRecord_laneFailed ..).trans hf) hr (by rwa [s.popRecord_seen]) hk hlive hbegun hin)

variable (hu : (s.rxS k).unver = false) (hp : s.rxF k 6 = 1 → p ≤ 700)
include hu hp

/-- A record whose tag the receiver does not confirm fails its interval (11 R288). -/
theorem sealRecord_fails (hok : ok = false) :
    TookRecord l rs s (sealRecord l r ok s) ∧
    { sealRecord l r ok s with
      cnt := s.cnt, lanes := s.lanes, pm.stream := s.pm.stream, sealing.rx := s.sealing.rx, store.conds := s.store.conds } = s ∧
    ((sealRecord l r ok s).rxS k).recordIn = true ∧ ((sealRecord l r ok s).rxS k).failRun = min 3 ((s.rxS k).failRun + 1) ∧
    ((sealRecord l r ok s).rxS k).okRun = 0 ∧ (sealRecord l r ok s).ctr 0x5C32 1 2 k = (s.ctr 0x5C32 1 2 k + 1) % 4294967296 := by
  have heq : sealRecord l r ok s = ((s.popRecord l rs).sawHandle l r.handle).verdictFail k 2 :=
    (sealRecord_judged hready hagrees hf hr hs hk hlive hbegun hin).trans
      (State.judge_tag (s := (s.popRecord l rs).sawHandle l r.handle) hu hp ((State.tagFits_of_agrees hagrees hk).trans hok))
  obtain ⟨hless, -, hctr⟩ := ((s.popRecord l rs).sawHandle l r.handle).verdictFail_spec k 2
  obtain ⟨hin, hrun, hok⟩ := ((s.popRecord l rs).sawHandle l r.handle).verdictFail_runs k 2
  have htook := (TookRecord.sawHandle s l rs r.handle).of_lanes (State.verdictFail_lanes _ k 2)
  rw [← heq] at hless hctr hin hrun hok htook
  exact ⟨htook, State.eq_of_lessVerdicts_lanes hless (s.sawHandle_back ..), hin, hrun, hok, hctr⟩

/-- A record that is good and in turn verifies its interval (11 R288, R289). -/
theorem sealRecord_verifies (hok : ok = true) (hkey : (s.curKey (s.rxF k 4)).isSome = true) (ho : (s.rxS k).oldKey = false)
    (hfresh : ∀ c, (s.rxS k).verified = some c → c < r.counter)
    (hturn : s.rxF k 6 = 0 → (s.rxS k).state = .synced → r.counter + 1 = (s.rxS k).expected)
    (hn : (s.rxS k).nkPrev = 2 ∨ r.newKey = ((s.rxS k).nkPrev == 1)) :
    TookRecord l rs s (sealRecord l r ok s) ∧
    { sealRecord l r ok s with
      cnt := s.cnt, lanes := s.lanes, pm.stream := s.pm.stream, sealing.rx := s.sealing.rx, store.conds := s.store.conds } = s ∧
    ((sealRecord l r ok s).rxS k).recordIn = true ∧ ((sealRecord l r ok s).rxS k).failRun = 0 ∧
    ((sealRecord l r ok s).rxS k).okRun = min 2 ((s.rxS k).okRun + 1) ∧ ((sealRecord l r ok s).rxS k).verified = some r.counter ∧
    (sealRecord l r ok s).ctr 0x5C32 1 1 k = (s.ctr 0x5C32 1 1 k + 1) % 4294967296 := by
  have heq : sealRecord l r ok s = ((s.popRecord l rs).sawHandle l r.handle).verdictOk k r.counter :=
    (sealRecord_judged hready hagrees hf hr hs hk hlive hbegun hin).trans
      (State.judge_good (s := (s.popRecord l rs).sawHandle l r.handle) hu hp ((State.tagFits_of_agrees hagrees hk).trans hok)
        hkey ho hfresh hturn hn)
  obtain ⟨hless, -, hctr⟩ := ((s.popRecord l rs).sawHandle l r.handle).verdictOk_spec k r.counter
  obtain ⟨hin, hrun, hok, hver⟩ := State.verdictOk_runs (s := (s.popRecord l rs).sawHandle l r.handle) ho r.counter
  have htook := (TookRecord.sawHandle s l rs r.handle).of_lanes (State.verdictOk_lanes _ k r.counter)
  rw [← heq] at hless hctr hin hrun hok hver htook
  exact ⟨htook, State.eq_of_lessVerdicts_lanes hless (s.sawHandle_back ..), hin, hrun, hok, hver, hctr⟩

end

theorem sealDeadline_early {s : State} {k : Fin 65536} (h : s.recordLate k = false) : sealDeadline k s = s := by
  simp [sealDeadline, h]

/-- An interval whose record is missing at the deadline fails (11 R289). -/
theorem sealDeadline_missing {s : State} {k : Fin 65536} (hlive : (s.rxS k).live = true) (hbegun : (s.rxS k).begun = true)
    (hin : (s.rxS k).recordIn = false) (hu : (s.rxS k).unver = false) (hlate : s.recordLate k = true)
    (hais : (s.lane (s.rxF k 2)).ch.aisPrev = false) : sealDeadline k s = s.verdictFail k 3 := by
  simp [sealDeadline, State.noRecord, hlive, hbegun, hin, hu, hlate, hais]

theorem holdEnd_eq {s : State} {k : Fin 65536} (h : (s.rxS k).hold = 1) : holdEnd k s = s.modRx k fun x => { x with hold := 0 } := if_pos h

theorem exec_sealRecord (l : LaneId) (r : SealRec) (ok : Bool) (s : State) :
    exec (.sealRecord l r ok) s = .next (s.fixed (sealRecord l r ok s.quiet)) := rfl

theorem exec_sealRecordDeadline (k : Fin 65536) (s : State) : exec (.sealRecordDeadline k) s = .next (s.fixed (sealDeadline k s.quiet)) := rfl

theorem TookRecord.fixed {l : LaneId} {rs : List (Nat × SealRec)} {s t : State} (h : TookRecord l rs s.quiet t) :
    (t.lane l).ch.sealReady = rs ∧ ∀ j, j ≠ (l : Nat) → t.lane j = s.lane j := ⟨h.ready, h.others⟩

/-- Settles O32: the oldest record at hand leaves its lane, and the branch that its lane, handle, and stream choose writes the rest. -/
theorem sealRecordsAreJudged : Obligations.SealRecordsAreJudged := by
  unfold Obligations.SealRecordsAreJudged
  intro s l p r rs ok k
  simp only [exec_sealRecord, exec_sealRecordDeadline]
  refine ⟨fun h => ⟨_, rfl, congrArg s.fixed (sealRecord_other (s := s.quiet) h)⟩, fun hready hagrees => ?_, fun h => ?_, ?_, fun h => ?_⟩
  · have hpop : TookRecord l rs s.quiet (s.quiet.popRecord l rs) := TookRecord.popRecord ..
    have hsaw : TookRecord l rs s.quiet ((s.quiet.popRecord l rs).sawHandle l r.handle) := TookRecord.sawHandle ..
    refine ⟨fun hf => ?_, fun hf hr => ?_, fun hf hr hs => ?_, fun hf hr hs hk => ?_, ?_, ?_⟩
    · rw [sealRecord_failed (s := s.quiet) hready hagrees hf]
      exact ⟨_, rfl, hpop.fixed, congrArg s.fixed (s.quiet.popRecord_back ..)⟩
    · rw [sealRecord_outOfRange (s := s.quiet) hready hagrees hf hr]
      exact ⟨_, rfl, (hpop.of_lanes rfl).fixed, congrArg s.fixed (State.count_lanes_back (s.quiet.popRecord_back ..) ..), State.ctr_count ..⟩
    · rw [sealRecord_repeated (s := s.quiet) hready hagrees hf hr hs]
      exact ⟨_, rfl, (hpop.of_lanes rfl).fixed, congrArg s.fixed (State.count_lanes_back (s.quiet.popRecord_back ..) ..), State.ctr_count ..⟩
    · rw [sealRecord_unowned (s := s.quiet) hready hagrees hf hr hs hk]
      exact ⟨_, rfl, (hsaw.of_lanes rfl).fixed, congrArg s.fixed (State.count_lanes_back (s.quiet.sawHandle_back ..) ..),
        s.quiet.sawHandle_seen .., State.ctr_count ..⟩
    · intro hf hr hs hk hlive hbegun hin hu hok hp
      obtain ⟨htook, hmask, hruns⟩ := sealRecord_fails (s := s.quiet) hready hagrees hf hr hs hk hlive hbegun hin hu hp hok
      generalize sealRecord l r ok s.quiet = t at htook hmask hruns ⊢
      exact ⟨_, rfl, htook.fixed, congrArg s.fixed hmask, hruns⟩
    · intro hf hr hs hk hlive hbegun hin hu hok hp hkey ho hfresh hturn hn
      obtain ⟨htook, hmask, hruns⟩ :=
        sealRecord_verifies (s := s.quiet) hready hagrees hf hr hs hk hlive hbegun hin hu hp hok hkey ho hfresh hturn hn
      generalize sealRecord l r ok s.quiet = t at htook hmask hruns ⊢
      exact ⟨_, rfl, htook.fixed, congrArg s.fixed hmask, hruns⟩
  · exact ⟨_, rfl, congrArg s.fixed (sealDeadline_early (s := s.quiet) h)⟩
  · intro hlive hbegun hin hu hlate hais
    rw [sealDeadline_missing (s := s.quiet) hlive hbegun hin hu hlate hais]
    obtain ⟨hless, -, hctr⟩ := s.quiet.verdictFail_spec k 3
    obtain ⟨-, hrun, -⟩ := s.quiet.verdictFail_runs k 3
    have hthird (h : 2 ≤ (s.rxS k).failRun) := State.verdictFail_third (s := s.quiet) h 3
    generalize s.quiet.verdictFail k 3 = t at hless hctr hrun hthird ⊢
    exact ⟨_, rfl, congrArg s.fixed (State.eq_of_lessVerdicts hless), hrun, hthird, hctr⟩
  · refine ⟨_, rfl, ?_⟩
    rw [holdEnd_eq (s := s.quiet) h]
    exact ⟨rfl, fun j => s.quiet.rxS_modRx ..⟩

end Sys2Proof.Machine
end

section
/-! PROOFS. A guarded message joins its channel's queue, and a packet leaves its lane's (02 R53; 11 R302, R303). -/

namespace Sys2Proof.Machine

/-! The message that a session sends (11 R302). -/

theorem State.chan_modChan (s : State) (ch j : Nat) (f : Channel → Channel) :
    (s.modChan ch f).chan j = if j = ch then f (s.chan ch) else s.chan j := tget_tmod ..

/-- A message under the next sequence number is sealed and queued. -/
def State.queued (s : State) (ch : Nat) (k : BitVec 256) (m : Bytes) : State :=
  (s.cipherJob m.length).modChan ch fun x => { x with
    next := x.next + 1, queue := x.queue ++ [guardedData ch k (s.cfgF 0x5E10 1 ch 1) (s.chan ch).next m] }

theorem State.queued_chan (s : State) (ch j : Nat) (k : BitVec 256) (m : Bytes) :
    (s.queued ch k m).chan j = if j = ch then { s.chan ch with
      next := (s.chan ch).next + 1, queue := (s.chan ch).queue ++ [guardedData ch k (s.cfgF 0x5E10 1 ch 1) (s.chan ch).next m] } else s.chan j := by
  have hc (j : Nat) : (s.cipherJob m.length).chan j = s.chan j := by simp [State.chan]
  rw [State.queued, State.chan_modChan, hc, hc]

/-- Queueing writes the channels and the work of the cipher engines. -/
theorem State.queued_lessAnswers (s : State) (ch : Nat) (k : BitVec 256) (m : Bytes) :
    { (s.queued ch k m).lessAnswers with sealing.channels := s.sealing.channels } = s.lessAnswers := by
  have h := congrArg (fun w : State => { w with sealing.channels := s.sealing.channels }) (s.cipherJob_lessAnswers m.length true)
  exact h

theorem effSend_ok {s : State} {ch : Nat} {m : Bytes} {k : KeyVal} (hk : (s.chan ch).key = some k) (hl : s.cfgF 0x5E10 1 ch 0 < 48)
    (h9 : (s.lane (s.cfgF 0x5E10 1 ch 0)).bring.stage = 9) (hq : (s.chan ch).queue.length < 16) (x : Session) (vs : List Nat) :
    effSend ch m x vs s = ok (s.queued ch k.key m) := by
  simp only [effSend, hk, h9, Nat.not_le.mpr hl, Nat.not_le.mpr hq, ne_eq, not_true, if_false]
  rfl

/-- A write of 5E10:03 that is accepted has no audit record (15 R395). -/
theorem writeBody_send {q : Req} (hi : q.index = 0x5E10) (hsub : q.sub = 3) {eff : Session → List Nat → State → Act} {x : Session} {s u : State}
    {o : Obj} (hc : s.writeCheck q x.role = .ok o) (he : eff x (o.split q.value) s = ok u) : writeBody q eff x s = ok u := by
  simp only [writeBody, hc, he, ok, audited, hi, hsub, and_self, true_or, if_true]

/-- A request whose body applies is answered with the status that the body gives, and the answer changes what answers change. -/
theorem run_request_done {op : Nat} {q : Req} {x : Session} {s : State} (h : TakenUp op q x s) (hop : op < 128) (hm : makerOwn op q x = false)
    {body : Session → State → Act} {u : State} (hb : body x (s.quiet.heard q.session) = ok u)
    (hsess : u.session? q.session = (s.quiet.heard q.session).session? q.session) :
    ∃ t, run (request op q body) s = .next (s.fixed t) ∧ Answered op q 0 (s.fixed t) ∧ t.lessAnswers = u.lessAnswers := by
  have hx := hsess.trans h.quiet.session
  have hr : request op q body s.quiet = u.respond op q {} := by
    rw [request_up h.quiet hm, hb]
    rfl
  obtain ⟨_, _, hrole, _, _, _, _, _, hsend, hrecv⟩ := h
  rw [State.respond_eq _ op q _ _ hx hrole hsend hrecv] at hr
  refine ⟨_, congrArg (fun t => Host.Outcome.next (s.fixed t)) hr, ⟨respOf op q {}, ?_, congrArg (· + 128) (Nat.mod_eq_of_lt hop), rfl, rfl⟩,
    u.answered_lessAnswers ..⟩
  show _ ∈ (u.answered op q {}).out
  rw [State.answered_out _ op q _ _ hx hrole]
  simp

/-- A message is sent: it joins the queue of its channel, and no other channel changes. -/
structure SentMessage (s : State) (ch : Nat) (k : BitVec 256) (m : Bytes) (t : State) : Prop where
  chan : ∀ j, t.chan j = if j = ch then { s.chan ch with
    next := (s.chan ch).next + 1, queue := (s.chan ch).queue ++ [guardedData ch k (s.cfgF 0x5E10 1 ch 1) (s.chan ch).next m] } else s.chan j
  less : { t.lessAnswers with sealing.channels := s.sealing.channels } = s.lessAnswers

theorem SentMessage.of_queued {s t : State} {i ch : Nat} {k : BitVec 256} {m : Bytes}
    (h : t.lessAnswers = ((s.quiet.heard i).queued ch k m).lessAnswers) : SentMessage s ch k m (s.fixed t) := by
  have hchan (j : Nat) : (s.quiet.heard i).chan j = s.chan j := by simp [State.chan]
  have hcfg : (s.quiet.heard i).cfgF 0x5E10 1 ch 1 = s.cfgF 0x5E10 1 ch 1 := by simp
  have hsealing : (s.quiet.heard i).sealing = s.sealing := by simp
  constructor
  · intro j
    have hj : t.lessAnswers.chan j = ((s.quiet.heard i).queued ch k m).chan j := (congrArg (fun w : State => w.chan j) h :)
    rw [State.queued_chan, hchan, hchan, hcfg] at hj
    exact hj
  · have hq := (s.quiet.heard i).queued_lessAnswers ch k m
    rw [← h, State.heard_lessAnswers, hsealing] at hq
    exact congrArg s.fixed hq

section

variable {s : State} {rq : Rq} {x : Session} {ch : Nat} {m : Bytes} {k : KeyVal} (hk : (s.chan ch).key = some k)
  (hl : s.cfgF 0x5E10 1 ch 0 < 48) (h9 : (s.lane (s.cfgF 0x5E10 1 ch 0)).bring.stage = 9) (hq : (s.chan ch).queue.length < 16)
include hk hl h9 hq

/-- Whichever request brings the whole message, its effect is the same (11 R302). -/
theorem run_request_send {op : Nat} {q : Req} (h : TakenUp op q x s) (hop : op < 128) (hm : makerOwn op q x = false)
    (hc : ∃ o, s.writeCheck (writeReq rq 0x5E10 3 ch m) x.role = .ok o) :
    ∃ t, run (request op q (writeBody (writeReq rq 0x5E10 3 ch m) (effSend ch m))) s = .next t ∧ Answered op q 0 t ∧
      SentMessage s ch k.key m t := by
  obtain ⟨o, hc⟩ := hc
  have hcheck : (s.quiet.heard q.session).writeCheck (writeReq rq 0x5E10 3 ch m) x.role = .ok o :=
    (State.heard_writeCheck s.quiet q.session x h.2.1 h.2.2.1 ..).trans hc
  have hchan : (s.quiet.heard q.session).chan ch = s.chan ch := by simp [State.chan]
  have hcfg (n : Nat) : (s.quiet.heard q.session).cfgF 0x5E10 1 ch n = s.cfgF 0x5E10 1 ch n := by simp
  have heff := effSend_ok (s := s.quiet.heard q.session) (m := m) (hchan ▸ hk) (hcfg 0 ▸ hl) (by simpa using h9) (hchan ▸ hq) x (o.split m)
  obtain ⟨t, hrun, hans, hless⟩ := run_request_done h hop hm (writeBody_send rfl rfl hcheck heff) (State.cipherJob_session? ..)
  exact ⟨_, hrun, hans, .of_queued hless⟩

end

theorem execSendMessage_short {m : Bytes} (h : m.length ≤ 1396) (rq : Rq) (ch : Nat) (s : State) :
    execSendMessage rq ch m s = run (writeOf rq 0x5E10 3 ch m (effSend ch m)) s := if_pos h

theorem execSendMessage_long {m : Bytes} (h : 1396 < m.length) (rq : Rq) (ch : Nat) (s : State) :
    execSendMessage rq ch m s = run (request 5 (sendReq rq ch m) (writeBody (writeReq rq 0x5E10 3 ch m) (effSend ch m))) s :=
  if_neg (Nat.not_le.mpr h)

/-! Packets (02 R53; 11 R303). -/

/-- The oldest packet of a lane's time channel, and of its data channel, leaves its queue. -/
def State.popTime (s : State) (l : LaneId) (ps : List (PtpStamp × Bytes)) : State :=
  s.modLane l fun x => { x with ch := { x.ch with timeRx := { x.ch.timeRx with ready := ps } } }

def State.popData (s : State) (l : LaneId) (ps : List (PtpStamp × Bytes)) : State :=
  s.modLane l fun x => { x with ch := { x.ch with dataRx := { x.ch.dataRx with ready := ps } } }

/-- A data packet that is not bad makes room for its bytes. -/
def State.takeData (s : State) (l : LaneId) (ps : List (PtpStamp × Bytes)) (n : Nat) : State :=
  (s.popData l ps).modLane l fun x => { x with ch := { x.ch with dataQueue := x.ch.dataQueue - n } }

theorem State.popTime_lane (s : State) (l : LaneId) (ps : List (PtpStamp × Bytes)) : (s.popTime l ps).lane l =
    { s.lane l with ch := { (s.lane l).ch with timeRx := { (s.lane l).ch.timeRx with ready := ps } } } := State.lane_modLane_same ..

theorem State.popData_lane (s : State) (l : LaneId) (ps : List (PtpStamp × Bytes)) : (s.popData l ps).lane l =
    { s.lane l with ch := { (s.lane l).ch with dataRx := { (s.lane l).ch.dataRx with ready := ps } } } := State.lane_modLane_same ..

theorem State.popTime_odd_lane (s : State) (l : LaneId) (ps : List (PtpStamp × Bytes)) : ((s.popTime l ps).oddPacket l).lane l =
    { s.lane l with ch := { (s.lane l).ch with
      timeRx := { (s.lane l).ch.timeRx with ready := ps }, oddTypes := (s.lane l).ch.oddTypes + 1 } } := by
  rw [State.oddPacket, State.lane_modLane_same, State.popTime_lane]

theorem State.takeData_ready (s : State) (l : LaneId) (ps : List (PtpStamp × Bytes)) (n : Nat) :
    ((s.takeData l ps n).lane l).ch.dataRx.ready = ps := by
  rw [State.takeData, State.lane_modLane_same, State.popData_lane]

theorem State.takeData_onlyLane (s : State) (l : LaneId) (ps : List (PtpStamp × Bytes)) (n : Nat) : OnlyLane l s (s.takeData l ps n) :=
  (OnlyLane.modLane ..).trans (.modLane ..)

section

variable {s : State} {l : LaneId} {p : PtpStamp × Bytes} {ps : List (PtpStamp × Bytes)}

section

variable (hr : (s.lane l).ch.timeRx.ready = p :: ps)
include hr

theorem timePacketIn_bad (hd : packetData 512 p.2 = none) : timePacketIn l s = (s.popTime l ps).count 0x3050 7 0 l := by
  simp only [timePacketIn, hr, hd]
  rfl

theorem timePacketIn_odd {d : Bytes} (hd : packetData 512 p.2 = some d) (ht : field d 0 1 ≠ 1) :
    timePacketIn l s = (s.popTime l ps).oddPacket l := by
  simp only [timePacketIn, hr, hd, ht, if_false]
  rfl

end

variable (hup : s.sup.up = true) (hr : (s.lane l).ch.dataRx.ready = p :: ps)
include hup hr

theorem dataPacketIn_bad (hd : packetData 1536 p.2 = none) : dataPacketIn l s = (s.popData l ps).count 0x3050 7 0 l := by
  simp only [dataPacketIn, hup, hr, hd]
  rfl

theorem dataPacketIn_guarded {d : Bytes} {ch : Nat} (hd : packetData 1536 p.2 = some d) (hch : ch < 8) (ht : field d 0 1 = 0x10 + ch) :
    dataPacketIn l s = (s.takeData l ps p.2.length).guardedIn l ch (d.drop 1) := by
  have h1 : ¬0x10 + ch = 1 := by omega
  have hrange : 0x10 ≤ 0x10 + ch ∧ 0x10 + ch ≤ 0x17 := by omega
  simp only [dataPacketIn, hup, hr, hd, ht, h1, hrange, and_self, if_true, if_false, Nat.add_sub_cancel_left]
  rfl

end

/-- A guarded message that opened is counted, and its sequence is the channel's last (11 R303). -/
def State.acceptMessage (s : State) (ch n seq : Nat) : State :=
  ((s.cipherJob n).count 0x5E10 4 5 ch).modChan ch fun x => { x with last := seq }

theorem State.acceptMessage_chan (s : State) (ch n seq j : Nat) :
    (s.acceptMessage ch n seq).chan j = if j = ch then { s.chan ch with last := seq } else s.chan j := by
  have hc (j : Nat) : ((s.cipherJob n).count 0x5E10 4 5 ch).chan j = s.chan j := by simp [State.chan]
  rw [State.acceptMessage, State.chan_modChan, hc, hc]

theorem State.acceptMessage_ctr (s : State) (ch n seq : Nat) :
    (s.acceptMessage ch n seq).ctr 0x5E10 4 5 ch = (s.ctr 0x5E10 4 5 ch + 1) % 4294967296 := by
  have hc : (s.cipherJob n).ctr 0x5E10 4 5 ch = s.ctr 0x5E10 4 5 ch := by simp [State.ctr]
  exact ((s.cipherJob n).ctr_count ..).trans (by rw [hc])

theorem State.acceptMessage_store (s : State) (ch n seq : Nat) :
    (s.acceptMessage ch n seq).store = s.store ∧ (s.acceptMessage ch n seq).persist = s.persist := by
  simp [State.acceptMessage, State.modChan]

/-- The fragments of a message go to a hopper of the right kind (11 R303). -/
def State.deliverMessage (s : State) (h : Nat) (es : List Bytes) : State :=
  if s.hopKind h = 7 then s.each es fun e s => s.postUnit h [e] else s

theorem State.deliverMessage_off {s : State} {h : Nat} (hk : s.hopKind h ≠ 7) (es : List Bytes) : s.deliverMessage h es = s := if_neg hk

theorem State.deliverMessage_chan (s : State) (h : Nat) (es : List Bytes) (j : Nat) : (s.deliverMessage h es).chan j = s.chan j := by
  rw [State.deliverMessage]
  split
  · exact State.each_keep (fun w => w.chan j) _ _ (fun e w => by simp [State.chan]) s
  · rfl

theorem State.deliverMessage_ctr {i b f e : Nat} (hoff : OffHoppers i b f e) (s : State) (h : Nat) (es : List Bytes) :
    (s.deliverMessage h es).ctr i b f e = s.ctr i b f e := by
  rw [State.deliverMessage]
  split
  · exact State.each_keep (fun w => w.ctr i b f e) _ _ (fun e w => State.postUnit_ctr hoff ..) s
  · rfl

section

variable {s : State} {l : LaneId} {ch : Nat} {body : Bytes} {k : KeyVal} (hl : s.cfgF 0x5E10 1 ch 0 = (l : Nat)) (hk : (s.chan ch).key = some k)
  (hb : 25 ≤ body.length) (hseq : (s.chan ch).last < field body 0 8)
include hl hk hb hseq

theorem State.guardedIn_none (hg : gcmOpen k.key (ivOf (s.cfgF 0x5E10 1 ch 2) (field body 0 8)) (beBytes 1 (0x10 + ch)) (body.drop 8) = none) :
    s.guardedIn l ch body = (s.cipherJob (body.length - 8) false).count 0x5E10 4 6 ch := by
  have hok : ¬(body.length < 25 ∨ field body 0 8 ≤ (s.chan ch).last) := by omega
  simp only [State.guardedIn, hl, hk, hok, hg, ne_eq, not_true, if_false]

theorem State.guardedIn_some {m : Bytes}
    (hg : gcmOpen k.key (ivOf (s.cfgF 0x5E10 1 ch 2) (field body 0 8)) (beBytes 1 (0x10 + ch)) (body.drop 8) = some m) :
    s.guardedIn l ch body =
      (s.acceptMessage ch (body.length - 8) (field body 0 8)).deliverMessage (s.cfgF 0x5E10 1 ch 3) (fragments ch m.length m.length 0 m) := by
  have hok : ¬(body.length < 25 ∨ field body 0 8 ≤ (s.chan ch).last) := by omega
  have hcfg : (s.acceptMessage ch (body.length - 8) (field body 0 8)).cfgF 0x5E10 1 ch 3 = s.cfgF 0x5E10 1 ch 3 := by
    simp [State.cfgF, State.val, State.acceptMessage_store]
  simp only [State.guardedIn, hl, hk, hok, hg, ne_eq, not_true, if_false]
  rw [← hcfg]
  rfl

/-- An accepted message sets its channel's last sequence, and without a hopper of its kind no entry is written (11 R303). -/
theorem State.guardedIn_accepts (hch : ch < 8) {m : Bytes}
    (hg : gcmOpen k.key (ivOf (s.cfgF 0x5E10 1 ch 2) (field body 0 8)) (beBytes 1 (0x10 + ch)) (body.drop 8) = some m) :
    (∀ j, (s.guardedIn l ch body).chan j = if j = ch then { s.chan ch with last := field body 0 8 } else s.chan j) ∧
    (s.guardedIn l ch body).ctr 0x5E10 4 5 ch = (s.ctr 0x5E10 4 5 ch + 1) % 4294967296 ∧
    (s.hopKind (s.cfgF 0x5E10 1 ch 3) ≠ 7 → (s.guardedIn l ch body).store = s.store) := by
  have hoff : OffHoppers 0x5E10 4 5 ch := fun n h => by
    unfold ctrKey
    omega
  rw [State.guardedIn_some hl hk hb hseq hg]
  refine ⟨fun j => ?_, ?_, fun h => ?_⟩
  · rw [State.deliverMessage_chan, State.acceptMessage_chan]
  · rw [State.deliverMessage_ctr hoff, State.acceptMessage_ctr]
  · rw [State.deliverMessage_off, (s.acceptMessage_store ..).1]
    simpa [State.hopKind, State.cfgF, State.val, State.acceptMessage_store] using h

/-- A message that does not open is counted as discarded (11 R303). -/
theorem State.guardedIn_rejects
    (hg : gcmOpen k.key (ivOf (s.cfgF 0x5E10 1 ch 2) (field body 0 8)) (beBytes 1 (0x10 + ch)) (body.drop 8) = none) :
    (∀ j, (s.guardedIn l ch body).chan j = s.chan j) ∧
    (s.guardedIn l ch body).ctr 0x5E10 4 6 ch = (s.ctr 0x5E10 4 6 ch + 1) % 4294967296 ∧ (s.guardedIn l ch body).store = s.store := by
  have hc : (s.cipherJob (body.length - 8) false).ctr 0x5E10 4 6 ch = s.ctr 0x5E10 4 6 ch := by simp [State.ctr]
  rw [State.guardedIn_none hl hk hb hseq hg]
  exact ⟨fun j => by simp [State.chan], (State.ctr_count ..).trans (by rw [hc]), by simp⟩

end

/-- Settles O35: both requests that bring a message run to the same queue, and each packet leaves its lane's queue for the branch its bytes choose. -/
theorem guardedMessagesAndPackets : Obligations.GuardedMessagesAndPackets := by
  unfold Obligations.GuardedMessagesAndPackets
  refine ⟨fun s rq x ch m k hk hl h9 hq => ?_, fun s l p ps => ⟨fun hr hd => ?_, fun d hr hd ht => ?_, fun hup hr hd => ?_, ?_⟩⟩
  · intro sent
    have hsend {op : Nat} {q : Req} (h : TakenUp op q x s) (hop : op < 128) (hi : q.index = 0x5E10) :=
      run_request_send (rq := rq) (m := m) hk hl h9 hq h hop (by simp [makerOwn, hi])
    have hsent {t : State} (h : SentMessage s ch k.key m t) : sent t := ⟨h.chan, h.less⟩
    refine ⟨fun hm h => ?_, fun hm h hc => ?_⟩
    · obtain ⟨t, hrun, hans, h⟩ := hsend h.1 (by decide) rfl h.2.1
      exact ⟨t, (execSendMessage_short hm ..).trans hrun, hans, hsent h⟩
    · obtain ⟨t, hrun, hans, h⟩ := hsend h (by decide) rfl hc
      exact ⟨t, (execSendMessage_long hm ..).trans hrun, hans, hsent h⟩
  · refine ⟨_, congrArg (fun t => Host.Outcome.next (s.fixed t)) (timePacketIn_bad (s := s.quiet) hr hd), ?_, ?_, State.ctr_count ..⟩
    · exact ((OnlyLane.modLane ..).trans (.count ..)).fixed
    · exact s.quiet.popTime_lane l ps
  · refine ⟨_, congrArg (fun t => Host.Outcome.next (s.fixed t)) (timePacketIn_odd (s := s.quiet) hr hd ht), ?_, rfl, ?_⟩
    · exact ((OnlyLane.modLane ..).trans (.modLane ..)).fixed
    · exact s.quiet.popTime_odd_lane l ps
  · refine ⟨_, congrArg (fun t => Host.Outcome.next (s.fixed t)) (dataPacketIn_bad (s := s.quiet) hup hr hd), ?_, ?_, State.ctr_count ..⟩
    · exact ((OnlyLane.modLane ..).trans (.count ..)).fixed
    · exact s.quiet.popData_lane l ps
  · intro d ch k hup hr hd hch ht hl hk hb hseq
    let u := s.quiet.takeData l ps p.2.length
    have hlanes : (u.guardedIn l ch (d.drop 1)).lanes = u.lanes := State.guardedIn_lanes ..
    refine ⟨_, congrArg (fun t => Host.Outcome.next (s.fixed t)) (dataPacketIn_guarded (s := s.quiet) hup hr hd hch ht), ?_, ?_, ?_⟩
    · exact (congrArg (·.ch.dataRx.ready) (State.lane_of_lanes hlanes l)).trans (State.takeData_ready ..)
    · exact fun j hj => (State.lane_of_lanes hlanes j).trans ((s.quiet.takeData_onlyLane l ps _).2 j hj)
    · split
      next m hg => exact State.guardedIn_accepts (s := u) hl hk hb hseq hch hg
      next hg => exact State.guardedIn_rejects (s := u) hl hk hb hseq hg

end Sys2Proof.Machine
end

section
/-! PROOFS. Candidates, frame lock, and the overhead blocks of a frame (02 R35, R60; 04 R97 to R103, R120). -/

namespace Sys2Proof.Machine

/-! The lane after a change: what settling keeps. -/

theorem State.change_lane (s : State) (l : LaneId) (f : Lane → Lane) :
    ((s.change l f).lane l).bring = (f (s.lane l)).bring ∧ ((s.change l f).lane l).df = (f (s.lane l)).df := by
  rw [State.change]
  simp

/-! Overhead blocks (02 R35; 04 R117 to R120). -/

/-- A row from 4 to 15, or above 895, has no field that is read. -/
theorem recvOverhead_blank {s : State} {l : LaneId} {row : Fin 1000} {h : BitVec 2} {w : BitVec 64} {b : Bytes}
    (hb : overheadOf h w = some b) (hr : 3 < (row : Nat) ∧ (row : Nat) < 16 ∨ 895 < (row : Nat)) :
    recvOverhead l row h w s = s := by
  have hch : ¬(16 ≤ (row : Nat) ∧ (row : Nat) ≤ 127) := by omega
  have hseal : ¬(128 ≤ (row : Nat) ∧ (row : Nat) ≤ 895) := by omega
  have h1 : (row : Nat) ≠ 1 := by omega
  have h2 : (row : Nat) ≠ 2 := by omega
  have h3 : (row : Nat) ≠ 3 := by omega
  simp [recvOverhead, hb, hch, hseal, h1, h2, h3]

section

variable {s : State} {l : LaneId} {row : Fin 1000} {h : BitVec 2} {w : BitVec 64} (hl : (s.lane l).df.frameLock = true)
include hl

/-- An errored block outside the rows of the two channels is counted, and its content discarded (02 R35). -/
theorem recvOverhead_errored (hr : 0 < (row : Nat)) (hb : overheadOf h w = none) (hc : ¬(16 ≤ (row : Nat) ∧ (row : Nat) ≤ 127)) :
    recvOverhead l row h w s = s.erroredRow l row := by
  simp [recvOverhead, hl, hb, hc, Nat.ne_of_gt hr]

/-- An errored block of a channel is counted, and lost to the channel (02 R35). -/
theorem recvOverhead_lost (hb : overheadOf h w = none) (hc : 16 ≤ (row : Nat) ∧ (row : Nat) ≤ 127) :
    recvOverhead l row h w s = (s.erroredRow l row).channelRow l row none := by
  have hr : (row : Nat) ≠ 0 := by omega
  simp [recvOverhead, hl, hb, hc, hr]

theorem recvOverhead_seal {b : Bytes} (hb : overheadOf h w = some b) (hr : 127 < (row : Nat)) (hr' : (row : Nat) < 896) :
    recvOverhead l row h w s = s.sealRow l row b := by
  have hch : ¬(16 ≤ (row : Nat) ∧ (row : Nat) ≤ 127) := by omega
  have hseal : 128 ≤ (row : Nat) ∧ (row : Nat) ≤ 895 := by omega
  have h0 : (row : Nat) ≠ 0 := by omega
  have h1 : (row : Nat) ≠ 1 := by omega
  have h2 : (row : Nat) ≠ 2 := by omega
  have h3 : (row : Nat) ≠ 3 := by omega
  simp [recvOverhead, hl, hb, hch, hseal, h0, h1, h2, h3]

theorem recvOverhead_row3 {b : Bytes} (hb : overheadOf h w = some b) (hr : (row : Nat) = 3) : recvOverhead l row h w s = s.row3 l b := by
  simp [recvOverhead, hl, hb, hr]

end

theorem State.erroredRow_onlyLane (s : State) (l : LaneId) (row : Nat) : OnlyLane l s (s.erroredRow l row) :=
  (OnlyLane.count ..).trans (.modLane ..)

theorem State.erroredRow_ctr (s : State) (l : LaneId) (row : Nat) :
    (s.erroredRow l row).ctr 0x3050 0xC 0 l = (s.ctr 0x3050 0xC 0 l + 1) % 4294967296 := s.ctr_count 0x3050 0xC 0 l

/-- Past the rows with fields of their own, an errored block leaves the lane as it is. -/
theorem State.erroredRow_lane (s : State) (l : LaneId) {row : Nat} (hr : 3 < row) : (s.erroredRow l row).lane l = s.lane l := by
  have h1 : row ≠ 1 := by omega
  have h2 : row ≠ 2 := by omega
  have h3 : row ≠ 3 := by omega
  simp [State.erroredRow, h1, h2, h3]

theorem State.channelRow_onlyLane (s : State) (l : LaneId) (row : Nat) (b : Option Bytes) : OnlyLane l s (s.channelRow l row b) := by
  rw [State.channelRow]
  split
  · exact .modLane ..
  · exact (OnlyLane.countN ..).trans (.modLane ..)

theorem State.channelRow_ctr (s : State) (l : LaneId) (row : Nat) (b : Option Bytes) :
    (s.channelRow l row b).ctr 0x3050 0xC 0 l = s.ctr 0x3050 0xC 0 l := by
  rw [State.channelRow]
  split
  · rfl
  · exact s.ctr_countN_other _ _ _ _ _ _ _ _ _ (by unfold ctrKey; omega)

/-- An errored block is counted once, and no lane but its own changes (02 R35). -/
theorem recvOverhead_counted {s : State} {l : LaneId} {row : Fin 1000} {h : BitVec 2} {w : BitVec 64} (hl : (s.lane l).df.frameLock = true)
    (hr : 0 < (row : Nat)) (hb : overheadOf h w = none) :
    OnlyLane l s (recvOverhead l row h w s) ∧
      (recvOverhead l row h w s).ctr 0x3050 0xC 0 l = (s.ctr 0x3050 0xC 0 l + 1) % 4294967296 := by
  by_cases hc : 16 ≤ (row : Nat) ∧ (row : Nat) ≤ 127
  · rw [recvOverhead_lost hl hb hc, State.channelRow_ctr]
    exact ⟨(s.erroredRow_onlyLane ..).trans (State.channelRow_onlyLane ..), s.erroredRow_ctr ..⟩
  · rw [recvOverhead_errored hl hr hb hc]
    exact ⟨s.erroredRow_onlyLane .., s.erroredRow_ctr ..⟩

/-- The records that a row brings: none without multiframe lock or on an IDZ48-M1N, and no empty one (02 R60; 00 R2). -/
def State.rowRecords (s : State) (l : LaneId) (sc : Tab Nat) (row : Nat) : List SealRec :=
  if s.power.ordering && !(s.lane l).d.lom then ((recordsIn sc row).map sealRecOf).filter fun r => r.handle != 0xFFFF else []

theorem State.rowRecords_handle {s : State} {l : LaneId} {sc : Tab Nat} {row : Nat} {r : SealRec} (h : r ∈ s.rowRecords l sc row) :
    r.handle ≠ 0xFFFF := by
  rw [State.rowRecords] at h
  split at h
  · simpa using (List.mem_filter.mp h).2
  · cases h

theorem State.rowRecords_none {s : State} {l : LaneId} (h : s.power.ordering = false ∨ (s.lane l).d.lom = true) (sc : Tab Nat) (row : Nat) :
    s.rowRecords l sc row = [] := by
  rcases h with h | h <;> simp [State.rowRecords, h]

/-- The bytes of a row, and the records that they end, with the frame and the row (04 R120; log entry 152). -/
theorem State.sealRow_lane (s : State) (l : LaneId) (row : Nat) (b : Bytes) : ∃ sc : Tab Nat, (s.sealRow l row b).lane l =
    { s.lane l with ch := { (s.lane l).ch with
      sealIn := sc
      sealWait := (s.lane l).ch.sealWait ++ (s.rowRecords l sc row).map fun r => (1000 * (s.lane l).df.expMfi + row, r) } } :=
  ⟨_, State.lane_modLane_same ..⟩

theorem State.sealRow_spec (s : State) (l : LaneId) (row : Nat) (b : Bytes) :
    ((s.sealRow l row b).lane l = { s.lane l with ch := { (s.lane l).ch with
      sealIn := ((s.sealRow l row b).lane l).ch.sealIn, sealWait := ((s.sealRow l row b).lane l).ch.sealWait } }) ∧
    ∃ new, ((s.sealRow l row b).lane l).ch.sealWait = (s.lane l).ch.sealWait ++ new ∧
      (∀ p ∈ new, p.1 = 1000 * (s.lane l).df.expMfi + row ∧ p.2.handle ≠ 0xFFFF) ∧
      (s.power.ordering = false ∨ (s.lane l).d.lom = true → new = []) := by
  obtain ⟨sc, hlane⟩ := s.sealRow_lane l row b
  rw [hlane]
  refine ⟨rfl, _, rfl, fun p hp => ?_, fun hno => ?_⟩
  · obtain ⟨r, hr, rfl⟩ := List.mem_map.mp hp
    exact ⟨rfl, State.rowRecords_handle hr⟩
  · rw [State.rowRecords_none hno, List.map_nil]

/-- A partner that does not ask for a restart shows its status and coefficients alone (03 R84, R87). -/
theorem State.row3_eq (s : State) (l : LaneId) {b : Bytes} (hb : bit (field b 2 1) 6 = false) :
    s.row3 l b = s.modLane l fun x => { x with tr := { x.tr with
      partnerStatus := field b 2 1, partnerPre := field b 3 1, partnerMain := field b 4 1, partnerPost := field b 5 1, rtrRun := 0 } } := by
  simp [State.row3, hb]

/-! The expected FAB position (04 R99, R103). -/

theorem Lane.goto5_lost (x : Lane) (now : Nat) :
    ((x.goto 5 now).lockDefects).df.frameLock = false ∧ ((x.goto 5 now).lockDefects).bring.stage = 5 := by
  simp [Lane.goto, Lane.below, Lane.lockDefects]

theorem State.change_goto5 (s : State) (l : LaneId) (now : Nat) :
    ((s.change l fun x => (x.goto 5 now).lockDefects).lane l).df.frameLock = false ∧
    ((s.change l fun x => (x.goto 5 now).lockDefects).lane l).bring.stage = 5 := by
  rw [(s.change_lane ..).1, (s.change_lane ..).2]
  exact Lane.goto5_lost ..

theorem State.change_goto5_ctr (s : State) (l : LaneId) (now : Nat) :
    (s.change l fun x => (x.goto 5 now).lockDefects).ctr 0x3050 1 0 l = s.ctr 0x3050 1 0 l :=
  State.change_ctr _ _ _ _ _ _ _ (fun r => by unfold ctrKey; omega) (by unfold ctrKey; omega)

/-- A FAB is missing where the lane expects the frame e. -/
def State.missFab (s : State) (l : LaneId) (e : Nat × Nat) : State :=
  (s.modLane l fun x => { x with df := { x.df with expMfi := e.1, expSfi := e.2 } }).fabMissing l

theorem State.missFab_onlyLane (s : State) (l : LaneId) (e : Nat × Nat) : OnlyLane l s (s.missFab l e) :=
  (OnlyLane.modLane ..).trans ((OnlyLane.count ..).trans (.modLane ..))

theorem State.missFab_ctr (s : State) (l : LaneId) (e : Nat × Nat) :
    (s.missFab l e).ctr 0x3050 1 0 l = (s.ctr 0x3050 1 0 l + 1) % 4294967296 := s.ctr_count 0x3050 1 0 l

/-- A lane that misses its FAB for the fourth time in a row goes back to stage 5 (04 R99). -/
theorem fabAt_lost {s : State} {l : LaneId} {h : BitVec 2} {w : BitVec 64} (hf : fabOf h w = none) (hl : (s.lane l).df.frameLock = true)
    (hm : 3 ≤ (s.lane l).df.missRun) :
    fabAt l h w s = (s.missFab l (nextMulti ((s.lane l).df.expMfi, (s.lane l).df.expSfi))).change l
      fun x => (x.goto 5 s.now).lockDefects := by
  have hfour : 4 ≤ (s.lane l).df.missRun + 1 := by omega
  simp only [fabAt, hf, hl, hfour, if_true, State.change_goto5, Bool.false_eq_true, if_false]
  rfl

/-! A received multiframe (11 R281, R289, R290): all that it changes of a lane are its channels and its bay. -/

theorem State.verdictNone_lessVerdicts (s : State) (k : Nat) : (s.verdictNone k).lessVerdicts = s.lessVerdicts := rfl

theorem State.judge_lessVerdicts (s : State) (k p : Nat) (r : SealRec) : (s.judge k p r).lessVerdicts = s.lessVerdicts := by
  simp only [State.judge]
  repeat' split
  all_goals simp only [State.verdictNone_lessVerdicts, (State.verdictFail_spec ..).1, (State.verdictOk_spec ..).1]

theorem State.noRecord_lessVerdicts (s : State) (k : Nat) : (s.noRecord k).lessVerdicts = s.lessVerdicts := by
  rw [State.noRecord]
  split
  · rfl
  · exact (s.verdictFail_spec ..).1

theorem State.checkRxKey_lessVerdicts (s : State) (k : Nat) : (s.checkRxKey k).lessVerdicts = s.lessVerdicts := by
  simp only [State.checkRxKey]
  rw [State.settleRx_lessVerdicts]
  split <;> rfl

/-- All but what the unsealing of a lane's streams, and what lanes share, write. -/
def State.lessUnseal (s : State) : State := { s.lessLanes with sealing.rx := [], pm.stream := [] }

/-- The unsealing of a lane's streams goes on: of lanes, the channels and the bay of its own alone change. -/
structure Unseals (l : Nat) (s t : State) : Prop where
  less : t.lessUnseal = s.lessUnseal
  others : ∀ k, k ≠ l → t.lane k = s.lane k
  df : (t.lane l).df = (s.lane l).df
  bring : (t.lane l).bring = (s.lane l).bring

theorem Unseals.refl (l : Nat) (s : State) : Unseals l s s := ⟨rfl, fun _ _ => rfl, rfl, rfl⟩

theorem Unseals.trans {l : Nat} {s t u : State} (h : Unseals l s t) (k : Unseals l t u) : Unseals l s u :=
  ⟨k.less.trans h.less, fun n hn => (k.others n hn).trans (h.others n hn), k.df.trans h.df, k.bring.trans h.bring⟩

theorem Unseals.each {l : Nat} {α : Type} {f : α → State → State} (h : ∀ a s, Unseals l s (f a s)) (as : List α) (s : State) :
    Unseals l s (s.each as f) := by
  induction as generalizing s with
  | nil => exact .refl ..
  | cons a as ih => exact (h a s).trans (ih (f a s))

/-- A verdict leaves the lanes. -/
theorem Unseals.of_lessVerdicts {s t : State} (h : t.lessVerdicts = s.lessVerdicts) (l : Nat) : Unseals l s t := by
  have hl (k : Nat) : t.lane k = s.lane k := (congrArg (fun w : State => w.lane k) h :)
  exact ⟨(congrArg State.lessUnseal h :), fun k _ => hl k, congrArg Lane.df (hl l), congrArg Lane.bring (hl l)⟩

theorem Unseals.count (s : State) (l i b f e : Nat) : Unseals l s (s.count i b f e) :=
  .of_lessVerdicts (s := s) (t := s.count i b f e) rfl l

theorem Unseals.modRx (s : State) (l k : Nat) (f : RxStream → RxStream) : Unseals l s (s.modRx k f) :=
  .of_lessVerdicts (s := s) (t := s.modRx k f) rfl l

theorem Unseals.modLane (s : State) (l : Nat) {f : Lane → Lane} (hd : ∀ x, (f x).df = x.df) (hb : ∀ x, (f x).bring = x.bring) :
    Unseals l s (s.modLane l f) := by
  refine ⟨rfl, fun k hk => ?_, ?_, ?_⟩
  · rw [State.lane_modLane, if_neg hk]
  · rw [State.lane_modLane_same, hd]
  · rw [State.lane_modLane_same, hb]

theorem Unseals.takeRecord (s : State) (l : LaneId) (p : Nat) (r : SealRec) : Unseals l s (s.takeRecord l p r) := by
  have hsaw := Unseals.modLane s l (f := fun x => { x with ch := { x.ch with sealSeen := r.handle :: x.ch.sealSeen } }) (fun _ => rfl) fun _ => rfl
  simp only [State.takeRecord]
  split
  · exact .refl ..
  split
  · exact .count ..
  split
  · exact .count ..
  split
  · exact hsaw.trans (.count ..)
  split
  · exact hsaw.trans (.of_lessVerdicts (State.judge_lessVerdicts ..) l)
  · exact hsaw

theorem Unseals.closeInterval (s : State) (l : LaneId) : Unseals l s (s.closeInterval l) := by
  simp only [State.closeInterval]
  refine .trans (.trans (.modLane _ _ ?_ ?_) (.each (fun p s => ?_) _ _)) (.each (fun k s => ?_) _ _)
  · exact fun _ => rfl
  · exact fun _ => rfl
  · exact .takeRecord ..
  · exact .of_lessVerdicts (State.noRecord_lessVerdicts ..) l

theorem Unseals.rxMultiframe (s : State) (l : LaneId) : Unseals l s (s.rxMultiframe l) := by
  simp only [State.rxMultiframe]
  refine .trans (.trans (.closeInterval s l) (.modLane _ _ ?_ ?_)) (.each (fun k s => ?_) _ _)
  · exact fun _ => rfl
  · exact fun _ => rfl
  · exact (Unseals.modRx ..).trans (.of_lessVerdicts (State.checkRxKey_lessVerdicts ..) l)

theorem Unseals.multiframeAt (s : State) (l : LaneId) (mfi : Nat) : Unseals l s (s.multiframeAt l mfi) := by
  rw [State.multiframeAt]
  split
  · exact .rxMultiframe ..
  · exact .refl ..

theorem State.multiframeAt_other (s : State) (l : LaneId) {mfi : Nat} (h : mfi ≠ 0) : s.multiframeAt l mfi = s := if_neg h

/-! The identity of a lane (03 R88). -/

theorem Lane.goto8_keeps (x : Lane) (now : Nat) : (x.goto 8 now).df = x.df ∧ (x.goto 8 now).bring.stage = 8 := by
  simp [Lane.goto, Lane.below]

theorem State.identify_spec (s : State) (l : LaneId) (tag : Nat) :
    OnlyLane l s (s.identify l tag) ∧ ((s.identify l tag).lane l).df = (s.lane l).df ∧
    (((s.identify l tag).lane l).bring.stage = (s.lane l).bring.stage ∨ ((s.identify l tag).lane l).bring.stage = 8) := by
  simp only [State.identify]
  refine ⟨.change .., ?_, ?_⟩
  · rw [(s.change_lane ..).2]
    split
    · rfl
    · exact ((s.lane l).goto8_keeps s.now).1
  · rw [(s.change_lane ..).1]
    split
    · exact .inl rfl
    · exact .inr ((s.lane l).goto8_keeps s.now).2

theorem State.tryIdentify_spec (s : State) (l : LaneId) :
    OnlyLane l s (s.tryIdentify l) ∧ ((s.tryIdentify l).lane l).df = (s.lane l).df ∧
    (((s.tryIdentify l).lane l).bring.stage = (s.lane l).bring.stage ∨ ((s.tryIdentify l).lane l).bring.stage = 8) := by
  rw [State.tryIdentify]
  split
  · exact s.identify_spec ..
  · exact ⟨.refl .., rfl, .inl rfl⟩

/-- The identity is not taken from fewer than three FABs with one tag (03 R88). -/
theorem State.tryIdentify_waits {s : State} {l : LaneId} (h : (s.lane l).bring.tagRun ≠ 3) : s.tryIdentify l = s := by
  simp [State.tryIdentify, State.mayIdentify, h]

/-! Candidates (04 R97, R98, R102). -/

/-- Frame lock is declared on a candidate: the part that its lane alone sees. -/
def State.lockOn (s : State) (l : LaneId) (c : Cand) : State :=
  s.change l fun x =>
    let x := if x.bring.stage < 7 then x.goto 7 s.now else x
    let x := Lane.lockDefects { x with df := { x.df with
      frameLock := true, lockPos := c.pos, cands := [], missRun := 0, lockMissed := false, disRun := 0
      expMfi := c.mfi, expSfi := c.sfi, lastFab := some (c.mfi, c.sfi) } }
    let x := { x with
      d := { x.d with lom := !c.consecutive }
      bring := { x.bring with tagRun := min 3 c.tagRun, tagSeen := c.tag, groups := [none] }
      bay := { x.bay with aligned := false, alignRun := 0, fabB := s.fabSnapshot l, fabN := s.fabFrame l }
      par := { x.par with bipPrev := none } }
    x.newFrame c.mfi (s.fabArrival l)

theorem State.frameLocked_eq (s : State) (l : LaneId) (c : Cand) : s.frameLocked l c = ((s.lockOn l c).multiframeAt l c.mfi).tryIdentify l := rfl

theorem Lane.goto7_shown (x : Lane) (now : Nat) : (x.goto 7 now).df.shownFab = x.df.shownFab ∧ (x.goto 7 now).bring.stage = 7 := by
  simp [Lane.goto, Lane.below]

theorem State.lockOn_lane {s : State} {l : LaneId} (h6 : (s.lane l).bring.stage < 7) (c : Cand) :
    ((s.lockOn l c).lane l).df.frameLock = true ∧ ((s.lockOn l c).lane l).df.lockPos = c.pos ∧ ((s.lockOn l c).lane l).df.expMfi = c.mfi ∧
    ((s.lockOn l c).lane l).df.expSfi = c.sfi ∧ ((s.lockOn l c).lane l).df.shownFab = (s.lane l).df.shownFab ∧
    ((s.lockOn l c).lane l).bring.stage = 7 ∧ ((s.lockOn l c).lane l).bring.tagRun = min 3 c.tagRun := by
  rw [State.lockOn, (s.change_lane ..).1, (s.change_lane ..).2]
  simp [h6, Lane.newFrame, Lane.lockDefects, Lane.goto7_shown]

/-- The frame lock that a candidate brings (04 R98, R102; 03 R88). -/
structure LocksOn (l : LaneId) (c : Cand) (shown : Option (Nat × Nat)) (s t : State) : Prop where
  less : t.lessUnseal = s.lessUnseal
  others : ∀ k, k ≠ (l : Nat) → t.lane k = s.lane k
  only : c.mfi ≠ 0 → OnlyLane l s t
  lock : (t.lane l).df.frameLock = true
  pos : (t.lane l).df.lockPos = c.pos
  mfi : (t.lane l).df.expMfi = c.mfi
  sfi : (t.lane l).df.expSfi = c.sfi
  shown : (t.lane l).df.shownFab = shown
  stage : (t.lane l).bring.stage = 7 ∨ (t.lane l).bring.stage = 8
  early : c.tagRun < 3 → (t.lane l).bring.stage = 7

theorem OnlyLane.lessUnseal {l : Nat} {s t : State} (h : OnlyLane l s t) : t.lessUnseal = s.lessUnseal :=
  congrArg (fun w : State => { w with sealing.rx := [], pm.stream := [] }) h.1

theorem LocksOn.frameLocked {s : State} {l : LaneId} (h6 : (s.lane l).bring.stage < 7) (c : Cand) :
    LocksOn l c (s.lane l).df.shownFab s (s.frameLocked l c) := by
  have hlock : OnlyLane l s (s.lockOn l c) := .change ..
  have hun := Unseals.multiframeAt (s.lockOn l c) l c.mfi
  obtain ⟨hid, hdf, hstage⟩ := ((s.lockOn l c).multiframeAt l c.mfi).tryIdentify_spec l
  obtain ⟨hfl, hpos, hmfi, hsfi, hshown, h7, hrun⟩ := State.lockOn_lane h6 c
  rw [hun.bring, h7] at hstage
  rw [← hun.df, ← hdf] at hfl hpos hmfi hsfi hshown
  rw [State.frameLocked_eq]
  refine ⟨?_, fun k hk => ?_, fun h => ?_, hfl, hpos, hmfi, hsfi, hshown, hstage, fun h => ?_⟩
  · exact hid.lessUnseal.trans (hun.less.trans hlock.lessUnseal)
  · exact (hid.2 k hk).trans ((hun.others k hk).trans (hlock.2 k hk))
  · rw [State.multiframeAt_other _ _ h] at hid ⊢
    exact hlock.trans hid
  · rw [State.tryIdentify_waits, hun.bring, h7]
    rw [hun.bring, hrun]
    omega

/-- A candidate has seen a further FAB (04 R97, R102). -/
def Cand.seen (c : Cand) (f : Fab) : Cand :=
  { c with
    count := c.count + 1, mfi := f.mfi, sfi := f.sfi, tag := f.tag, tagRun := if f.tag = c.tag then min 3 (c.tagRun + 1) else 1
    frame := { mfi := f.mfi, arr := c.frame.arr + 125000 }, bip := 0, rows := []
    consecutive := c.consecutive && (nextMulti (c.mfi, c.sfi) == (f.mfi, f.sfi)) }

/-- The FAB of the candidate at a position is shown, and the candidate has seen it. -/
def State.showFab (s : State) (l : LaneId) (pos : Nat) (c : Cand) (f : Fab) : State :=
  s.modLane l fun x => { x with df := { x.df with
    cands := x.df.cands.map fun d => if d.pos == pos then c.seen f else d, shownFab := some (f.mfi, f.sfi) } }

section

variable {s : State} {l : LaneId} {h : BitVec 2} {w : BitVec 64} {c : Cand} {pos : Nat}
  (hc : (s.lane l).df.cands.find? (fun c => c.pos == pos) = some c) (hi : c.inverted = false)
include hc hi

theorem candAt_missed (hf : fabOf h w = none) :
    candAt l pos h w s = s.modLane l fun x => { x with df := { x.df with cands := x.df.cands.filter fun d => d.pos != pos } } := by
  simp only [candAt, hc, hi, hf, Bool.false_eq_true, if_false]

/-- The third FAB of a candidate declares frame lock on it (04 R98). -/
theorem candAt_locks {f : Fab} (hf : fabOf h w = some f) (hn : c.count = 2) (h6 : (s.lane l).bring.stage = 6)
    (hl : (s.lane l).df.frameLock = false) :
    candAt l pos h w s = (s.showFab l pos c f).frameLocked l { c.seen f with inverted := false } := by
  have h5 : (s.lane l).bring.stage ≠ 5 := by omega
  have h3 : 3 ≤ c.count + 1 := by omega
  simp only [candAt, State.showFab, Cand.seen, hc, hi, hf, hl, h5, h3, false_and, Bool.false_eq_true, if_false, if_true]

end

theorem State.showFab_lane (s : State) (l : LaneId) (pos : Nat) (c : Cand) (f : Fab) :
    ((s.showFab l pos c f).lane l).df.shownFab = some (f.mfi, f.sfi) ∧ ((s.showFab l pos c f).lane l).bring = (s.lane l).bring := by
  rw [State.showFab, State.lane_modLane_same]
  exact ⟨rfl, rfl⟩

/-- The third FAB of a candidate in stage 6 locks the lane onto it (04 R98). -/
theorem candAt_locksOn {s : State} {l : LaneId} {h : BitVec 2} {w : BitVec 64} {c : Cand} {pos : Nat} {f : Fab}
    (hc : (s.lane l).df.cands.find? (fun c => c.pos == pos) = some c) (hi : c.inverted = false) (hf : fabOf h w = some f) (hn : c.count = 2)
    (h6 : (s.lane l).bring.stage = 6) (hl : (s.lane l).df.frameLock = false) :
    LocksOn l { c.seen f with inverted := false } (some (f.mfi, f.sfi)) s (candAt l pos h w s) := by
  have hshow : OnlyLane l s (s.showFab l pos c f) := .modLane ..
  obtain ⟨hfab, hbring⟩ := s.showFab_lane l pos c f
  have hlock := LocksOn.frameLocked (s := s.showFab l pos c f) (l := l) (by rw [hbring]; omega) { c.seen f with inverted := false }
  rw [hfab] at hlock
  rw [candAt_locks hc hi hf hn h6 hl]
  exact { hlock with
    less := hlock.less.trans hshow.lessUnseal
    others := fun k hk => (hlock.others k hk).trans (hshow.2 k hk)
    only := fun h => hshow.trans (hlock.only h) }

/-- Fewer than three FABs with one tag have come where the tag is a new one, or the second (03 R88). -/
theorem Cand.seen_tagRun {c : Cand} {f : Fab} (h : f.tag ≠ c.tag ∨ c.tagRun < 2) : (c.seen f).tagRun < 3 := by
  simp only [Cand.seen]
  split <;> omega

theorem State.eq_of_lessUnseal {s t : State} (h : t.lessUnseal = s.lessUnseal) :
    { t.lessLanes with sealing.rx := s.sealing.rx, pm.stream := s.pm.stream } = s.lessLanes := by
  have hs := congrArg (fun w : State => { w with sealing.rx := s.sealing.rx, pm.stream := s.pm.stream }) h
  exact hs

theorem exec_candidate (l : LaneId) (pos : Nat) (h : BitVec 2) (w : BitVec 64) (s : State) :
    exec (.candidateExpectedPosition l pos h w) s = .next (s.fixed (candAt l pos h w s.quiet)) := rfl

theorem exec_expectedFab (l : LaneId) (h : BitVec 2) (w : BitVec 64) (s : State) :
    exec (.expectedFabPosition l h w) s = .next (s.fixed (fabAt l h w s.quiet)) := rfl

theorem exec_overhead (l : LaneId) (row : Fin 1000) (h : BitVec 2) (w : BitVec 64) (s : State) :
    exec (.overheadBlockReceived l row h w) s = .next (s.fixed (recvOverhead l row h w s.quiet)) := rfl

/-- Settles O14: the branch that a candidate's FAB, a missing FAB, or an overhead block's row chooses writes what is stated. -/
theorem frameLockAndOverhead : Obligations.FrameLockAndOverhead := by
  unfold Obligations.FrameLockAndOverhead
  simp only [exec_candidate, exec_expectedFab, exec_overhead]
  refine ⟨fun s l h w => ⟨fun c pos hc hi hf => ?_, fun c pos f hc hi hf hn h6 hl => ?_, fun hf hl hm => ?_⟩,
    fun s l row h w hl => ⟨fun hr hb => ?_, fun hr hb => ?_, fun hr hr' hb => ?_, fun b hr hb hrtr => ?_⟩⟩
  · rw [candAt_missed (s := s.quiet) hc hi hf]
    exact ⟨_, rfl, (OnlyLane.modLane ..).fixed, ((State.fixed_reads ..).1 l).trans (State.lane_modLane_same ..)⟩
  · have hlock := candAt_locksOn (s := s.quiet) hc hi hf hn h6 hl
    generalize candAt l pos h w s.quiet = t at hlock ⊢
    exact ⟨_, rfl, fun h => (hlock.only h).fixed, hlock.others, State.eq_of_lessUnseal (s := s) (t := s.fixed t) (congrArg s.fixed hlock.less),
      hlock.lock, hlock.pos, hlock.stage, fun h => hlock.early (Cand.seen_tagRun h), hlock.mfi, hlock.sfi, hlock.shown⟩
  · rw [fabAt_lost (s := s.quiet) hf hl hm]
    refine ⟨_, rfl, ((s.quiet.missFab_onlyLane ..).trans (.change ..)).fixed, ?_⟩
    simp only [State.fixed_reads, State.change_goto5_ctr]
    exact ⟨(State.change_goto5 ..).1, (State.change_goto5 ..).2, s.quiet.missFab_ctr ..⟩
  · obtain ⟨honly, hctr⟩ := recvOverhead_counted (s := s.quiet) hl hr hb
    refine ⟨_, rfl, honly.fixed, hctr, fun hr' => ?_⟩
    rw [recvOverhead_errored (s := s.quiet) hl hr hb (by omega)]
    exact s.quiet.erroredRow_lane l (by omega)
  · obtain ⟨b, hb⟩ := Option.ne_none_iff_exists'.mp hb
    rw [recvOverhead_blank (s := s.quiet) hb hr]
    exact ⟨_, rfl, rfl⟩
  · obtain ⟨b, hb⟩ := Option.ne_none_iff_exists'.mp hb
    rw [recvOverhead_seal (s := s.quiet) hl hb hr hr']
    obtain ⟨hlane, hnew⟩ := s.quiet.sealRow_spec l row b
    exact ⟨_, rfl, (OnlyLane.modLane ..).fixed, rfl, hlane, hnew⟩
  · rw [recvOverhead_row3 (s := s.quiet) hl hb hr, State.row3_eq s.quiet l hrtr]
    exact ⟨_, rfl, (OnlyLane.modLane ..).fixed, ((State.fixed_reads ..).1 l).trans (State.lane_modLane_same ..)⟩

end Sys2Proof.Machine
end

section
/-! PROOFS. A boundary begins the next frame, and every lane that sends Zasyn starts under its number (02 R41; 04 R104; 05 R125 to R128; 09 R254). -/

namespace Sys2Proof.Machine

/-! What goes on across the steps of a boundary. -/

/-- The identity of the present frame, its time, and what decides which lanes send and how their frames are numbered. -/
structure Course where
  frameNo : Nat
  number : Nat × Nat
  superframe : Nat
  boundaryAt : Nat
  counter : Nat
  aligned : Bool
  realignAt : Option Nat
  dict : Tab (List Nat)
  power : Power
  slots : Tab KeySlot

def State.course (s : State) : Course :=
  ⟨s.fab.frameNo, (s.fab.mfi, s.fab.sfi), s.fab.superframe, s.fab.boundaryAt, s.tod.counter, s.tim.aligned, s.tim.realignAt, s.persist.dict, s.power,
    s.sealing.slots⟩

/-- The pages, the marks of the boundaries before, the armed activation, and the holder. -/
def State.pages (s : State) : List Entry × List Entry × List Mark × Option Armed × Option EngId :=
  (s.fab.active, s.fab.shadow, s.fab.hist, s.edit.armed, s.lease.holder)

/-- With nothing armed the pages stay, and no holder comes from nowhere. -/
structure KeepsPages (s t : State) : Prop where
  holder : s.lease.holder = none → t.lease.holder = none
  pages : s.edit.armed = none → t.fab.active = s.fab.active ∧ t.fab.shadow = s.fab.shadow ∧ t.edit.armed = none

theorem KeepsPages.of_pages {s t : State} (h : t.pages = s.pages) : KeepsPages s t := by
  simp only [State.pages, Prod.mk.injEq] at h
  obtain ⟨ha, hsh, -, harm, hhold⟩ := h
  exact ⟨hhold.trans, fun h => ⟨ha, hsh, harm.trans h⟩⟩

theorem KeepsPages.trans {s t u : State} (h : KeepsPages s t) (k : KeepsPages t u) : KeepsPages s u where
  holder := k.holder ∘ h.holder
  pages hs := by
    obtain ⟨ha, hsh, harm⟩ := h.pages hs
    obtain ⟨ka, ksh, karm⟩ := k.pages harm
    exact ⟨ka.trans ha, ksh.trans hsh, karm⟩

/-- A step of a boundary keeps the frame's course and the count of realignments, and no more than three marks; of the pages, what `KeepsPages` says. -/
structure Proceeds (s t : State) : Prop where
  course : t.course = s.course
  ctr : t.ctr 0x5460 4 4 0 = s.ctr 0x5460 4 4 0
  hist : s.fab.hist.length ≤ 3 → t.fab.hist.length ≤ 3
  keepsPages : KeepsPages s t

namespace Proceeds

theorem refl (s : State) : Proceeds s s := ⟨rfl, rfl, id, .of_pages rfl⟩

theorem trans {s t u : State} (h : Proceeds s t) (k : Proceeds t u) : Proceeds s u :=
  ⟨k.course.trans h.course, k.ctr.trans h.ctr, k.hist ∘ h.hist, h.keepsPages.trans k.keepsPages⟩

theorem each {α : Type} {f : α → State → State} (h : ∀ a s, Proceeds s (f a s)) (as : List α) (s : State) : Proceeds s (s.each as f) := by
  induction as generalizing s with
  | nil => exact refl s
  | cons a as ih => exact (h a s).trans (ih (f a s))

theorem of_kept {s t : State} (hc : t.course = s.course) (hp : t.pages = s.pages) (hn : t.ctr 0x5460 4 4 0 = s.ctr 0x5460 4 4 0) :
    Proceeds s t := by
  refine ⟨hc, hn, fun h => ?_, .of_pages hp⟩
  simp only [State.pages, Prod.mk.injEq] at hp
  rwa [hp.2.2.1]

/-- What changes lanes, and what they share, alone. -/
theorem of_lessLanes {s t : State} (h : t.lessLanes = s.lessLanes) (hn : t.ctr 0x5460 4 4 0 = s.ctr 0x5460 4 4 0) : Proceeds s t :=
  of_kept (congrArg State.course h :) (congrArg State.pages h :) hn

theorem ite {c : Prop} [Decidable c] {s t u : State} (h : Proceeds s t) (k : Proceeds s u) : Proceeds s (if c then t else u) := by
  split
  · exact h
  · exact k

theorem countN (s : State) {i b f e : Nat} (h : ctrKey 0x5460 4 4 0 ≠ ctrKey i b f e) (n : Nat) : Proceeds s (s.countN i b f e n) :=
  of_kept rfl rfl (s.ctr_countN_other _ _ _ _ _ _ _ _ _ h)

theorem count (s : State) {i b f e : Nat} (h : ctrKey 0x5460 4 4 0 ≠ ctrKey i b f e) : Proceeds s (s.count i b f e) := countN s h 1

theorem modLane (s : State) (l : Nat) (f : Lane → Lane) : Proceeds s (s.modLane l f) := of_kept rfl rfl rfl

theorem modPort (s : State) (l : Nat) (f : Port → Port) : Proceeds s (s.modPort l f) := of_kept rfl rfl rfl

theorem modTx (s : State) (k : Nat) (f : TxStream → TxStream) : Proceeds s (s.modTx k f) := of_kept rfl rfl rfl

theorem modRx (s : State) (k : Nat) (f : RxStream → RxStream) : Proceeds s (s.modRx k f) := of_kept rfl rfl rfl

theorem modPair (s : State) (p : Nat) (f : Pair → Pair) : Proceeds s (s.modPair p f) := of_kept rfl rfl rfl

theorem emit (s : State) (o : Output) : Proceeds s (s.emit o) := of_kept rfl rfl rfl

theorem emits (s : State) (os : List Output) : Proceeds s (s.emits os) := of_kept rfl rfl rfl

theorem modNear (s : State) (l : Nat) (f : Raw → Raw) : Proceeds s (s.modNear l f) := of_kept rfl rfl rfl

theorem offHoppers : OffHoppers 0x5460 4 4 0 := fun n h => by
  unfold ctrKey
  omega

theorem postUnit (s : State) (h : Nat) (es : List Bytes) (q : Bool) : Proceeds s (s.postUnit h es q) :=
  of_kept (by simp [State.course]) (by simp [State.pages]) (State.postUnit_ctr offHoppers ..)

theorem event (s : State) (c i b e : Nat) (p : Bytes) : Proceeds s (s.event c i b e p) :=
  of_kept (by simp [State.course]) (by simp [State.pages]) (State.event_ctr offHoppers ..)

theorem noteCond (s : State) (c : AlarmCond) (p : Bool) : Proceeds s (s.noteCond c p) :=
  of_kept (by simp [State.course]) (by simp [State.pages]) (by simp [State.ctr])

theorem clearIf (s : State) (i b n e : Nat) : Proceeds s (s.clearIf i b n e) := by
  refine of_kept (by simp [State.course]) (by simp [State.pages]) ?_
  rw [State.clearIf]
  split
  · simp only [State.clearAlarm, State.alarmOut]
    exact State.each_keep (fun w => w.ctr 0x5460 4 4 0) _ _ (fun h w => State.postUnit_ctr offHoppers ..) _
  · rfl

theorem audit (s : State) {r : AuditRec} (h : r.kind ≠ 4 ∧ r.kind ≠ 6 ∧ r.kind ≠ 7) : Proceeds s (s.audit r) :=
  of_kept (by simp [State.course]) (by simp [State.pages]) (by rw [State.ctr, State.audit_cnt s h]; rfl)

theorem change (s : State) (l : LaneId) (f : Lane → Lane) : Proceeds s (s.change l f) :=
  of_lessLanes (OnlyLane.change s l f).1 (State.change_ctr _ _ _ _ _ _ _ (fun r => by unfold ctrKey; omega) (by unfold ctrKey; omega))

theorem settleRx (s : State) (k : Nat) : Proceeds s (s.settleRx k) := by
  simp only [State.settleRx]
  split
  · exact ((noteCond ..).trans (noteCond ..)).trans (of_kept rfl rfl rfl)
  · exact (noteCond ..).trans (noteCond ..)

theorem settleTx (s : State) (k : Nat) : Proceeds s (s.settleTx k) := (noteCond ..).trans (noteCond ..)

theorem checkRxKey (s : State) (k : Nat) : Proceeds s (s.checkRxKey k) := by
  simp only [State.checkRxKey]
  split
  · exact (modRx ..).trans (settleRx ..)
  · exact settleRx ..

/-! The end of a frame, and the forebay (02 R43; 04 R101 to R107). -/

theorem txEnd (s o : State) (fill : List (Nat × Nat)) (rows : Nat) (l : LaneId) : Proceeds s (s.txEnd o fill rows l) := by
  simp only [State.txEnd]
  split
  · refine .trans (.trans (.trans (.each (fun k s => ?_) _ s) (.modLane ..)) (.emit ..)) (.emit ..)
    exact .modTx ..
  · exact .refl s

theorem dropSent (s : State) : Proceeds s { s with sealing.sent := [] } := of_kept rfl rfl rfl

theorem setSums (s : State) (p m : BitVec 32) : Proceeds s { s with lease.sumP := p, lease.sumM := m } := of_kept rfl rfl rfl

theorem endFrame (s : State) (us : List Upset) (rows : Nat) : Proceeds s (s.endFrame us rows) := by
  simp only [State.endFrame]
  refine .trans ?_ (dropSent _)
  refine .trans ?_ (each (fun _ _ => txEnd ..) _ _)
  exact setSums ..

theorem snapFabs (s : State) : Proceeds s s.snapFabs := each (fun _ _ => modLane ..) ..

theorem takeLanePhase (s : State) (o : LanePhase) : Proceeds s (s.takeLanePhase o) := by
  simp only [State.takeLanePhase]
  split
  · exact .modLane ..
  · exact .refl s

theorem placeSet (s : State) (p : Nat) (ls : List LaneId) : Proceeds s (s.placeSet p ls) := by
  simp only [State.placeSet]
  exact (each (fun _ _ => change ..) ..).trans (modPort ..)

theorem placeMoved (s : State) (p : Nat) : Proceeds s (s.placeMoved p) := by
  simp only [State.placeMoved]
  split
  · split
    · exact .refl s
    · exact .placeSet ..
  · exact each (fun _ _ => modLane ..) ..

theorem checkWander (s : State) (l : LaneId) : Proceeds s (s.checkWander l) := by
  simp only [State.checkWander]
  split
  · exact .change ..
  · exact .refl s

theorem followSkew (s : State) (p : Nat) : Proceeds s (s.followSkew p) := by
  simp only [State.followSkew]
  split
  · exact .refl s
  · exact (each (fun _ _ => modLane ..) ..).trans (modPort ..)

theorem slipLane (s : State) (l : LaneId) (add : Bool) : Proceeds s (s.slipLane l add) := by
  have hkey (f : Nat) : ctrKey 0x5460 4 4 0 ≠ ctrKey 0x3040 f 0 l := by
    unfold ctrKey
    omega
  simp only [State.slipLane]
  exact ((count _ (hkey _)).trans (modNear ..)).trans (change ..)

theorem slipPort (s : State) (p : Nat) : Proceeds s (s.slipPort p) := by
  simp only [State.slipPort]
  exact ite (each (fun _ _ => slipLane ..) ..) (ite (each (fun _ _ => slipLane ..) ..) (refl s))

theorem setOnes (s : State) (n p v : Nat) : Proceeds s (s.setOnes n p v) := ite (of_kept rfl rfl rfl) (of_kept rfl rfl rfl)

theorem putBuffer (s : State) (n p : Nat) (bytes : Tab Byte) : Proceeds s (s.putBuffer n p bytes) := ite (of_kept rfl rfl rfl) (of_kept rfl rfl rfl)

theorem readLane (s : State) (n : Nat) (l : LaneId) : Proceeds s (s.readLane n l) := by
  simp only [State.readLane]
  split
  · refine ite (ite ?_ ?_) (modLane ..)
    · refine .trans ?_ (setOnes ..)
      exact .trans (modLane ..) (modLane ..)
    · refine .trans ?_ (putBuffer ..)
      exact .trans (modLane ..) (modLane ..)
  · exact modLane ..

theorem restoreLane (s : State) (l : LaneId) : Proceeds s (s.restoreLane l) := by
  simp only [State.restoreLane]
  exact modLane ..

theorem freshOnes (s : State) (n : Nat) : Proceeds s (s.freshOnes n) := each (fun _ _ => setOnes ..) ..

theorem readyFrame (s : State) (n : Nat) : Proceeds s (s.readyFrame n) := by
  simp only [State.readyFrame]
  refine .trans ?_ (freshOnes ..)
  refine .trans ?_ (each (fun _ _ => restoreLane ..) _ _)
  exact each (fun _ _ => modRx ..) _ _

/-- The forebay is read, and the lanes are measured, placed and slipped (04 R104 to R107). -/
theorem forebay (s : State) (n : Nat) (phases : List LanePhase) : Proceeds s (s.forebay n phases) := by
  simp only [State.forebay]
  refine .trans ?_ (readyFrame ..)
  refine .trans ?_ (each (fun _ _ => readLane ..) _ _)
  refine .trans ?_ (each (fun _ _ => (followSkew ..).trans (slipPort ..)) _ _)
  refine .trans ?_ (each (fun _ _ => checkWander ..) _ _)
  refine .trans ?_ (each (fun _ _ => placeMoved ..) _ _)
  exact each (fun _ _ => takeLanePhase ..) ..

/-- Lanes in service are placed again, port by port (04 R106; 09 R254). -/
theorem replaceLanes (s : State) (n : Nat) (phases : List LanePhase) : Proceeds s (s.replaceLanes n phases) := by
  simp only [State.replaceLanes]
  refine .trans ?_ (each (fun _ _ => setOnes ..) _ _)
  refine .trans ?_ (each (fun _ s => ite (refl s) ((each (fun _ _ => modLane ..) ..).trans (placeSet ..))) _ _)
  exact each (fun _ _ => takeLanePhase ..) ..

theorem cutStreams (s : State) (near : Bool) : Proceeds s (s.cutStreams near) :=
  each (fun _ s => ite (refl s) (each (fun _ _ => modTx ..) ..)) ..

/-! The latches, the selectors and the activation (05 Table 5-1; 06 R174; 07 R206). -/

theorem setLineSel (s : State) (x : Tab Bool) : Proceeds s { s with fab.lineSel := x } := of_kept rfl rfl rfl

theorem hardSwitch (s : State) (l : LaneId) : Proceeds s (s.hardSwitch l) := by
  have hp : s.portOf l ≤ l := by
    unfold State.portOf
    split_ifs <;> omega
  have hkey : ctrKey 0x5460 4 4 0 ≠ ctrKey 0x3800 8 0 (s.portOf l) := by
    unfold ctrKey
    omega
  simp only [State.hardSwitch]
  refine ite (ite (setLineSel ..) ?_) (refl s)
  refine .trans ?_ (count _ hkey)
  exact .trans (setLineSel ..) (modPair ..)

theorem setPulsed (s : State) (x : BitVec 48) : Proceeds s { s with prot.lastPulsed := x } := of_kept rfl rfl rfl

theorem pulse (s : State) (ls : List LaneId) : Proceeds s (s.pulse ls) := by
  simp only [State.pulse]
  refine ite (refl s) ?_
  refine .trans ?_ (each (fun _ _ => hardSwitch ..) _ _)
  refine .trans ?_ (setPulsed ..)
  exact (countN _ (by decide) _).trans (emits ..)

theorem loadLineSels (s : State) : Proceeds s s.loadLineSels := ite (refl s) (each (fun _ _ => setLineSel ..) ..)

theorem followPairs (s : State) : Proceeds s s.followPairs := ite (refl s) (each (fun _ _ => modPair ..) ..)

theorem setLatch (s : State) (x : Latch) : Proceeds s { s with fab.latch := x } := of_kept rfl rfl rfl

theorem latchFails (s : State) : Proceeds s s.latchFails := by
  simp only [State.latchFails]
  refine .trans ?_ (followPairs _)
  refine .trans ?_ (loadLineSels _)
  refine .trans ?_ (pulse ..)
  refine .trans ?_ (setLatch ..)
  refine each (fun l w => ?_) _ _
  exact modLane ..

theorem evalRun (s : State) (p : Entry × Companion) (tick : Bool) : Proceeds s (s.evalRun p tick) := by
  simp only [State.evalRun]
  exact ite (of_kept rfl rfl rfl) (of_kept rfl rfl rfl)

theorem setTick (s : State) (x : Bool) : Proceeds s { s with fab.wtrTick := x } := of_kept rfl rfl rfl

theorem evalSels (s : State) : Proceeds s s.evalSels := by
  simp only [State.evalSels]
  refine .trans ?_ (setTick ..)
  exact each (fun _ _ => evalRun ..) ..

theorem modStream (s : State) (k : Nat) (f : Raw → Raw) : Proceeds s (s.modStream k f) := of_kept rfl rfl rfl

theorem orphanStreams (s : State) : Proceeds s s.orphanStreams := each (fun _ _ => modStream ..) _ _

theorem reloadStreams (s : State) : Proceeds s s.reloadStreams := by
  have hkey (k : Nat) : ctrKey 0x5460 4 4 0 ≠ ctrKey 0x5C32 1 6 k := by
    unfold ctrKey
    omega
  simp only [State.reloadStreams]
  refine .trans ?_ (each (fun _ _ => modTx ..) _ _)
  refine .trans ?_ (each (fun _ _ => (modTx ..).trans (settleTx ..)) _ _)
  refine .trans ?_ (each (fun _ _ => modRx ..) _ _)
  refine .trans (orphanStreams s) (each (fun k w => ?_) _ _)
  exact ((ite (count _ (hkey k)) (refl w)).trans (modRx ..)).trans (settleRx ..)

theorem abandonMap (s : State) : Proceeds s s.abandonMap := by
  rw [State.abandonMap]
  split
  · refine .trans ?_ (count _ (by decide))
    exact of_kept rfl rfl rfl
  · exact refl s

theorem setMapDue (s : State) (x : Option Nat) : Proceeds s { s with persist.mapDueAt := x } := of_kept rfl rfl rfl

theorem mapDue (s : State) : Proceeds s s.mapDue := by
  rw [State.mapDue]
  refine ite (refl s) ?_
  exact (setMapDue ..).trans (noteCond ..)

theorem setEntry (s : State) (e : Bytes) : Proceeds s { s with edit.lastEntry := e } := of_kept rfl rfl rfl

theorem activationOut (s : State) (a : Armed) (e : Bytes) : Proceeds s (s.activationOut a e) := by
  simp only [State.activationOut]
  refine .trans ?_ (each (fun _ _ => postUnit ..) _ _)
  exact ((setEntry ..).trans (audit _ (by simp [moduleRec]))).trans (ite (postUnit ..) (refl _))

theorem disarm (s : State) : Proceeds s { s with edit.armed := none } := ⟨rfl, rfl, id, id, fun _ => ⟨rfl, rfl, rfl⟩⟩

theorem cancelArmed (s : State) (status detail : Nat) : Proceeds s (s.cancelArmed status detail) := by
  rw [State.cancelArmed]
  split
  · exact refl s
  · exact ((disarm s).trans (count _ (by decide))).trans (activationOut ..)

theorem modArmed (s : State) (f : Armed → Armed) : Proceeds s (s.modArmed f) :=
  ⟨rfl, rfl, id, id, fun h => ⟨rfl, rfl, congrArg (Option.map f) h⟩⟩

theorem journal (s : State) (kind : Nat) (e : Entry) (number acc : Nat) : Proceeds s (s.journal kind e number acc) :=
  ite (of_kept rfl rfl rfl) (of_kept rfl rfl rfl)

/-- Where an activation is armed, the pages may change. -/
theorem of_armed {s t : State} (h : s.edit.armed.isSome = true) (hc : t.course = s.course) (hh : t.lease.holder = s.lease.holder)
    (hm : t.fab.hist = s.fab.hist) (hn : t.ctr 0x5460 4 4 0 = s.ctr 0x5460 4 4 0) : Proceeds s t :=
  ⟨hc, hn, fun k => hm ▸ k, hh.trans, fun k => by simp [k] at h⟩

theorem swapPages {s : State} (h : s.edit.armed.isSome = true) (number : Nat) : Proceeds s (s.swapPages number) := by
  have hj : (s.journal 3 {} number 0).edit.armed.isSome = true := by
    simp only [State.journal]
    split <;> exact h
  simp only [State.swapPages]
  refine .trans ?_ (reloadStreams _)
  refine .trans ?_ (each (fun _ _ => (clearIf ..).trans (clearIf ..)) _ _)
  refine .trans (journal s 3 {} number 0) ?_
  exact of_armed hj rfl rfl rfl rfl

theorem executeArmed (s : State) (snapshot : Nat) : Proceeds s (s.executeArmed snapshot) := by
  simp only [State.executeArmed]
  split
  · exact refl s
  next a ha =>
    refine .trans ?_ (activationOut ..)
    refine .trans ?_ (noteCond ..)
    refine .trans ?_ (mapDue _)
    refine .trans ?_ (abandonMap _)
    exact (swapPages (by simp [ha]) _).trans (count _ (by decide))

theorem dueActivation (s : State) (count snapshot : Nat) : Proceeds s (s.dueActivation count snapshot) := by
  rw [State.dueActivation]
  split
  · exact ite (ite (executeArmed ..) (ite (modArmed ..) (cancelArmed ..))) (refl s)
  · exact refl s

/-! The tally, and the engines' reports (08 R216 to R220). -/

theorem setArriving (s : State) (x : BitVec 32) : Proceeds s { s with lease.arriving := x } := of_kept rfl rfl rfl

theorem openRows (s : State) : Proceeds s s.openRows := of_kept rfl rfl rfl

/-- The marks of a boundary join those of the two before it. -/
theorem markBoundary (s : State) (m : Mark) : Proceeds s { s with
    fab.hist := (m :: s.fab.hist).take 3, fab.acted := false, fab.cutOnes := s.fab.cutOnes - 1, ending := none } :=
  ⟨rfl, rfl, fun _ => List.length_take_le .., id, fun h => ⟨rfl, rfl, h⟩⟩

theorem tableSteps (s : State) (n : Nat) (before : Tab Bool) : Proceeds s (s.tableSteps n before) := by
  simp only [State.tableSteps]
  refine .trans ?_ (openRows _)
  refine .trans ?_ (markBoundary ..)
  refine .trans ?_ (evalSels _)
  refine .trans ?_ (latchFails _)
  exact (setArriving ..).trans (dueActivation ..)

theorem modEngine (s : State) (e : EngId) (f : Engine → Engine) : Proceeds s (s.modEngine e f) :=
  of_kept (by simp [State.course]) (by simp [State.pages]) (by simp [State.ctr])

theorem failEngine (s : State) (e : EngId) (cause : Nat) : Proceeds s (s.failEngine e cause) :=
  ((modEngine ..).trans (event ..)).trans (modEngine ..)

theorem revoke (s : State) (cause : Nat) : Proceeds s (s.revoke cause) := by
  rw [State.revoke]
  split
  · exact refl s
  next e he =>
    refine .trans ?_ (abandonMap _)
    refine .trans (failEngine s e cause) ?_
    exact ⟨rfl, rfl, id, fun _ => rfl, fun h => ⟨rfl, rfl, h⟩⟩

theorem engineFault (s : State) (e : EngId) (cause : Nat) : Proceeds s (s.engineFault e cause) := by
  rw [State.engineFault]
  refine ite (revoke ..) ?_
  split
  · exact failEngine ..
  · exact failEngine ..
  · exact refl s

theorem watchEngines (s : State) : Proceeds s s.watchEngines := by
  simp only [State.watchEngines]
  refine .trans ?_ (noteCond ..)
  refine .trans ?_ (noteCond ..)
  refine .trans ?_ (noteCond ..)
  refine .trans ?_ (noteCond ..)
  exact (noteCond ..).trans (noteCond ..)

theorem setBurst (s : State) (x : Nat) : Proceeds s { s with fab.tagBurst := x } := of_kept rfl rfl rfl

theorem engineReport (s : State) (e : EngId) (r : ReadReport) : Proceeds s (s.engineReport e r) := by
  have hkey (b : Nat) (hb : b < 6) : ctrKey 0x5460 4 4 0 ≠ ctrKey 0x4820 b 0 e := by
    unfold ctrKey
    omega
  simp only [State.engineReport]
  refine ite ?_ (refl s)
  refine .trans ?_ (watchEngines _)
  refine .trans ?_ (ite (refl _) (engineFault ..))
  refine .trans ?_ (ite (engineFault ..) (refl _))
  refine .trans ?_ (ite (setBurst ..) (refl _))
  refine .trans ?_ (countN _ (by decide) _)
  refine .trans ?_ (countN _ (hkey _ (by decide)) _)
  refine .trans ?_ (countN _ (hkey _ (by decide)) _)
  refine .trans ?_ (countN _ (hkey _ (by decide)) _)
  exact (countN _ (hkey _ (by decide)) _).trans (countN _ (hkey _ (by decide)) _)

end Proceeds

/-! What a command has sent stays sent. -/

/-- Everything that one state has sent, another has sent too. -/
structure State.SentBy (s t : State) : Prop where
  mem : ∀ o ∈ s.out, o ∈ t.out

namespace State.SentBy

theorem of_eq {s t : State} (h : t.out = s.out) : s.SentBy t := ⟨fun _ ho => h.symm ▸ ho⟩

theorem trans {s t u : State} (h : s.SentBy t) (k : t.SentBy u) : s.SentBy u := ⟨fun o ho => k.mem o (h.mem o ho)⟩

theorem emits (s : State) (os : List Output) : s.SentBy (s.emits os) := ⟨fun _ ho => List.mem_append_left _ ho⟩

theorem emit (s : State) (o : Output) : s.SentBy (s.emit o) := emits s [o]

theorem each {α : Type} {f : α → State → State} (h : ∀ a s, State.SentBy s (f a s)) (as : List α) (s : State) : s.SentBy (s.each as f) := by
  induction as generalizing s with
  | nil => exact of_eq rfl
  | cons a as ih => exact (h a s).trans (ih (f a s))

theorem sendSecure (s : State) (i : Nat) (o : Output) (r : Resp) : s.SentBy (s.sendSecure i o r) := by
  rw [State.sendSecure]
  split
  · refine .trans ?_ (emit ..)
    refine .trans ?_ (emit ..)
    exact of_eq (by simp)
  · exact emit ..

theorem writeUnit (s : State) (h : Nat) (es : List Bytes) : s.SentBy (s.writeUnit h es) := by
  simp only [State.writeUnit, State.notifyOwner]
  split
  · refine .trans ?_ (sendSecure ..)
    exact of_eq (by simp)
  · exact of_eq (by simp)

theorem postUnit (s : State) (h : Nat) (es : List Bytes) (q : Bool) : s.SentBy (s.postUnit h es q) := by
  simp only [State.postUnit]
  repeat' split
  case isTrue => exact writeUnit ..
  case isFalse.isTrue.isTrue =>
    refine .trans ?_ (writeUnit ..)
    exact of_eq (by simp)
  all_goals exact of_eq (by simp)

theorem event (s : State) (c i b e : Nat) (p : Bytes) : s.SentBy (s.event c i b e p) := by
  simp only [State.event, State.eventAt]
  refine .trans (of_eq ?_) (each (fun _ _ => postUnit ..) _ _)
  rfl

end State.SentBy

/-! The transmit frames (02 R36, R41). -/

/-- Whether a lane sends frames, and the number of the last one. -/
def LaneTx.number (x : LaneTx) : Bool × Nat × Nat := (x.txRun, x.txMfi, x.txSfi)

/-- A step of a transmit frame's start, once the lane has its number. -/
structure Transmits (s t : State) : Prop where
  proceeds : Proceeds s t
  sent : s.SentBy t
  bring : ∀ k, (t.lane k).bring = (s.lane k).bring
  number : ∀ k, (t.lane k).tx.number = (s.lane k).tx.number

namespace Transmits

theorem refl (s : State) : Transmits s s := ⟨.refl s, State.SentBy.of_eq rfl, fun _ => rfl, fun _ => rfl⟩

theorem trans {s t u : State} (h : Transmits s t) (k : Transmits t u) : Transmits s u :=
  ⟨h.proceeds.trans k.proceeds, h.sent.trans k.sent, fun n => (k.bring n).trans (h.bring n), fun n => (k.number n).trans (h.number n)⟩

theorem each {α : Type} {f : α → State → State} (h : ∀ a s, Transmits s (f a s)) (as : List α) (s : State) : Transmits s (s.each as f) := by
  induction as generalizing s with
  | nil => exact refl s
  | cons a as ih => exact (h a s).trans (ih (f a s))

theorem ite {c : Prop} [Decidable c] {s t u : State} (h : Transmits s t) (k : Transmits s u) : Transmits s (if c then t else u) := by
  split
  · exact h
  · exact k

/-- What touches neither lanes nor what is sent. -/
theorem of_proceeds {s t : State} (h : Proceeds s t) (ho : t.out = s.out) (hl : t.lanes = s.lanes) : Transmits s t :=
  ⟨h, State.SentBy.of_eq ho, fun k => congrArg Lane.bring (State.lane_of_lanes hl k), fun k => congrArg (·.tx.number) (State.lane_of_lanes hl k)⟩

theorem modTx (s : State) (k : Nat) (f : TxStream → TxStream) : Transmits s (s.modTx k f) := of_proceeds (.modTx ..) rfl rfl

theorem modRx (s : State) (k : Nat) (f : RxStream → RxStream) : Transmits s (s.modRx k f) := of_proceeds (.modRx ..) rfl rfl

theorem noteCond (s : State) (c : AlarmCond) (p : Bool) : Transmits s (s.noteCond c p) := of_proceeds (.noteCond ..) (by simp) (by simp)

theorem countN (s : State) {i b f e : Nat} (h : ctrKey 0x5460 4 4 0 ≠ ctrKey i b f e) (n : Nat) : Transmits s (s.countN i b f e n) :=
  of_proceeds (.countN s h n) rfl rfl

theorem settleTx (s : State) (k : Nat) : Transmits s (s.settleTx k) := (noteCond ..).trans (noteCond ..)

theorem emits (s : State) (os : List Output) : Transmits s (s.emits os) :=
  ⟨.emits .., State.SentBy.emits .., fun _ => rfl, fun _ => rfl⟩

theorem emit (s : State) (o : Output) : Transmits s (s.emit o) := emits s [o]

theorem event (s : State) (c i b e : Nat) (p : Bytes) : Transmits s (s.event c i b e p) :=
  ⟨.event .., State.SentBy.event .., fun k => by simp, fun k => by simp⟩

theorem modLane (s : State) (l : Nat) {f : Lane → Lane} (hb : ∀ x, (f x).bring = x.bring) (hn : ∀ x, (f x).tx.number = x.tx.number) :
    Transmits s (s.modLane l f) := by
  refine ⟨.modLane .., State.SentBy.of_eq rfl, fun k => ?_, fun k => ?_⟩
  · rw [State.lane_modLane]
    split
    next h => rw [hb, h]
    next => rfl
  · rw [State.lane_modLane]
    split
    next h => rw [hn, h]
    next => rfl

theorem checkRxKey (s : State) (k : Nat) : Transmits s (s.checkRxKey k) := by
  refine of_proceeds (.checkRxKey ..) ?_ (State.checkRxKey_lanes ..)
  simp only [State.checkRxKey, (State.settleRx_keep ..).2.2]
  split <;> rfl

theorem nearEvent (s : State) (k n : Nat) : Transmits s (s.nearEvent k n) := ite (event ..) (refl s)

theorem txInterval (s : State) (k : Nat) : Transmits s (s.txInterval k) := by
  simp only [State.txInterval]
  refine ite ?_ (ite ?_ (refl s))
  · exact ((modTx ..).trans (nearEvent ..)).trans (settleTx ..)
  · exact ((modTx ..).trans (nearEvent ..)).trans (settleTx ..)

theorem setRecords (s : State) (x : List (LaneId × Bytes)) : Transmits s { s with sealing.records := x } :=
  of_proceeds (.of_kept rfl rfl rfl) rfl rfl

theorem txMultiframe (s : State) (l : LaneId) : Transmits s (s.txMultiframe l) := by
  have hkey (k : Nat) : ctrKey 0x5460 4 4 0 ≠ ctrKey 0x5C21 1 3 k := by
    unfold ctrKey
    omega
  simp only [State.txMultiframe]
  refine .trans ?_ (emit ..)
  refine .trans ?_ (each (fun _ _ => txInterval ..) _ _)
  refine .trans ?_ (each (fun _ _ => modTx ..) _ _)
  refine .trans ?_ (setRecords ..)
  refine each (fun r w => ?_) _ _
  exact ite (countN _ (hkey _) 1) (refl w)

theorem dropRecords (s : State) (l : LaneId) : Transmits s (s.dropRecords l) := setRecords ..

theorem setSync (s : State) (t3 : Option Int) (total : Int) : Transmits s { s with tod.t3 := t3, tod.sentTotal := total } :=
  of_proceeds (.of_kept rfl rfl rfl) rfl rfl

theorem sendTime (s : State) (l : LaneId) : Transmits s (s.sendTime l) := by
  simp only [State.sendTime]
  refine .trans (modLane s l ?_ ?_) (each (fun p w => ?_) _ _)
  · exact fun _ => rfl
  · exact fun _ => rfl
  · refine .trans ?_ (emit ..)
    exact ite (setSync ..) (refl w)

theorem setChannels (s : State) (x : Tab Channel) : Transmits s { s with sealing.channels := x } := of_proceeds (.of_kept rfl rfl rfl) rfl rfl

theorem sendData (s : State) (l : LaneId) : Transmits s (s.sendData l) := by
  have hkey (k : Nat) : ctrKey 0x5460 4 4 0 ≠ ctrKey 0x5E10 4 3 k := by
    unfold ctrKey
    omega
  simp only [State.sendData]
  refine .trans ?_ (emits ..)
  refine .trans ?_ (each (fun k w => countN w (hkey k) _) _ _)
  refine .trans ?_ (setChannels ..)
  refine modLane s l ?_ ?_
  · exact fun _ => rfl
  · exact fun _ => rfl

end Transmits

/-- A lane takes the number of its next frame (02 R41). -/
def State.takeNumber (s : State) (l : LaneId) (num : Nat × Nat) : State :=
  s.modLane l fun x => { x with
    tx := { x.tx with txRun := true, txMfi := num.1, txSfi := num.2, lastNo := s.fab.frameNo }
    ch := if !(s.lane l).tx.txRun then { x.ch with timeLeft := [], dataLeft := [] } else x.ch }

theorem State.takeNumber_lane (s : State) (l : LaneId) (num : Nat × Nat) (k : Nat) :
    ((s.takeNumber l num).lane k).bring = (s.lane k).bring ∧
    ((s.takeNumber l num).lane k).tx.number = if k = l then (true, num) else (s.lane k).tx.number := by
  rw [State.takeNumber, State.lane_modLane]
  split
  next h => exact ⟨h ▸ rfl, rfl⟩
  next => exact ⟨rfl, rfl⟩

theorem State.takeNumber_goes (s : State) (l : LaneId) (num : Nat × Nat) : Proceeds s (s.takeNumber l num) ∧ s.SentBy (s.takeNumber l num) :=
  ⟨.modLane .., .of_eq rfl⟩

/-- Once a lane has its number, the start of its frame keeps it. -/
theorem Transmits.txStart (s : State) (l : LaneId) (num : Nat × Nat) : Transmits (s.takeNumber l num) (s.txStart l num) := by
  simp only [State.txStart]
  refine .trans ?_ (.sendData ..)
  refine .trans ?_ (.sendTime ..)
  refine .trans ?_ (.emit ..)
  refine .trans ?_ (.modLane _ _ ?_ ?_)
  refine .trans ?_ (.modLane _ _ ?_ ?_)
  refine .trans ?_ (.ite (.txMultiframe ..) (.ite (.refl _) (.dropRecords ..)))
  refine .ite (.each (fun _ _ => .modTx ..) _ _) (.refl _)
  all_goals exact fun _ => rfl

theorem State.txStart_lane (s : State) (l : LaneId) (num : Nat × Nat) (k : Nat) :
    ((s.txStart l num).lane k).bring = (s.lane k).bring ∧
    ((s.txStart l num).lane k).tx.number = if k = l then (true, num) else (s.lane k).tx.number := by
  obtain ⟨hb, hn⟩ := s.takeNumber_lane l num k
  exact ⟨((Transmits.txStart s l num).bring k).trans hb, ((Transmits.txStart s l num).number k).trans hn⟩

/-- Frames have started: nothing else goes on but that, and each lane of a set sends the number that it was given. -/
structure Started (ls : List LaneId) (num : LaneId → Nat × Nat) (s t : State) : Prop where
  proceeds : Proceeds s t
  sent : s.SentBy t
  bring : ∀ k, (t.lane k).bring = (s.lane k).bring
  number : ∀ l : LaneId, l ∈ ls ∨ (s.lane l).tx.number = (true, num l) → (t.lane l).tx.number = (true, num l)

theorem Started.each (num : LaneId → Nat × Nat) (ls : List LaneId) (s : State) :
    Started ls num s (s.each (ls.map fun l => (l, num l)) fun p s => s.txStart p.1 p.2) := by
  induction ls generalizing s with
  | nil => exact ⟨.refl s, .of_eq rfl, fun _ => rfl, fun l h => h.resolve_left (List.not_mem_nil)⟩
  | cons a ls ih =>
    have hlane := s.txStart_lane a (num a)
    have hstart := Transmits.txStart s a (num a)
    have hcons : s.each ((a :: ls).map fun l => (l, num l)) (fun p s => s.txStart p.1 p.2) =
        (s.txStart a (num a)).each (ls.map fun l => (l, num l)) fun p s => s.txStart p.1 p.2 := by
      simp only [State.each, List.map_cons, List.foldl_cons]
    obtain ⟨hp, hs, hb, hn⟩ := ih (s.txStart a (num a))
    rw [hcons]
    obtain ⟨hgoes, hkept⟩ := s.takeNumber_goes a (num a)
    refine ⟨hgoes.trans (hstart.proceeds.trans hp), (hkept.trans hstart.sent).trans hs, fun k => (hb k).trans (hlane k).1,
      fun l hl => hn l ?_⟩
    by_cases hla : l = a
    · right
      rw [(hlane l).2, hla, if_pos rfl]
    · rw [(hlane l).2, if_neg (fun h => hla (Fin.ext h))]
      exact hl.imp_left fun h => (List.mem_cons.mp h).resolve_left hla

/-- A lane that sends Zasyn (02 R36). -/
def State.sendsZasyn (s : State) (l : LaneId) : Prop := s.enabled l = true ∧ (s.lane l).bring.txMode = .zasyn

theorem State.mem_zasynLanes {s : State} {l : LaneId} : l ∈ s.zasynLanes ↔ s.sendsZasyn l := by
  simp [State.zasynLanes, State.sendsZasyn]

theorem State.sendsZasyn_iff {s t : State} (hc : t.course = s.course) (hb : ∀ k, (t.lane k).bring = (s.lane k).bring) (l : LaneId) :
    t.sendsZasyn l ↔ s.sendsZasyn l := by
  have hd : t.persist.dict = s.persist.dict := congrArg Course.dict hc
  have hp : t.power = s.power := congrArg Course.power hc
  simp [State.sendsZasyn, State.enabled, State.cfg, State.val, State.portUp, hd, hp, hb]

/-- What a boundary ends with: FP8K has pulsed, and every lane that sends Zasyn has started its frame under the number of the fabric (02 R41). -/
structure FrameStarted (s t : State) : Prop where
  proceeds : Proceeds s t
  fp8k : .fp8k ∈ t.out
  lanes : ∀ l, t.sendsZasyn l → (t.lane l).tx.txRun = true ∧
    (t.tim.aligned = true → (t.lane l).tx.txMfi = t.fab.mfi ∧ (t.lane l).tx.txSfi = t.fab.sfi)

theorem State.nextNumber_aligned {s : State} (h : s.tim.aligned = true) (l : LaneId) : s.nextNumber l = (s.fab.mfi, s.fab.sfi) := by
  simp [State.nextNumber, h]

theorem Proceeds.setPhase (s : State) (d : Int) (n : Nat) : Proceeds s { s with tim.diff := d, tim.outRun := n } := .of_kept rfl rfl rfl

theorem Proceeds.setPulse (s : State) (x : Option Nat) : Proceeds s { s with fab.fpAt := x } := .of_kept rfl rfl rfl

theorem Proceeds.ppsOut (s : State) : Proceeds s s.ppsOut := .ite (.of_kept rfl rfl rfl) (.refl s)

theorem State.SentBy.ppsOut (s : State) : s.SentBy s.ppsOut := by
  rw [State.ppsOut]
  split
  · refine .trans ?_ (.emit ..)
    exact .of_eq rfl
  · exact .of_eq rfl

/-- The state in which the lanes' frames start (09 R253; 10 R264). -/
def State.framePulse (s : State) : State := ({ s.measurePhase with fab.fpAt := some s.now }.emit .fp8k).ppsOut

theorem State.framePulse_goes (s : State) : Proceeds s s.framePulse ∧ .fp8k ∈ s.framePulse.out := by
  constructor
  · refine .trans ?_ (.ppsOut _)
    refine .trans ?_ (.emit ..)
    refine .trans ?_ (.setPulse ..)
    exact .setPhase ..
  · exact (State.SentBy.ppsOut _).mem _ (List.mem_append_right _ (List.mem_singleton.mpr rfl))

theorem State.startFrame_started (s : State) : FrameStarted s s.startFrame := by
  obtain ⟨hpulse, hfp⟩ := s.framePulse_goes
  have hstart : Started s.framePulse.zasynLanes s.framePulse.nextNumber s.framePulse s.framePulse.txStarts := .each ..
  have hkeys : Transmits s.framePulse.txStarts s.startFrame := Transmits.each (fun _ _ => .checkRxKey ..) _ _
  have hgoes := hstart.proceeds.trans hkeys.proceeds
  refine ⟨hpulse.trans hgoes, hkeys.sent.mem _ (hstart.sent.mem _ hfp), fun l hl => ?_⟩
  have hz := (State.sendsZasyn_iff hgoes.course (fun k => (hkeys.bring k).trans (hstart.bring k)) l).mp hl
  have hnum := (hkeys.number l).trans (hstart.number l (.inl (State.mem_zasynLanes.mpr hz)))
  have haligned : s.startFrame.tim.aligned = s.framePulse.tim.aligned := congrArg Course.aligned hgoes.course
  have hid : (s.startFrame.fab.mfi, s.startFrame.fab.sfi) = (s.framePulse.fab.mfi, s.framePulse.fab.sfi) := congrArg Course.number hgoes.course
  simp only [LaneTx.number, Prod.mk.injEq] at hnum
  obtain ⟨hrun, hmfi⟩ := hnum
  refine ⟨hrun, fun ha => ?_⟩
  rw [State.nextNumber_aligned (haligned.symm.trans ha), ← hid] at hmfi
  exact Prod.mk.inj hmfi

theorem FrameStarted.after {s t u : State} (h : Proceeds s t) (k : FrameStarted t u) : FrameStarted s u :=
  ⟨h.trans k.proceeds, k.fp8k, k.lanes⟩

theorem State.tableSteps_hist (s : State) (n : Nat) (before : Tab Bool) : (s.tableSteps n before).fab.hist.length ≤ 3 :=
  List.length_take_le ..

/-! The next frame (05 R125; 06 R170). -/

/-- The next frame has its identity, and the snapshot of its boundary. -/
def State.nextFrame (s : State) : State := { s.nextIdentity with fab.boundaryAt := s.boundarySnapshot }

theorem State.nextFrame_course (s : State) : ∃ n, s.nextFrame.course = { s.course with
    frameNo := s.course.frameNo + 1, number := nextMulti s.course.number, superframe := n, boundaryAt := s.course.counter - 2300 * 65536 } :=
  ⟨_, rfl⟩

theorem frameBoundary_eq {s : State} (h : s.portUp = true) (o : BoundaryObs) :
    ∃ w, frameBoundary o s = { w with lease.ahead := 0 } ∧ FrameStarted (s.endFrame o.upsets 1000).nextFrame w ∧ w.fab.hist.length ≤ 3 := by
  simp only [frameBoundary, h, Bool.not_true, Bool.false_eq_true, if_false]
  refine ⟨_, rfl, ?_, ?_⟩
  · refine .after ?_ (State.startFrame_started _)
    refine .trans ?_ (.openRows _)
    refine .trans ?_ (.engineReport ..)
    refine .trans ?_ (.engineReport ..)
    refine .trans ?_ (.tableSteps ..)
    refine .trans ?_ (.forebay ..)
    exact .snapFabs _
  · refine (State.startFrame_started _).proceeds.hist ?_
    refine (Proceeds.openRows _).hist ?_
    refine (Proceeds.engineReport ..).hist ?_
    refine (Proceeds.engineReport ..).hist ?_
    exact State.tableSteps_hist ..

/-! The realignment (09 R254; 11 R297). -/

theorem State.setAligned_goes (s : State) : (s.setAligned true).course = { s.course with aligned := true } ∧
    (s.setAligned true).pages = s.pages ∧ (s.setAligned true).ctr 0x5460 4 4 0 = s.ctr 0x5460 4 4 0 := by
  rw [State.setAligned]
  split
  next h =>
    have ha : s.tim.aligned = true := by simpa using h
    exact ⟨by simp [State.course, ha], rfl, rfl⟩
  next => exact ⟨by simp [State.course], by simp [State.pages], State.event_ctr Proceeds.offHoppers ..⟩

/-- A table none of whose entries has a pending key reads none. -/
theorem tget_pend_none {t : Tab KeySlot} (h : ∀ e ∈ t, e.2.pend = none) (k : Nat) : (tget {} t k).pend = none := by
  induction t with
  | nil => rfl
  | cons e t ih =>
    simp only [tget]
    split
    · exact h e List.mem_cons_self
    · exact ih fun x hx => h x (List.mem_cons_of_mem e hx)

theorem State.cancelPending_pend (s : State) (k : Nat) : (s.cancelPending.keySlot k).pend = none := by
  simp only [State.cancelPending]
  split
  next h =>
    refine tget_pend_none (fun e he => ?_) k
    simp only [List.isEmpty_iff, List.map_eq_nil_iff, List.filter_eq_nil_iff, Option.not_isSome_iff_eq_none] at h
    exact h e he
  next =>
    simp only [State.keySlot, State.event_frame]
    exact tget_tmap_of (P := fun x : KeySlot => x.pend = none) rfl (fun _ _ => rfl) _ k

theorem State.cancelPending_goes (s : State) : s.cancelPending.course = { s.course with slots := s.cancelPending.sealing.slots } ∧
    s.cancelPending.pages = s.pages ∧ s.cancelPending.ctr 0x5460 4 4 0 = s.ctr 0x5460 4 4 0 := by
  simp only [State.cancelPending]
  split
  · exact ⟨rfl, rfl, rfl⟩
  · exact ⟨by simp [State.course], by simp [State.pages], State.event_ctr Proceeds.offHoppers ..⟩

/-- The realignment is counted, the phase is aligned, and the pending keys are cancelled (09 R254; 11 R297). -/
def State.realigned (s : State) : State := (((s.count 0x5460 4 4 0).setAligned true).cancelPending).auditObj 0x5460 4 0

theorem State.realigned_goes (s : State) : s.realigned.course = { s.course with aligned := true, slots := s.realigned.sealing.slots } ∧
    s.realigned.pages = s.pages ∧ s.realigned.ctr 0x5460 4 4 0 = (s.ctr 0x5460 4 4 0 + 1) % 4294967296 := by
  obtain ⟨hac, hap, han⟩ := (s.count 0x5460 4 4 0).setAligned_goes
  obtain ⟨hcc, hcp, hcn⟩ := ((s.count 0x5460 4 4 0).setAligned true).cancelPending_goes
  have haudit : Proceeds ((s.count 0x5460 4 4 0).setAligned true).cancelPending s.realigned := .audit _ (by simp [moduleRec])
  have hslots : s.realigned.sealing.slots = ((s.count 0x5460 4 4 0).setAligned true).cancelPending.sealing.slots :=
    congrArg Course.slots haudit.course
  have hpages : s.realigned.pages = ((s.count 0x5460 4 4 0).setAligned true).cancelPending.pages := by simp [State.realigned, State.pages]
  refine ⟨?_, hpages.trans (hcp.trans hap), haudit.ctr.trans (hcn.trans (han.trans (s.ctr_count ..)))⟩
  rw [haudit.course, hcc, hac, hslots]
  rfl

theorem State.realigned_pend (s : State) (k : Nat) : (s.realigned.keySlot k).pend = none := by
  simp only [State.realigned, State.keySlot, State.auditObj_frame]
  exact State.cancelPending_pend ..

/-- The frame at T has its identity from TAI, and the snapshot of its boundary (06 R170). -/
def State.taiFrame (s : State) (t : Nat) : State := { s.taiIdentity t with fab.boundaryAt := s.boundarySnapshot }

theorem State.taiFrame_course (s : State) (t : Nat) : (s.taiFrame t).course = { s.course with
    frameNo := s.course.frameNo + 1, number := (0, 0), superframe := t / 2, boundaryAt := s.course.counter - 2300 * 65536, realignAt := none } :=
  rfl

theorem Proceeds.setLastCut (s : State) (n : Nat) : Proceeds s { s with tim.lastCut := n } := .of_kept rfl rfl rfl

theorem Proceeds.setCut (s : State) (n m : Nat) : Proceeds s { s with fab.cutOnes := n, lease.lapsed := true, tim.lastCut := m } :=
  .of_kept rfl rfl rfl

/-- The frame in progress is cut, but where it ends within 10 ns of its time. -/
def State.cutFrame (s : State) : State :=
  (s.endFrame [] (if within (-10) 10 s.tim.diff then 1000 else min 125000 s.frameAge / 125)).cutStreams (within (-10) 10 s.tim.diff)

theorem Proceeds.cutFrame (s : State) : Proceeds s s.cutFrame := (endFrame ..).trans (cutStreams ..)

/-- The forebay at a realignment, which reads on where no frame is cut, and is placed again where one is. -/
def State.realignBay (s : State) (near : Bool) (n age : Nat) (phases : List LanePhase) : State :=
  if near then { s.forebay n phases with tim.lastCut := 0 }
  else { (s.replaceLanes n phases).readyFrame n with
    fab.cutOnes := ((s.replaceLanes n phases).readyFrame n).framesToRead + 2, lease.lapsed := true, tim.lastCut := 125000 - age }

theorem Proceeds.realignBay (s : State) (near : Bool) (n age : Nat) (phases : List LanePhase) : Proceeds s (s.realignBay near n age phases) := by
  rw [State.realignBay]
  refine .ite (.trans ?_ (.setLastCut ..)) (.trans ?_ (.setCut ..))
  · exact .forebay ..
  · exact (replaceLanes ..).trans (readyFrame ..)

theorem realign_eq {s : State} {t : Nat} (h : s.portUp = true) (ht : s.tim.realignAt = some t) (hnow : t * tcSecond ≤ s.tod.counter)
    (phases : List LanePhase) :
    realign phases s = (((s.cutFrame.taiFrame t).snapFabs.realignBay (within (-10) 10 s.tim.diff) s.fab.frameNo (min 125000 s.frameAge)
      phases).realigned.tableSteps s.fab.frameNo s.ended.fab.lineSel).startFrame := by
  have hlate : ¬s.tod.counter < t * tcSecond := Nat.not_lt.mpr hnow
  simp only [realign, State.cutFrame, State.taiFrame, State.realignBay, State.realigned, ht, h, hlate, Bool.not_true, decide_false,
    Bool.or_self, Bool.false_eq_true, if_false]

/-- A realignment at its instant numbers the frame from TAI, and goes on as every boundary does (09 R254). -/
theorem realign_started {s : State} {t : Nat} (h : s.portUp = true) (ht : s.tim.realignAt = some t) (hnow : t * tcSecond ≤ s.tod.counter)
    (phases : List LanePhase) : ∃ w, Proceeds (s.cutFrame.taiFrame t) w ∧ FrameStarted w.realigned (realign phases s) := by
  rw [realign_eq h ht hnow]
  exact ⟨_, (Proceeds.snapFabs _).trans (.realignBay ..), .after (.tableSteps ..) (State.startFrame_started _)⟩

theorem State.nextFrame_pages (s : State) : s.nextFrame.pages = s.pages := rfl

theorem State.taiFrame_pages (s : State) (t : Nat) : (s.taiFrame t).pages = s.pages := rfl

theorem State.taiFrame_ctr (s : State) (t i b f e : Nat) : (s.taiFrame t).ctr i b f e = s.ctr i b f e := rfl

theorem exec_boundary (o : BoundaryObs) (s : State) : exec (.internalFrameBoundary o) s = .next (s.fixed (frameBoundary o s.quiet)) := rfl

theorem exec_realignment (phases : List LanePhase) (s : State) : exec (.realignment phases) s = .next (s.fixed (realign phases s.quiet)) := rfl

/-- What a frame's start sends, a command that ends with it has sent. -/
theorem FrameStarted.fixed {s u v w : State} (h : FrameStarted u w) (hv : v = w ∨ v = { w with lease.ahead := 0 }) :
    .fp8k ∈ (s.fixed v).out ∧ ∀ l : LaneId, (s.fixed v).enabled l = true → ((s.fixed v).lane l).bring.txMode = .zasyn →
      ((s.fixed v).lane l).tx.txRun = true ∧ ((s.fixed v).tim.aligned = true →
        ((s.fixed v).lane l).tx.txMfi = (s.fixed v).fab.mfi ∧ ((s.fixed v).lane l).tx.txSfi = (s.fixed v).fab.sfi) := by
  rcases hv with rfl | rfl
  · exact ⟨h.fp8k, fun l he hz => h.lanes l ⟨he, hz⟩⟩
  · exact ⟨h.fp8k, fun l he hz => h.lanes l ⟨he, hz⟩⟩

/-- The frame that a boundary begins (02 R41; 05 R125). -/
theorem frameBoundary_goes {s : State} (h : s.portUp = true) (o : BoundaryObs) :
    ∃ w n, frameBoundary o s = { w with lease.ahead := 0 } ∧ FrameStarted (s.endFrame o.upsets 1000).nextFrame w ∧ w.fab.hist.length ≤ 3 ∧
      KeepsPages s w ∧ w.course = { s.course with
        frameNo := s.course.frameNo + 1, number := nextMulti s.course.number, superframe := n, boundaryAt := s.course.counter - 2300 * 65536 } := by
  obtain ⟨w, heq, hstart, hhist⟩ := frameBoundary_eq h o
  obtain ⟨n, hcourse⟩ := (s.endFrame o.upsets 1000).nextFrame_course
  have hend := Proceeds.endFrame s o.upsets 1000
  rw [hend.course] at hcourse
  exact ⟨w, n, heq, hstart, hhist, (hend.keepsPages.trans (.of_pages (State.nextFrame_pages _))).trans hstart.proceeds.keepsPages,
    hstart.proceeds.course.trans hcourse⟩

/-- The frame that a realignment begins (06 R170; 09 R254; 11 R297). -/
theorem realign_goes {s : State} {t : Nat} (h : s.portUp = true) (ht : s.tim.realignAt = some t) (hnow : t * tcSecond ≤ s.tod.counter)
    (phases : List LanePhase) : ∃ w slots, FrameStarted w (realign phases s) ∧ KeepsPages s (realign phases s) ∧
      (∀ k, ((realign phases s).keySlot k).pend = none) ∧
      (realign phases s).ctr 0x5460 4 4 0 = (s.ctr 0x5460 4 4 0 + 1) % 4294967296 ∧ (realign phases s).course = { s.course with
        frameNo := s.course.frameNo + 1, number := (0, 0), superframe := t / 2, boundaryAt := s.course.counter - 2300 * 65536,
        realignAt := none, aligned := true, slots := slots } := by
  obtain ⟨w, hw, hstart⟩ := realign_started h ht hnow phases
  obtain ⟨hcourse, hpages, hctr⟩ := w.realigned_goes
  have hcut := Proceeds.cutFrame s
  have hgoes := hstart.proceeds
  have hslots : (realign phases s).sealing.slots = w.realigned.sealing.slots := congrArg Course.slots hgoes.course
  refine ⟨_, w.realigned.sealing.slots, hstart, ?_, fun k => ?_, ?_, ?_⟩
  · exact (((hcut.keepsPages.trans (.of_pages (State.taiFrame_pages ..))).trans hw.keepsPages).trans (.of_pages hpages)).trans hgoes.keepsPages
  · rw [State.keySlot, hslots]
    exact w.realigned_pend k
  · rw [hgoes.ctr, hctr, hw.ctr, State.taiFrame_ctr, hcut.ctr]
  · rw [hgoes.course, hcourse, hw.course, State.taiFrame_course, hcut.course]

/-- Settles O41: between its new identity and its start, every step of a boundary leaves the frame's course as it is. -/
theorem boundariesBeginFrames : Obligations.BoundariesBeginFrames := by
  unfold Obligations.BoundariesBeginFrames
  simp only [exec_boundary, exec_realignment]
  intro s hup
  refine ⟨fun o => ?_, fun at_ phases hat hnow => ?_⟩
  · obtain ⟨w, n, heq, hstart, hhist, hkeeps, hc⟩ := frameBoundary_goes (s := s.quiet) hup o
    refine ⟨_, rfl, ?_⟩
    rw [heq]
    exact ⟨(congrArg Course.frameNo hc :), (congrArg Course.number hc :), (congrArg Course.boundaryAt hc :), (congrArg Course.counter hc :),
      hstart.fixed (.inr rfl), hhist, hkeeps.pages, hkeeps.holder⟩
  · obtain ⟨w, slots, hstart, hkeeps, hpend, hctr, hc⟩ := realign_goes (s := s.quiet) hup hat hnow phases
    have hnumber := congrArg Course.number hc
    have hsends := hstart.fixed (s := s) (.inl rfl)
    generalize realign phases s.quiet = t at hkeeps hpend hctr hc hnumber hsends ⊢
    refine ⟨_, rfl, (congrArg Course.frameNo hc :), (congrArg Course.superframe hc :), (Prod.mk.inj hnumber).1, (congrArg Course.boundaryAt hc :),
      (Prod.mk.inj hnumber).2, (congrArg Course.realignAt hc :), (congrArg Course.aligned hc :), hpend, hsends, hctr,
      (congrArg Course.counter hc :), fun h => ?_⟩
    obtain ⟨hact, hshadow, -⟩ := hkeeps.pages h
    exact ⟨hact, hshadow⟩

end Sys2Proof.Machine
end

section
/-! PROOFS. What a change of stage, a restart and a fall leave a lane in (03 R81, R83, R85). -/

namespace Sys2Proof.Machine

/-! Stages (03 R81). -/

/-- Of the bring-up, a lane that falls below a stage keeps what its signal, its clock, its restart hold and its transmitter show. -/
@[simp] theorem Lane.below_bring (x : Lane) (st : Nat) :
    (x.below st).bring.sd = x.bring.sd ∧ (x.below st).bring.cdr = x.bring.cdr ∧ (x.below st).bring.sdSince = x.bring.sdSince ∧
    (x.below st).bring.holdSince = x.bring.holdSince ∧ (x.below st).bring.txMode = x.bring.txMode := by
  simp only [Lane.below]
  repeat' split
  all_goals exact ⟨rfl, rfl, rfl, rfl, rfl⟩

@[simp] theorem Lane.below_tr (x : Lane) (st : Nat) :
    (x.below st).tr.taps = x.tr.taps ∧ (x.below st).tr.withoutPartner = x.tr.withoutPartner ∧ (x.below st).tr.trainSince = x.tr.trainSince := by
  simp only [Lane.below]
  repeat' split
  all_goals exact ⟨rfl, rfl, rfl⟩

@[simp] theorem Lane.below_scr (x : Lane) (st : Nat) : (x.below st).df.scr = x.df.scr := by
  simp only [Lane.below]
  repeat' split
  all_goals rfl

theorem Lane.below_blockLock (x : Lane) {st : Nat} (h : st < 5) : (x.below st).df.blockLock = false := by
  simp only [Lane.below, h, if_true]

@[simp] theorem Lane.goto_bring (x : Lane) (st now : Nat) :
    (x.goto st now).bring.stage = st ∧ (x.goto st now).bring.stageSince = now ∧ (x.goto st now).bring.sd = x.bring.sd ∧
    (x.goto st now).bring.cdr = x.bring.cdr ∧ (x.goto st now).bring.sdSince = x.bring.sdSince ∧
    (x.goto st now).bring.holdSince = x.bring.holdSince ∧ (x.goto st now).bring.txMode = x.bring.txMode := by
  simp [Lane.goto]

@[simp] theorem Lane.goto_tr (x : Lane) (st now : Nat) :
    (x.goto st now).tr.taps = x.tr.taps ∧ (x.goto st now).tr.withoutPartner = x.tr.withoutPartner ∧
    (x.goto st now).tr.trainSince = x.tr.trainSince := x.below_tr st

@[simp] theorem Lane.goto_scr (x : Lane) (st now : Nat) : (x.goto st now).df.scr = x.df.scr := x.below_scr st

theorem Lane.goto_blockLock (x : Lane) {st : Nat} (h : st < 5) (now : Nat) : (x.goto st now).df.blockLock = false := x.below_blockLock h

@[simp] theorem Lane.lockDefects_keep (x : Lane) :
    x.lockDefects.bring = x.bring ∧ x.lockDefects.tr = x.tr ∧ x.lockDefects.df = x.df ∧ x.lockDefects.eq = x.eq := ⟨rfl, rfl, rfl, rfl⟩

@[simp] theorem Lane.startTraining_bring (x : Lane) (l now : Nat) : (x.startTraining l now).bring = x.bring := rfl

@[simp] theorem Lane.startZasyn_tr (x : Lane) : x.startZasyn.tr = x.tr := by
  unfold Lane.startZasyn
  split <;> rfl

/-- A transmitter that turns to Zasyn blocks has its scrambler loaded with all ones (02 R29). -/
theorem Lane.startZasyn_scr {x : Lane} (h : x.bring.txMode ≠ .zasyn) : x.startZasyn.df.scr = BitVec.allOnes 58 := by
  simp [Lane.startZasyn, h]

@[simp] theorem State.trainTx_withoutPartner (s : State) (l : Nat) (x : Lane) : (s.trainTx l x).tr.withoutPartner = x.tr.withoutPartner := by
  simp only [State.trainTx, Lane.sendTraining]
  repeat' split
  all_goals simp [Train.setTaps]

@[simp] theorem Train.setTaps_taps (x : Train) (t : Nat × Nat × Nat) : (x.setTaps t).taps = t := rfl

/-! What settling keeps. -/

theorem State.change_tr (s : State) (l : LaneId) (f : Lane → Lane) : ((s.change l f).lane l).tr = (f (s.lane l)).tr := by
  rw [State.change]
  simp

theorem State.change_d (s : State) (l : LaneId) (f : Lane → Lane) : ((s.change l f).lane l).d = (f (s.lane l)).rank.d := by
  rw [State.change]
  simp

@[simp] theorem Lane.rank_eq (x : Lane) : x.rank.eq = x.eq := by
  simp only [Lane.rank]
  split <;> rfl

/-- Settling leaves what the sampler has shown (03 R77). -/
theorem State.settle_eye (s : State) (l : LaneId) :
    ((s.settle l).lane l).eq.eyeHeight = (s.lane l).eq.eyeHeight ∧ ((s.settle l).lane l).eq.eyeWidth = (s.lane l).eq.eyeWidth := by
  have hf : (((s.modLane l fun x => x.rank).followEq l).lane l).eq.eyeHeight = (s.lane l).eq.eyeHeight ∧
      (((s.modLane l fun x => x.rank).followEq l).lane l).eq.eyeWidth = (s.lane l).eq.eyeWidth := by
    simp [State.followEq]
  simp only [State.settle]
  repeat' split
  all_goals simp [State.cutPayload_lane, hf]

/-- A count of bring-up (03 Table 3-14) is no other of them, and settling a lane counts none. -/
theorem bringUpKey_inj {b b' : Nat} (h : b ≠ b') (l : Nat) : ctrKey 0x2030 b 0 l ≠ ctrKey 0x2030 b' 0 l := by
  unfold ctrKey; omega

theorem State.change_bringUp (s : State) (l : LaneId) (f : Lane → Lane) {b : Nat} (hb : b < 256) :
    (s.change l f).ctr 0x2030 b 0 l = s.ctr 0x2030 b 0 l :=
  s.change_ctr l f _ _ _ _ (fun r => by unfold ctrKey; omega) (by unfold ctrKey; omega)

/-! Restart and fall (03 R83, R85). -/

theorem State.laneRestart_signal (s : State) (l : LaneId) (c : Bool) :
    ((s.laneRestart l c).lane l).bring.sd = (s.lane l).bring.sd ∧ ((s.laneRestart l c).lane l).bring.sdSince = (s.lane l).bring.sdSince := by
  unfold State.laneRestart
  split
  · cases c <;> simp [(State.change_lane ..).1]
  · exact ⟨rfl, rfl⟩

theorem State.laneRestart_tr {s : State} {l : LaneId} (h : s.enabled l = true) (c : Bool) :
    ((s.laneRestart l c).lane l).tr.rtrSince = none ∧ ((s.laneRestart l c).lane l).tr.withoutPartner = (s.lane l).tr.withoutPartner := by
  unfold State.laneRestart
  rw [if_pos h]
  cases c <;> simp [State.change_tr, Train.quiet]

/-- A restart counts in 2030:01 (03 R87). -/
theorem State.laneRestart_counted {s : State} {l : LaneId} (h : s.enabled l = true) :
    (s.laneRestart l).ctr 0x2030 1 0 l = (s.ctr 0x2030 1 0 l + 1) % 4294967296 := by
  rw [State.laneRestart, if_pos h, if_pos rfl, State.change_bringUp _ _ _ (by decide), State.ctr_count]

theorem State.laneRestart_bringUp (s : State) (l : LaneId) {b : Nat} (h1 : b ≠ 1) (hb : b < 256) :
    (s.laneRestart l).ctr 0x2030 b 0 l = s.ctr 0x2030 b 0 l := by
  unfold State.laneRestart
  split
  · rw [if_pos rfl, State.change_bringUp _ _ _ hb, State.ctr_count_of_ne (bringUpKey_inj h1 l)]
  · rfl

theorem OnlyLane.fallHold (s : State) (l : LaneId) (st : Nat) : OnlyLane l s (s.fallHold l st) := .change ..

/-- A fall goes on with the restart hold that runs, or starts one (03 R85). -/
theorem State.fallHold_bring (s : State) (l : LaneId) (st : Nat) :
    ((s.fallHold l st).lane l).bring.stage = st ∧ ((s.fallHold l st).lane l).bring.holdSince = some ((s.lane l).bring.holdSince.getD s.now) ∧
    ((s.fallHold l st).lane l).bring.sd = (s.lane l).bring.sd ∧ ((s.fallHold l st).lane l).bring.cdr = (s.lane l).bring.cdr ∧
    ((s.fallHold l st).lane l).bring.sdSince = (s.lane l).bring.sdSince ∧ ((s.fallHold l st).lane l).bring.txMode = (s.lane l).bring.txMode := by
  simp [State.fallHold, (State.change_lane ..).1]

theorem State.fallHold_blockLock (s : State) (l : LaneId) {st : Nat} (h : st < 5) : ((s.fallHold l st).lane l).df.blockLock = false := by
  rw [State.fallHold, (State.change_lane ..).2]
  exact (s.lane l).goto_blockLock h s.now

end Sys2Proof.Machine
end

section
/-! PROOFS. Signal detect and the recovered clock move a lane between its first stages (03 R81, R83, R85; 04 R108). -/

namespace Sys2Proof.Machine

/-- A command that changes one lane alone, by the state that its function runs to. -/
theorem run_onlyLane {l : Nat} {f : State → State} {s : State} {P : State → Prop}
    (h : OnlyLane l s.quiet (f s.quiet) ∧ P (s.fixed (f s.quiet))) : ∃ t, run f s = .next t ∧ OnlyLane l s t ∧ P t :=
  ⟨_, rfl, h.1.fixed, h.2⟩

section

variable {s : State} {l : LaneId}

theorem State.enabled_of_listens (h : s.listens l = true) : s.enabled l = true := (Bool.and_eq_true_iff.mp h).1

/-- Signal detect asserts (03 R81). -/
theorem sdAssert_spec (h : s.listens l = true) (hsd : (s.lane l).bring.sd = false) :
    OnlyLane l s (sdAssert l s) ∧
    ((sdAssert l s).lane l).bring = { (s.lane l).bring with sd := true, sdSince := s.now, sdRun := s.now } := by
  simp only [sdAssert, h, hsd, Bool.not_false, Bool.and_self, if_true]
  refine ⟨.change .., ?_⟩
  rw [(State.change_lane ..).1]
  split <;> rfl

/-- The signal of a lane goes, and its clock with it. -/
def State.dropSignal (s : State) (l : LaneId) : State :=
  s.modLane l fun x => { x with bring := { x.bring with sd := false, sdSince := s.now, cdr := false } }

/-- Signal detect deasserts: a fall, a restart, or a lane that has not passed stage 1 (03 R85). -/
theorem sdDeassert_eq (h : s.listens l = true) (hsd : (s.lane l).bring.sd = true) :
    sdDeassert l s =
      if 4 ≤ (s.lane l).bring.stage ∨ (s.lane l).bring.holdSince.isSome = true then (s.dropSignal l).fallHold l 1
      else if 2 ≤ (s.lane l).bring.stage then (s.dropSignal l).laneRestart l false
      else (s.dropSignal l).settle l := by
  simp only [sdDeassert, h, hsd, Bool.and_self, if_true, State.lane_modLane_same]
  rfl

theorem State.dropSignal_bring (s : State) (l : LaneId) :
    ((s.dropSignal l).lane l).bring = { (s.lane l).bring with sd := false, sdSince := s.now, cdr := false } := by
  rw [State.dropSignal, State.lane_modLane_same]

theorem sdDeassert_spec (h : s.listens l = true) (hsd : (s.lane l).bring.sd = true) :
    OnlyLane l s (sdDeassert l s) ∧ ((sdDeassert l s).lane l).bring.sd = false ∧ ((sdDeassert l s).lane l).bring.cdr = false ∧
    ((sdDeassert l s).lane l).bring.sdSince = s.now ∧
    (2 ≤ (s.lane l).bring.stage → ((sdDeassert l s).lane l).bring.stage = 1) ∧
    (4 ≤ (s.lane l).bring.stage ∨ (s.lane l).bring.holdSince.isSome = true →
      ((sdDeassert l s).lane l).bring.holdSince = some ((s.lane l).bring.holdSince.getD s.now) ∧
      ((sdDeassert l s).lane l).bring.txMode = (s.lane l).bring.txMode) := by
  have hdrop : OnlyLane l s (s.dropSignal l) := .modLane ..
  have hen : (s.dropSignal l).enabled l = true := State.enabled_of_listens h
  rw [sdDeassert_eq h hsd]
  split
  · obtain ⟨hstage, hhold, hsig, hcdr, hsince, htx⟩ := (s.dropSignal l).fallHold_bring l 1
    rw [State.dropSignal_bring] at hhold hsig hcdr hsince htx
    exact ⟨hdrop.trans (.fallHold ..), hsig, hcdr, hsince, fun _ => hstage, fun _ => ⟨hhold, htx⟩⟩
  next hfall =>
  split
  · obtain ⟨hstage, -, -, hcdr⟩ := (s.dropSignal l).laneRestart_bring l false hen
    obtain ⟨hsig, hsince⟩ := (s.dropSignal l).laneRestart_signal l false
    rw [State.dropSignal_bring] at hsig hsince
    exact ⟨hdrop.trans (.laneRestart ..), hsig, hcdr, hsince, fun _ => hstage, fun hc => absurd hc hfall⟩
  next hlow =>
    have hbring := ((s.dropSignal l).settle_lane l).1.trans (s.dropSignal_bring l)
    rw [hbring]
    exact ⟨hdrop.trans (.settle ..), rfl, rfl, rfl, fun hc => absurd hc hlow, fun hc => absurd hc hfall⟩

/-- A stable signal takes a lane from stage 1 to stage 2 (03 Table 3-10). -/
theorem sdStable_spec (h : s.enabled l = true) (hsd : (s.lane l).bring.sd = true) (h1 : (s.lane l).bring.stage = 1)
    (ho : s.over (s.lane l).bring.sdRun 100000 = true) :
    OnlyLane l s (sdStable l s) ∧ ((sdStable l s).lane l).bring.stage = 2 ∧ ((sdStable l s).lane l).bring.stageSince = s.now := by
  simp only [sdStable, h, hsd, h1, ho, beq_self_eq_true, Bool.and_self, if_true, State.change_lane, Lane.goto_bring, and_self, and_true]
  exact .change ..

/-- The clock locks in stage 2 (03 R80, R85). -/
theorem cdrStable_spec (h : s.enabled l = true) (h2 : (s.lane l).bring.stage = 2) :
    OnlyLane l s (cdrStable l s) ∧ ((cdrStable l s).lane l).bring.cdr = true ∧ ((cdrStable l s).lane l).bring.stageSince = s.now ∧
    ((cdrStable l s).lane l).bring.stage = if (s.lane l).bring.holdSince.isSome || s.fixedMode l || s.nearLoop l then 4 else 3 := by
  simp only [cdrStable, h, h2, beq_self_eq_true, Bool.and_self, if_true]
  refine ⟨.change .., ?_⟩
  rw [(State.change_lane ..).1]
  split <;> simp

/-- No clock within the time of stage 2 takes a lane back to stage 1 (03 Table 3-10). -/
theorem cdrTimeout_spec (h2 : (s.lane l).bring.stage = 2) (ho : s.over (s.lane l).bring.stageSince 10000000 = true) :
    OnlyLane l s (cdrTimeout l s) ∧ ((cdrTimeout l s).lane l).bring.stage = 1 ∧
    (cdrTimeout l s).ctr 0x2030 5 0 l = (s.ctr 0x2030 5 0 l + 1) % 4294967296 := by
  have heq : cdrTimeout l s = (s.count 0x2030 5 0 l).change l fun x => x.goto 1 s.now := by
    simp [cdrTimeout, msecs, h2, ho]
  rw [heq]
  refine ⟨(OnlyLane.count ..).trans (.change ..), ?_, ?_⟩
  · rw [(State.change_lane ..).1]
    exact (Lane.goto_bring ..).1
  · rw [State.change_bringUp _ _ _ (by decide), State.ctr_count]

/-- The clock of a lane goes. -/
def State.dropClock (s : State) (l : LaneId) : State := s.modLane l fun x => { x with bring := { x.bring with cdr := false } }

theorem State.dropClock_bring (s : State) (l : LaneId) : ((s.dropClock l).lane l).bring = { (s.lane l).bring with cdr := false } := by
  rw [State.dropClock, State.lane_modLane_same]

/-- Near-end parallel loopback takes no clock from the pins (03 Table 3-12). -/
theorem cdrLost_parallel (hp : s.loopback l = 2) : cdrLost l s = s := if_pos hp

/-- The clock of a lane from stage 4 on is lost: it falls to stage 2 (03 R85). -/
theorem cdrLost_fall (hp : s.loopback l ≠ 2) (h4 : 4 ≤ (s.lane l).bring.stage) :
    cdrLost l s = ((s.dropClock l).fallHold l 2).change l fun x => x.lockDefects := by
  simp only [cdrLost, hp, h4, if_true, if_false]
  rfl

/-- The clock of a lane in stage 3 is lost: it restarts (03 R83). -/
theorem cdrLost_restart (hp : s.loopback l ≠ 2) (h3 : (s.lane l).bring.stage = 3) :
    cdrLost l s = (s.dropClock l).laneRestart l false := by
  simp only [cdrLost, hp, h3, if_true, if_false]
  rfl

theorem cdrLost_spec (h : s.enabled l = true) (hp : s.loopback l ≠ 2) (h3 : 3 ≤ (s.lane l).bring.stage) :
    OnlyLane l s (cdrLost l s) ∧ ((cdrLost l s).lane l).bring.cdr = false ∧
    ((s.lane l).bring.stage = 3 → ((cdrLost l s).lane l).bring.stage = 1) ∧
    (4 ≤ (s.lane l).bring.stage → ((cdrLost l s).lane l).bring.stage = 2 ∧
      ((cdrLost l s).lane l).bring.holdSince = some ((s.lane l).bring.holdSince.getD s.now)) := by
  have hdrop : OnlyLane l s (s.dropClock l) := .modLane ..
  by_cases h4 : 4 ≤ (s.lane l).bring.stage
  · obtain ⟨hstage, hhold, -, hcdr, -⟩ := (s.dropClock l).fallHold_bring l 2
    rw [State.dropClock_bring] at hhold hcdr
    rw [cdrLost_fall hp h4, (State.change_lane ..).1, (Lane.lockDefects_keep _).1]
    exact ⟨(hdrop.trans (.fallHold ..)).trans (.change ..), hcdr, fun hc => by omega, fun _ => ⟨hstage, hhold⟩⟩
  · have h3 : (s.lane l).bring.stage = 3 := by omega
    obtain ⟨hstage, -, -, hcdr⟩ := (s.dropClock l).laneRestart_bring l false h
    rw [cdrLost_restart hp h3]
    exact ⟨hdrop.trans (.laneRestart ..), hcdr, fun _ => hstage, fun hc => absurd hc h4⟩

end

/-- Settles O6, clause by clause from what each signal and clock command makes of its lane. -/
theorem signalCommandsMoveTheLane : Obligations.SignalCommandsMoveTheLane := by
  unfold Obligations.SignalCommandsMoveTheLane
  intro s l
  refine ⟨fun h hsd => ?_, fun h hsd => ?_, fun h hsd h1 ho => ?_, fun h h2 => ?_, fun h2 ho => ?_, fun hp => ?_, fun h hp h3 => ?_⟩
  · exact run_onlyLane (sdAssert_spec (s := s.quiet) h hsd)
  · exact run_onlyLane (sdDeassert_spec (s := s.quiet) h hsd)
  · exact run_onlyLane (sdStable_spec (s := s.quiet) h hsd h1 ho)
  · exact run_onlyLane (cdrStable_spec (s := s.quiet) h h2)
  · exact run_onlyLane (cdrTimeout_spec (s := s.quiet) h2 ho)
  · exact ⟨_, rfl, congrArg s.fixed (cdrLost_parallel (s := s.quiet) hp)⟩
  · exact run_onlyLane (cdrLost_spec (s := s.quiet) h hp h3)

end Sys2Proof.Machine
end

section
/-! PROOFS. The timers of a lane: its defects clear or show, and it restarts (03 R83, R85, R87; 04 R108, R109). -/

namespace Sys2Proof.Machine

section

variable {s : State} {l : LaneId}

theorem Lane.rank_slip (x : Lane) : x.rank.d.slip = x.d.slip := by
  simp only [Lane.rank]
  split <;> rfl

/-- A present LOS suppresses what ranks below it (04 R109). -/
theorem Lane.rank_los {x : Lane} (h : x.d.los = true) :
    x.rank.d = { x.d with lol := false, lof := false, lom := false, ais := false, rdi := false, tim := false, aisRun := 0, rdiRun := 0 } := by
  simp [Lane.rank, h]

/-- Without LOS, nothing suppresses LOL (04 R109). -/
theorem Lane.rank_lol {x : Lane} (h : x.d.los = false) : x.rank.d.los = false ∧ x.rank.d.lol = x.d.lol := by
  simp only [Lane.rank, h]
  split <;> simp [h]

theorem declareLos_spec (h : s.listens l = true) (hsd : (s.lane l).bring.sd = false) (hl : (s.lane l).d.los = false)
    (ho : s.over (s.lane l).bring.sdSince 10000 = true) :
    OnlyLane l s (declareLos l s) ∧ ((declareLos l s).lane l).bring = (s.lane l).bring ∧
    ((declareLos l s).lane l).d = { (s.lane l).d with
      los := true, lol := false, lof := false, lom := false, ais := false, rdi := false, tim := false, aisRun := 0, rdiRun := 0 } := by
  have heq : declareLos l s = s.change l fun x => { x with d := { x.d with los := true } } := by simp [declareLos, h, hsd, hl, ho]
  rw [heq]
  refine ⟨.change .., (State.change_lane ..).1, ?_⟩
  rw [State.change_d, Lane.rank_los rfl]

theorem clearLos_spec (hl : (s.lane l).d.los = true) (hsd : (s.lane l).bring.sd = true)
    (ho : s.over (s.lane l).bring.sdSince 100000 = true) :
    OnlyLane l s (clearLos l s) ∧ ((clearLos l s).lane l).bring = (s.lane l).bring ∧ ((clearLos l s).lane l).d.los = false ∧
    ((clearLos l s).lane l).d.lol = !(s.lane l).df.blockLock := by
  have heq : clearLos l s = s.change l fun x => ({ x with d := { x.d with los := false } } : Lane).lockDefects := by simp [clearLos, hl, hsd, ho]
  rw [heq, State.change_d]
  refine ⟨.change .., (State.change_lane ..).1, (Lane.rank_lol rfl).1, ?_⟩
  rw [(Lane.rank_lol rfl).2]
  simp [Lane.lockDefects, hsd]

theorem slipEnd_spec (hs : (s.lane l).d.slip = true) (ho : s.over (s.lane l).d.slipAt 10000000000 = true) :
    OnlyLane l s (slipEnd l s) ∧ ((slipEnd l s).lane l).bring = (s.lane l).bring ∧ ((slipEnd l s).lane l).d.slip = false := by
  have heq : slipEnd l s = s.change l fun x => { x with d := { x.d with slip := false } } := by simp [slipEnd, secs, hs, ho]
  rw [heq, State.change_d, Lane.rank_slip]
  exact ⟨.change .., (State.change_lane ..).1, rfl⟩

/-- A lane restarts at the end of its time for block lock (03 Table 3-9). -/
theorem blockLockTimeout_eq (h4 : (s.lane l).bring.stage = 4) (hh : (s.lane l).bring.holdSince = none)
    (ho : s.over (s.lane l).bring.stageSince 5000000 = true) : blockLockTimeout l s = s.laneRestart l := by
  simp [blockLockTimeout, msecs, h4, hh, ho]

/-- A lane restarts at the end of its restart hold (03 R85). -/
theorem holdExpiry_eq {u : Nat} (hh : (s.lane l).bring.holdSince = some u) (ho : s.over u (s.cfg 0x2000 6 l * 1000000) = true) :
    holdExpiry l s = s.laneRestart l := by
  simp [holdExpiry, msecs, hh, ho]

/-- A lane restarts after the frames that carry RTR (03 R87). -/
theorem rtrEnd_eq {u : Nat} (hr : (s.lane l).tr.rtrSince = some u) (ho : s.over u 1000000 = true) : rtrEnd l s = s.laneRestart l := by
  simp [rtrEnd, msecs, hr, ho]

end

/-- Settles O7: the defects by what ranking leaves of them, and the three expiries by the restart that each comes to. -/
theorem laneTimersExpire : Obligations.LaneTimersExpire := by
  unfold Obligations.LaneTimersExpire
  refine ⟨fun s l => ⟨fun h hsd hl ho => ?_, fun hl hsd ho => ?_, fun hs ho => ?_⟩,
    fun s l h => ⟨fun h4 hh ho => ?_, fun u hh ho => ?_, fun u hr ho => ?_⟩⟩
  · exact run_onlyLane (declareLos_spec (s := s.quiet) h hsd hl ho)
  · exact run_onlyLane (clearLos_spec (s := s.quiet) hl hsd ho)
  · exact run_onlyLane (slipEnd_spec (s := s.quiet) hs ho)
  all_goals
    obtain ⟨hstage, hsince, hhold, hcdr⟩ := s.quiet.laneRestart_bring l true h
    have hcount := State.laneRestart_counted (s := s.quiet) h
  · refine run_onlyLane (f := blockLockTimeout l) ?_
    rw [blockLockTimeout_eq (s := s.quiet) h4 hh ho]
    exact ⟨.laneRestart .., hstage, hsince, hcdr, hcount⟩
  · refine run_onlyLane (f := holdExpiry l) ?_
    rw [holdExpiry_eq (s := s.quiet) hh ho]
    exact ⟨.laneRestart .., hstage, hsince, hhold, hcount⟩
  · refine run_onlyLane (f := rtrEnd l) ?_
    rw [rtrEnd_eq (s := s.quiet) hr ho]
    exact ⟨.laneRestart .., hstage, hsince, (State.laneRestart_tr (s := s.quiet) h true).1, hcount⟩

end Sys2Proof.Machine
end

section
/-! PROOFS. A lane in stage 3 answers the partner's messages until its trailing frames or its timer end (03 R75 to R79). -/

namespace Sys2Proof.Machine

section

variable {s : State} {l : LaneId}

/-- A message heard in stage 3 is answered at once, with the eye that the sampler shows (03 R75 to R77). -/
def State.hearMessage (s : State) (l : LaneId) (m : Bytes) (e : EyeObs) : State :=
  (s.modLane l fun x => x.seeEye e).change l fun x => trainMessage x l m (eyeReady e) s.now

theorem recvTraining_eq (h : s.listens l = true) (h3 : (s.lane l).bring.stage = 3) {w : BitVec 304} {m : Bytes}
    (hm : trainingMessageOf w = some m) (e : EyeObs) :
    recvTraining l w e s = (s.hearMessage l m e).emit
      (.training l (statusByte ((s.hearMessage l m e).lane l).tr) ((s.hearMessage l m e).lane l).tr.answered) := by
  simp only [recvTraining, State.hearMessage, h, h3, hm, Bool.not_true, Bool.false_eq_true, if_false, if_true, State.modLane_frame]

theorem State.hearMessage_lane (s : State) (l : LaneId) (m : Bytes) (e : EyeObs) :
    ((s.hearMessage l m e).lane l).bring = (s.lane l).bring ∧
    ((s.hearMessage l m e).lane l).tr = (trainMessage (s.lane l) l m (eyeReady e) s.now).tr ∧
    ((s.hearMessage l m e).lane l).eq.eyeHeight = e.height ∧ ((s.hearMessage l m e).lane l).eq.eyeWidth = e.width := by
  rw [State.hearMessage, State.change_tr, (State.change_lane ..).1, State.change, (State.settle_eye ..).1, (State.settle_eye ..).2]
  simp only [State.lane_modLane_same]
  exact ⟨rfl, rfl, rfl, rfl⟩

theorem trainMessage_tr (x : Lane) (l : Nat) (m : Bytes) (r : Bool) (now : Nat) :
    (trainMessage x l m r now).tr.validMsg = true ∧ (trainMessage x l m r now).tr.answered = field m 4 1 ∧
    (trainMessage x l m r now).tr.rxReady = r ∧ (trainMessage x l m r now).tr.taps = (respondTap x.tr m).taps ∧
    (trainMessage x l m r now).tr.presetApplied = (respondTap x.tr m).presetApplied := by
  simp [trainMessage]

theorem State.emit_out (s : State) (o : Output) : (s.emit o).out = s.out ++ [o] := rfl

/-- What a valid message makes of a lane in stage 3, and what is sent back (03 R75 to R77). -/
theorem recvTraining_spec (h : s.listens l = true) (h3 : (s.lane l).bring.stage = 3) {w : BitVec 304} {m : Bytes}
    (hm : trainingMessageOf w = some m) (e : EyeObs) :
    OnlyLane l s (recvTraining l w e s) ∧ ((recvTraining l w e s).lane l).bring = (s.lane l).bring ∧
    ((recvTraining l w e s).lane l).tr.validMsg = true ∧ ((recvTraining l w e s).lane l).tr.answered = field m 4 1 ∧
    ((recvTraining l w e s).lane l).tr.rxReady = eyeReady e ∧
    ((recvTraining l w e s).lane l).eq.eyeHeight = e.height ∧ ((recvTraining l w e s).lane l).eq.eyeWidth = e.width ∧
    (recvTraining l w e s).out = s.out ++ [.training l (statusByte ((recvTraining l w e s).lane l).tr) (field m 4 1)] ∧
    (bit (field m 1 1) 1 = true → (s.lane l).tr.presetApplied = false →
      ((recvTraining l w e s).lane l).tr.taps = presetTaps (bits (field m 3 1) 2 0) ∧
      ((recvTraining l w e s).lane l).tr.presetApplied = true) := by
  have hhear : OnlyLane l s (s.hearMessage l m e) := (OnlyLane.modLane ..).trans (.change ..)
  have hout : (s.hearMessage l m e).out = s.out := by simp [State.hearMessage]
  obtain ⟨hbring, htr, hheight, hwidth⟩ := s.hearMessage_lane l m e
  obtain ⟨hvalid, hans, hready, htaps, hpreset⟩ := trainMessage_tr (s.lane l) l m (eyeReady e) s.now
  simp only [recvTraining_eq h h3 hm, State.emit_reads, State.emit_out, hout, htr, hans]
  refine ⟨hhear.trans (.emit ..), hbring, hvalid, trivial, hready, hheight, hwidth, trivial, fun hp hn => ?_⟩
  rw [htaps, hpreset]
  exact respondTap_preset _ _ hp hn

/-- The request of a lane has had no answer (03 R76). -/
theorem responseTime_eq {u : Nat} (h3 : (s.lane l).bring.stage = 3) (hr : (s.lane l).tr.reqSince = some u) (ho : s.over u 1000000 = true) :
    responseTime l s = s.modLane l fun x => { x with tr := { x.tr with holdFrames := 17, reqSince := none } } := by
  simp only [responseTime, h3, hr, msecs, Nat.one_mul, ho, if_true]

section

variable {u : Nat} (h3 : (s.lane l).bring.stage = 3) (ht : (s.lane l).tr.trainSince = some u) (htr : (s.lane l).tr.trailSince = none)
  (ho : s.over u (s.cfg 0x2000 4 l * 1000000) = true)
include h3 ht htr ho

/-- The training timer of a lane that has heard its partner, or that may not go on without one, ends: it restarts (03 R79). -/
theorem trainingTimer_restarts (hp : (s.lane l).tr.validMsg = true ∨ s.cfg 0x2000 3 l ≠ 1) :
    trainingTimer l s =
      ((s.count 0x2030 2 0 l).modLane l fun x => { x with tr := { x.tr with withoutPartner := false } }).laneRestart l := by
  have hp' : ((s.lane l).tr.validMsg || s.cfg 0x2000 3 l != 1) = true := by simpa using hp
  simp only [trainingTimer, h3, ht, htr, msecs, ho, hp', if_true]

/-- The training timer of a lane without a partner ends: it goes on to stage 4 (03 R79). -/
theorem trainingTimer_alone (hm : (s.lane l).tr.validMsg = false) (hf : s.cfg 0x2000 3 l = 1) :
    trainingTimer l s = (s.count 0x2030 3 0 l).change l fun x =>
      let y := { x.tr.setTaps (presetTaps (s.cfg 0x2000 5 l)) with withoutPartner := true, trainSince := none }
      ({ x with tr := y } : Lane).startZasyn.toBlockLock s.now := by
  simp only [trainingTimer, h3, ht, htr, msecs, ho, hm, hf, bne_self_eq_false, Bool.or_self, Bool.false_eq_true, if_false, if_true]

theorem trainingTimer_restarts_spec (hp : (s.lane l).tr.validMsg = true ∨ s.cfg 0x2000 3 l ≠ 1) (h : s.enabled l = true) :
    OnlyLane l s (trainingTimer l s) ∧ ((trainingTimer l s).lane l).bring.stage = 1 ∧
    ((trainingTimer l s).lane l).tr.withoutPartner = false ∧
    (trainingTimer l s).ctr 0x2030 2 0 l = (s.ctr 0x2030 2 0 l + 1) % 4294967296 := by
  rw [trainingTimer_restarts h3 ht htr ho hp]
  have hen : ((s.count 0x2030 2 0 l).modLane l fun x => { x with tr := { x.tr with withoutPartner := false } }).enabled l = true := h
  refine ⟨((OnlyLane.count ..).trans (.modLane ..)).trans (.laneRestart ..), (State.laneRestart_bring _ l true hen).1, ?_, ?_⟩
  · rw [(State.laneRestart_tr hen true).2, State.lane_modLane_same]
  · rw [State.laneRestart_bringUp _ _ (by decide) (by decide)]
    exact s.ctr_count ..

theorem trainingTimer_alone_spec (hm : (s.lane l).tr.validMsg = false) (hf : s.cfg 0x2000 3 l = 1) :
    OnlyLane l s (trainingTimer l s) ∧ ((trainingTimer l s).lane l).bring.stage = 4 ∧
    ((trainingTimer l s).lane l).bring.txMode = .zasyn ∧ ((trainingTimer l s).lane l).tr.withoutPartner = true ∧
    ((trainingTimer l s).lane l).tr.trainSince = none ∧ ((trainingTimer l s).lane l).tr.taps = presetTaps (s.cfg 0x2000 5 l) ∧
    (trainingTimer l s).ctr 0x2030 3 0 l = (s.ctr 0x2030 3 0 l + 1) % 4294967296 := by
  rw [trainingTimer_alone h3 ht htr ho hm hf, State.change_tr, (State.change_lane ..).1, State.change_bringUp _ _ _ (by decide), State.ctr_count]
  refine ⟨(OnlyLane.count ..).trans (.change ..), ?_⟩
  simp [Lane.toBlockLock]
  rfl

end

/-- The trailing frames of a lane end: it sends Zasyn blocks, in stage 4 (03 R77). -/
theorem trailingEnd_spec {u : Nat} (h3 : (s.lane l).bring.stage = 3) (htr : (s.lane l).tr.trailSince = some u) (ho : s.over u 21990 = true) :
    OnlyLane l s (trailingEnd l s) ∧ ((trailingEnd l s).lane l).bring.stage = 4 ∧ ((trailingEnd l s).lane l).bring.txMode = .zasyn ∧
    ((trailingEnd l s).lane l).tr.withoutPartner = false ∧
    ((s.lane l).bring.txMode ≠ .zasyn → ((trailingEnd l s).lane l).df.scr = BitVec.allOnes 58) := by
  have heq : trailingEnd l s = s.change l fun x =>
      ({ x with tr := { x.tr with withoutPartner := false, trailSince := none, trainSince := none } } : Lane).startZasyn.toBlockLock s.now := by
    simp only [trailingEnd, h3, htr, ho, if_true]
  rw [heq, State.change_tr, (State.change_lane ..).1, (State.change_lane ..).2]
  refine ⟨.change .., ?_, ?_, ?_, fun hz => ?_⟩
  · simp [Lane.toBlockLock]
  · simp [Lane.toBlockLock]
  · simp [Lane.toBlockLock]
  · exact (Lane.goto_scr ..).trans (Lane.startZasyn_scr hz)

end

/-- Settles O8, by the branch of stage 3 that each command takes. -/
theorem trainingRunsItsCourse : Obligations.TrainingRunsItsCourse := by
  unfold Obligations.TrainingRunsItsCourse
  refine fun s l h3 => ⟨fun w m e h hm => ?_, fun u hr ho => ?_, fun u ht htr ho => ⟨fun hp h => ?_, fun hm hf => ?_⟩, fun u htr ho => ?_⟩
  · exact run_onlyLane (recvTraining_spec (s := s.quiet) h h3 hm e)
  · refine run_onlyLane (f := responseTime l) ?_
    rw [responseTime_eq (s := s.quiet) h3 hr ho]
    exact ⟨.modLane .., ((State.fixed_reads ..).1 l).trans (State.lane_modLane_same ..)⟩
  · exact run_onlyLane (trainingTimer_restarts_spec (s := s.quiet) h3 ht htr ho hp h)
  · exact run_onlyLane (trainingTimer_alone_spec (s := s.quiet) h3 ht htr ho hm hf)
  · exact run_onlyLane (trailingEnd_spec (s := s.quiet) h3 htr ho)

end Sys2Proof.Machine
end

section
/-! PROOFS. Sync headers make and break block lock (03 R82, R85). -/

namespace Sys2Proof.Machine

section

variable {s : State} {l : LaneId}

/-- The sync header as the receiver takes it: complemented where it inverts (03 R86). -/
def State.takenHeader (s : State) (l : LaneId) (h : BitVec 2) : BitVec 2 := if s.inverts l then ~~~h else h

/-- The descrambler of a lane takes a block in (02 R28). -/
def State.descrambled (s : State) (l : LaneId) (w : BitVec 64) : State :=
  s.modLane l fun x => { x with df := { x.df with
    descr := (descramble (s.lane l).df.descr (if s.inverts l then ~~~w else w)).2, descrBits := 58 } }

theorem State.descrambled_lane (s : State) (l : LaneId) (w : BitVec 64) :
    ((s.descrambled l w).lane l).bring = (s.lane l).bring ∧ ((s.descrambled l w).lane l).df.goodRun = (s.lane l).df.goodRun ∧
    ((s.descrambled l w).lane l).df.bitSlips = (s.lane l).df.bitSlips := by
  rw [State.descrambled, State.lane_modLane_same]
  exact ⟨rfl, rfl, rfl⟩

/-- A header found without block lock goes to its search (03 R82). -/
theorem recvBlock_searches (he : s.enabled l = true) (h4 : 4 ≤ (s.lane l).bring.stage) (hb : (s.lane l).df.blockLock = false)
    (h : BitVec 2) (w : BitVec 64) : recvBlock l h w s = (s.descrambled l w).searchBlock l (headerOk (s.takenHeader l h)) := by
  simp only [recvBlock, he, h4, hb, decide_true, Bool.and_self, Bool.not_false, if_true]
  rfl

/-- The sixteenth invalid header of the last 64 ends block lock: the lane falls to stage 4 (03 R85). -/
theorem recvBlock_unlocks (he : s.enabled l = true) (h4 : 4 ≤ (s.lane l).bring.stage) (hb : (s.lane l).df.blockLock = true)
    {h : BitVec 2} (hn : 16 ≤ ((headerOk (s.takenHeader l h) :: (s.lane l).df.heads).take 64).countP (!·)) (w : BitVec 64) :
    recvBlock l h w s = ((s.descrambled l w).fallHold l 4).change l fun x => x.lockDefects := by
  rw [State.takenHeader] at hn
  simp only [recvBlock, he, h4, hb, hn, decide_true, Bool.and_self, Bool.not_true, Bool.false_eq_true, if_false, if_true]
  rfl

/-- The search for block lock counts a valid header, and slips a bit on an invalid one (03 R82). -/
theorem State.searchBlock_valid (h : (s.lane l).df.goodRun + 1 < 64) :
    s.searchBlock l true = s.modLane l fun x => { x with df := { x.df with goodRun := x.df.goodRun + 1 } } := by
  simp only [State.searchBlock, if_true, Nat.not_le.mpr h, if_false]

theorem State.searchBlock_found (h : 64 ≤ (s.lane l).df.goodRun + 1) : s.searchBlock l true = s.blockLocked l := by
  simp only [State.searchBlock, if_true, h]

theorem State.searchBlock_invalid (s : State) (l : LaneId) : s.searchBlock l false = s.modLane l fun x =>
    { x with df := { x.df with goodRun := 0, bitSlips := (x.df.bitSlips + 1) % 66, descrBits := 0 } } := by
  simp only [State.searchBlock, Bool.false_eq_true, if_false]

/-- Block lock takes a lane to stage 5 and ends its restart hold (03 R82, R85). -/
theorem State.blockLocked_spec (s : State) (l : LaneId) :
    OnlyLane l s (s.blockLocked l) ∧ ((s.blockLocked l).lane l).df.blockLock = true ∧ ((s.blockLocked l).lane l).bring.stage = 5 ∧
    ((s.blockLocked l).lane l).bring.holdSince = none := by
  simp only [State.blockLocked]
  rw [(State.change_lane ..).1, (State.change_lane ..).2]
  refine ⟨.trans ?_ (.change ..), rfl, rfl, rfl⟩
  split
  · exact .count ..
  · exact .refl ..

theorem OnlyLane.descrambled (s : State) (l : LaneId) (w : BitVec 64) : OnlyLane l s (s.descrambled l w) := .modLane ..

section

variable (he : s.enabled l = true) (h4 : 4 ≤ (s.lane l).bring.stage) {h : BitVec 2}
include he h4

theorem recvBlock_counts (hb : (s.lane l).df.blockLock = false) (hok : headerOk (s.takenHeader l h) = true)
    (hn : (s.lane l).df.goodRun + 1 < 64) (w : BitVec 64) :
    OnlyLane l s (recvBlock l h w s) ∧ ((recvBlock l h w s).lane l).df.goodRun = (s.lane l).df.goodRun + 1 ∧
    ((recvBlock l h w s).lane l).bring = (s.lane l).bring := by
  obtain ⟨hbring, hrun, -⟩ := s.descrambled_lane l w
  rw [recvBlock_searches he h4 hb, hok, State.searchBlock_valid (by rwa [hrun])]
  refine ⟨(OnlyLane.descrambled ..).trans (.modLane ..), ?_⟩
  simp [hrun, hbring]

theorem recvBlock_locks (hb : (s.lane l).df.blockLock = false) (hok : headerOk (s.takenHeader l h) = true)
    (hn : 64 ≤ (s.lane l).df.goodRun + 1) (w : BitVec 64) :
    OnlyLane l s (recvBlock l h w s) ∧ ((recvBlock l h w s).lane l).df.blockLock = true ∧
    ((recvBlock l h w s).lane l).bring.stage = 5 ∧ ((recvBlock l h w s).lane l).bring.holdSince = none := by
  obtain ⟨-, hrun, -⟩ := s.descrambled_lane l w
  rw [recvBlock_searches he h4 hb, hok, State.searchBlock_found (by rwa [hrun])]
  obtain ⟨honly, hlocked⟩ := (s.descrambled l w).blockLocked_spec l
  exact ⟨(OnlyLane.descrambled ..).trans honly, hlocked⟩

theorem recvBlock_slips (hb : (s.lane l).df.blockLock = false) (hbad : headerOk (s.takenHeader l h) = false) (w : BitVec 64) :
    OnlyLane l s (recvBlock l h w s) ∧ ((recvBlock l h w s).lane l).df.goodRun = 0 ∧
    ((recvBlock l h w s).lane l).df.bitSlips = ((s.lane l).df.bitSlips + 1) % 66 := by
  obtain ⟨-, -, hslips⟩ := s.descrambled_lane l w
  rw [recvBlock_searches he h4 hb, hbad, State.searchBlock_invalid]
  refine ⟨(OnlyLane.descrambled ..).trans (.modLane ..), ?_⟩
  simp [hslips]

theorem recvBlock_falls (hb : (s.lane l).df.blockLock = true)
    (hn : 16 ≤ ((headerOk (s.takenHeader l h) :: (s.lane l).df.heads).take 64).countP (!·)) (w : BitVec 64) :
    OnlyLane l s (recvBlock l h w s) ∧ ((recvBlock l h w s).lane l).df.blockLock = false ∧
    ((recvBlock l h w s).lane l).bring.stage = 4 ∧
    ((recvBlock l h w s).lane l).bring.holdSince = some ((s.lane l).bring.holdSince.getD s.now) := by
  obtain ⟨hstage, hhold, -⟩ := (s.descrambled l w).fallHold_bring l 4
  rw [(s.descrambled_lane l w).1] at hhold
  rw [recvBlock_unlocks he h4 hb hn, (State.change_lane ..).1, (State.change_lane ..).2, (Lane.lockDefects_keep _).1,
    (Lane.lockDefects_keep _).2.2.1]
  exact ⟨((OnlyLane.descrambled ..).trans (.fallHold ..)).trans (.change ..), State.fallHold_blockLock _ l (by decide), hstage, hhold⟩

end

end

/-- Settles O13: without block lock by what the search makes of a header, with it by the fall that the last header brings. -/
theorem headersMakeAndBreakBlockLock : Obligations.HeadersMakeAndBreakBlockLock := by
  unfold Obligations.HeadersMakeAndBreakBlockLock
  refine fun s l h w he h4 => ⟨fun hb hok hn => ?_, fun hb hok hn => ?_, fun hb hbad => ?_, fun hb hn => ?_⟩
  · exact run_onlyLane (recvBlock_counts (s := s.quiet) he h4 hb hok hn w)
  · exact run_onlyLane (recvBlock_locks (s := s.quiet) he h4 hb hok hn w)
  · exact run_onlyLane (recvBlock_slips (s := s.quiet) he h4 hb hbad w)
  · exact run_onlyLane (recvBlock_falls (s := s.quiet) he h4 hb hn w)

end Sys2Proof.Machine
end

section
/-! PROOFS. The write of a setting of a lane: the setting stored, and what its effect makes of the lane (14 R364, R373). -/

namespace Sys2Proof.Machine

/-- One setting of a lane is stored; beside it that lane, and what lanes share and answers write, differ. -/
structure SetsLane (index sub l n : Nat) (s t : State) : Prop where
  set : t.cfg index sub l = n
  sets : SetsOnly index sub l s t
  others : ∀ k, k ≠ l → t.lane k = s.lane k
  less : t.lessAnswers.lessSettings.lessLanes = s.lessAnswers.lessSettings.lessLanes

section

variable {index sub l n : Nat} {s t u : State}

/-- No setting of a lane is the SSM option, which defaults of others depend on (09 R235). -/
theorem ssmKey_ne (hi : index ≠ 0x5400) (hs : sub < 256) (hl : l < 48) : objKey 0x5400 1 0 ≠ objKey index sub l := fun h =>
  hi ((objKey_inj (by decide) hs (by decide) (by omega)).mp h).1.symm

/-- An effect that stores its setting and then changes its lane alone. -/
theorem SetsLane.of_setStaged {p : Bool} (hi : index ≠ 0x5400) (hs : sub < 256) (hl : l < 48) (h : OnlyLane l (s.setStaged index sub l [n] p) t) :
    SetsLane index sub l n s t := by
  have hk := ssmKey_ne hi hs hl
  have hp : t.persist = (s.setStaged index sub l [n] p).persist := (congrArg State.persist h.1 :)
  have hval (i b e : Nat) : t.val i b e = (s.setStaged index sub l [n] p).val i b e := by simp only [State.val, hp]
  have hless : (s.setStaged index sub l [n] p).lessSettings = s.lessSettings := by cases p <;> rfl
  refine ⟨?_, fun i b e hne => ?_, fun k hne => ?_, ?_⟩
  · rw [State.cfg, hval, State.val_setStaged _ _ _ _ _ _ (List.cons_ne_nil _ _) hk]
    rfl
  · rw [hval, State.val_setStaged_other _ _ _ _ _ _ _ _ _ hk hne]
  · rw [h.2 k hne]
    simp
  · exact (congrArg (fun w : State => w.lessAnswers.lessSettings) h.1).trans (congrArg (fun w : State => w.lessAnswers.lessLanes) hless)

/-- The answer to a write keeps its effect. -/
theorem AnswersWith.setsLane {q : Req} {status : Nat} (ha : AnswersWith q status t u) (h : SetsLane index sub l n s t) :
    SetsLane index sub l n s u := by
  have hlane (k : Nat) : u.lane k = t.lane k := (congrArg (fun w : State => w.lane k) ha.less :)
  refine ⟨?_, fun i b e hne => ?_, fun k hne => (hlane k).trans (h.others k hne), ?_⟩
  · rw [State.cfg, ha.val]
    exact h.set
  · rw [ha.val]
    exact h.sets i b e hne
  · exact (congrArg (fun w : State => w.lessSettings.lessLanes) ha.less).trans h.less

/-- What is read of the state in which a request was heard is what it was before. -/
theorem SetsLane.of_heard {id : Nat} (h : SetsLane index sub l n (s.heard id) t) : SetsLane index sub l n s t := by
  refine ⟨h.set, fun i b e hne => ?_, fun k hne => ?_, ?_⟩
  · rw [h.sets i b e hne]
    simp
  · rw [h.others k hne]
    simp
  · rw [h.less, State.heard_lessAnswers]

theorem SetsLane.fixed (h : SetsLane index sub l n s.quiet t) : SetsLane index sub l n s (s.fixed t) :=
  ⟨h.set, h.sets, h.others, congrArg s.fixed h.less⟩

end

section

variable {rq : Rq} {x : Session} {s : State} {l : LaneId}

theorem AnswersWith.lane {q : Req} {status : Nat} {u r : State} (h : AnswersWith q status u r) (k : Nat) : r.lane k = u.lane k :=
  (congrArg (fun w : State => w.lane k) h.less :)

/-- A command that writes a setting of a lane (14 R364). -/
theorem run_setsLane {index sub n : Nat} {v : Bytes} {o : Obj} (h : Writes rq index sub l v x s) (ho : findObj index sub = some o)
    (h0 : sub ≠ 0) (h1 : sub ≠ 0xFE) (hq : ¬ (index = 0x5E10 ∧ sub = 3)) {eff : Session → List Nat → State → Act} {u : State}
    (he : eff x (o.split v) (s.quiet.heard rq.session) = ok u) (hm : u.mgmt.sessions = (s.quiet.heard rq.session).mgmt.sessions)
    (hu : SetsLane index sub l n (s.quiet.heard rq.session) u) :
    ∃ t, run (writeOf rq index sub l v eff) s = .next t ∧ Answered 2 (writeReq rq index sub l v) 0 t ∧ SetsLane index sub l n s t ∧
      t.lane l = u.lane l ∧ t.lessAnswers = s.fixed u.lessAnswers := by
  obtain ⟨r, hr, ha⟩ := run_writeOf_answers h ho h0 h1 hq he hm
  exact ⟨_, hr, ha.answered, (ha.setsLane hu).of_heard.fixed, ha.lane l, congrArg s.fixed ha.less⟩

end

end Sys2Proof.Machine
end

section
/-! PROOFS. A lane is enabled, disabled and retrained (03 R81, R87, Table 3-11). -/

namespace Sys2Proof.Machine

@[simp] theorem laneOf_val (l : LaneId) : laneOf l = l := by simp [laneOf]

section

variable {s : State} {l : LaneId} (x : Session)

/-- The state in which a lane has just been enabled: its counters of bring-up start afresh (03 R81). -/
def State.laneOn (s : State) (l : LaneId) : State := (((s.clearGroup 0x2030 l).setLane l (s.freshLane l)).lanePartly l).settle l

theorem effEnable_on (h : s.portUp = true) (hc : s.cfg 0x2000 1 l ≠ 1) :
    effEnable l x [1] s = ok ((s.setStaged 0x2000 1 l [1]).laneOn l) := by
  simp [effEnable, State.laneOn, h, hc]

theorem effEnable_off (h : s.portUp = true) (hc : s.cfg 0x2000 1 l = 1) :
    effEnable l x [0] s = ok (((s.setStaged 0x2000 1 l [0]).lanePartly l).laneOff l) := by
  simp [effEnable, h, hc]

theorem OnlyLane.lanePartly (s : State) (l : Nat) : OnlyLane l s (s.lanePartly l) :=
  ⟨by simp [State.lessLanes, State.lanePartly, State.modNear, State.modFar], by simp⟩

theorem State.laneOn_onlyLane (s : State) (l : LaneId) : OnlyLane l (s.clearGroup 0x2030 l) (s.laneOn l) :=
  ((OnlyLane.setLane ..).trans (.lanePartly ..)).trans (.settle ..)

theorem State.freshLane_spec (s : State) (l : Nat) : (s.freshLane l).bring.stage = 1 ∧ (s.freshLane l).df.scr = BitVec.allOnes 58 := by
  simp [State.freshLane]

theorem State.laneOn_lane (s : State) (l : LaneId) :
    ((s.laneOn l).lane l).bring.stage = 1 ∧ ((s.laneOn l).lane l).df.scr = BitVec.allOnes 58 := by
  have hlane : ((((s.clearGroup 0x2030 l).setLane l (s.freshLane l)).lanePartly l).lane l) = s.freshLane l := by simp
  obtain ⟨hbring, -, hdf, -⟩ := (((s.clearGroup 0x2030 l).setLane l (s.freshLane l)).lanePartly l).settle_lane l
  rw [hlane] at hbring hdf
  rw [State.laneOn, hbring, hdf]
  exact s.freshLane_spec l

theorem State.laneOff_lane (s : State) (l : LaneId) : ((s.laneOff l).lane l).bring = {} ∧ ((s.laneOff l).lane l).tr = {} := by
  simp [State.laneOff]

theorem OnlyLane.laneOff (s : State) (l : LaneId) : OnlyLane l s (s.laneOff l) := (OnlyLane.setLane ..).trans (.settle ..)

/-- A retrain of a lane that sends blocks is told to the partner first (03 R87). -/
theorem effRetrain_rtr (h : s.enabled l = true) (hz : (s.lane l).bring.txMode = .zasyn) (vs : List Nat) :
    effRetrain l x vs s = ok (s.modLane l fun x => { x with tr := { x.tr with rtrSince := some s.now } }) := by
  simp only [effRetrain, h, hz, Bool.not_true, Bool.false_eq_true, if_false, if_true]

/-- A retrain of a lane that sends training frames is a restart (log entry 22). -/
theorem effRetrain_restarts (h : s.enabled l = true) (hz : (s.lane l).bring.txMode ≠ .zasyn) (vs : List Nat) :
    effRetrain l x vs s = ok (s.laneRestart l) := by
  simp only [effRetrain, h, hz, Bool.not_true, Bool.false_eq_true, if_false, laneOf_val]

end

section

variable {rq : Rq} {x : Session} {s : State} {l : LaneId}

theorem laneEnable_spec (hup : s.portUp = true) (h : Writes rq 0x2000 1 l (u8 1) x s) (hc : s.cfg 0x2000 1 l ≠ 1) :
    ∃ t, exec (.laneEnable rq l) s = .next t ∧ Answered 2 (writeReq rq 0x2000 1 l (u8 1)) 0 t ∧ SetsOnly 0x2000 1 l s t ∧
      t.cfg 0x2000 1 l = 1 ∧ (t.lane l).bring.stage = 1 ∧ (t.lane l).df.scr = BitVec.allOnes 58 ∧
      (∀ k, k ≠ (l : Nat) → t.lane k = s.lane k) ∧
      ({ t with restarted := [] } : State).lessAnswers.lessSettings.lessLanes =
        ({ s with restarted := [] } : State).lessAnswers.lessSettings.lessLanes := by
  have hset : SetsLane 0x2000 1 l 1 ((s.quiet.heard rq.session).clearGroup 0x2030 l)
      (((s.quiet.heard rq.session).setStaged 0x2000 1 l [1]).laneOn l) :=
    .of_setStaged (p := true) (by decide) (by decide) l.isLt (State.laneOn_onlyLane ((s.quiet.heard rq.session).setStaged 0x2000 1 l [1]) l)
  obtain ⟨r, hr, ha⟩ := run_writeOf_answers h rfl (by decide) (by decide) (by decide)
    (effEnable_on x (s := s.quiet.heard rq.session) (by simpa using hup) (by simpa using hc)) (by simp [State.laneOn])
  have hr' := ha.setsLane hset
  obtain ⟨hstage, hscr⟩ := ((s.quiet.heard rq.session).setStaged 0x2000 1 l [1]).laneOn_lane l
  rw [← ha.lane l] at hstage hscr
  refine ⟨_, hr, ha.answered, fun i b e hk => ?_, hr'.set, hstage, hscr, fun k hk => ?_, ?_⟩
  · exact (hr'.sets i b e hk).trans (by simp)
  · exact (hr'.others k hk).trans (by simp)
  · have hless : r.lessAnswers.lessSettings.lessLanes.lessRestarted = s.quiet.lessAnswers.lessSettings.lessLanes.lessRestarted :=
      calc r.lessAnswers.lessSettings.lessLanes.lessRestarted
        _ = (s.quiet.heard rq.session).lessAnswers.lessSettings.lessLanes.lessRestarted := (congrArg State.lessRestarted hr'.less :)
        _ = s.quiet.lessAnswers.lessSettings.lessLanes.lessRestarted := by rw [State.heard_lessAnswers]
    exact congrArg s.fixed hless

/-- A retrain changes its lane alone, whether it is told first or at once (03 R87). -/
theorem run_retrain {arg : Byte} {u : State} (h : Writes rq 0x2000 9 l [arg] x s)
    (he : ∀ vs, effRetrain l x vs (s.quiet.heard rq.session) = ok u) (hm : u.mgmt = (s.quiet.heard rq.session).mgmt)
    (hu : OnlyLane l (s.quiet.heard rq.session) u) :
    ∃ t, exec (.retrain rq l arg) s = .next t ∧ Answered 2 (writeReq rq 0x2000 9 l [arg]) 0 t ∧ t.lane l = u.lane l ∧
      (∀ k, k ≠ (l : Nat) → t.lane k = s.lane k) ∧ t.lessAnswers.lessLanes = s.lessAnswers.lessLanes := by
  obtain ⟨r, hr, ha⟩ := run_writeOf_answers (o := _) h rfl (by decide) (by decide) (by decide) (he _) (congrArg Mgmt.sessions hm)
  refine ⟨_, hr, ha.answered, ha.lane l, fun k hk => ?_, ?_⟩
  · exact (ha.lane k).trans ((hu.2 k hk).trans (by simp))
  · have hless : r.lessAnswers.lessLanes = s.quiet.lessAnswers.lessLanes :=
      calc r.lessAnswers.lessLanes
        _ = (s.quiet.heard rq.session).lessAnswers.lessLanes := by rw [ha.less]; exact congrArg State.lessAnswers hu.1
        _ = s.quiet.lessAnswers.lessLanes := by rw [State.heard_lessAnswers]
    exact congrArg s.fixed hless

end

/-- Settles O10: a write of 2000:01 by what enabling and disabling leave of the lane, a retrain by what the lane sends. -/
theorem laneEnableDisableRetrain : Obligations.LaneEnableDisableRetrain := by
  unfold Obligations.LaneEnableDisableRetrain
  refine fun s rq x l hup => ⟨fun h hc => laneEnable_spec hup h hc, fun h hc => ?_, fun arg h hen => ?_⟩
  · obtain ⟨t, ht, hans, hset, hlane, -⟩ := run_setsLane h rfl (by decide) (by decide) (by decide)
      (effEnable_off x (s := s.quiet.heard rq.session) (by simpa using hup) (by simpa using hc)) (by simp)
      (.of_setStaged (by decide) (by decide) l.isLt ((OnlyLane.lanePartly ..).trans (.laneOff ..)))
    obtain ⟨hbring, htr⟩ := (((s.quiet.heard rq.session).setStaged 0x2000 1 l [0]).lanePartly l).laneOff_lane l
    rw [← hlane] at hbring htr
    exact ⟨t, ht, hans, hset.sets, hset.set, hbring, htr, hset.others, hset.less⟩
  · have hen' : (s.quiet.heard rq.session).enabled l = true := by simpa using hen
    by_cases hz : (s.lane l).bring.txMode = .zasyn
    · obtain ⟨t, ht, hans, hlane, hrest⟩ := run_retrain h (effRetrain_rtr x hen' (by simpa using hz)) (by simp) (.modLane ..)
      refine ⟨t, ht, hans, fun _ => hlane.trans (by simp), fun hc => absurd hz hc, hrest⟩
    · obtain ⟨t, ht, hans, hlane, hrest⟩ := run_retrain h (effRetrain_restarts x hen' (by simpa using hz)) (by simp) (.laneRestart ..)
      refine ⟨t, ht, hans, fun hc => absurd hc hz, fun _ => ?_, hrest⟩
      rw [hlane]
      exact (State.laneRestart_bring _ l true hen').1

end Sys2Proof.Machine
end

section
/-! PROOFS. The loopback of a lane (03 R92, R93, Table 3-12). -/

namespace Sys2Proof.Machine

/-- A lane enters a near-end loopback at a stage, sending Zasyn blocks, without a restart hold, and with its own signal (03 R92). -/
theorem Lane.loopIn_bring (x : Lane) (st now : Nat) :
    (x.loopIn st now).bring.stage = st ∧ (x.loopIn st now).bring.txMode = .zasyn ∧ (x.loopIn st now).bring.sd = true ∧
    (x.loopIn st now).bring.holdSince = none := by
  simp [Lane.loopIn]

/-- A setting other than 2000:01 enables and disables no lane (03 R81). -/
theorem State.enabled_setStaged (s : State) {index sub el k : Nat} {p : Bool} (hi : index ≠ 0x5400) (hs : sub < 256) (hel : el < 48) (hk : k < 48)
    (hne : index ≠ 0x2000 ∨ sub ≠ 1) (v : List Nat) : (s.setStaged index sub el v p).enabled k = s.enabled k := by
  have hkey : objKey 0x2000 1 k ≠ objKey index sub el := fun h => by
    obtain ⟨rfl, rfl, -⟩ := (objKey_inj (by decide) hs (by omega) (by omega)).mp h
    simp at hne
  rw [State.enabled, State.enabled, State.cfg, State.cfg, State.val_setStaged_other _ _ _ _ _ _ _ _ _ (ssmKey_ne hi hs hel) hkey]
  simp

/-- Far-end loopback sends back what a lane receives, or does so no more (03 Table 3-12). -/
def State.sendBack (s : State) (l : LaneId) (on : Bool) : State := s.modLane l fun x => { x with tx := { x.tx with felbTx := on } }

section

variable {s : State} {l : LaneId} (h : s.enabled l = true) (x : Session)
include h

theorem effLoopback_serial (hc : s.cfg 0x2000 8 l = 0) :
    effLoopback l x [1] s = ok ((s.setVal 0x2000 8 l [1]).change l fun x =>
      { x.loopIn 2 s.now with tr := (x.loopIn 2 s.now).tr.setTaps (s.fixedTaps l) }) := by
  simp [effLoopback, State.loopback, h, hc]

theorem effLoopback_parallel (hc : s.cfg 0x2000 8 l = 0) :
    effLoopback l x [2] s = ok ((s.setVal 0x2000 8 l [2]).change l fun x => x.loopIn 4 s.now) := by
  simp [effLoopback, State.loopback, h, hc]

theorem effLoopback_farEnd (hc : s.cfg 0x2000 8 l = 0) : effLoopback l x [3] s = ok ((s.setVal 0x2000 8 l [3]).sendBack l true) := by
  simp [effLoopback, State.loopback, State.sendBack, h, hc]

theorem effLoopback_farEndOff (hc : s.cfg 0x2000 8 l = 3) : effLoopback l x [0] s = ok ((s.setVal 0x2000 8 l [0]).sendBack l false) := by
  simp [effLoopback, State.loopback, State.sendBack, h, hc]

/-- The signal of a near-end loopback ends with it, and the lane restarts (03 R92). -/
theorem effLoopback_nearEndOff (h0 : s.cfg 0x2000 8 l ≠ 0) (h3 : s.cfg 0x2000 8 l ≠ 3) :
    effLoopback l x [0] s = ok (((s.setVal 0x2000 8 l [0]).modLane l fun x =>
      { x with bring := { x.bring with sd := false, sdSince := s.now } }).laneRestart l) := by
  simp [effLoopback, State.loopback, h, h0.symm, h3]

end

/-- One loopback does not follow another directly (03 R93; log entry 27). -/
theorem effLoopback_another {s : State} {l : LaneId} (x : Session) (hc : s.cfg 0x2000 8 l = 1) :
    effLoopback l x [2] s = .refuse (naming stState 0x2020 1 l) := by
  simp [effLoopback, State.loopback, hc]

section

variable {rq : Rq} {x : Session} {s : State} {l : LaneId}

theorem splitFields_u8 (n : Nat) : splitFields [1] (u8 n) = [n % 256] := by
  simp [splitFields, u8, beBytes, beNat]

/-- A write of the loopback whose effect is to change the lane (03 R92). -/
theorem run_loopback {n : Nat} {u : State} (h : Writes rq 0x2000 8 l (u8 n) x s) (hn : n < 256)
    (he : effLoopback l x [n] (s.quiet.heard rq.session) = ok u) (hu : OnlyLane l ((s.quiet.heard rq.session).setVal 0x2000 8 l [n]) u) :
    ∃ t, run (writeOf rq 0x2000 8 l (u8 n) (effLoopback l)) s = .next t ∧ Answered 2 (writeReq rq 0x2000 8 l (u8 n)) 0 t ∧
      SetsLane 0x2000 8 l n s t ∧ t.lane l = u.lane l := by
  have hsplit : splitFields [1] (u8 n) = [n] := by rw [splitFields_u8, Nat.mod_eq_of_lt hn]
  obtain ⟨t, ht, hans, hset, hlane, -⟩ := run_setsLane h rfl (by decide) (by decide) (by decide)
    ((congrArg (effLoopback l x · _) hsplit).trans he) (congrArg (·.mgmt.sessions) hu.1)
    (.of_setStaged (p := false) (by decide) (by decide) l.isLt hu)
  exact ⟨t, ht, hans, hset, hlane⟩

/-- A write that is refused changes no lane and no setting (14 R364). -/
theorem run_writeOf_refused {index sub el : Nat} {v : Bytes} {o : Obj} (h : Writes rq index sub el v x s) (ho : findObj index sub = some o)
    (h0 : sub ≠ 0) (h1 : sub ≠ 0xFE) {eff : Session → List Nat → State → Act} {a : Ans}
    (he : eff x (o.split v) (s.quiet.heard rq.session) = .refuse a) :
    ∃ t, run (writeOf rq index sub el v eff) s = .next t ∧ Answered 2 (writeReq rq index sub el v) a.status t ∧
      t.lanes = s.lanes ∧ t.persist = s.persist := by
  have ⟨⟨_, hx, hr, _, _, _, _, _, hsend, hrecv⟩, _⟩ := h
  have hsession : ((s.quiet.heard rq.session).auditAccess 2 (writeReq rq index sub el v) x a).session? rq.session =
      some { x with lastAt := s.now } := by
    rw [(State.auditAccess_reads ..).2.2.2.2.2.2.1]
    exact TakenUp.session (s := s.quiet) h.1
  have ha := State.respond_answersWith (q := writeReq rq index sub el v) (a := a) hsession hr hsend hrecv
  refine ⟨_, rfl, ?_⟩
  rw [writeOf_refused (s := s.quiet) h ho h0 h1 he]
  exact ⟨ha.answered, by simp, by simp⟩

end

/-- Settles O11: each write of 2000:08 by the lane that its effect makes, and the change from one loopback to another by its refusal. -/
theorem loopbackFollowsItsSetting : Obligations.LoopbackFollowsItsSetting := by
  unfold Obligations.LoopbackFollowsItsSetting
  intro s rq x l hen
  have hen' : (s.quiet.heard rq.session).enabled l = true := by simpa using hen
  have hcfg : (s.quiet.heard rq.session).cfg 0x2000 8 l = s.cfg 0x2000 8 l := by simp
  refine ⟨fun h hc => ?_, fun h hc => ?_, fun h hc => ?_, fun h hc => ?_, fun h hc => ?_⟩
  · obtain ⟨t, ht, hans, hset, hlane⟩ := run_loopback h (by decide) (effLoopback_serial hen' x (hcfg.trans hc)) (.change ..)
    have hloop : ((t.lane l).bring.stage = 2 ∧ (t.lane l).bring.txMode = .zasyn ∧ (t.lane l).bring.sd = true ∧
        (t.lane l).bring.holdSince = none) ∧ (t.lane l).tr.taps = s.fixedTaps l := by
      rw [hlane, State.change_tr, (State.change_lane ..).1]
      exact ⟨Lane.loopIn_bring .., by simp [State.fixedTaps]⟩
    obtain ⟨⟨hstage, htx, hsd, hhold⟩, htaps⟩ := hloop
    exact ⟨t, ht, hans, hset.sets, hset.set, hstage, htx, hsd, hhold, htaps, hset.others, hset.less⟩
  · obtain ⟨t, ht, hans, hset, hlane⟩ := run_loopback h (by decide) (effLoopback_parallel hen' x (hcfg.trans hc)) (.change ..)
    have hbring : (t.lane l).bring = ((s.lane l).loopIn 4 s.now).bring := by
      rw [hlane, (State.change_lane ..).1]
      simp
    obtain ⟨hstage, htx, hsd, hhold⟩ := Lane.loopIn_bring (s.lane l) 4 s.now
    rw [← hbring] at hstage htx hsd hhold
    exact ⟨t, ht, hans, hset.sets, hset.set, hstage, htx, hsd, hhold, hset.others, hset.less⟩
  · obtain ⟨t, ht, hans, hset, hlane⟩ := run_loopback h (by decide) (effLoopback_farEnd hen' x (hcfg.trans hc)) (.modLane ..)
    exact ⟨t, ht, hans, hset.sets, hset.set, hlane.trans (by simp [State.sendBack]), hset.others, hset.less⟩
  · by_cases h3 : s.cfg 0x2000 8 l = 3
    · obtain ⟨t, ht, hans, hset, hlane⟩ := run_loopback h (by decide) (effLoopback_farEndOff hen' x (hcfg.trans h3)) (.modLane ..)
      exact ⟨t, ht, hans, hset.sets, hset.set, fun hn => absurd h3 hn, fun _ => hlane.trans (by simp [State.sendBack]), hset.others, hset.less⟩
    · obtain ⟨t, ht, hans, hset, hlane⟩ := run_loopback h (by decide)
        (effLoopback_nearEndOff hen' x (by rwa [hcfg]) (by rwa [hcfg])) ((OnlyLane.modLane ..).trans (.laneRestart ..))
      refine ⟨t, ht, hans, hset.sets, hset.set, fun _ => ?_, fun hc => absurd hc h3, hset.others, hset.less⟩
      rw [hlane]
      refine (State.laneRestart_bring _ l true ?_).1
      exact (State.enabled_setStaged _ (p := false) (by decide) (by decide) l.isLt l.isLt (.inr (by decide)) [0]).trans hen'
  · exact run_writeOf_refused h rfl (by decide) (by decide) (effLoopback_another x (hcfg.trans hc))

end Sys2Proof.Machine
end

section
/-! PROOFS. The freeze of an equaliser, the expected trace and the TIM mode of a lane (03 R70; 04 R118, R119). -/

namespace Sys2Proof.Machine

section

variable {s : State} {l : LaneId}

/-- What following an equaliser makes of its lane (03 R70). -/
theorem State.followEq_lane_same (s : State) (l : LaneId) :
    (s.followEq l).lane l = { s.lane l with eq := { (s.lane l).eq with
      fixedAt := if s.adapts l || (s.lane l).bring.stage == 0 then none else some ((s.lane l).eq.fixedAt.getD s.now) } } := by
  simp only [State.followEq, State.lane_modLane_same]

theorem Lane.rank_tim {x : Lane} (h : x.d.tim = false) : x.rank.d.tim = false := by
  simp only [Lane.rank]
  split
  · rfl
  · exact h

/-- TIM mode 0 clears TIM (04 R119). -/
theorem State.evalTim_off (h : s.cfg 0x3020 4 l = 0) : ((s.evalTim l).lane l).d.tim = false := by
  rw [State.evalTim, State.change_d]
  refine Lane.rank_tim ?_
  simp only [h]
  split <;> rfl

end

/-- A value of a plain object has the object's size (14 Table 14-13 step 6). -/
theorem State.writeCheck_length {s : State} {q : Req} {r : Nat} {o : Obj} (h : s.writeCheck q r = .ok o) (ht : o.ty ≠ 13) :
    q.value.length = o.size := by
  unfold State.writeCheck at h
  repeat' split at h
  all_goals simp_all

/-- The state without its table of lanes. -/
def State.lessLaneTable (s : State) : State := { s with lanes := [] }

theorem State.freeze_less (s : State) (l : LaneId) (n : Nat) :
    ((s.setVal 0x2020 0x0D l [n]).followEq l).lessSettings.lessLaneTable = s.lessSettings.lessLaneTable :=
  (congrArg State.lessSettings (rfl : ((s.setVal 0x2020 0x0D l [n]).followEq l).lessLaneTable = (s.setVal 0x2020 0x0D l [n]).lessLaneTable) :)

section

variable {rq : Rq} {x : Session} {s : State} {l : LaneId}

/-- A write of the freeze follows the equaliser of its lane, and changes nothing else (03 R70). -/
theorem run_freeze {n : Nat} (h : Writes rq 0x2020 0x0D l (u8 n) x s) (hn : n < 256) :
    ∃ t, run (writeOf rq 0x2020 0x0D l (u8 n) (effFreeze l)) s = .next t ∧ Answered 2 (writeReq rq 0x2020 0x0D l (u8 n)) 0 t ∧
      SetsLane 0x2020 0x0D l n s t ∧ { t.lessAnswers.lessSettings with lanes := s.lanes } = s.lessAnswers.lessSettings ∧
      t.lane l = { s.lane l with eq := { (s.lane l).eq with
        fixedAt := if decide (2 ≤ (s.lane l).bring.stage) && n != 1 || (s.lane l).bring.stage == 0 then none
          else some ((s.lane l).eq.fixedAt.getD s.now) } } := by
  have hsplit : splitFields [1] (u8 n) = [n] := by rw [splitFields_u8, Nat.mod_eq_of_lt hn]
  have hcfg : ((s.quiet.heard rq.session).setVal 0x2020 0x0D l [n]).cfg 0x2020 0x0D l = n :=
    (SetsLane.of_setStaged (p := false) (by decide) (by decide) l.isLt (.refl ..)).set
  obtain ⟨t, ht, hans, hset, hlane, hless⟩ := run_setsLane (n := n)
    (u := ((s.quiet.heard rq.session).setVal 0x2020 0x0D l [n]).followEq l) h rfl (by decide) (by decide) (by decide)
    ((congrArg (effFreeze l x · _) hsplit).trans (by simp [effFreeze])) (by simp)
    (.of_setStaged (p := false) (by decide) (by decide) l.isLt (.modLane ..))
  refine ⟨t, ht, hans, hset, ?_, ?_⟩
  · have hl : t.lessAnswers.lessSettings.lessLaneTable = s.fixed s.quiet.lessAnswers.lessSettings.lessLaneTable :=
      calc t.lessAnswers.lessSettings.lessLaneTable
        _ = s.fixed (((s.quiet.heard rq.session).setVal 0x2020 0x0D l [n]).followEq l).lessAnswers.lessSettings.lessLaneTable :=
          congrArg (fun w : State => w.lessSettings.lessLaneTable) hless
        _ = s.fixed (s.quiet.heard rq.session).lessAnswers.lessSettings.lessLaneTable :=
          congrArg (fun w : State => s.fixed w.lessAnswers) (State.freeze_less ..)
        _ = s.fixed s.quiet.lessAnswers.lessSettings.lessLaneTable := by rw [State.heard_lessAnswers]
    exact congrArg (fun w => { w with lanes := s.lanes }) hl
  · rw [hlane, State.followEq_lane_same, State.adapts, hcfg]
    simp

/-- The trace that a write of 3020:02 expects is its whole value (04 R118). -/
theorem run_expectedTrace {text : Bytes} (h : Writes rq 0x3020 2 l text x s) (hp : printable 60 (beNat text) = true) :
    ∃ t, exec (.expectedTraceWrite rq l text) s = .next t ∧ Answered 2 (writeReq rq 0x3020 2 l text) 0 t ∧
      SetsLane 0x3020 2 l (beNat text) s t := by
  have hlen : text.length = 60 := State.writeCheck_length (h.check rfl (by decide) (by decide)) (by decide)
  have hsplit : splitFields [60] text = [beNat text] := by
    simp only [splitFields, List.take_of_length_le hlen.le]
  obtain ⟨t, ht, hans, hset, -⟩ := run_setsLane (n := beNat text)
    (u := ((s.quiet.heard rq.session).setStaged 0x3020 2 l [beNat text]).evalTim l) h rfl (by decide) (by decide) (by decide)
    ((congrArg (effExpectedTrace l x · _) hsplit).trans (by simp [effExpectedTrace, guardAct, hp])) (by simp)
    (.of_setStaged (p := true) (by decide) (by decide) l.isLt (.change ..))
  exact ⟨t, ht, hans, hset⟩

/-- A write of the TIM mode compares the traces afresh (04 R119). -/
theorem run_timMode {mode : Nat} (h : Writes rq 0x3020 4 l (u8 mode) x s) :
    ∃ t, exec (.timModeWrite rq l mode) s = .next t ∧ Answered 2 (writeReq rq 0x3020 4 l (u8 mode)) 0 t ∧
      SetsLane 0x3020 4 l (mode % 256) s t ∧ (mode % 256 = 0 → (t.lane l).d.tim = false) := by
  have hcfg : ((s.quiet.heard rq.session).setStaged 0x3020 4 l [mode % 256]).cfg 0x3020 4 l = mode % 256 :=
    (SetsLane.of_setStaged (by decide) (by decide) l.isLt (.refl ..)).set
  obtain ⟨t, ht, hans, hset, hlane, -⟩ := run_setsLane (n := mode % 256)
    (u := ((s.quiet.heard rq.session).setStaged 0x3020 4 l [mode % 256]).evalTim l) h rfl (by decide) (by decide) (by decide)
    ((congrArg (effTimMode l x · _) (splitFields_u8 mode)).trans (by simp [effTimMode])) (by simp)
    (.of_setStaged (p := true) (by decide) (by decide) l.isLt (.change ..))
  exact ⟨t, ht, hans, hset, fun h0 => by rw [hlane]; exact State.evalTim_off (hcfg.trans h0)⟩

end

end Sys2Proof.Machine
end

section
/-! PROOFS. A new port width: the settings of its ports, and the restart of their lanes (03 R95; 14 R373). -/

namespace Sys2Proof.Machine

/-- What each application for a member of a list keeps, the fold keeps. -/
theorem State.each_keep_mem {α β : Type} {π : State → β} {as : List α} {f : α → State → State}
    (h : ∀ a ∈ as, ∀ s, π (f a s) = π s) (s : State) : π (s.each as f) = π s := by
  unfold State.each
  induction as generalizing s with
  | nil => rfl
  | cons a as ih => exact (ih (fun b hb => h b (List.mem_cons_of_mem a hb)) _).trans (h a List.mem_cons_self s)

/-! Settings of ports. -/

theorem State.setStaged_lessSettings (s : State) (i b e : Nat) (v : List Nat) (p : Bool) : (s.setStaged i b e v p).lessSettings = s.lessSettings := by
  cases p <;> rfl

theorem State.portDefaults_lessSettings (s : State) (q : Nat) : (s.portDefaults q).lessSettings = s.lessSettings :=
  State.each_keep State.lessSettings _ _ (fun _ _ => State.setStaged_lessSettings ..) s

/-- A port's defaults leave every setting but its own (14 R373). -/
theorem State.portDefaults_val {i b e q : Nat} (hq : q < 48) (h : ∀ sub < 5, objKey i b e ≠ objKey 0x2800 sub q) (s : State) :
    (s.portDefaults q).val i b e = s.val i b e := by
  refine State.each_keep_mem (π := fun s => s.val i b e) (fun sub hs s => ?_) s
  have h5 : sub < 5 := by simp at hs; omega
  exact State.val_setStaged_other _ _ _ _ _ _ _ _ _ (ssmKey_ne (by decide) (by omega) hq) (h sub h5)

/-- The ports that a new port takes in (03 R95). -/
def State.takenPorts (s : State) (p w : Nat) : List Nat := (((List.range w).map (p + ·)).map s.portOf).eraseDups.filter (· != p)

/-- A new width stored: the ports taken in, and the lanes given up, have the settings of a port by default (03 R95; 14 R373; log entry 26). -/
def State.storeWidth (s : State) (p w : Nat) : State :=
  ((s.each (s.takenPorts p w) fun q s => s.portDefaults q).setStaged 0x2800 1 p [w]).each ((List.range (s.width p)).map (p + ·)) fun q s =>
    if p + w ≤ q then s.portDefaults q else s

/-- The lanes of a port of either of two widths. -/
def eitherLanes (p w old : Nat) : List Nat := (List.range (max w old)).map (p + ·)

/-- Ports start afresh. -/
def State.freshPorts (s : State) (ps : List Nat) : State := s.each ps fun q s => s.modPort q fun _ => {}

/-- Lanes restart together. -/
def State.restartLanes (s : State) (ls : List Nat) : State := s.each ls fun l s => s.laneRestart (laneOf l)

/-- A new width acts (03 R95). -/
def State.rewiden (s : State) (p w : Nat) : State :=
  ((s.storeWidth p w).freshPorts (eitherLanes p w (s.width p))).restartLanes (eitherLanes p w (s.width p))

theorem State.portOf_le (s : State) (l : Nat) : s.portOf l ≤ l := by
  unfold State.portOf
  split
  · omega
  · split <;> omega

/-- A port may take a width: the ports that it would cover lie inside it, no circuit uses their slots, and none is in a pair (03 R95). -/
structure State.TakesWidth (s : State) (p w : Nat) : Prop where
  width : w = 1 ∨ w = 2 ∨ w = 4
  aligned : p % w = 0
  fits : p + w ≤ 48
  inside : ∀ k, k < w → p ≤ s.portOf (p + k) ∧ s.portOf (p + k) + s.width (s.portOf (p + k)) ≤ p + w ∨ s.portOf (p + k) = p
  unused : s.userOf p (max w (s.width p)) = none
  unpaired : ∀ k, k < w → s.inPair (s.portOf (p + k)) = false

section

variable {s : State} {p w : Nat}

theorem State.mem_takenPorts {q : Nat} : q ∈ s.takenPorts p w ↔ (∃ k < w, s.portOf (p + k) = q) ∧ q ≠ p := by
  simp [State.takenPorts]

/-- Which widths a port may take does not depend on what was sent last, nor on when a session was last heard. -/
theorem State.TakesWidth.heard (h : s.TakesWidth p w) (id : Nat) : (s.quiet.heard id).TakesWidth p w := by
  have hw (q : Nat) : (s.quiet.heard id).width q = s.width q := by simp [State.width]
  have hp (l : Nat) : (s.quiet.heard id).portOf l = s.portOf l := State.portOf_of_dict (by simp) l
  have hu (n : Nat) : (s.quiet.heard id).userOf p n = s.userOf p n := by simp [State.userOf]
  have hi (q : Nat) : (s.quiet.heard id).inPair q = s.inPair q := by simp [State.inPair]
  refine ⟨h.width, h.aligned, h.fits, ?_, ?_, ?_⟩
  · simpa only [hw, hp] using h.inside
  · simpa only [hw, hu] using h.unused
  · simpa only [hp, hi] using h.unpaired

theorem State.TakesWidth.pos (h : s.TakesWidth p w) : 0 < w := by
  have := h.width
  omega

theorem State.TakesWidth.portOf_self (h : s.TakesWidth p w) : s.portOf p = p := by
  have hle := s.portOf_le p
  have := h.inside 0 h.pos
  rw [Nat.add_zero] at this
  omega

/-- A port takes a width that it may (03 R95). -/
theorem State.TakesWidth.effWidth (h : s.TakesWidth p w) (x : Session) : effWidth p x [w] s = ok (s.rewiden p w) := by
  have hacross : (s.takenPorts p w).any (fun q => decide (q < p ∨ p + w < q + s.width q)) = false := by
    simp only [List.any_eq_false, decide_eq_true_eq, State.mem_takenPorts]
    rintro q ⟨⟨k, hk, rfl⟩, hne⟩
    have := h.inside k hk
    omega
  have hself : s.inPair p = false := by
    have := h.unpaired 0 h.pos
    rwa [Nat.add_zero, h.portOf_self] at this
  have hfind : (p :: s.takenPorts p w).find? s.inPair = none := by
    simp only [List.find?_eq_none, List.mem_cons, State.mem_takenPorts]
    rintro q (rfl | ⟨⟨k, hk, rfl⟩, -⟩)
    · simp [hself]
    · simp [h.unpaired k hk]
  unfold Machine.effWidth
  extract_lets v old range ports across
  have hrange : ¬ v = 3 := fun (h3 : w = 3) => by have := h.width; omega
  have hconflict : ¬ (p % v ≠ 0 ∨ 48 < p + v ∨ across = true) := by
    rintro (hm | hl | ha)
    · exact hm h.aligned
    · exact absurd hl (Nat.not_lt.mpr h.fits)
    · exact absurd (ha.symm.trans hacross) (by decide)
  have huser : s.userOf p (max v old) = none := h.unused
  have hpaired : (p :: ports).find? s.inPair = none := hfind
  rw [if_neg hrange, if_neg hconflict, huser]
  simp only [hpaired]
  rfl

/-! The new width stored. -/

theorem State.storeWidth_lessSettings (s : State) (p w : Nat) : (s.storeWidth p w).lessSettings = s.lessSettings := by
  have hd (q : Nat) (s : State) : (if p + w ≤ q then s.portDefaults q else s).lessSettings = s.lessSettings := by
    split
    · exact s.portDefaults_lessSettings q
    · rfl
  rw [State.storeWidth, State.each_keep State.lessSettings _ _ hd, State.setStaged_lessSettings,
    State.each_keep State.lessSettings _ _ fun q s => s.portDefaults_lessSettings q]

theorem portKey_ne {i b e sub q : Nat} (hi : i ≠ 0x2800) (hb : b < 256) (he : e < 4294967296) (hs : sub < 5) (hq : q < 48) :
    objKey i b e ≠ objKey 0x2800 sub q := fun h =>
  hi ((objKey_inj hb (by omega) he (by omega)).mp h).1

/-- A new width leaves every setting but those of ports (03 R95). -/
theorem State.storeWidth_val {i b e : Nat} (hi : i ≠ 0x2800) (hb : b < 256) (he : e < 4294967296) (h : s.TakesWidth p w)
    (ho : p + s.width p ≤ 48) : (s.storeWidth p w).val i b e = s.val i b e := by
  have hdef {q : Nat} (hq : q < 48) (s : State) : (s.portDefaults q).val i b e = s.val i b e :=
    State.portDefaults_val hq (fun sub hs => portKey_ne hi hb he hs hq) s
  have hp : p < 48 := by have := h.pos; have := h.fits; omega
  have hgiven : ∀ q ∈ (List.range (s.width p)).map (p + ·), ∀ t : State,
      (if p + w ≤ q then t.portDefaults q else t).val i b e = t.val i b e := by
    intro q hq t
    split
    · exact hdef (by simp at hq; omega) t
    · rfl
  have htaken : ∀ q ∈ s.takenPorts p w, ∀ t : State, (t.portDefaults q).val i b e = t.val i b e := by
    intro q hq t
    obtain ⟨⟨k, hk, rfl⟩, -⟩ := State.mem_takenPorts.mp hq
    have := s.portOf_le (p + k)
    have := h.fits
    exact hdef (by omega) t
  rw [State.storeWidth, State.each_keep_mem (π := fun t => t.val i b e) hgiven,
    State.val_setStaged_other _ _ _ _ _ _ _ _ _ (ssmKey_ne (by decide) (by decide) hp) (portKey_ne hi hb he (by decide) hp),
    State.each_keep_mem (π := fun t => t.val i b e) htaken]

theorem State.storeWidth_width (h : s.TakesWidth p w) (ho : p + s.width p ≤ 48) : (s.storeWidth p w).width p = w := by
  have hp : p < 48 := by have := h.pos; have := h.fits; omega
  have hgiven : ∀ q ∈ (List.range (s.width p)).map (p + ·), ∀ t : State,
      (if p + w ≤ q then t.portDefaults q else t).val 0x2800 1 p = t.val 0x2800 1 p := by
    intro q hq t
    split
    next hpw =>
      have hq48 : q < 48 := by simp at hq; omega
      refine State.portDefaults_val hq48 (fun sub hs hk => ?_) t
      have := h.pos
      have := ((objKey_inj (by decide) (by omega) (by omega) (by omega)).mp hk).2.2
      omega
    · rfl
  rw [State.width, State.cfg, State.storeWidth, State.each_keep_mem (π := fun t => t.val 0x2800 1 p) hgiven,
    State.val_setStaged _ _ _ _ _ _ (List.cons_ne_nil _ _) (ssmKey_ne (by decide) (by decide) hp)]
  rfl

end

/-! The lanes of both widths. -/

theorem mem_eitherLanes {p w old k : Nat} : k ∈ eitherLanes p w old ↔ p ≤ k ∧ k < p + max w old := by
  simp only [eitherLanes, List.mem_map, List.mem_range]
  constructor
  · rintro ⟨j, hj, rfl⟩
    omega
  · exact fun h => ⟨k - p, by omega, by omega⟩

theorem laneOf_toNat {n : Nat} (h : n < 48) : (laneOf n : Nat) = n := Nat.mod_eq_of_lt h

section

variable {s : State} {ls : List Nat}

theorem State.restartLanes_lessLanes (s : State) (ls : List Nat) : (s.restartLanes ls).lessLanes = s.lessLanes :=
  State.each_keep State.lessLanes _ _ (fun _ _ => (OnlyLane.laneRestart ..).1) s

theorem State.restartLanes_other {k : Nat} (hls : ∀ l ∈ ls, l < 48) (hk : k ∉ ls) (s : State) : (s.restartLanes ls).lane k = s.lane k := by
  refine State.each_keep_mem (π := fun s => s.lane k) (fun l hl t => ?_) s
  refine (OnlyLane.laneRestart t (laneOf l) true).2 k fun he => hk ?_
  rwa [he, laneOf_toNat (hls l hl)]

/-- Each enabled lane of some that restart together is in stage 1 (03 R95). -/
theorem State.restartLanes_stage {k : Nat} (hls : ∀ l ∈ ls, l < 48) (hk : k ∈ ls) (he : s.enabled k = true) :
    ((s.restartLanes ls).lane k).bring.stage = 1 := by
  induction ls generalizing s with
  | nil => simp at hk
  | cons l ls ih =>
    have hls' : ∀ n ∈ ls, n < 48 := fun n hn => hls n (List.mem_cons_of_mem l hn)
    have hcons : s.restartLanes (l :: ls) = (s.laneRestart (laneOf l)).restartLanes ls := rfl
    rw [hcons]
    by_cases hm : k ∈ ls
    · exact ih hls' hm (by simpa using he)
    · obtain rfl : k = l := (List.mem_cons.mp hk).resolve_right hm
      have hlane := laneOf_toNat (hls k List.mem_cons_self)
      have h1 := (State.laneRestart_bring s (laneOf k) true (by rwa [hlane])).1
      rw [hlane] at h1
      rw [State.restartLanes_other hls' hm, h1]

end

/-- The state without its ports' own state. -/
def State.lessPorts (s : State) : State := { s with ports := [] }

theorem State.freshPorts_lessPorts (s : State) (ps : List Nat) : (s.freshPorts ps).lessPorts = s.lessPorts :=
  State.each_keep State.lessPorts ps (fun q s => s.modPort q fun _ => {}) (fun _ _ => rfl) s

/-- What a new width leaves (03 R95). -/
structure Rewidened (p w : Nat) (s t : State) : Prop where
  width : t.width p = w
  restarted : ∀ k, k < max w (s.width p) → s.enabled (p + k) = true → (t.lane (p + k)).bring.stage = 1
  others : ∀ k, k < p ∨ p + max w (s.width p) ≤ k → t.lane k = s.lane k
  less : t.lessSettings.lessLanes = s.lessSettings.lessLanes

theorem State.TakesWidth.rewidened {s : State} {p w : Nat} (h : s.TakesWidth p w) (ho : p + s.width p ≤ 48) : Rewidened p w s (s.rewiden p w) := by
  have hfits := h.fits
  have hls : ∀ l ∈ eitherLanes p w (s.width p), l < 48 := fun l hl => by
    have := mem_eitherLanes.mp hl
    omega
  have hstore := s.storeWidth_lessSettings p w
  have hfresh := (s.storeWidth p w).freshPorts_lessPorts (eitherLanes p w (s.width p))
  have hpersist : ((s.storeWidth p w).freshPorts (eitherLanes p w (s.width p))).persist = (s.storeWidth p w).persist :=
    (congrArg State.persist hfresh :)
  have hpower : ((s.storeWidth p w).freshPorts (eitherLanes p w (s.width p))).power = s.power :=
    (congrArg State.power hfresh :).trans (congrArg State.power hstore :)
  have hrestart := ((s.storeWidth p w).freshPorts (eitherLanes p w (s.width p))).restartLanes_lessLanes (eitherLanes p w (s.width p))
  refine ⟨?_, fun k hk he => ?_, fun k hk => ?_, ?_⟩
  · have hp : (s.rewiden p w).persist = (s.storeWidth p w).persist := (congrArg State.persist hrestart :).trans hpersist
    have hwidth : (s.rewiden p w).width p = (s.storeWidth p w).width p := by simp only [State.width, State.cfg, State.val, hp]
    exact hwidth.trans (State.storeWidth_width h ho)
  · refine State.restartLanes_stage hls (mem_eitherLanes.mpr (by omega)) ?_
    have hval := State.storeWidth_val (i := 0x2000) (b := 1) (e := p + k) (by decide) (by decide) (by omega) h ho
    rw [← he]
    simp only [State.val] at hval
    simp only [State.enabled, State.portUp, State.cfg, State.val, hpersist, hpower, hval]
  · rw [State.rewiden, State.restartLanes_other hls fun hm => by have := mem_eitherLanes.mp hm; omega]
    exact (congrArg (fun w : State => w.lane k) hfresh :).trans (congrArg (fun w : State => w.lane k) hstore :)
  · calc (s.rewiden p w).lessSettings.lessLanes
      _ = (s.storeWidth p w).lessSettings.lessLanes :=
        congrArg State.lessSettings (hrestart.trans (congrArg State.lessLanes hfresh :))
      _ = s.lessSettings.lessLanes := congrArg State.lessLanes hstore

/-- A write of a port's width that its checks allow (03 R95). -/
theorem run_portWidth {rq : Rq} {x : Session} {s : State} {p w : Nat} (h : Writes rq 0x2800 1 p (u8 w) x s) (ht : s.TakesWidth p w)
    (ho : p + s.width p ≤ 48) :
    ∃ t, exec (.portWidthWrite rq p w) s = .next t ∧ Answered 2 (writeReq rq 0x2800 1 p (u8 w)) 0 t ∧ t.width p = w ∧
      (∀ k, k < max w (s.width p) → s.enabled (p + k) = true → (t.lane (p + k)).bring.stage = 1) ∧
      (∀ k, k < p ∨ p + max w (s.width p) ≤ k → t.lane k = s.lane k) ∧
      t.lessAnswers.lessSettings.lessLanes = s.lessAnswers.lessSettings.lessLanes := by
  have hb : (s.quiet.heard rq.session).width p = s.width p := by simp [State.width]
  have hspec := (ht.heard rq.session).rewidened (by rwa [hb])
  have hsplit : splitFields [1] (u8 w) = [w] := by
    rw [splitFields_u8, Nat.mod_eq_of_lt (by have := ht.fits; omega)]
  obtain ⟨r, hr, ha⟩ := run_writeOf_answers h rfl (by decide) (by decide) (by decide)
    ((congrArg (effWidth p x · _) hsplit).trans ((ht.heard rq.session).effWidth x))
    (congrArg (·.mgmt.sessions) hspec.less)
  refine ⟨_, hr, ha.answered, ?_, fun k hk he => ?_, fun k hk => ?_, ?_⟩
  · exact (congrArg (·.headD 0) (ha.val ..)).trans hspec.width
  · exact (congrArg (·.bring.stage) (ha.lane _)).trans (hspec.restarted k (by rwa [hb]) (by simpa using he))
  · exact (ha.lane k).trans ((hspec.others k (by rwa [hb])).trans (by simp))
  · have hless : r.lessAnswers.lessSettings.lessLanes = s.quiet.lessAnswers.lessSettings.lessLanes :=
      calc r.lessAnswers.lessSettings.lessLanes
        _ = (s.quiet.heard rq.session).lessAnswers.lessSettings.lessLanes :=
          (congrArg (fun w : State => w.lessSettings.lessLanes) ha.less).trans (congrArg State.lessAnswers hspec.less)
        _ = s.quiet.lessAnswers.lessSettings.lessLanes := by rw [State.heard_lessAnswers]
    exact congrArg s.fixed hless

/-- Settles O12: the settings of a lane by what each write makes of it, a width by the restart of the lanes of both widths. -/
theorem laneAndPortSettingsAct : Obligations.LaneAndPortSettingsAct := by
  unfold Obligations.LaneAndPortSettingsAct
  refine ⟨fun s rq x l => ⟨fun h => ?_, fun h => ?_, fun text h hp => ?_, fun mode h => ?_⟩,
    fun s rq x p w h hw ha hf hin hu hpair ho => run_portWidth h ⟨hw, ha, hf, hin, hu, hpair⟩ ho⟩
  · obtain ⟨t, ht, hans, hset, hless, hlane⟩ := run_freeze h (by decide)
    exact ⟨t, ht, hans, hset.sets, hset.set, hset.others, hlane.trans (by simp), hless⟩
  · obtain ⟨t, ht, hans, hset, hless, hlane⟩ := run_freeze h (by decide)
    have hmoves (h1 : (s.lane l).bring.stage ≠ 1) : 2 ≤ (s.lane l).bring.stage ∨ (s.lane l).bring.stage = 0 := by omega
    exact ⟨t, ht, hans, hset.sets, hset.set, hset.others, fun h1 => hlane.trans (by simp [hmoves h1]), hless⟩
  · obtain ⟨t, ht, hans, hset⟩ := run_expectedTrace h hp
    exact ⟨t, ht, hans, hset.sets, hset.set, hset.others, hset.less⟩
  · obtain ⟨t, ht, hans, hset, htim⟩ := run_timMode h
    exact ⟨t, ht, hans, hset.sets, hset.set, htim, hset.others, hset.less⟩

end Sys2Proof.Machine
end

section
/-! PROOFS. Alarms: raised with a failure, cleared with it, and acknowledged (04 R110; 14 R383, R384). -/

namespace Sys2Proof.Machine

/-! What goes out through hoppers and to sessions leaves the alarms alone. -/

/-- One message more to a session closes none: its sequence is not 0 (14 R354). -/
theorem State.sentTo_open (s : State) (i j : Nat) : ((s.sentTo i).session? j).isSome = (s.session? j).isSome := by
  rw [State.sentTo]
  cases h : s.session? i with
  | none => simp [State.modSession, h]
  | some x =>
    have hsent : { x with sendSeq := x.sendSeq + 1 } ≠ ({} : Session) := fun hc => Nat.succ_ne_zero _ (congrArg Session.sendSeq hc)
    rw [State.session_mod s i j _ x h hsent]
    split
    next hj => rw [hj, h]; rfl
    next => rfl

/-- The alarms, the conditions behind them, and which sessions are open, are those of an earlier state. -/
structure State.Posts (s t : State) : Prop where
  alarms : t.store.alarms = s.store.alarms
  conds : t.store.conds = s.store.conds
  opens : ∀ i, (t.session? i).isSome = (s.session? i).isSome

namespace State.Posts

theorem refl (s : State) : s.Posts s := ⟨rfl, rfl, fun _ => rfl⟩

theorem trans {s t u : State} (h : s.Posts t) (k : t.Posts u) : s.Posts u :=
  ⟨k.alarms.trans h.alarms, k.conds.trans h.conds, fun i => (k.opens i).trans (h.opens i)⟩

theorem modHop (s : State) (h : Nat) (f : Hopper → Hopper) : s.Posts (s.modHop h f) := ⟨rfl, rfl, fun _ => rfl⟩

theorem countN (s : State) (i b f e n : Nat) : s.Posts (s.countN i b f e n) := ⟨rfl, rfl, fun _ => rfl⟩

theorem each {α : Type} {f : α → State → State} (h : ∀ a s, State.Posts s (f a s)) (as : List α) (s : State) : s.Posts (s.each as f) := by
  induction as generalizing s with
  | nil => exact refl s
  | cons a as ih => exact (h a s).trans (ih (f a s))

theorem sendSecure (s : State) (i : Nat) (o : Output) (r : Resp) : s.Posts (s.sendSecure i o r) := by
  refine ⟨by simp, by simp, fun j => ?_⟩
  rw [State.sendSecure]
  split
  · simp [State.sentTo_open]
  · simp

theorem notifyOwner (s : State) (h : Nat) : s.Posts (s.notifyOwner h) := by
  simp only [State.notifyOwner]
  split
  · exact (modHop ..).trans (sendSecure ..)
  · exact refl s

theorem writeUnit (s : State) (h : Nat) (es : List Bytes) : s.Posts (s.writeUnit h es) :=
  ((modHop ..).trans (countN ..)).trans (notifyOwner ..)

/-- A unit that comes to a hopper is written, waits, takes the place of older ones, or is counted (14 R379). -/
theorem postUnit (s : State) (h : Nat) (es : List Bytes) (q : Bool) : s.Posts (s.postUnit h es q) := by
  simp only [State.postUnit]
  repeat' split
  case isTrue => exact writeUnit ..
  case isFalse.isTrue.isTrue => exact ((countN ..).trans (modHop ..)).trans (writeUnit ..)
  case isFalse.isFalse.isTrue.isTrue => exact modHop ..
  all_goals exact countN ..

/-- An alarm entry changes no alarm (14 Table 14-18). -/
theorem alarmOut (s : State) (action : Nat) (a : Alarm) (session : Nat) : s.Posts (s.alarmOut action a session) :=
  each (fun _ _ => postUnit ..) _ s

end State.Posts

/-! A failure and its alarm (04 R110). -/

/-- Having been raised as a failure is noted with the condition. -/
def State.markFailed (s : State) (c : AlarmCond) : State :=
  { s with store.conds := s.store.conds.map fun x => if x.cond == c then { x with failed := true } else x }

theorem State.markFailed_failed {s : State} {c : AlarmCond} (h : s.condNow c = true) : (s.markFailed c).failed c = true := by
  obtain ⟨x, hx, hc⟩ := List.any_eq_true.mp h
  have hxc : (x.cond == c) = true := (Bool.and_eq_true_iff.mp hc).1
  refine List.any_eq_true.mpr ⟨{ x with failed := true }, List.mem_map.mpr ⟨x, hx, if_pos hxc⟩, ?_⟩
  simpa using hxc

/-- A failure that has cleared is no condition any more. -/
def State.dropCond (s : State) (c : AlarmCond) : State := { s with store.conds := s.store.conds.filter fun x => x.cond != c }

theorem State.dropCond_failed (s : State) (c : AlarmCond) : (s.dropCond c).failed c = false := by
  simp +contextual [State.failed, State.dropCond]

theorem State.failed_of_conds {s t : State} (h : t.store.conds = s.store.conds) (c : AlarmCond) : t.failed c = s.failed c := by
  rw [State.failed, State.failed, h]

/-- An alarm is raised at the end of the table, unacknowledged and with the next number (14 R383). -/
theorem State.raiseAlarm_adds (s : State) (c : Option AlarmCond) (v i b n e : Nat) :
    (s.raiseAlarm c v i b n e).store.conds = s.store.conds ∧
    ∃ a : Alarm, (s.raiseAlarm c v i b n e).store.alarms = s.store.alarms ++ [a] ∧ a.cond = c ∧ a.number = s.store.nextAlarm ∧
      a.severity = v ∧ a.index = i ∧ a.element = e ∧ a.acked = false :=
  ⟨(State.Posts.alarmOut ..).conds, _, (State.Posts.alarmOut ..).alarms, rfl, rfl, rfl, rfl, rfl, rfl⟩

/-- An alarm that is cleared leaves the table (14 R384). -/
theorem State.clearAlarm_drops (s : State) (a : Alarm) :
    (s.clearAlarm a).store.conds = s.store.conds ∧ (s.clearAlarm a).store.alarms = s.store.alarms.filter fun b => b.number != a.number :=
  ⟨(State.Posts.alarmOut ..).conds, (State.Posts.alarmOut ..).alarms⟩

/-- While the supervisor does not restart, the outputs follow the alarms (04 R110; 01 Table 1-2). -/
theorem State.almOutput_of_running {s : State} (hr : s.sup.restarting = false) (n : Nat) : s.almOutput n = s.almRaised n := by
  simp [State.almOutput, hr]

/-- An unacknowledged alarm in the table drives the output of its severity (04 R110). -/
theorem State.almOutput_of_mem {s : State} {a : Alarm} (hr : s.sup.restarting = false) (h : a ∈ s.store.alarms) (ha : a.acked = false) :
    s.almOutput a.severity = true := by
  rw [State.almOutput_of_running hr]
  exact List.any_eq_true.mpr ⟨a, h, by simp [ha]⟩

/-- Where every alarm is acknowledged, no output is driven (04 R110). -/
theorem State.almOutput_of_acked {s : State} (hr : s.sup.restarting = false) (h : ∀ a ∈ s.store.alarms, a.acked = true) (n : Nat) :
    s.almOutput n = false := by
  rw [State.almOutput_of_running hr]
  exact List.any_eq_false.mpr fun a ha => by simp [h a ha]

section

variable {s : State} {c : AlarmCond}

/-- A condition that has stood for its time is marked as a failure, and reported unless its severity is 0 (04 R110). -/
theorem failureRaised_eq (hup : s.sup.up = true) (hf : s.failed c = false) (hn : s.condNow c = true)
    (ht : s.condFor c true (s.report c).raise = true) :
    failureRaised c s = if (s.report c).severity = 0 then s.markFailed c else
      (s.markFailed c).raiseAlarm (some c) (s.report c).severity (s.report c).index (s.report c).sub (s.report c).bit (s.report c).element := by
  simp only [failureRaised, hup, hf, hn, ht]
  rfl

/-- A failure whose condition has been absent for its time goes, with its alarm (04 R110). -/
theorem failureCleared_eq (hup : s.sup.up = true) (hf : s.failed c = true) (ht : s.condFor c false (s.report c).clear = true)
    (hm : s.mayClear c = true) :
    failureCleared c s = match s.store.alarms.find? fun a => a.cond == some c with
      | some a => (s.dropCond c).clearAlarm a
      | none => s.dropCond c := by
  simp only [failureCleared, hup, hf, ht, hm]
  rfl

theorem failureRaised_failed (hup : s.sup.up = true) (hf : s.failed c = false) (hn : s.condNow c = true)
    (ht : s.condFor c true (s.report c).raise = true) : (failureRaised c s).failed c = true := by
  rw [failureRaised_eq hup hf hn ht]
  split
  · exact State.markFailed_failed hn
  · rw [State.failed_of_conds (State.raiseAlarm_adds ..).1]
    exact State.markFailed_failed hn

theorem failureCleared_failed (hup : s.sup.up = true) (hf : s.failed c = true) (ht : s.condFor c false (s.report c).clear = true)
    (hm : s.mayClear c = true) : (failureCleared c s).failed c = false := by
  rw [failureCleared_eq hup hf ht hm]
  split
  · rw [State.failed_of_conds (State.clearAlarm_drops ..).1]
    exact s.dropCond_failed c
  · exact s.dropCond_failed c

end

/-- Raising a failure writes conditions, alarms and what reports them (04 R110). -/
theorem failureRaised_frame (c : AlarmCond) (s : State) :
    (failureRaised c s).persist = s.persist ∧ (failureRaised c s).lanes = s.lanes ∧ (failureRaised c s).fab = s.fab ∧
    (failureRaised c s).sup = s.sup := by
  simp only [failureRaised]
  repeat' split
  all_goals simp

/-- Clearing a failure writes conditions, alarms and what reports them (04 R110). -/
theorem failureCleared_frame (c : AlarmCond) (s : State) :
    (failureCleared c s).persist = s.persist ∧ (failureCleared c s).lanes = s.lanes ∧ (failureCleared c s).fab = s.fab := by
  simp only [failureCleared]
  repeat' split
  all_goals simp

theorem State.quiet_report (s : State) (c : AlarmCond) : s.quiet.report c = s.report c := by cases c <;> rfl

theorem State.quiet_mayClear (s : State) (c : AlarmCond) : s.quiet.mayClear c = s.mayClear c := by cases c <;> rfl

/-- A condition that has stood for its time becomes a failure, with an alarm unless its severity is 0 (04 R110). -/
theorem run_failureRaised {s : State} {c : AlarmCond} (hup : s.sup.up = true) (hf : s.failed c = false) (hn : s.condNow c = true)
    (ht : s.condFor c true (s.report c).raise = true) :
    ∃ t, exec (.failureRaised c) s = .next t ∧ t.failed c = true ∧ t.persist = s.persist ∧ t.lanes = s.lanes ∧ t.fab = s.fab ∧
      ((s.report c).severity = 0 → t.store.alarms = s.store.alarms) ∧
      ((s.report c).severity ≠ 0 → ∃ a : Alarm, t.store.alarms = s.store.alarms ++ [a] ∧ a.cond = some c ∧ a.number = s.store.nextAlarm ∧
        a.severity = (s.report c).severity ∧ a.index = (s.report c).index ∧ a.element = (s.report c).element ∧ a.acked = false ∧
        (s.sup.restarting = false → t.almOutput a.severity = true)) := by
  have ht' : s.quiet.condFor c true (s.quiet.report c).raise = true := by rw [s.quiet_report]; exact ht
  have heq := failureRaised_eq (s := s.quiet) hup hf hn ht'
  rw [s.quiet_report] at heq
  obtain ⟨hpersist, hlanes, hfab, hsup⟩ := failureRaised_frame c s.quiet
  refine ⟨_, rfl, failureRaised_failed (s := s.quiet) hup hf hn ht', hpersist, hlanes, hfab, fun h0 => ?_, fun h0 => ?_⟩
  · exact congrArg (·.store.alarms) (heq.trans (if_pos h0))
  · obtain ⟨-, a, ha, hcond, hnumber, hsev, hindex, helement, hacked⟩ := (s.quiet.markFailed c).raiseAlarm_adds (some c)
      (s.report c).severity (s.report c).index (s.report c).sub (s.report c).bit (s.report c).element
    have halarms : (failureRaised c s.quiet).store.alarms = s.store.alarms ++ [a] :=
      (congrArg (·.store.alarms) (heq.trans (if_neg h0))).trans ha
    refine ⟨a, halarms, hcond, hnumber, hsev, hindex, helement, hacked, fun hr => ?_⟩
    exact State.almOutput_of_mem (s := s.fixed (failureRaised c s.quiet)) ((congrArg Sup.restarting hsup).trans hr)
      (halarms.symm ▸ List.mem_append_right _ List.mem_cons_self) hacked

/-- A failure whose condition has been absent for its time clears, and its alarm leaves the table (04 R110; 14 R384). -/
theorem run_failureCleared {s : State} {c : AlarmCond} (hup : s.sup.up = true) (hf : s.failed c = true)
    (ht : s.condFor c false (s.report c).clear = true) (hm : s.mayClear c = true) :
    ∃ t, exec (.failureCleared c) s = .next t ∧ t.failed c = false ∧ t.persist = s.persist ∧ t.lanes = s.lanes ∧ t.fab = s.fab ∧
      (∀ a, s.store.alarms.find? (fun a => a.cond == some c) = some a →
        t.store.alarms = s.store.alarms.filter fun b => b.number != a.number) := by
  have ht' : s.quiet.condFor c false (s.quiet.report c).clear = true := by rw [s.quiet_report]; exact ht
  have hm' : s.quiet.mayClear c = true := by rw [s.quiet_mayClear]; exact hm
  obtain ⟨hpersist, hlanes, hfab⟩ := failureCleared_frame c s.quiet
  refine ⟨_, rfl, failureCleared_failed (s := s.quiet) hup hf ht' hm', hpersist, hlanes, hfab, fun a ha => ?_⟩
  have heq := failureCleared_eq (s := s.quiet) hup hf ht' hm'
  rw [show s.quiet.store.alarms.find? _ = some a from ha] at heq
  exact (congrArg (·.store.alarms) heq).trans ((s.quiet.dropCond c).clearAlarm_drops a).2

end Sys2Proof.Machine
end

section
/-! PROOFS. The acknowledgement of alarms, which is itself reported to the sessions (14 R384). -/

namespace Sys2Proof.Machine

/-! A write whose effect sends messages: the answer may use up a sequence and close a session (14 R355), and all the same changes no alarm. -/

theorem State.audit_alarms (s : State) (r : AuditRec) : (s.audit r).store.alarms = s.store.alarms :=
  (congrArg (·.store.alarms) (s.audit_lessAnswers r) :)

theorem State.closeSess_alarms (s : State) (i c : Nat) : (s.closeSess i c).store.alarms = s.store.alarms := by
  simp only [State.closeSess]
  split
  · rw [State.audit_alarms]
    simp [State.releaseHoppers]
  · rfl

theorem State.seqLimit_alarms (s : State) (i : Nat) : (s.seqLimit i).store.alarms = s.store.alarms := by
  unfold State.seqLimit
  repeat' split
  · exact s.closeSess_alarms i 5
  all_goals rfl

theorem State.respond_alarms (s : State) (op : Nat) (q : Req) (a : Ans) : (s.respond op q a).store.alarms = s.store.alarms := by
  simp only [State.respond]
  split
  · rw [State.seqLimit_alarms, (State.Posts.sendSecure ..).alarms]
  · rfl

/-- What is shown beside a SECURE message goes out (14 R353). -/
theorem State.mem_sendSecure (s : State) (i : Nat) (o : Output) (r : Resp) : o ∈ (s.sendSecure i o r).out := by
  rw [State.sendSecure]
  split <;> simp [State.emit]

/-- An open session is answered, even if the answer is its last message (14 R355, R358). -/
theorem State.respond_answered {u : State} {q : Req} (h : (u.session? q.session).isSome = true) (a : Ans) :
    Answered 2 q a.status (u.respond 2 q a) := by
  refine ⟨respOf 2 q a, ?_, rfl, rfl, rfl⟩
  simp only [State.respond, h, if_true, State.seqLimit_frame]
  exact State.mem_sendSecure ..

/-- A WRITE is answered OK, and the answer leaves alone the alarms, settings, lanes, pages and supervisor that the effect of the write made. -/
structure AnsweredAfter (q : Req) (u t : State) : Prop where
  answered : Answered 2 q 0 t
  alarms : t.store.alarms = u.store.alarms
  persist : t.persist = u.persist
  lanes : t.lanes = u.lanes
  fab : t.fab = u.fab
  sup : t.sup = u.sup

section

variable {rq : Rq} {x : Session} {s : State} {index sub el : Nat} {v : Bytes} {o : Obj}
  (h : Writes rq index sub el v x s) (ho : findObj index sub = some o) (h0 : sub ≠ 0) (h1 : sub ≠ 0xFE)
  {eff : Session → List Nat → State → Act}
include h ho h0 h1

/-- A write whose effect leaves its session open is answered OK, whatever else the effect sends to that session (14 R364). -/
theorem run_writeOf_answeredAfter (hq : ¬ (index = 0x5E10 ∧ sub = 3)) {u : State} (he : eff x (o.split v) (s.quiet.heard rq.session) = ok u)
    (hu : (u.session? rq.session).isSome = true) :
    ∃ t, run (writeOf rq index sub el v eff) s = .next t ∧ AnsweredAfter (writeReq rq index sub el v) u t := by
  refine ⟨_, rfl, ?_⟩
  rw [writeOf_done (s := s.quiet) h ho h0 h1 hq he rfl]
  refine ⟨State.respond_answered ?_ _, ?_, by simp, by simp, by simp, by simp⟩
  · show (State.session? _ rq.session).isSome = true
    simpa using hu
  · simp only [State.fixed_frame, id, State.respond_alarms, State.audit_alarms]

/-- A write that its effect refuses as ABSENT changes nothing but what answers change (14 R364). -/
theorem run_writeOf_absent (he : eff x (o.split v) (s.quiet.heard rq.session) = .refuse (refusal stAbsent)) :
    ∃ t, run (writeOf rq index sub el v eff) s = .next t ∧ Answered 2 (writeReq rq index sub el v) 5 t ∧ t.lessAnswers = s.lessAnswers := by
  have hc := h.check ho h0 h1
  obtain ⟨ht, -, -⟩ := h
  have ⟨_, hx, hr, _⟩ := ht
  refine run_request_absent ht (by decide) (makerOwn_found ho rfl x) ?_
  have hheard : (s.quiet.heard rq.session).writeCheck (writeReq rq index sub el v) x.role = .ok o :=
    (State.heard_writeCheck s.quiet _ x hx hr _ _).trans hc
  have he' : eff x (o.split (writeReq rq index sub el v).value) (s.quiet.heard rq.session) = .refuse (refusal stAbsent) := he
  exact (by simp only [writeBody, hheard, he', audited] :
    writeBody (writeReq rq index sub el v) eff x (s.quiet.heard rq.session) = .refuse (refusal stAbsent))

end

/-! The write of 7800:02 (14 R384). -/

/-- The state with other alarms. -/
def State.withAlarms (s : State) (as : List Alarm) : State := { s with store.alarms := as }

section

variable (i : Nat) (x : Session) {s : State} {n : Nat} {a : Alarm}

theorem effAck_all : effAck i x [0xFFFFFFFF] s =
    ok ((s.withAlarms (s.store.alarms.map fun b => { b with acked := true })).alarmOut 3 { number := ackAll } i) := rfl

theorem effAck_absent (hn : n < 0xFFFFFFFF) (hf : s.store.alarms.find? (fun a => a.number == n) = none) :
    effAck i x [n] s = .refuse (refusal stAbsent) := by
  simp [effAck, ackAll, hn.ne, hf]

theorem effAck_again (hn : n < 0xFFFFFFFF) (hf : s.store.alarms.find? (fun a => a.number == n) = some a) (ha : a.acked = true) :
    effAck i x [n] s = ok s := by
  simp [effAck, ackAll, hn.ne, hf, ha]

theorem effAck_first (hn : n < 0xFFFFFFFF) (hf : s.store.alarms.find? (fun a => a.number == n) = some a) (ha : a.acked = false) :
    effAck i x [n] s =
      ok ((s.withAlarms (s.store.alarms.map fun b => if b.number = n then { b with acked := true } else b)).alarmOut 3 a i) := by
  simp [effAck, ackAll, hn.ne, hf, ha, State.withAlarms]

end

theorem ackObj_split {o : Obj} (ho : findObj 0x7800 2 = some o) {n : Nat} (hn : n < 4294967296) : o.split (beBytes 4 n) = [n] := by
  cases (Option.some.inj ho : _ = o)
  simp [Obj.split, splitFields, List.take_of_length_le, beNat_beBytes, hn]

section

variable {rq : Rq} {x : Session} {s : State} {n : Nat} (h : Writes rq 0x7800 2 0 (beBytes 4 n) x s)
include h

/-- An acknowledgement whose effect leaves its session open is answered OK, and the alarms are those of the effect (14 R384). -/
theorem run_ack (hn : n < 4294967296) {u : State} (he : effAck rq.session x [n] (s.quiet.heard rq.session) = ok u)
    (hu : ∀ i, (u.session? i).isSome = ((s.quiet.heard rq.session).session? i).isSome) :
    ∃ t, run (writeOf rq 0x7800 2 0 (beBytes 4 n) (effAck rq.session)) s = .next t ∧
      AnsweredAfter (writeReq rq 0x7800 2 0 (beBytes 4 n)) u t := by
  refine run_writeOf_answeredAfter h rfl (by decide) (by decide) (by decide)
    ((congrArg (effAck rq.session x · _) (ackObj_split rfl hn)).trans he) ((hu rq.session).trans ?_)
  exact congrArg Option.isSome (TakenUp.session (s := s.quiet) h.1)

/-- An acknowledgement that changes alarms and reports it changes nothing else of what an answer leaves (14 R384). -/
theorem run_ack_reported (hn : n < 4294967296) {as : List Alarm} {a : Alarm}
    (he : effAck rq.session x [n] (s.quiet.heard rq.session) = ok (((s.quiet.heard rq.session).withAlarms as).alarmOut 3 a rq.session)) :
    ∃ t, run (writeOf rq 0x7800 2 0 (beBytes 4 n) (effAck rq.session)) s = .next t ∧
      AnsweredAfter (writeReq rq 0x7800 2 0 (beBytes 4 n)) (s.withAlarms as) t := by
  have hposts := State.Posts.alarmOut ((s.quiet.heard rq.session).withAlarms as) 3 a rq.session
  obtain ⟨t, ht, hafter⟩ := run_ack h hn he hposts.opens
  refine ⟨t, ht, hafter.answered, hafter.alarms.trans hposts.alarms, hafter.persist.trans ?_, hafter.lanes.trans ?_, hafter.fab.trans ?_,
    hafter.sup.trans ?_⟩
  all_goals simp [State.withAlarms]

/-- An alarm is acknowledged once; again is OK and changes none (14 R384). -/
theorem run_acknowledgeAlarm {a : Alarm} (hn : n < 0xFFFFFFFF) (hf : s.store.alarms.find? (fun a => a.number == n) = some a) :
    ∃ t, exec (.acknowledgeAlarm rq n) s = .next t ∧ Answered 2 (writeReq rq 0x7800 2 0 (beBytes 4 n)) 0 t ∧
      (a.acked = false → t.store.alarms = s.store.alarms.map fun b => if b.number = n then { b with acked := true } else b) ∧
      (a.acked = true → t.store.alarms = s.store.alarms) ∧ t.persist = s.persist ∧ t.lanes = s.lanes ∧ t.fab = s.fab := by
  have hf' : (s.quiet.heard rq.session).store.alarms.find? (fun a => a.number == n) = some a := by simpa using hf
  cases ha : a.acked
  case false =>
    obtain ⟨t, ht, hans, halarms, hpersist, hlanes, hfab, -⟩ := run_ack_reported h (by omega) (effAck_first _ x hn hf' ha)
    exact ⟨t, ht, hans, fun _ => halarms.trans (by simp [State.withAlarms]), nofun, hpersist, hlanes, hfab⟩
  case true =>
    obtain ⟨t, ht, hans, halarms, hpersist, hlanes, hfab, -⟩ := run_ack h (by omega) (effAck_again _ x hn hf' ha) fun _ => rfl
    exact ⟨t, ht, hans, nofun, fun _ => halarms.trans (by simp), hpersist.trans (by simp), hlanes.trans (by simp), hfab.trans (by simp)⟩

/-- A number that no alarm has is ABSENT (14 R384). -/
theorem run_acknowledgeAlarm_absent (hn : n < 0xFFFFFFFF) (hf : s.store.alarms.find? (fun a => a.number == n) = none) :
    ∃ t, exec (.acknowledgeAlarm rq n) s = .next t ∧ Answered 2 (writeReq rq 0x7800 2 0 (beBytes 4 n)) 5 t ∧
      t.lessAnswers = s.lessAnswers := by
  refine run_writeOf_absent h rfl (by decide) (by decide)
    ((congrArg (effAck rq.session x · _) (ackObj_split rfl (by omega))).trans (effAck_absent _ x hn ?_))
  simpa using hf

end

/-- Once every alarm is acknowledged no output is driven (04 R110; 14 R384). -/
theorem run_acknowledgeAll {rq : Rq} {x : Session} {s : State} (h : Writes rq 0x7800 2 0 (beBytes 4 0xFFFFFFFF) x s) :
    ∃ t, exec (.acknowledgeAll rq) s = .next t ∧ Answered 2 (writeReq rq 0x7800 2 0 (beBytes 4 0xFFFFFFFF)) 0 t ∧
      t.store.alarms = (s.store.alarms.map fun b => { b with acked := true }) ∧ (s.sup.restarting = false → ∀ n, t.almOutput n = false) ∧
      t.persist = s.persist ∧ t.lanes = s.lanes ∧ t.fab = s.fab := by
  obtain ⟨t, ht, hans, halarms, hpersist, hlanes, hfab, hsup⟩ := run_ack_reported h (by decide) (effAck_all ..)
  have halarms' : t.store.alarms = s.store.alarms.map fun b => { b with acked := true } := halarms.trans (by simp [State.withAlarms])
  refine ⟨t, ht, hans, halarms', fun hr => State.almOutput_of_acked ((congrArg Sup.restarting hsup).trans hr) fun a ha => ?_,
    hpersist, hlanes, hfab⟩
  obtain ⟨b, -, rfl⟩ := List.mem_map.mp (halarms' ▸ ha)
  rfl

/-- Settles O56: a failure by the conditions and alarms it leaves, an acknowledgement by the alarms it marks. -/
theorem alarmsAreRaisedClearedAndAcknowledged : Obligations.AlarmsAreRaisedClearedAndAcknowledged := by
  unfold Obligations.AlarmsAreRaisedClearedAndAcknowledged
  intro s
  refine ⟨fun c hup hf hn ht => ?_, fun c hup hf ht hm => ?_, fun rq n x a hn h hf => ?_, fun rq n x hn h hf => ?_, fun rq x h => ?_⟩
  · exact run_failureRaised hup hf hn ht
  · exact run_failureCleared hup hf ht hm
  · exact run_acknowledgeAlarm h hn hf
  · exact run_acknowledgeAlarm_absent h hn hf
  · exact run_acknowledgeAll h

end Sys2Proof.Machine
end

section
/-! PROOFS. A lost heartbeat writes an event (08 R226), and an entry that a subscribed event hopper takes is counted there (14 R379). -/

namespace Sys2Proof.Machine

/-! The counts of a hopper. -/

/-- A unit written to a hopper counts its entries (14 R379). -/
theorem State.writeUnit_written (s : State) (h : Nat) (es : List Bytes) :
    (s.writeUnit h es).ctr 0x7010 2 1 h = (s.ctr 0x7010 2 1 h + es.length) % 4294967296 := by
  simp only [State.writeUnit, State.notifyOwner_reads, State.ctr_countN]
  rfl

/-- A unit that a hopper has room for, with none waiting, is written at once (14 R379). -/
theorem State.postUnit_of_room {s : State} {h : Nat} {es : List Bytes} (hr : s.hopRoom h es.length = true) (ho : (s.hop h).overflow = [])
    (q : Bool) : s.postUnit h es q = s.writeUnit h es := by
  simp [State.postUnit, hr, ho]

/-- An event of at most 36 bytes is one entry (14 R382). -/
theorem eventUnit_length {p : Bytes} (hp : p.length ≤ 36) (cls number index sub el stamp kind : Nat) :
    (eventUnit cls number index sub el stamp kind p).length = 1 := by
  have hk : (p.length - 36 + 55) / 56 = 0 := by omega
  simp [eventUnit, hk, eventConts]

/-- The state in which an event has taken its number (14 R382). -/
def State.eventNumbered (s : State) : State := { s with store.nextEvent := eventAfter s.store.nextEvent }

/-- An event comes to the one event hopper that is subscribed (14 R377, R382). -/
theorem State.event_posted {s : State} {h : Nat} (hh : s.hoppersOf 3 = [h]) (cls index sub el : Nat) (p : Bytes) :
    s.event cls index sub el p = s.eventNumbered.postUnit h (eventUnit cls s.store.nextEvent index sub el s.stamp 0 p) := by
  have hh' : s.eventNumbered.hoppersOf 3 = [h] := hh
  show s.eventNumbered.each (s.eventNumbered.hoppersOf 3) _ = _
  rw [hh']
  rfl

/-- An event of one entry that the one subscribed event hopper has room for is counted there as written (14 R379, R382). -/
theorem State.event_written {s : State} {h : Nat} (hh : s.hoppersOf 3 = [h]) (hr : s.hopRoom h 1 = true) (ho : (s.hop h).overflow = [])
    {p : Bytes} (hp : p.length ≤ 36) (cls index sub el : Nat) :
    (s.event cls index sub el p).ctr 0x7010 2 1 h = (s.ctr 0x7010 2 1 h + 1) % 4294967296 := by
  have hlen := eventUnit_length hp cls s.store.nextEvent index sub el s.stamp 0
  rw [State.event_posted hh, State.postUnit_of_room (s := s.eventNumbered) (hlen.symm ▸ hr) ho, State.writeUnit_written, hlen]
  rfl

/-! The loss of the heartbeat. -/

theorem State.heartValue_length (s : State) (e : EngId) : (s.heartValue e).length = 6 := by
  simp [State.heartValue]

/-- The third missed heartbeat is written to the event hopper that is subscribed, and counted there (08 R226; 14 R379). -/
theorem heartLost_written {s : State} {e : EngId} {h : Nat} (hd : (s.engine e).state ≠ .down) (hl : (s.engine e).hbLost = false)
    (hov : s.over (s.engine e).hbAt 3000000 = true) (hh : s.hoppersOf 3 = [h]) (hr : s.hopRoom h 1 = true) (ho : (s.hop h).overflow = []) :
    (heartLost e s).ctr 0x7010 2 1 h = (s.ctr 0x7010 2 1 h + 1) % 4294967296 := by
  have hov' : s.over (s.engine e).hbAt (msecs 3) = true := hov
  simp only [heartLost, hd, hl, hov', ne_eq, not_false_eq_true, and_self, if_true]
  rw [State.event_written (h := h) ?_ ?_ ?_ (by simp [State.heartValue_length])]
  · simp
  · simpa [State.hoppersOf, State.hopKind] using hh
  · simpa [State.hopRoom, State.hop, State.hopDepth] using hr
  · simpa [State.hop] using ho

/-! The counterexample. -/

/-- Engine 0 holds the lease, engine 1 is Cold and has had no heartbeat for 3 ms; session 1 owns hopper 0, of kind 3 (events) and depth 64. -/
def heartbeatsMissed : State :=
  { State.reset.setVal 0x7000 1 0 [3, 64, 0, 0, 0, 0] with
    now := 3000000, lease.holder := some 0, engA.state := .holder, engB.state := .cold, store.hoppers := [(0, { owner := 1 })] }

/-- Refutes O25: the event that a lost heartbeat writes (08 R226) advances the count of entries written to a subscribed event hopper (7010:02, 14
R379), so HEARTBEAT_LOST does not leave every counter as it was. -/
theorem not_enginesRefreshAndReturn : ¬ Obligations.EnginesRefreshAndReturn := by
  unfold Obligations.EnginesRefreshAndReturn
  rintro ⟨hrefresh, -⟩
  obtain ⟨-, -, -, -, -, hlost⟩ := hrefresh heartbeatsMissed 1
  obtain ⟨t, ht, -, -, hcnt, -⟩ := hlost (by decide) rfl (by decide)
  obtain rfl := Host.Outcome.next.inj ht
  have hwritten : (heartLost 1 heartbeatsMissed.quiet).ctr 0x7010 2 1 0 = 1 :=
    heartLost_written (s := heartbeatsMissed.quiet) (by decide) rfl (by decide) (by decide) (by decide) rfl
  have hkept : (heartLost 1 heartbeatsMissed.quiet).cnt = heartbeatsMissed.cnt := hcnt
  rw [State.ctr, hkept] at hwritten
  exact absurd hwritten (by decide)

end Sys2Proof.Machine
end

section
/-! PROOFS. What the shared operations of edits and activations write, and what they leave alone (06 R164 to R176). -/

namespace Sys2Proof.Machine

/-! The armed activation. -/

/-- All but the armed activation. -/
def State.lessArmed (s : State) : State := { s with edit.armed := none }

/-- Sealing the shadow page writes the armed activation alone (06 R173). -/
theorem State.checkSealed_lessArmed (s : State) : s.checkSealed.lessArmed = s.lessArmed := by
  simp only [State.checkSealed]
  repeat' split
  all_goals rfl

@[simp] theorem State.checkSealed_parts (s : State) :
    s.checkSealed.fab = s.fab ∧ s.checkSealed.lease = s.lease ∧ s.checkSealed.persist = s.persist ∧ s.checkSealed.store = s.store ∧
    s.checkSealed.cnt = s.cnt := by
  have h := s.checkSealed_lessArmed
  exact ⟨(congrArg State.fab h :), (congrArg State.lease h :), (congrArg State.persist h :), (congrArg State.store h :), (congrArg State.cnt h :)⟩

/-- The state with another armed activation. -/
def State.withArmed (s : State) (a : Armed) : State := { s with edit.armed := some a }

/-- At its seal point, with nothing in flight, an activation is sealed, and one of mode 0 gets its target (06 R171, R173). -/
theorem State.sealNow_sealed {s : State} {a : Armed} (h : s.edit.armed = some a) (h1 : a.state = 1) (hf : s.edit.flight = []) :
    s.sealNow = (if a.mode = 0 then (s.withArmed { a with state := 3, sealedAt := s.fab.frameNo }).setTarget
      else s.withArmed { a with state := 3, sealedAt := s.fab.frameNo }) := by
  simp [State.sealNow, State.checkSealed, State.modArmed, State.withArmed, h, h1, hf]

/-- At its seal point, with transactions in flight, an activation begins to seal (06 R173). -/
theorem State.sealNow_inFlight {s : State} {a : Armed} (h : s.edit.armed = some a) (h1 : a.state = 1) (hf : s.edit.flight ≠ []) :
    s.sealNow = s.withArmed { a with state := 2 } := by
  simp [State.sealNow, State.checkSealed, State.modArmed, State.withArmed, h, h1, hf]

/-- An activation past its seal point is not sealed again (06 R173). -/
theorem State.sealNow_past {s : State} {a : Armed} (h : s.edit.armed = some a) (h1 : a.state ≠ 1) : s.sealNow = s := by
  simp [State.sealNow, h, h1]

/-! Records, streams and conditions. -/

/-- All but the edits, and the marks of a full journal mirror. -/
def State.lessJournal (s : State) : State := { s with edit := {}, engA.mirrorFull := false, engB.mirrorFull := false }

theorem State.journal_lessJournal (s : State) (kind : Nat) (e : Entry) (number acc : Nat) :
    (s.journal kind e number acc).lessJournal = s.lessJournal := by
  simp only [State.journal]
  split <;> rfl

/-- A record joins the journal at its end (08 R221). -/
theorem State.journal_records (s : State) (kind : Nat) (e : Entry) (number acc : Nat) :
    (s.journal kind e number acc).edit.journal = s.edit.journal ++ [⟨s.edit.head, kind, e, number, acc⟩] := by
  simp only [State.journal]
  split <;> rfl

theorem State.journalUpTo_lessJournal (s : State) (x : Trans) : (s.journalUpTo x).lessJournal = s.lessJournal := by
  have htrans (rs is : List Entry) (acc : Nat) (w : State) : (w.journalTrans rs is acc).lessJournal = w.lessJournal := by
    simp only [State.journalTrans]
    exact (State.each_keep State.lessJournal is _ (fun e w => w.journal_lessJournal ..) _).trans
      (State.each_keep State.lessJournal rs _ (fun e w => w.journal_lessJournal ..) w)
  exact State.each_keep State.lessJournal _ _ (fun x w => htrans ..) s

/-- All but the raw PM data of streams. -/
def State.lessStreams (s : State) : State := { s with pm.stream := [] }

theorem State.orphanStreams_lessStreams (s : State) : s.orphanStreams.lessStreams = s.lessStreams := by
  simp only [State.orphanStreams]
  refine State.each_keep State.lessStreams _ _ (fun k w => ?_) s
  rfl

/-- The pages, the edits, the lease, and the counter of executed activations. -/
def State.mapPart (s : State) : Fabric × Edit × Lease × Nat := (s.fab, s.edit, s.lease, s.ctr 0x4100 5 0 0)

theorem State.mapPart_ext {s : State} {f : Fabric} {e : Edit} {l : Lease} {n : Nat} (h : s.mapPart = (f, e, l, n)) :
    s.fab = f ∧ s.edit = e ∧ s.lease = l ∧ s.ctr 0x4100 5 0 0 = n := by
  simpa [State.mapPart] using h

theorem State.noteCond_mapPart (s : State) (c : AlarmCond) (p : Bool) : (s.noteCond c p).mapPart = s.mapPart := by simp [State.mapPart]

theorem State.settleRx_mapPart (s : State) (k : Nat) : (s.settleRx k).mapPart = s.mapPart := by
  simp only [State.settleRx]
  split <;> simp [State.mapPart]

theorem State.settleTx_mapPart (s : State) (k : Nat) : (s.settleTx k).mapPart = s.mapPart := by simp [State.settleTx, State.mapPart]

theorem State.orphanStreams_mapPart (s : State) : s.orphanStreams.mapPart = s.mapPart :=
  (congrArg State.mapPart s.orphanStreams_lessStreams :)

/-- Live streams follow the page without a change to it (11 R281). -/
theorem State.reloadStreams_mapPart (s : State) : s.reloadStreams.mapPart = s.mapPart := by
  have hkey (k : Nat) : ctrKey 0x4100 5 0 0 ≠ ctrKey 0x5C32 1 6 k := by
    unfold ctrKey
    omega
  have hcount (w : State) (k : Nat) : (w.count 0x5C32 1 6 k).mapPart = w.mapPart := by
    simp [State.mapPart, State.ctr_count_of_ne (hkey k)]
  have hrx (w : State) (k : Nat) (f : RxStream → RxStream) : (w.modRx k f).mapPart = w.mapPart := rfl
  have htx (w : State) (k : Nat) (f : TxStream → TxStream) : (w.modTx k f).mapPart = w.mapPart := rfl
  simp only [State.reloadStreams]
  refine (State.each_keep State.mapPart _ _ (fun k w => htx ..) _).trans ?_
  refine (State.each_keep State.mapPart _ _ (fun k w => (State.settleTx_mapPart ..).trans (htx ..)) _).trans ?_
  refine (State.each_keep State.mapPart _ _ (fun k w => hrx ..) _).trans ?_
  refine (State.each_keep State.mapPart _ _ (fun k w => ?_) _).trans s.orphanStreams_mapPart
  rw [State.settleRx_mapPart, hrx]
  split
  · exact hcount w k
  · rfl

/-! What goes out through hoppers. -/

theorem State.clearIf_ctr {i b f e : Nat} (h : OffHoppers i b f e) (s : State) (i' b' n' e' : Nat) :
    (s.clearIf i' b' n' e').ctr i b f e = s.ctr i b f e := by
  rw [State.clearIf]
  split
  · simp only [State.clearAlarm, State.alarmOut]
    exact State.each_keep (fun w => w.ctr i b f e) _ _ (fun k w => State.postUnit_ctr h ..) _
  · rfl

/-- A counter of an index below that of the hoppers is none of theirs. -/
theorem offHoppers_below {i b : Nat} (hi : i < 0x7010) (hb : b < 256) : OffHoppers i b 0 0 := fun n h => by
  unfold ctrKey
  omega

theorem State.activationOut_frame (s : State) (a : Armed) (v : Bytes) :
    (s.activationOut a v).fab = s.fab ∧ (s.activationOut a v).edit = { s.edit with lastEntry := v } ∧ (s.activationOut a v).lease = s.lease ∧
    (s.activationOut a v).persist = s.persist := by
  simp only [State.activationOut]
  refine ⟨?_, ?_, ?_, ?_⟩
  · exact (State.each_keep State.fab _ _ (fun h w => by simp) _).trans (by split <;> simp)
  · exact (State.each_keep State.edit _ _ (fun h w => by simp) _).trans (by split <;> simp)
  · exact (State.each_keep State.lease _ _ (fun h w => by simp) _).trans (by split <;> simp)
  · exact (State.each_keep State.persist _ _ (fun h w => by simp) _).trans (by split <;> simp)

/-- An activation entry counts at hoppers alone (06 R176). -/
theorem State.activationOut_ctr {i b f e : Nat} (h : OffHoppers i b f e) (s : State) (a : Armed) (v : Bytes) :
    (s.activationOut a v).ctr i b f e = s.ctr i b f e := by
  have haudit : (State.audit { s with edit.lastEntry := v } (moduleRec 0x0A 0x4100 4 0 a.number)).ctr i b f e = s.ctr i b f e := by
    rw [State.ctr, State.audit_cnt _ (by simp [moduleRec])]
    rfl
  simp only [State.activationOut]
  refine (State.each_keep (fun w => w.ctr i b f e) _ _ (fun k w => State.postUnit_ctr h ..) _).trans ?_
  split
  · exact (State.postUnit_ctr h ..).trans haudit
  · exact haudit

/-- An activation entry closes no session (06 R176; 14 R380). -/
theorem State.activationOut_opens (s : State) (a : Armed) (v : Bytes) (i : Nat) :
    ((s.activationOut a v).session? i).isSome = (s.session? i).isSome := by
  have hpost (w : State) (h : Nat) (es : List Bytes) := (State.Posts.postUnit w h es true).opens i
  have haudit : ((State.audit { s with edit.lastEntry := v } (moduleRec 0x0A 0x4100 4 0 a.number)).session? i).isSome = (s.session? i).isSome := by
    rw [(State.audit_reads ..).2.2.2.2.2.2.1]
    rfl
  simp only [State.activationOut]
  refine (State.each_keep (fun w => (w.session? i).isSome) _ _ (fun k w => hpost ..) _).trans ?_
  split
  · exact (hpost ..).trans haudit
  · exact haudit

/-- A unit is written behind the entries of its hopper, and the owner's NOTIFY takes none away (14 R375, R380). -/
theorem State.writeUnit_entries (s : State) (h : Nat) (es : List Bytes) :
    ((s.writeUnit h es).hop h).entries = (s.hop h).entries ++ es.zipIdx.map fun e => (e.2 == 0, e.1) := by
  have hnotify (w : State) : ((w.notifyOwner h).hop h).entries = (w.hop h).entries := by
    simp only [State.notifyOwner]
    split
    · simp [State.hop, State.modHop]
    · rfl
  simp only [State.writeUnit, hnotify]
  simp [State.hop, State.modHop]

/-! Room in a hopper. -/

theorem State.transDone_fab (s : State) (t : Trans) : (s.transDone t).fab = s.fab := by
  simp only [State.transDone]
  repeat' split
  all_goals simp

theorem State.drainOverflow_fab (h n : Nat) (s : State) : (State.drainOverflow h n s).fab = s.fab := by
  induction n generalizing s with
  | zero => rfl
  | succ n ih =>
    simp only [State.drainOverflow]
    repeat' split
    all_goals simp [ih]

theorem State.drainDone_fab (h n : Nat) (s : State) : (State.drainDone h n s).fab = s.fab := by
  induction n generalizing s with
  | zero => rfl
  | succ n ih =>
    simp only [State.drainDone]
    repeat' split
    all_goals simp [ih, State.transDone_fab]

theorem State.drainHeld_fab (h n : Nat) (s : State) : (State.drainHeld h n s).fab = s.fab := by
  induction n generalizing s with
  | zero => rfl
  | succ n ih =>
    simp only [State.drainHeld]
    repeat' split
    all_goals simp [ih]

/-- Entries taken from a hopper, and what then finds room there, change no page (14 R379; 06 R166). -/
theorem State.consume_fab (s : State) (h n : Nat) : (s.consume h n).fab = s.fab := by
  simp only [State.consume, State.makeRoom, State.checkSealed_parts, State.drainHeld_fab, State.drainDone_fab, State.drainOverflow_fab, State.modHop_frame]

end Sys2Proof.Machine
end

section
/-! PROOFS. A write that is refused, and what an answer leaves of the edits and the counters (14 R358, R364). -/

namespace Sys2Proof.Machine

theorem State.closeSess_cnt (s : State) (i c : Nat) : (s.closeSess i c).cnt = s.cnt := by
  simp only [State.closeSess]
  split
  · rw [State.audit_cnt _ (by simp)]
    simp
  · rfl

/-- An answer counts nothing, even one that is its session's last message (14 R355, R358). -/
theorem State.respond_cnt (s : State) (op : Nat) (q : Req) (a : Ans) : (s.respond op q a).cnt = s.cnt := by
  have hlimit (w : State) (i : Nat) : (w.seqLimit i).cnt = w.cnt := by
    unfold State.seqLimit
    repeat' split
    · exact w.closeSess_cnt i 5
    all_goals rfl
  simp only [State.respond]
  split
  · simp [hlimit]
  · rfl

theorem AnswersWith.parts {q : Req} {status : Nat} {u r : State} (h : AnswersWith q status u r) :
    r.fab = u.fab ∧ r.edit = u.edit ∧ r.lease = u.lease ∧ r.lanes = u.lanes :=
  ⟨(congrArg State.fab h.less :), (congrArg State.edit h.less :), (congrArg State.lease h.less :), (congrArg State.lanes h.less :)⟩

section

variable {rq : Rq} {x : Session} {s : State} {index sub el : Nat} {v : Bytes} {o : Obj}
  (h : Writes rq index sub el v x s) (ho : findObj index sub = some o) (h0 : sub ≠ 0) (h1 : sub ≠ 0xFE)
  {eff : Session → List Nat → State → Act}
include h ho h0 h1

/-- The answer to a write leaves the edits and every counter as the effect of the write made them (14 R364). -/
theorem run_writeOf_edits (hq : ¬ (index = 0x5E10 ∧ sub = 3)) {u t : State} (he : eff x (o.split v) (s.quiet.heard rq.session) = ok u)
    (ht : run (writeOf rq index sub el v eff) s = .next t) : t.edit = u.edit ∧ ∀ i b f e, t.ctr i b f e = u.ctr i b f e := by
  obtain rfl := Host.Outcome.next.inj ht
  rw [writeOf_done (s := s.quiet) h ho h0 h1 hq he rfl]
  refine ⟨by simp, fun i b f e => ?_⟩
  simp only [State.ctr, State.fixed_frame, id, State.respond_cnt]
  rw [State.audit_cnt _ (by simp [writeRec])]

/-- A write that its effect refuses changes nothing but what answers change (14 R364). -/
theorem run_writeOf_refusal {a : Ans} (he : eff x (o.split v) (s.quiet.heard rq.session) = .refuse a) (ha : a.status ≠ stAccess) :
    ∃ t, run (writeOf rq index sub el v eff) s = .next t ∧ Answered 2 (writeReq rq index sub el v) a.status t ∧
      t.lessAnswers = s.lessAnswers := by
  have ⟨⟨_, _, hr, _, _, _, _, _, hsend, hrecv⟩, _⟩ := h
  have hrec : (s.quiet.heard rq.session).auditAccess 2 (writeReq rq index sub el v) x a = s.quiet.heard rq.session := by
    simp [State.auditAccess, ha]
  have hans := State.respond_answersWith (q := writeReq rq index sub el v) (a := a) (TakenUp.session (s := s.quiet) h.1) hr hsend hrecv
  refine ⟨_, rfl, ?_⟩
  rw [writeOf_refused (s := s.quiet) h ho h0 h1 he, hrec]
  exact ⟨hans.answered, congrArg s.fixed (hans.less.trans (s.quiet.heard_lessAnswers _))⟩

end

end Sys2Proof.Machine
end

section
/-! PROOFS. Transactions are taken and completed, and the shadow page reverted (06 R160 to R169). -/

namespace Sys2Proof.Machine

/-! A transaction is taken (06 R160 to R164). -/

/-- What lets a cog take a transaction from a hopper: its BEGIN stands at the head of the hopper whose turn it is (06 R161; 13 Table 13-1). -/
structure State.Offers (s : State) (h : Nat) (b : Bytes) (bs : List Bytes) : Prop where
  up : s.sup.up = true
  compiles : s.compiles = true
  kind : s.hopKind h = 1
  taking : s.takingState = 0
  entries : s.hopEntries h = b :: bs
  begin : field b 0 1 = 1
  turn : s.turnOf = some h

section

variable {s : State} {h : Nat} {b : Bytes} {bs : List Bytes}

theorem takeTrans_offered (ho : s.Offers h b bs) : takeTrans h s = { s.takeHead h b bs with edit.lastHopper := h } := by
  obtain ⟨hup, hcomp, hkind, htake, hents, hbegin, hturn⟩ := ho
  have hstrays : strays (b :: bs) = 0 := by simp [strays, hbegin]
  simp [takeTrans, hup, hcomp, hkind, htake, hstrays, hents, hbegin, hturn]

/-- With no cog that runs none is taken (13 Table 13-1). -/
theorem takeTrans_stopped (hc : s.compiles = false) : takeTrans h s = s := by
  simp [takeTrans, hc]

/-- A count of entries that is not admissible refuses the transaction (06 R160). -/
theorem State.takeHead_badCount (hc : s.countOk h b = false) :
    s.takeHead h b bs = (s.consume h 1).putTrans { beginOf h b with status := stRange, detail := 0x10 } := by
  simp [State.takeHead, hc]

variable {ops : List EditOp} (hc : s.countOk h b = true) (hp : parseTrans (b :: bs.take (field b 4 2 - 1)) = .ok ops)
include hc hp

/-- A tag that is in flight from the same hopper refuses the transaction (06 R162). -/
theorem State.takeHead_repeated {y : Trans}
    (hf : ((s.consume h (field b 4 2)).edit.flight.find? fun x => x.hopper == h && x.tag == (beginOf h b).tag) = some y) :
    s.takeHead h b bs = (s.consume h (field b 4 2)).putTrans
      { beginOf h b with status := stConflict, detail := 0x16, detailValue := y.acc.getD 0xFFFFFFFF } := by
  simp [State.takeHead, hc, hp, hf]

theorem State.takeHead_admits
    (hf : ((s.consume h (field b 4 2)).edit.flight.find? fun x => x.hopper == h && x.tag == (beginOf h b).tag) = none) :
    s.takeHead h b bs = (s.consume h (field b 4 2)).admitTrans (beginOf h b) ops := by
  simp [State.takeHead, hc, hp, hf]

end

/-- A transaction as it joins those in flight once its operations apply to a page (06 R161, R164). -/
def State.appliedTrans (s : State) (t : Trans) (page : List Entry) : Trans :=
  { t with
    acc := some s.edit.nextAcc, inserted := pageDiff page s.fab.shadow, removed := pageDiff s.fab.shadow page, prevIncl := some s.edit.lastIncl }

/-- Operations that apply become the shadow page under the next acceptance number (06 R161, R163). -/
theorem State.admitTrans_applied {s : State} {t : Trans} {ops : List EditOp} {page : List Entry} (hl : s.noLease = false)
    (ha : s.accept.2.applyOps s.edit.nextAcc 0 s.fab.shadow ops = .ok page) (hc : t.check = false) :
    s.admitTrans t ops = (s.accept.2.include s.edit.nextAcc page).putTrans (s.appliedTrans t page) := by
  have hl' : s.accept.2.noLease = false := hl
  have ha' : s.accept.2.applyOps s.accept.1 0 s.accept.2.fab.shadow ops = .ok page := ha
  simp only [State.admitTrans, hl', ha', Bool.false_eq_true, if_false]
  exact if_neg (by simp [hc])

/-- Beside the shadow page and the figures of what it includes, a change of it writes the raw PM data of streams alone (12 Table 12-2). -/
theorem State.include_eq (s : State) (acc : Nat) (page : List Entry) : ∃ m, s.include acc page =
    { s with fab.shadow := page, edit.included := s.edit.included + 1, edit.lastIncl := acc, pm.stream := m } :=
  ⟨_, congrArg (fun w : State => { w with pm.stream := (s.include acc page).pm.stream }) (State.orphanStreams_lessStreams _)⟩

/-! A transaction is completed (06 R164, R166). -/

/-- The state in which a transaction's records are in the journal, and a completion that names no completion hopper is counted (06 R164; 14 R378). -/
def State.recorded (s : State) (x : Trans) : State :=
  if s.misdirected x then (s.journalUpTo x).count 0x7010 2 5 x.hopper else s.journalUpTo x

/-- All but what the records of a transaction write: the edits, the marks of a full journal mirror, and counters. -/
def State.lessRecords (s : State) : State := { s.lessJournal with cnt := [] }

theorem State.recorded_lessRecords (s : State) (x : Trans) : (s.recorded x).lessRecords = s.lessRecords := by
  have hj : (s.journalUpTo x).lessRecords = s.lessRecords := congrArg (fun w : State => { w with cnt := [] }) (s.journalUpTo_lessJournal x)
  simp only [State.recorded]
  split
  · exact hj
  · exact hj

theorem State.recorded_ctr {i b f e : Nat} (h : OffHoppers i b f e) (s : State) (x : Trans) : (s.recorded x).ctr i b f e = s.ctr i b f e := by
  have hj : (s.journalUpTo x).ctr i b f e = s.ctr i b f e := (congrArg (fun w : State => w.ctr i b f e) (s.journalUpTo_lessJournal x) :)
  simp only [State.recorded]
  split
  · exact (State.ctr_count_of_ne (h _ _) _).trans hj
  · exact hj

/-- A transaction that leaves flight writes the edits and its result's counter alone (06 Table 6-16). -/
theorem State.transDone_lessRecords (s : State) (t : Trans) : (s.transDone t).lessRecords = s.lessRecords := by
  simp only [State.transDone]
  repeat' split
  all_goals rfl

theorem State.transDone_failed (s : State) {t : Trans} (h : t.status ≠ 0) :
    (s.transDone t).ctr 0x4000 4 0 0 = (s.ctr 0x4000 4 0 0 + 1) % 4294967296 := by
  simp only [State.transDone, h, ne_eq, not_false_eq_true, if_true]
  exact State.ctr_count ..

theorem State.transDone_applied (s : State) {t : Trans} (h : t.status = 0) (hc : t.check = false) :
    (s.transDone t).ctr 0x4000 3 0 0 = (s.ctr 0x4000 3 0 0 + 1) % 4294967296 := by
  simp only [State.transDone, h, hc, ne_eq, not_true_eq_false, Bool.false_eq_true, if_false]
  exact State.ctr_count ..

/-- The state in which a recorded transaction has left flight. -/
def State.landed (s : State) (x : Trans) : State := (s.recorded x).transDone { x with journaled := true }

theorem State.landed_lessRecords (s : State) (x : Trans) : (s.landed x).lessRecords = s.lessRecords :=
  (State.transDone_lessRecords ..).trans (s.recorded_lessRecords x)

/-- A refused transaction is counted as such when it leaves flight (06 Table 6-16). -/
theorem State.landed_failed (s : State) {x : Trans} (h : x.status ≠ 0) :
    (s.landed x).ctr 0x4000 4 0 0 = (s.ctr 0x4000 4 0 0 + 1) % 4294967296 := by
  rw [← State.recorded_ctr (offHoppers_below (by decide) (by decide)) s x]
  exact (s.recorded x).transDone_failed (t := { x with journaled := true }) h

theorem State.landed_applied (s : State) {x : Trans} (h : x.status = 0) (hc : x.check = false) :
    (s.landed x).ctr 0x4000 3 0 0 = (s.ctr 0x4000 3 0 0 + 1) % 4294967296 := by
  rw [← State.recorded_ctr (offHoppers_below (by decide) (by decide)) s x]
  exact (s.recorded x).transDone_applied (t := { x with journaled := true }) h hc

theorem State.landed_parts (s : State) (x : Trans) :
    (s.landed x).fab = s.fab ∧ (s.landed x).lanes = s.lanes ∧ (s.landed x).persist = s.persist ∧ (s.landed x).lease = s.lease := by
  have h := s.landed_lessRecords x
  exact ⟨(congrArg State.fab h :), (congrArg State.lanes h :), (congrArg State.persist h :), (congrArg State.lease h :)⟩

section

variable {s : State} {x : Trans} {h : Nat}

/-- With room in its completion hopper the completion of a transaction is written at once (06 R164, R166). -/
theorem completeTrans_eq {a : Nat} (hup : s.sup.up = true)
    (hf : s.edit.flight.find? (fun x => x.acc.getD 0xFFFFFFFF == a && !x.finished) = some x) (hh : s.completionHopper x = some h)
    (hr : s.hopRoom h 1 = true) :
    completeTrans a s = ((s.landed x).postUnit h [completionEntry { x with journaled := true } s.stamp]).checkSealed := by
  have hrec := s.recorded_lessRecords x
  have hhop : (s.recorded x).completionHopper { x with journaled := true } = some h :=
    (congrArg (fun w : State => w.completionHopper x) hrec :).trans hh
  have hkeep : (s.recorded x).blocksCompletion h = s.blocksCompletion h := (congrArg (fun w : State => w.blocksCompletion h) hrec :)
  have hblock : (s.recorded x).blocksCompletion h = false := by
    rw [hkeep]
    simp [State.blocksCompletion, hr]
  have hstamp : (s.recorded x).stamp = s.stamp := (congrArg State.stamp hrec :)
  have hmis : (s.journalUpTo x).misdirected { x with journaled := true } = s.misdirected x :=
    (congrArg (fun w : State => w.misdirected x) (s.journalUpTo_lessJournal x) :)
  have hrecorded : (if (s.journalUpTo x).misdirected { x with journaled := true } then (s.journalUpTo x).count 0x7010 2 5 x.hopper
      else s.journalUpTo x) = s.recorded x := by
    rw [hmis]
    rfl
  simp only [completeTrans, hup, if_true, hf, hrecorded, hhop, hblock, Bool.false_eq_true, if_false, hstamp]
  rfl

/-- The completion entry stands behind the others of its hopper (06 R166; 14 R375). -/
theorem State.landed_entries (hr : s.hopRoom h 1 = true) (ho : (s.hop h).overflow = []) (v : Bytes) :
    (((s.landed x).postUnit h [v]).hop h).entries = (s.hop h).entries ++ [(true, v)] := by
  have hl := s.landed_lessRecords x
  have hroom : (s.landed x).hopRoom h [v].length = true := (congrArg (fun w : State => w.hopRoom h 1) hl :).trans hr
  have hhop : (s.landed x).hop h = s.hop h := (congrArg (fun w : State => w.hop h) hl :)
  rw [State.postUnit_of_room hroom (by rw [hhop, ho]), State.writeUnit_entries, hhop]
  rfl

end

/-! The shadow page is reverted (06 R168). -/

/-- The state in which the shadow page is a copy of the active one again. -/
def State.reverted (s : State) : State :=
  State.orphanStreams { (s.journal 4 {} 0 0).revertPairs with
    fab.shadow := (s.journal 4 {} 0 0).revertPairs.fab.active, fab.copyBusy := true, edit.included := 0, edit.lastIncl := 0xFFFFFFFF }

theorem effRevert_idle {s : State} (ha : s.edit.armed = none) (hf : s.edit.flight = []) (x : Session) (vs : List Nat) :
    effRevert x vs s = ok s.reverted := by
  simp only [effRevert, ha, hf, ne_eq, not_true_eq_false, if_false]
  rfl

theorem effRevert_armed {s : State} {a : Armed} (ha : s.edit.armed = some a) (x : Session) (vs : List Nat) :
    effRevert x vs s = .refuse (naming stState 0x4100 3 0 0x20 a.number) := by
  simp only [effRevert, ha]

theorem State.revertPairs_frame (s : State) : s.revertPairs.mgmt = s.mgmt ∧ s.revertPairs.edit = s.edit := by
  simp only [State.revertPairs]
  constructor
  · exact State.each_keep State.mgmt _ _ (fun p t => by simp [State.modPair]) s
  · exact State.each_keep State.edit _ _ (fun p t => by simp [State.modPair]) s

theorem State.reverted_running (s : State) :
    s.reverted.running = (s.sup, { s.fab with shadow := s.fab.active, copyBusy := true }, s.lease, s.lanes, s.sealing) := by
  have hr : (s.journal 4 {} 0 0).revertPairs.running = s.running := (State.revertPairs_running _).trans (s.journal_running ..)
  rw [State.reverted, State.orphanStreams_running]
  exact congrArg (fun r : Sup × Fabric × Lease × Tab Lane × Sealing => (r.1, { r.2.1 with shadow := r.2.1.active, copyBusy := true }, r.2.2)) hr

/-- Reverting leaves one record in the journal and nothing included (06 R168; 08 Table 8-7). -/
theorem State.reverted_edit (s : State) :
    s.reverted.edit = { (s.journal 4 {} 0 0).edit with included := 0, lastIncl := 0xFFFFFFFF } :=
  (congrArg State.edit (State.orphanStreams_lessStreams _) :).trans
    (congrArg (fun e : Edit => { e with included := 0, lastIncl := 0xFFFFFFFF }) (State.revertPairs_frame _).2)

theorem State.reverted_mgmt (s : State) : s.reverted.mgmt = s.mgmt :=
  (congrArg State.mgmt (State.orphanStreams_lessStreams _) :).trans
    ((State.revertPairs_frame _).1.trans (congrArg State.mgmt (s.journal_lessJournal 4 {} 0 0) :))

end Sys2Proof.Machine
end

section
/-! PROOFS. The commands of transactions and of the shadow page (06 R161 to R169). -/

namespace Sys2Proof.Machine

section

variable {s : State} {h : Fin 8192} {b : Bytes} {bs : List Bytes} (ho : s.Offers h b bs)
include ho

theorem exec_transactionTaken :
    exec (.transactionTaken h) s = .next (s.fixed { s.quiet.takeHead h b bs with edit.lastHopper := h }) := by
  have ho' : s.quiet.Offers h b bs := ⟨ho.up, ho.compiles, ho.kind, ho.taking, ho.entries, ho.begin, ho.turn⟩
  exact congrArg (fun t => Host.Outcome.next (s.fixed t)) (takeTrans_offered ho')

/-- A count of entries that is not admissible is refused, and one entry is consumed (06 R160). -/
theorem run_badCount (hc : s.countOk h b = false) :
    ∃ t, exec (.transactionTaken h) s = .next t ∧ t.fab.shadow = (s.quiet.consume h 1).fab.shadow ∧
      (∃ x, t.edit.flight = (s.quiet.consume h 1).edit.flight ++ [x] ∧ x.acc = none ∧ x.status = 3 ∧ x.detail = 0x10) := by
  refine ⟨_, exec_transactionTaken ho, ?_⟩
  rw [State.takeHead_badCount (s := s.quiet) hc]
  generalize s.quiet.consume h 1 = w
  exact ⟨rfl, _, rfl, rfl, rfl, rfl⟩

variable {ops : List EditOp} {u : State} (hc : s.countOk h b = true) (hp : parseTrans (b :: bs.take (field b 4 2 - 1)) = .ok ops)
  (hu : u = s.quiet.consume h (field b 4 2))
include hc hp hu

/-- A tag in flight from the same hopper is refused, without an acceptance number (06 R162). -/
theorem run_repeatedTag {y : Trans} (hf : (u.edit.flight.find? fun x => x.hopper == (h : Nat) && x.tag == (beginOf h b).tag) = some y) :
    ∃ t, exec (.transactionTaken h) s = .next t ∧ t.fab = u.fab ∧ t.edit.nextAcc = u.edit.nextAcc ∧
      (∃ x, t.edit.flight = u.edit.flight ++ [x] ∧ x.acc = none ∧ x.status = 7 ∧ x.detail = 0x16) := by
  refine ⟨_, exec_transactionTaken ho, ?_⟩
  rw [State.takeHead_repeated (s := s.quiet) hc hp (hu ▸ hf), ← hu]
  exact ⟨rfl, rfl, _, rfl, rfl, rfl, rfl⟩

/-- A transaction whose operations apply is taken: beside the fabric, the edits and the raw PM data of streams nothing changes (06 R161, R164). -/
theorem run_appliedTrans {page : List Entry}
    (hf : (u.edit.flight.find? fun x => x.hopper == (h : Nat) && x.tag == (beginOf h b).tag) = none) (hl : u.noLease = false)
    (ha : u.accept.2.applyOps u.edit.nextAcc 0 u.fab.shadow ops = .ok page) (hk : (beginOf h b).check = false) :
    ∃ t, exec (.transactionTaken h) s = .next t ∧ t.fab.shadow = page ∧ t.fab.active = s.fab.active ∧ t.edit.lastAcc = u.edit.nextAcc ∧
      t.edit.included = u.edit.included + 1 ∧ t.edit.lastHopper = h ∧
      (∃ x, t.edit.flight = u.edit.flight ++ [x] ∧ x.acc = some u.edit.nextAcc ∧ x.status = 0 ∧ x.client = (beginOf h b).client) ∧
      { t with fab := u.fab, edit := u.edit, pm.stream := u.pm.stream } = s.fixed u := by
  have hhead : s.quiet.takeHead h b bs = (u.accept.2.include u.edit.nextAcc page).putTrans (u.appliedTrans (beginOf h b) page) := by
    rw [State.takeHead_admits (s := s.quiet) hc hp (hu ▸ hf), ← hu, State.admitTrans_applied hl ha hk]
  obtain ⟨m, hm⟩ := u.accept.2.include_eq u.edit.nextAcc page
  have hactive : u.fab.active = s.fab.active := hu ▸ congrArg Fabric.active (s.quiet.consume_fab h (field b 4 2))
  refine ⟨_, exec_transactionTaken ho, ?_⟩
  rw [hhead, hm]
  exact ⟨rfl, hactive, rfl, rfl, rfl, ⟨_, rfl, rfl, rfl, rfl⟩, rfl⟩

end

/-- A completion is written to its completion hopper and counted by its result; pages, lanes, settings and lease stay (06 R164, R166). -/
theorem run_completion {s : State} {a : Nat} {x : Trans} {h : Nat} (hup : s.sup.up = true)
    (hf : s.edit.flight.find? (fun x => x.acc.getD 0xFFFFFFFF == a && !x.finished) = some x) (hh : s.completionHopper x = some h)
    (hr : s.hopRoom h 1 = true) (ho : (s.hop h).overflow = []) :
    ∃ t, exec (.transactionComplete a) s = .next t ∧
      (t.hop h).entries = (s.hop h).entries ++ [(true, completionEntry { x with journaled := true } s.stamp)] ∧
      (x.status ≠ 0 → t.ctr 0x4000 4 0 0 = (s.ctr 0x4000 4 0 0 + 1) % 4294967296) ∧
      (x.status = 0 → x.check = false → t.ctr 0x4000 3 0 0 = (s.ctr 0x4000 3 0 0 + 1) % 4294967296) ∧
      t.fab = s.fab ∧ t.lanes = s.lanes ∧ t.persist = s.persist ∧ t.lease = s.lease := by
  have hctr (n : Nat) (hn : n < 256) (v : Bytes) :
      ((s.quiet.landed x).postUnit h [v]).checkSealed.ctr 0x4000 n 0 0 = (s.quiet.landed x).ctr 0x4000 n 0 0 := by
    simp only [State.ctr, State.checkSealed_parts]
    exact State.postUnit_ctr (offHoppers_below (by decide) hn) ..
  refine ⟨_, rfl, ?_⟩
  rw [completeTrans_eq (s := s.quiet) hup hf hh hr]
  refine ⟨?_, fun hs => ?_, fun hs hk => ?_, ?_, ?_, ?_, ?_⟩
  · simp only [State.hop, State.fixed_frame, State.checkSealed_parts]
    exact State.landed_entries (s := s.quiet) hr ho _
  · exact (hctr 4 (by decide) _).trans (s.quiet.landed_failed hs)
  · exact (hctr 3 (by decide) _).trans (s.quiet.landed_applied hs hk)
  all_goals simp [State.landed_parts]

/-- Reverting makes the shadow page a copy of the active one, and starts the page copy (06 R168). -/
theorem run_revert {s : State} {rq : Rq} {arg : Byte} {x : Session} (h : Writes rq 0x4010 1 0 [arg] x s) (ha : s.edit.armed = none)
    (hf : s.edit.flight = []) :
    ∃ t, exec (.revertShadow rq arg) s = .next t ∧ Answered 2 (writeReq rq 0x4010 1 0 [arg]) 0 t ∧ t.fab.shadow = s.fab.active ∧
      t.fab.active = s.fab.active ∧ t.fab.copyBusy = true ∧ t.edit.included = 0 ∧ t.edit.lastIncl = 0xFFFFFFFF ∧ t.lanes = s.lanes ∧
      t.lease = s.lease ∧ (∀ e ∈ t.edit.journal, e ∈ s.edit.journal ∨ e.kind = 4) := by
  obtain ⟨r, hr, hans⟩ := run_writeOf_answers h rfl (by decide) (by decide) (by decide)
    (effRevert_idle (s := s.quiet.heard rq.session) (by simpa using ha) (by simpa using hf) x _) (by rw [State.reverted_mgmt])
  obtain ⟨-, hfab, hlease, hlanes, -⟩ := State.running_ext (s.quiet.heard rq.session).reverted_running
  obtain ⟨kfab, kedit, klease, klanes⟩ := hans.parts
  refine ⟨_, hr, hans.answered, ?_⟩
  simp only [id, State.fixed_frame, kfab, kedit, klease, klanes, hfab, hlease, hlanes, State.reverted_edit, State.heard_frame, State.quiet_frame,
    true_and]
  intro e he
  rw [State.journal_records] at he
  simp only [State.heard_frame, State.quiet_frame, List.mem_append, List.mem_singleton] at he
  exact he.imp id (congrArg Rec.kind)

/-- Settles O15: a transaction by what its head, its operations and its completion write, a revert by the state it makes, the page copy by its end. -/
theorem transactionsApplyAndTheShadowReverts : Obligations.TransactionsApplyAndTheShadowReverts := by
  unfold Obligations.TransactionsApplyAndTheShadowReverts
  refine ⟨fun s => ⟨?_, ?_, ?_, fun h hc => ?_, fun a x h hup hf hh hr ho => ?_⟩, fun s => ⟨fun rq arg x h ha hf => ?_, fun rq arg x a h ha => ?_, ?_⟩⟩
  · intro h b bs ops page u hup hcomp hkind htake hents hbegin hturn hc hp hu hf hl ha hk
    exact run_appliedTrans ⟨hup, hcomp, hkind, htake, hents, hbegin, hturn⟩ hc hp hu hf hl ha hk
  · intro h b bs hup hcomp hkind htake hents hbegin hturn hc
    exact run_badCount ⟨hup, hcomp, hkind, htake, hents, hbegin, hturn⟩ hc
  · intro h b bs ops u y hup hcomp hkind htake hents hbegin hturn hc hp hu hf
    exact run_repeatedTag ⟨hup, hcomp, hkind, htake, hents, hbegin, hturn⟩ hc hp hu hf
  · exact ⟨_, rfl, by rw [takeTrans_stopped (s := s.quiet) hc]; rfl⟩
  · exact run_completion hup hf hh hr ho
  · exact run_revert h ha hf
  · obtain ⟨t, ht, hans, hless⟩ := run_writeOf_refusal h rfl (by decide) (by decide)
      (effRevert_armed (s := s.quiet.heard rq.session) (by simpa using ha) x _) (show 2 ≠ 4 by decide)
    exact ⟨t, ht, hans, (congrArg State.fab hless :), (congrArg State.edit hless :)⟩
  · exact ⟨_, rfl, rfl⟩

end Sys2Proof.Machine
end

section
/-! PROOFS. Activations are armed (06 R171 to R173). -/

namespace Sys2Proof.Machine

/-! The arm record (06 Table 6-10). -/

/-- A number before another's bytes makes one number of all the bytes (00 R11). -/
theorem beBytes_append {n b : Nat} (h : b < 256 ^ n) (m a : Nat) : beBytes m a ++ beBytes n b = beBytes (m + n) (a * 256 ^ n + b) := by
  induction n generalizing b with
  | zero =>
    have hb : b = 0 := by simpa using h
    simp [beBytes, hb]
  | succ n ih =>
    rw [Nat.pow_succ] at h
    have hdiv : (a * 256 ^ (n + 1) + b) / 256 = a * 256 ^ n + b / 256 := by
      rw [Nat.pow_succ, ← Nat.mul_assoc, Nat.add_comm, Nat.add_mul_div_right _ _ (by decide), Nat.add_comm]
    have hmod : BitVec.ofNat 8 (a * 256 ^ (n + 1) + b) = BitVec.ofNat 8 b := by
      apply BitVec.eq_of_toNat_eq
      simp only [BitVec.toNat_ofNat, Nat.pow_succ, ← Nat.mul_assoc]
      omega
    rw [beBytes, ← List.append_assoc, ih (by omega), ← Nat.add_assoc, beBytes, hdiv, hmod]

/-- The fields of an arm record fit their places (06 Table 6-10). -/
structure ArmFits (r : ArmRec) : Prop where
  hopper : r.hopper < 8192
  client : r.client < 4294967296
  superframe : r.superframe < 18446744073709551616
  sfi : r.sfi ≤ 124
  seconds : r.seconds < 281474976710656
  nanoseconds : r.nanoseconds ≤ 999999999

theorem ArmFits.split {r : ArmRec} (h : ArmFits r) {mode : Nat} (hm : mode ≤ 2) {o : Obj} (ho : findObj 0x4100 1 = some o) :
    armOf (o.split (armBytes mode r)) = (mode, r) := by
  obtain ⟨hhop, hcl, hsup, hsfi, hsec, hns⟩ := h
  cases (Option.some.inj ho : _ = o)
  have hsplit : splitFields [1, 2, 4, 8, 1, 10] (armBytes mode r) =
      [mode, r.hopper, r.client, r.superframe, r.sfi, r.seconds * 4294967296 + r.nanoseconds] := by
    have htime : beBytes 6 r.seconds ++ beBytes 4 r.nanoseconds = beBytes 10 (r.seconds * 4294967296 + r.nanoseconds) :=
      beBytes_append (by omega) 6 r.seconds
    have htake (n v : Nat) : (beBytes n v).take n = beBytes n v := List.take_of_length_le (by simp)
    simp only [armBytes, List.append_assoc, htime]
    simp [splitFields, htake, beNat_beBytes, show mode < 256 by omega, show r.hopper < 65536 by omega, hcl, hsup, show r.sfi < 256 by omega,
      show r.seconds * 4294967296 + r.nanoseconds < 1208925819614629174706176 by omega]
  have hdiv : (r.seconds * 4294967296 + r.nanoseconds) / 4294967296 = r.seconds := by omega
  have hmod : (r.seconds * 4294967296 + r.nanoseconds) % 4294967296 = r.nanoseconds := by omega
  show armOf (splitFields [1, 2, 4, 8, 1, 10] (armBytes mode r)) = _
  rw [hsplit]
  simp only [armOf, List.getD_cons_succ, List.getD_cons_zero, List.headD_cons, hdiv, hmod]

theorem ArmFits.effArmWrite_eq {r : ArmRec} (h : ArmFits r) {mode : Nat} (hm : mode ≤ 2) {o : Obj} (ho : findObj 0x4100 1 = some o) (x : Session)
    (s : State) : effArmWrite x (o.split (armBytes mode r)) s = effArm mode r s := by
  rw [effArmWrite, h.split hm ho]

/-! The write of 4100:01. -/

/-- The count of the boundary that an arm record of mode 1 or 2 names (06 R171). -/
def State.armCount (s : State) (mode : Nat) (r : ArmRec) : Nat := s.fab.frameNo + (armTarget mode r - s.frameNow)

/-- The activation that an arm record makes, before its seal point (06 R171). -/
def State.toArm (s : State) (mode : Nat) (r : ArmRec) : Armed :=
  { number := s.edit.nextAct, mode := mode, hopper := r.hopper, client := r.client, state := 1
    target := if mode = 0 then none else some (s.armCount mode r)
    superframe := if mode = 0 then 0 else (identOf (armTarget mode r)).1, sfi := if mode = 0 then 0 else (identOf (armTarget mode r)).2.1
    mfi := if mode = 0 then 0 else (identOf (armTarget mode r)).2.2 }

/-- The state with an activation armed, and the next number past it (06 R171). -/
def State.arm (s : State) (a : Armed) : State := { s with edit.armed := some a, edit.nextAct := (s.edit.nextAct + 1) % 4294967296 }

/-- An arm record meets every condition but those of its boundary (06 R171, R172). -/
structure State.MayArm (s : State) (mode : Nat) (r : ArmRec) : Prop where
  fields : armOk mode r = true
  hopper : r.hopper < 8192
  kind : s.hopKind r.hopper = 2
  free : s.edit.armed = none
  lease : s.noLease = false
  clock : mode = 2 → s.tod.ever = true ∧ s.tod.tjr = false ∧ s.tim.aligned = true

section

variable {s : State} {mode : Nat} {r : ArmRec} (h : s.MayArm mode r)
include h

theorem State.MayArm.heard (i : Nat) : (s.quiet.heard i).MayArm mode r := by
  obtain ⟨hok, hhop, hkind, hfree, hlease, hclock⟩ := h
  refine ⟨hok, hhop, ?_, by simpa using hfree, ?_, by simpa using hclock⟩
  · simpa [State.hopKind] using hkind
  · simpa [State.noLease, State.waking] using hlease

/-- Mode 0 is armed and its seal point is reached at once (06 R171, R173). -/
theorem State.MayArm.effArm_next (hm : mode = 0) : effArm mode r s = ok (s.arm (s.toArm mode r)).sealNow := by
  obtain ⟨hok, hhop, hkind, hfree, hlease, -⟩ := h
  subst hm
  simp [effArm, hok, hkind, hfree, hlease, Nat.not_le.mpr hhop, State.toArm, State.arm]

/-- Modes 1 and 2 are armed before their seal point where the boundary lies more than 50 ms and at most 24 h ahead (06 R171 to R173). -/
theorem State.MayArm.effArm_boundary (hm : mode ≠ 0) (hf : s.frameNow < armTarget mode r) (hlo : 50000000 < s.untilBoundary (s.armCount mode r))
    (hhi : s.untilBoundary (s.armCount mode r) ≤ 86400000000000) : effArm mode r s = ok (s.arm (s.toArm mode r)) := by
  obtain ⟨hok, hhop, hkind, hfree, hlease, hclock⟩ := h
  have hever : ¬ (mode = 2 ∧ s.tod.ever = false) := fun ⟨h2, he⟩ => by simp [(hclock h2).1] at he
  have htjr : ¬ (mode = 2 ∧ s.tod.tjr = true) := fun ⟨h2, ht⟩ => by simp [(hclock h2).2.1] at ht
  have haligned : ¬ (mode = 2 ∧ s.tim.aligned = false) := fun ⟨h2, ha⟩ => by simp [(hclock h2).2.2] at ha
  unfold State.armCount at hlo hhi
  have hnear : ¬ (mode ≠ 0 ∧ (armTarget mode r ≤ s.frameNow ∨ s.untilBoundary (s.fab.frameNo + (armTarget mode r - s.frameNow)) < 4000000)) := by omega
  have hfar : ¬ (mode ≠ 0 ∧ 86400000000000 < s.untilBoundary (s.fab.frameNo + (armTarget mode r - s.frameNow))) := by omega
  have hseal : ¬ (mode = 0 ∨ s.untilBoundary (s.fab.frameNo + (armTarget mode r - s.frameNow)) ≤ 50000000) := by omega
  have hhopper : ¬ (8192 ≤ r.hopper ∨ s.hopKind r.hopper ≠ 2) := by omega
  simp only [effArm, hok, Bool.not_true, Bool.false_eq_true, if_false, hhopper, hfree, hlease, hever, htjr, haligned, hnear, hfar, hseal]
  rfl

/-- A boundary that is not ahead is refused (06 R172). -/
theorem State.MayArm.effArm_past (hm : mode = 1) (hf : armTarget mode r ≤ s.frameNow) : effArm mode r s = .refuse (refusal stState 0x24) := by
  obtain ⟨hok, hhop, hkind, hfree, hlease, -⟩ := h
  subst hm
  simp [effArm, hok, hkind, hfree, hlease, Nat.not_le.mpr hhop, hf]

end

/-- All but the armed activation and the next activation number. -/
def State.lessArming (s : State) : State := { s.lessArmed with edit.nextAct := 0 }

theorem State.arm_lessArming (s : State) (a : Armed) : (s.arm a).lessArming = s.lessArming := rfl

/-- Mode 0, sealed at once: with nothing in flight it is committed (06 R171, R173). -/
theorem State.arm_sealNow (s : State) {a : Armed} (h0 : a.mode = 0) (h1 : a.state = 1) :
    ∃ b, (s.arm a).sealNow.edit.armed = some b ∧ b.number = a.number ∧ b.mode = 0 ∧ b.hopper = a.hopper ∧ b.client = a.client ∧
      b.state = (if s.edit.flight = [] then 4 else 2) ∧ (s.arm a).sealNow.edit.nextAct = (s.edit.nextAct + 1) % 4294967296 ∧
      (s.arm a).sealNow.lessArming = s.lessArming := by
  by_cases hf : s.edit.flight = []
  · rw [State.sealNow_sealed (s := s.arm a) rfl h1 hf, if_pos h0]
    exact ⟨_, rfl, rfl, h0, rfl, rfl, (if_pos hf).symm, rfl, rfl⟩
  · rw [State.sealNow_inFlight (s := s.arm a) rfl h1 hf]
    exact ⟨_, rfl, rfl, h0, rfl, rfl, (if_neg hf).symm, rfl, rfl⟩

section

variable {s : State} {rq : Rq} {x : Session} {mode : Nat} {r : ArmRec} (hr : ArmFits r) (hm : mode ≤ 2) (h : Writes rq 0x4100 1 0 (armBytes mode r) x s)
include hr hm h

/-- An arm record that its effect takes changes beside the armed activation and the next number what answers change (06 R171). -/
theorem run_arm {u : State} (he : effArm mode r (s.quiet.heard rq.session) = ok u) (hu : u.lessArming = (s.quiet.heard rq.session).lessArming) :
    ∃ t, run (writeOf rq 0x4100 1 0 (armBytes mode r) effArmWrite) s = .next t ∧ Answered 2 (writeReq rq 0x4100 1 0 (armBytes mode r)) 0 t ∧
      t.edit = u.edit ∧ { t.lessAnswers with edit.armed := s.edit.armed, edit.nextAct := s.edit.nextAct } = s.lessAnswers := by
  obtain ⟨t, ht, hans⟩ := run_writeOf_answers h rfl (by decide) (by decide) (by decide) ((hr.effArmWrite_eq hm rfl ..).trans he) (congrArg (fun w : State => w.mgmt.sessions) hu :)
  refine ⟨_, ht, hans.answered, hans.parts.2.1, ?_⟩
  have hless : t.lessAnswers.lessArming = s.quiet.lessAnswers.lessArming :=
    calc t.lessAnswers.lessArming
      _ = u.lessAnswers.lessArming := congrArg State.lessArming hans.less
      _ = (s.quiet.heard rq.session).lessAnswers.lessArming := (congrArg State.lessAnswers hu :)
      _ = s.quiet.lessAnswers.lessArming := by rw [State.heard_lessAnswers]
  exact congrArg (fun w => { s.fixed w with edit.armed := s.edit.armed, edit.nextAct := s.edit.nextAct }) hless

/-- An activation of mode 1 or 2 waits for its seal point (06 R171 to R173). -/
theorem run_armBoundary (hm0 : mode ≠ 0) (ha : s.MayArm mode r) (hf : s.frameNow < armTarget mode r)
    (hlo : 50000000 < s.untilBoundary (s.armCount mode r)) (hhi : s.untilBoundary (s.armCount mode r) ≤ 86400000000000) :
    ∃ t a, run (writeOf rq 0x4100 1 0 (armBytes mode r) effArmWrite) s = .next t ∧ Answered 2 (writeReq rq 0x4100 1 0 (armBytes mode r)) 0 t ∧
      t.edit.armed = some a ∧ a.number = s.edit.nextAct ∧ a.mode = mode ∧ a.hopper = r.hopper ∧ a.client = r.client ∧ a.state = 1 ∧
      a.target = some (s.armCount mode r) ∧ t.edit.nextAct = (s.edit.nextAct + 1) % 4294967296 ∧
      { t.lessAnswers with edit.armed := s.edit.armed, edit.nextAct := s.edit.nextAct } = s.lessAnswers := by
  have hframe : (s.quiet.heard rq.session).frameNow = s.frameNow := by simp [State.frameNow]
  have hcount : (s.quiet.heard rq.session).armCount mode r = s.armCount mode r := by simp [State.armCount, hframe]
  have huntil (c : Nat) : (s.quiet.heard rq.session).untilBoundary c = s.untilBoundary c := by simp [State.untilBoundary, State.sinceBoundary]
  obtain ⟨t, ht, hans, hedit, hless⟩ := run_arm hr hm h
    ((ha.heard rq.session).effArm_boundary hm0 (by rwa [hframe]) (by rwa [hcount, huntil]) (by rwa [hcount, huntil])) (State.arm_lessArming ..)
  refine ⟨t, (s.quiet.heard rq.session).toArm mode r, ht, hans, ?_, ?_, rfl, rfl, rfl, rfl, ?_, ?_, hless⟩
  · rw [hedit, State.arm]
  · simp [State.toArm]
  · simp [State.toArm, hm0, hcount]
  · simp [hedit, State.arm]

end

/-- An activation of mode 0 seals at once, and is committed with nothing in flight (06 R171, R173). -/
theorem run_armNext {s : State} {rq : Rq} {x : Session} {r : ArmRec} (hr : ArmFits r) (h : Writes rq 0x4100 1 0 (armBytes 0 r) x s) (ha : s.MayArm 0 r) :
    ∃ t a, exec (.armNextFrame rq r) s = .next t ∧ Answered 2 (writeReq rq 0x4100 1 0 (armBytes 0 r)) 0 t ∧ t.edit.armed = some a ∧
      a.number = s.edit.nextAct ∧ a.mode = 0 ∧ a.hopper = r.hopper ∧ a.client = r.client ∧ a.state = (if s.edit.flight = [] then 4 else 2) ∧
      t.edit.nextAct = (s.edit.nextAct + 1) % 4294967296 ∧
      { t.lessAnswers with edit.armed := s.edit.armed, edit.nextAct := s.edit.nextAct } = s.lessAnswers := by
  obtain ⟨b, harm, hnum, hmode, hhop, hcl, hst, hnext, hu⟩ :=
    (s.quiet.heard rq.session).arm_sealNow (a := (s.quiet.heard rq.session).toArm 0 r) rfl rfl
  obtain ⟨t, ht, hans, hedit, hless⟩ := run_arm hr (by decide) h ((ha.heard rq.session).effArm_next rfl) hu
  have hedit' : (s.quiet.heard rq.session).edit = s.edit := by simp
  rw [hedit'] at hst hnext
  exact ⟨t, b, ht, hans, (congrArg Edit.armed hedit).trans harm, hnum.trans (congrArg Edit.nextAct hedit'), hmode, hhop, hcl, hst,
    (congrArg Edit.nextAct hedit).trans hnext, hless⟩

/-- Settles O16: each mode by the activation that its arm record makes, and a boundary that is past by its refusal. -/
theorem activationsAreArmed : Obligations.ActivationsAreArmed := by
  unfold Obligations.ActivationsAreArmed
  intro s rq x r hhop hcl hsup hsfi hsec hns hkind hfree hlease
  have hr : ArmFits r := ⟨hhop, hcl, hsup, hsfi, hsec, hns⟩
  refine ⟨fun hn hs h0 h1 h => ?_, fun h0 h1 h hf hlo hhi => ?_, fun hn hs h hever htjr hal hf hlo hhi => ?_, fun h0 h1 h hf => ?_⟩
  · have hok : armOk 0 r = true := by simp [armOk, hn, hs, h0, h1]
    exact run_armNext hr h ⟨hok, hhop, hkind, hfree, hlease, nofun⟩
  · have hok : armOk 1 r = true := by simp [armOk, hsfi, h0, h1]
    exact run_armBoundary hr (by decide) h (by decide) ⟨hok, hhop, hkind, hfree, hlease, nofun⟩ hf hlo hhi
  · have hok : armOk 2 r = true := by simp [armOk, hn, hs, hns]
    exact run_armBoundary hr (by decide) h (by decide) ⟨hok, hhop, hkind, hfree, hlease, fun _ => ⟨hever, htjr, hal⟩⟩ hf hlo hhi
  · have hok : armOk 1 r = true := by simp [armOk, hsfi, h0, h1]
    have hpast := (State.MayArm.heard (s := s) ⟨hok, hhop, hkind, hfree, hlease, nofun⟩ rq.session).effArm_past rfl (by simpa [State.frameNow] using hf)
    obtain ⟨t, ht, hans, hless⟩ := run_writeOf_refusal h rfl (by decide) (by decide)
      ((hr.effArmWrite_eq (by decide) rfl ..).trans hpast) (by decide)
    exact ⟨t, ht, hans, (congrArg State.edit hless :)⟩

end Sys2Proof.Machine
end

section
/-! PROOFS. Activations seal, commit, execute and are cancelled (06 R173 to R177). -/

namespace Sys2Proof.Machine

/-! The seal point and the commit point (06 R173). -/

section

variable {s : State} {a : Armed} (h : s.edit.armed = some a)
include h

/-- Within 50 ms of its target an activation that names one is sealed, or begins to (06 R173). -/
theorem sealPoint_eq {c : Nat} (h1 : a.state = 1) (hc : a.target = some c) (hd : s.untilBoundary c ≤ 50000000) (hm : a.mode ≠ 0) :
    sealPoint s = s.withArmed (if s.edit.flight = [] then { a with state := 3, sealedAt := s.fab.frameNo } else { a with state := 2 }) := by
  have hpoint : sealPoint s = s.sealNow := by simp [sealPoint, h, State.untilTarget, hc, hd]
  rw [hpoint]
  split
  next hf => rw [State.sealNow_sealed h h1 hf, if_neg hm]
  next hf => exact State.sealNow_inFlight h h1 hf

/-- Within 1 ms of its target a sealed activation is committed, where a holder is admitted and a mode 2 has its frame phase (06 R173). -/
theorem commitPoint_eq {c : Nat} (h3 : a.state = 3) (hc : a.target = some c) (hd : s.untilBoundary c ≤ 1000000)
    (hal : a.mode = 2 → s.tim.aligned = true) (hadm : s.lease.admitted = true) : commitPoint s = s.withArmed { a with state := 4 } := by
  have hseal : s.sealNow = s := State.sealNow_past h (by rw [h3]; decide)
  have haligned : ¬ (a.mode = 2 ∧ s.tim.aligned = false) := fun ⟨h2, hf⟩ => by simp [hal h2] at hf
  simp [commitPoint, h, State.untilTarget, hc, hd, h3, hseal, haligned, hadm, State.modArmed, State.withArmed]

/-! Execution (06 R174 to R176). -/

/-- At its target boundary a committed activation executes, where a holder is admitted (06 R174). -/
theorem State.dueActivation_executes {n c : Nat} (h4 : a.state = 4) (hc : a.target = some n) (hadm : s.lease.admitted = true) :
    s.dueActivation n c = s.executeArmed c := by
  simp [State.dueActivation, h, h4, hc, hadm]

end

/-- The shadow page of s is active, nothing is armed, the page copy runs, and the page is that of activation n, of k that have executed. -/
structure State.Swapped (s : State) (n k : Nat) (t : State) : Prop where
  active : t.fab.active = s.fab.shadow
  shadow : t.fab.shadow = s.fab.shadow
  armed : t.edit.armed = none
  number : t.edit.activeNo = n
  included : t.edit.included = 0
  copy : t.fab.copyBusy = true
  executed : t.ctr 0x4100 5 0 0 = k
  lease : t.lease = s.lease

section

variable {s t u : State} {n k : Nat} (h : s.Swapped n k t)
include h

theorem State.Swapped.of_mapPart (hp : u.mapPart = t.mapPart) : s.Swapped n k u := by
  obtain ⟨hfab, hedit, hlease, hctr⟩ := State.mapPart_ext hp
  obtain ⟨hact, hsh, harm, hnum, hinc, hcopy, hexec, hl⟩ := h
  exact ⟨hfab ▸ hact, hfab ▸ hsh, hedit ▸ harm, hedit ▸ hnum, hedit ▸ hinc, hfab ▸ hcopy, hctr.trans hexec, hlease.trans hl⟩

theorem State.Swapped.count : s.Swapped n ((k + 1) % 4294967296) (t.count 0x4100 5 0 0) :=
  ⟨h.active, h.shadow, h.armed, h.number, h.included, h.copy, by rw [State.ctr_count, h.executed], h.lease⟩

theorem State.Swapped.activationOut (a : Armed) (v : Bytes) : s.Swapped n k (t.activationOut a v) := by
  obtain ⟨hfab, hedit, hlease, -⟩ := t.activationOut_frame a v
  have hctr := State.activationOut_ctr (offHoppers_below (by decide) (by decide) : OffHoppers 0x4100 5 0 0) t a v
  obtain ⟨hact, hsh, harm, hnum, hinc, hcopy, hexec, hl⟩ := h
  exact ⟨hfab ▸ hact, hfab ▸ hsh, hedit ▸ harm, hedit ▸ hnum, hedit ▸ hinc, hfab ▸ hcopy, hctr.trans hexec, hlease.trans hl⟩

end

/-- The shadow page becomes the active one, in force with its pairs and streams (06 R174; 07 R185; 11 R281). -/
theorem State.swapPages_swapped (s : State) (n : Nat) : s.Swapped n (s.ctr 0x4100 5 0 0) (s.swapPages n) := by
  have hclear (w : State) (i b m e : Nat) : (w.clearIf i b m e).mapPart = w.mapPart := by
    simp [State.mapPart, State.clearIf_ctr (offHoppers_below (by decide) (by decide) : OffHoppers 0x4100 5 0 0)]
  have hj := s.journal_lessJournal 3 {} n 0
  have hshadow : (s.journal 3 {} n 0).fab.shadow = s.fab.shadow := (congrArg (fun w : State => w.fab.shadow) hj :)
  have hlease : (s.journal 3 {} n 0).lease = s.lease := (congrArg State.lease hj :)
  have hctr : (s.journal 3 {} n 0).ctr 0x4100 5 0 0 = s.ctr 0x4100 5 0 0 := (congrArg (fun w : State => w.ctr 0x4100 5 0 0) hj :)
  simp only [State.swapPages]
  refine State.Swapped.of_mapPart ?_
    ((State.reloadStreams_mapPart _).trans (State.each_keep State.mapPart _ _ (fun p w => (hclear ..).trans (hclear ..)) _))
  exact ⟨hshadow, hshadow, rfl, rfl, rfl, rfl, hctr, hlease⟩

theorem State.abandonMap_mapPart (s : State) : s.abandonMap.mapPart = s.mapPart := by
  have hedit : s.abandonMap.edit = s.edit := by
    unfold State.abandonMap
    split <;> simp
  simp [State.mapPart, hedit, State.abandonMap_ctr (show ctrKey 0x4100 5 0 0 ≠ ctrKey 0xA020 2 8 0 by decide)]

theorem State.mapDue_mapPart (s : State) : s.mapDue.mapPart = s.mapPart := by
  rw [State.mapDue]
  split
  · rfl
  · exact State.noteCond_mapPart ..

/-- An activation that executes turns the pages and is counted (06 R174, R176). -/
theorem State.executeArmed_swapped {s : State} {a : Armed} (h : s.edit.armed = some a) (c : Nat) :
    s.Swapped a.number ((s.ctr 0x4100 5 0 0 + 1) % 4294967296) (s.executeArmed c) := by
  simp only [State.executeArmed, h]
  refine State.Swapped.activationOut (State.Swapped.of_mapPart (s.swapPages_swapped a.number).count ?_) ..
  rw [State.noteCond_mapPart, State.mapDue_mapPart, State.abandonMap_mapPart]

/-- At its target boundary a committed activation turns the pages, where a holder is admitted (06 R174 to R176). -/
theorem activation_swapped {s : State} {a : Armed} (h : s.edit.armed = some a) (h4 : a.state = 4) (hc : a.target = some (s.fab.frameNo + 1))
    (hadm : s.lease.admitted = true) : s.Swapped a.number ((s.ctr 0x4100 5 0 0 + 1) % 4294967296) (activation s) := by
  have hswap := State.executeArmed_swapped h s.tod.counter
  rw [activation, State.dueActivation_executes h h4 hc hadm]
  split
  · exact hswap.of_mapPart rfl
  · exact hswap

/-! Cancelling (06 R177). -/

theorem effCancel_ok {s : State} {a : Armed} (h : s.edit.armed = some a) (h4 : a.state ≠ 4) (x : Session) :
    effCancel x [a.number] s = ok (s.cancelArmed stOk 0x29) := by
  simp [effCancel, h, h4]

/-- A cancelled activation is counted and reported, and is armed no more (06 R176, R177). -/
theorem State.cancelArmed_spec {s : State} {a : Armed} (h : s.edit.armed = some a) (status detail : Nat) :
    (s.cancelArmed status detail).edit.armed = none ∧
    (s.cancelArmed status detail).ctr 0x4100 6 0 0 = (s.ctr 0x4100 6 0 0 + 1) % 4294967296 ∧
    (s.cancelArmed status detail).fab = s.fab ∧ (s.cancelArmed status detail).persist = s.persist ∧
    ∀ i, ((s.cancelArmed status detail).session? i).isSome = (s.session? i).isSome := by
  have hoff : OffHoppers 0x4100 6 0 0 := offHoppers_below (by decide) (by decide)
  simp only [State.cancelArmed, h, State.activationOut_frame, State.activationOut_ctr hoff, State.activationOut_opens, State.ctr_count]
  exact ⟨rfl, rfl, rfl, rfl, fun _ => rfl⟩

theorem cancelObj_split {o : Obj} (ho : findObj 0x4100 2 = some o) {n : Nat} (hn : n < 4294967296) : o.split (beBytes 4 n) = [n] := by
  cases (Option.some.inj ho : _ = o)
  simp [Obj.split, splitFields, List.take_of_length_le, beNat_beBytes, hn]

/-- Before its commit point an activation is cancelled by a write of its number (06 R177). -/
theorem run_cancel {s : State} {a : Armed} (h : s.edit.armed = some a) {rq : Rq} {x : Session} (hn : a.number < 4294967296)
    (hw : Writes rq 0x4100 2 0 (beBytes 4 a.number) x s) (h4 : a.state ≠ 4) :
    ∃ t, exec (.cancelActivation rq a.number) s = .next t ∧ Answered 2 (writeReq rq 0x4100 2 0 (beBytes 4 a.number)) 0 t ∧
      t.edit.armed = none ∧ t.ctr 0x4100 6 0 0 = (s.ctr 0x4100 6 0 0 + 1) % 4294967296 ∧ t.fab = s.fab ∧ t.lanes = s.lanes ∧
      t.persist = s.persist := by
  have harm : (s.quiet.heard rq.session).edit.armed = some a := by simpa using h
  obtain ⟨hnone, hctr, hfab, hpersist, hopens⟩ := State.cancelArmed_spec harm stOk 0x29
  have hopen : (((s.quiet.heard rq.session).cancelArmed stOk 0x29).session? rq.session).isSome = true :=
    (hopens _).trans (congrArg Option.isSome (TakenUp.session (s := s.quiet) hw.1))
  have he (o : Obj) (ho : findObj 0x4100 2 = some o) : effCancel x (o.split (beBytes 4 a.number)) (s.quiet.heard rq.session) = ok _ :=
    (congrArg (effCancel x · _) (cancelObj_split ho hn)).trans (effCancel_ok harm h4 x)
  obtain ⟨t, ht, hans⟩ := run_writeOf_answeredAfter hw rfl (by decide) (by decide) (by decide) (he _ rfl) hopen
  obtain ⟨kedit, kctr⟩ := run_writeOf_edits hw rfl (by decide) (by decide) (by decide) (he _ rfl) ht
  refine ⟨t, ht, hans.answered, (congrArg Edit.armed kedit).trans hnone, (kctr ..).trans (hctr.trans ?_), hans.fab.trans (hfab.trans ?_),
    hans.lanes.trans ?_, hans.persist.trans (hpersist.trans ?_)⟩
  all_goals simp

/-- Settles O17: the two points by the armed activation they leave, the target by the pages turned, the cancellation by what it reports. -/
theorem activationsSealCommitAndExecute : Obligations.ActivationsSealCommitAndExecute := by
  unfold Obligations.ActivationsSealCommitAndExecute
  intro s a h
  refine ⟨fun c h1 hc hd hm => ?_, fun c h3 hc hd hal hadm => ?_, fun h4 hc hadm => ?_, fun rq x hn hw h4 => run_cancel h hn hw h4⟩
  · refine ⟨_, rfl, ?_⟩
    rw [sealPoint_eq (s := s.quiet) h h1 hc hd hm]
    exact ⟨rfl, rfl⟩
  · refine ⟨_, rfl, ?_⟩
    rw [commitPoint_eq (s := s.quiet) h h3 hc hd hal hadm]
    exact ⟨rfl, rfl⟩
  · obtain ⟨hact, hsh, harm, hnum, hinc, hcopy, hexec, hlease⟩ := activation_swapped (s := s.quiet) h h4 hc hadm
    exact ⟨_, rfl, hact, hsh, harm, hnum, hinc, hcopy, hexec, activation_lanes .., hlease⟩

end Sys2Proof.Machine
end

section
/-! PROOFS. Tables that a list of changes makes, the parts that a heard request and its answer leave alone, and what is read of a pair (07 R182, R202;
14 R358). -/

namespace Sys2Proof.Machine

/-! Tables. -/

section

variable {α : Type} {d : α}

/-- A canonical table lists what its keys read as (log entry 8). -/
theorem tget_of_mem {t : Tab α} (h : twf d t) {e : Nat × α} (he : e ∈ t) : tget d t e.1 = e.2 := by
  obtain ⟨hp, -⟩ := h
  induction t with
  | nil => simp at he
  | cons x t ih =>
    obtain ⟨hx, ht⟩ := List.pairwise_cons.mp hp
    obtain ⟨k, v⟩ := x
    rcases List.mem_cons.mp he with rfl | he
    · simp [tget]
    · have hne : e.1 ≠ k := (hx e he).ne'
      simp only [tget, hne, if_false]
      exact ih he ht

/-- A key that reads as another value than an unlisted one is listed. -/
theorem mem_of_tget_ne {t : Tab α} {n : Nat} (h : tget d t n ≠ d) : (n, tget d t n) ∈ t := by
  induction t with
  | nil => simp [tget] at h
  | cons x t ih =>
    obtain ⟨k, v⟩ := x
    by_cases hk : n = k
    · simp [tget, hk]
    · simp only [tget, hk, if_false] at h ⊢
      exact List.mem_cons_of_mem _ (ih h)

/-- The keys of a canonical table are listed once each. -/
theorem twf.nodup_keys {t : Tab α} (h : twf d t) : (t.map Prod.fst).Nodup := by
  rw [List.Nodup, List.pairwise_map]
  exact h.1.imp fun hlt => hlt.ne

/-- A change that is made once or more for each of several keys, and made twice is made once: those keys have it, and no other key. -/
theorem tget_foldl_tmod [DecidableEq α] {β : Type} {key : β → Nat} {g : β → α → α} {f : α → α} {i : Nat} {as : List β}
    (hg : ∀ a ∈ as, key a = i → g a = f) (hf : ∀ x, f (f x) = f x) (t : Tab α) :
    tget d (as.foldl (fun t a => tmod d t (key a) (g a)) t) i = if ∃ a ∈ as, key a = i then f (tget d t i) else tget d t i := by
  induction as generalizing t with
  | nil => simp
  | cons a as ih =>
    rw [List.foldl_cons, ih (fun b hb => hg b (List.mem_cons_of_mem a hb)), tget_tmod]
    by_cases ha : key a = i
    · simp [ha, hg a List.mem_cons_self ha, hf]
    · simp [ha, Ne.symm ha]

end

/-! Writes. -/

/-- The field of a U8 value (14 Table 14-10). -/
theorem splitFields_u8_of_lt {n : Nat} (h : n < 256) : splitFields [1] (u8 n) = [n] := by rw [splitFields_u8, Nat.mod_eq_of_lt h]

/-- When a session was last heard is part of its entry in the table of sessions, and of nothing else (14 R354). -/
theorem State.heard_elim {P : State → Prop} (s : State) (i : Nat) (h : ∀ m, P { s with mgmt.sessions := m }) : P (s.heard i) := by
  unfold State.heard State.modSession
  split
  · exact h _
  · exact h _

/-- The answer to a write changes what its effect changes of the state in which it was heard, and what answers change (14 R358, R364). -/
theorem AnswersWith.less_of_heard {q : Req} {status i : Nat} {s r z : State} {F : State → State} (M : State → State)
    (ha : AnswersWith q status (F (s.heard i)) r) (hM : ∀ m, M (F { s with mgmt.sessions := m }).lessAnswers = z) : M r.lessAnswers = z :=
  (congrArg M ha.less).trans (s.heard_elim (P := fun w => M (F w).lessAnswers = z) i hM)

/-! Pairs. -/

/-- A pair that is written is read back, and no other is (07 R182). -/
theorem State.pair_modPair (s : State) (p k : Nat) (f : Pair → Pair) : (s.modPair p f).pair k = if k = p then f (s.pair p) else s.pair k :=
  tget_tmod ..

@[simp] theorem State.pair_count (s : State) (i b f e k : Nat) : (s.count i b f e).pair k = s.pair k := rfl

theorem State.pair_of_prot {s t : State} (h : t.prot = s.prot) (k : Nat) : t.pair k = s.pair k := by
  rw [State.pair, State.pair, h]

end Sys2Proof.Machine
end

section
/-! PROOFS. Pairs are evaluated, and their timers end (07 R187, R190, R191, R193; 13 R328). -/

namespace Sys2Proof.Machine

/-! The hold-off (07 R187). -/

section

variable {s : State} {p : LaneId}

theorem holdOffEnd_stopped (h : s.sup.up = false ∨ s.cogServes p = false) (side : PairSide) : holdOffEnd p side s = s := by
  rcases h with h | h <;> simp [holdOffEnd, h]

theorem holdOffEnd_working {b : Nat} (hup : s.sup.up = true) (hc : s.cogServes p = true) (hb : (s.pair p).holdW = some b)
    (ho : s.over b (s.cfg 0x3800 4 p * 100000000) = true) :
    holdOffEnd p .working s = s.modPair p fun x => { x with holdW := none, sfW := s.portFails p, condW := s.portFails p } := by
  simp [holdOffEnd, hup, hc, hb, ho]

theorem holdOffEnd_protect {b : Nat} (hup : s.sup.up = true) (hc : s.cogServes p = true) (hb : (s.pair p).holdP = some b)
    (ho : s.over b (s.cfg 0x3800 4 p * 100000000) = true) :
    holdOffEnd p .protect s = s.modPair p fun x =>
      { x with holdP := none, sfP := s.portFails x.protect, condP := s.portFails x.protect } := by
  simp [holdOffEnd, hup, hc, hb, ho]

end

/-! The evaluation (07 R190, R191). -/

/-- All but what an evaluation of pairs writes: the pairs, and the counts of their switches. -/
def State.lessPairs (s : State) : State := { s with prot.pairs := [], cnt := [] }

theorem State.restore_pairs {s t : State} (h : t.lessPairs = s.lessPairs) : { t with prot.pairs := s.prot.pairs, cnt := s.cnt } = s :=
  congrArg (fun w : State => { w with prot.pairs := s.prot.pairs, cnt := s.cnt }) h

/-- What an evaluation makes of a pair does not depend on the other pairs (07 R190). -/
theorem State.evalPair_of_lessPairs {s t : State} (h : t.lessPairs = s.lessPairs) (p : Nat) (x : Pair) : t.evalPair p x = s.evalPair p x :=
  (congrArg (fun w : State => w.evalPair p x) h :)

theorem State.runPair_lessPairs (s : State) (p : Nat) : (s.runPair p).lessPairs = s.lessPairs := by
  simp only [State.runPair]
  split
  · rfl
  · rfl

theorem State.pair_runPair (s : State) (p k : Nat) : (s.runPair p).pair k = if k = p then s.evalPair p (s.pair p) else s.pair k := by
  simp only [State.runPair]
  split
  · rw [State.pair_count, State.pair_modPair]
  · rw [State.pair_modPair]

/-- Several pairs, each evaluated once (07 R190). -/
theorem State.pair_eachRunPair {ps : List Nat} (hn : ps.Nodup) (s : State) (k : Nat) :
    (s.each ps fun p s => s.runPair p).pair k = if k ∈ ps then s.evalPair k (s.pair k) else s.pair k := by
  induction ps generalizing s with
  | nil => rfl
  | cons p ps ih =>
    obtain ⟨hp, hn⟩ := List.nodup_cons.mp hn
    have hcons : (s.each (p :: ps) fun p s => s.runPair p) = (s.runPair p).each ps fun p s => s.runPair p := rfl
    rw [hcons, ih hn, State.evalPair_of_lessPairs (s.runPair_lessPairs p), State.pair_runPair]
    by_cases hk : k = p
    · simp [hk, hp]
    · simp [hk]

/-- The pairs in force are those that name a protect port (07 R185). -/
theorem State.mem_inForce {s : State} (h : twf {} s.prot.pairs) {k : Nat} : k ∈ s.inForce.map Prod.fst ↔ (s.pair k).protect ≠ 255 := by
  simp only [State.inForce, List.mem_map, List.mem_filter, bne_iff_ne]
  constructor
  · rintro ⟨e, ⟨he, hp⟩, rfl⟩
    rwa [State.pair, tget_of_mem h he]
  · intro hp
    have hd : s.pair k ≠ {} := fun hd => hp (by rw [hd])
    exact ⟨_, ⟨mem_of_tget_ne hd, hp⟩, rfl⟩

theorem State.evalPairs_lessPairs (s : State) : (evalPairs s).lessPairs = s.lessPairs := by
  unfold evalPairs
  split
  · exact State.each_keep State.lessPairs _ _ (fun p s => s.runPair_lessPairs p) s
  · rfl

/-- Every pair in force whose cog runs is evaluated, in a frame whose count is a multiple of 8 (07 R190; 13 R328). -/
theorem State.pair_evalPairs {s : State} (h : twf {} s.prot.pairs) (hup : s.sup.up = true) (h8 : s.fab.frameNo % 8 = 0) (k : Nat) :
    (evalPairs s).pair k = if (s.pair k).protect ≠ 255 ∧ s.cogServes k = true then s.evalPair k (s.pair k) else s.pair k := by
  have hn : ((s.inForce.map Prod.fst).filter s.cogServes).Nodup := (h.nodup_keys.sublist (List.filter_sublist.map _)).filter _
  rw [evalPairs, if_pos (by simp [hup, h8]), State.pair_eachRunPair hn]
  simp only [List.mem_filter, State.mem_inForce h]

/-! The wait-to-restore (07 R191, R193). -/

/-- The pair once its wait-to-restore has expired (07 R191). -/
def State.pairRestored (s : State) (p : Nat) : Pair :=
  s.govern p (s.pair p) (s.pair p).stored (localRequest (s.pair p).stored (s.pair p).sfP (s.pair p).sfW (s.pairRev p) 0 false)

/-- The state in which the wait-to-restore of a pair has expired, and a change of its selector is counted (07 Table 7-8). -/
def State.afterWtr (s : State) (p : Nat) : State :=
  if (s.pair p).selector != (s.pairRestored p).selector then (s.modPair p fun _ => s.pairRestored p).count 0x3800 8 0 p
  else s.modPair p fun _ => s.pairRestored p

theorem lineWtrEnd_eq {s : State} {p : LaneId} {b : Nat} (hb : (s.pair p).wtr = some b) (h5 : (s.pair p).state = 5) (hup : s.sup.up = true)
    (hc : s.cogServes p = true) (ho : s.over b (secs (60 * s.cfg 0x3800 3 p)) = true) : lineWtrEnd p s = s.afterWtr p := by
  simp only [lineWtrEnd, hb, h5, hup, hc, ho, true_and, if_true]
  rfl

theorem State.afterWtr_lessPairs (s : State) (p : Nat) : (s.afterWtr p).lessPairs = s.lessPairs := by
  unfold State.afterWtr
  split
  · rfl
  · rfl

theorem State.pair_afterWtr (s : State) (p k : Nat) : (s.afterWtr p).pair k = if k = p then s.pairRestored p else s.pair k := by
  unfold State.afterWtr
  split
  · rw [State.pair_count, State.pair_modPair]
  · rw [State.pair_modPair]

section

variable {s : State} {p : Nat}

theorem State.afterWtr_ctr (h : (s.pair p).selector ≠ (s.pairRestored p).selector) :
    (s.afterWtr p).ctr 0x3800 8 0 p = (s.ctr 0x3800 8 0 p + 1) % 4294967296 := by
  rw [State.afterWtr, if_pos (by simpa using h), State.ctr_count]
  rfl

/-- Where nothing is stored or raised, no request is left; it takes the selector and the bytes with it unless the far one governs (07 R191, R193). -/
theorem State.pairRestored_idle (h0 : (s.pair p).stored = 0) (hp : (s.pair p).sfP = false) (hw : (s.pair p).sfW = false) :
    (s.pairRestored p).state = 0 ∧ (s.pairRestored p).wtr = none ∧
    (localGoverns 0 (s.farRequest p (s.pair p)) = true →
      (s.pairRestored p).selector = false ∧ (s.pairRestored p).aps1 = s.apsIdle p ∧ (s.pairRestored p).aps2 = 0) := by
  have hloc : localRequest 0 false false (s.pairRev p) 0 false = 0 := rfl
  rw [State.pairRestored, h0, hp, hw, hloc]
  refine ⟨rfl, rfl, fun hg => ?_⟩
  simp [State.govern, hg, selectsProtect, b2n]

/-- A forced switch stored meanwhile holds (07 R191). -/
theorem State.pairRestored_forced (h2 : (s.pair p).stored = 2) (hp : (s.pair p).sfP = false) : (s.pairRestored p).state = 0xD := by
  rw [State.pairRestored, h2, hp]
  rfl

end

/-- Settles O19: each timer and the evaluation by the pairs that it leaves. -/
theorem pairsAreEvaluated : Obligations.PairsAreEvaluated := by
  unfold Obligations.PairsAreEvaluated
  intro s p
  refine ⟨fun b hup hc hb ho => ?_, fun b hup hc hb ho => ?_, fun h side => ?_, fun hwf hup h8 => ?_, fun b hb h5 hup hc ho => ?_⟩
  · refine ⟨_, rfl, ?_⟩
    rw [holdOffEnd_working (s := s.quiet) hup hc hb ho]
    exact ⟨rfl, fun k => State.pair_modPair ..⟩
  · refine ⟨_, rfl, ?_⟩
    rw [holdOffEnd_protect (s := s.quiet) hup hc hb ho]
    exact ⟨rfl, fun k => State.pair_modPair ..⟩
  · refine ⟨_, rfl, ?_⟩
    rw [holdOffEnd_stopped (s := s.quiet) h]
    rfl
  · exact ⟨_, rfl, congrArg s.fixed (State.restore_pairs s.quiet.evalPairs_lessPairs), State.pair_evalPairs (s := s.quiet) hwf hup h8⟩
  · refine ⟨_, rfl, ?_⟩
    rw [lineWtrEnd_eq (s := s.quiet) hb h5 hup hc ho]
    have hpair : (s.quiet.afterWtr p).pair p = s.quiet.pairRestored p := (State.pair_afterWtr ..).trans (if_pos rfl)
    refine ⟨congrArg s.fixed (State.restore_pairs (s.quiet.afterWtr_lessPairs p)), fun k => State.pair_afterWtr .., fun h0 hp hw => ?_,
      fun h2 hp => ?_, fun hne => State.afterWtr_ctr (s := s.quiet) (hpair ▸ hne)⟩
    · have hidle := State.pairRestored_idle (s := s.quiet) h0 hp hw
      rwa [← hpair] at hidle
    · exact (congrArg Pair.state hpair).trans (State.pairRestored_forced (s := s.quiet) h2 hp)

end Sys2Proof.Machine
end

section
/-! PROOFS. Line commands are stored, and mismatches declared and cleared (07 R190, R195). -/

namespace Sys2Proof.Machine

/-! Line commands (07 R190). -/

section

variable {s : State} {p v : Nat} (x : Session)

theorem effLine_stores (hp : (s.pair p).protect ≠ 255) (ho : v = 0 ∨ v = 1 ∨ s.outranked p v (s.pair p) = false) :
    effLine p x [v] s = ok (s.modPair p fun x => { x with stored := v }) := by
  have hlow : ¬ (v ≠ 0 ∧ v ≠ 1 ∧ s.outranked p v (s.pair p) = true) := by
    rintro ⟨h0, h1, h⟩
    simp [h0, h1, h] at ho
  simp only [effLine, List.headD_cons, hp, hlow, if_false]

/-- A command is refused at a port without a pair in force, and where a higher request is present (07 R190). -/
theorem effLine_refuses (h0 : v ≠ 0) (h1 : v ≠ 1) (h : (s.pair p).protect = 255 ∨ s.outranked p v (s.pair p) = true) :
    effLine p x [v] s = .refuse (naming stState 0x3800 6 p) := by
  simp only [effLine, List.headD_cons]
  split
  · rfl
  next hp => exact if_pos ⟨h0, h1, h.resolve_left hp⟩

end

/-- Whether a command is outranked does not depend on when its session was last heard (07 R190). -/
theorem State.heard_outranked (s : State) (i p v : Nat) (x : Pair) : (s.heard i).outranked p v x = s.outranked p v x :=
  s.heard_elim (P := fun w => w.outranked p v x = s.outranked p v x) i fun _ => rfl

theorem State.heard_pair (s : State) (i k : Nat) : (s.heard i).pair k = s.pair k := State.pair_of_prot (by simp) k

section

variable {s : State} {rq : Rq} {x : Session} {p v : Nat} (hv : v < 256) (hw : Writes rq 0x3800 5 p (u8 v) x s)
include hv hw

/-- A line command that no higher request outranks is stored, and changes its pair alone (07 R190). -/
theorem run_lineStored (hp : (s.pair p).protect ≠ 255) (ho : v = 0 ∨ v = 1 ∨ s.outranked p v (s.pair p) = false) :
    ∃ t, run (writeOf rq 0x3800 5 p (u8 v) (effLine p)) s = .next t ∧ Answered 2 (writeReq rq 0x3800 5 p (u8 v)) 0 t ∧
      { t.lessAnswers with prot.pairs := s.prot.pairs } = s.lessAnswers ∧
      ∀ k, t.pair k = if k = p then { s.pair p with stored := v } else s.pair k := by
  have heff := effLine_stores (s := s.quiet.heard rq.session) x (by rw [State.heard_pair]; exact hp)
    (by rw [State.heard_pair, State.heard_outranked]; exact ho)
  obtain ⟨r, hr, ha⟩ := run_writeOf_answers hw rfl (by decide) (by decide) (by decide)
    ((congrArg (effLine p x · _) (splitFields_u8_of_lt hv)).trans heff) rfl
  refine ⟨_, hr, ha.answered, ?_, fun k => ?_⟩
  · exact congrArg s.fixed (AnswersWith.less_of_heard (z := s.quiet.lessAnswers)
      (F := fun w => w.modPair p fun x => { x with stored := v }) (fun w => { w with prot.pairs := s.prot.pairs }) ha fun _ => rfl)
  · have hprot : r.prot = _ := (congrArg State.prot ha.less :)
    refine (State.pair_of_prot hprot k).trans ((State.pair_modPair ..).trans ?_)
    rw [State.heard_pair, State.heard_pair]
    rfl

theorem run_lineRefused (h0 : v ≠ 0) (h1 : v ≠ 1) (h : (s.pair p).protect = 255 ∨ s.outranked p v (s.pair p) = true) :
    ∃ t, run (writeOf rq 0x3800 5 p (u8 v) (effLine p)) s = .next t ∧ Answered 2 (writeReq rq 0x3800 5 p (u8 v)) 2 t ∧ t.prot = s.prot := by
  have heff := effLine_refuses (s := s.quiet.heard rq.session) x h0 h1 (by rw [State.heard_pair, State.heard_outranked]; exact h)
  obtain ⟨t, ht, hans, hless⟩ := run_writeOf_refusal hw rfl (by decide) (by decide)
    ((congrArg (effLine p x · _) (splitFields_u8_of_lt hv)).trans heff) (show 2 ≠ 4 by decide)
  exact ⟨t, ht, hans, (congrArg State.prot hless :)⟩

end

/-! Mismatches (07 R195). -/

/-- An alarm that is raised where it was not is found (14 R383). -/
theorem State.raiseOnce_found (s : State) (v i b n e : Nat) : ((s.raiseOnce v i b n e).findAlarm i b n e).isSome = true := by
  unfold State.raiseOnce
  split
  · assumption
  · obtain ⟨a, ha, hi, hb, hn, he⟩ : ∃ a : Alarm, (s.raiseAlarm none v i b n e).store.alarms = s.store.alarms ++ [a] ∧
        a.index = i ∧ a.sub = b ∧ a.bit = n ∧ a.element = e := ⟨_, (State.Posts.alarmOut ..).alarms, rfl, rfl, rfl, rfl⟩
    simp [State.findAlarm, ha, hi, hb, hn, he]

/-- An alarm that is cleared is in the table no more (14 R384). -/
theorem State.clearIf_gone {s : State} {i b n e : Nat} {a : Alarm} (h : s.findAlarm i b n e = some a) :
    ∀ c ∈ (s.clearIf i b n e).store.alarms, c.number ≠ a.number := by
  intro c hc
  rw [State.clearIf, h] at hc
  simp only [(s.clearAlarm_drops a).2, List.mem_filter, bne_iff_ne] at hc
  exact hc.2

/-- A mismatch of a pair is declared, with its alarm (07 R195). -/
def State.declareMismatch (s : State) (p n : Nat) (f : Pair → Pair) : State := (s.modPair p f).raiseOnce 1 0x3800 6 n p

/-- A mismatch of a pair is withdrawn, with its alarm (07 R195). -/
def State.withdrawMismatch (s : State) (p n : Nat) (f : Pair → Pair) : State := (s.modPair p f).clearIf 0x3800 6 n p

section

variable {s : State} {p : LaneId} {b : Nat} (hup : s.sup.up = true) (hp : (s.pair p).protect ≠ 255) (ha : s.apsUp (s.pair p) = true)
include hup hp ha

theorem modeMismatch_declares (hm : (s.pair p).modeMis = false) (hb : s.modeBad p (s.pair p) = true) (ht : (s.pair p).modeSince = some b)
    (ho : s.over b 50000000 = true) :
    modeMismatch p true s = s.declareMismatch p 1 fun x => { x with modeMis := true, modeSince := none } := by
  simp [modeMismatch, State.mismatchDue, State.declareMismatch, msecs, hup, hp, ha, hm, hb, ht, ho]

theorem modeMismatch_withdraws (hm : (s.pair p).modeMis = true) (hb : s.modeBad p (s.pair p) = false) (ht : (s.pair p).modeSince = some b)
    (ho : s.over b 50000000 = true) :
    modeMismatch p false s = s.withdrawMismatch p 1 fun x => { x with modeMis := false, modeSince := none } := by
  simp [modeMismatch, State.mismatchDue, State.withdrawMismatch, msecs, hup, hp, ha, hm, hb, ht, ho]

theorem selectorMismatch_declares (hm : (s.pair p).selMis = false) (hb : s.selBad p (s.pair p) = true) (ht : (s.pair p).selSince = some b)
    (ho : s.over b 1000000000 = true) :
    selectorMismatch p true s = s.declareMismatch p 2 fun x => { x with selMis := true, selSince := none } := by
  simp [selectorMismatch, State.mismatchDue, State.declareMismatch, secs, hup, hp, ha, hm, hb, ht, ho]

theorem selectorMismatch_withdraws (hm : (s.pair p).selMis = true) (hb : s.selBad p (s.pair p) = false) (ht : (s.pair p).selSince = some b)
    (ho : s.over b 1000000000 = true) :
    selectorMismatch p false s = s.withdrawMismatch p 2 fun x => { x with selMis := false, selSince := none } := by
  simp [selectorMismatch, State.mismatchDue, State.withdrawMismatch, secs, hup, hp, ha, hm, hb, ht, ho]

end

/-- A declared mismatch has its alarm, and beside alarms and what reports them its pair alone differs (07 R195). -/
theorem State.declareMismatch_spec (s : State) (p n : Nat) (f : Pair → Pair) :
    ((s.declareMismatch p n f).findAlarm 0x3800 6 n p).isSome = true ∧
    (∀ k, (s.declareMismatch p n f).pair k = if k = p then f (s.pair p) else s.pair k) ∧
    (s.declareMismatch p n f).fab = s.fab ∧ (s.declareMismatch p n f).lanes = s.lanes :=
  ⟨State.raiseOnce_found .., fun k => (State.pair_of_prot (by simp [State.declareMismatch]) k).trans (State.pair_modPair ..),
    by simp [State.declareMismatch, State.modPair], by simp [State.declareMismatch]⟩

/-- A withdrawn mismatch has no alarm, and beside alarms and what reports them its pair alone differs (07 R195). -/
theorem State.withdrawMismatch_spec (s : State) (p n : Nat) (f : Pair → Pair) :
    (∀ k, (s.withdrawMismatch p n f).pair k = if k = p then f (s.pair p) else s.pair k) ∧
    (s.withdrawMismatch p n f).fab = s.fab ∧ (s.withdrawMismatch p n f).lanes = s.lanes ∧
    ∀ a, s.findAlarm 0x3800 6 n p = some a → ∀ c ∈ (s.withdrawMismatch p n f).store.alarms, c.number ≠ a.number :=
  ⟨fun k => (State.pair_of_prot (by simp [State.withdrawMismatch]) k).trans (State.pair_modPair ..),
    by simp [State.withdrawMismatch, State.modPair], by simp [State.withdrawMismatch], fun _ ha => State.clearIf_gone ha⟩

/-- Settles O20: a line command by its effect on the pair, a mismatch by its alarm and its pair. -/
theorem lineCommandsAndMismatches : Obligations.LineCommandsAndMismatches := by
  unfold Obligations.LineCommandsAndMismatches
  refine ⟨fun s rq x p => ⟨fun hp h => ?_, fun hp h => ?_, fun hp h ho => ?_, fun hp h ho => ?_, fun hp h ho => ?_, fun hr h => ?_⟩,
    fun s p b hup hp ha => ⟨fun hm hb ht ho => ?_, fun hm hb ht ho => ?_, fun hm hb ht ho => ?_, fun hm hb ht ho => ?_⟩⟩
  · exact run_lineStored (by decide) h hp (.inl rfl)
  · exact run_lineStored (by decide) h hp (.inr (.inl rfl))
  · exact run_lineStored (by decide) h hp (.inr (.inr ho))
  · exact run_lineStored (by decide) h hp (.inr (.inr ho))
  · exact run_lineStored (by decide) h hp (.inr (.inr ho))
  · exact run_lineRefused (by decide) h (by decide) (by decide) hr
  · refine ⟨_, rfl, ?_⟩
    rw [modeMismatch_declares (s := s.quiet) hup hp ha hm hb ht ho]
    exact State.declareMismatch_spec ..
  · refine ⟨_, rfl, ?_⟩
    rw [modeMismatch_withdraws (s := s.quiet) hup hp ha hm hb ht ho]
    exact State.withdrawMismatch_spec ..
  · refine ⟨_, rfl, ?_⟩
    rw [selectorMismatch_declares (s := s.quiet) hup hp ha hm hb ht ho]
    exact State.declareMismatch_spec ..
  · refine ⟨_, rfl, ?_⟩
    rw [selectorMismatch_withdraws (s := s.quiet) hup hp ha hm hb ht ho]
    exact State.withdrawMismatch_spec ..

end Sys2Proof.Machine
end

section
/-! PROOFS. Commands and settings of circuit selectors reach the protected runs and the cogs' copy (07 R200 to R204; 13 R327). -/

namespace Sys2Proof.Machine

/-! Several runs, each with its entry in a table. -/

/-- Changes of one part of the state, each made from what that part is and from the rest, which they leave alone, are one change of the part. -/
theorem State.each_part {γ β : Type} {get : State → γ} {put : State → γ → State} {step : State → β → γ → γ}
    (hget : ∀ s m, get (put s m) = m) (hput : ∀ s m n, put (put s m) n = put s n) (hself : ∀ s, put s (get s) = s)
    (hstep : ∀ s m b, step (put s m) b = step s b) (bs : List β) (s : State) :
    (s.each bs fun b s => put s (step s b (get s))) = put s (bs.foldl (fun m b => step s b m) (get s)) := by
  unfold State.each
  induction bs generalizing s with
  | nil => exact (hself s).symm
  | cons b bs ih =>
    simp only [List.foldl_cons]
    rw [ih, hget, hput, show step (put s (step s b (get s))) = step s from funext (hstep s _)]

/-- The protected runs of a circuit (07 R202). -/
def State.runsOf (s : State) (h : Nat) : List (Entry × Companion) := s.protRunsOf.filter fun p => p.1.handle == h

theorem State.mem_runsOf {s : State} {h : Nat} {p : Entry × Companion} : p ∈ s.runsOf h ↔ p ∈ s.protRunsOf ∧ p.1.handle = h := by
  simp [State.runsOf]

/-- The table of selectors with those of a circuit's runs changed (07 R202). -/
def State.changedSels (s : State) (h : Nat) (f : Sel → Sel) : Tab Sel := (s.runsOf h).foldl (fun t p => tmod {} t p.2.selIdx f) s.fab.sel

theorem State.modSels_eq (s : State) (h : Nat) (f : Sel → Sel) : s.modSels h f = { s with fab.sel := s.changedSels h f } :=
  State.each_part (get := fun s => s.fab.sel) (put := fun s m => { s with fab.sel := m })
    (step := fun _ (p : Entry × Companion) t => tmod {} t p.2.selIdx f) (fun _ _ => rfl) (fun _ _ _ => rfl) (fun _ => rfl)
    (fun _ _ _ => rfl) (s.runsOf h) s

section

variable {s : State} {h i : Nat} {f : Sel → Sel} (hf : ∀ x, f (f x) = f x)
include hf

/-- A change of a circuit's selectors, by what made twice is made once, changes that of each of its protected runs (07 R202). -/
theorem State.modSels_run {p : Entry × Companion} (hp : p ∈ s.protRunsOf) (hh : p.1.handle = h) :
    (s.modSels h f).selOf p.2 = f (s.selOf p.2) := by
  rw [State.modSels_eq]
  exact (tget_foldl_tmod (f := f) (fun _ _ _ => rfl) hf _).trans (if_pos ⟨p, State.mem_runsOf.mpr ⟨hp, hh⟩, rfl⟩)

/-- And no other selector (07 R202). -/
theorem State.modSels_other (hi : ∀ p ∈ s.protRunsOf, p.1.handle = h → p.2.selIdx ≠ i) :
    tget {} (s.modSels h f).fab.sel i = tget {} s.fab.sel i := by
  rw [State.modSels_eq]
  refine (tget_foldl_tmod (f := f) (fun _ _ _ => rfl) hf _).trans (if_neg ?_)
  rintro ⟨p, hp, hpi⟩
  obtain ⟨hp, hh⟩ := State.mem_runsOf.mp hp
  exact hi p hp hh hpi

end

/-! Circuit commands (07 R202). -/

/-- The state with a command in the cogs' copy (07 R202). -/
def State.copyCommand (s : State) (h v : Nat) : State := { s with prot.cmdTbl := tput 0 s.prot.cmdTbl h v }

/-- The state with a command in the cogs' copy, and in the circuit's protected runs once its cog runs (07 R202; 13 R327). -/
def State.commanded (s : State) (h v : Nat) : State :=
  if s.cogServes (policyCog h) then (s.copyCommand h v).modSels h fun x => { x with cmd := v } else s.copyCommand h v

theorem effCircuitCmd_eq (x : Session) (s : State) (h v : Nat) : effCircuitCmd h x [v] s = ok (s.commanded h v) := rfl

/-- What a circuit command leaves (07 R202; 13 R327). -/
structure Commanded (h v : Nat) (s t : State) : Prop where
  copy : tget 0 t.prot.cmdTbl h = v
  runs : s.cogServes (policyCog h) = true → ∀ p ∈ s.protRunsOf, p.1.handle = h → t.selOf p.2 = { s.selOf p.2 with cmd := v }
  stopped : s.cogServes (policyCog h) = false → t.fab.sel = s.fab.sel
  others : ∀ i, (∀ p ∈ s.protRunsOf, p.1.handle = h → p.2.selIdx ≠ i) → tget {} t.fab.sel i = tget {} s.fab.sel i

theorem State.commanded_spec (s : State) (h v : Nat) : Commanded h v s (s.commanded h v) := by
  have hf (y : Sel) : (fun x : Sel => { x with cmd := v }) ((fun x : Sel => { x with cmd := v }) y) = { y with cmd := v } := rfl
  by_cases hc : s.cogServes (policyCog h) = true
  · rw [State.commanded, if_pos hc]
    refine ⟨?_, fun _ p hp hh => ?_, fun hn => absurd hc (by simp [hn]), fun i hi => ?_⟩
    · rw [State.modSels_eq]
      exact tget_tput_same ..
    · exact State.modSels_run (s := s.copyCommand h v) hf hp hh
    · exact State.modSels_other (s := s.copyCommand h v) hf hi
  · rw [State.commanded, if_neg hc]
    exact ⟨tget_tput_same .., fun hs => absurd hs hc, fun _ => rfl, fun _ _ => rfl⟩

/-- An answer keeps what a circuit command leaves. -/
theorem Commanded.answered {h v : Nat} {s t u : State} (k : Commanded h v s t) (hu : u.lessAnswers = t.lessAnswers) (w : State) :
    Commanded h v s (w.fixed u) := by
  have hl : Commanded h v s u.lessAnswers := hu ▸ ⟨k.copy, k.runs, k.stopped, k.others⟩
  exact ⟨hl.copy, hl.runs, hl.stopped, hl.others⟩

/-- A circuit command changes the cogs' copy and selectors alone (07 R202). -/
theorem State.commanded_frame (s : State) (h v : Nat) :
    { s.commanded h v with prot.cmdTbl := s.prot.cmdTbl, fab.sel := s.fab.sel } = s := by
  unfold State.commanded
  split
  · rw [State.modSels_eq]
    rfl
  · rfl

/-- The write of a circuit command (07 R202). -/
theorem run_circuitCommand {s : State} {rq : Rq} {x : Session} {h v : Nat} (hv : v < 256) (hw : Writes rq 0x3840 1 h (u8 v) x s) :
    ∃ t, run (writeOf rq 0x3840 1 h (u8 v) (effCircuitCmd h)) s = .next t ∧ Answered 2 (writeReq rq 0x3840 1 h (u8 v)) 0 t ∧
      Commanded h v s t ∧ { t.lessAnswers with prot.cmdTbl := s.prot.cmdTbl, fab.sel := s.fab.sel } = s.lessAnswers := by
  obtain ⟨r, hr, ha⟩ := run_writeOf_answers hw rfl (by decide) (by decide) (by decide)
    ((congrArg (effCircuitCmd h x · _) (splitFields_u8_of_lt hv)).trans (effCircuitCmd_eq ..))
    (congrArg (fun w : State => w.mgmt.sessions) ((s.quiet.heard rq.session).commanded_frame h v) :)
  have hspec : Commanded h v s ((s.quiet.heard rq.session).commanded h v) :=
    s.quiet.heard_elim (P := fun w => Commanded h v s (w.commanded h v)) rq.session fun m =>
      have k := State.commanded_spec { s.quiet with mgmt.sessions := m } h v
      ⟨k.copy, k.runs, k.stopped, k.others⟩
  refine ⟨_, hr, ha.answered, hspec.answered ha.less s, ?_⟩
  exact congrArg s.fixed (AnswersWith.less_of_heard (z := s.quiet.lessAnswers) (F := fun w => w.commanded h v)
    (fun w => { w with prot.cmdTbl := s.prot.cmdTbl, fab.sel := s.fab.sel }) ha
    fun m => (congrArg State.lessAnswers (State.commanded_frame { s.quiet with mgmt.sessions := m } h v) :))

/-! The revertive setting (07 R203). -/

/-- The state with the revertive setting of a circuit (07 R203). -/
def State.setRev (s : State) (h v : Nat) : State := { s with fab.revTbl := tput 0 s.fab.revTbl h v }

/-- The cogs' copy of REV, with the setting of a circuit in its protected runs (07 R203, R204). -/
def State.changedRevs (s : State) (h : Nat) : Tab Nat :=
  (s.runsOf h).foldl (fun t p => tmod 0 t p.2.selIdx fun _ => if s.revOf h then 1 else 2) s.prot.revs

/-- The state with the revertive setting of a circuit in the cogs' copy (07 R203). -/
def State.copyRev (s : State) (h : Nat) : State := { s with prot.revs := s.changedRevs h }

/-- The state with a revertive setting, in force in the circuit's protected runs and in the cogs' copy (07 R203). -/
def State.revertiveSet (s : State) (h v : Nat) : State :=
  ((s.setRev h v).copyRev h).modSels h fun x => { x with rev := ((s.setRev h v).copyRev h).revOf h }

theorem State.each_copyRev (s : State) (h : Nat) :
    (s.each (s.runsOf h) fun p s => { s with prot.revs := tput 0 s.prot.revs p.2.selIdx (if s.revOf h then 1 else 2) }) = s.copyRev h :=
  State.each_part (get := fun s => s.prot.revs) (put := fun s m => { s with prot.revs := m })
    (step := fun s (p : Entry × Companion) t => tmod 0 t p.2.selIdx fun _ => if s.revOf h then 1 else 2)
    (fun _ _ => rfl) (fun _ _ _ => rfl) (fun _ => rfl) (fun _ _ _ => rfl) (s.runsOf h) s

theorem effRevertive_eq (x : Session) (s : State) (h v : Nat) : effRevertive h x [v] s = ok (s.revertiveSet h v) :=
  congrArg (fun w : State => ok (w.modSels h fun x => { x with rev := w.revOf h })) ((s.setRev h v).each_copyRev h)

/-- What the revertive setting of a circuit leaves (07 R203). -/
structure RevertiveSet (h v : Nat) (s t : State) : Prop where
  setting : tget 0 t.fab.revTbl h = v
  runs : ∀ p ∈ s.protRunsOf, p.1.handle = h → t.selOf p.2 = { s.selOf p.2 with rev := t.revOf h }
  copies : ∀ p ∈ s.protRunsOf, p.1.handle = h → t.revCopy p = t.revOf h

theorem State.revOf_revertiveSet (s : State) (h v : Nat) : (s.revertiveSet h v).revOf h = (s.setRev h v).revOf h := by
  rw [State.revertiveSet, State.modSels_eq]
  rfl

/-- The copy of a run of the circuit is its setting (07 R203). -/
theorem State.revCopy_revertiveSet {s : State} {h : Nat} (v : Nat) {p : Entry × Companion} (hp : p ∈ s.protRunsOf) (hh : p.1.handle = h) :
    (s.revertiveSet h v).revCopy p = (s.revertiveSet h v).revOf h := by
  have hget : tget 0 (s.revertiveSet h v).prot.revs p.2.selIdx = if (s.setRev h v).revOf h then 1 else 2 := by
    rw [State.revertiveSet, State.modSels_eq]
    exact (tget_foldl_tmod (f := fun _ => if (s.setRev h v).revOf h then 1 else 2) (fun _ _ _ => rfl) (fun _ => rfl) _).trans
      (if_pos ⟨p, State.mem_runsOf.mpr ⟨hp, hh⟩, rfl⟩)
  rw [State.revOf_revertiveSet, State.revCopy, hget]
  cases (s.setRev h v).revOf h <;> rfl

theorem State.revertiveSet_spec (s : State) (h v : Nat) : RevertiveSet h v s (s.revertiveSet h v) := by
  refine ⟨?_, fun p hp hh => ?_, fun p hp hh => State.revCopy_revertiveSet v hp hh⟩
  · rw [State.revertiveSet, State.modSels_eq]
    exact tget_tput_same ..
  · rw [State.revOf_revertiveSet]
    exact State.modSels_run (s := (s.setRev h v).copyRev h) (f := fun x => { x with rev := (s.setRev h v).revOf h }) (fun _ => rfl) hp hh

/-- An answer keeps what the revertive setting of a circuit leaves. -/
theorem RevertiveSet.answered {h v : Nat} {s t u : State} (k : RevertiveSet h v s t) (hu : u.lessAnswers = t.lessAnswers) (w : State) :
    RevertiveSet h v s (w.fixed u) := by
  have hl : RevertiveSet h v s u.lessAnswers := hu ▸ ⟨k.setting, k.runs, k.copies⟩
  exact ⟨hl.setting, hl.runs, hl.copies⟩

/-- The revertive setting of a circuit changes its table, selectors and the cogs' copy alone (07 R203). -/
theorem State.revertiveSet_frame (s : State) (h v : Nat) :
    { s.revertiveSet h v with fab.revTbl := s.fab.revTbl, fab.sel := s.fab.sel, prot.revs := s.prot.revs } = s := by
  rw [State.revertiveSet, State.modSels_eq]
  rfl

/-- The write of the revertive setting of a circuit (07 R203). -/
theorem run_circuitRevertive {s : State} {rq : Rq} {x : Session} {h v : Nat} (hv : v < 256) (hw : Writes rq 0x3840 2 h (u8 v) x s) :
    ∃ t, exec (.circuitRevertiveWrite rq h v) s = .next t ∧ Answered 2 (writeReq rq 0x3840 2 h (u8 v)) 0 t ∧ RevertiveSet h v s t ∧
      { t.lessAnswers with fab.revTbl := s.fab.revTbl, fab.sel := s.fab.sel, prot.revs := s.prot.revs } = s.lessAnswers := by
  obtain ⟨r, hr, ha⟩ := run_writeOf_answers hw rfl (by decide) (by decide) (by decide)
    ((congrArg (effRevertive h x · _) (splitFields_u8_of_lt hv)).trans (effRevertive_eq ..))
    (congrArg (fun w : State => w.mgmt.sessions) ((s.quiet.heard rq.session).revertiveSet_frame h v) :)
  have hspec : RevertiveSet h v s ((s.quiet.heard rq.session).revertiveSet h v) :=
    s.quiet.heard_elim (P := fun w => RevertiveSet h v s (w.revertiveSet h v)) rq.session fun m =>
      have k := State.revertiveSet_spec { s.quiet with mgmt.sessions := m } h v
      ⟨k.setting, k.runs, k.copies⟩
  refine ⟨_, hr, ha.answered, hspec.answered ha.less s, ?_⟩
  exact congrArg s.fixed (AnswersWith.less_of_heard (z := s.quiet.lessAnswers) (F := fun w => w.revertiveSet h v)
    (fun w => { w with fab.revTbl := s.fab.revTbl, fab.sel := s.fab.sel, prot.revs := s.prot.revs }) ha
    fun m => (congrArg State.lessAnswers (State.revertiveSet_frame { s.quiet with mgmt.sessions := m } h v) :))

/-! The write-back (07 R204). -/

/-- A selector with CMD and REV from the cogs' copy of its run (07 R204). -/
def State.copiedSel (s : State) (p : Entry × Companion) (x : Sel) : Sel := { x with cmd := tget 0 s.prot.cmdTbl p.1.handle, rev := s.revCopy p }

/-- The table of selectors with those of some circuits written from the cogs' copy (07 R204). -/
def State.copiedSels (s : State) (q : Nat → Bool) : Tab Sel :=
  (s.protRunsOf.filter fun p => q p.1.handle).foldl (fun t p => tmod {} t p.2.selIdx (s.copiedSel p)) s.fab.sel

theorem State.writeCopies_eq (s : State) (q : Nat → Bool) : s.writeCopies q = { s with fab.sel := s.copiedSels q } :=
  State.each_part (get := fun s => s.fab.sel) (put := fun s m => { s with fab.sel := m })
    (step := fun s (p : Entry × Companion) t => tmod {} t p.2.selIdx (s.copiedSel p)) (fun _ _ => rfl) (fun _ _ _ => rfl) (fun _ => rfl)
    (fun _ _ _ => rfl) (s.protRunsOf.filter fun p => q p.1.handle) s

/-- A run whose selector no other circuit shares has CMD and REV of the cogs' copy, where its circuit is among those written (07 R204). -/
theorem State.writeCopies_run {s : State} (q : Nat → Bool) {p : Entry × Companion} (hp : p ∈ s.protRunsOf)
    (hown : ∀ r ∈ s.protRunsOf, r.2.selIdx = p.2.selIdx → r.1.handle = p.1.handle) :
    (s.writeCopies q).selOf p.2 = if q p.1.handle then s.copiedSel p (s.selOf p.2) else s.selOf p.2 := by
  have hwritten : (∃ r ∈ s.protRunsOf.filter fun p => q p.1.handle, r.2.selIdx = p.2.selIdx) ↔ q p.1.handle = true := by
    simp only [List.mem_filter]
    constructor
    · rintro ⟨r, ⟨hr, hq⟩, hi⟩
      rwa [← hown r hr hi]
    · exact fun hq => ⟨p, ⟨hp, hq⟩, rfl⟩
  have hsame : ∀ r ∈ s.protRunsOf.filter fun p => q p.1.handle, r.2.selIdx = p.2.selIdx → s.copiedSel r = s.copiedSel p := by
    intro r hr hi
    funext x
    simp only [State.copiedSel, State.revCopy, hi, hown r (List.mem_filter.mp hr).1 hi]
  rw [State.writeCopies_eq]
  refine (tget_foldl_tmod (f := s.copiedSel p) hsame (fun _ => rfl) _).trans ?_
  simp only [hwritten]
  rfl

/-- Under an admitted holder the cogs that run write their circuits' selectors back (07 R204; 13 R327). -/
theorem writeBackSels_due {s : State} (hw : s.prot.writeBack = true) (hadm : s.lease.admitted = true) (hup : s.sup.up = true) :
    writeBackSels s = State.writeCopies { s with prot.writeBack := false } fun h => s.cogServes (policyCog h) := by
  simp [writeBackSels, hw, hadm, hup]

/-! The wait-to-restore of circuits (07 R200). -/

section

variable {s : State}

/-- A tick falls a fifteenth of 3810:02 after the last one (07 R200). -/
theorem wtrTick_due (h : s.over s.fab.tickAt (4 * s.cfg 0x3810 2 0 * 1000000000) = true) :
    wtrTick s = { s with fab.wtrTick := true, fab.tickAt := s.now } := if_pos h

theorem wtrTick_early (h : s.over s.fab.tickAt (4 * s.cfg 0x3810 2 0 * 1000000000) = false) : wtrTick s = s :=
  if_neg fun ht => Bool.noConfusion (ht.symm.trans h)

end

/-- An evaluation writes the selector of its run, and may count a switch of its circuit (07 R200, Table 7-8). -/
theorem State.evalRun_eq (s : State) (p : Entry × Companion) (tick : Bool) : ∃ n, s.evalRun p tick =
    { s with fab.sel := tput {} s.fab.sel p.2.selIdx (evalSel (s.selOf p.2) (s.primFails p.1) (s.altFails p.1 p.2) tick), fab.swCount := n } := by
  simp only [State.evalRun]
  repeat' split
  all_goals exact ⟨_, rfl⟩

/-- A selector on its last tick returns to its primary source (07 R200). -/
theorem evalSel_lastTick {x : Sel} (hc : x.cmd = 0) (hs : x.sel = true) (hr : x.rev = true) (hw : x.wtr = 1) :
    evalSel x false false true = { x with sel := false, wtr := 0 } := by
  simp [evalSel, hc, hs, hr, hw]

section

variable {s : State} {p : Entry × Companion} (hw : (s.selOf p.2).wtr = 1)
include hw

theorem State.evalRun_lastTick (hs : (s.selOf p.2).sel = true) (hr : (s.selOf p.2).rev = true) (hc : (s.selOf p.2).cmd = 0)
    (hp : s.primFails p.1 = false) (ha : s.altFails p.1 p.2 = false) : ∃ n, s.evalRun p true =
    { s with fab.sel := tput {} s.fab.sel p.2.selIdx { s.selOf p.2 with sel := false, wtr := 0 }, fab.swCount := n } := by
  have heval := s.evalRun_eq p true
  rwa [hp, ha, evalSel_lastTick hc hs hr hw] at heval

theorem wtrReached_due {i : Fin 262144} (hf : s.protRunsOf.find? (fun p => p.2.selIdx == (i : Nat)) = some p) (ht : s.fab.wtrTick = true) :
    wtrReached i s = { s.evalRun p true with ending := s.keepEnding.ending } := by
  simp [wtrReached, hf, ht, hw]

end

/-- Settles O21: a command and a setting by what each leaves of the runs, the write-back by its copies, a tick by its own state, the last tick by the
selector. -/
theorem circuitSelectorsFollowTheirCommands : Obligations.CircuitSelectorsFollowTheirCommands := by
  unfold Obligations.CircuitSelectorsFollowTheirCommands
  refine ⟨fun s => ⟨fun rq x h => ?_, fun hw hadm hup => ?_⟩, fun s => ⟨fun ho => ?_, fun ho => ?_, fun i p hf ht hw hs hr hc hp ha => ?_⟩⟩
  · intro set
    have hset {v : Nat} (hv : v < 256) (hw : Writes rq 0x3840 1 h (u8 v) x s) :
        ∃ t, run (writeOf rq 0x3840 1 h (u8 v) (effCircuitCmd h)) s = .next t ∧ set v t := by
      obtain ⟨t, ht, hans, ⟨hcopy, hruns, hstop, hothers⟩, hless⟩ := run_circuitCommand hv hw
      exact ⟨t, ht, hans, hcopy, hruns, hstop, hothers, hless⟩
    refine ⟨hset (by decide), hset (by decide), hset (by decide), hset (by decide), fun v hv hw => ?_⟩
    obtain ⟨t, ht, hans, ⟨hsetting, hruns, hcopies⟩, hless⟩ := run_circuitRevertive (by omega) hw
    exact ⟨t, ht, hans, hsetting, hruns, hcopies, hless⟩
  · refine ⟨_, rfl, ?_⟩
    rw [writeBackSels_due (s := s.quiet) hw hadm hup]
    refine ⟨?_, ?_, fun p hp hown => State.writeCopies_run (s := { s.quiet with prot.writeBack := false }) _ hp hown⟩
    · rw [State.writeCopies_eq]
      rfl
    · rw [State.writeCopies_eq]
      rfl
  · exact ⟨_, rfl, congrArg s.fixed (wtrTick_due (s := s.quiet) ho)⟩
  · exact ⟨_, rfl, congrArg s.fixed (wtrTick_early (s := s.quiet) ho)⟩
  · have hi : p.2.selIdx = i := by simpa using List.find?_some hf
    obtain ⟨n, hn⟩ := State.evalRun_lastTick (s := s.quiet) hw hs hr hc hp ha
    refine ⟨_, rfl, ?_⟩
    rw [wtrReached_due (s := s.quiet) hw hf ht, hn]
    exact ⟨tget_tput_same .., fun j hj => tget_tput_other _ _ _ _ _ (hi ▸ hj), rfl⟩

end Sys2Proof.Machine
end

section
/-! PROOFS. A write that is held until a later command answers it (14 R358, R364). -/

namespace Sys2Proof.Machine

/-- The state with a request in flight (14 R358). -/
def State.await (s : State) (op : Nat) (q : Req) : State := { s with mgmt.flight := s.mgmt.flight ++ [⟨q.session, op, q, s.now⟩] }

section

variable {rq : Rq} {index sub el : Nat} {v : Bytes} {x : Session} {o : Obj} {s u : State} (h : Writes rq index sub el v x s)
  (ho : findObj index sub = some o) (h0 : sub ≠ 0) (h1 : sub ≠ 0xFE) {eff : Session → List Nat → State → Act}
include h ho h0 h1

/-- A write whose effect holds it is recorded, and in flight (14 R358; 15 R394). -/
theorem writeOf_held (he : eff x (o.split v) (s.heard rq.session) = .hold u) :
    writeOf rq index sub el v eff s =
      (u.audit (writeRec (s.heard rq.session) (writeReq rq index sub el v) x o 0)).await 2 (writeReq rq index sub el v) := by
  have hc := h.check ho h0 h1
  obtain ⟨ht, _, hb⟩ := h
  have ⟨_, hx, hr, _⟩ := ht
  have hc' : (s.heard (writeReq rq index sub el v).session).writeCheck (writeReq rq index sub el v) x.role = .ok o := by
    rw [State.heard_writeCheck s _ x hx hr]
    exact hc
  have he' : eff x (o.split (writeReq rq index sub el v).value) (s.heard (writeReq rq index sub el v).session) = .hold u := he
  have hb' : ¬ 256 ≤ (s.heard (writeReq rq index sub el v).session).sec.buffer.length := by simpa using hb
  rw [writeOf, request_up ht (makerOwn_found ho rfl x)]
  simp only [writeBody, hc', he', audited, hb', if_false]
  rfl

/-- What a held write leaves (14 R358). -/
theorem run_writeOf_held (he : eff x (o.split v) (s.quiet.heard rq.session) = .hold u) :
    ∃ r : State, run (writeOf rq index sub el v eff) s = .next (s.fixed (r.await 2 (writeReq rq index sub el v))) ∧
      r.lessAnswers = u.lessAnswers ∧ r.out = u.out :=
  ⟨_, congrArg (fun t => Host.Outcome.next (s.fixed t)) (writeOf_held (s := s.quiet) h ho h0 h1 he), u.audit_lessAnswers _, by simp⟩

end

end Sys2Proof.Machine
end

section
/-! PROOFS. Pairs are written, taken into the shadow page, or time out, and their mode is stored (07 R182 to R185). -/

namespace Sys2Proof.Machine

/-! The write of 3800:01 (07 R182, R185). -/

/-- The protect port of a pair as it was last taken (07 R185). -/
def State.protectSet (s : State) (p : Nat) : Nat := if (s.pair p).pending then (s.pair p).next else (s.pair p).protect

/-- The state with a pair write waiting to be taken (07 R185). -/
def State.waitWrite (s : State) (w : PairWrite) : State := { s with prot.writes := s.prot.writes ++ [w] }

section

variable {s : State} {p v i tag : Nat} (x : Session) (hv : v < 48 ∨ v = 255)
include hv

theorem effProtectPort_waits (hc : v ≠ s.protectSet p) (hr : s.pairRefusal p v = none) :
    effProtectPort i tag p x [v] s = .hold (s.waitWrite ⟨p, v, i, tag, s.now⟩) := by
  have hrange : ¬ (48 ≤ v ∧ v ≠ 255) := by omega
  have hsame : ¬ (v = s.protectSet p ∧ (s.prot.writes.all fun w => w.port != p) = true) := fun h => hc h.1
  unfold State.protectSet at hsame
  simp only [effProtectPort, List.headD_cons, hrange, hsame, hr, if_false]
  rfl

/-- A pair write that changes nothing asks whether it is barred, and for nothing else: the model's choice (07 R185). -/
theorem effProtectPort_unchanged (hc : v = s.protectSet p) (hw : ∀ w ∈ s.prot.writes, w.port ≠ p) :
    effProtectPort i tag p x [v] s = s.pairBarred.elim (ok s) .refuse := by
  have hrange : ¬ (48 ≤ v ∧ v ≠ 255) := by omega
  have hsame : v = s.protectSet p ∧ (s.prot.writes.all fun w => w.port != p) = true := ⟨hc, by simpa using hw⟩
  exact (if_neg hrange).trans ((if_pos hsame).trans (by cases s.pairBarred <;> rfl))

end

theorem State.pairBarred_none {s : State} (ha : s.edit.armed = none) (hl : s.noLease = false) : s.pairBarred = none := by
  simp [State.pairBarred, ha, hl]

/-- An armed activation, and a lease that nobody holds or comes to, bar pair writes with STATE (07 R182, R185). -/
theorem State.pairBarred_some {s : State} (h : s.edit.armed.isSome = true ∨ s.noLease = true) : ∃ a, s.pairBarred = some a ∧ a.status = 2 := by
  cases ha : s.edit.armed with
  | some a => exact ⟨naming stState 0x4100 3 0 0x20 a.number, by simp only [State.pairBarred, ha], rfl⟩
  | none =>
    have hl : s.noLease = true := by simpa [ha] using h
    exact ⟨refusal stState 0x17, by simp only [State.pairBarred, ha, hl, if_true], rfl⟩

/-- Whether a pair write is refused, and what it changes, do not depend on when its session was last heard (07 R182). -/
theorem State.heard_pairWrite (s : State) (i p v : Nat) :
    (s.heard i).pairRefusal p v = s.pairRefusal p v ∧ (s.heard i).pairBarred = s.pairBarred ∧ (s.heard i).protectSet p = s.protectSet p :=
  ⟨s.heard_elim (P := fun w => w.pairRefusal p v = s.pairRefusal p v) i fun _ => rfl,
    s.heard_elim (P := fun w => w.pairBarred = s.pairBarred) i fun _ => rfl,
    s.heard_elim (P := fun w => w.protectSet p = s.protectSet p) i fun _ => rfl⟩

section

variable {s : State} {rq : Rq} {x : Session} {p v : Nat} (hv : v < 48 ∨ v = 255) (h : Writes rq 0x3800 1 p (u8 v) x s)
include hv h

/-- A pair write that may be taken waits for it, and is in flight (07 R185). -/
theorem run_protectPort_waits (hc : v ≠ s.protectSet p) (hr : s.pairRefusal p v = none) :
    ∃ t, exec (.protectPortWrite rq p v) s = .next t ∧ t.prot.writes = s.prot.writes ++ [⟨p, v, rq.session, rq.tag, s.now⟩] ∧
      t.mgmt.flight = s.mgmt.flight ++ [⟨rq.session, 2, writeReq rq 0x3800 1 p (u8 v), s.now⟩] ∧ t.out = [] ∧
      { t.lessAnswers with prot.writes := s.prot.writes, mgmt.flight := s.mgmt.flight } = s.lessAnswers := by
  obtain ⟨kref, -, kset⟩ := s.quiet.heard_pairWrite rq.session p v
  have heff := effProtectPort_waits (s := s.quiet.heard rq.session) (i := rq.session) (tag := rq.tag) x hv (by rw [kset]; exact hc)
    (by rw [kref]; exact hr)
  obtain ⟨r, hrun, hless, hout⟩ := run_writeOf_held h rfl (by decide) (by decide)
    ((congrArg (effProtectPort rq.session rq.tag p x · _) (splitFields_u8_of_lt (by omega))).trans heff)
  have hu : r.lessAnswers = (s.quiet.waitWrite ⟨p, v, rq.session, rq.tag, s.now⟩).lessAnswers :=
    hless.trans (s.quiet.heard_elim (P := fun w => (w.waitWrite ⟨p, v, rq.session, rq.tag, w.now⟩).lessAnswers = _) rq.session fun _ => rfl)
  have hflight : r.mgmt.flight = s.mgmt.flight := (congrArg (fun w : State => w.mgmt.flight) hu :)
  have hnow : r.now = s.now := (congrArg State.now hu :)
  refine ⟨_, hrun, (congrArg (fun w : State => w.prot.writes) hu :), ?_, hout.trans ?_, ?_⟩
  · simp only [State.await, State.fixed_frame, hflight, hnow]
    rfl
  · simp only [State.waitWrite, State.heard_frame]
    rfl
  · exact congrArg (fun w => { s.fixed w with prot.writes := s.prot.writes, mgmt.flight := s.mgmt.flight }) hu

section

variable (hc : v = s.protectSet p) (hw : ∀ w ∈ s.prot.writes, w.port ≠ p)
include hc hw

theorem run_protectPort_unchanged (ha : s.edit.armed = none) (hl : s.noLease = false) :
    ∃ t, exec (.protectPortWrite rq p v) s = .next t ∧ Answered 2 (writeReq rq 0x3800 1 p (u8 v)) 0 t ∧ t.lessAnswers = s.lessAnswers := by
  obtain ⟨-, kbar, kset⟩ := s.quiet.heard_pairWrite rq.session p v
  have heff := effProtectPort_unchanged (s := s.quiet.heard rq.session) (i := rq.session) (tag := rq.tag) x hv (by rw [kset]; exact hc)
    (by simpa using hw)
  rw [kbar.trans (State.pairBarred_none (s := s.quiet) ha hl)] at heff
  obtain ⟨r, hr, hans⟩ := run_writeOf_answers h rfl (by decide) (by decide) (by decide)
    ((congrArg (effProtectPort rq.session rq.tag p x · _) (splitFields_u8_of_lt (by omega))).trans heff) rfl
  exact ⟨_, hr, hans.answered, congrArg s.fixed (hans.less.trans (s.quiet.heard_lessAnswers _))⟩

theorem run_protectPort_barred (hb : s.edit.armed.isSome = true ∨ s.noLease = true) :
    ∃ t, exec (.protectPortWrite rq p v) s = .next t ∧ Answered 2 (writeReq rq 0x3800 1 p (u8 v)) 2 t ∧ t.prot = s.prot := by
  obtain ⟨a, ha, hstatus⟩ := State.pairBarred_some hb
  obtain ⟨-, kbar, kset⟩ := s.quiet.heard_pairWrite rq.session p v
  have heff := effProtectPort_unchanged (s := s.quiet.heard rq.session) (i := rq.session) (tag := rq.tag) x hv (by rw [kset]; exact hc)
    (by simpa using hw)
  rw [kbar.trans ha] at heff
  obtain ⟨t, ht, hans, hless⟩ := run_writeOf_refusal h rfl (by decide) (by decide)
    ((congrArg (effProtectPort rq.session rq.tag p x · _) (splitFields_u8_of_lt (by omega))).trans heff) (by rw [hstatus]; decide)
  rw [hstatus] at hans
  exact ⟨t, ht, hans, (congrArg State.prot hless :)⟩

end

end

/-! A pair write is taken (07 R185). -/

/-- All but what records of applied changes write: the journal and its mirror, and the marks of what is in it (06 R164; 08 R221). -/
def State.lessMirror (s : State) : State :=
  { s with edit.journal := [], edit.head := 0, edit.mirror := 0, edit.flight := [], engA.mirrorFull := false, engB.mirrorFull := false }

theorem State.journalTrans_lessMirror (rs is : List Entry) (acc : Nat) (s : State) : (s.journalTrans rs is acc).lessMirror = s.lessMirror := by
  have hrec (kind : Nat) (e : Entry) (s : State) : (s.journal kind e 0 acc).lessMirror = s.lessMirror := by
    simp only [State.journal]
    split
    · rfl
    · rfl
  exact (State.each_keep State.lessMirror is _ (hrec 1) _).trans (State.each_keep State.lessMirror rs _ (hrec 2) s)

theorem State.journalFlight_lessMirror (s : State) : s.journalFlight.lessMirror = s.lessMirror := by
  unfold State.journalFlight
  split
  next t _ => exact State.each_keep State.lessMirror _ _ (fun (u : Trans) w => w.journalTrans_lessMirror u.removed u.inserted (u.acc.getD 0)) s
  · rfl

/-- The state without a pair write (07 R185). -/
def State.unqueueWrite (s : State) (w : PairWrite) : State := { s with prot.writes := s.prot.writes.filter fun v => decide (v ≠ w) }

/-- The state in which a pair write has its acceptance number, and its pair waits for the next activation (07 R185). -/
def State.pairNoted (s : State) (w : PairWrite) : State :=
  (s.unqueueWrite w).accept.2.modPair w.port fun x => { x with pending := w.protect != x.protect, next := w.protect }

/-- The state in which a change of the shadow page under an acceptance number is in the journal, after those accepted before it (06 R164; 07 R185). -/
def State.pairJournaled (s : State) (acc : Nat) (page : List Entry) : State :=
  s.journalFlight.journalTrans (pageDiff s.fab.shadow page) (pageDiff page s.fab.shadow) acc

/-- The state in which a pair write is in the shadow page and among the settings, and answered (07 R185). -/
def State.pairApplied (s : State) (w : PairWrite) (acc : Nat) (page : List Entry) : State :=
  (((s.pairJournaled acc page).include acc page).setStaged 0x3800 1 w.port [w.protect] (w.tag != 0xFFFF)).answerHeld w.session w.tag {}

theorem takePair_takes {s : State} {p : LaneId} {w : PairWrite} (hf : s.prot.writes.find? (fun w => w.port == (p : Nat)) = some w)
    (hh : s.pairHeld = false) (hup : s.sup.up = true) (hr : s.pairRefusal w.port w.protect = none)
    (hl : (s.pairNoted w).pageLimit (s.pairPage w.port w.protect) = none) :
    takePair p s = (s.pairNoted w).pairApplied w s.edit.nextAcc (s.pairPage w.port w.protect) := by
  have hr' : (s.unqueueWrite w).pairRefusal w.port w.protect = none := hr
  have hl' : (s.pairNoted w).pageLimit ((s.unqueueWrite w).pairPage w.port w.protect) = none := hl
  unfold State.pairNoted State.unqueueWrite at hl'
  unfold State.unqueueWrite at hr'
  simp only [takePair, hf, hh, hup, Bool.not_true, Bool.false_eq_true, or_self, if_false, hr', hl']
  rfl

theorem State.pairJournaled_lessMirror (s : State) (acc : Nat) (page : List Entry) : (s.pairJournaled acc page).lessMirror = s.lessMirror :=
  (State.journalTrans_lessMirror ..).trans s.journalFlight_lessMirror

/-- A pair write in the shadow page changes no lane and no lease, and of the edits the figures of what is included (07 R185). -/
theorem State.pairApplied_spec (s : State) {w : PairWrite} (acc : Nat) (page : List Entry) (hp : w.port < 48) :
    (s.pairApplied w acc page).fab.shadow = page ∧ (s.pairApplied w acc page).fab.active = s.fab.active ∧
    (s.pairApplied w acc page).prot = s.prot ∧ (s.pairApplied w acc page).edit.lastAcc = s.edit.lastAcc ∧
    (s.pairApplied w acc page).edit.included = s.edit.included + 1 ∧
    (s.pairApplied w acc page).cfg 0x3800 1 w.port = w.protect ∧ (s.pairApplied w acc page).lanes = s.lanes ∧
    (s.pairApplied w acc page).lease = s.lease := by
  have hj := s.pairJournaled_lessMirror acc page
  obtain ⟨m, hm⟩ := (s.pairJournaled acc page).include_eq acc page
  have hcfg (u : State) : (u.setStaged 0x3800 1 w.port [w.protect] (w.tag != 0xFFFF)).cfg 0x3800 1 w.port = w.protect := by
    rw [State.cfg, State.val_setStaged _ _ _ _ _ _ (List.cons_ne_nil _ _) (ssmKey_ne (by decide) (by decide) hp)]
    rfl
  simp only [State.pairApplied, State.answerHeld_frame, State.answerHeld_reads, State.setStaged_frame, hcfg, hm, true_and]
  exact ⟨(congrArg (fun w : State => w.fab.active) hj :), (congrArg State.prot hj :), (congrArg (fun w : State => w.edit.lastAcc) hj :),
    congrArg (· + 1) (congrArg (fun w : State => w.edit.included) hj :), (congrArg State.lanes hj :), (congrArg State.lease hj :)⟩

/-! A pair write times out (07 R185). -/

theorem pairTimeout_due {s : State} {p : LaneId} {w : PairWrite}
    (hf : s.prot.writes.find? (fun w => w.port == (p : Nat) && s.over w.since (secs 4)) = some w) :
    pairTimeout p s = (s.unqueueWrite w).answerHeld w.session w.tag (refusal stBusy) := by
  simp only [pairTimeout, hf]
  rfl

/-! The mode of a pair (07 R206). -/

theorem effPairMode_sets {s : State} {p m : Nat} (x : Session) (h : bit m 0 = true → s.forerunner p = false) :
    effPairMode p x [m] s = ok (s.setStaged 0x3800 2 p [m]) := by
  have hok : (bit m 0 && ((s.pair p).protect != 255 || (s.pair p).pending) && s.forerunner p) = false := by
    cases hb : bit m 0
    · rfl
    · simp [h hb]
  simp only [effPairMode, guardAct, List.headD_cons, hok, Bool.false_eq_true, if_false]

/-- The write of the mode of a pair (07 R206). -/
theorem run_pairMode {s : State} {rq : Rq} {x : Session} {p m : Nat} (hp : p < 48) (h : Writes rq 0x3800 2 p (u8 m) x s)
    (hb : bit m 0 = true → s.forerunner p = false) (hm : m < 256) :
    ∃ t, exec (.pairModeWrite rq p m) s = .next t ∧ Answered 2 (writeReq rq 0x3800 2 p (u8 m)) 0 t ∧ t.cfg 0x3800 2 p = m ∧
      SetsOnly 0x3800 2 p s t ∧ t.lessAnswers.lessSettings = s.lessAnswers.lessSettings := by
  have heff := effPairMode_sets (s := s.quiet.heard rq.session) (p := p) (m := m) x fun hm =>
    s.quiet.heard_elim (P := fun w => w.forerunner p = false) rq.session fun _ => hb hm
  obtain ⟨r, hr, ha⟩ := run_writeOf_answers h rfl (by decide) (by decide) (by decide)
    ((congrArg (effPairMode p x · _) (splitFields_u8_of_lt hm)).trans heff) (by simp)
  have hset := (ha.setsLane (.of_setStaged (by decide) (by decide) hp (.refl ..))).of_heard.fixed
  refine ⟨_, hr, ha.answered, hset.set, hset.sets, ?_⟩
  exact congrArg s.fixed (AnswersWith.less_of_heard (z := s.quiet.lessAnswers.lessSettings)
    (F := fun w => w.setStaged 0x3800 2 p [m]) State.lessSettings ha fun _ => rfl)

/-- Settles O18: a write by what holds or answers it, one that is taken by the page that it makes, one that times out by its absence, the mode by its
setting. -/
theorem pairsAreWrittenAndTaken : Obligations.PairsAreWrittenAndTaken := by
  unfold Obligations.PairsAreWrittenAndTaken
  refine fun s => ⟨fun rq p v x hp hv h hc hr => run_protectPort_waits hv h hc hr, fun rq p v x hp hv h hc hw => ⟨fun ha hl => ?_, fun hb => ?_⟩,
    fun p w u hf hh hup hr hu hl => ?_, fun p w hf => ?_, fun rq p m x hp h hb hm => run_pairMode hp h hb (by omega)⟩
  · exact run_protectPort_unchanged hv h hc hw ha hl
  · exact run_protectPort_barred hv h hc hw hb
  · subst hu
    have hport : w.port = p := by simpa using List.find?_some hf
    refine ⟨_, rfl, ?_⟩
    rw [takePair_takes (s := s.quiet) hf hh hup hr hl]
    exact State.pairApplied_spec (s.quiet.pairNoted w) _ _ (hport ▸ p.isLt)
  · refine ⟨_, rfl, ?_⟩
    rw [pairTimeout_due (s := s.quiet) hf]
    simp [State.unqueueWrite]

end Sys2Proof.Machine
end

section
/-! PROOFS. Whether a waiting command is to revoke the lease depends on nothing sent, posted or counted (08 R214, R219; log entry 161). -/

namespace Sys2Proof.Machine

/-- All but what is sent, posted to hoppers, and counted. -/
def State.lessPosts (s : State) : State := { s with out := [], mgmt := {}, store := {}, cnt := [] }

theorem State.event_lessPosts (s : State) (c i b e : Nat) (p : Bytes) : (s.event c i b e p).lessPosts = s.lessPosts := by
  simp [State.lessPosts]

/-- After a revocation nobody holds the lease (08 R216). -/
theorem State.revoke_holder (s : State) (cause : Nat) : (s.revoke cause).lease.holder = none := by
  cases h : s.lease.holder with
  | none => simp only [State.revoke, h]
  | some e => exact (State.revoke_lease h cause).1

/-- A declaration of TALLY revokes: revocation is set, and a takeover that TALLY caused is 10 s past (08 R219, R230). -/
def State.tallyActs (s : State) : Bool := s.cfg 0x5000 8 0 != 0 && s.lease.tallyTakeover.all fun t => s.over t (secs 10)

theorem State.tallyActs_of_set {s : State} (h : s.cfg 0x5000 8 0 ≠ 0) :
    s.tallyActs = s.lease.tallyTakeover.all fun t => s.over t (secs 10) := by
  simp only [State.tallyActs, bne_iff_ne.mpr h, Bool.true_and]

theorem State.declareTally_holder (s : State) : s.declareTally.lease.holder = if s.tallyActs then none else s.lease.holder := by
  by_cases h : s.cfg 0x5000 8 0 = 0
  · have hacts : s.tallyActs = false := by simp only [State.tallyActs, h, bne_self_eq_false, Bool.false_and]
    rw [State.declareTally, if_pos h, hacts]
    rfl
  · rw [State.tallyActs_of_set h]
    cases ht : s.lease.tallyTakeover with
    | none =>
      simp only [State.declareTally, if_neg h, ht, State.revoke_holder]
      rfl
    | some t =>
      rw [Option.all_some]
      cases ho : s.over t (secs 10)
      · simp [State.declareTally, h, ht, ho]
      · simp [State.declareTally, h, ht, ho, State.revoke_holder]

/-- A comparison is evaluated, is the third mismatch of eight, and acts (08 R219, R230). -/
def State.tallyRevokes (s : State) (c : Option (BitVec 32)) (f : BitVec 32) (loop : Bool) : Bool :=
  s.tallyEvaluated loop && decide (3 ≤ ((s.mismatch c f :: s.lease.window).take 8).countP id) && s.tallyActs

theorem compareTally_holder (c : Option (BitVec 32)) (f : BitVec 32) (loop : Bool) (s : State) :
    (compareTally c f loop s).lease.holder = if s.tallyRevokes c f loop then none else s.lease.holder := by
  have hacts : (s.compared c f).tallyActs = s.tallyActs := rfl
  by_cases h : s.tallyEvaluated loop = true
  · rw [compareTally_eq h, (s.compared_lease c f).2.2.1]
    by_cases hc : 3 ≤ ((s.mismatch c f :: s.lease.window).take 8).countP id
    · simp only [hc, if_true, State.watchEngines_frame, State.declareTally_holder, hacts, State.tallyRevokes, h, decide_true, Bool.true_and]
      rfl
    · simp only [hc, if_false, State.watchEngines_frame, State.tallyRevokes, decide_false, Bool.and_false, Bool.false_and, Bool.false_eq_true]
      rfl
  · simp [compareTally, State.tallyRevokes, h]

theorem State.ended_lessPosts (s : State) : s.lessPosts.ended = s.ended.lessPosts := by
  have h : s.lessPosts.ending = s.ending := rfl
  simp only [State.ended, h]
  split <;> rfl

/-- Whether a command revokes the lease does not depend on what was sent, posted or counted. -/
theorem State.revokes_lessPosts (s : State) (i : Instr) : s.lessPosts.revokes i = s.revokes i := by
  simp only [State.revokes]
  split
  case h_4 c f loop =>
    simp only [compareTally_holder]
    rfl
  case h_5 o =>
    simp only [State.ended_lessPosts]
    rfl
  all_goals rfl

theorem State.triggered_lessPosts (s : State) : s.lessPosts.triggered = s.triggered :=
  congrArg s.pending.any (funext s.revokes_lessPosts)

theorem State.triggered_of_lessPosts {s t : State} (h : t.lessPosts = s.lessPosts) : t.triggered = s.triggered := by
  rw [← t.triggered_lessPosts, h, s.triggered_lessPosts]

@[simp] theorem State.quiet_triggered (s : State) : s.quiet.triggered = s.triggered := State.triggered_of_lessPosts rfl

end Sys2Proof.Machine
end

section
/-! PROOFS. The lease is granted, renewed, revoked and admitted (08 R212 to R215). -/

namespace Sys2Proof.Machine

/-! Shared operations. -/

@[simp] theorem otherEng_otherEng (e : EngId) : otherEng (otherEng e) = e := by
  fin_cases e <;> rfl

theorem eq_otherEng_of_ne {e h : EngId} (hne : h ≠ e) : h = otherEng e := by
  revert hne
  fin_cases e <;> fin_cases h <;> decide

/-- All but the engines, and the conditions that alarms follow. -/
def State.lessEngines (s : State) : State := { s with engA := {}, engB := {}, store.conds := [] }

@[simp] theorem State.modEngine_lessEngines (s : State) (e : EngId) (f : Engine → Engine) : (s.modEngine e f).lessEngines = s.lessEngines := by
  unfold State.modEngine
  split <;> rfl

theorem State.lessEngines_of_lessConds {s t : State} (h : t.lessConds = s.lessConds) : t.lessEngines = s.lessEngines :=
  congrArg (fun w : State => { w with engA := {}, engB := {} }) h

@[simp] theorem State.watchEngines_lessEngines (s : State) : s.watchEngines.lessEngines = s.lessEngines :=
  State.lessEngines_of_lessConds s.watchEngines_lessConds

theorem State.watchEngines_out (s : State) : s.watchEngines.out = s.out := by simp [State.watchEngines]

@[simp] theorem State.watchEngines_prot (s : State) : s.watchEngines.prot = s.prot := by simp [State.watchEngines]

theorem State.revoke_epoch (s : State) (cause : Nat) : (s.revoke cause).lease.epoch = s.lease.epoch := by
  cases h : s.lease.holder with
  | none => simp only [State.revoke, h]
  | some e => simp [State.revoke, h]

@[simp] theorem State.recordFail_engine (s : State) (e k : EngId) (cause : Nat) :
    (s.recordFail e cause).engine k =
      if k = e then { s.engine e with cause := cause, failEpoch := s.lease.epoch, failStamp := s.stamp } else s.engine k := by
  simp only [State.recordFail, State.event_reads, State.modEngine_engine]

@[simp] theorem State.recordFail_frame (s : State) (e : EngId) (cause : Nat) :
    (s.recordFail e cause).now = s.now ∧ (s.recordFail e cause).fab = s.fab ∧ (s.recordFail e cause).lease = s.lease ∧
    (s.recordFail e cause).prot = s.prot ∧ (s.recordFail e cause).edit = s.edit := by
  simp [State.recordFail]

theorem State.recordFail_ctr {i b f e : Nat} (h : OffHoppers i b f e) (s : State) (g : EngId) (cause : Nat) :
    (s.recordFail g cause).ctr i b f e = s.ctr i b f e := by
  simp [State.recordFail, h]

/-- A grant is counted, and its engine told (08 R212). -/
def State.announce (s : State) (e : EngId) : State := ((s.count 0x5020 2 0 0).tell e true).watchEngines

theorem State.announce_frame (s : State) (e : EngId) :
    (s.announce e).lease = s.lease ∧ (s.announce e).prot = s.prot ∧ (s.announce e).fab = s.fab ∧ ∀ k, (s.announce e).engine k = s.engine k := by
  simp [State.announce, State.tell]

theorem State.announce_ctr (s : State) (e : EngId) : (s.announce e).ctr 0x5020 2 0 0 = (s.ctr 0x5020 2 0 0 + 1) % 4294967296 := by
  simp [State.announce, State.tell, State.ctr_count]

theorem State.announce_out (s : State) (e : EngId) : (s.announce e).out = s.out ++ [.lease e true s.lease.epoch s.lease.holder] := by
  rw [State.announce, State.watchEngines_out]
  rfl

/-! Expiry (08 R214). -/

section

variable {s : State} {e : EngId}

theorem State.expired_iff (h : s.lease.holder = some e) : s.expired = true ↔ s.lease.renewedAt + s.lease.expiry * 1000000 < s.now := by
  simp [State.expired, h]

theorem State.overdue_iff (h : s.lease.holder = some e) : s.overdue = true ↔ s.lease.renewedAt + s.lease.expiry * 1000000 + 1 < s.now := by
  simp [State.overdue, h]

theorem leaseLapse_stays (h : s.expired = false ∨ s.triggered = true ∨ s.overdue = false ∧ s.renewalWaits = true) : leaseLapse s = s := by
  have hc : (s.expired && !s.triggered && (s.overdue || !s.renewalWaits)) = false := by
    rcases h with h | h | ⟨h, h'⟩
    · simp [h]
    · simp [h]
    · simp [h, h']
  simp only [leaseLapse, hc, Bool.false_eq_true, if_false]

theorem leaseLapse_lapses (he : s.expired = true) (ht : s.triggered = false) (hw : s.overdue = true ∨ s.renewalWaits = false) :
    leaseLapse s = (s.revoke 4).watchEngines := by
  have hc : (s.expired && !s.triggered && (s.overdue || !s.renewalWaits)) = true := by
    rcases hw with h | h <;> simp [he, ht, h]
  simp only [leaseLapse, hc, if_true]

end

/-! Claims (08 R213). -/

/-- A claim that qualifies, once what comes before it in its cycle is done, is granted (08 R213). -/
theorem claimLease_granted {s : State} {e : EngId} {n : Nat} (hh : (leaseLapse s).lease.holder = none) (hn : n = (leaseLapse s).lease.epoch)
    (ha : ((leaseLapse s).engine e).state = .armed) (hw : e = 0 ∨ (leaseLapse s).claimWaits = false) : claimLease e n s = (leaseLapse s).grant e :=
  if_pos ⟨hh, hn, ha, hw⟩

/-- A claim that does not is refused, and counted (08 R213; log entry 61). -/
theorem claimLease_refused {s : State} {e : EngId} {n : Nat} (hx : s.expired = false)
    (h : s.lease.holder ≠ none ∨ n ≠ s.lease.epoch ∨ (s.engine e).state ≠ .armed ∨ e ≠ 0 ∧ s.claimWaits = true) :
    claimLease e n s = (s.count 0x5020 4 0 0).tell e false := by
  simp only [claimLease, leaseLapse_stays (.inl hx)]
  refine if_neg ?_
  rintro ⟨hh, hn, ha, hw⟩
  rcases h with h | h | h | ⟨h0, h⟩
  · exact h hh
  · exact h hn
  · exact h ha
  · rcases hw with hw | hw
    · exact h0 hw
    · exact absurd (h.symm.trans hw) (by decide)

/-- An engine becomes the holder (08 R213). -/
def Engine.hold (x : Engine) : Engine := { x with state := .holder, switching := false }

/-- An Armed engine goes back to Cold under another holder (08 Table 8-2). -/
def Engine.standDown (x : Engine) : Engine := if x.state = .armed then { x with state := .cold, switching := false } else x

theorem Engine.standDown_state (x : Engine) : x.standDown.state ≠ .armed := by
  unfold Engine.standDown
  split
  · exact EngState.noConfusion
  · assumption

theorem Engine.standDown_failed {x : Engine} (h : x.state = .failed) : x.standDown = x := if_neg (by rw [h]; exact EngState.noConfusion)

/-- The lease of the next epoch, whose egress is not yet admitted (08 R212 to R214). -/
def State.nextLease (s : State) (e : EngId) : State :=
  { s with
    lease.holder := some e, lease.epoch := nextEpoch s.lease.epoch, lease.admitted := false
    lease.grantAt := s.now, lease.renewedAt := s.now }

theorem State.nextLease_engine (s : State) (e k : EngId) : (s.nextLease e).engine k = s.engine k := rfl

theorem State.nextLease_ctr (s : State) (e : EngId) (i b f n : Nat) : (s.nextLease e).ctr i b f n = s.ctr i b f n := rfl

theorem State.grant_eq (s : State) (e : EngId) :
    s.grant e = (((s.nextLease e).modEngine e Engine.hold).modEngine (otherEng e) Engine.standDown).announce e := rfl

/-- All but what a grant writes: the engines, the lease, counters, the conditions that alarms follow, and what is sent. -/
def State.lessGrant (s : State) : State := { s.lessEngines with lease := {}, cnt := [], out := [] }

theorem State.eq_of_lessGrant {s t : State} (h : t.lessGrant = s.lessGrant) :
    { t with lease := s.lease, engA := s.engA, engB := s.engB, cnt := s.cnt, store.conds := s.store.conds, out := s.out } = s :=
  (congrArg (fun w : State => { w with
    lease := s.lease, engA := s.engA, engB := s.engB, cnt := s.cnt, store.conds := s.store.conds, out := s.out }) h :)

theorem State.lessGrant_of_lessEngines {s t : State} (h : t.lessEngines = s.lessEngines) : t.lessGrant = s.lessGrant :=
  congrArg (fun w : State => { w with lease := {}, cnt := [], out := [] }) h

theorem State.grant_lessGrant (s : State) (e : EngId) : (s.grant e).lessGrant = s.lessGrant := by
  have hmod (w : State) (k : EngId) (f : Engine → Engine) := State.lessGrant_of_lessEngines (w.modEngine_lessEngines k f)
  have hannounce (w : State) : (w.announce e).lessGrant = w.lessGrant :=
    (State.lessGrant_of_lessEngines (State.watchEngines_lessEngines _)).trans rfl
  rw [State.grant_eq, hannounce, hmod, hmod]
  rfl

/-- The claimer holds the lease of the next epoch, and the other engine is not Armed; beside the lease, the engines and what reports them nothing
changes (08 R213, R214). -/
structure Granted (e : EngId) (s t : State) : Prop where
  lease : t.lease = (s.nextLease e).lease
  holder : (t.engine e).state = .holder
  other : t.engine (otherEng e) = (s.engine (otherEng e)).standDown
  ctr : t.ctr 0x5020 2 0 0 = (s.ctr 0x5020 2 0 0 + 1) % 4294967296
  out : t.out = s.out ++ [.lease e true (nextEpoch s.lease.epoch) (some e)]
  keep : { t with lease := s.lease, engA := s.engA, engB := s.engB, cnt := s.cnt, store.conds := s.store.conds, out := s.out } = s

theorem State.grant_granted (s : State) (e : EngId) : Granted e s (s.grant e) where
  lease := by rw [State.grant_eq]; simp [State.announce_frame]
  holder := by rw [State.grant_eq]; simp [State.announce_frame, (otherEng_ne e).symm, Engine.hold]
  other := by rw [State.grant_eq]; simp [State.announce_frame, State.nextLease_engine]
  ctr := by rw [State.grant_eq]; simp [State.announce_ctr, State.nextLease_ctr]
  out := by rw [State.grant_eq]; simp [State.announce_out, State.nextLease]
  keep := State.eq_of_lessGrant (s.grant_lessGrant e)

theorem Granted.fab {e : EngId} {s t : State} (h : Granted e s t) : t.fab = s.fab := (congrArg State.fab h.keep :)

/-- Nobody holds the lease: an engine that qualifies is granted it (08 R213). -/
theorem run_claim_granted {s : State} {e : EngId} {n : Nat} (hh : s.lease.holder = none) (hn : n = s.lease.epoch)
    (ha : (s.engine e).state = .armed) (hw : e = 0 ∨ s.claimWaits = false) :
    ∃ t, exec (.claim e n) s = .next t ∧ t.lease.holder = some e ∧ t.lease.epoch = nextEpoch s.lease.epoch ∧ t.lease.admitted = false ∧
      t.lease.grantAt = s.now ∧ t.lease.renewedAt = s.now ∧ (t.engine e).state = .holder ∧ (t.engine (otherEng e)).state ≠ .armed ∧
      t.ctr 0x5020 2 0 0 = (s.ctr 0x5020 2 0 0 + 1) % 4294967296 ∧ t.out = [.lease e true (nextEpoch s.lease.epoch) (some e)] ∧
      { t with lease := s.lease, engA := s.engA, engB := s.engB, cnt := s.cnt, store.conds := s.store.conds, out := [] } = s.quiet := by
  have hstay : leaseLapse s.quiet = s.quiet := leaseLapse_stays (.inl (by simp [State.expired, hh]))
  have hg := claimLease_granted (s := s.quiet) (e := e) (n := n)
  rw [hstay] at hg
  replace hg := hg hh hn ha hw
  obtain ⟨hlease, hhold, hother, hctr, hout, hkeep⟩ := s.quiet.grant_granted e
  refine ⟨_, rfl, ?_⟩
  rw [hg]
  generalize s.quiet.grant e = t at *
  have hnot : (t.engine (otherEng e)).state ≠ .armed := hother ▸ Engine.standDown_state _
  simp only [State.fixed_frame, hlease]
  exact ⟨rfl, rfl, rfl, rfl, rfl, hhold, hnot, hctr, hout, congrArg s.fixed hkeep⟩

/-- The lease of the other engine lapses in the cycle of a claim: its holder fails first, and the claimer takes over (08 R213, R214). -/
theorem run_claim_takesOver {s : State} {e h : EngId} {n : Nat} (hh : s.lease.holder = some h) (hne : h ≠ e) (hn : n = s.lease.epoch)
    (ha : (s.engine e).state = .armed) (hlapse : leaseLapse s.quiet = (s.quiet.revoke 4).watchEngines) :
    ∃ t, exec (.claim e n) s = .next t ∧ t.lease.holder = some e ∧ t.lease.epoch = nextEpoch s.lease.epoch ∧ t.lease.admitted = false ∧
      (t.engine h).state = .failed ∧ (t.engine h).cause = 4 ∧ t.lanes = s.lanes ∧ t.fab = s.fab := by
  obtain rfl := eq_otherEng_of_ne hne
  have hfailed : (leaseLapse s.quiet).engine (otherEng e) = (s.engine (otherEng e)).failed 4 s.lease.epoch s.stamp s.now := by
    rw [hlapse, (State.watchEngines_reads _).1, State.revoke_engine (s := s.quiet) hh, if_pos rfl]
    rfl
  have hclaimer : (leaseLapse s.quiet).engine e = s.engine e := by
    rw [hlapse, (State.watchEngines_reads _).1, State.revoke_engine (s := s.quiet) hh, if_neg hne.symm]
    rfl
  have hlone : e = 0 ∨ (leaseLapse s.quiet).claimWaits = false := by
    fin_cases e
    · exact .inl rfl
    · have hA : (leaseLapse s.quiet).engA = _ := hfailed
      exact .inr (by simp [State.claimWaits, hA, Engine.failed])
  have hg : claimLease e n s.quiet = (leaseLapse s.quiet).grant e := by
    refine claimLease_granted ?_ ?_ (hclaimer ▸ ha) hlone
    · simp [hlapse, State.revoke_holder]
    · simp [hlapse, State.revoke_epoch, hn]
  have hgranted := (leaseLapse s.quiet).grant_granted e
  have hkept : ((leaseLapse s.quiet).grant e).engine (otherEng e) = (leaseLapse s.quiet).engine (otherEng e) := by
    rw [hgranted.other]
    exact Engine.standDown_failed (by rw [hfailed]; rfl)
  have hepoch : (leaseLapse s.quiet).lease.epoch = s.lease.epoch := by simp [hlapse, State.revoke_epoch]
  have hfab : (leaseLapse s.quiet).fab = s.fab := by simp [hlapse]
  refine ⟨_, rfl, ?_⟩
  simp only [State.fixed_frame, State.fixed_reads, hg, hkept, hfailed, hgranted.lease, hgranted.fab, hfab, State.grant_lanes, leaseLapse_lanes]
  exact ⟨rfl, congrArg nextEpoch hepoch, rfl, rfl, rfl, rfl, trivial⟩

/-! Renewals (08 R212, R213, Table 8-3). -/

theorem renew_accepted {s : State} {e : EngId} (hh : s.lease.holder = some e) (ho : s.overdue = false) (ht : s.triggered = false) :
    renew e s.lease.epoch s = ({ s with lease.renewedAt := s.now, lease.expiry := s.cfg 0x5000 1 0 }).tell e true :=
  if_pos ⟨hh, rfl, ho, ht⟩

/-- A refused renewal is counted, and the lease as it stands is written as an event (08 R213). -/
def State.noteRefusal (s : State) : State := (s.count 0x5020 3 0 0).event 4 0x5020 1 0 (s.count 0x5020 3 0 0).leaseValue

theorem State.noteRefusal_frame (s : State) :
    s.noteRefusal.fab = s.fab ∧ s.noteRefusal.lease = s.lease ∧ ∀ e, s.noteRefusal.engine e = s.engine e := by
  simp [State.noteRefusal]

theorem State.noteRefusal_triggered (s : State) : s.noteRefusal.triggered = s.triggered :=
  State.triggered_of_lessPosts (State.event_lessPosts ..)

theorem State.noteRefusal_ctr (s : State) : s.noteRefusal.ctr 0x5020 3 0 0 = (s.ctr 0x5020 3 0 0 + 1) % 4294967296 := by
  rw [State.noteRefusal, State.event_ctr (offHoppers_below (by decide) (by decide)), State.ctr_count]

/-- The sender of a refused renewal has lost the lease, with the cause of a refused renewal (08 R213, Table 8-3). -/
structure Deposed (e : EngId) (s t : State) : Prop where
  holder : t.lease.holder = none
  admitted : t.lease.admitted = false
  failed : (t.engine e).state = .failed
  cause : (t.engine e).cause = 7
  ctr : t.ctr 0x5020 3 0 0 = (s.ctr 0x5020 3 0 0 + 1) % 4294967296
  fab : t.fab = s.fab

theorem Deposed.told {e : EngId} {s t : State} (h : Deposed e s t) : Deposed e s (t.tell e false).watchEngines := by
  obtain ⟨hh, ha, hf, hc, hctr, hfab⟩ := h
  constructor <;> simpa [State.tell]

section

variable {s : State} {e : EngId} (h : s.lease.holder = some e)
include h

/-- In its cycle a renewal of another epoch revokes the lease of its sender (08 R213). -/
theorem State.depose_holder (ht : s.triggered = false) : Deposed e s (s.noteRefusal.depose e false) := by
  obtain ⟨hfab, hlease, heng⟩ := s.noteRefusal_frame
  have hh : s.noteRefusal.lease.holder = some e := by rw [hlease, h]
  have hoff : OffHoppers 0x5020 3 0 0 := offHoppers_below (by decide) (by decide)
  simp only [State.depose, hh, if_true, s.noteRefusal_triggered, ht, Bool.false_eq_true, if_false]
  obtain ⟨hhold, hadm⟩ := State.revoke_lease hh 7
  have heng := State.revoke_engine hh 7 e
  rw [if_pos rfl] at heng
  refine ⟨hhold, hadm, congrArg Engine.state heng, congrArg Engine.cause heng, ?_, ?_⟩
  · rw [State.revoke_ctr hoff (by decide), s.noteRefusal_ctr]
  · simp [hfab]

/-- After the cycle of the expiry the lease has lapsed, and the renewal deposes its sender (08 R213, R214). -/
theorem State.depose_late : Deposed e s ((s.revoke 4).noteRefusal.depose e true) := by
  obtain ⟨hfab, hlease, heng⟩ := (s.revoke 4).noteRefusal_frame
  obtain ⟨hhold, hadm⟩ := State.revoke_lease h 4
  have hoff : OffHoppers 0x5020 3 0 0 := offHoppers_below (by decide) (by decide)
  have hfailed : ((s.revoke 4).noteRefusal.engine e).state = .failed := by simp [heng, State.revoke_engine h, Engine.failed]
  have hdep : (s.revoke 4).noteRefusal.depose e true = (s.revoke 4).noteRefusal.recordFail e 7 := by
    simp [State.depose, hlease, hhold, hfailed]
  rw [hdep]
  refine ⟨?_, ?_, ?_, ?_, ?_, ?_⟩
  · simp [hlease, hhold]
  · simp [hlease, hadm]
  · simp [hfailed]
  · simp
  · rw [State.recordFail_ctr hoff, State.noteRefusal_ctr, State.revoke_ctr hoff (by decide)]
  · simp [hfab]

theorem renew_deposes {n : Nat} (ht : s.triggered = false) (hn : n ≠ s.lease.epoch ∨ s.overdue = true) : Deposed e s (renew e n s) := by
  have hc : ¬ (s.lease.holder = some e ∧ n = s.lease.epoch ∧ s.overdue = false ∧ s.triggered = false) := by
    rintro ⟨-, hn', ho, -⟩
    rcases hn with hn | hn
    · exact hn hn'
    · exact absurd (hn.symm.trans ho) (by decide)
  rw [renew, if_neg hc]
  cases ho : s.overdue
  · exact (State.depose_holder h ht).told
  · exact (State.depose_late h).told

end

/-! Admission (08 R214, R230). -/

/-- The egress of the holder is admitted, with every selector at rest (08 R214; 07 R198). -/
def State.openSluice (s : State) : State :=
  State.freshSelectors { s with
    lease.admitted := true, lease.window := [], lease.revokedAt := none
    lease.tallyTakeover := if s.lease.revokedAt.isSome ∧ s.lease.revokeCause = 1 then some s.now else none }

/-- A takeover is timed, counted, written and logged (08 Table 8-10). -/
def State.noteTakeover (s : State) (t : Nat) : State :=
  let w := { s with lease.lastTakeover := (s.now - t) / 1000 }.count 0x5020 5 0 0
  (w.event 1 0x5020 1 0 w.leaseValue).auditObj 0x5020 1 0

/-- A committed activation of mode 0 takes its target from the admission (06 Table 6-11). -/
def State.retarget (s : State) : State :=
  match s.edit.armed with
  | some a => if a.mode = 0 ∧ a.state = 4 then s.setTarget else s
  | none => s

theorem admitHolder_eq {s : State} {e : EngId} (hh : s.lease.holder = some e) (ha : s.lease.admitted = false)
    (ho : s.over s.lease.grantAt 10000 = true) :
    admitHolder s = (match s.lease.revokedAt with | some t => s.openSluice.noteTakeover t | none => s.openSluice).retarget.watchEngines := by
  have hc : (s.lease.holder.isSome && !s.lease.admitted && s.over s.lease.grantAt 10000) = true := by simp [hh, ha, ho]
  rw [admitHolder, if_pos hc]
  rfl

theorem State.retarget_frame (s : State) :
    s.retarget.fab = s.fab ∧ s.retarget.lease = s.lease ∧ s.retarget.prot = s.prot ∧ s.retarget.cnt = s.cnt := by
  unfold State.retarget
  repeat' split
  all_goals exact ⟨rfl, rfl, rfl, rfl⟩

theorem State.noteTakeover_frame (s : State) (t : Nat) :
    (s.noteTakeover t).fab = s.fab ∧ (s.noteTakeover t).lease = { s.lease with lastTakeover := (s.now - t) / 1000 } ∧
    (s.noteTakeover t).prot = s.prot := by
  simp [State.noteTakeover]

theorem State.noteTakeover_ctr (s : State) (t : Nat) : (s.noteTakeover t).ctr 0x5020 5 0 0 = (s.ctr 0x5020 5 0 0 + 1) % 4294967296 := by
  have hoff : OffHoppers 0x5020 5 0 0 := offHoppers_below (by decide) (by decide)
  have haudit (w : State) : (w.auditObj 0x5020 1 0).ctr 0x5020 5 0 0 = w.ctr 0x5020 5 0 0 := by
    rw [State.ctr, State.auditObj, State.audit_cnt _ (by simp [moduleRec])]
    rfl
  rw [State.noteTakeover, haudit, State.event_ctr hoff, State.ctr_count]
  rfl

/-- The holder is admitted: its tally window is empty, its selectors are at rest and are to be written back (08 R214, R230; 07 R198). -/
structure Admitted (s t : State) : Prop where
  admitted : t.lease.admitted = true
  holder : t.lease.holder = s.lease.holder
  epoch : t.lease.epoch = s.lease.epoch
  window : t.lease.window = []
  writeBack : t.prot.writeBack = true
  fab : t.fab = { s.fab with sel := [], lineSel := [] }

theorem State.openSluice_admitted (s : State) : Admitted s s.openSluice := ⟨rfl, rfl, rfl, rfl, rfl, rfl⟩

theorem Admitted.took {s t : State} (h : Admitted s t) (at_ : Nat) : Admitted s (t.noteTakeover at_) := by
  obtain ⟨hfab, hlease, hprot⟩ := t.noteTakeover_frame at_
  obtain ⟨ha, hh, he, hw, hb, hf⟩ := h
  constructor <;> simpa [hfab, hlease, hprot]

theorem Admitted.retargeted {s t : State} (h : Admitted s t) : Admitted s t.retarget.watchEngines := by
  obtain ⟨hfab, hlease, hprot, -⟩ := t.retarget_frame
  obtain ⟨ha, hh, he, hw, hb, hf⟩ := h
  constructor <;> simpa [hfab, hlease, hprot]

theorem State.retarget_ctr (s : State) (i b f e : Nat) : s.retarget.watchEngines.ctr i b f e = s.ctr i b f e := by
  simp [State.ctr, s.retarget_frame]

/-- Ten microseconds after the grant the holder is admitted; after a revocation this counts as a takeover (08 R214, Table 8-10). -/
theorem admitHolder_spec {s : State} {e : EngId} (hh : s.lease.holder = some e) (ha : s.lease.admitted = false)
    (ho : s.over s.lease.grantAt 10000 = true) :
    Admitted s (admitHolder s) ∧
    (s.lease.revokedAt.isSome = true → (admitHolder s).ctr 0x5020 5 0 0 = (s.ctr 0x5020 5 0 0 + 1) % 4294967296) := by
  rw [admitHolder_eq hh ha ho]
  cases s.lease.revokedAt with
  | none => exact ⟨s.openSluice_admitted.retargeted, fun h => absurd h (by decide)⟩
  | some t =>
    refine ⟨(s.openSluice_admitted.took t).retargeted, fun _ => ?_⟩
    rw [State.retarget_ctr, State.noteTakeover_ctr]
    rfl

/-- Settles O22: a claim by the grant that it qualifies for, a renewal by what deposes its sender, an expiry by the revocation, an admission by what it
opens. -/
theorem theLeaseIsClaimedRenewedAndLapses : Obligations.TheLeaseIsClaimedRenewedAndLapses := by
  unfold Obligations.TheLeaseIsClaimedRenewedAndLapses
  refine fun s e => ⟨fun n hh hn ha hw => ?_, fun n h hh hne hn ha hx ht hw => ?_, fun n hx h => ?_, fun n hh hn hx ht => ?_, fun n hh ht hn => ?_,
    fun h => ?_, fun hh hx ht hw => ?_, fun hh ha ho => ?_⟩
  · exact run_claim_granted hh hn ha hw
  · have hlapse : leaseLapse s.quiet = (s.quiet.revoke 4).watchEngines :=
      leaseLapse_lapses ((State.expired_iff (s := s.quiet) hh).mpr hx) (by simpa) (.inr hw)
    exact run_claim_takesOver hh hne hn ha hlapse
  · refine ⟨_, rfl, ?_⟩
    rw [claimLease_refused (s := s.quiet) hx h]
    exact ⟨rfl, s.ctr_count .., rfl⟩
  · subst hn
    have ho : s.quiet.overdue = false := by simpa using (State.overdue_iff (s := s.quiet) hh).not.mpr (Nat.not_lt.mpr hx)
    refine ⟨_, rfl, ?_⟩
    rw [show s.lease.epoch = s.quiet.lease.epoch from rfl, renew_accepted (s := s.quiet) hh ho (by simpa), ← hh]
    rfl
  · have hd : Deposed e s.quiet (renew e n s.quiet) :=
      renew_deposes (s := s.quiet) hh (by simpa) (hn.imp_right (State.overdue_iff (s := s.quiet) hh).mpr)
    exact ⟨_, rfl, hd.holder, hd.admitted, hd.failed, hd.cause, hd.ctr, renew_lanes .., hd.fab⟩
  · refine ⟨_, rfl, ?_⟩
    rw [leaseLapse_stays (s := s.quiet) (h.imp_right (Or.imp_left s.quiet_triggered.trans))]
    rfl
  · have hlapse : leaseLapse s.quiet = (s.quiet.revoke 4).watchEngines :=
      leaseLapse_lapses ((State.expired_iff (s := s.quiet) hh).mpr hx) (by simpa) (hw.imp_left (State.overdue_iff (s := s.quiet) hh).mpr)
    obtain ⟨hhold, hadm⟩ := State.revoke_lease (s := s.quiet) hh 4
    have heng := State.revoke_engine (s := s.quiet) hh 4
    refine ⟨_, rfl, ?_⟩
    rw [hlapse]
    simp [hhold, hadm, heng, State.revoke_epoch, Engine.failed]
  · obtain ⟨⟨hadm, hhold, hepoch, hwin, hback, hfab⟩, htook⟩ := admitHolder_spec (s := s.quiet) hh ha ho
    refine ⟨_, rfl, hadm, hhold.trans hh, hepoch, hwin, hback, ?_, ?_, ?_, admitHolder_lanes .., htook⟩
    all_goals exact (congrArg _ hfab).trans rfl

end Sys2Proof.Machine
end

section
/-! PROOFS. Engines wake, and hand the lease over (08 R211, R223 to R225, R227). -/

namespace Sys2Proof.Machine

/-! Per-frame lease state (08 R211). -/

theorem leaseState_wakes {s : State} {e : EngId} (hh : s.lease.holder = none)
    (hs : (s.engine e).state = .cold ∨ (s.engine e).state = .refreshing) :
    leaseState e s = (s.modEngine e fun x => { x with state := .waking }).watchEngines := by
  rcases hs with hs | hs <;> simp only [leaseState, hs, hh]

theorem leaseState_yields {s : State} {e h : EngId} (hh : s.lease.holder = some h) (hne : h ≠ e) (hs : (s.engine e).state = .armed)
    (hw : (s.engine e).switching = false) :
    leaseState e s = (s.modEngine e fun x => { x with state := .cold }).watchEngines := by
  simp only [leaseState, hs, hh, hw, ne_eq, hne, not_false_eq_true, and_self, if_true]

/-- What changes engines and the conditions of alarms alone leaves, with those put back, the state as the command found it. -/
theorem State.fixed_of_lessEngines {s t : State} (h : t.lessEngines = s.quiet.lessEngines) :
    { s.fixed t with engA := s.engA, engB := s.engB, store.conds := s.store.conds } = s.quiet :=
  (congrArg (fun w : State => { s.fixed w with engA := s.engA, engB := s.engB, store.conds := s.store.conds }) h :)

/-- A change of one engine, of which alarms take note, changes nothing else (08 R211, R231). -/
theorem State.fixed_watchedEngine (s : State) (e : EngId) (f : Engine → Engine) :
    (∀ k, (s.fixed (s.quiet.modEngine e f).watchEngines).engine k = if k = e then f (s.engine e) else s.engine k) ∧
    { s.fixed (s.quiet.modEngine e f).watchEngines with engA := s.engA, engB := s.engB, store.conds := s.store.conds } = s.quiet :=
  ⟨fun k => by simp, State.fixed_of_lessEngines (by rw [State.watchEngines_lessEngines, State.modEngine_lessEngines])⟩

/-! The end of a wake (08 R223 to R225, R453). -/

/-- A woken engine is Armed; with nobody holding the lease, its pages are those of its checkpoint and the journal (08 R223, R225). -/
def State.armEngine (s : State) (e : EngId) (i : Image) : State :=
  let w := s.modEngine e fun x => { x with state := .armed, armedAt := s.now }
  if w.lease.holder.isNone then w.loadPages i else w

theorem State.loadPages_engine (s : State) (i : Image) (e : EngId) : (s.loadPages i).engine e = s.engine e := rfl

theorem State.armEngine_engine (s : State) (e k : EngId) (i : Image) :
    (s.armEngine e i).engine k = if k = e then { s.engine e with state := .armed, armedAt := s.now } else s.engine k := by
  simp only [State.armEngine]
  split <;> simp only [State.loadPages_engine, State.modEngine_engine]

theorem State.armEngine_lease (s : State) (e : EngId) (i : Image) : (s.armEngine e i).lease = s.lease := by
  simp only [State.armEngine]
  split <;> simp [State.loadPages]

theorem State.armEngine_vacant {s : State} (h : s.lease.holder = none) (e : EngId) (i : Image) :
    (s.armEngine e i).fab.active = (replay i s.edit.journal).1 := by
  simp [State.armEngine, State.loadPages, h]

theorem State.armEngine_held {s : State} (h : s.lease.holder ≠ none) (e : EngId) (i : Image) : (s.armEngine e i).fab = s.fab := by
  simp [State.armEngine, h]

/-- All but the engines, the conditions that alarms follow, and the pages. -/
def State.lessPages (s : State) : State := { s.lessEngines with fab := {} }

theorem State.armEngine_lessPages (s : State) (e : EngId) (i : Image) : (s.armEngine e i).lessPages = s.lessPages := by
  have hmod (f : Engine → Engine) : (s.modEngine e f).lessPages = s.lessPages :=
    congrArg (fun w : State => { w with fab := {} }) (s.modEngine_lessEngines e f)
  have hload (w : State) : (w.loadPages i).lessPages = w.lessPages := rfl
  simp only [State.armEngine]
  split
  · rw [hload, hmod]
  · rw [hmod]

theorem State.fixed_of_lessPages {s t : State} (h : t.lessPages = s.quiet.lessPages) :
    { s.fixed t with engA := s.engA, engB := s.engB, store.conds := s.store.conds, fab := s.fab } = s.quiet :=
  (congrArg (fun w : State => { s.fixed w with engA := s.engA, engB := s.engB, store.conds := s.store.conds, fab := s.fab }) h :)

theorem wakeEnd_done {s : State} {e : EngId} {i : Image} (hs : (s.engine e).state = .waking) (hn : (s.engine e).newer = some i) :
    wakeEnd e .done s = (s.armEngine e i).watchEngines := by
  simp only [wakeEnd, hs, hn, if_true, reduceCtorEq, if_false]
  rfl

/-- The older area serves where the newer is found bad (08 R224). -/
theorem wakeEnd_older {s : State} {e : EngId} {i : Image} (hs : (s.engine e).state = .waking) (hn : ((s.newerBad e).engine e).newer = some i) :
    wakeEnd e .older s = ((s.newerBad e).armEngine e i).watchEngines := by
  simp only [wakeEnd, hs, if_true, hn]
  rfl

theorem wakeEnd_faulty {s : State} {e : EngId} {r : WakeResult} (hs : (s.engine e).state = .waking) (hd : r ≠ .done) (ho : r ≠ .older) :
    wakeEnd e r s = (s.failEngine e 9).watchEngines := by
  simp only [wakeEnd, hs, if_true, ho, if_false]
  split
  · exact absurd rfl hd
  · rfl

/-- Without a good area a wake fails (08 R224). -/
theorem wakeEnd_noArea {s : State} {e : EngId} (hs : (s.engine e).state = .waking) (hn : ((s.newerBad e).engine e).newer = none) :
    wakeEnd e .older s = ((s.newerBad e).failEngine e 9).watchEngines := by
  simp only [wakeEnd, hs, if_true, hn]

/-- The engine whose newer area is found bad (08 R224, R453). -/
def Engine.voidNewer (x : Engine) : Engine := if x.newer = some x.area1 then { x with area1 := {} } else { x with area0 := {} }

theorem State.newerBad_eq (s : State) (e : EngId) : s.newerBad e = (s.modEngine e Engine.voidNewer).recordFail e 2 := rfl

theorem State.newerBad_engine (s : State) (e k : EngId) :
    (s.newerBad e).engine k =
      if k = e then { (s.engine e).voidNewer with cause := 2, failEpoch := s.lease.epoch, failStamp := s.stamp } else s.engine k := by
  have hstamp : (s.modEngine e Engine.voidNewer).stamp = s.stamp := by simp [State.stamp]
  rw [State.newerBad_eq, State.recordFail_engine, State.modEngine_engine, State.modEngine_engine, hstamp]
  split <;> simp

theorem State.newerBad_frame (s : State) (e : EngId) : (s.newerBad e).fab = s.fab ∧ (s.newerBad e).lease = s.lease := by
  simp [State.newerBad_eq]

/-- Of two good areas the older is left (08 R224). -/
theorem Engine.voidNewer_both {x : Engine} (h0 : x.area0.valid = true) (h1 : x.area1.valid = true) :
    (x.voidNewer.area0.valid && x.voidNewer.area1.valid) = false ∧ ∃ i, x.voidNewer.newer = some i := by
  unfold Engine.voidNewer
  split <;> simp [Engine.newer, h0, h1]

/-- Where not both areas are good, none is left (08 R224). -/
theorem Engine.voidNewer_one {x : Engine} (h : (x.area0.valid && x.area1.valid) = false) : x.voidNewer.newer = none := by
  rw [Engine.voidNewer]
  split
  next hn =>
    have h0 : x.area0.valid = false := by
      cases h0 : x.area0.valid
      · rfl
      · have h1 : x.area1.valid = false := by simpa [h0] using h
        simp only [Engine.newer, h0, h1, Option.some.injEq] at hn
        rw [← h0, hn, h1]
    simp [Engine.newer, h0]
  next hn =>
    have h1 : x.area1.valid = false := by
      cases h1 : x.area1.valid
      · rfl
      · have h0 : x.area0.valid = false := by simpa [h1] using h
        exact absurd (by simp only [Engine.newer, h0, h1]) hn
    simp [Engine.newer, h1]

/-- An engine after a wake that has failed (08 R224): beside it, the pages, the lease and the other engine are as they were. -/
structure WakeFailed (e : EngId) (s t : State) : Prop where
  failed : (t.engine e).state = .failed
  cause : (t.engine e).cause = 9
  other : t.engine (otherEng e) = s.engine (otherEng e)
  lease : t.lease = s.lease
  fab : t.fab = s.fab

theorem wakeEnd_fails {s : State} {e : EngId} {r : WakeResult} (hs : (s.engine e).state = .waking) (hd : r ≠ .done)
    (ho : r = .older → ((s.engine e).area0.valid && (s.engine e).area1.valid) = false) : WakeFailed e s (wakeEnd e r s) := by
  by_cases hr : r = .older
  · subst hr
    have hn : ((s.newerBad e).engine e).newer = none := by
      rw [State.newerBad_engine, if_pos rfl]
      exact Engine.voidNewer_one (ho rfl)
    obtain ⟨hfab, hlease⟩ := s.newerBad_frame e
    rw [wakeEnd_noArea hs hn]
    constructor <;> simp [Engine.failed, State.newerBad_engine, hfab, hlease]
  · rw [wakeEnd_faulty hs hd hr]
    constructor <;> simp [Engine.failed]

/-- An engine is Armed on its older area, the newer one being bad (08 R224, R453). -/
structure ArmedOnOlder (e : EngId) (s t : State) : Prop where
  armed : (t.engine e).state = .armed
  cause : (t.engine e).cause = 2
  areas : ((t.engine e).area0.valid && (t.engine e).area1.valid) = false
  other : t.engine (otherEng e) = s.engine (otherEng e)
  lease : t.lease = s.lease

theorem wakeEnd_armsOnOlder {s : State} {e : EngId} (hs : (s.engine e).state = .waking) (h0 : (s.engine e).area0.valid = true)
    (h1 : (s.engine e).area1.valid = true) : ArmedOnOlder e s (wakeEnd e .older s) := by
  obtain ⟨hareas, i, hi⟩ := Engine.voidNewer_both h0 h1
  have heng := s.newerBad_engine e e
  rw [if_pos rfl] at heng
  have hn : ((s.newerBad e).engine e).newer = some i := by rw [heng]; exact hi
  rw [wakeEnd_older hs hn]
  constructor <;> simp only [State.watchEngines_reads, State.watchEngines_frame, State.armEngine_engine, State.armEngine_lease, if_true,
    otherEng_ne, if_false]
  · rw [heng]
  · rw [heng]
    exact hareas
  · rw [State.newerBad_engine, if_neg (otherEng_ne e)]
  · exact (s.newerBad_frame e).2

/-! Manual switch (08 R227). -/

/-- An engine wakes for a manual switch (08 R227). -/
def Engine.wakeToSwitch (x : Engine) : Engine := { x with state := .waking, switching := true }

theorem effManualSwitch_ready {s : State} {e : EngId} (hh : s.lease.holder = some (otherEng e)) (hr : s.readyEngine (s.engine e) = true)
    (hf : s.refreshing = false) (hm : s.restartingEng = false) (x : Session) (vs : List Nat) :
    effManualSwitch x vs s = ok (s.modEngine e Engine.wakeToSwitch) := by
  simp only [effManualSwitch, hh, otherEng_otherEng, hr, hf, hm, Bool.not_false, Bool.and_self, if_true]
  rfl

/-- An answer leaves the engines alone. -/
theorem AnswersWith.engine {q : Req} {status : Nat} {u r : State} (h : AnswersWith q status u r) (k : EngId) : r.engine k = u.engine k :=
  (congrArg (fun w : State => w.engine k) h.less :)

/-- The write of a manual switch wakes the ready engine (08 R227). -/
theorem run_manualSwitch {s : State} {rq : Rq} {arg : Byte} {x : Session} {e : EngId} (h : Writes rq 0x5000 3 0 [arg] x s)
    (hh : s.lease.holder = some (otherEng e)) (hr : s.readyEngine (s.engine e) = true) (hf : s.refreshing = false)
    (hm : s.restartingEng = false) :
    ∃ t, exec (.manualSwitch rq arg) s = .next t ∧ Answered 2 (writeReq rq 0x5000 3 0 [arg]) 0 t ∧
      (∀ k, t.engine k = if k = e then (s.engine e).wakeToSwitch else s.engine k) ∧
      { t.lessAnswers with engA := s.engA, engB := s.engB } = s.lessAnswers := by
  have heff (vs : List Nat) :=
    s.quiet.heard_elim (P := fun w => effManualSwitch x vs w = ok (w.modEngine e Engine.wakeToSwitch)) rq.session
      fun m => effManualSwitch_ready (s := { s.quiet with mgmt.sessions := m }) hh hr hf hm x vs
  obtain ⟨r, hrun, ha⟩ := run_writeOf_answers h rfl (by decide) (by decide) (by decide) (heff _) (by simp)
  refine ⟨_, hrun, ha.answered, fun k => (ha.engine k).trans (by simp), ?_⟩
  exact congrArg s.fixed (AnswersWith.less_of_heard (z := s.quiet.lessAnswers) (F := fun w => w.modEngine e Engine.wakeToSwitch)
    (fun w => { w with engA := s.engA, engB := s.engB }) ha fun m =>
      congrArg State.lessAnswers (State.modEngine_keep { s.quiet with mgmt.sessions := m } e _))

/-! Handover (08 R227). -/

/-- What a handover leaves: the lease of the next epoch, admitted, at the Armed engine, and the engine that held it restarting (08 R227). -/
structure HandedOver (e : EngId) (s t : State) : Prop where
  lease : t.lease.holder = some e ∧ t.lease.epoch = nextEpoch s.lease.epoch ∧ t.lease.admitted = true
  taker : (t.engine e).state = .holder
  giver : (t.engine (otherEng e)).state = .restarting ∧ (t.engine (otherEng e)).cause = 8
  writeBack : t.prot.writeBack = true
  page : t.fab.active = s.fab.active
  ctr : t.ctr 0x5020 2 0 0 = (s.ctr 0x5020 2 0 0 + 1) % 4294967296

/-- The engines as a handover leaves them (08 R227). -/
def State.switchEngines (s : State) (e : EngId) : State :=
  ((s.recordFail (otherEng e) 8).modEngine (otherEng e) fun x => { x with state := .restarting }).modEngine e Engine.hold

theorem State.switchEngines_spec (s : State) (e : EngId) :
    ((s.switchEngines e).engine e).state = .holder ∧
    (((s.switchEngines e).engine (otherEng e)).state = .restarting ∧ ((s.switchEngines e).engine (otherEng e)).cause = 8) ∧
    (s.switchEngines e).fab = s.fab ∧ (s.switchEngines e).lease = s.lease ∧ (s.switchEngines e).ctr 0x5020 2 0 0 = s.ctr 0x5020 2 0 0 := by
  have hoff : OffHoppers 0x5020 2 0 0 := offHoppers_below (by decide) (by decide)
  simp [State.switchEngines, Engine.hold, State.recordFail_ctr hoff]

/-- The lease passes to an engine whose predecessor was admitted (08 R227). -/
def State.passLease (s : State) (e : EngId) : State :=
  State.freshSelectors { s with
    lease.holder := some e, lease.epoch := nextEpoch s.lease.epoch, lease.grantAt := s.now, lease.renewedAt := s.now
    lease.window := [], lease.tallyTakeover := none }

theorem State.passLease_engine (s : State) (e k : EngId) : (s.passLease e).engine k = s.engine k := rfl

theorem State.passLease_ctr (s : State) (e : EngId) (i b f n : Nat) : (s.passLease e).ctr i b f n = s.ctr i b f n := rfl

section

variable {s : State} {e : EngId} (hh : s.lease.holder = some (otherEng e)) (ha : (s.engine e).state = .armed)
  (hw : (s.engine e).switching = true) (hadm : s.lease.admitted = true) (ho : s.over (s.engine e).armedAt 10000 = true)
  (hc : s.commitOpen = false)
include hh ha hw hadm ho hc

theorem handOver_eq : handOver s = ((s.switchEngines e).passLease e).announce e := by
  simp only [handOver, hh, otherEng_otherEng, ha, hw, hadm, ho, hc, and_self, if_true]
  rfl

theorem handOver_handedOver : HandedOver e s (handOver s) := by
  obtain ⟨htaker, hgiver, hfab, hlease, hctr⟩ := s.switchEngines_spec e
  obtain ⟨alease, aprot, afab, aeng⟩ := ((s.switchEngines e).passLease e).announce_frame e
  rw [handOver_eq hh ha hw hadm ho hc]
  constructor
  case lease =>
    rw [alease]
    exact ⟨rfl, congrArg (fun l : Lease => nextEpoch l.epoch) hlease, (congrArg Lease.admitted hlease).trans hadm⟩
  case taker => exact (congrArg Engine.state (aeng e)).trans htaker
  case giver =>
    have hpast := aeng (otherEng e)
    exact ⟨(congrArg Engine.state hpast).trans hgiver.1, (congrArg Engine.cause hpast).trans hgiver.2⟩
  case writeBack => rw [aprot]; rfl
  case page => rw [afab]; exact (congrArg Fabric.active hfab :)
  case ctr => rw [State.announce_ctr, State.passLease_ctr, hctr]

end

/-- Settles O23: the lease state and a wake by the engine that each leaves, a switch by the write that wakes and by the handover. -/
theorem enginesWakeAndHandOver : Obligations.EnginesWakeAndHandOver := by
  unfold Obligations.EnginesWakeAndHandOver
  refine fun s e => ⟨fun hh hs => ?_, fun hh hs hw => ?_, fun i hs hn => ?_, fun hs h0 h1 => ?_, fun r hs hd ho => ?_,
    fun rq arg x h hh hr hf hm => run_manualSwitch h hh hr hf hm, fun hh ha hw hadm ho hc => ?_⟩
  · refine ⟨_, rfl, ?_⟩
    rw [leaseState_wakes (s := s.quiet) hh hs]
    exact s.fixed_watchedEngine e _
  · refine ⟨_, rfl, ?_⟩
    rw [leaseState_yields (s := s.quiet) hh (otherEng_ne e) hs hw]
    exact s.fixed_watchedEngine e _
  · refine ⟨_, rfl, ?_⟩
    rw [wakeEnd_done (s := s.quiet) hs hn]
    refine ⟨fun k => ?_, fun hh => ?_, fun hh => ?_, ?_⟩
    · simp [State.armEngine_engine]
    · simpa using State.armEngine_vacant (s := s.quiet) hh e i
    · simpa using State.armEngine_held (s := s.quiet) hh e i
    · refine State.fixed_of_lessPages (Eq.trans ?_ (s.quiet.armEngine_lessPages e i))
      exact congrArg (fun w : State => { w with fab := {} }) (State.watchEngines_lessEngines _)
  · obtain ⟨harmed, hcause, hareas, hother, hlease⟩ := wakeEnd_armsOnOlder (s := s.quiet) hs h0 h1
    exact ⟨_, rfl, harmed, hcause, hareas, hother, hlease, wakeEnd_lanes ..⟩
  · obtain ⟨hfailed, hcause, hother, hlease, hfab⟩ := wakeEnd_fails (s := s.quiet) hs hd ho
    exact ⟨_, rfl, hfailed, hcause, hother, hlease, hfab, wakeEnd_lanes ..⟩
  · obtain ⟨⟨hhold, hepoch, hadmit⟩, htaker, ⟨hgiver, hcause⟩, hback, hpage, hctr⟩ :=
      handOver_handedOver (s := s.quiet) hh ha hw hadm ho hc
    exact ⟨_, rfl, hhold, hepoch, hadmit, htaker, hgiver, hcause, hback, hpage, handOver_lanes _, hctr⟩

end Sys2Proof.Machine
end

section
/-! PROOFS. A reference follows its qualification, and the conditions of timing are noted (09 R238 to R240). -/

namespace Sys2Proof.Machine

/-- Following the conditions of timing notes conditions alone (09 Table 9-10; 10 Table 10-5). -/
theorem State.watchTiming_lessConds (s : State) : s.watchTiming.lessConds = s.lessConds := by
  simp only [State.watchTiming, State.noteCond_lessConds]

/-! Reads. -/

@[simp] theorem State.ref_modRef (s : State) (r k : Nat) (f : Ref → Ref) : (s.modRef r f).ref k = if k = r then f (s.ref r) else s.ref k :=
  tget_tmod ..

theorem State.ref_of_refs {s t : State} (h : t.tim.refs = s.tim.refs) (k : Nat) : t.ref k = s.ref k := by rw [State.ref, State.ref, h]

@[simp] theorem State.noteCond_ref (s : State) (c : AlarmCond) (p : Bool) (k : Nat) : (s.noteCond c p).ref k = s.ref k :=
  State.ref_of_refs (by simp) k

@[simp] theorem State.count_ref (s : State) (i b f e k : Nat) : (s.count i b f e).ref k = s.ref k := rfl

/-! What keeps a reference from being qualified (09 R238). -/

theorem State.refQual_of_idle {s : State} {r : Nat} (h : s.refIdle r = true) : s.refQual r = false := by simp [State.refQual, h]

theorem State.refQual_of_hardDis {s : State} {r : Nat} (h : (s.ref r).hardDis = true) : s.refQual r = false := by simp [State.refQual, h]

theorem State.refQual_of_noLock {s : State} {r : Nat} (h : (s.ref r).noLock = true) : s.refQual r = false := by simp [State.refQual, h]

theorem State.refQual_of_softFlag {s : State} {r : Nat} (h : (s.ref r).softFlag = true) (hw : s.tim.warm = true) (hc : s.cfg 0x5400 9 0 = 1) :
    s.refQual r = false := by simp [State.refQual, h, hw, hc]

theorem State.refIdle_of_inactive {s : State} {r : Nat} (hr : r < 2) (h : (s.ref r).active = false) : s.refIdle r = true := by
  simp [State.refIdle, hr, h]

/-! Following the qualification (09 R239). -/

/-- What following its qualification, now `q`, makes of a reference; `wtr` says whether there is a wait-to-restore (09 R239). -/
def Ref.follow (x : Ref) (q wtr : Bool) (now : Nat) : Ref :=
  if q && !x.qual then { x with qual := true, seen := true, wtrSince := if x.seen && wtr then some now else none }
  else if !q && x.qual then { x with qual := false, wtrSince := none }
  else x

section

variable (x : Ref) (q wtr : Bool) (now : Nat)

@[simp] theorem Ref.follow_qual : (x.follow q wtr now).qual = q := by
  cases q <;> cases hx : x.qual <;> simp [Ref.follow, hx]

/-- Its qualification changes nothing of what the monitors write. -/
@[simp] theorem Ref.follow_monitors :
    (x.follow q wtr now).active = x.active ∧ (x.follow q wtr now).actLost = x.actLost ∧ (x.follow q wtr now).offset = x.offset ∧
    (x.follow q wtr now).hardBad = x.hardBad ∧ (x.follow q wtr now).softBad = x.softBad ∧ (x.follow q wtr now).hardDis = x.hardDis ∧
    (x.follow q wtr now).softFlag = x.softFlag ∧ (x.follow q wtr now).noLock = x.noLock := by
  unfold Ref.follow
  repeat' split
  all_goals exact ⟨rfl, rfl, rfl, rfl, rfl, rfl, rfl, rfl⟩

/-- A wait-to-restore starts only as a reference becomes qualified. -/
theorem Ref.follow_wtrSince {x : Ref} {q : Bool} (hq : q = true → x.qual = true) (hw : x.wtrSince = none) :
    (x.follow q wtr now).wtrSince = none := by
  cases q
  · cases hx : x.qual <;> simp [Ref.follow, hx, hw]
  · simpa [Ref.follow, hq rfl] using hw

end

/-- A reference is followed alone. -/
theorem State.evalRef_ref (s : State) (r : RefId) (k : Nat) :
    (s.evalRef r).ref k = if k = r then (s.ref r).follow (s.refQual r) (s.cfg 0x5400 4 0 != 0) s.now else s.ref k := by
  simp only [State.evalRef, State.noteCond_ref, Ref.follow]
  repeat' split
  all_goals simp_all

/-- A loss of qualification of an enabled reference is counted (09 R239). -/
theorem State.evalRef_counts {s : State} {r : RefId} (hq : s.refQual r = false) (hx : (s.ref r).qual = true) (ho : s.refOn r = true) :
    (s.evalRef r).ctr 0x5430 2 1 r = (s.ctr 0x5430 2 1 r + 1) % 4294967296 := by
  simp [State.evalRef, hq, hx, ho, State.ctr_count]

/-- The state without its references, counters and alarm conditions. -/
def State.lessRefs (s : State) : State := { s with tim.refs := [], cnt := [], store.conds := [] }

theorem State.lessRefs_of_lessConds {s t : State} (h : t.lessConds = s.lessConds) : t.lessRefs = s.lessRefs := (congrArg State.lessRefs h :)

theorem State.evalRef_lessRefs (s : State) (r : RefId) : (s.evalRef r).lessRefs = s.lessRefs := by
  simp only [State.evalRef]
  rw [State.lessRefs_of_lessConds (State.noteCond_lessConds ..)]
  repeat' split
  all_goals rfl

/-- One reference alone, and what following it counts and notes, differ. -/
structure OnlyRef (r : RefId) (s t : State) : Prop where
  others : ∀ k, k ≠ (r : Nat) → t.ref k = s.ref k
  less : t.lessRefs = s.lessRefs

theorem OnlyRef.trans {r : RefId} {s t u : State} (h : OnlyRef r s t) (k : OnlyRef r t u) : OnlyRef r s u :=
  ⟨fun n hn => (k.others n hn).trans (h.others n hn), k.less.trans h.less⟩

theorem OnlyRef.modRef (s : State) (r : RefId) (f : Ref → Ref) : OnlyRef r s (s.modRef r f) := ⟨fun k hk => by simp [hk], rfl⟩

theorem OnlyRef.evalRef (s : State) (r : RefId) : OnlyRef r s (s.evalRef r) :=
  ⟨fun k hk => by simp [State.evalRef_ref, hk], s.evalRef_lessRefs r⟩

/-- A reference that is changed, and then follows its qualification. -/
def State.updateRef (s : State) (r : RefId) (f : Ref → Ref) : State := (s.modRef r f).evalRef r

theorem OnlyRef.updateRef (s : State) (r : RefId) (f : Ref → Ref) : OnlyRef r s (s.updateRef r f) := (OnlyRef.modRef ..).trans (.evalRef ..)

theorem State.updateRef_ref (s : State) (r : RefId) (f : Ref → Ref) :
    (s.updateRef r f).ref r = (f (s.ref r)).follow ((s.modRef r f).refQual r) (s.cfg 0x5400 4 0 != 0) s.now := by
  rw [State.updateRef, State.evalRef_ref, if_pos rfl, State.ref_modRef, if_pos rfl]
  rfl

/-- What a command leaves that runs to a state in which one reference alone differs. -/
theorem OnlyRef.fixed {r : RefId} {s u : State} (h : OnlyRef r s.quiet u) :
    (∀ k, k ≠ (r : Nat) → (s.fixed u).ref k = s.ref k) ∧
    { s.fixed u with tim.refs := s.tim.refs, cnt := s.cnt, store.conds := s.store.conds } = s.quiet :=
  ⟨h.others, congrArg (fun w : State => s.fixed { w with tim.refs := s.tim.refs, cnt := s.cnt, store.conds := s.store.conds }) h.less⟩

end Sys2Proof.Machine
end

section
/-! PROOFS. The monitors of a reference: activity, frequency results, both limits, and the wait-to-restore (09 R238 to R240). -/

namespace Sys2Proof.Machine

/-! The history of the system governor (09 R248). -/

/-- The state without its system governor. -/
def State.lessSys (s : State) : State := { s with tim.sys := {} }

/-- The history is cut where a limit stops the reference that the governor follows (09 R248). -/
theorem State.when_cutHistory_lessSys (s : State) (b : Bool) : (s.when b State.cutHistory).lessSys = s.lessSys := by cases b <;> rfl

theorem State.fab_persist_of_less {s t : State} (h : t.lessRefs.lessSys = s.lessRefs.lessSys) : t.fab = s.fab ∧ t.persist = s.persist :=
  ⟨(congrArg State.fab h :), (congrArg State.persist h :)⟩

/-- Without a followed reference nothing is cut. -/
theorem State.when_false (s : State) (f : State → State) : s.when false f = s := rfl

/-! Activity (09 R238, Table 9-4). -/

/-- A reference whose edges are missing is not qualified, and the loss is counted (09 R238, R239). -/
theorem edgeMissing_spec (s : State) {r : RefId} (hr : (r : Nat) < 2) :
    OnlyRef r s (edgeMissing r s) ∧ ((edgeMissing r s).ref r).active = false ∧ ((edgeMissing r s).ref r).actLost = true ∧
    ((edgeMissing r s).ref r).qual = false ∧
    ((s.ref r).qual = true → s.refOn r = true → (edgeMissing r s).ctr 0x5430 2 1 r = (s.ctr 0x5430 2 1 r + 1) % 4294967296) := by
  have heq : edgeMissing r s = s.updateRef r fun x => { x with active := false, actLost := true } := if_pos hr
  have hidle : (s.modRef r fun x => { x with active := false, actLost := true }).refQual r = false :=
    State.refQual_of_idle (State.refIdle_of_inactive hr (by simp))
  rw [heq]
  refine ⟨.updateRef .., ?_, ?_, ?_, fun hq ho => State.evalRef_counts hidle (by simpa using hq) ho⟩
  all_goals simp [State.updateRef_ref, hidle]

/-- A reference whose edges are back is active (09 Table 9-4). -/
theorem activityBack_spec {s : State} {r : RefId} (hr : (r : Nat) < 2) (h : s.portUp = true) :
    OnlyRef r s (activityBack r s) ∧ ((activityBack r s).ref r).active = true ∧ ((activityBack r s).ref r).actLost = false := by
  have heq : activityBack r s = s.updateRef r fun x => { x with active := true, actLost := false } := if_pos ⟨hr, h⟩
  rw [heq]
  exact ⟨.updateRef .., by simp [State.updateRef_ref], by simp [State.updateRef_ref]⟩

/-! Frequency results (09 R238, R242). -/

/-- What a frequency result makes of its reference (09 R238, R240). -/
def Ref.measured (x : Ref) (offset : Int) (warm : Bool) : Ref :=
  { x with
    offset := offset
    hardBad := runOf (decide (4600000 < offset.natAbs)) x.hardBad 100
    hardGood := runOf (decide (offset.natAbs ≤ 4600000)) x.hardGood 100
    softBad := runOf (decide (1000000 < offset.natAbs)) x.softBad 100
    softGood := runOf (decide (offset.natAbs ≤ 800000)) x.softGood 100
    hardDis := x.hardDis && (runOf (decide (offset.natAbs ≤ 4600000)) x.hardGood 100 != 100 || !warm)
    softFlag := x.softFlag && runOf (decide (offset.natAbs ≤ 800000)) x.softGood 100 != 100 }

/-- A reference is compared with every other (09 R242). -/
def State.comparePairs (s : State) (r : RefId) : State := s.each ((List.finRange 8).filter fun q => q != r) fun q s => s.comparePair r q

/-- The state without the runs of differing and of agreeing pairs. -/
def State.lessRuns (s : State) : State := { s with tim.apart := [], tim.near := [] }

theorem State.comparePairs_lessRuns (s : State) (r : RefId) : (s.comparePairs r).lessRuns = s.lessRuns :=
  State.each_keep State.lessRuns _ (fun q s => s.comparePair r q) (fun _ _ => rfl) s

theorem State.comparePairs_ref (s : State) (r : RefId) (k : Nat) : (s.comparePairs r).ref k = s.ref k :=
  State.ref_of_refs (congrArg (fun w : State => w.tim.refs) (s.comparePairs_lessRuns r) :) k

theorem freqResult_eq {s : State} (h : s.portUp = true) (r : RefId) (d : Int) :
    freqResult r d s = ((s.modRef r fun x => x.measured d s.tim.warm).comparePairs r).evalRef r := by
  simp only [freqResult, h, Bool.not_true, Bool.false_eq_true, if_false]
  rfl

/-- A frequency result joins the runs of its reference at both limits; while the OCXO warms it ends no disqualification (09 R238, R240). -/
theorem freqResult_ref {s : State} (h : s.portUp = true) (r : RefId) (d : Int) :
    ((freqResult r d s).ref r).offset = d ∧ (∀ k, k ≠ (r : Nat) → (freqResult r d s).ref k = s.ref k) ∧
    ((freqResult r d s).ref r).hardBad = (if 4600000 < d.natAbs then min 100 ((s.ref r).hardBad + 1) else 0) ∧
    ((freqResult r d s).ref r).softBad = (if 1000000 < d.natAbs then min 100 ((s.ref r).softBad + 1) else 0) ∧
    (s.tim.warm = false → ((freqResult r d s).ref r).hardDis = (s.ref r).hardDis) := by
  simp only [freqResult_eq h, State.evalRef_ref, State.comparePairs_ref, State.ref_modRef, if_true, Ref.follow_monitors]
  refine ⟨rfl, fun k hk => by simp [hk], ?_, ?_, fun hw => ?_⟩
  all_goals simp_all [Ref.measured, runOf]

theorem freqResult_less {s : State} (h : s.portUp = true) (r : RefId) (d : Int) : (freqResult r d s).lessRefs.lessRuns = s.lessRefs.lessRuns := by
  rw [freqResult_eq h, State.evalRef_lessRefs]
  exact (congrArg State.lessRefs (State.comparePairs_lessRuns ..) :)

/-! The limits (09 R238). -/

theorem hardLimit_eq {s : State} {r : RefId} (hw : s.tim.warm = true) (hb : (s.ref r).hardBad = 100) (hd : (s.ref r).hardDis = false) :
    hardLimit r s = (s.when (s.following r) State.cutHistory).updateRef r fun x => { x with hardDis := true, hardGood := 0 } := by
  simp only [hardLimit, hw, hb, hd, beq_self_eq_true, Bool.not_false, Bool.and_self, if_true]
  rfl

/-- At the hard limit a reference is disqualified (09 R238). -/
theorem hardLimit_spec {s : State} {r : RefId} (hw : s.tim.warm = true) (hb : (s.ref r).hardBad = 100) (hd : (s.ref r).hardDis = false) :
    ((hardLimit r s).ref r).hardDis = true ∧ ((hardLimit r s).ref r).qual = false ∧
    (∀ k, k ≠ (r : Nat) → (hardLimit r s).ref k = s.ref k) ∧ (s.following r = false → (hardLimit r s).tim.sys = s.tim.sys) ∧
    (hardLimit r s).lessRefs.lessSys = s.lessRefs.lessSys := by
  rw [hardLimit_eq hw hb hd]
  have hcut := s.when_cutHistory_lessSys (s.following r)
  have honly := OnlyRef.updateRef (s.when (s.following r) State.cutHistory) r fun x => { x with hardDis := true, hardGood := 0 }
  refine ⟨?_, ?_, fun k hk => ?_, fun hf => ?_, ?_⟩
  · simp [State.updateRef_ref]
  · rw [State.updateRef_ref, Ref.follow_qual]
    exact State.refQual_of_hardDis (by simp)
  · exact (honly.others k hk).trans (State.ref_of_refs (congrArg (fun w : State => w.tim.refs) hcut :) k)
  · rw [hf, State.when_false] at honly ⊢
    exact (congrArg (fun w : State => w.tim.sys) honly.less :)
  · exact (congrArg State.lessSys honly.less).trans (congrArg State.lessRefs hcut :)

/-- A reference beyond the soft limit has its flag, and follows its qualification (09 R238). -/
def State.softFlagged (s : State) (r : RefId) : State :=
  (s.when (s.tim.warm && s.cfg 0x5400 9 0 == 1 && s.following r) State.cutHistory).updateRef r fun x => { x with softFlag := true, softGood := 0 }

theorem softLimit_eq {s : State} {r : RefId} (hb : (s.ref r).softBad = 100) (hf : (s.ref r).softFlag = false) :
    softLimit r s = (s.softFlagged r).event 1 0x5430 1 r (joinFields [1, 1, 1, 4, 2, 2] ((s.softFlagged r).refStatus r)) := by
  simp only [softLimit, hb, hf, beq_self_eq_true, Bool.not_false, Bool.and_self, if_true]
  rfl

/-- At the soft limit a reference is flagged, and disqualified where 5400:09 says so (09 R238). -/
theorem State.softFlagged_spec (s : State) (r : RefId) :
    ((s.softFlagged r).ref r).softFlag = true ∧
    (s.tim.warm = true → s.cfg 0x5400 9 0 = 1 → ((s.softFlagged r).ref r).qual = false) ∧
    (∀ k, k ≠ (r : Nat) → (s.softFlagged r).ref k = s.ref k) ∧ (s.softFlagged r).lessRefs.lessSys = s.lessRefs.lessSys := by
  have hcut := s.when_cutHistory_lessSys (s.tim.warm && s.cfg 0x5400 9 0 == 1 && s.following r)
  have hstops : s.tim.warm = true → s.cfg 0x5400 9 0 = 1 → ((s.softFlagged r).ref r).qual = false := fun hw hc => by
    rw [State.softFlagged, State.updateRef_ref, Ref.follow_qual]
    exact State.refQual_of_softFlag (by simp) ((congrArg (fun w : State => w.tim.warm) hcut :).trans hw)
      ((congrArg (fun w : State => w.cfg 0x5400 9 0) hcut :).trans hc)
  have honly := OnlyRef.updateRef (s.when (s.tim.warm && s.cfg 0x5400 9 0 == 1 && s.following r) State.cutHistory) r
    fun x => { x with softFlag := true, softGood := 0 }
  refine ⟨?_, hstops, fun k hk => ?_, ?_⟩
  · simp [State.softFlagged, State.updateRef_ref]
  · exact (honly.others k hk).trans (State.ref_of_refs (congrArg (fun w : State => w.tim.refs) hcut :) k)
  · exact (congrArg State.lessSys honly.less).trans (congrArg State.lessRefs hcut :)

/-- A soft-limit flag is raised with an event, which changes no reference (09 R256). -/
theorem softLimit_spec {s : State} {r : RefId} (hb : (s.ref r).softBad = 100) (hf : (s.ref r).softFlag = false) :
    ((softLimit r s).ref r).softFlag = true ∧ (s.tim.warm = true → s.cfg 0x5400 9 0 = 1 → ((softLimit r s).ref r).qual = false) ∧
    (∀ k, k ≠ (r : Nat) → (softLimit r s).ref k = s.ref k) ∧ (softLimit r s).fab = s.fab ∧ (softLimit r s).persist = s.persist := by
  obtain ⟨hflag, hqual, hothers, hless⟩ := s.softFlagged_spec r
  have href (k : Nat) : (softLimit r s).ref k = (s.softFlagged r).ref k := by
    rw [softLimit_eq hb hf]
    exact State.ref_of_refs (by simp) k
  simp only [href]
  simp only [softLimit_eq hb hf, State.event_frame]
  exact ⟨hflag, hqual, hothers, State.fab_persist_of_less hless⟩

/-! The wait-to-restore (09 R239). -/

/-- A reference whose wait-to-restore is over, qualified again where nothing else keeps it from it (09 R239). -/
def State.endWtr (s : State) (r : RefId) : State :=
  let s := s.modRef r fun x => { x with wtrSince := none, noLock := false }
  if s.refQual r then s.modRef r fun x => { x with qual := true } else s

theorem refWtrEnd_eq {s : State} {r : RefId} {b : Nat} (hw : (s.ref r).wtrSince = some b)
    (ho : s.over b (60 * s.cfg 0x5400 4 0 * 1000000000) = true) : refWtrEnd r s = (s.endWtr r).evalRef r := by
  simp only [refWtrEnd, hw, secs, ho, if_true]
  rfl

theorem OnlyRef.endWtr (s : State) (r : RefId) : OnlyRef r s (s.endWtr r) := by
  simp only [State.endWtr]
  split
  · exact (OnlyRef.modRef ..).trans (.modRef ..)
  · exact .modRef ..

/-- A reference whose wait-to-restore is over waits no more, and is marked qualified where it is (09 R239). -/
theorem State.endWtr_ref (s : State) (r : RefId) :
    ((s.endWtr r).ref r).wtrSince = none ∧ ((s.endWtr r).ref r).noLock = false ∧
    ((s.endWtr r).refQual r = true → ((s.endWtr r).ref r).qual = true) := by
  simp only [State.endWtr]
  split
  · simp
  next h => exact ⟨by simp, by simp, fun hq => absurd hq h⟩

/-- A wait-to-restore that is over ends, and starts no other (09 R239). -/
theorem refWtrEnd_spec {s : State} {r : RefId} {b : Nat} (hw : (s.ref r).wtrSince = some b)
    (ho : s.over b (60 * s.cfg 0x5400 4 0 * 1000000000) = true) :
    OnlyRef r s (refWtrEnd r s) ∧ ((refWtrEnd r s).ref r).wtrSince = none ∧ ((refWtrEnd r s).ref r).noLock = false := by
  obtain ⟨hnone, hlock, hqual⟩ := s.endWtr_ref r
  rw [refWtrEnd_eq hw ho, State.evalRef_ref, if_pos rfl]
  exact ⟨(OnlyRef.endWtr ..).trans (.evalRef ..), Ref.follow_wtrSince _ _ hqual hnone, by simpa using hlock⟩

/-- Settles O26: each monitor by what it writes to its reference, and by what following the reference then makes of it. -/
theorem referencesAreMonitored : Obligations.ReferencesAreMonitored := by
  unfold Obligations.ReferencesAreMonitored
  intro s r only
  have honly {u : State} (h : OnlyRef r s.quiet u) : only (s.fixed u) := h.fixed
  refine ⟨fun hr => ?_, fun hr hup => ?_, fun d hup => ?_, fun hw hb hd => ?_, fun hb hf => ?_, fun b hw ho => ?_⟩
  · obtain ⟨hothers, hrest⟩ := edgeMissing_spec s.quiet hr
    exact ⟨_, rfl, honly hothers, hrest⟩
  · obtain ⟨hothers, hrest⟩ := activityBack_spec (s := s.quiet) hr hup
    exact ⟨_, rfl, honly hothers, hrest⟩
  · obtain ⟨hoffset, hothers, hhard, hsoft, hdis⟩ := freqResult_ref (s := s.quiet) hup r d
    exact ⟨_, rfl, hoffset, hothers, hhard, hsoft, hdis, congrArg (fun w : State => s.fixed { w with
      tim.refs := s.tim.refs, tim.apart := s.tim.apart, tim.near := s.tim.near, cnt := s.cnt, store.conds := s.store.conds })
      (freqResult_less (s := s.quiet) hup r d)⟩
  · obtain ⟨hdis, hqual, hothers, hsys, hless⟩ := hardLimit_spec (s := s.quiet) hw hb hd
    exact ⟨_, rfl, hdis, hqual, hothers, hsys, congrArg (fun w : State => s.fixed { w with
      tim.refs := s.tim.refs, tim.sys := s.tim.sys, cnt := s.cnt, store.conds := s.store.conds }) hless⟩
  · obtain ⟨hflag, hqual, hothers, hrest⟩ := softLimit_spec (s := s.quiet) hb hf
    exact ⟨_, rfl, hflag, hqual, hothers, softLimit_lanes .., hrest⟩
  · obtain ⟨hothers, hrest⟩ := refWtrEnd_spec (s := s.quiet) hw ho
    exact ⟨_, rfl, honly hothers, hrest⟩

end Sys2Proof.Machine
end

section
/-! PROOFS. What the fantail wants, and what a selection writes (09 R241, R246, R247). -/

namespace Sys2Proof.Machine

/-! The wanted reference (09 R241). -/

theorem State.candidate_of_mem_bestKey {s : State} {r : RefId} (h : r ∈ s.bestKey) : s.candidate r = true := by
  simp only [State.bestKey, State.candidates, List.mem_filter] at h
  exact h.1.2

theorem State.tie_mem {s : State} {b : List RefId} {r : RefId} (h : s.tie b = some r) : r ∈ b := by
  simp only [State.tie] at h
  split at h
  · refine List.foldlRecOn (motive := fun o => ∀ m, o = some m → m ∈ b) b _ (by simp) (fun o ho a ha m hm => ?_) r h
    repeat' split at hm
    all_goals obtain rfl := Option.some.inj hm
    · exact ha
    · exact ha
    · exact ho _ rfl
  · exact List.mem_of_mem_head? h

/-- Without a command the fantail wants a candidate alone. -/
theorem State.candidate_of_wantRef {s : State} {r : RefId} (hc : s.tim.cmd = 0) (h : s.wantRef = some r) : s.candidate r = true := by
  have htie : s.tie s.bestKey = some r → s.candidate r = true := fun h => State.candidate_of_mem_bestKey (State.tie_mem h)
  simp only [State.wantRef, hc] at h
  repeat' split at h
  all_goals simp_all

/-- Holdover and free run by command want no reference. -/
theorem State.wantRef_none {s : State} (hc : s.tim.cmd = 3 ∨ s.tim.cmd = 4) : s.wantRef = none := by
  rcases hc with hc | hc <;> simp [State.wantRef, hc]

/-! Following every reference (09 R239). -/

theorem Timing.selection_of_refs {a b : Timing} (h : ({ a with refs := [] } : Timing) = { b with refs := [] }) :
    a.selected = b.selected ∧ a.cmd = b.cmd ∧ a.cmdRef = b.cmdRef :=
  ⟨(congrArg Timing.selected h :), (congrArg Timing.cmd h :), (congrArg Timing.cmdRef h :)⟩

theorem State.evalRefs_selection (s : State) :
    s.evalRefs.tim.selected = s.tim.selected ∧ s.evalRefs.tim.cmd = s.tim.cmd ∧ s.evalRefs.tim.cmdRef = s.tim.cmdRef :=
  Timing.selection_of_refs s.evalRefs_tim

theorem State.evalRefs_ctr {i b f e : Nat} (h : ∀ r : RefId, ctrKey i b f e ≠ ctrKey 0x5430 2 1 r) (s : State) :
    s.evalRefs.ctr i b f e = s.ctr i b f e :=
  State.each_keep (fun w => w.ctr i b f e) _ (fun r w => w.evalRef r) (fun r _ => State.evalRef_ctr _ _ _ _ _ _ (h r)) s

/-! The parts of a selection. -/

/-- A manual command whose reference holds no longer is dropped (09 R241, Table 9-6). -/
def State.dropManual (s : State) : State :=
  if s.tim.cmd = 2 ∧ s.manualHolds s.tim.cmdRef = false then { s with tim.cmd := 0, tim.cmdRef := 0 } else s

theorem State.dropManual_of_ne {s : State} (h : s.tim.cmd ≠ 2) : s.dropManual = s := if_neg fun hc => h hc.1

theorem State.dropManual_of_holds {s : State} (h : s.manualHolds s.tim.cmdRef = true) : s.dropManual = s :=
  if_neg fun hc => Bool.false_ne_true (hc.2.symm.trans h)

theorem State.dropManual_parts (s : State) : s.dropManual.tim.selected = s.tim.selected ∧ s.dropManual.tim.refs = s.tim.refs ∧
    s.dropManual.persist = s.persist ∧ s.dropManual.fab = s.fab := by
  unfold State.dropManual
  split <;> exact ⟨rfl, rfl, rfl, rfl⟩

/-- The system governor follows what the fantail has come to want (09 R246, R247). -/
def State.followRef (old want : Option RefId) (s : State) : State :=
  match want with
  | some r =>
    if old = want then s
    else
      let half := s.halfPeriod r
      let v := s.free
      v.2.modGov 0 fun x => { x.enter .acquiring r s.now with pull := (v.1 % (2 * half + 1) : Nat) - (half : Int) }
  | none =>
    if s.tim.cmd = 4 then (if s.tim.sys.state = .freeRun then s else s.modGov 0 fun x => { x.enter .freeRun 255 s.now with pull := 0 })
    else if s.tim.sys.state = .holdover then s
    else if s.tim.sys.state = .freeRun ∧ s.tim.cmd ≠ 3 then s
    else if s.tim.sys.state = .freeRun ∧ ((s.tim.sys.before (s.now - 60000000000)).isEmpty || !s.tim.warm) = true then s
    else s.loseGov 0

theorem State.followRef_acquires {old : Option RefId} {q : RefId} (h : old ≠ some q) (s : State) :
    (s.followRef old (some q)).tim.sys.state = .acquiring ∧ (s.followRef old (some q)).tim.sys.ref = q := by
  simp only [State.followRef, h, if_false]
  exact ⟨rfl, rfl⟩

theorem State.followRef_freeRuns {s : State} (hc : s.tim.cmd = 4) (old : Option RefId) :
    (s.followRef old none).tim.sys.state = .freeRun := by
  simp only [State.followRef, hc, if_true]
  split
  · assumption
  · rfl

/-- The state without its system governor and its next free value. -/
def State.lessFollow (s : State) : State := { s with fresh := 0, tim.sys := {} }

theorem State.followRef_less (s : State) (old want : Option RefId) : (s.followRef old want).lessFollow = s.lessFollow := by
  unfold State.followRef
  repeat' split
  all_goals rfl

/-- Another selection is counted, with an event (09 R256). -/
def State.reportRef (old want : Option RefId) (s : State) : State :=
  if old = want then s else (s.count 0x5440 5 0 0).event 1 0x5440 1 0 (beBytes 1 (match want with | some r => (r : Nat) | none => 255))

theorem State.reportRef_parts (s : State) (old want : Option RefId) : (s.reportRef old want).tim = s.tim ∧
    (s.reportRef old want).persist = s.persist ∧ (s.reportRef old want).fab = s.fab := by
  unfold State.reportRef
  split <;> simp

/-- An event closes no session (14 R380). -/
theorem State.Posts.event (s : State) (c i b e : Nat) (p : Bytes) : s.Posts (s.event c i b e p) :=
  State.Posts.trans (t := { s with store.nextEvent := eventAfter s.store.nextEvent }) ⟨rfl, rfl, fun _ => rfl⟩
    (.each (fun _ _ => .postUnit ..) _ _)

theorem State.Posts.reportRef (s : State) (old want : Option RefId) : s.Posts (s.reportRef old want) := by
  unfold State.reportRef
  split
  · exact .refl s
  · exact (State.Posts.countN ..).trans (.event ..)

theorem State.reportRef_counts {old want : Option RefId} (h : old ≠ want) (s : State) :
    (s.reportRef old want).ctr 0x5440 5 0 0 = (s.ctr 0x5440 5 0 0 + 1) % 4294967296 := by
  simp only [State.reportRef, h, if_false, State.event_ctr (offHoppers_below (by decide) (by decide) : OffHoppers 0x5440 5 0 0), State.ctr_count]

/-- The state without the start of its Locked time to a reference of rank 1. -/
def State.lessRank (s : State) : State := { s with tim.rankOne := none }

/-- What follows a change of a governor's state notes that Locked time and the conditions alone (09 R250, Table 9-10). -/
theorem State.watched_less (s : State) : s.watchRank.watchTiming.lessConds.lessRank = s.lessConds.lessRank :=
  (congrArg State.lessRank s.watchRank.watchTiming_lessConds).trans rfl

/-- What is left of a state in which the fantail selects (09 R241, R246). -/
structure Selects (s t : State) : Prop where
  selected : t.tim.selected = s.wantRef
  command : t.tim.cmd = s.tim.cmd ∧ t.tim.cmdRef = s.tim.cmdRef
  refs : t.tim.refs = s.tim.refs
  persist : t.persist = s.persist
  fab : t.fab = s.fab
  opens : ∀ i, (t.session? i).isSome = (s.session? i).isSome
  acquires : ∀ q, s.wantRef = some q → s.tim.selected ≠ some q → t.tim.sys.state = .acquiring ∧ t.tim.sys.ref = q
  freeRuns : s.wantRef = none → s.tim.cmd = 4 → t.tim.sys.state = .freeRun
  counts : s.wantRef ≠ s.tim.selected → t.ctr 0x5440 5 0 0 = (s.ctr 0x5440 5 0 0 + 1) % 4294967296

/-- The watched state keeps what a selection writes. -/
theorem Selects.watched {s t u : State} (h : Selects s t) (hu : u.lessConds.lessRank = t.lessConds.lessRank) : Selects s u where
  selected := (congrArg (fun w : State => w.tim.selected) hu :).trans h.selected
  command := ⟨(congrArg (fun w : State => w.tim.cmd) hu :).trans h.command.1, (congrArg (fun w : State => w.tim.cmdRef) hu :).trans h.command.2⟩
  refs := (congrArg (fun w : State => w.tim.refs) hu :).trans h.refs
  persist := (congrArg State.persist hu :).trans h.persist
  fab := (congrArg State.fab hu :).trans h.fab
  opens i := (congrArg (fun w : State => (w.session? i).isSome) hu :).trans (h.opens i)
  acquires q hq hne := by
    have hsys : u.tim.sys = t.tim.sys := (congrArg (fun w : State => w.tim.sys) hu :)
    rw [hsys]
    exact h.acquires q hq hne
  freeRuns hn hc := (congrArg (fun w : State => w.tim.sys.state) hu :).trans (h.freeRuns hn hc)
  counts hne := (congrArg (fun w : State => w.ctr 0x5440 5 0 0) hu :).trans (h.counts hne)

theorem State.selectRef_eq {s : State} (h : s.portUp = true) : s.selectRef =
    ((({ s.evalRefs.dropManual with tim.selected := s.evalRefs.dropManual.wantRef } : State).followRef s.evalRefs.dropManual.tim.selected
      s.evalRefs.dropManual.wantRef).reportRef s.evalRefs.dropManual.tim.selected s.evalRefs.dropManual.wantRef).watchRank.watchTiming := by
  have hup : ¬(!s.portUp) = true := by simp [h]
  unfold State.selectRef
  rw [if_neg hup]
  unfold State.dropManual
  generalize s.evalRefs = u
  rfl

/-- The reference wanted is selected, the governor follows it, and the change is reported. -/
theorem Selects.of_parts (s : State) : Selects s
    ((({ s with tim.selected := s.wantRef } : State).followRef s.tim.selected s.wantRef).reportRef s.tim.selected s.wantRef) := by
  have hless := ({ s with tim.selected := s.wantRef } : State).followRef_less s.tim.selected s.wantRef
  have hacq := fun q (h : s.tim.selected ≠ some q) => ({ s with tim.selected := s.wantRef } : State).followRef_acquires h
  have hfree := fun (hc : s.tim.cmd = 4) => State.followRef_freeRuns (s := { s with tim.selected := s.wantRef }) hc s.tim.selected
  generalize hu : ({ s with tim.selected := s.wantRef } : State).followRef s.tim.selected s.wantRef = u at hless
  obtain ⟨htim, hpersist, hfab⟩ := u.reportRef_parts s.tim.selected s.wantRef
  exact {
    selected := by rw [htim]; exact (congrArg (fun w : State => w.tim.selected) hless :)
    command := by rw [htim]; exact ⟨(congrArg (fun w : State => w.tim.cmd) hless :), (congrArg (fun w : State => w.tim.cmdRef) hless :)⟩
    refs := by rw [htim]; exact (congrArg (fun w : State => w.tim.refs) hless :)
    persist := hpersist.trans (congrArg State.persist hless :)
    fab := hfab.trans (congrArg State.fab hless :)
    opens := fun i => ((State.Posts.reportRef ..).opens i).trans (congrArg (fun w : State => (w.session? i).isSome) hless :)
    acquires := fun q hq hne => by
      rw [htim, ← hu, hq]
      rw [hq] at hacq
      exact hacq q hne
    freeRuns := fun hn hc => by
      rw [htim, ← hu, hn]
      rw [hn] at hfree
      exact hfree hc
    counts := fun hne => (State.reportRef_counts hne.symm u).trans
      (congrArg (fun w : State => (w.ctr 0x5440 5 0 0 + 1) % 4294967296) hless :) }

theorem State.selectRef_selects {s : State} (h : s.portUp = true) : Selects s.evalRefs.dropManual s.selectRef := by
  rw [State.selectRef_eq h]
  generalize s.evalRefs.dropManual = u
  exact (Selects.of_parts u).watched (State.watched_less _)

end Sys2Proof.Machine
end

section
/-! PROOFS. The fantail selects, references disagree, and selection commands are stored (09 R241 to R243). -/

namespace Sys2Proof.Machine

/-! Selection by itself (09 R241). -/

/-- Without a manual command a selection takes what the references, followed first, make the fantail want. -/
theorem State.selectRef_unmanned {s : State} (h : s.portUp = true) (hc : s.tim.cmd ≠ 2) : Selects s.evalRefs s.selectRef := by
  have hs := s.selectRef_selects h
  rwa [State.dropManual_of_ne (by rwa [s.evalRefs_selection.2.1])] at hs

/-- A stored command, unless it is a manual one that no longer holds, is the one by which the fantail selects. -/
theorem State.selectRef_commanded {s : State} (h : s.portUp = true)
    (hm : s.tim.cmd = 2 → s.evalRefs.manualHolds s.tim.cmdRef = true) : Selects s.evalRefs s.selectRef := by
  by_cases hc : s.tim.cmd = 2
  · have hs := s.selectRef_selects h
    rwa [State.dropManual_of_holds (by rw [s.evalRefs_selection.2.2]; exact hm hc)] at hs
  · exact s.selectRef_unmanned h hc

/-! Disagreement (09 R242). -/

/-- The state without its pairs in disagreement, and its alarm conditions. -/
def State.lessDisagree (s : State) : State := { s with tim.disagree := [], store.conds := [] }

theorem disagreeSet_eq {s : State} {a b : RefId} (hab : a ≠ b) (ht : tget 0 s.tim.apart (pairKey a b) ≠ 0)
    (ho : s.over (tget 0 s.tim.apart (pairKey a b) - 1) 10000000000 = true) (hd : s.disagreeing a b = false) (ha : s.candidate a = true)
    (hb : s.candidate b = true) (hk : s.refKey a = s.refKey b) :
    disagreeSet a b s = { s with tim.disagree := s.tim.disagree ++ [(a, b)] }.watchTiming := by
  simp [disagreeSet, secs, hab, ht, ho, hd, ha, hb, hk]

theorem disagreeClear_eq {s : State} {a b : RefId} (ht : tget 0 s.tim.near (pairKey a b) ≠ 0)
    (ho : s.over (tget 0 s.tim.near (pairKey a b) - 1) 60000000000 = true) :
    disagreeClear a b s = { s with tim.disagree := s.tim.disagree.filter fun p => !(p == (a, b) || p == (b, a)) }.watchTiming := by
  simp [disagreeClear, secs, ht, ho]

theorem State.tim_of_lessConds {s t : State} (h : t.lessConds = s.lessConds) : t.tim = s.tim := (congrArg State.tim h :)

theorem State.lessDisagree_of_lessConds {s t : State} (h : t.lessConds = s.lessConds) : t.lessDisagree = s.lessDisagree :=
  (congrArg State.lessDisagree h :)

/-- Other pairs in disagreement change them and the conditions alone. -/
theorem State.watched_disagree (s : State) (ps : List (RefId × RefId)) :
    ({ s with tim.disagree := ps } : State).watchTiming.tim.disagree = ps ∧
    ({ s with tim.disagree := ps } : State).watchTiming.lessDisagree = s.lessDisagree := by
  have h := ({ s with tim.disagree := ps } : State).watchTiming_lessConds
  exact ⟨by rw [State.tim_of_lessConds h], by rw [State.lessDisagree_of_lessConds h]; rfl⟩

/-! Selection commands (09 R243). -/

/-- The state with another selection command stored. -/
def State.withCommand (s : State) (c r : Nat) : State := { s with tim.cmd := c, tim.cmdRef := r }

section

variable {s : State} (x : Session) {c r : Nat}

theorem effSelect_stores (hc : c < 5) (hr : c = 1 ∨ c = 2 → r < 8) (h1 : c = 1 → s.cfg 0x5420 1 r = 1) (h2 : c = 2 → s.manualHolds r = true) :
    effSelect x [c, r] s = ok (s.withCommand c (if c = 1 ∨ c = 2 then r else 0)).selectRef := by
  have hrange : ¬ (4 < c ∨ ((c = 1 ∨ c = 2) ∧ 7 < r)) := by omega
  have hforced : ¬ (c = 1 ∧ s.cfg 0x5420 1 r ≠ 1) := fun h => h.2 (h1 h.1)
  have hmanual : ¬ (c = 2 ∧ s.manualHolds r = false) := fun h => Bool.false_ne_true (h.2.symm.trans (h2 h.1))
  simp only [effSelect, List.headD_cons, List.getD_cons_succ, List.getD_cons_zero, hrange, hforced, hmanual, if_false]
  rfl

theorem effSelect_refuses (hr : r < 8) (h2 : s.manualHolds r = false) : effSelect x [2, r] s = .refuse (naming stState 0x5430 1 r) := by
  have hrange : ¬ 7 < r := by omega
  simp [effSelect, hrange, h2]

end

theorem selectObj_split {o : Obj} (ho : findObj 0x5400 0x0A = some o) {c r : Nat} (hc : c < 256) (hr : r < 256) :
    o.split (selBytes c r) = [c, r] := by
  cases (Option.some.inj ho : _ = o)
  simp [Obj.split, splitFields, selBytes, List.take_of_length_le, beNat_beBytes, hc, hr]

/-- A write of a timing object needs the port die (16 R431). -/
theorem Writes.portUp {rq : Rq} {index sub el : Nat} {v : Bytes} {x : Session} {s : State} (h : Writes rq index sub el v x s)
    (hi : 0x2000 ≤ index ∧ index ≤ 0x5CFF ∧ index ≠ 0x5C40) : s.portUp = true := by
  obtain ⟨-, ⟨o, ho⟩, -⟩ := h
  obtain ⟨-, -, -, -, -, hdies⟩ := State.writeCheck_ok ho
  have hindex : (writeReq rq index sub el v).index = index := rfl
  obtain ⟨hlow, hhigh, hne⟩ := hi
  simpa [State.lacksDies, hindex, hlow, hhigh, hne] using hdies

/-! What the sessions are changes no reference. -/

/-- The state with other sessions. -/
def State.withSessions (s : State) (m : Tab Session) : State := { s with mgmt.sessions := m }

theorem State.noteCond_withSessions (s : State) (m : Tab Session) (c : AlarmCond) (p : Bool) :
    (s.withSessions m).noteCond c p = (s.noteCond c p).withSessions m := by
  simp only [State.noteCond, State.withSessions]
  repeat' split
  all_goals rfl

theorem State.evalRef_withSessions (s : State) (m : Tab Session) (r : RefId) : (s.withSessions m).evalRef r = (s.evalRef r).withSessions m := by
  have hqual : (s.withSessions m).refQual r = s.refQual r := rfl
  have href : (s.withSessions m).ref r = s.ref r := rfl
  have hon : (s.withSessions m).refOn r = s.refOn r := rfl
  simp only [State.evalRef, hqual, href, hon]
  rw [← State.noteCond_withSessions]
  repeat' split
  all_goals rfl

theorem State.evalRefs_withSessions (s : State) (m : Tab Session) : (s.withSessions m).evalRefs = s.evalRefs.withSessions m := by
  simp only [State.evalRefs, State.each]
  generalize List.finRange 8 = rs
  exact List.foldl_hom (fun w : State => w.withSessions m) fun w r => w.evalRef_withSessions m r

theorem State.manualHolds_withSessions (s : State) (m : Tab Session) (r : Nat) : (s.withSessions m).manualHolds r = s.manualHolds r := rfl

/-- What a manual command may name is what it may name where the session has been heard. -/
theorem State.manualHolds_heard (s : State) (i r : Nat) : (s.heard i).manualHolds r = s.manualHolds r :=
  s.heard_elim (P := fun w => w.manualHolds r = s.manualHolds r) i fun _ => rfl

theorem State.evalRefs_manualHolds_heard {s : State} {i r : Nat} (h : (s.withCommand 2 r).evalRefs.manualHolds r = true) :
    ((s.heard i).withCommand 2 r).evalRefs.manualHolds r = true :=
  s.heard_elim (P := fun w => (w.withCommand 2 r).evalRefs.manualHolds r = true) i fun m => by
    show ((s.withCommand 2 r).withSessions m).evalRefs.manualHolds r = true
    rwa [State.evalRefs_withSessions, State.manualHolds_withSessions]

section

variable {rq : Rq} {x : Session} {s : State} {index sub el : Nat} {v : Bytes} {o : Obj}
  (h : Writes rq index sub el v x s) (ho : findObj index sub = some o) (h0 : sub ≠ 0) (h1 : sub ≠ 0xFE)
  {eff : Session → List Nat → State → Act}
include h ho h0 h1

/-- The answer to a write leaves references and governors as the effect of the write made them (14 R364). -/
theorem run_writeOf_tim (hq : ¬ (index = 0x5E10 ∧ sub = 3)) {u t : State} (he : eff x (o.split v) (s.quiet.heard rq.session) = ok u)
    (ht : run (writeOf rq index sub el v eff) s = .next t) : t.tim = u.tim := by
  obtain rfl := Host.Outcome.next.inj ht
  rw [writeOf_done (s := s.quiet) h ho h0 h1 hq he rfl]
  simp

end

section

variable {rq : Rq} {x : Session} {s : State} {c r : Nat} (h : Writes rq 0x5400 0x0A 0 (selBytes c r) x s) (hr : r < 256)
include h hr

/-- A selection command that is taken is stored, and the fantail selects by it (09 R243). -/
theorem run_selection (hc : c < 5) (h8 : c = 1 ∨ c = 2 → r < 8) (hon : c = 1 → s.cfg 0x5420 1 r = 1)
    (hm : c = 2 → s.manualHolds r = true ∧ (s.quiet.withCommand 2 r).evalRefs.manualHolds r = true) :
    ∃ t, run (writeOf rq 0x5400 0x0A 0 (selBytes c r) effSelect) s = .next t ∧ Answered 2 (writeReq rq 0x5400 0x0A 0 (selBytes c r)) 0 t ∧
      t.tim.cmd = c ∧ t.tim.cmdRef = (if c = 1 ∨ c = 2 then r else 0) ∧ (c = 3 ∨ c = 4 → t.tim.selected = none) ∧
      (c = 4 → t.tim.sys.state = .freeRun) ∧ t.lanes = s.lanes ∧ t.persist = s.persist := by
  have heff := effSelect_stores (s := s.quiet.heard rq.session) x hc h8 (by simpa using hon) fun h2 =>
    (State.manualHolds_heard ..).trans (hm h2).1
  rw [← selectObj_split rfl (by omega) hr] at heff
  have hsel := State.selectRef_commanded (s := (s.quiet.heard rq.session).withCommand c (if c = 1 ∨ c = 2 then r else 0))
    (Eq.trans (by simp [State.withCommand, State.portUp]) (h.portUp (by decide))) fun (h2 : c = 2) => by
      subst h2
      exact State.evalRefs_manualHolds_heard (hm rfl).2
  obtain ⟨-, hcmd, href⟩ := ((s.quiet.heard rq.session).withCommand c (if c = 1 ∨ c = 2 then r else 0)).evalRefs_selection
  have hopen := hsel.opens rq.session
  simp only [State.evalRefs_reads] at hopen
  obtain ⟨t, ht, hafter⟩ := run_writeOf_answeredAfter h rfl (by decide) (by decide) (by decide) heff
    (hopen.trans (congrArg Option.isSome (TakenUp.session (s := s.quiet) h.1)))
  have htim := run_writeOf_tim h rfl (by decide) (by decide) (by decide) heff ht
  refine ⟨t, ht, hafter.answered, ?_, ?_, fun h34 => ?_, fun h4 => ?_, ?_, ?_⟩
  · exact (congrArg Timing.cmd htim :).trans (hsel.command.1.trans hcmd)
  · exact (congrArg Timing.cmdRef htim :).trans (hsel.command.2.trans href)
  · exact (congrArg Timing.selected htim :).trans (hsel.selected.trans (State.wantRef_none (hcmd.symm ▸ h34)))
  · exact (congrArg (fun w : Timing => w.sys.state) htim :).trans (hsel.freeRuns (State.wantRef_none (hcmd.symm ▸ .inr h4)) (hcmd.trans h4))
  · exact hafter.lanes.trans (by simp [State.withCommand])
  · exact hafter.persist.trans (hsel.persist.trans (by simp [State.withCommand]))

end

/-- Settles O27: a selection by what the fantail wants, a disagreement by its pair, a command by what it stores and then selects. -/
theorem theFantailSelects : Obligations.TheFantailSelects := by
  unfold Obligations.TheFantailSelects
  refine fun s => ⟨fun hup hc => ?_, fun a b hab ht ho hd ha hb hk => ?_, fun a b ht ho => ?_, fun rq x r hr => ⟨fun h => ?_, fun h h8 hon => ?_,
    fun h h8 hm hkeep => ?_, fun h => ?_, fun h => ?_, fun h h8 hm => ?_⟩⟩
  · obtain ⟨hselected, ⟨hcmd, -⟩, -, hpersist, hfab, -, hacquires, -, hcounts⟩ := State.selectRef_unmanned (s := s.quiet) hup hc
    obtain ⟨hold, hcmd', -⟩ := s.quiet.evalRefs_selection
    rw [hold] at hacquires hcounts
    rw [State.evalRefs_ctr fun r => by unfold ctrKey; omega] at hcounts
    exact ⟨_, rfl, hselected, hcmd.trans hcmd', hacquires, hcounts, State.selectRef_lanes .., hfab.trans (by simp), hpersist.trans (by simp)⟩
  · obtain ⟨hset, hless⟩ := s.quiet.watched_disagree (s.quiet.tim.disagree ++ [(a, b)])
    rw [← disagreeSet_eq (s := s.quiet) hab ht ho hd ha hb hk] at hset hless
    exact ⟨_, rfl, hset, congrArg (fun w : State => s.fixed { w with tim.disagree := s.tim.disagree, store.conds := s.store.conds }) hless⟩
  · obtain ⟨hset, hless⟩ := s.quiet.watched_disagree (s.quiet.tim.disagree.filter fun p => !(p == (a, b) || p == (b, a)))
    rw [← disagreeClear_eq (s := s.quiet) ht ho] at hset hless
    refine ⟨_, rfl, ?_, congrArg (fun w : State => s.fixed { w with tim.disagree := s.tim.disagree, store.conds := s.store.conds }) hless⟩
    simp only [State.disagreeing, State.fixed_frame, hset]
    simp
  · obtain ⟨t, ht, hans, hcmd, href, -, -, hrest⟩ := run_selection h hr (by decide) (by simp) (by simp) (by simp)
    exact ⟨t, ht, hans, hcmd, href, hrest⟩
  · obtain ⟨t, ht, hans, hcmd, href, -, -, hrest⟩ := run_selection h hr (by decide) (fun _ => h8) (fun _ => hon) (by simp)
    exact ⟨t, ht, hans, hcmd, href, hrest⟩
  · obtain ⟨t, ht, hans, hcmd, href, -, -, hrest⟩ := run_selection h hr (by decide) (fun _ => h8) (by simp) fun _ => ⟨hm, hkeep⟩
    exact ⟨t, ht, hans, hcmd, href, hrest⟩
  · obtain ⟨t, ht, hans, hcmd, -, hnone, -, hrest⟩ := run_selection h hr (by decide) (by simp) (by simp) (by simp)
    exact ⟨t, ht, hans, hcmd, hnone (.inl rfl), hrest⟩
  · obtain ⟨t, ht, hans, hcmd, -, hnone, hfree, hrest⟩ := run_selection h hr (by decide) (by simp) (by simp) (by simp)
    exact ⟨t, ht, hans, hcmd, hnone (.inr rfl), hfree rfl, hrest⟩
  · have heff := effSelect_refuses (s := s.quiet.heard rq.session) x h8 ((State.manualHolds_heard ..).trans hm)
    rw [← selectObj_split rfl (by decide) hr] at heff
    obtain ⟨t, ht, hans, hless⟩ := run_writeOf_refusal h rfl (by decide) (by decide) heff (show 2 ≠ 4 by decide)
    exact ⟨t, ht, hans, (congrArg State.tim hless :)⟩

end Sys2Proof.Machine
end

section
/-! PROOFS. Governors lock, give their reference up and keep their history; the OCXO warms and is calibrated (09 R246, R248, R250, R251). -/

namespace Sys2Proof.Machine

/-! One governor. -/

theorem State.gov_modGov (s : State) (g k : GovId) (f : Gov → Gov) : (s.modGov g f).gov k = if k = g then f (s.gov g) else s.gov k := by
  fin_cases g <;> fin_cases k <;> rfl

/-- The state without its governors. -/
def State.lessGovs (s : State) : State := { s with tim.sys := {}, tim.time := {} }

theorem State.modGov_lessGovs (s : State) (g : GovId) (f : Gov → Gov) : (s.modGov g f).lessGovs = s.lessGovs := by
  fin_cases g <;> rfl

/-- A governor that has pulled in, and holds its reference (09 R246). -/
def Gov.lock (x : Gov) (now : Nat) : Gov := { x.enter .locked x.ref now with pull := 0 }

theorem govLocked_eq {s : State} {g : GovId} (hx : (s.gov g).state = .acquiring) (ho : s.over (s.pulledAt (s.gov g)) 10000000000 = true)
    (hp : s.pullLeft (s.gov g) = 0) (hu : s.uses g = true) (ht : g = 0 ∨ s.tod.state = .locked) :
    govLocked g s = (s.modGov g fun x => x.lock s.now).watchRank.watchTiming := if_pos ⟨hx, ho, hp, hu, ht⟩

/-- What follows a change of a governor changes none. -/
theorem State.gov_of_less {s t : State} (h : t.lessConds.lessRank = s.lessConds.lessRank) (k : GovId) : t.gov k = s.gov k :=
  (congrArg (fun w : State => w.gov k) h :)

theorem State.lessGovs_of_less {s t : State} (h : t.lessConds.lessRank = s.lessConds.lessRank) :
    t.lessConds.lessRank.lessGovs = s.lessGovs.lessConds.lessRank := (congrArg State.lessGovs h :)

theorem State.watched_modGov (s : State) (g : GovId) (f : Gov → Gov) :
    (∀ k, (s.modGov g f).watchRank.watchTiming.gov k = if k = g then f (s.gov g) else s.gov k) ∧
    (s.modGov g f).watchRank.watchTiming.lessConds.lessRank.lessGovs = s.lessGovs.lessConds.lessRank := by
  have hless := (s.modGov g f).watched_less
  refine ⟨fun k => (State.gov_of_less hless k).trans (s.gov_modGov g k f), (State.lessGovs_of_less hless).trans ?_⟩
  rw [State.modGov_lessGovs]

/-- A governor locks alone, and what follows notes its Locked time and the conditions (09 R246, R250). -/
theorem govLocked_spec {s : State} {g : GovId} (hx : (s.gov g).state = .acquiring) (ho : s.over (s.pulledAt (s.gov g)) 10000000000 = true)
    (hp : s.pullLeft (s.gov g) = 0) (hu : s.uses g = true) (ht : g = 0 ∨ s.tod.state = .locked) :
    (∀ k, (govLocked g s).gov k = if k = g then (s.gov g).lock s.now else s.gov k) ∧
    (govLocked g s).lessConds.lessRank.lessGovs = s.lessGovs.lessConds.lessRank := by
  rw [govLocked_eq hx ho hp hu ht]
  exact s.watched_modGov g _

/-! No lock in 10 minutes (09 R246, Table 9-8). -/

/-- A reference disqualified for no lock stays so while references are followed (09 R238). -/
theorem State.evalRefs_noLock {s : State} {r : RefId} (h : (s.ref r).noLock = true ∧ (s.ref r).qual = false) :
    (s.evalRefs.ref r).noLock = true ∧ (s.evalRefs.ref r).qual = false := by
  have hstep (w : State) (hw : (w.ref r).noLock = true ∧ (w.ref r).qual = false) (k : RefId) :
      ((w.evalRef k).ref r).noLock = true ∧ ((w.evalRef k).ref r).qual = false := by
    rw [State.evalRef_ref]
    split
    next hk =>
      rw [← hk]
      simp [hw.1, State.refQual_of_noLock hw.1]
    next => exact hw
  simp only [State.evalRefs, State.each]
  generalize List.finRange 8 = rs
  exact List.foldlRecOn (motive := fun w : State => (w.ref r).noLock = true ∧ (w.ref r).qual = false) rs _ h fun w hw k _ => hstep w hw k

theorem State.selectRef_down {s : State} (h : s.portUp = false) : s.selectRef = s := by simp [State.selectRef, h]

/-- A selection writes neither settings nor the fabric (09 R241). -/
theorem State.selectRef_rest (s : State) : s.selectRef.fab = s.fab ∧ s.selectRef.persist = s.persist := by
  cases hup : s.portUp
  · rw [State.selectRef_down hup]
    exact ⟨rfl, rfl⟩
  · have hs := s.selectRef_selects hup
    obtain ⟨-, -, hpersist, hfab⟩ := s.evalRefs.dropManual_parts
    exact ⟨hs.fab.trans (hfab.trans (by simp)), hs.persist.trans (hpersist.trans (by simp))⟩

/-- A reference disqualified for no lock is so after a selection, which does not take it where no command says so (09 R241). -/
theorem State.selectRef_noLock {s : State} {r : RefId} (h : (s.ref r).noLock = true ∧ (s.ref r).qual = false) :
    ((s.selectRef.ref r).noLock = true ∧ (s.selectRef.ref r).qual = false) ∧
    (s.portUp = true → s.tim.cmd = 0 → s.selectRef.tim.selected ≠ some r) := by
  refine ⟨?_, fun hup hc hsel => ?_⟩
  · cases hup : s.portUp
    · rwa [State.selectRef_down hup]
    · rw [State.ref_of_refs ((s.selectRef_selects hup).refs.trans s.evalRefs.dropManual_parts.2.1)]
      exact State.evalRefs_noLock h
  · have hs := State.selectRef_unmanned hup (by simp [hc])
    have hcand := State.candidate_of_wantRef (s.evalRefs_selection.2.1.trans hc) (hs.selected.symm.trans hsel)
    simp [State.candidate, State.refQual_of_noLock (State.evalRefs_noLock h).1] at hcand

/-- A reference that the system governor gives up: disqualified for no lock, its wait-to-restore begun (09 Table 9-8). -/
def State.giveUp (s : State) (r : RefId) : State :=
  (s.updateRef r fun x => { x with noLock := true }).modRef r fun x => { x with wtrSince := some s.now }

theorem State.giveUp_ref (s : State) (r : RefId) : ((s.giveUp r).ref r).noLock = true ∧ ((s.giveUp r).ref r).qual = false := by
  simp only [State.giveUp, State.ref_modRef, if_true, State.updateRef_ref, Ref.follow_qual]
  exact ⟨by simp, State.refQual_of_noLock (by simp)⟩

theorem OnlyRef.giveUp (s : State) (r : RefId) : OnlyRef r s (s.giveUp r) := (OnlyRef.updateRef ..).trans (.modRef ..)

theorem OnlyRef.parts {r : RefId} {s t : State} (h : OnlyRef r s t) :
    t.portUp = s.portUp ∧ t.tim.cmd = s.tim.cmd ∧ t.fab = s.fab ∧ t.persist = s.persist :=
  ⟨(congrArg State.portUp h.less :), (congrArg (fun w : State => w.tim.cmd) h.less :), (congrArg State.fab h.less :),
    (congrArg State.persist h.less :)⟩

theorem noLock_eq {s : State} {r : RefId} (hx : s.tim.sys.state = .acquiring) (hr : s.tim.selected = some r)
    (ho : s.over s.tim.sys.since 600000000000 = true) : noLock s = (s.giveUp r).selectRef := by
  simp only [noLock, hx, hr, secs, ho, if_true, State.giveUp, State.updateRef, State.evalRef_frame, State.modRef_frame]

/-! The history (09 R248). -/

/-- When the Locked minute in progress began. -/
def Gov.minuteStart (x : Gov) : Nat := match x.minutes with | m :: _ => max m x.since | [] => x.since

theorem historyMinute_eq {s : State} {g : GovId} (hx : (s.gov g).state = .locked) (ho : s.over (s.gov g).minuteStart 60000000000 = true)
    (hu : s.uses g = true) (m : Int) : historyMinute g m s =
      s.modGov g fun x => { x with history := (m :: x.history).take 1440, minutes := (s.now :: x.minutes).take 1440 } := if_pos ⟨hx, ho, hu⟩

/-! OCXO (09 R250, R251). -/

theorem calibrate_eq {s : State} {b : Nat} (h : s.watchRank.tim.rankOne = some b) (ho : s.over (max b s.tim.calibratedAt) 86400000000000 = true)
    (m : Int) : calibrate m s = { s.watchRank with tim.calibration := m, tim.calibratedAt := s.now } := by
  have ho' : s.watchRank.over (max b s.watchRank.tim.calibratedAt) (secs 86400) = true := ho
  simp only [calibrate, h, ho', if_true]
  rfl

/-- What disqualifying at the soft limit writes is the history of the system governor alone (09 R248). -/
theorem State.softStops_lessSys (s : State) : s.softStops.lessSys = s.lessSys := by
  unfold State.softStops
  repeat' split
  all_goals rfl

theorem State.softStops_of_ne {s : State} (h : s.cfg 0x5400 9 0 ≠ 1) : s.softStops = s := by
  unfold State.softStops
  split <;> simp [h]

/-- The state in which the OCXO has become warm, before that is reported. -/
def State.warmed (s : State) : State := ({ s with tim.warm := true } : State).softStops.evalRefs

theorem ocxoWarm_eq {s : State} {b : Nat} (hb : s.tim.ocxoOn = some b) (hw : s.tim.warm = false) (ho : s.over b 600000000000 = true) :
    ocxoWarm s = (s.warmed.event 1 0x5450 1 0 (joinFields [1, 2, 4, 4] s.warmed.ocxoStatus)).watchTiming := by
  simp only [ocxoWarm, hb, hw, secs, ho, Bool.not_false, Bool.and_self, if_true, State.warmed]

theorem Timing.sys_of_refs {a b : Timing} (h : ({ a with refs := [] } : Timing) = { b with refs := [] }) : a.sys = b.sys :=
  (congrArg Timing.sys h :)

/-- Beside references and the history of the system governor, warmth alone is written (09 R248, R251). -/
theorem Timing.warm_of_parts {a b c : Timing} (h : ({ a with refs := [] } : Timing) = { b with refs := [] })
    (k : ({ b with sys := {} } : Timing) = { c with sys := {} }) : ({ a with refs := c.refs, sys := c.sys } : Timing) = c := by
  have hb : ({ b with refs := c.refs, sys := c.sys } : Timing) = c := (congrArg (fun x : Timing => { x with refs := c.refs, sys := c.sys }) k :)
  exact (congrArg (fun x : Timing => ({ x with refs := c.refs, sys := c.sys } : Timing)) h :).trans hb

theorem State.tim_of_lessSys {s t : State} (h : t.lessSys = s.lessSys) : ({ t.tim with sys := {} } : Timing) = { s.tim with sys := {} } :=
  (congrArg State.tim h :)

theorem State.warmed_tim (s : State) : ({ s.warmed.tim with refs := s.tim.refs, sys := s.tim.sys } : Timing) = { s.tim with warm := true } ∧
    (s.cfg 0x5400 9 0 ≠ 1 → s.warmed.tim.sys = s.tim.sys) := by
  have hrefs := ({ s with tim.warm := true } : State).softStops.evalRefs_tim
  have hsys := ({ s with tim.warm := true } : State).softStops_lessSys
  have hne := State.softStops_of_ne (s := { s with tim.warm := true })
  unfold State.warmed
  generalize ({ s with tim.warm := true } : State).softStops = u at hrefs hsys hne ⊢
  generalize u.evalRefs = v at hrefs ⊢
  refine ⟨Timing.warm_of_parts (c := { s.tim with warm := true }) hrefs (State.tim_of_lessSys hsys), fun hc => ?_⟩
  exact (Timing.sys_of_refs hrefs).trans (congrArg (fun w : State => w.tim.sys) (hne hc) :)

theorem State.warmed_rest (s : State) : s.warmed.fab = s.fab ∧ s.warmed.persist = s.persist := by
  have hsys := ({ s with tim.warm := true } : State).softStops_lessSys
  simp only [State.warmed, State.evalRefs_frame]
  exact ⟨(congrArg State.fab hsys :), (congrArg State.persist hsys :)⟩

theorem State.rest_of_lessConds {s t : State} (h : t.lessConds = s.lessConds) : t.fab = s.fab ∧ t.persist = s.persist :=
  ⟨(congrArg State.fab h :), (congrArg State.persist h :)⟩

/-- Ten minutes after its supply became good the OCXO is warm, and that changes no frame, no page and no setting (09 R251). -/
theorem ocxoWarm_spec {s : State} {b : Nat} (hb : s.tim.ocxoOn = some b) (hw : s.tim.warm = false) (ho : s.over b 600000000000 = true) :
    (ocxoWarm s).tim = s.warmed.tim ∧ (ocxoWarm s).fab = s.fab ∧ (ocxoWarm s).persist = s.persist := by
  rw [ocxoWarm_eq hb hw ho]
  generalize joinFields [1, 2, 4, 4] s.warmed.ocxoStatus = p
  have h := (s.warmed.event 1 0x5450 1 0 p).watchTiming_lessConds
  obtain ⟨hfab, hpersist⟩ := State.rest_of_lessConds h
  obtain ⟨hfab', hpersist'⟩ := s.warmed_rest
  exact ⟨(State.tim_of_lessConds h).trans (by simp), hfab.trans (by simp [hfab']), hpersist.trans (by simp [hpersist'])⟩

end Sys2Proof.Machine
end

section
/-! PROOFS. A new SSM option, and the frame phase realigned or lost (09 R235, R253, R254; 11 R297). -/

namespace Sys2Proof.Machine

/-! Defaults (09 R235). -/

/-- An object that goes back to its default is listed no more. -/
theorem State.tget_toDefault (s : State) (i b e k : Nat) :
    tget [] (s.toDefault i b e).persist.dict k = if k = objKey i b e then [] else tget [] s.persist.dict k := by
  have hdict : (s.toDefault i b e).persist.dict = tput [] s.persist.dict (objKey i b e) [] := by
    simp [State.toDefault, State.setStaged, State.setVal, State.stage]
  rw [hdict, tget_tput]

theorem State.tget_each_toDefault (s : State) (i b : Nat) (es : List Nat) (k : Nat) :
    tget [] (s.each es fun e w => w.toDefault i b e).persist.dict k =
      if ∃ e ∈ es, k = objKey i b e then [] else tget [] s.persist.dict k := by
  induction es generalizing s with
  | nil => simp [State.each]
  | cons e es ih =>
    have hcons : s.each (e :: es) (fun e w => w.toDefault i b e) = (s.toDefault i b e).each es fun e w => w.toDefault i b e := rfl
    rw [hcons, ih, State.tget_toDefault]
    by_cases he : k = objKey i b e
    · simp [he]
    · simp [he]

/-- A setting that is not listed has its default. -/
theorem State.cfg_of_unlisted {s : State} {i b e : Nat} (h : tget [] s.persist.dict (objKey i b e) = []) :
    s.cfg i b e = (objDefault (ssmOption s.persist.dict) i b e).headD 0 := by simp [State.cfg, State.val, dictVal, h]

/-- A new SSM option, and the objects of quality levels at its defaults (09 R235). -/
def State.withSsm (s : State) (n : Nat) : State :=
  (((s.setStaged 0x5400 1 0 [n]).toDefault 0x5400 7 0).each (List.range 8) fun r w => w.toDefault 0x5420 6 r).each (List.range 2)
    fun i w => w.toDefault 0x5470 2 i

theorem effSsmOption_eq (x : Session) (n : Nat) (s : State) : effSsmOption x [n] s = ok (s.withSsm n).evalRefs := rfl

theorem State.each_toDefault_rest (s : State) (i b : Nat) (es : List Nat) :
    (s.each es fun e w => w.toDefault i b e).mgmt = s.mgmt ∧ (s.each es fun e w => w.toDefault i b e).lanes = s.lanes ∧
    (s.each es fun e w => w.toDefault i b e).fab = s.fab :=
  have hkeep {β : Type} (π : State → β) (h : ∀ e w, π (State.toDefault w i b e) = π w) :=
    State.each_keep π es (fun e w => w.toDefault i b e) h s
  ⟨hkeep State.mgmt fun _ _ => rfl, hkeep State.lanes fun _ _ => rfl, hkeep State.fab fun _ _ => rfl⟩

theorem State.withSsm_rest (s : State) (n : Nat) :
    (s.withSsm n).mgmt = s.mgmt ∧ (s.withSsm n).lanes = s.lanes ∧ (s.withSsm n).fab = s.fab := by
  simp only [State.withSsm, State.each_toDefault_rest]
  simp [State.toDefault]

/-- The keys of the settings that go back to their defaults with a new SSM option. -/
def OfSsm (k : Nat) : Prop := (∃ i < 2, k = objKey 0x5470 2 i) ∨ (∃ r < 8, k = objKey 0x5420 6 r) ∨ k = objKey 0x5400 7 0

theorem State.withSsm_unlisted {k : Nat} (h : OfSsm k) (s : State) (n : Nat) : tget [] (s.withSsm n).persist.dict k = [] := by
  simp only [State.withSsm, State.tget_each_toDefault, State.tget_toDefault, List.mem_range]
  rcases h with h | h | h
  · rw [if_pos h]
  · rw [if_pos h, ite_self]
  · rw [if_pos h, ite_self, ite_self]

theorem State.withSsm_others {k : Nat} (h : ¬ OfSsm k) (s : State) (n : Nat) :
    tget [] (s.withSsm n).persist.dict k = tget [] (s.setStaged 0x5400 1 0 [n]).persist.dict k := by
  simp only [State.withSsm, State.tget_each_toDefault, State.tget_toDefault, List.mem_range]
  simp only [OfSsm, not_or] at h
  rw [if_neg h.1, if_neg h.2.1, if_neg h.2.2]

/-- The option itself is none of the objects that go back to their defaults. -/
theorem State.withSsm_option {n : Nat} (hn : n = 1 ∨ n = 2) (s : State) :
    tget [] (s.withSsm n).persist.dict (objKey 0x5400 1 0) = if n = 1 then [] else [n] := by
  have hother : ¬ OfSsm (objKey 0x5400 1 0) := by
    simp only [OfSsm, objKey]
    omega
  rw [State.withSsm_others hother]
  simp only [State.setStaged, State.stage, State.setVal, if_true, tget_tput_same]
  rcases hn with rfl | rfl <;> rfl

theorem State.withSsm_ssmOption {n : Nat} (hn : n = 1 ∨ n = 2) (s : State) : ssmOption (s.withSsm n).persist.dict = n := by
  rw [ssmOption, State.withSsm_option hn]
  rcases hn with rfl | rfl <;> rfl

/-- The quality levels are those of the option (09 R235). -/
theorem State.withSsm_cfg {s : State} {n : Nat} (hn : n = 1 ∨ n = 2) :
    (s.withSsm n).cfg 0x5400 1 0 = n ∧ (s.withSsm n).cfg 0x5400 7 0 = (if n = 2 then 0x0D else 0x08) ∧
    (∀ r, r < 8 → (s.withSsm n).cfg 0x5420 6 r = if n = 2 then 0x01 else 0x02) ∧
    (∀ i, i < 2 → (s.withSsm n).cfg 0x5470 2 i = if n = 2 then 0x0C else 0x0B) := by
  have hdefault {i b e : Nat} (h : tget [] (s.withSsm n).persist.dict (objKey i b e) = []) :=
    (State.cfg_of_unlisted h).trans (by rw [State.withSsm_ssmOption hn])
  refine ⟨?_, ?_, fun r hr => ?_, fun i hi => ?_⟩
  · rw [State.cfg, State.val, dictVal, State.withSsm_ssmOption hn, State.withSsm_option hn]
    rcases hn with rfl | rfl <;> rfl
  · exact (hdefault (s.withSsm_unlisted (.inr (.inr rfl)) n)).trans (by simp [objDefault])
  · exact (hdefault (s.withSsm_unlisted (.inr (.inl ⟨r, hr, rfl⟩)) n)).trans (by simp [objDefault])
  · exact (hdefault (s.withSsm_unlisted (.inl ⟨i, hi, rfl⟩) n)).trans (by simp [objDefault])

/-- A new SSM option is stored, and takes the quality levels back to its defaults (09 R235). -/
theorem run_ssmOption {rq : Rq} {n : Nat} {x : Session} {s : State} (hn : n = 1 ∨ n = 2) (h : Writes rq 0x5400 1 0 (u8 n) x s) :
    ∃ t, exec (.ssmOptionWrite rq n) s = .next t ∧ Answered 2 (writeReq rq 0x5400 1 0 (u8 n)) 0 t ∧ t.cfg 0x5400 1 0 = n ∧
      t.cfg 0x5400 7 0 = (if n = 2 then 0x0D else 0x08) ∧ (∀ r, r < 8 → t.cfg 0x5420 6 r = if n = 2 then 0x01 else 0x02) ∧
      (∀ i, i < 2 → t.cfg 0x5470 2 i = if n = 2 then 0x0C else 0x0B) ∧ t.lanes = s.lanes ∧ t.fab = s.fab := by
  obtain ⟨hmgmt, hlanes, hfab⟩ := (s.quiet.heard rq.session).withSsm_rest n
  obtain ⟨r, hr, ha⟩ := run_writeOf_answers (o := _) h rfl (by decide) (by decide) (by decide)
    ((congrArg (effSsmOption x · _) (splitFields_u8_of_lt (by omega))).trans (effSsmOption_eq ..)) (by simp [hmgmt])
  have hcfg (i b e : Nat) : (s.fixed r).cfg i b e = ((s.quiet.heard rq.session).withSsm n).cfg i b e := by
    rw [(State.fixed_reads ..).2.2.1, State.cfg, ha.val]
    simp [State.cfg]
  obtain ⟨hfab', -, -, hlanes'⟩ := ha.parts
  refine ⟨_, hr, ha.answered, ?_⟩
  simp only [id, hcfg]
  obtain ⟨hoption, hown, hrefs, houts⟩ := State.withSsm_cfg (s := s.quiet.heard rq.session) hn
  exact ⟨hoption, hown, hrefs, houts, hlanes'.trans (by simp [hlanes]), hfab'.trans (by simp [hfab])⟩

/-! A realignment is set (09 R254). -/

/-- The state with a realignment pending. -/
def State.realignsAt (s : State) (t : Nat) : State := { s with tim.realignAt := some t }

theorem effRealign_sets {s : State} (he : s.tod.ever = true) (ht : s.tod.tjr = false) (hr : s.tim.realignAt = none) (ha : s.edit.armed = none)
    (x : Session) (vs : List Nat) : effRealign x vs s = ok (s.realignsAt (evenAfter s.tod.counter)) := by
  simp [effRealign, State.realignSecond, State.realignsAt, he, ht, hr, ha]

theorem effRealign_refuses {s : State} (h : s.tod.ever = false ∨ s.tod.tjr = true ∨ s.tim.realignAt.isSome = true) (x : Session)
    (vs : List Nat) : ∃ a, effRealign x vs s = .refuse a ∧ a.status = 2 := by
  by_cases ht : (!s.tod.ever || s.tod.tjr) = true
  · exact ⟨_, if_pos ht, rfl⟩
  · have hr : s.tim.realignAt.isSome = true := by simp_all
    exact ⟨_, (if_neg ht).trans (if_pos hr), rfl⟩

section

variable {rq : Rq} {arg : Byte} {x : Session} {s : State} (h : Writes rq 0x5460 3 0 [arg] x s)
include h

/-- A realignment is set for the first even TAI second far enough ahead, and nothing else is written (09 R254). -/
theorem run_realign (he : s.tod.ever = true) (ht : s.tod.tjr = false) (hr : s.tim.realignAt = none) (ha : s.edit.armed = none) :
    ∃ t, exec (.realignFramePhase rq arg) s = .next t ∧ Answered 2 (writeReq rq 0x5460 3 0 [arg]) 0 t ∧
      { t.lessAnswers with tim.realignAt := s.tim.realignAt } = s.lessAnswers ∧ t.tim.realignAt = some (evenAfter s.tod.counter) := by
  obtain ⟨r, hrun, hans⟩ := run_writeOf_answers (o := _) h rfl (by decide) (by decide) (by decide)
    (effRealign_sets (s := s.quiet.heard rq.session) (by simpa using he) (by simpa using ht) (by simpa using hr) (by simpa using ha) x _) rfl
  have hless := hans.less_of_heard (F := fun w => w.realignsAt (evenAfter w.tod.counter)) (z := s.quiet.lessAnswers)
    (fun w => { w with tim.realignAt := s.tim.realignAt }) fun _ => rfl
  have hcounter : (s.quiet.heard rq.session).tod.counter = s.tod.counter := by simp
  refine ⟨_, hrun, hans.answered, congrArg s.fixed hless, ?_⟩
  exact (congrArg (fun w : State => w.tim.realignAt) hans.less :).trans (congrArg (fun n => some (evenAfter n)) hcounter)

/-- Without a known time, or with a realignment pending, another is refused (09 R254). -/
theorem run_realign_refused (hno : s.tod.ever = false ∨ s.tod.tjr = true ∨ s.tim.realignAt.isSome = true) :
    ∃ t, exec (.realignFramePhase rq arg) s = .next t ∧ Answered 2 (writeReq rq 0x5460 3 0 [arg]) 2 t ∧ t.tim = s.tim := by
  obtain ⟨a, heff, hstatus⟩ := effRealign_refuses (s := s.quiet.heard rq.session) (by simpa using hno) x _
  obtain ⟨t, ht, hans, hless⟩ := run_writeOf_refusal h rfl (by decide) (by decide) heff (by rw [hstatus]; decide)
  exact ⟨t, ht, hstatus ▸ hans, (congrArg State.tim hless :)⟩

end

/-! The alignment is lost (09 R253; 11 R297). -/

/-- A table mapped key by key is read key by key, where an unlisted key stays as it is. -/
theorem tget_tmap {α : Type} [DecidableEq α] {d : α} {f : Nat → α → α} (hd : ∀ k, f k d = d) {t : Tab α} (ht : twf d t) (k : Nat) :
    tget d (tmap d t f) k = f k (tget d t k) := by
  induction t with
  | nil => exact (hd k).symm
  | cons e t ih =>
    obtain ⟨hp, hne⟩ := ht
    obtain ⟨hlt, hp'⟩ := List.pairwise_cons.mp hp
    have ih' := ih ⟨hp', fun e' he' => hne e' (List.mem_cons_of_mem e he')⟩
    by_cases hv : f e.1 e.2 = d
    · have hdrop : tmap d (e :: t) f = tmap d t f := by simp [tmap, hv]
      rw [hdrop, ih', tget]
      split
      next hk =>
        have hnone : tget d t k = d := by
          by_contra hc
          exact absurd (hlt _ (mem_of_tget_ne hc)) (by simp [hk])
        rw [hnone, hd, hk, hv]
      next => rfl
    · have hkeep : tmap d (e :: t) f = (e.1, f e.1 e.2) :: tmap d t f := by simp [tmap, hv]
      rw [hkeep, tget, tget]
      split
      next hk => rw [hk]
      next => exact ih'

theorem State.cancelPending_cur {s : State} (h : twf {} s.sealing.slots) (k : Nat) : (s.cancelPending.keySlot k).cur = (s.keySlot k).cur := by
  simp only [State.cancelPending]
  split
  · rfl
  · simp only [State.keySlot, State.event_frame]
    rw [tget_tmap (fun _ => rfl) h]

theorem State.cancelPending_rest (s : State) : s.cancelPending.tim = s.tim ∧ s.cancelPending.fab = s.fab ∧ s.cancelPending.lanes = s.lanes ∧
    s.cancelPending.persist = s.persist := by
  simp only [State.cancelPending]
  split <;> simp

/-- A frame phase that was aligned and is so no more (09 R253). -/
theorem State.setAligned_lost {s : State} (h : s.tim.aligned = true) :
    (s.setAligned false).tim.aligned = false ∧ (s.setAligned false).fab = s.fab ∧ (s.setAligned false).lanes = s.lanes ∧
    (s.setAligned false).persist = s.persist ∧ (s.setAligned false).sealing = s.sealing := by
  simp [State.setAligned, h]

/-- The state numbered by the port die's own frames, its alignment lost. -/
def State.ownNumbered (s : State) : State := { s.setAligned false with fab.superframe := s.fab.localN }

theorem alignmentLost_eq {s : State} (h : s.tim.aligned = true) (h16 : 16 ≤ s.tim.outRun) : alignmentLost s = s.ownNumbered.cancelPending :=
  if_pos (by simp [h, h16])

/-- A lost alignment numbers frames by the port die's own, and cancels pending keys alone (09 R253; 11 R297). -/
theorem alignmentLost_spec {s : State} (h : s.tim.aligned = true) (h16 : 16 ≤ s.tim.outRun) :
    (alignmentLost s).tim.aligned = false ∧ (alignmentLost s).fab = { s.fab with superframe := s.fab.localN } ∧
    (∀ k, ((alignmentLost s).keySlot k).pend = none) ∧
    (twf {} s.sealing.slots → ∀ k, ((alignmentLost s).keySlot k).cur = (s.keySlot k).cur) ∧
    (alignmentLost s).lanes = s.lanes ∧ (alignmentLost s).persist = s.persist := by
  obtain ⟨haligned, hfab, hlanes, hpersist, hseal⟩ := State.setAligned_lost h
  obtain ⟨ktim, kfab, klanes, kpersist⟩ := s.ownNumbered.cancelPending_rest
  have hown : s.ownNumbered.fab = { s.fab with superframe := s.fab.localN } :=
    congrArg (fun f : Fabric => { f with superframe := s.fab.localN }) hfab
  have hslots : s.ownNumbered.sealing.slots = s.sealing.slots := congrArg Sealing.slots hseal
  rw [alignmentLost_eq h h16]
  refine ⟨(congrArg Timing.aligned ktim).trans haligned, kfab.trans hown, s.ownNumbered.cancelPending_pend, fun hw k => ?_,
    klanes.trans hlanes, kpersist.trans hpersist⟩
  rw [State.cancelPending_cur (hslots ▸ hw), State.keySlot, hslots]
  rfl

/-- Settles O28: a governor and the OCXO by what they write, an SSM option by the defaults it restores, the frame phase by its realignment and its
loss. -/
theorem governorsOptionsAndFramePhase : Obligations.GovernorsOptionsAndFramePhase := by
  unfold Obligations.GovernorsOptionsAndFramePhase
  refine ⟨fun s => ⟨fun g hx ho hp hu ht => ?_, fun r hx hr ho => ?_, fun g m hx hu ho => ?_, fun m b hb ho => ?_, fun b hb hw ho => ?_⟩,
    fun s => ⟨fun rq n x hn h => run_ssmOption hn h, fun rq arg x h he ht hr ha => ?_, fun rq arg x h hno => ?_, fun h h16 => ?_⟩⟩
  · obtain ⟨hgov, hless⟩ := govLocked_spec (s := s.quiet) hx ho hp hu ht
    refine ⟨_, rfl, ?_⟩
    generalize govLocked g s.quiet = u at hgov hless ⊢
    have hself : (s.fixed u).gov g = (s.gov g).lock s.now := (hgov g).trans (if_pos rfl)
    rw [hself]
    exact ⟨rfl, rfl, rfl, rfl, fun k hk => (hgov k).trans (if_neg hk), congrArg (fun w : State => s.fixed { w with
      tim.sys := s.tim.sys, tim.time := s.tim.time, tim.rankOne := s.tim.rankOne, store.conds := s.store.conds }) hless⟩
  · obtain ⟨hup, hcmd, hfab, hpersist⟩ := (OnlyRef.giveUp s.quiet r).parts
    obtain ⟨⟨hlock, hqual⟩, hsel⟩ := State.selectRef_noLock (s.quiet.giveUp_ref r)
    obtain ⟨kfab, kpersist⟩ := (s.quiet.giveUp r).selectRef_rest
    rw [← noLock_eq (s := s.quiet) hx hr ho] at hlock hqual hsel kfab kpersist
    exact ⟨_, rfl, hlock, hqual, noLock_lanes _, kfab.trans hfab, kpersist.trans hpersist, fun hu hc => hsel (hup.trans hu) (hcmd.trans hc)⟩
  · refine ⟨_, rfl, ?_⟩
    rw [historyMinute_eq (s := s.quiet) hx ho hu]
    exact ⟨congrArg (fun w : State => s.fixed { w with tim.sys := s.tim.sys, tim.time := s.tim.time }) (State.modGov_lessGovs ..),
      fun k => State.gov_modGov ..⟩
  · refine ⟨_, rfl, ?_⟩
    rw [calibrate_eq (s := s.quiet) hb ho]
    rfl
  · obtain ⟨htim, hfab, hpersist⟩ := ocxoWarm_spec (s := s.quiet) hb hw ho
    obtain ⟨hwarm, hsys⟩ := s.quiet.warmed_tim
    rw [← htim] at hwarm hsys
    exact ⟨_, rfl, hwarm, hsys, ocxoWarm_lanes _, hfab, hpersist⟩
  · exact run_realign h he ht hr ha
  · exact run_realign_refused h hno
  · exact ⟨_, rfl, alignmentLost_spec (s := s.quiet) h h16⟩

end Sys2Proof.Machine
end

section
/-! PROOFS. Triggers are armed and disarmed, fire, and end their pulses (10 R271, R272). -/

namespace Sys2Proof.Machine

theorem State.trig_modTrig (s : State) (k j : Nat) (f : Trig → Trig) :
    (s.modTrig k f).trig j = if j = k then f (s.trig k) else s.trig j := tget_tmod ..

/-! Writes of a trigger (10 R271). -/

/-- The instant that an arm record names, in 2^-16 ns (10 Table 10-4). -/
def armInstant (r : TrigRec) : Nat := fromTime80 (r.seconds * 4294967296 + r.nanoseconds)

/-- A trigger as an arm record arms it (10 R271). -/
def Trig.arm (x : Trig) (mode : Nat) (r : TrigRec) : Trig :=
  { x with
    armed := true, periodic := mode == 2, target := shortTime (armInstant r), period := r.period, width := r.width, left := r.count
    overtaken := false }

/-- The fields of an arm record lie in the ranges that both modes share, and fit their places (10 Table 10-4). -/
structure TrigFits (r : TrigRec) : Prop where
  seconds : r.seconds < 281474976710656
  nanoseconds : r.nanoseconds ≤ 999999999
  period : r.period < 18446744073709551616
  width : 10 ≤ r.width ∧ r.width ≤ 1000000000
  count : r.count < 4294967296

theorem TrigFits.split {r : TrigRec} (h : TrigFits r) {mode : Nat} (hm : mode < 256) {o : Obj} (ho : findObj 0x5840 1 = some o) :
    o.split (trigBytes mode r) = [mode, r.seconds * 4294967296 + r.nanoseconds, r.period, r.width, r.count] := by
  obtain ⟨hsec, hns, hper, ⟨-, hwidth⟩, hcount⟩ := h
  cases (Option.some.inj ho : _ = o)
  have htime : beBytes 6 r.seconds ++ beBytes 4 r.nanoseconds = beBytes 10 (r.seconds * 4294967296 + r.nanoseconds) :=
    beBytes_append (by omega) 6 r.seconds
  have htake (n v : Nat) : (beBytes n v).take n = beBytes n v := List.take_of_length_le (by simp)
  simp only [Obj.split, trigBytes, List.append_assoc]
  rw [← List.append_assoc (beBytes 6 r.seconds), htime]
  simp [splitFields, htake, beNat_beBytes, hm, hper, hcount, show r.width < 4294967296 by omega,
    show r.seconds * 4294967296 + r.nanoseconds < 1208925819614629174706176 by omega]

/-- An arm record within its ranges arms an idle trigger from 10 microseconds to half the span of short time ahead (10 R271). -/
theorem effArmTrigger_arms {s : State} {k mode : Nat} {r : TrigRec} (ha : (s.trig k).armed = false)
    (hok : trigOk mode (r.seconds * 4294967296 + r.nanoseconds) r.period r.width r.count = true)
    (hlo : 10000 * 65536 ≤ (armInstant r : Int) - s.tod.counter) (hhi : (armInstant r : Int) - s.tod.counter < 140737488355328 * 65536) (x : Session) :
    effArmTrigger k x [mode, r.seconds * 4294967296 + r.nanoseconds, r.period, r.width, r.count] s =
      ok (s.modTrig k fun x => x.arm mode r) := by
  unfold armInstant at hlo hhi
  have hnear : ¬ ((fromTime80 (r.seconds * 4294967296 + r.nanoseconds) : Int) - s.tod.counter < 10000 * 65536) := by omega
  have hfar : ¬ (140737488355328 * 65536 ≤ (fromTime80 (r.seconds * 4294967296 + r.nanoseconds) : Int) - s.tod.counter) := by omega
  simp only [effArmTrigger, List.headD_cons, List.getD_cons_succ, List.getD_cons_zero, ha, hok, hnear, hfar, decide_false, Bool.not_true,
    Bool.or_false, Bool.false_eq_true, if_false]
  rfl

section

variable {rq : Rq} {x : Session} {s : State} {k : Nat}

/-- A write of a trigger whose effect is to change it changes no other, and beside triggers what answers change. -/
theorem run_modTrig {sub : Nat} {v : Bytes} {o : Obj} (h : Writes rq 0x5840 sub k v x s) (ho : findObj 0x5840 sub = some o) (h0 : sub ≠ 0)
    (h1 : sub ≠ 0xFE) {eff : Session → List Nat → State → Act} {f : Trig → Trig}
    (he : eff x (o.split v) (s.quiet.heard rq.session) = ok ((s.quiet.heard rq.session).modTrig k f)) :
    ∃ t, run (writeOf rq 0x5840 sub k v eff) s = .next t ∧ Answered 2 (writeReq rq 0x5840 sub k v) 0 t ∧
      (∀ j, t.trig j = if j = k then f (s.trig k) else s.trig j) ∧ { t.lessAnswers with tod.trigs := s.tod.trigs } = s.lessAnswers := by
  obtain ⟨r, hr, ha⟩ := run_writeOf_answers h ho h0 h1 (by omega) he rfl
  have hheard (j : Nat) : (s.quiet.heard rq.session).trig j = s.trig j := by simp [State.trig]
  have hless := ha.less_of_heard (F := fun w => w.modTrig k f) (z := s.quiet.lessAnswers) (fun w => { w with tod.trigs := s.tod.trigs }) fun _ => rfl
  refine ⟨_, hr, ha.answered, fun j => ?_, congrArg s.fixed hless⟩
  rw [← hheard j, ← hheard k, ← State.trig_modTrig]
  exact (congrArg (fun w : State => w.trig j) ha.less :)

/-- An arm record within its ranges arms its trigger, which is idle, from 10 microseconds ahead (10 R271). -/
theorem run_armTrigger {mode : Nat} {r : TrigRec} (h : Writes rq 0x5840 1 k (trigBytes mode r) x s) (hm : mode < 256) (hr : TrigFits r)
    (ha : (s.trig k).armed = false) (hok : trigOk mode (r.seconds * 4294967296 + r.nanoseconds) r.period r.width r.count = true)
    (hlo : 10000 * 65536 ≤ (armInstant r : Int) - s.tod.counter) (hhi : (armInstant r : Int) - s.tod.counter < 140737488355328 * 65536) :
    ∃ t, run (writeOf rq 0x5840 1 k (trigBytes mode r) (effArmTrigger k)) s = .next t ∧
      Answered 2 (writeReq rq 0x5840 1 k (trigBytes mode r)) 0 t ∧ (∀ j, t.trig j = if j = k then (s.trig k).arm mode r else s.trig j) ∧
      { t.lessAnswers with tod.trigs := s.tod.trigs } = s.lessAnswers := by
  refine run_modTrig (f := fun x => x.arm mode r) h rfl (by decide) (by decide) ((congrArg (effArmTrigger k x · _) (hr.split hm rfl)).trans ?_)
  exact effArmTrigger_arms (by simpa [State.trig] using ha) hok (by simpa using hlo) (by simpa using hhi) x

end

/-! Pulses (10 R272). -/

/-- The state without its triggers, its counters and what it sends. -/
def State.lessPulses (s : State) : State := { s with tod.trigs := [], cnt := [], out := [] }

/-- A trigger has fired: its pulse is sent and counted, and beside that one trigger nothing else differs. -/
structure Fires (k : TrigId) (s t : State) : Prop where
  out : t.out = s.out ++ [.trigRise k]
  ctr : t.ctr 0x5840 3 3 k = (s.ctr 0x5840 3 3 k + 1) % 4294967296
  others : ∀ j, j ≠ (k : Nat) → t.trig j = s.trig j
  less : t.lessPulses = s.lessPulses

theorem Fires.modTrig {k : TrigId} {s t : State} (h : Fires k s t) (f : Trig → Trig) : Fires k s (t.modTrig k f) :=
  ⟨h.out, h.ctr, fun j hj => by rw [State.trig_modTrig, if_neg hj, h.others j hj], h.less⟩

/-- What a command leaves that runs to a state in which a trigger has fired. -/
theorem Fires.fixed {k : TrigId} {s u : State} (h : Fires k s.quiet u) :
    { s.fixed u with tod.trigs := s.tod.trigs, cnt := s.cnt, out := [] } = s.quiet :=
  (congrArg (fun w : State => s.fixed { w with tod.trigs := s.tod.trigs, cnt := s.cnt, out := [] }) h.less :)

/-- A trigger whose pulse rises (10 R272). -/
def Trig.rise (x : Trig) (now counter : Nat) : Trig :=
  { x with high := true, highEnd := now + x.width, lastEdge := shortTime counter / 65536, overtaken := false }

theorem Trig.rise_of_not_overtaken {x : Trig} (h : x.overtaken = false) (now counter : Nat) :
    x.rise now counter = { x with high := true, highEnd := now + x.width, lastEdge := shortTime counter / 65536 } := by
  rw [Trig.rise, ← h]

/-- A trigger with its last pulse out (10 R272). -/
def Trig.spent (x : Trig) : Trig := { x with armed := false, left := 0 }

/-- A periodic trigger with its next target, and one pulse less to come (10 R272). -/
def Trig.moveTo (x : Trig) (target : Nat) : Trig := { x with target := target, left := x.left - 1 }

/-- The state in which a trigger's pulse has risen and is counted. -/
def State.trigRises (s : State) (k : TrigId) : State :=
  ((s.count 0x5840 3 3 k).emit (.trigRise k)).modTrig k fun x => x.rise s.now s.tod.counter

/-- The pulse has risen, and its trigger is changed once more. -/
theorem State.trigRises_modTrig (s : State) (k : TrigId) (f : Trig → Trig) :
    Fires k s ((s.trigRises k).modTrig k f) ∧ ((s.trigRises k).modTrig k f).trig k = f ((s.trig k).rise s.now s.tod.counter) := by
  have hsent : Fires k s ((s.count 0x5840 3 3 k).emit (.trigRise k)) := ⟨rfl, s.ctr_count .., fun _ _ => rfl, rfl⟩
  refine ⟨(hsent.modTrig _).modTrig f, ?_⟩
  rw [State.trig_modTrig, if_pos rfl, State.trigRises, State.trig_modTrig, if_pos rfl]
  rfl

section

variable {s : State} {k : TrigId} (ha : (s.trig k).armed = true) (hd : s.trigAhead k ≤ 0) (hu : s.portUp = true)
  (ho : (s.trig k).overtaken = false)
include ha hd hu ho

/-- Its target reached, a trigger of mode 1 fires and is armed no more (10 R272). -/
theorem fireTrigger_single (hp : (s.trig k).periodic = false) :
    Fires k s (fireTrigger k s) ∧ (fireTrigger k s).trig k = ((s.trig k).rise s.now s.tod.counter).spent := by
  have hfire : fireTrigger k s = (s.trigRises k).modTrig k Trig.spent := by
    simp only [fireTrigger, ha, hd, hu, ho, hp, decide_true, Bool.and_self, Bool.not_false, Bool.true_or, Bool.false_eq_true, if_true, if_false]
    rfl
  rw [hfire]
  exact s.trigRises_modTrig k _

/-- One of mode 2 moves on to its next target, where that lies ahead (10 R272). -/
theorem fireTrigger_periodic (hp : (s.trig k).periodic = true) (hl : (s.trig k).left ≠ 1)
    (hn : 0 < ahead (shortTime s.tod.counter) (shortTime ((s.trig k).target + (s.trig k).period))) :
    Fires k s (fireTrigger k s) ∧ (fireTrigger k s).trig k =
      ((s.trig k).rise s.now s.tod.counter).moveTo (shortTime ((s.trig k).target + (s.trig k).period)) := by
  have hfire : fireTrigger k s = (s.trigRises k).modTrig k fun x => x.moveTo (shortTime ((s.trig k).target + (s.trig k).period)) := by
    have hskips : skipsOf (ahead (shortTime s.tod.counter) (shortTime ((s.trig k).target + (s.trig k).period))) (s.trig k).period = 0 := if_pos hn
    have hshort : shortTime (shortTime ((s.trig k).target + (s.trig k).period)) = shortTime ((s.trig k).target + (s.trig k).period) :=
      Nat.mod_mod ..
    have hleft : ((s.trig k).left == 1) = false := by simpa using hl
    have hcounter (w : State) (f : Trig → Trig) : (w.modTrig k f).tod.counter = w.tod.counter := rfl
    simp only [fireTrigger, ha, hd, hu, ho, hp, hleft, decide_true, Bool.and_self, Bool.not_true, Bool.or_self, Bool.false_eq_true, if_true,
      if_false, hcounter, State.emit_frame, State.count_frame, hskips, Nat.zero_mul, Nat.add_zero, hshort, List.range_zero]
    rfl
  rw [hfire]
  exact s.trigRises_modTrig k _

end

theorem pulseEnd_eq {s : State} {k : TrigId} (hh : (s.trig k).high = true) (he : (s.trig k).highEnd ≤ s.now) :
    pulseEnd k s = (s.modTrig k fun x => { x with high := false }).emit (.trigFall k) := by simp [pulseEnd, hh, he]

/-- Settles O29: the writes by the trigger that they change, a firing by the pulse that rises and what it leaves armed, the end of a pulse by its
fall. -/
theorem triggersFire : Obligations.TriggersFire := by
  unfold Obligations.TriggersFire
  refine fun s => ⟨fun rq k r x hk hsec hns hw10 hw ha hlo hhi => ⟨fun hp hc h => ?_, fun hp hp' hpw hc h => ?_⟩,
    fun rq k arg x h => run_modTrig (eff := effDisarm k) (f := fun x => { x with armed := false }) h rfl (by decide) (by decide) rfl,
    fun k ha hd hu ho => ⟨fun hp => ?_, fun hp hl hn => ?_⟩, fun k hh he => ?_⟩
  · have hok : trigOk 1 (r.seconds * 4294967296 + r.nanoseconds) r.period r.width r.count = true := by
      simp [trigOk, Nat.mod_eq_of_lt (show r.nanoseconds < 4294967296 by omega), hns, hw10, hw, hp, hc]
    obtain ⟨t, ht, hans, htrig, hless⟩ := run_armTrigger h (by decide) ⟨hsec, hns, by omega, ⟨hw10, hw⟩, by omega⟩ ha hok hlo hhi
    refine ⟨t, ht, hans, fun j => (htrig j).trans ?_, hless⟩
    rw [Trig.arm, hp, hc]
    rfl
  · have hok : trigOk 2 (r.seconds * 4294967296 + r.nanoseconds) r.period r.width r.count = true := by
      simp [trigOk, Nat.mod_eq_of_lt (show r.nanoseconds < 4294967296 by omega), hns, hw10, hw, hp, hp', hpw]
    exact run_armTrigger h (by decide) ⟨hsec, hns, by omega, ⟨hw10, hw⟩, hc⟩ ha hok hlo hhi
  · obtain ⟨hfires, hself⟩ := fireTrigger_single (s := s.quiet) ha hd hu ho hp
    refine ⟨_, rfl, hfires.out, hfires.ctr, fun j => ?_, hfires.fixed⟩
    split
    next hj => rw [hj]; exact hself.trans (congrArg Trig.spent (Trig.rise_of_not_overtaken ho ..))
    next hj => exact hfires.others j hj
  · obtain ⟨hfires, hself⟩ := fireTrigger_periodic (s := s.quiet) ha hd hu ho hp hl hn
    exact ⟨_, rfl, hfires.out, hfires.ctr, (congrArg Trig.armed hself).trans ha, congrArg Trig.high hself, congrArg Trig.target hself,
      congrArg Trig.left hself, hfires.others, hfires.fixed⟩
  · refine ⟨_, rfl, ?_⟩
    rw [pulseEnd_eq (s := s.quiet) hh he]
    exact ⟨rfl, fun j => State.trig_modTrig .., rfl⟩

end Sys2Proof.Machine
end

section
/-! PROOFS. Edges on 1PPS_IN, ToD messages and the samples they make, and ToD_OUT (10 R263 to R267; 17 R443). -/

namespace Sys2Proof.Machine

/-! Edges (10 R263; 17 R443). -/

/-- An edge less than 0.5 s after the last one taken is counted alone (17 R443; log entry 168). -/
theorem ppsEdge_tooSoon {s : State} (hu : s.portUp = true) (h : s.edgeTooSoon = true) : ppsEdge s = s.count 0x5820 6 2 0 := by
  simp [ppsEdge, hu, h]

/-- The state without what it knows of the time. -/
def State.lessTod (s : State) : State := { s with tod := {} }

/-- Any other edge is taken: its time is the counter's, compensated, less the steps made so far (10 R263; log entry 168). -/
theorem ppsEdge_taken {s : State} (hu : s.portUp = true) (h : s.edgeTooSoon = false) :
    (ppsEdge s).tod.edgeAt = some s.now ∧ (ppsEdge s).tod.edgeNamed = false ∧
    (ppsEdge s).tod.edgeTime = (s.tod.counter : Int) + signed 32 (s.cfg 0x5800 5 0) * 65536 - s.tod.stepTotal ∧
    (ppsEdge s).lessTod = s.lessTod := by
  simp only [ppsEdge, hu, h, Bool.not_true, Bool.false_eq_true, if_false]
  repeat' split
  all_goals exact ⟨rfl, rfl, rfl, rfl⟩

/-! Samples (10 R265 to R267). -/

/-- What a sample says, and the settings: which second its edge was, the UTC offset, the sample with its time, and the count of samples. -/
def State.sampled (s : State) : (Bool × Nat × Int) × (Int × Nat × Nat) × Persist :=
  ((s.tod.edgeNamed, s.tod.prevSecond, s.tod.utc), (s.tod.lastSample, s.tod.lastSampleAt, s.ctr 0x5820 6 1 0), s.persist)

theorem State.sampled_of_lessConds {s t : State} (h : t.lessConds = s.lessConds) : t.sampled = s.sampled := (congrArg State.sampled h :)

@[simp] theorem State.watchTiming_sampled (s : State) : s.watchTiming.sampled = s.sampled := State.sampled_of_lessConds s.watchTiming_lessConds

@[simp] theorem State.modGov_sampled (s : State) (g : GovId) (f : Gov → Gov) : (s.modGov g f).sampled = s.sampled :=
  (congrArg State.sampled (s.modGov_lessGovs g f) :)

@[simp] theorem State.count_sampled {i b f e : Nat} (h : ctrKey 0x5820 6 1 0 ≠ ctrKey i b f e) (s : State) :
    (s.count i b f e).sampled = s.sampled := by simp [State.sampled, State.ctr_count_of_ne h]

theorem offHoppers_samples : OffHoppers 0x5820 6 1 0 := fun n h => by
  unfold ctrKey
  omega

@[simp] theorem State.event_sampled (s : State) (c i b e : Nat) (p : Bytes) : (s.event c i b e p).sampled = s.sampled := by
  simp [State.sampled, State.event_ctr offHoppers_samples]

theorem State.audit_sampled {r : AuditRec} (h : r.kind ≠ 4 ∧ r.kind ≠ 6 ∧ r.kind ≠ 7) (s : State) : (s.audit r).sampled = s.sampled := by
  simp [State.sampled, State.ctr, State.audit_cnt s h]

@[simp] theorem State.auditObj_sampled (s : State) (i b e : Nat) : (s.auditObj i b e).sampled = s.sampled :=
  State.audit_sampled (by simp [moduleRec]) s

@[simp] theorem State.timeAcquire_sampled (s : State) : s.timeAcquire.sampled = s.sampled := by
  simp only [State.timeAcquire, State.watchTiming_sampled, State.modGov_sampled]
  rfl

@[simp] theorem State.timeHold_sampled (s : State) : s.timeHold.sampled = s.sampled := by
  simp only [State.timeHold, State.loseGov, State.watchTiming_sampled, State.modGov_sampled]
  rfl

@[simp] theorem State.correctRate_sampled (s : State) (x : Int) : (s.correctRate x).sampled = s.sampled := rfl

@[simp] theorem State.trigEvent_sampled (s : State) (k : Nat) : (s.trigEvent k).sampled = s.sampled := s.event_sampled ..

@[simp] theorem State.modTrig_sampled (s : State) (k : Nat) (f : Trig → Trig) : (s.modTrig k f).sampled = s.sampled := rfl

/-- A step moves the counter and the triggers, and changes no sample (10 R268, R273). -/
@[simp] theorem State.stepTime_sampled (s : State) (d : Int) (kind : Nat) : (s.stepTime d kind).sampled = s.sampled := by
  have hkey : ctrKey 0x5820 6 1 0 ≠ ctrKey 0x5820 3 4 0 := by decide
  have hmove : ((s.moveTime d).markBins 9).sampled = s.sampled := rfl
  simp only [State.stepTime]
  split
  all_goals
    refine (State.each_keep State.sampled _ _ (fun k w => by simp) _).trans ?_
    simp only [State.auditObj_sampled, State.event_sampled, State.count_sampled hkey]
    exact hmove

/-- A cancelled activation is counted and reported, which changes no sample (06 R176, R177). -/
@[simp] theorem State.cancelArmed_sampled (s : State) (status detail : Nat) : (s.cancelArmed status detail).sampled = s.sampled := by
  have hpost (w : State) (h : Nat) (es : List Bytes) : (w.postUnit h es).sampled = w.sampled := by
    simp [State.sampled, State.postUnit_ctr offHoppers_samples]
  have hkey : ctrKey 0x5820 6 1 0 ≠ ctrKey 0x4100 6 0 0 := by decide
  have hout (w : State) (a : Armed) (e : Bytes) : (w.activationOut a e).sampled = w.sampled := by
    have haudit : (State.audit { w with edit.lastEntry := e } (moduleRec 0x0A 0x4100 4 0 a.number)).sampled = w.sampled :=
      State.audit_sampled (by simp [moduleRec]) _
    simp only [State.activationOut]
    refine (State.each_keep State.sampled _ _ (fun h w => hpost w h [e]) _).trans ?_
    split
    · exact (hpost ..).trans haudit
    · exact haudit
  unfold State.cancelArmed
  split
  · rfl
  · rw [hout, State.count_sampled hkey]
    rfl

/-- An armed activation of mode 2 before its commit point is cancelled as the time is in question (10 R266; 06 Table 6-11). -/
def State.cancelTimed (s : State) : State :=
  match s.edit.armed with
  | some a => if a.mode = 2 ∧ a.state < 4 then s.cancelArmed stState 0x22 else s
  | none => s

theorem State.cancelTimed_sampled (s : State) : s.cancelTimed.sampled = s.sampled := by
  unfold State.cancelTimed
  repeat' split
  · exact s.cancelArmed_sampled ..
  · rfl
  · rfl

theorem State.raiseTjr_eq (s : State) : s.raiseTjr =
    (if s.tod.state = .holdover then ({ s with tod.tjr := true, tod.within := 0, tod.outliers := 0 } : State).watchTiming
      else ({ s with tod.tjr := true } : State).timeHold).cancelTimed := rfl

@[simp] theorem State.raiseTjr_sampled (s : State) : s.raiseTjr.sampled = s.sampled := by
  rw [State.raiseTjr_eq, State.cancelTimed_sampled]
  split
  · exact State.watchTiming_sampled _
  · exact State.timeHold_sampled _

/-- A permission that is used, for a step or a slew, changes no sample (10 R267). -/
@[simp] theorem State.applyPermit_sampled (s : State) (m : Int) : (s.applyPermit m).sampled = s.sampled := by
  have hacquire := s.timeAcquire_sampled
  simp only [State.applyPermit]
  generalize s.timeAcquire = u at hacquire ⊢
  split
  · exact (u.stepTime_sampled ..).trans hacquire
  · exact hacquire

@[simp] theorem State.sampleRunning_sampled (s : State) (x : Int) (outlier : Bool) : (s.sampleRunning x outlier).sampled = s.sampled := by
  have hkey : ctrKey 0x5820 6 1 0 ≠ ctrKey 0x5820 6 2 0 := by decide
  have hcount : (s.count 0x5820 6 2 0).sampled = s.sampled := State.count_sampled hkey s
  simp only [State.sampleRunning]
  repeat' split
  · rfl
  · exact (State.raiseTjr_sampled _).trans hcount
  · exact hcount
  · simp only [State.watchTiming_sampled, State.modGov_sampled]
    rfl
  · rfl

@[simp] theorem State.sampleHold_sampled (s : State) (x : Int) (outlier newly : Bool) (m : Int) (limit : Nat) :
    (s.sampleHold x outlier newly m limit).sampled = s.sampled := by
  simp only [State.sampleHold]
  split
  · generalize (if s.tod.permit = 0 then [] else x :: s.tod.permitSamples) = ps
    repeat' split
    · exact State.applyPermit_sampled ..
    · exact State.timeAcquire_sampled _
    · rfl
  · repeat' split
    · exact (State.correctRate_sampled ..).trans s.timeAcquire_sampled
    · exact s.raiseTjr_sampled
    · rfl

/-- A sample is noted with its time and counted, whatever the time state makes of it (10 R265, R266). -/
theorem State.takeSample_sampled (s : State) (x : Int) : (s.takeSample x).sampled =
    ((s.tod.edgeNamed, s.tod.prevSecond, s.tod.utc), (x, s.now, (s.ctr 0x5820 6 1 0 + 1) % 4294967296), s.persist) := by
  have hnoted {u : State} (hu : u.sampled = ({ s.count 0x5820 6 1 0 with tod.lastSample := x, tod.lastSampleAt := s.now } : State).sampled) :
      u.sampled = ((s.tod.edgeNamed, s.tod.prevSecond, s.tod.utc), (x, s.now, (s.ctr 0x5820 6 1 0 + 1) % 4294967296), s.persist) := by
    rw [hu, ← s.ctr_count]
    rfl
  simp only [State.takeSample]
  split
  · split
    · exact hnoted ((State.stepTime_sampled ..).trans (State.timeAcquire_sampled _))
    · exact hnoted rfl
  · exact hnoted (State.sampleHold_sampled ..)
  · exact hnoted (State.sampleRunning_sampled ..)

/-! ToD (10 R263, R264). -/

/-- The state in which an edge is named: unless it follows the edge and the second of the sample before, the run of samples is broken (10 R263). -/
def State.inRun (s : State) (sec e : Nat) : State :=
  if (match s.tod.prevEdge with | some p => oneSecond p e && sec == s.tod.prevSecond + 1 | none => false) then s else s.breakRun

theorem State.inRun_cases (s : State) (sec e : Nat) : s.inRun sec e = s ∨ s.inRun sec e = s.breakRun := ite_eq_or_eq ..

/-- A message that names an edge from 100 to 900 ms old makes a sample of it: the edge's time less the second named (10 R263). -/
theorem todIn_names {s : State} {m : Bytes} {sec e : Nat} {utc : Int} (hm : todOk m = some (sec, utc)) (he : s.tod.edgeAt = some e)
    (hs : s.timeSource = 2) (hu : s.sup.up = true) (hn : s.tod.edgeNamed = false) (hlo : e + 100000000 ≤ s.now) (hhi : s.now ≤ e + 900000000) :
    (todIn m s).sampled = ((true, sec, utc), (s.tod.edgeTime + s.tod.stepTotal - ((sec * tcSecond : Nat) : Int), s.now,
      (s.ctr 0x5820 6 1 0 + 1) % 4294967296), s.persist) := by
  have hcond : s.timeSource = 2 ∧ s.sup.up = true ∧ s.tod.edgeNamed = false ∧ e + msecs 100 ≤ s.now ∧ s.now ≤ e + msecs 900 :=
    ⟨hs, hu, hn, hlo, hhi⟩
  have hin : todIn m s =
      ({ s.inRun sec e with tod.edgeNamed := true, tod.prevEdge := some e, tod.prevSecond := sec, tod.utc := utc } : State).takeSample
        ((s.inRun sec e).tod.edgeTime + (s.inRun sec e).tod.stepTotal - ((sec * tcSecond : Nat) : Int)) := by
    simp only [todIn, hm, he, if_pos hcond]
    rfl
  rw [hin, State.takeSample_sampled]
  rcases s.inRun_cases sec e with h | h <;> rw [h] <;> rfl

theorem State.sampled_ext {s : State} {named : Bool} {sec noted n : Nat} {utc x : Int} {p : Persist}
    (h : s.sampled = ((named, sec, utc), (x, noted, n), p)) : s.tod.edgeNamed = named ∧ s.tod.prevSecond = sec ∧ s.tod.utc = utc ∧
      s.tod.lastSample = x ∧ s.tod.lastSampleAt = noted ∧ s.ctr 0x5820 6 1 0 = n ∧ s.persist = p := by
  simpa [State.sampled, and_assoc] using h

/-- ToD_OUT names the second that a pulse began, 200 ms after it (10 R264). -/
theorem todSend_eq {s : State} (hp : s.tod.todPending = true) (ho : s.over s.tod.todAt 200000000 = true) : todSend s =
    { s with tod.todPending := false }.emit (.tod (todBytes (s.tim.aligned && s.tod.state == TimeState.locked) s.tod.todSecond s.tod.utc)) :=
  if_pos (by rw [hp, msecs, ho]; rfl)

/-- Settles O30: an edge by what it counts or sets, a message by the sample it makes, ToD_OUT by the message sent. -/
theorem pulsesAndMessagesGiveSamples : Obligations.PulsesAndMessagesGiveSamples := by
  unfold Obligations.PulsesAndMessagesGiveSamples
  refine fun s => ⟨fun hu h => ?_, fun hu h => ?_, fun m sec utc e hm he hs hu hn hlo hhi => ?_, fun hp ho => ?_⟩
  · refine ⟨_, rfl, ?_⟩
    rw [ppsEdge_tooSoon (s := s.quiet) hu h]
    exact ⟨s.quiet.ctr_count .., rfl⟩
  · obtain ⟨hat, hnamed, htime, hless⟩ := ppsEdge_taken (s := s.quiet) hu h
    exact ⟨_, rfl, hat, hnamed, htime, (congrArg (fun w : State => s.fixed { w with tod := s.tod }) hless :)⟩
  · obtain ⟨hnamed, hsec, hutc, hsample, hat, hctr, hpersist⟩ := State.sampled_ext (todIn_names (s := s.quiet) hm he hs hu hn hlo hhi)
    exact ⟨_, rfl, hnamed, hsec, hutc, hsample, hat, hctr, todIn_lanes .., hpersist⟩
  · refine ⟨_, rfl, ?_⟩
    rw [todSend_eq (s := s.quiet) hp ho]
    rfl

end Sys2Proof.Machine
end

section
/-! PROOFS. A Delay_Req goes out, and the time source is lost or changed (10 R261, R265, R266, R276). -/

namespace Sys2Proof.Machine

/-! The Delay_Req (10 R261). -/

theorem delayReq_length (dom seq lane log : Nat) : (delayReq dom seq lane log).length = 44 := by
  simp [delayReq, portIdentity, zeros]

/-- A lane with one more packet at the end of its time channel's queue (10 R270). -/
def Lane.addTime (x : Lane) (p : TxPkt) : Lane := { x with ch := { x.ch with timeTx := x.ch.timeTx ++ [p] } }

/-- A lane in stage 9 with room takes a packet at the end of its queue (10 R270). -/
theorem State.queueTime_takes {s : State} {l : Nat} {p : TxPkt} (h9 : (s.lane l).bring.stage = 9)
    (hroom : (s.lane l).timeFill + p.data.length + 4 ≤ 8192) :
    s.queueTime l p = s.modLane l fun x => x.addTime p := if_pos ⟨h9, hroom⟩

theorem State.reqDue_of_all {s : State} (h : ∀ b, s.tod.reqAt = some b → s.over b (logSeconds (signed 8 (s.cfg 0x5810 3 0))) = true) :
    s.reqDue = true := by
  unfold State.reqDue
  split
  next b hb => exact h b hb
  next => rfl

theorem State.reqDue_of_early {s : State} {b : Nat} (hb : s.tod.reqAt = some b)
    (h : s.over b (logSeconds (signed 8 (s.cfg 0x5810 3 0))) = false) : s.reqDue = false := by
  unfold State.reqDue
  rw [hb]
  exact h

/-- What the module notes of the Delay_Req that it sends: its sequence and time, its egress time still open (10 R261). -/
def State.requesting (s : State) : State := { s with tod.dreqSeq := (s.tod.dreqSeq + 1) % 65536, tod.t3 := none, tod.reqAt := some s.now }

/-- The Delay_Req on a lane, as a packet of its time channel (10 R261). -/
def State.delayPkt (s : State) (l : Nat) : TxPkt := ⟨none, true, 1 :: delayReq (s.cfg 0x5810 2 0) ((s.tod.dreqSeq + 1) % 65536) l 0x7F⟩

theorem delayInterval_sends {s : State} {l : Nat} (hl : s.ptpLane = some l) (hs : s.timeSource = 1) (hu : s.sup.up = true)
    (h9 : (s.lane l).bring.stage = 9) (hroom : (s.lane l).timeFill + 45 + 4 ≤ 8192) (hd : s.reqDue = true) :
    delayInterval s = s.requesting.modLane l fun x => x.addTime (s.delayPkt l) := by
  have hlen : (s.delayPkt l).data.length = 45 := congrArg (· + 1) (delayReq_length ..)
  rw [← State.queueTime_takes (s := s.requesting) (p := s.delayPkt l) h9 (by rw [hlen]; exact hroom)]
  simp only [delayInterval, hl]
  exact if_pos ⟨hs, hu, hd⟩

theorem delayInterval_early {s : State} (h : s.reqDue = false) : delayInterval s = s := by
  unfold delayInterval
  split
  · exact if_neg (by simp [h])
  · rfl

/-! The loss of a source (10 R265, R266). -/

/-- The state without what it knows of the time, its time governor, and the alarm conditions. -/
def State.lessTime (s : State) : State := { s with tod := {}, tim.time := {}, store.conds := [] }

theorem State.lessTime_of_lessConds {s t : State} (h : t.lessConds = s.lessConds) : t.lessTime = s.lessTime := (congrArg State.lessTime h :)

theorem State.tod_of_lessConds {s t : State} (h : t.lessConds = s.lessConds) : t.tod = s.tod := (congrArg State.tod h :)

/-- Holdover, before its conditions are noted (10 R266). -/
def State.enterHold (s : State) : State :=
  { s with tod.state := .holdover, tod.within := 0, tod.outliers := 0, tod.slewing := false, tod.slewLeft := 0 }.loseGov 1

theorem State.timeHold_lessConds (s : State) : s.timeHold.lessConds = s.enterHold.lessConds := s.enterHold.watchTiming_lessConds

/-- What is left of a state in which the time source is lost (10 R265, R266). -/
structure LosesSource (s t : State) : Prop where
  qualified : t.tod.qualified = false
  run : t.tod.run = []
  holds : s.tod.state = .acquiring ∨ s.tod.state = .locked → t.tod.state = .holdover
  keeps : s.tod.state = .unset ∨ s.tod.state = .holdover → t.tod.state = s.tod.state
  less : t.lessTime = s.lessTime

/-- The state with the present source no longer qualified, and nothing of it under way (10 R265). -/
def State.unqualified (s : State) : State :=
  { s.breakRun with tod.qualified := false, tod.prevEdge := none, tod.syncSeq := none, tod.syncOk := false }

theorem State.loseSource_loses (s : State) : LosesSource s s.loseSource := by
  have hlose : s.loseSource = if s.tod.state = .acquiring ∨ s.tod.state = .locked then s.unqualified.timeHold else s.unqualified := rfl
  rw [hlose]
  split
  next h =>
    have hneither : ¬ (s.tod.state = .unset ∨ s.tod.state = .holdover) := by
      rcases h with h | h <;> simp [h]
    have hless := s.unqualified.timeHold_lessConds
    have htod := State.tod_of_lessConds hless
    exact ⟨congrArg Tod.qualified htod, congrArg Tod.run htod, fun _ => congrArg Tod.state htod, fun k => absurd k hneither,
      (State.lessTime_of_lessConds hless).trans rfl⟩
  next h => exact ⟨rfl, rfl, fun k => absurd k h, fun _ => rfl, rfl⟩

/-- A source that is gone is lost, and with it a master that is no longer heard (10 R265). -/
theorem sourceLost_loses {s : State} (hu : s.sup.up = true) (hg : s.sourceGone = true) : LosesSource s (sourceLost s) := by
  have h := s.loseSource_loses
  simp only [sourceLost, hu, hg, Bool.and_self, if_true]
  generalize s.loseSource = u at h ⊢
  obtain ⟨hqual, hrun, hholds, hkeeps, hless⟩ := h
  repeat' split
  all_goals exact ⟨hqual, hrun, hholds, hkeeps, hless⟩

/-! Another source, or source lane (10 R276). -/

/-- The settings of a state with one setting of no lane stored. -/
theorem State.stored_of_persist {s t : State} {index sub n : Nat} (hi : index ≠ 0x5400) (hs : sub < 256)
    (h : t.persist = (s.setStaged index sub 0 [n]).persist) : t.cfg index sub 0 = n ∧ SetsOnly index sub 0 s t := by
  have hset : SetsLane index sub 0 n s (s.setStaged index sub 0 [n]) := .of_setStaged hi hs (by decide) (.refl ..)
  have hval (i b e : Nat) : t.val i b e = (s.setStaged index sub 0 [n]).val i b e := by simp only [State.val, h]
  exact ⟨(congrArg (fun v : List Nat => v.headD 0) (hval ..)).trans hset.set, fun i b e hne => (hval i b e).trans (hset.sets i b e hne)⟩

/-- Another time source is stored, and the present one lost with every master heard (10 R276). -/
theorem effTimeSource_changes {s : State} {n : Nat} (hn : n ≠ s.timeSource) (x : Session) :
    ∃ u, effTimeSource x [n] s = ok u ∧ u.tod.qualified = false ∧ u.tod.foreign = [] ∧ u.tod.master = none ∧
      u.lessTime = (s.setStaged 0x5800 1 0 [n]).lessTime := by
  refine ⟨_, congrArg ok (if_neg hn.symm), ?_⟩
  have hlose := (s.setStaged 0x5800 1 0 [n]).loseSource_loses
  generalize (s.setStaged 0x5800 1 0 [n]).loseSource = u at hlose ⊢
  have hless := ({ u with tod.foreign := [], tod.master := none } : State).watchTiming_lessConds
  have htod := State.tod_of_lessConds hless
  exact ⟨(congrArg Tod.qualified htod).trans hlose.qualified, congrArg Tod.foreign htod, congrArg Tod.master htod,
    (State.lessTime_of_lessConds hless).trans hlose.less⟩

/-- What follows another source lane: no master and no delay exchange of the old one is left (10 R276). -/
def State.newLane (s : State) : State :=
  { s with tod.foreign := [], tod.master := none, tod.t3 := none, tod.dvalid := false, tod.delays := [], tod.syncOk := false, tod.reqAt := none }

/-- Another source lane is stored, and the present source, where it is PTP, lost with every master heard (10 R276). -/
theorem effPtpLane_changes {s : State} {l : Nat} (hl : l ≠ s.cfg 0x5810 1 0) (x : Session) :
    ∃ u, effPtpLane x [l] s = ok u ∧ u.tod.foreign = [] ∧ u.tod.master = none ∧ u.tod.dvalid = false ∧ u.tod.delays = [] ∧
      (s.timeSource = 1 → u.tod.qualified = false) ∧ u.lessTime = (s.setStaged 0x5810 1 0 [l]).lessTime := by
  have hsource : (s.setStaged 0x5810 1 0 [l]).timeSource = s.timeSource :=
    congrArg (fun v : List Nat => v.headD 0) (State.val_setStaged_other _ _ _ _ _ _ _ _ _ (by decide) (by decide))
  have hlose : ∃ v : State, effPtpLane x [l] s = ok v.newLane.watchTiming ∧ (s.timeSource = 1 → v.tod.qualified = false) ∧
      v.lessTime = (s.setStaged 0x5810 1 0 [l]).lessTime := by
    refine ⟨_, congrArg ok (if_neg hl.symm), ?_⟩
    rw [hsource]
    split
    next => exact ⟨fun _ => (State.loseSource_loses _).qualified, (State.loseSource_loses _).less⟩
    next h => exact ⟨fun k => absurd k h, rfl⟩
  obtain ⟨v, hv, hqual, hvless⟩ := hlose
  have hless := v.newLane.watchTiming_lessConds
  have htod := State.tod_of_lessConds hless
  exact ⟨_, hv, congrArg Tod.foreign htod, congrArg Tod.master htod, congrArg Tod.dvalid htod, congrArg Tod.delays htod,
    fun h => (congrArg Tod.qualified htod).trans (hqual h), (State.lessTime_of_lessConds hless).trans hvless⟩

/-- A write of one byte that stores it, and beside the setting changes the time alone. -/
theorem run_storesTime {rq : Rq} {x : Session} {s u : State} {index n : Nat} {o : Obj} (h : Writes rq index 1 0 (u8 n) x s)
    (ho : findObj index 1 = some o) (hsplit : o.fields.map Prod.snd = [1]) (hi : index ≠ 0x5400) (hn : n < 256)
    {eff : Session → List Nat → State → Act} (he : eff x [n] (s.quiet.heard rq.session) = ok u)
    (hu : u.lessTime = ((s.quiet.heard rq.session).setStaged index 1 0 [n]).lessTime) :
    ∃ t, run (writeOf rq index 1 0 (u8 n) eff) s = .next t ∧ Answered 2 (writeReq rq index 1 0 (u8 n)) 0 t ∧ t.cfg index 1 0 = n ∧
      SetsOnly index 1 0 s t ∧ t.tod = u.tod ∧
      { t.lessAnswers.lessSettings with tod := s.tod, tim.time := s.tim.time } = s.lessAnswers.lessSettings := by
  have heff : eff x (o.split (u8 n)) (s.quiet.heard rq.session) = ok u := by rwa [Obj.split, hsplit, splitFields_u8_of_lt hn]
  obtain ⟨r, hr, ha⟩ := run_writeOf_answers h ho (by decide) (by decide) (by omega) heff (congrArg (fun w : State => w.mgmt.sessions) hu :)
  have hpersist : r.persist = ((s.quiet.heard rq.session).setStaged index 1 0 [n]).persist :=
    (congrArg State.persist ha.less :).trans (congrArg State.persist hu :)
  obtain ⟨hcfg, hsets⟩ := State.stored_of_persist hi (by decide) hpersist
  have hless : r.lessAnswers.lessSettings.lessTime = s.quiet.lessAnswers.lessSettings.lessTime :=
    calc r.lessAnswers.lessSettings.lessTime
      _ = u.lessAnswers.lessSettings.lessTime := congrArg (fun w : State => w.lessSettings.lessTime) ha.less
      _ = (s.quiet.heard rq.session).lessAnswers.lessSettings.lessTime := (congrArg (fun w : State => w.lessAnswers.lessSettings) hu :)
      _ = s.quiet.lessAnswers.lessSettings.lessTime := by rw [State.heard_lessAnswers]
  refine ⟨_, hr, ha.answered, hcfg, fun i b e hne => (hsets i b e hne).trans (by simp), (congrArg State.tod ha.less :), ?_⟩
  exact congrArg (fun w : State => s.fixed { w with tod := s.tod, tim.time := s.tim.time }) hless

end Sys2Proof.Machine
end

section
/-! PROOFS. Permissions for a jump, and the slew that one starts (10 R267). -/

namespace Sys2Proof.Machine

/-! Permissions (10 R267). -/

/-- The state with a permission stored, for the samples that follow it. -/
def State.permitted (s : State) (v : Nat) : State := { s with tod.permit := v, tod.permitSamples := [] }

theorem effPermit_stores {s : State} {v : Nat} (ht : s.tod.tjr = true) (hv : v = 1 ∨ v = 2) (x : Session) :
    effPermit x [v] s = ok (s.permitted v) := by
  have hrange : ¬ (v = 0 ∨ 2 < v) := by omega
  exact if_neg (by simpa [ht] using hrange)

theorem effPermit_refuses {s : State} (ht : s.tod.tjr = false) (x : Session) (vs : List Nat) :
    effPermit x vs s = .refuse (naming stState 0x5820 2 0) := by simp [effPermit, ht]

section

variable {rq : Rq} {x : Session} {s : State} {v : Nat}

/-- While a jump awaits permission, a permission is stored, and nothing else is written (10 R267). -/
theorem run_permit (h : Writes rq 0x5800 4 0 (u8 v) x s) (ht : s.tod.tjr = true) (hv : v = 1 ∨ v = 2) :
    ∃ t, run (writeOf rq 0x5800 4 0 (u8 v) effPermit) s = .next t ∧ Answered 2 (writeReq rq 0x5800 4 0 (u8 v)) 0 t ∧
      t.tod = { s.tod with permit := v, permitSamples := [] } ∧ { t.lessAnswers with tod := s.tod } = s.lessAnswers := by
  obtain ⟨r, hr, ha⟩ := run_writeOf_answers h rfl (by decide) (by decide) (by decide)
    ((congrArg (effPermit x · _) (splitFields_u8_of_lt (by omega))).trans
      (effPermit_stores (s := s.quiet.heard rq.session) (by simpa using ht) hv x)) rfl
  have hless := ha.less_of_heard (F := fun w => w.permitted v) (z := s.quiet.lessAnswers) (fun w => { w with tod := s.tod }) fun _ => rfl
  have htod : r.tod = ((s.quiet.heard rq.session).permitted v).tod := (congrArg State.tod ha.less :)
  exact ⟨_, hr, ha.answered, htod.trans (by simp [State.permitted]), congrArg s.fixed hless⟩

/-- Without such a jump it is refused (10 R267). -/
theorem run_permit_refused (h : Writes rq 0x5800 4 0 (u8 v) x s) (ht : s.tod.tjr = false) :
    ∃ t, run (writeOf rq 0x5800 4 0 (u8 v) effPermit) s = .next t ∧ Answered 2 (writeReq rq 0x5800 4 0 (u8 v)) 2 t ∧ t.tod = s.tod := by
  obtain ⟨t, hrun, hans, hless⟩ := run_writeOf_refusal h rfl (by decide) (by decide)
    (effPermit_refuses (s := s.quiet.heard rq.session) (by simpa using ht) x _) (by decide)
  exact ⟨t, hrun, hans, (congrArg State.tod hless :)⟩

end

/-! The slew (10 R267; log entries 1, 77 and 165). -/

theorem slewEnd_complete {s : State} (hs : s.tod.slewing = true) (hl : s.tod.slewLeft = 0) :
    slewEnd s = { s with tod.slewing := false, tod.slewFrac := 0 } := if_pos (by simp [hs, hl])

theorem slewEnd_early {s : State} (h : s.tod.slewing = false ∨ s.tod.slewLeft ≠ 0) : slewEnd s = s := if_neg (by rcases h with h | h <;> simp [h])

/-- What a nanosecond takes from an offset, no more than is left and of its sign, leaves no greater one. -/
theorem natAbs_sub_sign_mul_min_le (x : Int) (n : Nat) : (x - x.sign * (min n x.natAbs : Nat)).natAbs ≤ x.natAbs := by
  rcases lt_trichotomy x 0 with hx | hx | hx
  · rw [Int.sign_eq_neg_one_of_neg hx]
    omega
  · simp [hx]
  · rw [Int.sign_eq_one_of_pos hx]
    omega

/-- A nanosecond of a slew: what it takes from the offset leaves the counter (10 R267). -/
theorem State.slewStep_spec (s : State) : s.slewStep.tod.slewLeft.natAbs ≤ s.tod.slewLeft.natAbs ∧
    s.slewStep.tod.counter =
      (((s.tod.counter : Int) - (s.tod.slewLeft - s.slewStep.tod.slewLeft)) % ((281474976710656 * tcSecond : Nat) : Int)).toNat := by
  refine ⟨natAbs_sub_sign_mul_min_le .., ?_⟩
  simp only [State.slewStep, sub_sub_cancel]

theorem State.tickTime_slews {s : State} (hs : s.tod.slewing = true) (hr : s.power.portRail = true) (hf : s.power.portFault = false) :
    s.tickTime = s.countTime.slewStep := by
  simp [State.tickTime, hs, hr, hf]

/-- Of the time of day, a tick of the clock moves what the counter's own tick does (10 R258). -/
theorem State.tick_tod (s : State) : s.tick.tod = s.tickTime.tod := by
  have hclose (w : State) : w.closeSpent.tod = w.tod := State.each_keep State.tod _ _ (fun i w => by simp) w
  have hbeat (w : State) (e : EngId) : (w.missBeat e).tod = w.tod := by
    simp only [State.missBeat]
    split <;> simp
  have htrain (w : State) (l : LaneId) : (w.tickTraining l).tod = w.tod := by
    simp only [State.tickTraining]
    split <;> simp [State.trainingFrame]
  simp only [State.tick, hclose, hbeat]
  exact State.each_keep State.tod _ _ (fun l w => htrain w l) _

theorem step_tick {s : State} (h : s.pending = []) : step s = .next s.tick := by
  unfold step
  rw [h]

/-- Settles O31: a Delay_Req by what is queued and noted, a lost source and a new one by the time state they leave, permissions by what they store, a
slew by the counter's own nanosecond. -/
theorem timeSourcesAndJumps : Obligations.TimeSourcesAndJumps := by
  unfold Obligations.TimeSourcesAndJumps
  refine ⟨fun s => ⟨fun l hl hs hu h9 hroom hd => ?_, fun b hb ho => ?_, fun hu hg => ?_, fun rq n x hn h hne => ?_, fun rq l x hl h hne => ?_⟩,
    fun s => ⟨fun rq x h ht => run_permit h ht (.inl rfl), fun rq x h ht => run_permit h ht (.inr rfl), fun rq x h ht => run_permit_refused h ht,
      fun hs hl => ?_, fun h => ?_, fun hp hs hr hf => ?_⟩⟩
  · refine ⟨_, rfl, ?_⟩
    rw [delayInterval_sends (s := s.quiet) hl hs hu h9 hroom (State.reqDue_of_all hd)]
    have hlane (k : Nat) := s.quiet.requesting.lane_modLane l k fun x => x.addTime (s.quiet.delayPkt l)
    exact ⟨rfl, congrArg (fun x : Lane => x.ch.timeTx) ((hlane l).trans (if_pos rfl)), fun k hk => (hlane k).trans (if_neg hk), rfl⟩
  · refine ⟨_, rfl, ?_⟩
    rw [delayInterval_early (s := s.quiet) (State.reqDue_of_early hb ho)]
    rfl
  · obtain ⟨hqual, hrun, hholds, hkeeps, hless⟩ := sourceLost_loses (s := s.quiet) hu hg
    exact ⟨_, rfl, hqual, hrun, hholds, hkeeps,
      (congrArg (fun w : State => s.fixed { w with tod := s.tod, tim.time := s.tim.time, store.conds := s.store.conds }) hless :)⟩
  · obtain ⟨u, hu, hqual, hforeign, hmaster, hless⟩ := effTimeSource_changes (s := s.quiet.heard rq.session) (n := n)
      (by simpa [State.timeSource] using hne) x
    obtain ⟨t, ht, hans, hcfg, hsets, htod, hrest⟩ := run_storesTime h rfl rfl (by decide) (by omega) hu hless
    exact ⟨t, ht, hans, hcfg, hsets, htod ▸ hqual, htod ▸ hforeign, htod ▸ hmaster, hrest⟩
  · obtain ⟨u, hu, hforeign, hmaster, hvalid, hdelays, hqual, hless⟩ := effPtpLane_changes (s := s.quiet.heard rq.session) (l := l)
      (by simpa using hne) x
    obtain ⟨t, ht, hans, hcfg, hsets, htod, hrest⟩ := run_storesTime h rfl rfl (by decide) (by omega) hu hless
    exact ⟨t, ht, hans, hcfg, hsets, htod ▸ hforeign, htod ▸ hmaster, htod ▸ hvalid, htod ▸ hdelays,
      fun h1 => htod ▸ hqual (by simpa [State.timeSource] using h1), hrest⟩
  · refine ⟨_, rfl, ?_⟩
    rw [slewEnd_complete (s := s.quiet) hs hl]
    rfl
  · refine ⟨_, rfl, ?_⟩
    rw [slewEnd_early (s := s.quiet) h]
    rfl
  · obtain ⟨hleft, hcounter⟩ := s.countTime.slewStep_spec
    rw [← State.tickTime_slews hs hr hf, ← s.tick_tod] at hleft hcounter
    exact ⟨_, step_tick hp, congrArg Prod.snd s.tick_supply, hleft, hcounter⟩

end Sys2Proof.Machine
end

section
/-! PROOFS. A step runs the command at the front of the queue, and every setting of a reset module is at its default (14 R373). -/

namespace Sys2Proof.Machine

theorem exec_keeps_queue_and_clock (c : Instr) (s : State) : ∃ t, exec c s = .next t ∧ t.pending = s.pending ∧ t.now = s.now := by
  obtain ⟨u, hu⟩ := exec_fixed c s
  exact ⟨_, hu, rfl, rfl⟩

/-- Settles O1: `step` dispatches on the queue, and every command runs to a state put under the queue and the clock that it found. -/
theorem aStepTakesTheFrontCommand : Obligations.AStepTakesTheFrontCommand :=
  ⟨fun _ _ => rfl, fun _ => step_tick, fun s c => exec_keeps_queue_and_clock c s⟩

theorem State.reset_val (index sub el : Nat) : State.reset.val index sub el = objDefault 1 index sub el := rfl

/-- No lane is enabled by default (03 R81), and the port die of a reset module has no power. -/
theorem State.reset_enabled (l : Nat) : State.reset.enabled l = false := rfl

theorem State.reset_noKeys : NoKeys State.reset := ⟨fun _ => ⟨rfl, rfl⟩, fun _ => rfl, rfl, rfl, rfl⟩

theorem State.reset_wf : State.reset.wf := ⟨twf_nil _, twf_nil _, twf_nil _, twf_nil _, twf_nil _⟩

/-- Settles O5: every table of a reset module is empty, so each of its entries reads as an unlisted key does. -/
theorem resetHasTheInvariants : Obligations.ResetHasTheInvariants :=
  ⟨State.reset_wf, rfl, rfl, rfl, rfl, State.reset_noKeys, rfl, fun _ => rfl, State.reset_enabled, rfl, rfl, rfl, State.reset_val⟩

end Sys2Proof.Machine
end

section
/-! PROOFS. What a write leaves, said of the state before it with other sessions: the effect of a write does not turn on when its session was last
heard (14 R358, R364). -/

namespace Sys2Proof.Machine

/-- The state in which a request is heard: nothing sent yet, and the sessions some others. -/
def State.hearing (s : State) (m : Tab Session) : State := { s.quiet with mgmt.sessions := m }

theorem State.quiet_heard (s : State) (i : Nat) : ∃ m, s.quiet.heard i = s.hearing m := by
  unfold State.heard State.modSession
  split
  · exact ⟨_, rfl⟩
  · exact ⟨s.mgmt.sessions, rfl⟩

/-- A write has been answered with a status, and left what its effect left, but for what answers change. -/
structure Wrote (q : Req) (status : Nat) (s u t : State) : Prop where
  answered : Answered 2 q status t
  less : t.lessAnswers = (s.fixed u).lessAnswers
  ctr : ∀ i b f e, t.ctr i b f e = u.ctr i b f e

theorem Wrote.persist {q : Req} {status : Nat} {s u t : State} (h : Wrote q status s u t) : t.persist = u.persist :=
  (congrArg State.persist h.less :)

theorem Wrote.val {q : Req} {status : Nat} {s u t : State} (h : Wrote q status s u t) (i b e : Nat) : t.val i b e = u.val i b e := by
  simp only [State.val, h.persist]

/-- The fields of a value are read back from its bytes (00 R11). -/
theorem splitFields_joinFields {ns vs : List Nat} (h : List.Forall₂ (fun n v => v < 256 ^ n) ns vs) : splitFields ns (joinFields ns vs) = vs := by
  induction h with
  | nil => rfl
  | cons hv _ ih => simp [splitFields, joinFields, beNat_beBytes hv, ih]

/-- A setting stored is read back, and no other setting changes (14 R370). -/
theorem State.val_of_stored {s t : State} {index sub el : Nat} {v : List Nat} (hv : v ≠ []) (hk : objKey 0x5400 1 0 ≠ objKey index sub el)
    (h : t.persist = (s.setStaged index sub el v).persist) : t.val index sub el = v ∧ SetsOnly index sub el s t := by
  have hval (i b e : Nat) : t.val i b e = (s.setStaged index sub el v).val i b e := by simp only [State.val, h]
  exact ⟨(hval ..).trans (State.val_setStaged _ _ _ _ _ _ hv hk), fun i b e hne => (hval ..).trans (State.val_setStaged_other _ _ _ _ _ _ _ _ _ hk hne)⟩

/-- Only a setting of 5400:01 can be the SSM option, which defaults of others depend on (09 R235). -/
theorem ssmOption_ne {index sub el : Nat} (hi : index ≠ 0x5400) (hs : sub < 256) (he : el < 4294967296) :
    objKey 0x5400 1 0 ≠ objKey index sub el := fun h => hi ((objKey_inj (by decide) hs (by decide) he).mp h).1.symm

section

variable {rq : Rq} {index sub el : Nat} {v : Bytes} {x : Session} {o : Obj} {s : State} (h : Writes rq index sub el v x s)
  (ho : findObj index sub = some o) (h0 : sub ≠ 0) (h1 : sub ≠ 0xFE) {eff : Session → List Nat → State → Act}
include h ho h0 h1

/-- A write whose effect applies, and leaves the sessions alone (14 R364). -/
theorem run_writeOf_wrote (hq : ¬ (index = 0x5E10 ∧ sub = 3)) {a : Ans} {P : State → Prop}
    (he : ∀ m, ∃ u, eff x (o.split v) (s.hearing m) = .done u a id ∧ u.mgmt.sessions = m ∧ P u) :
    ∃ t u, run (writeOf rq index sub el v eff) s = .next t ∧ Wrote (writeReq rq index sub el v) a.status s u t ∧ P u := by
  obtain ⟨m, hheard⟩ := s.quiet_heard rq.session
  obtain ⟨u, heff, hsess, hP⟩ := he m
  obtain ⟨r, hrun, ha⟩ := run_writeOf_answers h ho h0 h1 hq (by rw [hheard]; exact heff) (by rw [hsess, hheard]; rfl)
  exact ⟨_, u, hrun, ⟨ha.answered, congrArg s.fixed ha.less, ha.ctr⟩, hP⟩

end

end Sys2Proof.Machine
end

section
/-! PROOFS. What the streams of a slot take from it: of the state, the live streams, their conditions and their seconds alone (11 R286, R292, R296). -/

namespace Sys2Proof.Machine

/-- All but the live streams, their conditions, and the seconds of receive streams. -/
def State.lessLive (s : State) : State := { s with sealing.tx := [], sealing.rx := [], store.conds := [], pm.stream := [] }

theorem State.noteCond_lessLive (s : State) (c : AlarmCond) (b : Bool) : (s.noteCond c b).lessLive = s.lessLive := by
  unfold State.noteCond
  repeat' split
  all_goals rfl

theorem State.settleTx_lessLive (s : State) (k : Nat) : (s.settleTx k).lessLive = s.lessLive :=
  (State.noteCond_lessLive ..).trans (State.noteCond_lessLive ..)

theorem State.modStream_lessLive (s : State) (k : Nat) (f : Raw → Raw) : (s.modStream k f).lessLive = s.lessLive := rfl

theorem State.settleRx_lessLive (s : State) (k : Nat) : (s.settleRx k).lessLive = s.lessLive := by
  have hnotes : ((s.noteCond (.rxSealf (Fin.ofNat 65536 k)) (s.rxS k).sealf).noteCond (.rxKeyx (Fin.ofNat 65536 k)) (s.rxS k).keyx).lessLive =
      s.lessLive := (State.noteCond_lessLive ..).trans (State.noteCond_lessLive ..)
  simp only [State.settleRx]
  split
  · exact hnotes
  · exact hnotes

theorem State.settleModTx_lessLive (s : State) (k : Nat) (f : TxStream → TxStream) : ((s.modTx k f).settleTx k).lessLive = s.lessLive := by
  rw [State.settleTx_lessLive]
  rfl

theorem State.settleModRx_lessLive (s : State) (k : Nat) (f : RxStream → RxStream) : ((s.modRx k f).settleRx k).lessLive = s.lessLive := by
  rw [State.settleRx_lessLive]
  rfl

theorem State.checkRxKey_lessLive (s : State) (k : Nat) : (s.checkRxKey k).lessLive = s.lessLive := by
  simp only [State.checkRxKey, State.settleRx_lessLive]
  split <;> rfl

theorem State.beginStreams_lessLive (s : State) (slot : Nat) : (s.beginStreams slot).lessLive = s.lessLive := by
  simp only [State.beginStreams]
  rw [State.each_keep State.lessLive _ _ fun k w => State.settleModRx_lessLive w k _,
    State.each_keep State.lessLive _ _ fun k w => State.settleModTx_lessLive w k _]

theorem State.keySlot_of_lessLive {s t : State} (h : t.lessLive = s.lessLive) (j : Nat) : t.keySlot j = s.keySlot j :=
  (congrArg (fun w : State => w.keySlot j) h :)

theorem State.sessions_of_lessLive {s t : State} (h : t.lessLive = s.lessLive) : t.mgmt.sessions = s.mgmt.sessions :=
  (congrArg (fun w : State => w.mgmt.sessions) h :)

theorem State.lessAnswers_of_lessLive {s t : State} (h : t.lessLive = s.lessLive) : t.lessAnswers.lessLive = s.lessAnswers.lessLive :=
  (congrArg State.lessAnswers h :)

/-- An answered write leaves what its effect left, but for what answers and live streams change. -/
theorem Wrote.live {q : Req} {status : Nat} {s u t z : State} (hw : Wrote q status s u t) (h : u.lessAnswers.lessLive = z.lessAnswers.lessLive) :
    t.lessAnswers.lessLive = (s.fixed z).lessAnswers.lessLive :=
  (congrArg State.lessLive hw.less).trans (congrArg s.fixed h :)

end Sys2Proof.Machine
end

section
/-! PROOFS. Keys are taken over when their switch is due, installed, and erased from their slot (11 R294 to R296, Table 11-11). -/

namespace Sys2Proof.Machine

/-! The switch (11 R296). -/

/-- Each stream of a list is left with what its change gives. -/
theorem State.each_modTx_txS {P : TxStream → Prop} {f : TxStream → TxStream} (hf : ∀ x, P (f x)) {j : Nat} (ks : List Nat) (s : State)
    (h : j ∈ ks ∨ P (s.txS j)) : P ((s.each ks fun k s => (s.modTx k f).settleTx k).txS j) := by
  induction ks generalizing s with
  | nil => exact h.resolve_left List.not_mem_nil
  | cons k ks ih =>
    refine ih _ ?_
    have hkeep : ((s.modTx k f).settleTx k).txS j = (s.modTx k f).txS j := by simp [State.settleTx, State.txS]
    have hread : (s.modTx k f).txS j = if j = k then f (s.txS k) else s.txS j := tget_tmod ..
    by_cases hk : j = k
    · exact .inr (by rw [hkeep, hread, if_pos hk]; exact hf _)
    · rw [hkeep, hread, if_neg hk]
      exact h.imp_left fun hj => (List.mem_cons.mp hj).resolve_left hk

/-- The slots, one of them changed. -/
def State.modSlotKeys (s : State) (k : Nat) (f : KeySlot → KeySlot) : State := { s with sealing.slots := tmod {} s.sealing.slots k f }

theorem State.keySlot_modSlotKeys (s : State) (k j : Nat) (f : KeySlot → KeySlot) :
    (s.modSlotKeys k f).keySlot j = if j = k then f (s.keySlot k) else s.keySlot j := tget_tmod ..

/-- The pending key takes over, and every stream of the slot begins again (11 R296). -/
theorem switchKey_due {s : State} {k : Nat} (hp : (s.keySlot k).pend.isSome = true) (hd : s.switchDue k = true) :
    (switchKey k s).lessLive = (s.modSlotKeys k fun x => { x with cur := x.pend, pend := none, switchAt := 0 }).lessLive ∧
    ∀ j ∈ s.txOfSlot k, ((switchKey k s).txS j).counter = 0 ∧ ((switchKey k s).txS j).newKey = true := by
  simp only [switchKey, hp, hd, Bool.and_self, if_true]
  constructor
  · rw [State.each_keep State.lessLive _ _ fun k w => State.settleModRx_lessLive w k _,
      State.each_keep State.lessLive _ _ fun k w => State.settleModTx_lessLive w k _]
    rfl
  · intro j hj
    have hrx (w : State) (i : Nat) (f : RxStream → RxStream) : ((w.modRx i f).settleRx i).sealing.tx = w.sealing.tx :=
      (congrArg (fun z : State => z.sealing.tx) (State.settleRx_lessVerdicts (w.modRx i f) i) :)
    rw [State.txS, State.each_keep (fun w : State => w.sealing.tx) _ _ fun i w => hrx w i _]
    exact State.each_modTx_txS (P := fun x => x.counter = 0 ∧ x.newKey = true) (fun _ => ⟨rfl, rfl⟩) _ _ (.inl hj)

theorem switchKey_early {s : State} {k : Nat} (h : s.switchDue k = false) : switchKey k s = s := by
  simp [switchKey, h]

/-- KEY_SWITCH when the switch is due. -/
theorem keySwitch_due {s : State} {k : Fin 16384} (hp : (s.keySlot k).pend.isSome = true) (hd : s.switchDue k = true) :
    ∃ t, exec (.keySwitch k) s = .next t ∧
      (∀ j, t.keySlot j = if j = k then { s.keySlot k with cur := (s.keySlot k).pend, pend := none, switchAt := 0 } else s.keySlot j) ∧
      (∀ j ∈ s.txOfSlot k, (t.txS j).counter = 0 ∧ (t.txS j).newKey = true) ∧
      { t with sealing := s.sealing, store.conds := s.store.conds, pm.stream := s.pm.stream } = s.quiet := by
  obtain ⟨hless, htx⟩ := switchKey_due (s := s.quiet) hp hd
  refine ⟨_, rfl, fun j => ?_, htx, ?_⟩
  · exact (State.keySlot_of_lessLive hless j).trans (State.keySlot_modSlotKeys ..)
  · exact (congrArg (fun w : State => s.fixed { w with sealing := s.sealing, store.conds := s.store.conds, pm.stream := s.pm.stream }) hless :)

/-! A key is installed (11 R294, R295). -/

/-- A failed authentication, counted (15 R408). -/
def State.failedOnce (s : State) : State :=
  { s.count 0x9020 5 1 0 with sec.authCount := s.sec.authCount + 1, sec.authAt := if s.sec.authCount = 0 then s.now else s.sec.authAt }

theorem State.authFail_below {s : State} (h : s.cfg 0x9020 2 0 = 0 ∨ s.sec.authCount + 1 < s.cfg 0x9020 2 0) : s.authFail = s.failedOnce :=
  if_neg fun (hc : s.cfg 0x9020 2 0 ≠ 0 ∧ s.cfg 0x9020 2 0 ≤ s.sec.authCount + 1) => by omega

/-- No erasure alarm stands, so none clears (11 R299). -/
theorem State.keyInstalled_of_noAlarm {s : State} (h : s.sealing.eraseAlarm = false) : s.keyInstalled = s := by
  simp [State.keyInstalled, h]

theorem State.cipherJob_sessions (s : State) (n : Nat) (g : Bool) : (s.cipherJob n g).mgmt.sessions = s.mgmt.sessions := by
  simp only [State.cipherJob]
  split <;> rfl

/-- A slot takes a key: as its current one where it has none, otherwise as its pending one (11 R294). -/
def KeySlot.take (x : KeySlot) (p : KeyPlain) (n : Nat) : KeySlot :=
  if x.cur.isNone then { x with cur := some ⟨p.serial, p.key⟩, mark := p.serial }
  else { x with pend := some ⟨p.serial, p.key⟩, switchAt := n, mark := p.serial }

/-- The slot has taken a key, and one mark of flash is spent (11 R295). -/
def State.takeKey (s : State) (slot : Nat) (p : KeyPlain) (n : Nat) : State :=
  { s.modSlotKeys slot (·.take p n) with persist.markFree := s.persist.markFree - 1 }

theorem State.keySlot_takeKey (s : State) (slot : Nat) (p : KeyPlain) (n j : Nat) :
    (s.takeKey slot p n).keySlot j = if j = slot then (s.keySlot slot).take p n else s.keySlot j := State.keySlot_modSlotKeys ..

section

variable {s : State} (hb : s.keysBarred = false) (hkwk : s.sealing.kwk.isSome = true)
include hb hkwk

theorem effInstallKey_bad (slot n : Nat) (x : Session) (vs : List Nat)
    (hl : s.cfg 0x9020 2 0 = 0 ∨ s.sec.authCount + 1 < s.cfg 0x9020 2 0) :
    effInstallKey slot none n x vs s = .done (s.cipherJob 56 false).failedOnce (refusal stIntegrity) id := by
  have hsome : s.sealing.kwk.isNone = false := Option.isNone_eq_false_iff.mpr hkwk
  have hjob : (s.cipherJob 56 false).cfg 0x9020 2 0 = 0 ∨ (s.cipherJob 56 false).sec.authCount + 1 < (s.cipherJob 56 false).cfg 0x9020 2 0 := by
    simpa [State.cfg, State.val] using hl
  simp only [effInstallKey, hb, hsome, Bool.false_eq_true, if_false, badUnwrap, State.authFail_below hjob]

variable (he : s.sealing.eraseAlarm = false) {slot : Nat} {p : KeyPlain} (hp : p.slot = slot) (hl : p.lane = s.bindLane slot)
  (hd : p.direction = s.bindDir slot) (hm : (s.keySlot slot).mark < p.serial) (hf : 0 < s.persist.markFree) (hok : s.persist.markOk = true)
  (hpend : (s.keySlot slot).pend = none)
include he hp hl hd hm hf hok hpend

theorem effInstallKey_good {n : Nat} (h0 : (s.keySlot slot).cur = none → n = 0)
    (h1 : (s.keySlot slot).cur.isSome = true → s.fab.superframe + 2 ≤ n ∧ n ≤ s.fab.superframe + 43200) (x : Session) (vs : List Nat) :
    effInstallKey slot (some p) n x vs s =
      .done ((if (s.keySlot slot).cur.isNone then (s.takeKey slot p n).beginStreams slot else s.takeKey slot p n).cipherJob 56)
        { offset := p.serial % 4294967296 } id := by
  have hsome : s.sealing.kwk.isNone = false := Option.isNone_eq_false_iff.mpr hkwk
  have hbind : ¬ (p.slot ≠ slot ∨ p.lane ≠ s.bindLane slot ∨ p.direction ≠ s.bindDir slot) := by simp [hp, hl, hd]
  have hfirst : ¬ ((s.keySlot slot).cur.isNone ∧ n ≠ 0) := fun h => h.2 (h0 (Option.isNone_iff_eq_none.mp h.1))
  have hsoon : ¬ ((s.keySlot slot).cur.isSome ∧ n < s.fab.superframe + 2) := fun h => absurd (h1 h.1).1 (by omega)
  have hlate : ¬ ((s.keySlot slot).cur.isSome ∧ s.fab.superframe + 43200 < n) := fun h => absurd (h1 h.1).2 (by omega)
  simp only [effInstallKey, hb, hsome, Bool.false_eq_true, if_false, hbind, Nat.not_le.mpr hm, hfirst, hsoon, hlate, hpend, Option.isSome_none,
    Nat.pos_iff_ne_zero.mp hf]
  rw [if_neg (by simp [hok])]
  exact congrArg (fun w : State => Act.done ((if (s.keySlot slot).cur.isNone then w.beginStreams slot else w).cipherJob 56)
    { offset := p.serial % 4294967296 } id) (State.keyInstalled_of_noAlarm (s := s.takeKey slot p n) he)

end

theorem State.lessAnswers_of_live {s t z : State} (h : t.lessAnswers.lessLive = z.lessAnswers.lessLive)
    (hz : ({ z with sealing := s.sealing, persist := s.persist, pm.stream := s.pm.stream } : State).lessAnswers = s.lessAnswers) :
    { t.lessAnswers with sealing := s.sealing, persist := s.persist, pm.stream := s.pm.stream } = s.lessAnswers :=
  (congrArg (fun w : State => { w with sealing := s.sealing, persist := s.persist, pm.stream := s.pm.stream }) h).trans hz

/-- The installation of a key runs on what the state before it unwraps (11 R294). -/
theorem exec_installKey {s : State} {w : Bytes} {plain : Option KeyPlain} (h : s.unwrapped w = plain) (rq : Rq) (slot n : Nat) :
    exec (.installKey rq slot w n) s = run (writeOf rq 0x5C10 1 slot (w ++ beBytes 8 n) (effInstallKey slot plain n)) s := by
  rw [← h]
  rfl

section

variable {s : State} {rq : Rq} {x : Session} {slot n : Nat} {w : Bytes} {p : KeyPlain}
  (h : Writes rq 0x5C10 1 slot (w ++ beBytes 8 n) x s) (hb : s.keysBarred = false) (hkwk : s.sealing.kwk.isSome = true)
include h hb hkwk

/-- A ciphertext that does not unwrap (11 R294; 15 R408). -/
theorem installKey_bad (hw : s.unwrapped w = none) (hl : s.cfg 0x9020 2 0 = 0 ∨ s.sec.authCount + 1 < s.cfg 0x9020 2 0) :
    ∃ t, exec (.installKey rq slot w n) s = .next t ∧ Answered 2 (writeReq rq 0x5C10 1 slot (w ++ beBytes 8 n)) 8 t ∧
      t.sealing = s.sealing ∧ t.sec.authCount = s.sec.authCount + 1 ∧ t.persist = s.persist := by
  rw [exec_installKey hw]
  obtain ⟨t, u, hrun, hwrote, hseal, hcount, hpersist⟩ := run_writeOf_wrote h rfl (by decide) (by decide) (by decide) (a := refusal stIntegrity)
    (P := fun u => u.sealing = s.sealing ∧ u.sec.authCount = s.sec.authCount + 1 ∧ u.persist = s.persist) fun m =>
    ⟨_, effInstallKey_bad (s := s.hearing m) hb hkwk slot n x _ hl, by simp [State.failedOnce, State.cipherJob_sessions, State.hearing],
      by simp [State.failedOnce, State.hearing]⟩
  exact ⟨t, hrun, hwrote.answered, (congrArg State.sealing hwrote.less :).trans hseal,
    (congrArg (fun w : State => w.sec.authCount) hwrote.less :).trans hcount, hwrote.persist.trans hpersist⟩

variable (hw : s.unwrapped w = some p) (he : s.sealing.eraseAlarm = false) (hp : p.slot = slot) (hl : p.lane = s.bindLane slot)
  (hd : p.direction = s.bindDir slot) (hm : (s.keySlot slot).mark < p.serial) (hf : 0 < s.persist.markFree) (hok : s.persist.markOk = true)
  (hpend : (s.keySlot slot).pend = none)
include hw he hp hl hd hm hf hok hpend

/-- A key that comes to an empty slot is its current one (11 R294). -/
theorem installKey_first (hcur : (s.keySlot slot).cur = none) (hn : n = 0) :
    ∃ t, exec (.installKey rq slot w n) s = .next t ∧ Answered 2 (writeReq rq 0x5C10 1 slot (w ++ beBytes 8 n)) 0 t ∧
      (∀ j, t.keySlot j = if j = slot then { s.keySlot slot with cur := some ⟨p.serial, p.key⟩, mark := p.serial } else s.keySlot j) ∧
      t.persist = { s.persist with markFree := s.persist.markFree - 1 } ∧ t.sealing.kwk = s.sealing.kwk ∧
      { t.lessAnswers with sealing := s.sealing, persist := s.persist, pm.stream := s.pm.stream } = s.lessAnswers := by
  have hnone : (s.keySlot slot).cur.isNone = true := Option.isNone_iff_eq_none.mpr hcur
  have hslot (m : Tab Session) : ((s.hearing m).keySlot slot).cur.isNone = true := hnone
  rw [exec_installKey hw]
  obtain ⟨t, u, hrun, hwrote, m, hless⟩ := run_writeOf_wrote h rfl (by decide) (by decide) (by decide) (a := { offset := p.serial % 4294967296 })
    (P := fun u => ∃ m, u.lessAnswers.lessLive = ((s.hearing m).takeKey slot p n).lessAnswers.lessLive) fun m => by
      refine ⟨_, effInstallKey_good (s := s.hearing m) hb hkwk he hp hl hd hm hf hok hpend (fun _ => hn)
        (fun hc => absurd (hcur ▸ hc : (none : Option KeyVal).isSome = true) (by simp)) x _, ?_, m, ?_⟩
      · rw [State.cipherJob_sessions, if_pos (hslot m)]
        exact State.sessions_of_lessLive (State.beginStreams_lessLive ((s.hearing m).takeKey slot p n) slot)
      · rw [if_pos (hslot m), State.cipherJob_lessAnswers]
        exact State.lessAnswers_of_lessLive (State.beginStreams_lessLive ..)
  have htake : ((s.keySlot slot).take p n) = { s.keySlot slot with cur := some ⟨p.serial, p.key⟩, mark := p.serial } := if_pos hnone
  have hread : t.lessAnswers.lessLive = (s.fixed ((s.hearing m).takeKey slot p n)).lessAnswers.lessLive :=
    hwrote.live hless
  refine ⟨t, hrun, hwrote.answered, fun j => ?_, (congrArg State.persist hread :), (congrArg (fun w : State => w.sealing.kwk) hread :), ?_⟩
  · rw [← htake]
    exact (congrArg (fun w : State => w.keySlot j) hread :).trans (s.keySlot_takeKey slot p n j)
  · exact State.lessAnswers_of_live hread rfl

/-- A key that comes to a slot in use is its pending one (11 R294). -/
theorem installKey_next (hcur : (s.keySlot slot).cur.isSome = true) (hsoon : s.fab.superframe + 2 ≤ n) (hlate : n ≤ s.fab.superframe + 43200) :
    ∃ t, exec (.installKey rq slot w n) s = .next t ∧ Answered 2 (writeReq rq 0x5C10 1 slot (w ++ beBytes 8 n)) 0 t ∧
      (∀ j, t.keySlot j = if j = slot then { s.keySlot slot with pend := some ⟨p.serial, p.key⟩, switchAt := n, mark := p.serial }
        else s.keySlot j) ∧
      t.persist = { s.persist with markFree := s.persist.markFree - 1 } ∧
      { t.lessAnswers with sealing.slots := s.sealing.slots, persist := s.persist } = s.lessAnswers := by
  have hsome : ¬ (s.keySlot slot).cur.isNone = true := by rw [Option.isNone_eq_false_iff.mpr hcur]; simp
  have hslot (m : Tab Session) : ¬ ((s.hearing m).keySlot slot).cur.isNone = true := hsome
  rw [exec_installKey hw]
  obtain ⟨t, u, hrun, hwrote, m, hless⟩ := run_writeOf_wrote h rfl (by decide) (by decide) (by decide) (a := { offset := p.serial % 4294967296 })
    (P := fun u => ∃ m, u.lessAnswers = ((s.hearing m).takeKey slot p n).lessAnswers) fun m => by
      refine ⟨_, effInstallKey_good (s := s.hearing m) hb hkwk he hp hl hd hm hf hok hpend
        (fun hc => absurd (hc ▸ hcur : (none : Option KeyVal).isSome = true) (by simp)) (fun _ => ⟨hsoon, hlate⟩) x _, ?_, m, ?_⟩
      · rw [State.cipherJob_sessions, if_neg (hslot m)]
        rfl
      · rw [if_neg (hslot m), State.cipherJob_lessAnswers]
  have htake : ((s.keySlot slot).take p n) = { s.keySlot slot with pend := some ⟨p.serial, p.key⟩, switchAt := n, mark := p.serial } := if_neg hsome
  have hread : t.lessAnswers = (s.fixed ((s.hearing m).takeKey slot p n)).lessAnswers := hwrote.less.trans (congrArg s.fixed hless)
  refine ⟨t, hrun, hwrote.answered, fun j => ?_, (congrArg State.persist hread :), ?_⟩
  · rw [← htake]
    exact (congrArg (fun w : State => w.keySlot j) hread :).trans (s.keySlot_takeKey slot p n j)
  · exact (congrArg (fun w : State => { w with sealing.slots := s.sealing.slots, persist := s.persist }) hread :)

end

/-! Keys are erased from their slot (Table 11-11). -/

section

variable {s : State} {rq : Rq} {x : Session} {slot : Nat}

theorem erasePendingKey_clears (h : Writes rq 0x5C10 5 slot (u8 1) x s) :
    ∃ t, exec (.erasePendingKey rq slot) s = .next t ∧ Answered 2 (writeReq rq 0x5C10 5 slot (u8 1)) 0 t ∧
      (∀ j, t.keySlot j = if j = slot then { s.keySlot slot with pend := none, switchAt := 0 } else s.keySlot j) ∧
      { t.lessAnswers with sealing.slots := s.sealing.slots } = s.lessAnswers := by
  obtain ⟨t, u, hrun, hwrote, m, rfl⟩ := run_writeOf_wrote h rfl (by decide) (by decide) (by decide) (eff := effEraseSlot slot) (a := {})
    (P := fun u => ∃ m, u = (s.hearing m).modSlotKeys slot fun x => { x with pend := none, switchAt := 0 }) fun m => ⟨_, rfl, rfl, m, rfl⟩
  refine ⟨t, hrun, hwrote.answered, fun j => ?_, ?_⟩
  · exact (congrArg (fun w : State => w.keySlot j) hwrote.less :).trans (State.keySlot_modSlotKeys s slot j _)
  · exact (congrArg (fun w : State => { w with sealing.slots := s.sealing.slots }) hwrote.less :)

/-- Of the state, the streams of an erased slot are left otherwise alone (Table 11-11). -/
theorem effEraseSlot_both (x : Session) (s : State) : ∃ u, effEraseSlot slot x [2] s = ok u ∧
    u.lessLive = (s.modSlotKeys slot fun x => { x with cur := none, pend := none, switchAt := 0 }).lessLive := by
  refine ⟨_, rfl, ?_⟩
  have hkeep (w : State) (k : Nat) : ((w.modRx k fun x => if x.live then { x with begun := true } else x).checkRxKey k).lessLive = w.lessLive := by
    rw [State.checkRxKey_lessLive]
    rfl
  rw [State.each_keep State.lessLive _ _ fun k w => hkeep w k, State.beginStreams_lessLive]
  rfl

theorem eraseSlotKey_clears (h : Writes rq 0x5C10 5 slot (u8 2) x s) :
    ∃ t, exec (.eraseSlotKey rq slot) s = .next t ∧ Answered 2 (writeReq rq 0x5C10 5 slot (u8 2)) 0 t ∧
      (∀ j, t.keySlot j = if j = slot then { s.keySlot slot with cur := none, pend := none, switchAt := 0 } else s.keySlot j) ∧
      { t.lessAnswers with sealing := s.sealing, pm.stream := s.pm.stream } = s.lessAnswers := by
  obtain ⟨t, u, hrun, hwrote, m, hless⟩ := run_writeOf_wrote h rfl (by decide) (by decide) (by decide) (eff := effEraseSlot slot) (a := {})
    (P := fun u => ∃ m, u.lessLive = ((s.hearing m).modSlotKeys slot fun x => { x with cur := none, pend := none, switchAt := 0 }).lessLive)
    fun m => by
      obtain ⟨u, hu, hless⟩ := effEraseSlot_both (slot := slot) x (s.hearing m)
      exact ⟨u, hu, State.sessions_of_lessLive hless, m, hless⟩
  have hread := hwrote.live (State.lessAnswers_of_lessLive hless)
  refine ⟨t, hrun, hwrote.answered, fun j => ?_, ?_⟩
  · exact (congrArg (fun w : State => w.keySlot j) hread :).trans
      (State.keySlot_modSlotKeys s slot j fun x => { x with cur := none, pend := none, switchAt := 0 })
  · exact (congrArg (fun w : State => { w with sealing := s.sealing, pm.stream := s.pm.stream }) hread :)

end

/-- Settles O33: a due switch, an installed key and an erasure each by the one change of their slot, beside which the streams of the slot alone differ. -/
theorem keysAreInstalledTakenOverAndErased : Obligations.KeysAreInstalledTakenOverAndErased := by
  refine ⟨fun s k => keySwitch_due, fun s k h => ⟨_, rfl, congrArg s.fixed (switchKey_early (s := s.quiet) h)⟩, fun s rq x slot w p n => ⟨?_, ?_, ?_, ?_⟩⟩
  · exact fun h hb hkwk hw hl => installKey_bad h hb hkwk hw hl
  · exact fun h hw hb hkwk he hp hl hd hm hf hok => ⟨fun hcur hpend hn => installKey_first h hb hkwk hw he hp hl hd hm hf hok hpend hcur hn,
      fun hcur hpend hsoon hlate => installKey_next h hb hkwk hw he hp hl hd hm hf hok hpend hcur hsoon hlate⟩
  · exact erasePendingKey_clears
  · exact eraseSlotKey_clears

end Sys2Proof.Machine
end

section
/-! PROOFS. The key-wrapping key and the keys of guarded channels are installed (11 R293, R302; 15 R408). -/

namespace Sys2Proof.Machine

/-! The key-wrapping key (11 R293). -/

theorem effInstallKwk_good {s : State} (hb : s.keysBarred = false) (key : BitVec 256) (x : Session) (vs : List Nat) :
    effInstallKwk (some key) x vs s = ok { s with sealing.kwk := some key } := by
  simp only [effInstallKwk, hb, Bool.false_eq_true, if_false]

theorem effInstallKwk_bad {s : State} (hb : s.keysBarred = false) (hl : s.cfg 0x9020 2 0 = 0 ∨ s.sec.authCount + 1 < s.cfg 0x9020 2 0)
    (x : Session) (vs : List Nat) : effInstallKwk none x vs s = .done s.failedOnce (refusal stIntegrity) id := by
  simp only [effInstallKwk, hb, Bool.false_eq_true, if_false, badUnwrap, State.authFail_below hl]

section

variable {s : State} {rq : Rq} {x : Session} {c : KwkCipher} (h : Writes rq 0x5E00 1 0 c.bytes x s) (hb : s.keysBarred = false)
include h hb

theorem installKwk_good {key : BitVec 256} (hc : c.decrypted = some key) :
    ∃ t, exec (.installKwk rq c) s = .next t ∧ Answered 2 (writeReq rq 0x5E00 1 0 c.bytes) 0 t ∧
      { t.lessAnswers with sealing.kwk := s.sealing.kwk } = s.lessAnswers ∧ t.sealing.kwk = some key := by
  obtain ⟨t, u, hrun, hwrote, m, rfl⟩ := run_writeOf_wrote h rfl (by decide) (by decide) (by decide) (eff := effInstallKwk c.decrypted) (a := {})
    (P := fun u => ∃ m, u = { s.hearing m with sealing.kwk := some key }) fun m => by
      rw [hc]
      exact ⟨_, effInstallKwk_good (s := s.hearing m) hb key x _, rfl, m, rfl⟩
  exact ⟨t, hrun, hwrote.answered, (congrArg (fun w : State => { w with sealing.kwk := s.sealing.kwk }) hwrote.less :),
    (congrArg (fun w : State => w.sealing.kwk) hwrote.less :)⟩

theorem installKwk_bad (hc : c.decrypted = none) (hl : s.cfg 0x9020 2 0 = 0 ∨ s.sec.authCount + 1 < s.cfg 0x9020 2 0) :
    ∃ t, exec (.installKwk rq c) s = .next t ∧ Answered 2 (writeReq rq 0x5E00 1 0 c.bytes) 8 t ∧
      t.sec.authCount = s.sec.authCount + 1 ∧ t.sealing = s.sealing ∧ t.ctr 0x9020 5 1 0 = (s.ctr 0x9020 5 1 0 + 1) % 4294967296 := by
  obtain ⟨t, u, hrun, hwrote, m, rfl⟩ := run_writeOf_wrote h rfl (by decide) (by decide) (by decide) (eff := effInstallKwk c.decrypted)
    (a := refusal stIntegrity) (P := fun u => ∃ m, u = (s.hearing m).failedOnce) fun m => by
      rw [hc]
      exact ⟨_, effInstallKwk_bad (s := s.hearing m) hb hl x _, rfl, m, rfl⟩
  exact ⟨t, hrun, hwrote.answered, (congrArg (fun w : State => w.sec.authCount) hwrote.less :), (congrArg State.sealing hwrote.less :),
    (hwrote.ctr ..).trans (State.ctr_count (s.hearing m) 0x9020 5 1 0)⟩

end

/-! The key of a channel (11 R302). -/

/-- The channel has taken a key, whose serial is its mark, and one mark of flash is spent (11 R302). -/
def State.takeChannelKey (s : State) (ch : Nat) (p : KeyPlain) : State :=
  { s with sealing.chanMark := tput 0 s.sealing.chanMark ch p.serial, persist.markFree := s.persist.markFree - 1 }.modChan ch
    fun x => { x with key := some ⟨p.serial, p.key⟩, next := 1, last := 0 }

theorem State.chanMark_takeChannelKey (s : State) (ch : Nat) (p : KeyPlain) : (s.takeChannelKey ch p).chanMark ch = p.serial := tget_tput_same ..

theorem State.chan_takeChannelKey (s : State) (ch : Nat) (p : KeyPlain) (j : Nat) : (s.takeChannelKey ch p).chan j =
    if j = ch then { s.chan ch with key := some ⟨p.serial, p.key⟩, next := 1, last := 0 } else s.chan j := State.chan_modChan ..

section

variable {s : State} {ch : Nat} {p : KeyPlain} (hb : s.keysBarred = false) (hkwk : s.sealing.kwk.isSome = true)
  (he : s.sealing.eraseAlarm = false) (hp : p.slot = 0x8000 + ch) (hl : p.lane = s.cfgF 0x5E10 1 ch 0) (hd : p.direction = 2)
  (hm : s.chanMark ch < p.serial) (hf : 0 < s.persist.markFree) (hok : s.persist.markOk = true)
include hb hkwk he hp hl hd hm hf hok

theorem effChannelKey_good (x : Session) (vs : List Nat) :
    effChannelKey ch (some p) x vs s = .done ((s.takeChannelKey ch p).cipherJob 56) { offset := p.serial % 4294967296 } id := by
  have hsome : s.sealing.kwk.isNone = false := Option.isNone_eq_false_iff.mpr hkwk
  have hbind : ¬ (p.slot ≠ 0x8000 + ch ∨ p.lane ≠ s.cfgF 0x5E10 1 ch 0 ∨ p.direction ≠ 2) := by simp [hp, hl, hd]
  simp only [effChannelKey, hb, hsome, Bool.false_eq_true, if_false, hbind, Nat.not_le.mpr hm, Nat.pos_iff_ne_zero.mp hf]
  rw [if_neg (by simp [hok])]
  exact congrArg (fun w : State => Act.done (w.cipherJob 56) { offset := p.serial % 4294967296 } id)
    (State.keyInstalled_of_noAlarm (s := s.takeChannelKey ch p) he)

theorem installChannelKey_good {rq : Rq} {x : Session} {w : Bytes} (hw : s.unwrapped w = some p) (h : Writes rq 0x5E10 2 ch w x s) :
    ∃ t, exec (.installChannelKey rq ch w) s = .next t ∧ Answered 2 (writeReq rq 0x5E10 2 ch w) 0 t ∧
      (∀ j, t.chan j = if j = ch then { s.chan ch with key := some ⟨p.serial, p.key⟩, next := 1, last := 0 } else s.chan j) ∧
      t.chanMark ch = p.serial ∧ t.persist = { s.persist with markFree := s.persist.markFree - 1 } ∧
      { t.lessAnswers with sealing.channels := s.sealing.channels, sealing.chanMark := s.sealing.chanMark, persist := s.persist } =
        s.lessAnswers := by
  obtain ⟨t, u, hrun, hwrote, m, hless⟩ := run_writeOf_wrote h rfl (by decide) (by decide) (by decide) (eff := effChannelKey ch (s.unwrapped w))
    (a := { offset := p.serial % 4294967296 }) (P := fun u => ∃ m, u.lessAnswers = ((s.hearing m).takeChannelKey ch p).lessAnswers) fun m => by
      rw [hw]
      exact ⟨_, effChannelKey_good (s := s.hearing m) hb hkwk he hp hl hd hm hf hok x _, State.cipherJob_sessions .., m,
        State.cipherJob_lessAnswers ..⟩
  have hread : t.lessAnswers = (s.fixed ((s.hearing m).takeChannelKey ch p)).lessAnswers := hwrote.less.trans (congrArg s.fixed hless)
  refine ⟨t, hrun, hwrote.answered, fun j => ?_, ?_, (congrArg State.persist hread :), ?_⟩
  · exact (congrArg (fun w : State => w.chan j) hread :).trans (s.chan_takeChannelKey ch p j)
  · exact (congrArg (fun w : State => w.chanMark ch) hread :).trans (s.chanMark_takeChannelKey ch p)
  · exact (congrArg (fun w : State =>
      { w with sealing.channels := s.sealing.channels, sealing.chanMark := s.sealing.chanMark, persist := s.persist }) hread :)

end

/-- Settles O34: a key that opens is stored by its own command, one that does not is a failed authentication below the limit. -/
theorem wrappingAndChannelKeysAreInstalled : Obligations.WrappingAndChannelKeysAreInstalled := fun _ _ _ =>
  ⟨fun _ _ hc h hb => installKwk_good h hb hc, fun _ hc h hb hl => installKwk_bad h hb hc hl,
    fun _ _ _ hw h hb hkwk he hp hl hd hm hf hok => installChannelKey_good hb hkwk he hp hl hd hm hf hok hw h⟩

end Sys2Proof.Machine
end

section
/-! PROOFS. The configuration of a stream is stored (11 R278, R279). -/

namespace Sys2Proof.Machine

section

variable {s : State} {k c g l h n z : Nat}

/-- All but what the configuration of a transmit stream writes beside its setting. -/
def State.lessTxWrite (s : State) : State := { s.lessSettings with cnt := [], sealing.tx := [], restarted := [] }

/-- All but what the configuration of a receive stream writes beside its setting. -/
def State.lessRxWrite (s : State) : State := { s.lessSettings with cnt := [], sealing.rx := [], restarted := [], pm.stream := [] }

/-- A stream's counters begin again with its group of counters (12 R323). -/
theorem State.clearGroup_streamWrite (s : State) (index el : Nat) : (s.clearGroup index el).persist = s.persist ∧
    (s.clearGroup index el).lessTxWrite = s.lessTxWrite ∧ (s.clearGroup index el).lessRxWrite = s.lessRxWrite := ⟨rfl, rfl, rfl⟩

theorem State.modStream_streamWrite (s : State) (k : Nat) (f : Raw → Raw) :
    (s.modStream k f).persist = s.persist ∧ (s.modStream k f).lessRxWrite = s.lessRxWrite := ⟨rfl, rfl⟩

theorem State.storeRx_streamWrite (s : State) (k : Nat) (vs : List Nat) (f : RxStream → RxStream) :
    ((s.setStaged 0x5C30 1 k vs).modRx k f).persist = (s.setStaged 0x5C30 1 k vs).persist ∧
    ((s.setStaged 0x5C30 1 k vs).modRx k f).lessRxWrite = s.lessRxWrite := ⟨rfl, rfl⟩

/-- No other stream has the handle, or the slot and salt, of one that is to be stored (11 R278). -/
theorem noOther_of_distinct {ks : List Nat} {a b : Nat → Nat} {u v : Nat} (h : ∀ i ∈ ks, i ≠ k → a i ≠ u ∨ b i ≠ v) :
    ((ks.filter (· != k)).any fun i => a i == u && b i == v) = false := by
  refine List.any_eq_false.mpr fun i hi => ?_
  obtain ⟨hmem, hne⟩ : i ∈ ks ∧ i ≠ k := by simpa using hi
  have := h i hmem hne
  simpa using fun hu => this.resolve_left (not_not.mpr hu)

/-- The configuration of a transmit stream is stored; its live part and, where it moves, its counters change (11 R278). -/
theorem effTxStream_stores (hg : g < 15) (hl : l < 48) (hh : h < 16384) (hn : n < 16384) (hb : s.boundTo n l 0 = true) (hu : s.txUser k = none)
    (ho : ∀ i ∈ s.txStreams, i ≠ k → (s.txF i 3 ≠ l ∨ s.txF i 4 ≠ h) ∧ (s.txF i 5 ≠ n ∨ s.txF i 6 ≠ z)) (x : Session) :
    ∃ u, effTxStream k x [1, c, g, l, h, n, z] s = ok u ∧ u.persist = (s.setStaged 0x5C20 1 k [1, c, g, l, h, n, z]).persist ∧
      u.lessTxWrite = s.lessTxWrite := by
  have hrange : ¬ (48 ≤ l ∨ 14 < g ∨ 16384 ≤ h ∨ 16384 ≤ n) := by omega
  have hhandle := noOther_of_distinct fun i hi hne => (ho i hi hne).1
  have hsalt := noOther_of_distinct fun i hi hne => (ho i hi hne).2
  simp only [effTxStream, hrange, if_false, hhandle, hsalt, hb, hu, Bool.not_true, Bool.false_eq_true, and_false]
  refine ⟨_, rfl, ?_⟩
  split
  · obtain ⟨hpersist, hless, -⟩ := State.clearGroup_streamWrite ((s.setStaged 0x5C20 1 k [1, c, g, l, h, n, z]).modTx k
      fun x => if n ≠ s.txF k 5 then x.changeSlot (s.txF k 5) n (s.curKey (s.txF k 5)) (s.curKey n) else x) 0x5C21 k
    exact ⟨hpersist, hless⟩
  · exact ⟨rfl, rfl⟩

/-- The configuration of a receive stream is stored; its live part and, where it moves, its counters change (11 R278). -/
theorem effRxStream_stores (hl : l < 48) (hh : h < 16384) (hn : n < 16384) (hb : s.boundTo n l 1 = true) (hu : s.rxUser k = none)
    (ho : ∀ i ∈ s.rxStreams, i ≠ k → (s.rxF i 2 ≠ l ∨ s.rxF i 3 ≠ h) ∧ (s.rxF i 4 ≠ n ∨ s.rxF i 5 ≠ z)) (x : Session) :
    ∃ u, effRxStream k x [1, c, l, h, n, z, 0] s = ok u ∧ u.persist = (s.setStaged 0x5C30 1 k [1, c, l, h, n, z, 0]).persist ∧
      u.lessRxWrite = s.lessRxWrite := by
  have hrange : ¬ (48 ≤ l ∨ 16384 ≤ h ∨ 16384 ≤ n) := by omega
  have hhandle := noOther_of_distinct fun i hi hne => (ho i hi hne).1
  have hsalt := noOther_of_distinct fun i hi hne => (ho i hi hne).2
  simp only [effRxStream, hrange, if_false, hhandle, hsalt, hb, hu, Bool.not_true, Bool.false_eq_true, and_false, Option.isSome_none,
    zero_ne_one, false_and, Bool.and_false]
  refine ⟨_, rfl, ?_⟩
  have hstore := State.storeRx_streamWrite s k [1, c, l, h, n, z, 0]
    fun x => if n ≠ s.rxF k 4 then x.changeSlot (s.rxF k 4) n (s.curKey (s.rxF k 4)) (s.curKey n) else x
  generalize State.modRx _ k _ = w at hstore ⊢
  obtain ⟨hpersist, hless⟩ := hstore
  split
  · have hclear := w.clearGroup_streamWrite 0x5C32 k
    generalize w.clearGroup 0x5C32 k = v at hclear ⊢
    exact ⟨hclear.1.trans hpersist, hclear.2.2.trans hless⟩
  · split
    · have hstream := w.modStream_streamWrite k fun r => { r with off := true }
      exact ⟨hstream.1.trans hpersist, hstream.2.trans hless⟩
    · exact ⟨hpersist, hless⟩

variable {rq : Rq} {x : Session} (hk : k < 65536) (hc : c < 4294967296) (hl : l < 48) (hh : h < 16384) (hn : n < 16384) (hz : z < 4294967296)
include hk hc hl hh hn hz

theorem transmitStreamWrite_stores (hg : g < 15) (hw : Writes rq 0x5C20 1 k (joinFields [1, 4, 1, 1, 2, 2, 4] [1, c, g, l, h, n, z]) x s)
    (hb : s.boundTo n l 0 = true) (hu : s.txUser k = none)
    (ho : ∀ i ∈ s.txStreams, i ≠ k → (s.txF i 3 ≠ l ∨ s.txF i 4 ≠ h) ∧ (s.txF i 5 ≠ n ∨ s.txF i 6 ≠ z)) :
    ∃ t, exec (.transmitStreamWrite rq k (joinFields [1, 4, 1, 1, 2, 2, 4] [1, c, g, l, h, n, z])) s = .next t ∧
      Answered 2 (writeReq rq 0x5C20 1 k (joinFields [1, 4, 1, 1, 2, 2, 4] [1, c, g, l, h, n, z])) 0 t ∧
      t.val 0x5C20 1 k = [1, c, g, l, h, n, z] ∧ SetsOnly 0x5C20 1 k s t ∧
      { t.lessAnswers.lessSettings with sealing.tx := s.sealing.tx, restarted := s.restarted } = s.lessAnswers.lessSettings := by
  have hsplit : splitFields [1, 4, 1, 1, 2, 2, 4] (joinFields [1, 4, 1, 1, 2, 2, 4] [1, c, g, l, h, n, z]) = [1, c, g, l, h, n, z] :=
    splitFields_joinFields (by simp; omega)
  obtain ⟨t, u, hrun, hwrote, hstored, m, hless⟩ := run_writeOf_wrote hw rfl (by decide) (by decide) (by decide) (eff := effTxStream k) (a := {})
    (P := fun u => u.persist = (s.setStaged 0x5C20 1 k [1, c, g, l, h, n, z]).persist ∧ ∃ m, u.lessTxWrite = (s.hearing m).lessTxWrite) fun m => by
      obtain ⟨u, heff, hstored, hless⟩ := effTxStream_stores (s := s.hearing m) (c := c) hg hl hh hn hb hu ho x
      exact ⟨u, (congrArg (effTxStream k x · _) hsplit).trans heff, (congrArg (fun w : State => w.mgmt.sessions) hless :), hstored, m, hless⟩
  obtain ⟨hval, hsets⟩ := State.val_of_stored (List.cons_ne_nil _ _) (ssmOption_ne (by decide) (by decide) (by omega)) (hwrote.persist.trans hstored)
  have hread : t.lessAnswers.lessTxWrite = (s.fixed (s.hearing m)).lessAnswers.lessTxWrite :=
    (congrArg State.lessTxWrite hwrote.less).trans (congrArg (fun w : State => (s.fixed w).lessAnswers) hless :)
  exact ⟨t, hrun, hwrote.answered, hval, hsets,
    (congrArg (fun w : State => { w with sealing.tx := s.sealing.tx, restarted := s.restarted }) hread :)⟩

theorem receiveStreamWrite_stores (hw : Writes rq 0x5C30 1 k (joinFields [1, 4, 1, 2, 2, 4, 1] [1, c, l, h, n, z, 0]) x s)
    (hb : s.boundTo n l 1 = true) (hu : s.rxUser k = none)
    (ho : ∀ i ∈ s.rxStreams, i ≠ k → (s.rxF i 2 ≠ l ∨ s.rxF i 3 ≠ h) ∧ (s.rxF i 4 ≠ n ∨ s.rxF i 5 ≠ z)) :
    ∃ t, exec (.receiveStreamWrite rq k (joinFields [1, 4, 1, 2, 2, 4, 1] [1, c, l, h, n, z, 0])) s = .next t ∧
      Answered 2 (writeReq rq 0x5C30 1 k (joinFields [1, 4, 1, 2, 2, 4, 1] [1, c, l, h, n, z, 0])) 0 t ∧
      t.val 0x5C30 1 k = [1, c, l, h, n, z, 0] ∧ SetsOnly 0x5C30 1 k s t ∧
      { t.lessAnswers.lessSettings with sealing.rx := s.sealing.rx, restarted := s.restarted, pm.stream := s.pm.stream } =
        s.lessAnswers.lessSettings := by
  have hsplit : splitFields [1, 4, 1, 2, 2, 4, 1] (joinFields [1, 4, 1, 2, 2, 4, 1] [1, c, l, h, n, z, 0]) = [1, c, l, h, n, z, 0] :=
    splitFields_joinFields (by simp; omega)
  obtain ⟨t, u, hrun, hwrote, hstored, m, hless⟩ := run_writeOf_wrote hw rfl (by decide) (by decide) (by decide) (eff := effRxStream k) (a := {})
    (P := fun u => u.persist = (s.setStaged 0x5C30 1 k [1, c, l, h, n, z, 0]).persist ∧ ∃ m, u.lessRxWrite = (s.hearing m).lessRxWrite) fun m => by
      obtain ⟨u, heff, hstored, hless⟩ := effRxStream_stores (s := s.hearing m) (c := c) hl hh hn hb hu ho x
      exact ⟨u, (congrArg (effRxStream k x · _) hsplit).trans heff, (congrArg (fun w : State => w.mgmt.sessions) hless :), hstored, m, hless⟩
  obtain ⟨hval, hsets⟩ := State.val_of_stored (List.cons_ne_nil _ _) (ssmOption_ne (by decide) (by decide) (by omega)) (hwrote.persist.trans hstored)
  have hread : t.lessAnswers.lessRxWrite = (s.fixed (s.hearing m)).lessAnswers.lessRxWrite :=
    (congrArg State.lessRxWrite hwrote.less).trans (congrArg (fun w : State => (s.fixed w).lessAnswers) hless :)
  exact ⟨t, hrun, hwrote.answered, hval, hsets,
    (congrArg (fun w : State => { w with sealing.rx := s.sealing.rx, restarted := s.restarted, pm.stream := s.pm.stream }) hread :)⟩

end

/-- Settles O36: a configuration that no other stream and no page stands against is stored, and beside it the stream's live part and counters change. -/
theorem streamsAreConfigured : Obligations.StreamsAreConfigured := fun _ _ _ _ _ _ _ _ _ _ hk hc hg hl hh hn hz =>
  ⟨fun hw hb hu ho => transmitStreamWrite_stores hk hc hl hh hn hz hg hw hb hu ho,
    fun hw hb hu ho => receiveStreamWrite_stores hk hc hl hh hn hz hw hb hu ho⟩

end Sys2Proof.Machine
end

section
/-! PROOFS. A key erasure, and a hopper beyond those of 7000 (11 R299; 15 R406, R407). -/

namespace Sys2Proof.Machine

/-- The number of a hopper that the module does not have, whose count of entries written stands where a counter beyond those of 7010 stands. -/
def strayHopper (key : Nat) : Nat := key - ctrKey 0x7010 2 1 0

/-- The supervisor has power, and the stray hopper is subscribed to events: a state that the module never comes to. -/
def strayState (key : Nat) : State :=
  { ({} : State) with
    power.supRail := true
    store.hoppers := [(strayHopper key, { owner := 1 })]
    persist.dict := [(objKey 0x7000 1 (strayHopper key), [3, 64, 0, 0, 0])] }

theorem strayState_tamper : (tamperSeen .loop (strayState (ctrKey 0x9020 5 2 0)).quiet).ctr 0x9020 5 2 0 = 2 := by decide

theorem tamperDetected_ctr {s t : State} {x : TamperInput} (h : exec (.tamperDetected x) s = .next t) (i b f e : Nat) :
    t.ctr i b f e = (tamperSeen x s.quiet).ctr i b f e := by
  obtain rfl : s.fixed (tamperSeen x s.quiet) = t := by injection h
  rfl

/-- Refutes O37: where a table of hoppers lists one beyond those of 7000, whose count of entries written stands where 9020:05 counts tamper
erasures, the erasure event that goes out to it counts there as well. -/
theorem not_erasureTakesEveryKey : ¬ Obligations.ErasureTakesEveryKey := by
  intro h
  obtain ⟨-, hloop, -⟩ := h (strayState (ctrKey 0x9020 5 2 0))
  obtain ⟨t, ht, -, -, -, -, hctr, -⟩ := hloop rfl rfl
  have hbefore : (strayState (ctrKey 0x9020 5 2 0)).ctr 0x9020 5 2 0 = 0 := by decide
  rw [tamperDetected_ctr ht, strayState_tamper, hbefore] at hctr
  exact absurd hctr (by decide)

end Sys2Proof.Machine
end

section
/-! PROOFS. The environment's inputs write their own state alone (15 R406 to R408; 17 R448). -/

namespace Sys2Proof.Machine

theorem State.noteCond_keeps (s : State) (c : AlarmCond) (b : Bool) : { s.noteCond c b with store.conds := s.store.conds } = s := by
  simp only [State.noteCond]
  repeat' split
  all_goals rfl

/-- The temperature's condition follows a module temperature (17 R448). -/
def State.noteTemperature (s : State) (m : Int) : State :=
  if 9500 < m then s.noteCond .temperature true else if m < 9000 then s.noteCond .temperature false else s

theorem State.noteTemperature_keeps (s : State) (m : Int) : { s.noteTemperature m with store.conds := s.store.conds } = s := by
  unfold State.noteTemperature
  split
  · exact State.noteCond_keeps ..
  · split
    · exact State.noteCond_keeps ..
    · rfl

theorem tempSample_ordinary {x : Temps} (hlow : -4500 ≤ moduleTemp x) (hhigh : moduleTemp x ≤ 11000) (s : State) :
    tempSample x s =
      let t := { s with power.temps := x, sec.hot := false }.noteTemperature (moduleTemp x)
      if moduleTemp x < 10000 then { t with power.thermal := false } else t := by
  have hout : decide (11000 < moduleTemp x ∨ moduleTemp x < -4500) = false := decide_eq_false (by omega)
  have hreset (b : Bool) : ¬ (11500 < moduleTemp x ∧ b = false) := by omega
  simp only [tempSample, hout, Bool.false_and, State.when, Bool.false_eq_true, if_false, hreset]
  rfl

/-- An ordinary sample leaves all but the temperatures, their condition and the thermal reset (15 R406; 17 R448). -/
theorem tempSample_spec {x : Temps} (hlow : -4500 ≤ moduleTemp x) (hhigh : moduleTemp x ≤ 11000) (s : State) :
    (tempSample x s).power.temps = x ∧ (tempSample x s).sec.hot = false ∧
    (tempSample x s).power.thermal = (s.power.thermal && decide (10000 ≤ moduleTemp x)) ∧
    { tempSample x s with power.temps := s.power.temps, power.thermal := s.power.thermal, sec.hot := s.sec.hot, store.conds := s.store.conds } = s := by
  rw [tempSample_ordinary hlow hhigh]
  have hkeep := State.noteTemperature_keeps { s with power.temps := x, sec.hot := false } (moduleTemp x)
  generalize ({ s with power.temps := x, sec.hot := false } : State).noteTemperature (moduleTemp x) = t at hkeep ⊢
  have hpower : t.power = { s.power with temps := x } := (congrArg State.power hkeep :)
  have hsec : t.sec = { s.sec with hot := false } := (congrArg State.sec hkeep :)
  have hrest : { t with power := s.power, sec.hot := s.sec.hot, store.conds := s.store.conds } = s :=
    (congrArg (fun w : State => { w with power := s.power, sec.hot := s.sec.hot }) hkeep :)
  refine ⟨?_, ?_, ?_, Eq.trans ?_ hrest⟩ <;> dsimp only
  · split <;> exact congrArg Power.temps hpower
  · split <;> exact congrArg Security.hot hsec
  · split
    next h => rw [decide_eq_false (by omega), Bool.and_false]
    next h =>
      rw [decide_eq_true (by omega), Bool.and_true]
      exact (congrArg Power.thermal hpower :)
  · split <;> simp only [hpower]

/-- The latched tamper is cleared by command once no input is active (15 R407). -/
theorem clearTamper_spec {s : State} {rq : Rq} {arg : Byte} {x : Session} (h : Writes rq 0x9020 4 0 [arg] x s) (hloop : s.sec.loopOpen = false)
    (hpin : s.pinTampers = false) :
    ∃ t, exec (.clearTamper rq arg) s = .next t ∧ Answered 2 (writeReq rq 0x9020 4 0 [arg]) 0 t ∧
      { t.lessAnswers with sec.latched := s.sec.latched } = s.lessAnswers ∧ t.sec.latched = false := by
  obtain ⟨t, u, hrun, hw, hless⟩ := run_writeOf_wrote (a := {}) (P := fun u => u.lessAnswers = { s.lessAnswers with sec.latched := false })
    h rfl (by decide) (by decide) (by decide) (eff := effClearTamper) fun m => by
      have hguard : ((s.hearing m).sec.loopOpen || (s.hearing m).pinTampers) = false := by
        rw [show (s.hearing m).sec.loopOpen = false from hloop, show (s.hearing m).pinTampers = false from hpin]
        rfl
      simp only [effClearTamper, hguard, guardAct]
      refine ⟨_, rfl, ?_⟩
      split
      · have hmgmt (w : State) (r : AuditRec) : (w.audit r).mgmt = w.mgmt := by simp
        exact ⟨congrArg Mgmt.sessions (hmgmt ..), State.audit_lessAnswers ..⟩
      next hl =>
        have hl : s.sec.latched = false := Bool.eq_false_iff.mpr hl
        exact ⟨rfl, by rw [← hl]; rfl⟩
  have hend : t.lessAnswers = { s.lessAnswers with sec.latched := false } := hw.less.trans (congrArg s.fixed hless :)
  exact ⟨t, hrun, hw.answered, (congrArg (fun w : State => { w with sec.latched := s.sec.latched }) hend :),
    (congrArg (fun w : State => w.sec.latched) hend :)⟩

/-- Settles O38: by the effect of each command on its own input. -/
theorem environmentFollowsItsInputs : Obligations.EnvironmentFollowsItsInputs := fun s => by
  refine ⟨⟨_, rfl, rfl⟩, ⟨_, rfl, rfl⟩, fun r => ⟨_, rfl, rfl⟩, fun x hlow hhigh => ?_, fun hc ho => ⟨_, rfl, ?_⟩,
    fun rq arg x h hloop hpin => clearTamper_spec h hloop hpin⟩
  · obtain ⟨htemps, hhot, hthermal, hrest⟩ := tempSample_spec hlow hhigh s.quiet
    exact ⟨_, rfl, htemps, hhot, hthermal, (congrArg s.fixed hrest :)⟩
  · have hdue : s.quiet.sec.authCount ≠ 0 ∧ s.quiet.over s.quiet.sec.authAt (secs 600) = true := ⟨hc, ho⟩
    rw [authDecay, if_pos hdue]
    rfl

end Sys2Proof.Machine
end

section
/-! PROOFS. Entities and their seconds: what the boundary of a second latches, and what a cog makes of it (12 R307, R308, R319). -/

namespace Sys2Proof.Machine

theorem State.mon_modMon (s : State) (e d : Entity) (f : Mon → Mon) : (s.modMon e f).mon d = if d = e then f (s.mon e) else s.mon d := by
  cases e <;> cases d <;> simp [State.modMon, State.mon, tget_tmod, Fin.val_inj]

/-- All but the performance monitoring. -/
def State.lessPm (s : State) : State := { s with pm := {} }

theorem State.modMon_lessPm (s : State) (e : Entity) (f : Mon → Mon) : (s.modMon e f).lessPm = s.lessPm := by
  cases e <;> rfl

theorem State.orphanStreams_lessPm (s : State) : s.orphanStreams.lessPm = s.lessPm := by
  refine State.each_keep State.lessPm _ _ (fun k w => ?_) s
  rfl

/-- Whether an entity is monitored, and the raw data that its next second begins with (12 R307). -/
def State.nextOf (s : State) : Entity → Bool × Raw
  | .near l => (s.enabled l, { defect := s.laneFailed l })
  | .far l => (s.enabled l, { defect := s.enabled l && (s.lane l).d.rdi })
  | .stream k => (s.rxF k 0 == 1, { defect := s.sealDefect k })

theorem State.nextOf_lessPm (s : State) (e : Entity) : s.lessPm.nextOf e = s.nextOf e := by
  cases e <;> rfl

theorem State.nextOf_of_lessPm {s t : State} (h : t.lessPm = s.lessPm) (e : Entity) : t.nextOf e = s.nextOf e := by
  rw [← t.nextOf_lessPm, h, s.nextOf_lessPm]

/-- The second of one entity ends, monitored or not, and the next begins. -/
def State.latchAs (s : State) (start : Nat) (e : Entity) (on : Bool) (next : Raw) : State :=
  s.modMon e fun m => m.latch on s.sup.up (!s.tod.ever) start s.now next
def State.latchOne (s : State) (start : Nat) (e : Entity) : State := s.latchAs start e (s.nextOf e).1 (s.nextOf e).2

/-- Both ends of every lane. -/
def laneEntities : List Entity := (List.finRange 48).flatMap fun l => [.near l, .far l]

theorem mem_laneEntities_near (l : LaneId) : Entity.near l ∈ laneEntities := by simp [laneEntities]
theorem mem_laneEntities_far (l : LaneId) : Entity.far l ∈ laneEntities := by simp [laneEntities]
theorem nodup_laneEntities : laneEntities.Nodup := by decide

theorem State.latchOne_mon (s : State) (start : Nat) (e d : Entity) :
    (s.latchOne start e).mon d =
      if d = e then (s.mon e).latch (s.nextOf e).1 s.sup.up (!s.tod.ever) start s.now (s.nextOf e).2 else s.mon d := State.mon_modMon ..

theorem State.each_flatMap {α β : Type} (s : State) (as : List α) (g : α → List β) (f : β → State → State) :
    s.each (as.flatMap g) f = s.each as fun a w => w.each (g a) f := List.foldl_flatMap

theorem State.each_map {α β : Type} (s : State) (as : List α) (g : α → β) (f : β → State → State) :
    s.each (as.map g) f = s.each as fun a w => f (g a) w := List.foldl_map

/-- The second of both ends of every lane ends; of every monitored stream; and the next second has its number (12 R307). -/
def State.endLanes (s : State) (start : Nat) : State := s.each laneEntities fun e w => w.latchOne start e
def State.endStreams (s : State) (start : Nat) : State := s.each (s.monStreams.map .stream) fun e w => w.latchOne start e
def State.numbered (s : State) : State := { s with tod.secondNo := s.second }

theorem State.endLanes_eq (s : State) (start : Nat) :
    s.endLanes start = s.each (List.finRange 48) fun l w =>
      (w.latchAs start (.near l) (w.enabled l) { defect := w.laneFailed l }).latchAs start (.far l) (w.enabled l)
        { defect := w.enabled l && (w.lane l).d.rdi } := by
  simp only [State.endLanes, laneEntities, State.each_flatMap]
  rfl

theorem State.endStreams_eq (s : State) (start : Nat) :
    s.endStreams start = s.each s.monStreams fun k w => w.latchAs start (.stream k) (w.rxF k 0 == 1) { defect := w.sealDefect k } := by
  simp only [State.endStreams, State.each_map]
  rfl

theorem secondEnd_eq {s : State} (hp : s.portUp = true) (hn : s.second ≠ s.tod.secondNo) :
    secondEnd s = ((s.endLanes s.tod.secondNo).orphanStreams.endStreams s.tod.secondNo).numbered.orphanStreams := by
  have hgo : ¬ ((!s.portUp || s.second == s.tod.secondNo) = true) := by simp [hp, hn]
  rw [secondEnd, if_neg hgo]
  extract_lets start latch a b c _
  have ha : a = s.endLanes s.tod.secondNo := (s.endLanes_eq start).symm
  have hb : b = (s.endLanes s.tod.secondNo).orphanStreams := congrArg State.orphanStreams ha
  have hc : c = b.endStreams s.tod.secondNo := (b.endStreams_eq start).symm
  rw [← hb, ← hc]
  clear_value c
  rfl

theorem State.latchOne_lessPm (s : State) (start : Nat) (e : Entity) : (s.latchOne start e).lessPm = s.lessPm := State.modMon_lessPm ..

theorem State.eachLatch_lessPm (s : State) (start : Nat) (es : List Entity) : (s.each es fun e w => w.latchOne start e).lessPm = s.lessPm :=
  State.each_keep State.lessPm _ _ (fun e w => w.latchOne_lessPm start e) s

/-- What the end of a second makes of an entity's record (12 R307). -/
def State.latched (s : State) (start : Nat) (e : Entity) : Mon :=
  (s.mon e).latch (s.nextOf e).1 s.sup.up (!s.tod.ever) start s.now (s.nextOf e).2

theorem State.latched_of_lessPm {s t : State} (h : t.lessPm = s.lessPm) {e : Entity} (hm : t.mon e = s.mon e) (start : Nat) :
    t.latched start e = s.latched start e := by
  have hsup : t.sup = s.sup := (congrArg State.sup h :)
  have htod : t.tod = s.tod := (congrArg State.tod h :)
  have hnow : t.now = s.now := (congrArg State.now h :)
  simp only [State.latched, hm, hsup, htod, hnow, State.nextOf_of_lessPm h]

theorem State.eachLatch_mon_other {es : List Entity} {d : Entity} (hd : d ∉ es) (s : State) (start : Nat) :
    (s.each es fun e w => w.latchOne start e).mon d = s.mon d :=
  State.each_keep_mem (π := fun w => w.mon d) (fun e he w => by
    have hne : d ≠ e := fun h => hd (h ▸ he)
    simp [State.latchOne_mon, hne]) s

/-- The second of each entity of a list ends once. -/
theorem State.eachLatch_mon {es : List Entity} (hes : es.Nodup) {d : Entity} (hd : d ∈ es) (s : State) (start : Nat) :
    (s.each es fun e w => w.latchOne start e).mon d = s.latched start d := by
  induction es generalizing s with
  | nil => exact absurd hd (by simp)
  | cons e es ih =>
    obtain ⟨he, hes⟩ := List.nodup_cons.mp hes
    rcases List.mem_cons.mp hd with rfl | hd
    · exact (State.eachLatch_mon_other he _ _).trans ((State.latchOne_mon ..).trans (if_pos rfl))
    · have hne : d ≠ e := fun h => he (h ▸ hd)
      refine (ih hes hd (s.latchOne start e)).trans (State.latched_of_lessPm (s.latchOne_lessPm ..) ?_ start)
      rw [State.latchOne_mon, if_neg hne]

/-- A stream without a circuit is marked in its raw data, and lanes have none (12 Table 12-2). -/
theorem State.orphanStreams_mon (s : State) (d : Entity) : { s.orphanStreams.mon d with raw := {} } = { s.mon d with raw := {} } := by
  refine State.each_keep (fun w => { w.mon d with raw := {} }) _ _ (fun k w => ?_) s
  cases d with
  | stream j =>
    simp only [State.modStream, State.mon, tget_tmod]
    split
    next h => rw [h]
    · rfl
  | near l => rfl
  | far l => rfl

theorem State.orphanStreams_near (s : State) (l : LaneId) : s.orphanStreams.mon (.near l) = s.mon (.near l) := by
  refine State.each_keep (fun w => w.mon (.near l)) _ _ (fun k w => ?_) s
  rfl

theorem State.orphanStreams_far (s : State) (l : LaneId) : s.orphanStreams.mon (.far l) = s.mon (.far l) := by
  refine State.each_keep (fun w => w.mon (.far l)) _ _ (fun k w => ?_) s
  rfl

theorem State.numbered_mon (s : State) (e : Entity) : s.numbered.mon e = s.mon e := by
  cases e <;> rfl

/-- The end of a second writes the monitoring and the second's number alone (12 R307). -/
theorem secondEnd_spec {s : State} (hp : s.portUp = true) (hn : s.second ≠ s.tod.secondNo) :
    (secondEnd s).lessPm = { s.lessPm with tod.secondNo := s.second } ∧
    (∀ l : LaneId, (secondEnd s).mon (.near l) = s.latched s.tod.secondNo (.near l) ∧
      (secondEnd s).mon (.far l) = s.latched s.tod.secondNo (.far l)) := by
  rw [secondEnd_eq hp hn]
  have hlanes := s.eachLatch_lessPm s.tod.secondNo laneEntities
  have hmon (e : Entity) (he : e ∈ laneEntities) := State.eachLatch_mon nodup_laneEntities he s s.tod.secondNo
  change (s.endLanes s.tod.secondNo).lessPm = s.lessPm at hlanes
  change ∀ e ∈ laneEntities, (s.endLanes s.tod.secondNo).mon e = s.latched s.tod.secondNo e at hmon
  generalize s.endLanes s.tod.secondNo = a at *
  have hstreams : (a.orphanStreams.endStreams s.tod.secondNo).lessPm = a.lessPm := (State.eachLatch_lessPm ..).trans a.orphanStreams_lessPm
  have hother (e : Entity) (he : ∀ k, e ≠ .stream k) : (a.orphanStreams.endStreams s.tod.secondNo).mon e = a.orphanStreams.mon e :=
    State.eachLatch_mon_other (by simpa using fun k _ h => he k h.symm) _ _
  generalize a.orphanStreams.endStreams s.tod.secondNo = c at *
  refine ⟨(State.orphanStreams_lessPm _).trans (congrArg (fun w : State => { w with tod.secondNo := w.second }) (hstreams.trans hlanes) :),
    fun l => ⟨?_, ?_⟩⟩
  · rw [State.orphanStreams_near, State.numbered_mon, hother _ (by simp), State.orphanStreams_near, hmon _ (mem_laneEntities_near l)]
  · rw [State.orphanStreams_far, State.numbered_mon, hother _ (by simp), State.orphanStreams_far, hmon _ (mem_laneEntities_far l)]

end Sys2Proof.Machine
end

section
/-! PROOFS. Seconds are latched and classified (12 R307, R308). -/

namespace Sys2Proof.Machine

theorem execSecondBoundary_spec {s : State} (hup : s.sup.up = true) (hp : s.portUp = true) (hn : s.second ≠ s.tod.secondNo) :
    ∃ t, exec .secondBoundary s = .next t ∧ t.tod.secondNo = s.second ∧
      { t with pm := s.pm, tod.secondNo := s.tod.secondNo } = s.quiet ∧
      ∀ l : LaneId, s.enabled l = true → (s.mon (.near l)).latched = none →
        t.mon (.near l) = { s.mon (.near l) with
          raw := { defect := s.laneFailed l }, latched := some { (s.mon (.near l)).raw with unlocked := !s.tod.ever }
          latchedAt := s.tod.secondNo, latchedEnd := s.now } := by
  obtain ⟨hless, hmon⟩ := secondEnd_spec (s := s.quiet) hp hn
  refine ⟨_, rfl, (congrArg (fun w : State => w.tod.secondNo) hless :),
    (congrArg (fun w : State => { s.fixed w with pm := s.pm, tod.secondNo := s.tod.secondNo }) hless :), fun l he hl => ?_⟩
  refine (hmon l).1.trans ?_
  have hq : s.quiet.mon (.near l) = s.mon (.near l) := rfl
  have hnext : s.quiet.nextOf (.near l) = (true, { defect := s.laneFailed l }) := by
    rw [← he]
    rfl
  rw [State.latched, hq, hnext, Mon.latch, hl, show s.quiet.sup.up = true from hup]
  rfl

/-- The record of an entity whose latched second has a class. -/
def Mon.classified (m : Mon) (r : Raw) (c : Nat) : Mon :=
  { m with latched := none, queue := m.queue ++
      [{ start := m.latchedAt, ended := m.latchedEnd, cls := c, restart := false, defect := r.defect,
         bbe := if c = 3 ∨ c = 0 then 0 else r.errored, bits := r.bits, unlocked := r.unlocked }] }

theorem classify_eq {s : State} {e : Entity} {r : Raw} (h : (s.mon e).latched = some r) (hup : s.sup.up = true) (hc : s.cogRuns e = true) :
    classify e s = s.modMon e fun m => m.classified r (if r.off || s.nearDefect e then 0 else classOf e r) := by
  simp only [classify, h, hup, hc, Bool.and_self, if_true]
  rfl

theorem classOf_of_limit (e : Entity) (r : Raw) : classOf e r =
    if r.defect ∨ sesLimit e ≤ r.errored then 3 else if 1 ≤ r.errored ∨ r.slip ∧ entKind e = 1 then 2 else 1 := by
  simp only [classOf, Bool.or_eq_true, Bool.and_eq_true, decide_eq_true_eq, beq_iff_eq]

/-- Settles O42: a second boundary latches each lane once, and a class is what Table 12-2 makes of the latched data. -/
theorem secondsAreLatchedAndClassified : Obligations.SecondsAreLatchedAndClassified := fun s hup => by
  refine ⟨execSecondBoundary_spec hup, fun e r hl hc => ?_, fun e h => ⟨_, rfl, ?_⟩⟩
  · have heq : classify e s.quiet = s.quiet.modMon e fun m => m.classified r (if r.off || s.nearDefect e then 0 else classOf e r) :=
      classify_eq (s := s.quiet) hl hup hc
    refine ⟨_, if r.off || s.nearDefect e then 0 else classOf e r, rfl, ?_⟩
    rw [heq]
    refine ⟨?_, fun d hd => ?_, ?_, fun h => ?_, fun hoff hnear => ?_⟩
    · cases e <;> rfl
    · exact (State.mon_modMon ..).trans (if_neg hd)
    · exact (State.mon_modMon ..).trans (if_pos rfl)
    · simp [h]
    · simp only [hoff, hnear, Bool.or_self, Bool.false_eq_true, if_false, classOf_of_limit]
      refine ⟨?_, ?_, ?_⟩
      · rintro l rfl
        simp [sesLimit, entKind]
      · rintro l rfl
        simp [sesLimit, entKind]
      · rintro k rfl
        simp [sesLimit, entKind]
  · have hq : classify e s.quiet = s.quiet := by
      simp only [classify]
      split
      next r hr =>
        rcases h with h | h
        · exact absurd (h.symm.trans hr) (by simp)
        · rw [if_neg (by rw [show s.quiet.cogRuns e = false from h]; simp)]
      · rfl
    rw [hq]
    rfl

end Sys2Proof.Machine
end

section
/-! PROOFS. A supervisor restart stops classification and commits (12 R319). -/

namespace Sys2Proof.Machine

/-- The seconds beyond those of a record, none of them classified (12 R319). -/
def Mon.Skips (m n : Mon) : Prop := ∃ qs, n.queue = m.queue ++ qs ∧ ∀ q ∈ qs, q.cls = 0 ∧ q.restart = true

theorem Mon.Skips.of_queue {m n : Mon} (h : n.queue = m.queue) : m.Skips n := ⟨[], by simp [h], by simp⟩

theorem Mon.Skips.trans {m n p : Mon} (h : m.Skips n) (h' : n.Skips p) : m.Skips p := by
  obtain ⟨qs, hq, hs⟩ := h
  obtain ⟨rs, hr, ht⟩ := h'
  refine ⟨qs ++ rs, by rw [hr, hq, List.append_assoc], fun q hm => ?_⟩
  rcases List.mem_append.mp hm with hm | hm
  · exact hs q hm
  · exact ht q hm

theorem Mon.Skips.skip (m : Mon) (start ended : Nat) (unlocked : Bool) : m.Skips (m.skip start ended unlocked) :=
  ⟨_, rfl, by simp⟩

/-- The record of a latched second that goes on as never classified. -/
def Mon.unlatch (m : Mon) (unlocked : Bool) : Mon :=
  match m.latched with
  | some _ => { (m.skip m.latchedAt m.latchedEnd unlocked) with latched := none }
  | none => m

theorem Mon.unlatch_spec (m : Mon) (unlocked : Bool) : (m.unlatch unlocked).latched = none ∧ m.Skips (m.unlatch unlocked) := by
  unfold Mon.unlatch
  split
  · exact ⟨rfl, .skip ..⟩
  next h => exact ⟨h, .of_queue rfl⟩

theorem Mon.latch_down_eq (m : Mon) (on unlocked : Bool) (start ended : Nat) (next : Raw) :
    m.latch on false unlocked start ended next =
      let n := m.unlatch unlocked
      { (if on || n.raw.off then n.skip start ended unlocked else n) with raw := next } := rfl

/-- With the supervisor down no second is latched, and those that pass are not classified (12 R319). -/
theorem Mon.latch_down (m : Mon) (on unlocked : Bool) (start ended : Nat) (next : Raw) :
    (m.latch on false unlocked start ended next).latched = none ∧ m.Skips (m.latch on false unlocked start ended next) ∧
    (m.latch on false unlocked start ended next).raw = next := by
  rw [Mon.latch_down_eq]
  obtain ⟨hl, hs⟩ := m.unlatch_spec unlocked
  dsimp only
  split
  · exact ⟨hl, hs.trans (.skip ..), rfl⟩
  · exact ⟨hl, hs, rfl⟩

/-- A monitored second that passes with the supervisor down joins the queue (12 R319). -/
theorem Mon.latch_down_on (m : Mon) (unlocked : Bool) (start ended : Nat) (next : Raw) :
    m.queue.length < (m.latch true false unlocked start ended next).queue.length := by
  obtain ⟨-, qs, hq, -⟩ := m.unlatch_spec unlocked
  rw [Mon.latch_down_eq]
  simp only [Bool.true_or, if_true, Mon.skip, hq, List.length_append, List.length_cons]
  omega

theorem State.latchOne_down {s : State} (hup : s.sup.up = false) (start : Nat) (e d : Entity) :
    (s.mon d).Skips ((s.latchOne start e).mon d) ∧ ((s.mon d).latched = none ∨ d = e → ((s.latchOne start e).mon d).latched = none) := by
  rw [State.latchOne_mon, hup]
  split
  next h =>
    subst h
    obtain ⟨hl, hs, -⟩ := (s.mon d).latch_down (s.nextOf d).1 (!s.tod.ever) start s.now (s.nextOf d).2
    exact ⟨hs, fun _ => hl⟩
  next h => exact ⟨.of_queue rfl, fun hd => hd.resolve_right h⟩

theorem State.eachLatch_down {s : State} (hup : s.sup.up = false) (start : Nat) (es : List Entity) (d : Entity) :
    (s.mon d).Skips ((s.each es fun e w => w.latchOne start e).mon d) ∧
    ((s.mon d).latched = none ∨ d ∈ es → ((s.each es fun e w => w.latchOne start e).mon d).latched = none) := by
  induction es generalizing s with
  | nil => exact ⟨.of_queue rfl, by simp [State.each]⟩
  | cons e es ih =>
    obtain ⟨hs, hl⟩ := State.latchOne_down hup start e d
    have hup' : (s.latchOne start e).sup.up = false := (congrArg (fun w : State => w.sup.up) (s.latchOne_lessPm start e) :).trans hup
    obtain ⟨hs', hl'⟩ := ih hup'
    refine ⟨hs.trans hs', fun h => hl' ?_⟩
    rw [List.mem_cons] at h
    rcases h with h | rfl | h
    · exact .inl (hl (.inl h))
    · exact .inl (hl (.inr rfl))
    · exact .inr h

theorem tget_of_not_mem {α : Type} (d : α) {t : Tab α} {n : Nat} (h : n ∉ t.map Prod.fst) : tget d t n = d := by
  induction t with
  | nil => rfl
  | cons e t ih =>
    obtain ⟨k, v⟩ := e
    rw [List.map_cons, List.mem_cons, not_or] at h
    simp [tget, h.1, ih h.2]

/-- A stream whose record is not the empty one is monitored (12 R307). -/
theorem State.monitored_or_unlatched (s : State) (k : Fin 65536) : (s.mon (.stream k)).latched = none ∨ k ∈ s.monStreams := by
  by_cases h : (k : Nat) ∈ s.pm.stream.map Prod.fst
  · refine .inr (List.mem_map.mpr ⟨k, ?_, ?_⟩)
    · simp [h]
    · simp [streamOf]
  · exact .inl (by rw [State.mon, tget_of_not_mem _ h])

theorem State.orphanStreams_latched (s : State) (d : Entity) :
    (s.orphanStreams.mon d).latched = (s.mon d).latched ∧ (s.orphanStreams.mon d).queue = (s.mon d).queue :=
  ⟨(congrArg Mon.latched (s.orphanStreams_mon d) :), (congrArg Mon.queue (s.orphanStreams_mon d) :)⟩

theorem secondEnd_down {s : State} (hup : s.sup.up = false) (hp : s.portUp = true) (hn : s.second ≠ s.tod.secondNo) (e : Entity) :
    ((secondEnd s).mon e).latched = none ∧ (s.mon e).Skips ((secondEnd s).mon e) := by
  have hlanes := State.eachLatch_down hup s.tod.secondNo laneEntities e
  have hless := s.eachLatch_lessPm s.tod.secondNo laneEntities
  rw [secondEnd_eq hp hn]
  change (s.mon e).Skips ((s.endLanes s.tod.secondNo).mon e) ∧
    (_ → ((s.endLanes s.tod.secondNo).mon e).latched = none) at hlanes
  change (s.endLanes s.tod.secondNo).lessPm = s.lessPm at hless
  generalize s.endLanes s.tod.secondNo = a at *
  have hupa : a.orphanStreams.sup.up = false := (congrArg (fun w : State => w.sup.up) (a.orphanStreams_lessPm.trans hless) :).trans hup
  obtain ⟨horl, horq⟩ := a.orphanStreams_latched e
  have hstreams := State.eachLatch_down hupa s.tod.secondNo (a.orphanStreams.monStreams.map .stream) e
  have hall : (a.orphanStreams.mon e).latched = none ∨ e ∈ a.orphanStreams.monStreams.map Entity.stream := by
    cases e with
    | near l => exact .inl (horl.trans (hlanes.2 (.inr (mem_laneEntities_near l))))
    | far l => exact .inl (horl.trans (hlanes.2 (.inr (mem_laneEntities_far l))))
    | stream k => exact (a.orphanStreams.monitored_or_unlatched k).imp_right (List.mem_map_of_mem (f := Entity.stream))
  change _ ∧ (_ → ((a.orphanStreams.endStreams s.tod.secondNo).mon e).latched = none) at hstreams
  have hskip : (a.orphanStreams.mon e).Skips ((a.orphanStreams.endStreams s.tod.secondNo).mon e) := hstreams.1
  generalize a.orphanStreams.endStreams s.tod.secondNo = c at *
  obtain ⟨hcl, hcq⟩ := c.numbered.orphanStreams_latched e
  rw [State.numbered_mon] at hcl hcq
  exact ⟨hcl.trans (hstreams.2 hall), hlanes.1.trans ((Mon.Skips.of_queue horq).trans (hskip.trans (.of_queue hcq)))⟩

/-- Settles O44: no second is latched or committed while the supervisor is down. -/
theorem restartsStopClassification : Obligations.RestartsStopClassification := fun s hup => by
  refine ⟨fun e => ⟨_, rfl, ?_⟩, ⟨_, rfl, ?_⟩, fun hp hn => ?_⟩
  · have hq : classify e s.quiet = s.quiet := by
      simp only [classify, show s.quiet.sup.up = false from hup, Bool.false_and, Bool.false_eq_true, if_false]
      split <;> rfl
    rw [hq]
    rfl
  · rw [commitSecond, if_pos (by rw [show s.quiet.sup.up = false from hup]; rfl)]
    rfl
  · obtain ⟨hless, hmon⟩ := secondEnd_spec (s := s.quiet) hp hn
    have hdown := secondEnd_down (s := s.quiet) hup hp hn
    have hraw (d : Entity) : (s.quiet.latched s.tod.secondNo d).raw = (s.nextOf d).2 := by
      have hnext : s.quiet.nextOf d = s.nextOf d := by cases d <;> rfl
      rw [State.latched, hnext, show s.quiet.sup.up = false from hup]
      exact ((s.quiet.mon d).latch_down ..).2.2
    refine ⟨_, rfl, (congrArg (fun w : State => w.tod.secondNo) hless :), fun l => ⟨?_, ?_⟩, fun e => ⟨(hdown e).1, ?_⟩⟩
    · exact (congrArg Mon.raw (hmon l).1).trans (hraw _)
    · exact (congrArg Mon.raw (hmon l).2).trans (hraw _)
    · obtain ⟨qs, hq, hs⟩ := (hdown e).2
      refine ⟨qs, hq, hs, ?_⟩
      rintro l rfl he rfl
      have hlong : (s.mon (.near l)).queue.length < (s.quiet.latched s.tod.secondNo (.near l)).queue.length := by
        have hnext : s.quiet.nextOf (.near l) = (true, { defect := s.laneFailed l }) := by
          rw [← he]
          rfl
        rw [State.latched, hnext, show s.quiet.sup.up = false from hup]
        exact (s.quiet.mon (.near l)).latch_down_on ..
      have hsame : (s.quiet.latched s.tod.secondNo (.near l)).queue = (s.mon (.near l)).queue :=
        (congrArg Mon.queue (hmon l).1).symm.trans (hq.trans (List.append_nil _))
      rw [hsame] at hlong
      exact absurd hlong (lt_irrefl _)

end Sys2Proof.Machine
end

section
/-! PROOFS. What goes out through hoppers and to sessions: of the state, the hoppers, the alarms, the counters of hoppers, the sequences of sessions and
the work of the cipher engines alone (11 R300; 14 R354, R379 to R384). -/

namespace Sys2Proof.Machine

/-- All but what a message to a session, or an entry to a hopper, writes. -/
def State.lessSent (s : State) : State :=
  { s with out := [], cnt := [], mgmt.sessions := [], mgmt.cipher0 := {}, mgmt.cipher1 := {}, mgmt.cipherNext := false,
           store.hoppers := [], store.nextEvent := 0, store.nextAlarm := 0, store.alarms := [] }

theorem State.sendSecure_lessSent (s : State) (i : Nat) (o : Output) (r : Resp) : (s.sendSecure i o r).lessSent = s.lessSent := by
  have hsent (w : State) : (w.sentTo i).lessSent = w.lessSent := by
    unfold State.sentTo State.modSession
    split <;> rfl
  have hjob : (s.cipherJob r.bytes.length).lessSent = s.lessSent := by
    unfold State.cipherJob
    split <;> rfl
  unfold State.sendSecure
  split
  · exact (hsent _).trans hjob
  · rfl

theorem State.notifyOwner_lessSent (s : State) (h : Nat) : (s.notifyOwner h).lessSent = s.lessSent := by
  simp only [State.notifyOwner]
  split
  · exact State.sendSecure_lessSent ..
  · rfl

theorem State.writeUnit_lessSent (s : State) (h : Nat) (es : List Bytes) : (s.writeUnit h es).lessSent = s.lessSent :=
  State.notifyOwner_lessSent ..

theorem State.postUnit_lessSent (s : State) (h : Nat) (es : List Bytes) (q : Bool) : (s.postUnit h es q).lessSent = s.lessSent := by
  simp only [State.postUnit]
  repeat' split
  case isTrue => exact State.writeUnit_lessSent ..
  case isFalse.isTrue.isTrue => exact State.writeUnit_lessSent ..
  all_goals rfl

theorem State.eventAt_lessSent (s : State) (c i b e st k : Nat) (p : Bytes) : (s.eventAt c i b e st k p).lessSent = s.lessSent := by
  simp only [State.eventAt]
  rw [State.each_keep State.lessSent _ _ fun h w => w.postUnit_lessSent h _ _]
  rfl

theorem State.event_lessSent (s : State) (c i b e : Nat) (p : Bytes) : (s.event c i b e p).lessSent = s.lessSent := State.eventAt_lessSent ..

theorem State.alarmOut_lessSent (s : State) (n : Nat) (a : Alarm) (i : Nat) : (s.alarmOut n a i).lessSent = s.lessSent := by
  simp only [State.alarmOut]
  exact State.each_keep State.lessSent _ _ (fun h w => w.postUnit_lessSent h _ _) s

theorem State.raiseAlarm_lessSent (s : State) (c : Option AlarmCond) (v i b n e : Nat) : (s.raiseAlarm c v i b n e).lessSent = s.lessSent :=
  State.alarmOut_lessSent ..

end Sys2Proof.Machine
end

section
/-! PROOFS. Seconds are committed and closed bins drained (12 R309 to R317). -/

namespace Sys2Proof.Machine

/-- All but the performance monitoring and what goes out. -/
def State.still (s : State) : State := s.lessPm.lessSent

theorem State.still_of_lessSent {s t : State} (h : t.lessSent = s.lessSent) : t.still = s.still := (congrArg State.lessPm h :)
theorem State.still_of_lessPm {s t : State} (h : t.lessPm = s.lessPm) : t.still = s.still := congrArg State.lessSent h
theorem State.pm_of_lessSent {s t : State} (h : t.lessSent = s.lessSent) : t.pm = s.pm := (congrArg State.pm h :)

theorem State.mon_of_pm {s t : State} (h : t.pm = s.pm) (e : Entity) : t.mon e = s.mon e := by
  cases e <;> simp only [State.mon, h]

/-- A record but for the crossings it has shown. -/
def Mon.lessCrossed (m : Mon) : Mon := { m with q15.crossed := [], q24.crossed := [] }

/-- The crossings of a bin, written to hoppers and counted where one has no room (12 R316). -/
def State.tellCrossings (s : State) (e : Entity) (len : Nat) (new : Bin) (sec : Nat) (cs : List (Nat × Nat)) : State :=
  s.each cs fun c s => s.each (s.hoppersOf 5) fun h s =>
    let t := s.postUnit h [crossingEntry e len c.1 c.2 new sec]
    if t.hop h = s.hop h then t else t.count 0x6040 2 2 0

theorem State.count_lessSent (s : State) (i b f e : Nat) : (s.count i b f e).lessSent = s.lessSent := rfl

theorem State.tellCrossings_lessSent (s : State) (e : Entity) (len : Nat) (new : Bin) (sec : Nat) (cs : List (Nat × Nat)) :
    (s.tellCrossings e len new sec cs).lessSent = s.lessSent := by
  refine State.each_keep State.lessSent _ _ (fun c w => State.each_keep State.lessSent _ _ (fun h w => ?_) w) s
  dsimp only
  split
  · exact State.postUnit_lessSent ..
  · rw [State.count_lessSent, State.postUnit_lessSent]

theorem State.cross_spec (s : State) (e : Entity) (len : Nat) (old new : Bin) (sec : Nat) :
    (s.cross e len old new sec).still = s.still ∧ (s.cross e len old new sec).pm.offset = s.pm.offset ∧
    (∀ d, d ≠ e → (s.cross e len old new sec).mon d = s.mon d) ∧
    ((s.cross e len old new sec).mon e).lessCrossed = (s.mon e).lessCrossed := by
  unfold State.cross
  extract_lets ts cs t
  have ht : t.lessSent = s.lessSent := State.tellCrossings_lessSent ..
  have hpm := State.pm_of_lessSent ht
  have hmon := State.mon_of_pm hpm
  have hstill := State.still_of_lessSent ht
  clear_value t
  split
  · exact ⟨hstill, by rw [hpm], fun d _ => hmon d, by rw [hmon]⟩
  · refine ⟨(State.still_of_lessPm (State.modMon_lessPm ..)).trans hstill, ?_, fun d hd => ?_, ?_⟩
    · rw [← hpm]
      cases e <;> rfl
    · rw [State.mon_modMon, if_neg hd, hmon]
    · rw [State.mon_modMon, if_pos rfl, hmon]
      split <;> rfl

/-- The record of an entity whose oldest second has joined its bins (12 R309 to R313). -/
def Mon.committed (m : Mon) (off : Nat) (q : Second) (qs : List Second) : Mon :=
  let turn := turns m.unavail q.cls
  let flips := turn && decide (10 ≤ m.run + leadRun m.unavail (q :: qs))
  let un := if flips then !m.unavail else m.unavail
  let a := spanStart 900 0 q.start
  let d := spanStart 86400 off q.start
  { m with
    queue := qs, unavail := un, run := if flips then 0 else if q.cls = 0 then m.run else if turn then m.run + 1 else 0
    lastCls := if q.cls ≠ 0 ∧ un = true then 4 else q.cls
    q15 := (openBin m.q15 a).add q un, q24 := (openBin m.q24 d).add q un
    closed15 := m.closed15 ++ closing m.q15 a 900 m.unavail, closed24 := m.closed24 ++ closing m.q24 d 86400 m.unavail }

/-- The oldest second of an entity is due (12 R310). -/
def State.due (s : State) (e : Entity) (q : Second) : Bool := s.cogRuns e && s.over q.ended (secs 10)

theorem State.commitOne_waits {s : State} {e : Entity} (h : ∀ q qs, (s.mon e).queue = q :: qs → s.due e q = false) : s.commitOne e = s := by
  simp only [State.commitOne]
  split
  · rfl
  next q qs hq =>
    have hdue := h q qs hq
    refine if_pos ?_
    simpa [State.due, ← Bool.not_and] using hdue

/-- The collector has bins to drain where some have closed (12 R315). -/
def State.drainFrom (s : State) (sec : Nat) (none : Bool) : State :=
  if none then s
  else { s with pm.draining := true, pm.wheels := [], pm.closing := sec, pm.drainSince := if s.pm.draining then s.pm.drainSince else s.now }

theorem State.drainFrom_spec (s : State) (sec : Nat) (none : Bool) :
    (s.drainFrom sec none).still = s.still ∧ (s.drainFrom sec none).pm.offset = s.pm.offset ∧ ∀ d, (s.drainFrom sec none).mon d = s.mon d := by
  unfold State.drainFrom
  split
  · exact ⟨rfl, rfl, fun _ => rfl⟩
  · exact ⟨rfl, rfl, fun d => by cases d <;> rfl⟩

theorem State.commitOne_spec {s : State} {e : Entity} {q : Second} {qs : List Second} (hq : (s.mon e).queue = q :: qs) (h : s.due e q = true) :
    (s.commitOne e).still = s.still ∧ (s.commitOne e).pm.offset = s.pm.offset ∧ (∀ d, d ≠ e → (s.commitOne e).mon d = s.mon d) ∧
    ((s.commitOne e).mon e).lessCrossed = ((s.mon e).committed s.pm.offset q qs).lessCrossed := by
  have hgo : ¬ ((!s.cogRuns e || !s.over q.ended (secs 10)) = true) := by simpa [State.due, ← Bool.not_and] using h
  unfold State.commitOne
  extract_lets m
  split
  next hnil => exact absurd (hq.symm.trans hnil) (by simp)
  next q' qs' hq' =>
    obtain ⟨rfl, rfl⟩ := List.cons.inj (hq'.symm.trans hq)
    rw [if_neg hgo]
    extract_lets turn flips un a d c15 c24 b15 b24 n15 n24 u _ v
    have hu : u.still = s.still ∧ u.pm.offset = s.pm.offset ∧ (∀ d, d ≠ e → u.mon d = s.mon d) ∧ u.mon e = m.committed s.pm.offset q' qs' :=
      ⟨State.still_of_lessPm (State.modMon_lessPm ..), by cases e <;> rfl, fun d hd => (State.mon_modMon ..).trans (if_neg hd),
        (State.mon_modMon ..).trans (if_pos rfl)⟩
    have hv : v.still = u.still ∧ v.pm.offset = u.pm.offset ∧ ∀ d, v.mon d = u.mon d := u.drainFrom_spec q'.start (c15.isEmpty && c24.isEmpty)
    clear_value u v
    obtain ⟨hus, huo, hud, hue⟩ := hu
    obtain ⟨hvs, hvo, hvd⟩ := hv
    obtain ⟨hws, hwo, hwd, hwe⟩ := v.cross_spec e 0 b15 n15 q'.start
    generalize v.cross e 0 b15 n15 q'.start = w at *
    obtain ⟨hxs, hxo, hxd, hxe⟩ := w.cross_spec e 1 b24 n24 q'.start
    exact ⟨hxs.trans (hws.trans (hvs.trans hus)), hxo.trans (hwo.trans (hvo.trans huo)),
      fun d hd => (hxd d hd).trans ((hwd d hd).trans ((hvd d).trans (hud d hd))), by rw [hxe, hwe, hvd, hue]⟩

/-- Whatever an entity's queue holds, its commit leaves the others (12 R310). -/
theorem State.commitOne_keeps (s : State) (e : Entity) :
    (s.commitOne e).still = s.still ∧ (s.commitOne e).pm.offset = s.pm.offset ∧ ∀ d, d ≠ e → (s.commitOne e).mon d = s.mon d := by
  by_cases h : ∃ q qs, (s.mon e).queue = q :: qs ∧ s.due e q = true
  · obtain ⟨q, qs, hq, hd⟩ := h
    obtain ⟨hs, ho, hm, -⟩ := State.commitOne_spec hq hd
    exact ⟨hs, ho, hm⟩
  · rw [State.commitOne_waits fun q qs hq => Bool.eq_false_iff.mpr fun hd => h ⟨q, qs, hq, hd⟩]
    exact ⟨rfl, rfl, fun _ _ => rfl⟩

theorem State.due_of_still {s t : State} (h : t.still = s.still) (e : Entity) (q : Second) : t.due e q = s.due e q :=
  (congrArg (fun w : State => w.due e q) h :)

theorem State.eachCommit_keeps (s : State) (es : List Entity) :
    (s.each es fun e w => w.commitOne e).still = s.still ∧ (s.each es fun e w => w.commitOne e).pm.offset = s.pm.offset ∧
    ∀ d, d ∉ es → (s.each es fun e w => w.commitOne e).mon d = s.mon d :=
  ⟨State.each_keep State.still _ _ (fun e w => (w.commitOne_keeps e).1) s,
    State.each_keep (fun w => w.pm.offset) _ _ (fun e w => (w.commitOne_keeps e).2.1) s,
    fun d hd => State.each_keep_mem (π := fun w => w.mon d) (fun e he w => (w.commitOne_keeps e).2.2 d fun h => hd (h ▸ he)) s⟩

/-- Among all the commits each entity's own is what it would be alone (12 R310). -/
theorem State.eachCommit_mon {es : List Entity} (hes : es.Nodup) {d : Entity} (hd : d ∈ es) (s : State) :
    ∃ w : State, w.still = s.still ∧ w.pm.offset = s.pm.offset ∧ w.mon d = s.mon d ∧
      (s.each es fun e w => w.commitOne e).mon d = (w.commitOne d).mon d := by
  induction es generalizing s with
  | nil => exact absurd hd (by simp)
  | cons e es ih =>
    obtain ⟨he, hes⟩ := List.nodup_cons.mp hes
    rcases List.mem_cons.mp hd with rfl | hd
    · exact ⟨s, rfl, rfl, rfl, (State.eachCommit_keeps (s.commitOne d) es).2.2 d he⟩
    · obtain ⟨hs, ho, hm⟩ := s.commitOne_keeps e
      obtain ⟨w, hws, hwo, hwm, hw⟩ := ih hes hd (s.commitOne e)
      exact ⟨w, hws.trans hs, hwo.trans ho, hwm.trans (hm d fun h => he (h ▸ hd)), hw⟩

/-- The quarter of an hour that the committed seconds lie in (12 Table 12-9). -/
def State.inQuarter (s : State) (q : Nat) : State := { s with pm.quarter := q }

theorem State.inQuarter_spec (s : State) (q : Nat) :
    (s.inQuarter q).still = s.still ∧ (s.inQuarter q).pm.offset = s.pm.offset ∧ (s.inQuarter q).entities = s.entities ∧
    ∀ d, (s.inQuarter q).mon d = s.mon d := ⟨rfl, rfl, rfl, fun d => by cases d <;> rfl⟩

/-- A 24-hour offset that is in force already changes nothing but the quarter (12 Table 12-9). -/
theorem State.checkOffset_eq {s : State} (h : s.cfg 0x6000 2 0 = s.pm.offset) : ∃ q, s.checkOffset = s.inQuarter q := by
  unfold State.checkOffset
  split
  · exact ⟨s.pm.quarter, rfl⟩
  next a as _ =>
    extract_lets q off
    split
    · exact ⟨s.pm.quarter, rfl⟩
    · exact ⟨q, rfl⟩

theorem State.checkOffset_spec {s : State} (h : s.cfg 0x6000 2 0 = s.pm.offset) :
    s.checkOffset.still = s.still ∧ s.checkOffset.pm.offset = s.pm.offset ∧ s.checkOffset.entities = s.entities ∧
    ∀ d, s.checkOffset.mon d = s.mon d := by
  obtain ⟨q, hq⟩ := State.checkOffset_eq h
  rw [hq]
  exact s.inQuarter_spec q

theorem commitSecond_spec {s : State} (hup : s.sup.up = true) (hn : s.entities.Nodup) (ho : s.cfg 0x6000 2 0 = s.pm.offset) :
    (commitSecond s).still = s.still ∧
    (∀ e ∈ s.entities, (∀ q qs, (s.mon e).queue = q :: qs → s.due e q = false) → (commitSecond s).mon e = s.mon e) ∧
    ∀ e ∈ s.entities, ∀ q qs, (s.mon e).queue = q :: qs → s.due e q = true →
      ((commitSecond s).mon e).lessCrossed = ((s.mon e).committed s.pm.offset q qs).lessCrossed := by
  obtain ⟨hs, hoff, hent, hmon⟩ := State.checkOffset_spec ho
  have hdown : ¬ ((!s.sup.up) = true) := by simp [hup]
  rw [commitSecond, if_neg hdown]
  dsimp only
  generalize s.checkOffset = a at *
  rw [hent]
  refine ⟨(a.eachCommit_keeps _).1.trans hs, fun e he hq => ?_, fun e he q qs hq hd => ?_⟩
  · obtain ⟨w, hws, hwo, hwm, hw⟩ := State.eachCommit_mon hn he a
    rw [hw, State.commitOne_waits fun q qs hw => ?_, hwm, hmon]
    rw [State.due_of_still (hws.trans hs)]
    exact hq q qs (by rw [← hmon, ← hwm, hw])
  · obtain ⟨w, hws, hwo, hwm, hw⟩ := State.eachCommit_mon hn he a
    have hwq : (w.mon e).queue = q :: qs := by rw [hwm, hmon, hq]
    rw [hw, (State.commitOne_spec hwq ((State.due_of_still (hws.trans hs) e q).trans hd)).2.2.2, hwm, hmon, hwo, hoff]

/-- A bin into which a second has come (12 R312). -/
theorem Bin.add_spec (b : Bin) (q : Second) (un : Bool) :
    (b.add q un).used = b.used ∧ (b.add q un).start = b.start ∧
    (b.add q un).elapsed = (if q.cls = 0 then b.elapsed else satAdd b.elapsed 1) ∧
    (b.add q un).uas = (if q.cls ≠ 0 ∧ un = true then satAdd b.uas 1 else b.uas) ∧
    (b.add q un).ses = (if q.cls ≠ 0 ∧ un = false then satAdd b.ses (if q.cls = 3 then 1 else 0) else b.ses) := by
  have hmark (c : Bin) (f : Nat) : (c.mark f).used = c.used ∧ (c.mark f).start = c.start ∧ (c.mark f).elapsed = c.elapsed ∧
      (c.mark f).uas = c.uas ∧ (c.mark f).ses = c.ses := by
    unfold Bin.mark
    split <;> exact ⟨rfl, rfl, rfl, rfl, rfl⟩
  unfold Bin.add
  extract_lets errors flags c
  obtain ⟨hused, hstart, helapsed, huas, hses⟩ : c.used = b.used ∧ c.start = b.start ∧ c.elapsed = b.elapsed ∧ c.uas = b.uas ∧ c.ses = b.ses :=
    hmark ..
  clear_value c
  by_cases h0 : q.cls = 0
  · simp [h0, hused, hstart, helapsed, huas, hses]
  · cases un <;> simp [h0, hused, hstart, helapsed, huas, hses, b2n]

theorem openBin_spec (b : Bin) (start : Nat) : (openBin b start).used = true ∧ (openBin b start).start = start := by
  unfold openBin
  split
  next h => simpa using h
  · exact ⟨rfl, rfl⟩

/-! The collector (12 R315, R317). -/

theorem State.exportBin_lessSent (s : State) (x : Bytes) : (s.exportBin x).lessSent = s.lessSent := by
  refine State.each_keep State.lessSent _ _ (fun h w => ?_) s
  dsimp only
  split <;> rw [State.count_lessSent, State.postUnit_lessSent]

theorem State.exportBin_ctr (s : State) (x : Bytes) : (s.exportBin x).ctr 0x6040 1 5 0 = s.ctr 0x6040 1 5 0 := by
  have hoff : OffHoppers 0x6040 1 5 0 := fun n h => by
    unfold ctrKey
    omega
  refine State.each_keep (fun w => w.ctr 0x6040 1 5 0) _ _ (fun h w => ?_) s
  dsimp only
  split <;> rw [State.ctr_count_of_ne (by decide), State.postUnit_ctr hoff]

/-- An entity whose closed bins have gone to its history (12 R315). -/
def Mon.drained (m : Mon) (depth : Nat) : Mon :=
  { m with
    hist15 := (m.closed15.reverse ++ m.hist15).take depth, hist24 := (m.closed24.reverse ++ m.hist24).take 1, closed15 := [], closed24 := [] }

theorem Mon.drained_again (m : Mon) (depth : Nat) : (m.drained depth).drained depth = m.drained depth := by
  simp [Mon.drained, List.take_take]

/-- Neither an entity's number nor its bins matter to the others (12 R315). -/
theorem State.drainEntity_spec (s : State) (e : Entity) :
    (s.drainEntity e).still = s.still ∧ (∀ d, (s.drainEntity e).mon d = if d = e then (s.mon e).drained (histDepth e) else s.mon d) ∧
    (s.drainEntity e).pm.wheels = s.pm.wheels ∧ (s.drainEntity e).pm.draining = s.pm.draining ∧
    (s.drainEntity e).ctr 0x6040 1 5 0 = s.ctr 0x6040 1 5 0 := by
  unfold State.drainEntity
  extract_lets m a b
  have hb : b.lessSent = s.lessSent :=
    (State.each_keep State.lessSent _ _ (fun x w => w.exportBin_lessSent _) a).trans
      (State.each_keep State.lessSent _ _ (fun x w => w.exportBin_lessSent _) s)
  have hctr : b.ctr 0x6040 1 5 0 = s.ctr 0x6040 1 5 0 :=
    (State.each_keep (fun w : State => w.ctr 0x6040 1 5 0) _ _ (fun x w => w.exportBin_ctr _) a).trans
      (State.each_keep (fun w : State => w.ctr 0x6040 1 5 0) _ _ (fun x w => w.exportBin_ctr _) s)
  clear_value b
  have hpm := State.pm_of_lessSent hb
  have hmon := State.mon_of_pm hpm
  refine ⟨(State.still_of_lessPm (State.modMon_lessPm ..)).trans (State.still_of_lessSent hb), fun d => ?_, ?_, ?_, ?_⟩
  · rw [State.mon_modMon, hmon, hmon]
    rfl
  · rw [← hpm]
    cases e <;> rfl
  · rw [← hpm]
    cases e <;> rfl
  · rw [← hctr]
    cases e <;> rfl

theorem State.eachDrain_spec (es : List Entity) (s : State) :
    (s.each es fun e w => w.drainEntity e).still = s.still ∧
    (∀ d, (s.each es fun e w => w.drainEntity e).mon d = if d ∈ es then (s.mon d).drained (histDepth d) else s.mon d) ∧
    (s.each es fun e w => w.drainEntity e).pm.wheels = s.pm.wheels ∧ (s.each es fun e w => w.drainEntity e).pm.draining = s.pm.draining ∧
    (s.each es fun e w => w.drainEntity e).ctr 0x6040 1 5 0 = s.ctr 0x6040 1 5 0 := by
  refine ⟨State.each_keep State.still _ _ (fun e w => (w.drainEntity_spec e).1) s, fun d => ?_,
    State.each_keep (fun w => w.pm.wheels) _ _ (fun e w => (w.drainEntity_spec e).2.2.1) s,
    State.each_keep (fun w => w.pm.draining) _ _ (fun e w => (w.drainEntity_spec e).2.2.2.1) s,
    State.each_keep (fun w => w.ctr 0x6040 1 5 0) _ _ (fun e w => (w.drainEntity_spec e).2.2.2.2) s⟩
  induction es generalizing s with
  | nil => simp [State.each]
  | cons e es ih =>
    refine (ih (s.drainEntity e)).trans ?_
    obtain ⟨-, hmon, -⟩ := s.drainEntity_spec e
    by_cases hde : d = e
    · subst hde
      by_cases hm : d ∈ es <;> simp [hm, hmon, Mon.drained_again]
    · simp [hmon, hde]

/-- What is read of a record whose oldest second has been committed, its crossings apart (12 R309 to R313). -/
theorem Mon.committed_read {m n : Mon} {off : Nat} {q : Second} {qs : List Second} (h : n.lessCrossed = (m.committed off q qs).lessCrossed) :
    let flips := turns m.unavail q.cls && decide (10 ≤ m.run + leadRun m.unavail (q :: qs))
    n.queue = qs ∧ n.unavail = (if flips then !m.unavail else m.unavail) ∧ n.lastCls = (if q.cls ≠ 0 ∧ n.unavail = true then 4 else q.cls) ∧
    n.q15.used = true ∧ n.q15.start = spanStart 900 0 q.start ∧ n.q24.start = spanStart 86400 off q.start ∧
    let b := openBin m.q15 (spanStart 900 0 q.start)
    n.q15.elapsed = (if q.cls = 0 then b.elapsed else satAdd b.elapsed 1) ∧
    n.q15.uas = (if q.cls ≠ 0 ∧ n.unavail = true then satAdd b.uas 1 else b.uas) ∧
    n.q15.ses = (if q.cls ≠ 0 ∧ n.unavail = false then satAdd b.ses (if q.cls = 3 then 1 else 0) else b.ses) := by
  intro flips
  have hun : n.unavail = (if flips then !m.unavail else m.unavail) := (congrArg Mon.unavail h :)
  obtain ⟨hused, hstart, helapsed, huas, hses⟩ := Bin.add_spec (openBin m.q15 (spanStart 900 0 q.start)) q n.unavail
  obtain ⟨-, hstart24, -⟩ := Bin.add_spec (openBin m.q24 (spanStart 86400 off q.start)) q n.unavail
  rw [hun] at hused hstart helapsed huas hses hstart24
  refine ⟨(congrArg Mon.queue h :), hun, ?_, (congrArg (fun m => m.q15.used) h :).trans (hused.trans (openBin_spec ..).1),
    (congrArg (fun m => m.q15.start) h :).trans (hstart.trans (openBin_spec ..).2),
    (congrArg (fun m => m.q24.start) h :).trans (hstart24.trans (openBin_spec ..).2),
    (congrArg (fun m => m.q15.elapsed) h :).trans helapsed, ?_, ?_⟩
  · rw [hun]
    exact (congrArg Mon.lastCls h :)
  · rw [hun]
    exact (congrArg (fun m => m.q15.uas) h :).trans huas
  · rw [hun]
    exact (congrArg (fun m => m.q15.ses) h :).trans hses

theorem State.mem_entWheel {s : State} {w : WheelId} {e : Entity} :
    e ∈ s.entities.filter (fun e => (entWheel e) == (w : Nat)) ↔ e ∈ s.entities ∧ entWheel e = w := by
  simp

/-- A wheel has been drained (12 R315). -/
def State.wheelDone (s : State) (w : WheelId) : State :=
  let t := { s with pm.wheels := s.pm.wheels ++ [w] }
  if t.pm.wheels.length = 16 then { t with pm.draining := false, pm.lastDrain := (t.now - t.pm.drainSince) / 1000 }.count 0x6040 1 5 0 else t

theorem State.wheelDone_spec {s : State} {w : WheelId} (h : s.pm.wheels.length = (w : Nat)) :
    (s.wheelDone w).still = s.still ∧ (s.wheelDone w).pm.wheels = s.pm.wheels ++ [w] ∧ (∀ d, (s.wheelDone w).mon d = s.mon d) ∧
    ((w : Nat) < 15 → (s.wheelDone w).pm.draining = s.pm.draining) ∧
    ((w : Nat) = 15 → (s.wheelDone w).pm.draining = false ∧ (s.wheelDone w).ctr 0x6040 1 5 0 = (s.ctr 0x6040 1 5 0 + 1) % 4294967296) := by
  have hlen : (s.pm.wheels ++ [w]).length = (w : Nat) + 1 := by simp [h]
  unfold State.wheelDone
  dsimp only
  rw [hlen]
  by_cases hw : (w : Nat) = 15
  · rw [if_pos (by omega)]
    exact ⟨rfl, rfl, fun d => by cases d <;> rfl, fun h => by omega, fun _ => ⟨rfl, State.ctr_count ..⟩⟩
  · rw [if_neg (by omega)]
    exact ⟨rfl, rfl, fun d => by cases d <;> rfl, fun _ => rfl, fun h => absurd h hw⟩

theorem drainWheel_eq {s : State} {w : WheelId} (hd : s.pm.draining = true) (hup : s.sup.up = true) (hw : s.pm.wheels.length = (w : Nat)) :
    drainWheel w s = (s.each (s.entities.filter fun e => (entWheel e) == (w : Nat)) fun e s => s.drainEntity e).wheelDone w := by
  rw [drainWheel, if_pos (by simp [hd, hup, hw])]
  rfl

/-- Settles O43: each entity's commit is its own, and a wheel's drain takes each of its entities once or leaves it as once. -/
theorem secondsAreCommittedAndBinsDrained : Obligations.SecondsAreCommittedAndBinsDrained := fun s hup => by
  refine ⟨fun hn ho => ?_, fun w hd hw => ?_, fun w h => ⟨_, rfl, ?_⟩⟩
  · obtain ⟨hs, hwait, hdue⟩ := commitSecond_spec (s := s.quiet) hup hn ho
    refine ⟨_, rfl, (congrArg State.lanes hs :), (congrArg State.fab hs :), (congrArg State.persist hs :), (congrArg State.lease hs :),
      fun e he h => ?_, fun e he q qs hc hq hover => ?_⟩
    · refine hwait e he fun q qs hq => Bool.and_eq_false_iff.mpr ?_
      rcases h with h | h | ⟨q', qs', hq', h⟩
      · exact .inl h
      · exact absurd (h.symm.trans hq) (by simp)
      · obtain ⟨rfl, -⟩ := List.cons.inj (hq'.symm.trans hq)
        exact .inr h
    · have hcommit := hdue e he q qs hq (Bool.and_eq_true_iff.mpr ⟨hc, hover⟩)
      exact Mon.committed_read hcommit
  · obtain ⟨hes, hemon, hewheels, hedrain, hectr⟩ :=
      State.eachDrain_spec (s.entities.filter fun e => (entWheel e) == (w : Nat)) s.quiet
    have heq := drainWheel_eq (s := s.quiet) hd hup hw
    have hents : s.quiet.entities = s.entities := rfl
    rw [hents] at heq
    generalize (s.quiet.each (s.entities.filter fun e => (entWheel e) == (w : Nat)) fun e w => w.drainEntity e) = a at *
    obtain ⟨hds, hdwheels, hdmon, hdlow, hdlast⟩ := State.wheelDone_spec (s := a) (w := w) (by rw [hewheels]; exact hw)
    refine ⟨_, rfl, ?_⟩
    rw [heq]
    generalize a.wheelDone w = t at *
    have hstill : t.still = s.quiet.still := hds.trans hes
    refine ⟨hdwheels.trans (by rw [hewheels]; rfl), fun e he hw => ?_, fun e hw => ?_, fun hlow => (hdlow hlow).trans (hedrain.trans hd),
      fun hlast => ⟨(hdlast hlast).1, (hdlast hlast).2.trans (by rw [hectr]; rfl)⟩,
      (congrArg State.lanes hstill :), (congrArg State.fab hstill :), (congrArg State.persist hstill :)⟩
    · have hdrained : t.mon e = (s.mon e).drained (histDepth e) := (hdmon e).trans ((hemon e).trans (if_pos (State.mem_entWheel.mpr ⟨he, hw⟩)))
      exact ⟨congrArg Mon.closed15 hdrained, congrArg Mon.closed24 hdrained, congrArg Mon.hist15 hdrained⟩
    · exact (hdmon e).trans ((hemon e).trans (if_neg fun hm => hw (State.mem_entWheel.mp hm).2))
  · have hq : drainWheel w s.quiet = s.quiet := by
      refine if_neg fun hgo => ?_
      simp only [Bool.and_eq_true, beq_iff_eq] at hgo
      rcases h with h | h
      · exact absurd (h.symm.trans hgo.1.1) (by simp)
      · exact h hgo.2
    rw [hq]
    rfl

end Sys2Proof.Machine
end

section
/-! PROOFS. The map audit, and a hopper beyond those of 7000 (13 R329). -/

namespace Sys2Proof.Machine

/-- The stray hopper of the audit's passes, in a module whose map audit runs. -/
def strayAudit : State := { strayState (ctrKey 0x8030 2 1 0) with sup.up := true, lease.admitted := true }

theorem strayAudit_passes : (auditPass [0] 0 strayAudit.quiet).ctr 0x8030 2 1 0 = 2 := by decide

theorem mapAuditPass_ctr {s t : State} {bad : List Nat} {ms : Nat} (h : exec (.mapAuditPass bad ms) s = .next t) (i b f e : Nat) :
    t.ctr i b f e = (auditPass bad ms s.quiet).ctr i b f e := by
  obtain rfl : s.fixed (auditPass bad ms s.quiet) = t := by injection h
  rfl

/-- Refutes O47: where a table of hoppers lists one beyond those of 7000, whose count of entries written stands where 8030:02 counts passes,
the event of a mismatch that goes out to it counts there as well. -/
theorem not_cogsMatrixAndAudit : ¬ Obligations.CogsMatrixAndAudit := by
  rintro ⟨-, h⟩
  obtain ⟨haudit, -⟩ := h strayAudit
  obtain ⟨t, ht, -, hctr, -⟩ := haudit [0] 0 rfl rfl rfl rfl
  have hbefore : strayAudit.ctr 0x8030 2 1 0 = 0 := by decide
  rw [mapAuditPass_ctr ht, strayAudit_passes, hbefore] at hctr
  exact absurd hctr (by decide)

end Sys2Proof.Machine
end

section
/-! PROOFS. The bolter's march (13 R339 to R343). -/

namespace Sys2Proof.Machine

theorem State.bank_modBank (s : State) (b k : Nat) (f : Bank → Bank) : (s.modBank b f).bank k = if k = b then f (s.bank b) else s.bank k :=
  tget_tmod ..

/-- All but the supervisor's own state and the counters. -/
def State.lessSup (s : State) : State := { s with sup := {}, cnt := [] }

/-- A slice that a march has passed (13 R341). -/
def Bank.passed (x : Bank) : Bank := { x with suspended := 0, tested := (x.tested + 1) % 64 }

theorem State.advance_next {s : State} (h : s.sup.bolterSlice + 1 < 64) : s.advance =
    { s.modBank s.sup.bolterBank Bank.passed with sup.suspendedAt := none, sup.bolterSlice := s.sup.bolterSlice + 1 } := if_pos h

/-- Retired banks of a table. -/
def retiredIn (t : Tab Bank) : Nat := t.countP fun e => e.2.retired

theorem retiredIn_tins_le (t : Tab Bank) (b : Nat) (x : Bank) : retiredIn (tins t b x) ≤ retiredIn t + 1 := by
  unfold retiredIn
  induction t with
  | nil => exact List.countP_le_length
  | cons e t ih =>
    obtain ⟨k, v⟩ := e
    simp only [tins]
    split
    · rw [List.countP_cons]
      split <;> omega
    · split <;> simp only [List.countP_cons] <;> repeat' split
      all_goals omega

theorem retiredIn_tput_le (t : Tab Bank) (b : Nat) (x : Bank) : retiredIn (tput {} t b x) ≤ retiredIn t + 1 := by
  have hdel : retiredIn (tdel t b) ≤ retiredIn t := by
    rw [tdel_eq_filter]
    exact List.filter_sublist.countP_le
  unfold tput
  split
  · omega
  · exact retiredIn_tins_le ..

theorem State.retired_modBank_le (s : State) (b : Nat) (f : Bank → Bank) : (s.modBank b f).retired ≤ s.retired + 1 :=
  retiredIn_tput_le s.sup.banks b (f (s.bank b))

theorem retiredIn_fresh_le (t : Tab Bank) : retiredIn (tmap {} t fun _ x => { x with suspended := 0, tested := 0 }) ≤ retiredIn t := by
  unfold retiredIn tmap
  refine (List.filter_sublist.countP_le).trans ?_
  rw [List.countP_map]
  exact le_rfl

theorem State.startPass_spec (s : State) : s.startPass.lessSup = s.lessSup ∧ s.startPass.retired ≤ s.retired := by
  unfold State.startPass
  split
  · exact ⟨rfl, retiredIn_fresh_le _⟩
  · exact ⟨rfl, le_rfl⟩

theorem State.endPass_spec (s : State) : s.endPass.lessSup = s.lessSup ∧ s.endPass.retired ≤ s.retired := by
  unfold State.endPass
  extract_lets _ t
  have ht : t.lessSup = s.lessSup ∧ t.retired = s.retired := ⟨rfl, rfl⟩
  clear_value t
  obtain ⟨hless, hret⟩ := ht
  split
  · obtain ⟨hs, hr⟩ := State.startPass_spec { t with sup.passDue := false }
    exact ⟨hs.trans hless, hr.trans hret.le⟩
  · exact ⟨hless, hret.le⟩

theorem State.advanceBank_spec (s : State) (b : Nat) : (s.advanceBank b).lessSup = s.lessSup ∧ (s.advanceBank b).retired ≤ s.retired := by
  unfold State.advanceBank
  split
  · exact ⟨rfl, le_rfl⟩
  · exact s.endPass_spec

/-- An ordinary bank, and fewer than nine, are retired without a restart (13 R339). -/
theorem State.retireBank_spec {s : State} {b : Nat} (hb : 4 ≤ b) (h : s.retired < 8) :
    (s.retireBank b).lessSup = s.lessSup ∧ ((s.retireBank b).bank b).retired = true ∧ ((s.retireBank b).bank b).power = 0 := by
  have hret : (s.modBank b fun x => { x with power := 0, retired := true, suspended := 0, tested := 0 }).retired ≤ s.retired + 1 :=
    s.retired_modBank_le ..
  unfold State.retireBank
  extract_lets t
  rw [if_neg (Nat.not_le.mpr (hret.trans_lt (by omega))), if_neg (by omega)]
  have hbank : t.bank b = { s.bank b with power := 0, retired := true, suspended := 0, tested := 0 } := (State.bank_modBank ..).trans (if_pos rfl)
  exact ⟨rfl, by rw [hbank], by rw [hbank]⟩

/-- A processor uses the slice that the march is at (13 R342). -/
def State.suspendSlice (s : State) (b : Nat) : State := (s.count 0x8110 2 5 0).modBank b fun x => { x with suspended := x.suspended + 1 }

theorem State.suspendSlice_bank (s : State) (b : Nat) : ((s.suspendSlice b).bank b).suspended = (s.bank b).suspended + 1 :=
  congrArg Bank.suspended ((State.bank_modBank ..).trans (if_pos rfl))

section

variable {s : State} {b : BankId} {k : Fin 64} (hp : s.sup.passing = true) (hb : s.sup.bolterBank = b) (hk : s.sup.bolterSlice = k)
  (hs : s.sup.suspendedAt = none)
include hp hb hk hs

theorem marchSlice_passed : marchSlice b k .passed s = s.advance := if_neg (by simp [hp, hb, hk, hs])

theorem marchSlice_failed : marchSlice b k .failed s = (s.advanceBank b).retireBank b := if_neg (by simp [hp, hb, hk, hs])

theorem marchSlice_suspended (h : (s.bank b).suspended + 1 < 16) :
    marchSlice b k .suspended s = { s.suspendSlice b with sup.suspendedAt := some s.now } := by
  refine (if_neg (by simp [hp, hb, hk, hs])).trans (if_neg ?_)
  rw [State.bank_modBank, if_pos rfl]
  exact Nat.not_le.mpr h

end

/-- A pass that is due, with a bank to test (13 R341, R342). -/
theorem State.startPass_some {s : State} {b : Nat} (h : s.nextBank 0 = some b) : s.startPass =
    { s.freshSlices with sup.passing := true, sup.passAt := s.now, sup.bolterBank := b, sup.bolterSlice := 0, sup.suspendedAt := none } := by
  unfold State.startPass
  rw [h]

/-- Settles O48: a step of the march as its slice ends, and the passes that begin. -/
theorem theBolterMarches : Obligations.TheBolterMarches := fun s => by
  refine ⟨fun b k hp hb hk hs => ⟨fun h => ?_, fun h => ?_, fun h4 h8 _ => ?_⟩, fun b hs ho => ⟨_, rfl, ?_⟩, fun b hup ho hp hn => ⟨_, rfl, ?_⟩,
    fun rq arg x b h hp hn => ?_⟩
  · have heq : marchSlice b k .passed s.quiet = { s.quiet.modBank b Bank.passed with sup.suspendedAt := none, sup.bolterSlice := k + 1 } := by
      rw [marchSlice_passed (s := s.quiet) hp hb hk hs]
      refine (State.advance_next (s := s.quiet) ((congrArg (· + 1) hk).trans_lt h)).trans ?_
      rw [show s.quiet.sup.bolterBank = b from hb, show s.quiet.sup.bolterSlice = k from hk]
    refine ⟨_, rfl, ?_⟩
    rw [heq]
    exact ⟨rfl, hb, hp, (State.bank_modBank ..).trans (if_pos rfl), rfl⟩
  · refine ⟨_, rfl, ?_⟩
    rw [marchSlice_suspended (s := s.quiet) hp hb hk hs h]
    exact ⟨rfl, hk, s.quiet.suspendSlice_bank b, s.quiet.ctr_count .., rfl⟩
  · have heq : marchSlice b k .failed s.quiet = (s.quiet.advanceBank b).retireBank b := marchSlice_failed (s := s.quiet) hp hb hk hs
    obtain ⟨hadv, hret⟩ := s.quiet.advanceBank_spec b
    obtain ⟨hless, hr, hpow⟩ := State.retireBank_spec (s := s.quiet.advanceBank b) h4 (hret.trans_lt h8)
    refine ⟨_, rfl, ?_⟩
    rw [heq]
    generalize (s.quiet.advanceBank b).retireBank b = t at *
    exact ⟨hr, hpow, (congrArg (fun w : State => { s.fixed w with sup := s.sup, cnt := s.cnt }) (hless.trans hadv) :)⟩
  · have heq : sliceAgain s.quiet = { s.quiet with sup.suspendedAt := none } := by
      unfold sliceAgain
      rw [show s.quiet.sup.suspendedAt = some b from hs]
      exact if_pos ho
    rw [heq]
    rfl
  · have heq : passDue s.quiet = s.quiet.startPass := by
      have hdue : s.quiet.over s.quiet.sup.passAt (secs (3600 * s.quiet.cfg 0x8110 1 0)) = true := ho
      unfold passDue
      rw [hdue, show s.quiet.sup.up = true from hup, show s.quiet.sup.passing = false from hp]
      rfl
    rw [heq, State.startPass_some (s := s.quiet) hn]
    rfl
  · obtain ⟨t, u, hrun, hw, hsup, hless⟩ := run_writeOf_wrote (a := {}) (P := fun u => (u.sup.passing = true ∧ u.sup.passAt = s.now ∧
        u.sup.bolterBank = b ∧ u.sup.bolterSlice = 0) ∧ { u.lessAnswers with sup := s.sup } = s.lessAnswers)
      h rfl (by decide) (by decide) (by decide) (eff := effStartPass) fun m => by
        have hpass : (s.hearing m).sup.passing = false := hp
        have hstart : (s.hearing m).startPass = _ := State.startPass_some hn
        simp only [effStartPass, hpass, hstart, guardAct]
        exact ⟨_, rfl, rfl, ⟨rfl, rfl, rfl, rfl⟩, rfl⟩
    have hsup' : t.sup = u.sup := (congrArg State.sup hw.less :)
    rw [← hsup'] at hsup
    obtain ⟨hpassing, hat, hbank, hslice⟩ := hsup
    exact ⟨t, hrun, hw.answered, hpassing, hat, hbank, hslice,
      (congrArg (fun w : State => { w with sup := s.sup }) hw.less :).trans (congrArg s.fixed hless :)⟩

end Sys2Proof.Machine
end

section
/-! PROOFS. Handshakes open sessions (14 R351 to R353). -/

namespace Sys2Proof.Machine

/-! IDENTITY messages. -/

theorem State.rate_spec (s : State) (addr : Nat) : (s.rate addr).addr = addr ∧ (s.rate addr).second = s.now / 1000000000 := by
  unfold State.rate
  split
  next r h => simpa using List.find?_some h
  · exact ⟨rfl, rfl⟩

/-- What is written of a source is read back (14 R351). -/
theorem State.rate_setRate {s : State} {r : Rate} (h : r.second = s.now / 1000000000) : (s.setRate r).rate r.addr = r := by
  have hfind : (s.setRate r).mgmt.rates.find? (fun x => x.addr == r.addr && x.second == s.now / 1000000000) = some r := by
    refine (List.find?_append).trans ?_
    rw [List.find?_eq_none.mpr fun x hx => ?_]
    · simp [h]
    · have := (List.mem_filter.mp hx).2
      simp only [Bool.and_eq_true, bne_iff_ne] at this
      simp [this.2]
  unfold State.rate
  rw [show (s.setRate r).now = s.now from rfl, hfind]

theorem identityMsg_answered {s : State} {h : Hdr} {src : Src} {op : Nat} {q : Req} (hs : s.serves = true) (hh : hdrOk h 5 = true)
    (hl : h.body.length = 24 + q.value.length) (hr : (s.rate src.addr).identity < 100) : identityMsg h src op q s =
      (s.setRate { s.rate src.addr with identity := (s.rate src.addr).identity + 1 }).emit (.identityReply (respOf op q (s.identityAns op q))) := by
  unfold identityMsg
  rw [if_neg (by simp [hs]), if_neg (by simp [hh, hl])]
  exact if_neg (Nat.not_le.mpr hr)

theorem identityMsg_refused {s : State} {h : Hdr} {src : Src} {op : Nat} {q : Req} (hs : s.serves = true) (hh : hdrOk h 5 = true)
    (hl : h.body.length = 24 + q.value.length) (hr : 100 ≤ (s.rate src.addr).identity) : identityMsg h src op q s = s.count 0x9130 4 6 0 := by
  unfold identityMsg
  rw [if_neg (by simp [hs]), if_neg (by simp [hh, hl])]
  exact if_pos hr

/-! HELLO messages. -/

/-- With fewer than 17 pending handshakes, the identifier for a new one is not pending (14 R352). -/
theorem State.freeId_not_pending {s : State} (h : s.mgmt.handshakes.length < 17) : ∀ e ∈ s.mgmt.handshakes, e.1 ≠ s.freeId := by
  have hex : ∃ i ∈ (List.range 17).map (s.mgmt.opens + 1 + ·), (!(s.mgmt.handshakes.any fun e => e.1 == i)) = true := by
    by_contra hall
    have hsub : (List.range 17).map (s.mgmt.opens + 1 + ·) ⊆ s.mgmt.handshakes.map Prod.fst := fun i hi => by
      by_contra hn
      refine hall ⟨i, hi, ?_⟩
      simp only [Bool.not_eq_true', List.any_eq_false, beq_iff_eq]
      exact fun e he heq => hn (heq ▸ List.mem_map_of_mem he)
    have hnodup : ((List.range 17).map (s.mgmt.opens + 1 + ·)).Nodup :=
      List.nodup_range.map fun a b hab => Nat.add_left_cancel hab
    have hle := (hnodup.subperm hsub).length_le
    simp at hle
    omega
  obtain ⟨i, hi⟩ := Option.isSome_iff_exists.mp (List.find?_isSome.mpr hex)
  have hfree : s.freeId = i := by
    unfold State.freeId
    rw [hi]
    rfl
  have hnot := List.find?_some hi
  rw [hfree]
  simpa using hnot

theorem helloMsg_challenged {s : State} {h : Hdr} {src : Src} (hs : s.serves = true) (hh : hdrOk h 1 = true)
    (hn : s.mgmt.handshakes.length < 16) (hi : s.freeId ≤ 0xFFFFFFFE) : helloMsg h src s =
      { s with fresh := s.fresh + 1, mgmt.handshakes := tins s.mgmt.handshakes s.freeId ⟨src.addr, src.port, Config.nonce s.fresh, s.now⟩ }.emit
        (.challenge s.freeId (challengeBody (Config.nonce s.fresh))) := by
  unfold helloMsg
  rw [if_neg (by simp [hs]), if_neg (by simp [hh])]
  exact if_neg (by omega)

/-! OPEN messages. -/

/-- The session that opens is the one found (14 R353). -/
theorem State.session_tins (s : State) (id j : Nat) (x : Session) :
    ({ s with mgmt.sessions := tins s.mgmt.sessions id x } : State).session? j = if j = id then some x else s.session? j := find_tins ..

/-- The session that an OPEN opens (14 R353). -/
def State.newSession (s : State) (src : Src) (c : Cert) (key : BitVec 256) : Session :=
  { role := c.role, cert := c.serial, addr := src.addr, port := src.port, key := key, opened := s.stamp, lastAt := s.now }

/-- A message to an open session takes its next number and leaves the other sessions (14 R354). -/
theorem State.sendSecure_to {s : State} {i : Nat} {x : Session} (h : s.session? i = some x) (o : Output) (r : Resp) :
    (∀ j, (s.sendSecure i o r).session? j = if j = i then some { x with sendSeq := x.sendSeq + 1 } else s.session? j) ∧
    (s.sendSecure i o r).out = s.out ++ [o, .secure i x.sendSeq (secureMessage x.key i x.sendSeq r.bytes)] := by
  have hjob (j : Nat) : (s.cipherJob r.bytes.length).session? j = s.session? j := by simp
  have hnew : ({ x with sendSeq := x.sendSeq + 1 } : Session) ≠ {} := fun hc => Nat.succ_ne_zero _ (congrArg Session.sendSeq hc)
  constructor
  · intro j
    simp only [State.sendSecure, h, State.emit_reads]
    rw [State.sentTo, State.session_mod _ _ _ _ _ ((hjob i).trans h) hnew, hjob]
  · simp [State.sendSecure, h, State.emit, State.sentTo]

/-- The OPENED record (14 R353). -/
def State.openedRecord (s : State) (c : Cert) : Resp :=
  { op := 0xC1, tag := 0xFFFF, value := beBytes 1 c.role ++ beBytes 2 (s.cfg 0x9100 3 0) ++ beBytes 1 32 }

theorem State.opened_spec (s : State) (id : Nat) (src : Src) (c : Cert) (key : BitVec 256) :
    (s.opened id src c key).out = s.out ++ [.opened id c.role (s.cfg 0x9100 3 0) 32, .secure id 0 (secureMessage key id 0 (s.openedRecord c).bytes)] ∧
    (∀ j, (s.opened id src c key).session? j = if j = id then some { s.newSession src c key with sendSeq := 1 } else s.session? j) ∧
    (s.opened id src c key).mgmt.handshakes = s.mgmt.handshakes ∧ (s.opened id src c key).persist = s.persist ∧
    (s.opened id src c key).lanes = s.lanes ∧ (s.opened id src c key).fab = s.fab ∧ (s.opened id src c key).sealing = s.sealing := by
  unfold State.opened
  extract_lets x _ t idle
  have ht : t.out = s.out ∧ (∀ j, t.session? j = if j = id then some x else s.session? j) ∧ t.mgmt.handshakes = s.mgmt.handshakes ∧
      t.persist = s.persist ∧ t.lanes = s.lanes ∧ t.fab = s.fab ∧ t.sealing = s.sealing :=
    ⟨rfl, fun j => s.session_tins id j x, rfl, rfl, rfl, rfl, rfl⟩
  have hidle : idle = s.cfg 0x9100 3 0 := rfl
  clear_value t idle
  obtain ⟨hout, hsess, hhand, hpersist, hlanes, hfab, hsealing⟩ := ht
  generalize hu : t.audit { kind := 3, role := c.role, session := id, cert := c.serial, detail := c.role } = u
  have hus (j : Nat) : u.session? j = t.session? j := by simp [← hu]
  have huf : u.out = t.out ∧ u.mgmt = t.mgmt ∧ u.persist = t.persist ∧ u.lanes = t.lanes ∧ u.fab = t.fab ∧ u.sealing = t.sealing := by simp [← hu]
  obtain ⟨huo, hum, hup, hul, huf, hus'⟩ := huf
  have hux : u.session? id = some x := by rw [hus, hsess, if_pos rfl]
  subst hidle
  obtain ⟨hsent, hsentOut⟩ := State.sendSecure_to hux (.opened id c.role (s.cfg 0x9100 3 0) 32) (s.openedRecord c)
  have hless := u.sendSecure_lessSent id (.opened id c.role (s.cfg 0x9100 3 0) 32) (s.openedRecord c)
  have hkeep : (u.sendSecure id (.opened id c.role (s.cfg 0x9100 3 0) 32) (s.openedRecord c)).mgmt.handshakes = t.mgmt.handshakes := by
    rw [← hum]
    exact (congrArg (fun w : State => w.mgmt.handshakes) hless :)
  change (u.sendSecure id (.opened id c.role (s.cfg 0x9100 3 0) 32) (s.openedRecord c)).out = _ ∧ _
  refine ⟨hsentOut.trans (by rw [huo, hout]), fun j => (hsent j).trans ?_, hkeep.trans hhand,
    (congrArg State.persist hless :).trans (hup.trans hpersist), (congrArg State.lanes hless :).trans (hul.trans hlanes),
    (congrArg State.fab hless :).trans (huf.trans hfab), (congrArg State.sealing hless :).trans (hus'.trans hsealing)⟩
  rw [hus, hsess]
  split <;> rfl

/-- An OPEN that passes the checks of Table 14-5. -/
theorem openMsg_opened {s : State} {h : Hdr} {src : Src} {serial : Nat} {key : BitVec 256} {c : Cert} (hs : s.serves = true)
    (hh : hdrOk h 3 = true) (hp : s.pendingFrom h.session src = true)
    (hc : s.sec.certs.find? (fun c => c.serial == serial && s.mayOpen c) = some c) (hn : s.mgmt.sessions.length < 64) :
    openMsg h src serial true true key s = { s with mgmt.handshakes := tdel s.mgmt.handshakes h.session }.opened h.session src c key := by
  unfold openMsg
  rw [if_neg (by simp [hs]), if_neg (by simp [hh]), if_neg (by simp [hp])]
  have hc' : ({ s with mgmt.handshakes := tdel s.mgmt.handshakes h.session } : State).sec.certs.find? (fun c => c.serial == serial &&
    ({ s with mgmt.handshakes := tdel s.mgmt.handshakes h.session } : State).mayOpen c) = some c := hc
  simp only [hc']
  rw [if_neg (by simp)]
  exact if_neg (Nat.not_le.mpr hn)

theorem openMsg_unasked {s : State} {h : Hdr} {src : Src} {serial : Nat} {a b : Bool} {key : BitVec 256} (hs : s.serves = true)
    (hh : hdrOk h 3 = true) (hp : s.pendingFrom h.session src = false) :
    openMsg h src serial a b key s = s.refuseOpen h.session serial 2 0x42 false := by
  unfold openMsg
  rw [if_neg (by simp [hs]), if_neg (by simp [hh])]
  exact if_pos (by simp [hp])

/-- A refused OPEN that Table 14-5 does not count is answered, and counts as no failed authentication. -/
theorem State.refuseOpen_spec (s : State) (id serial status detail : Nat) :
    (s.refuseOpen id serial status detail false).out = s.out ++ [.reject id status detail] ∧
    (s.refuseOpen id serial status detail false).mgmt = s.mgmt ∧
    (s.refuseOpen id serial status detail false).sec.authCount = s.sec.authCount := by
  unfold State.refuseOpen
  extract_lets t
  have hauth : t.sec.authCount = s.sec.authCount := (congrArg (fun w : State => w.sec.authCount) (s.audit_lessAnswers _) :)
  have hframe : t.out = s.out ∧ t.mgmt = s.mgmt := by simp [t]
  clear_value t
  obtain ⟨hout, hmgmt⟩ := hframe
  exact ⟨congrArg (fun os => os ++ [Output.reject id status detail]) hout, hmgmt, hauth⟩

/-- Settles O49: each message runs to the one case of its handling that its checks leave. -/
theorem handshakesOpenSessions : Obligations.HandshakesOpenSessions := fun s => by
  refine ⟨fun h src op q hs hh hl hr => ⟨_, rfl, ?_⟩, fun h src op q hs hh hl hr => ⟨_, rfl, ?_⟩, fun h src hs hh hn hi => ⟨_, rfl, ?_⟩,
    fun h src serial key c hs hh hp hc hn => ⟨_, rfl, ?_⟩, fun h src serial a b key hs hh hp => ⟨_, rfl, ?_⟩, fun id => ⟨_, rfl, rfl⟩⟩
  · rw [identityMsg_answered (s := s.quiet) hs hh hl hr]
    obtain ⟨haddr, hsec⟩ := s.rate_spec src.addr
    refine ⟨rfl, ?_, rfl⟩
    have hread := State.rate_setRate (s := s.quiet) (r := { s.rate src.addr with identity := (s.rate src.addr).identity + 1 }) hsec
    rw [show ({ s.rate src.addr with identity := (s.rate src.addr).identity + 1 } : Rate).addr = src.addr from haddr] at hread
    exact congrArg Rate.identity hread
  · rw [identityMsg_refused (s := s.quiet) hs hh hl hr]
    exact ⟨rfl, s.quiet.ctr_count ..⟩
  · rw [helloMsg_challenged (s := s.quiet) hs hh hn hi]
    exact ⟨rfl, rfl, State.freeId_not_pending (by omega), rfl⟩
  · rw [openMsg_opened (s := s.quiet) hs hh hp hc hn]
    have hopened := State.opened_spec { s.quiet with mgmt.handshakes := tdel s.mgmt.handshakes h.session } h.session src c key
    obtain ⟨hout, hsess, hhand, hpersist, hlanes, hfab, hsealing⟩ := hopened
    refine ⟨hout, ⟨_, (hsess _).trans (if_pos rfl), rfl, ?_, rfl, rfl, rfl, rfl, rfl⟩, fun j hj => (hsess j).trans (if_neg hj), hhand, hpersist,
      hlanes, hfab, hsealing⟩
    have hserial := List.find?_some hc
    simp only [Bool.and_eq_true, beq_iff_eq] at hserial
    exact hserial.1
  · rw [openMsg_unasked (s := s.quiet) hs hh hp]
    exact s.quiet.refuseOpen_spec h.session serial 2 0x42

end Sys2Proof.Machine
end

section
/-! PROOFS. Sessions serve and close (14 R348, R353 to R355, R358). -/

namespace Sys2Proof.Machine

/-! SECURE messages. -/

/-- The first entry of a key is the first of those with it that have another property, where it has it. -/
theorem find_key {α : Type} {t : Tab α} {i : Nat} {x : α} {p : Nat × α → Bool} (h : (t.find? fun e => e.1 == i).map Prod.snd = some x)
    (hp : p (i, x) = true) : t.find? (fun e => e.1 == i && p e) = some (i, x) := by
  induction t with
  | nil => simp at h
  | cons e t ih =>
    obtain ⟨k, v⟩ := e
    simp only [List.find?_cons] at h ⊢
    by_cases hk : k = i
    · subst hk
      simp only [beq_self_eq_true, Option.map_some, Option.some.injEq] at h
      subst h
      simp [hp]
    · have hb : (k == i) = false := by simpa using hk
      rw [hb] at h
      simp only [hb, Bool.false_and]
      exact ih h

/-- All but the work of the cipher engines (11 R300). -/
def State.lessCipher (s : State) : State := { s with mgmt.cipher0 := {}, mgmt.cipher1 := {}, mgmt.cipherNext := false }

theorem State.cipherJob_lessCipher (s : State) (n : Nat) (g : Bool) : (s.cipherJob n g).lessCipher = s.lessCipher := by
  unfold State.cipherJob
  split <;> rfl

section

variable {s : State} {h : Hdr} {src : Src} {x : Session} (hs : s.serves = true) (hh : hdrOk h 0x10 = true) (hx : s.session? h.session = some x)
  (ha : x.addr = src.addr) (hp : x.port = src.port)
include hs hh hx ha hp

theorem secureMsg_eq (ok : Bool) : secureMsg h src ok s =
    if x.opens h != ok then s
    else
      let s := s.cipherJob h.body.length ok
      if !ok then s.count 0x9130 4 2 0
      else if !x.fresh h.sequence then s.count 0x9130 4 3 0
      else (s.modSession h.session fun x => x.accept h.sequence s.now).seqLimit h.session := by
  have hfind : s.mgmt.sessions.find? (fun e => e.1 == h.session && e.2.addr == src.addr && e.2.port == src.port) = some (h.session, x) := by
    have := find_key (p := fun e => e.2.addr == src.addr && e.2.port == src.port) hx (by simp [ha, hp])
    simpa only [Bool.and_assoc] using this
  unfold secureMsg
  rw [if_neg (by simp [hs]), if_neg (by simp [hh])]
  simp only [hfind]

end

/-- A sequence that a session has accepted it does not accept again (14 R354). -/
theorem Session.accept_not_fresh {x : Session} {n now : Nat} (hf : x.fresh n = true) (h0 : x.recvSeen = [] → x.recvMax = 0) :
    (x.accept n now).fresh n = false := by
  have hnear : max x.recvMax n ≤ n + 64 := by
    simp only [Session.fresh, Bool.or_eq_true, Bool.and_eq_true, List.isEmpty_iff, decide_eq_true_eq] at hf
    rcases hf with (hf | hf) | hf
    · have := h0 hf
      omega
    · omega
    · omega
  have hmem : n ∈ (x.accept n now).recvSeen := List.mem_filter.mpr ⟨List.mem_cons_self, decide_eq_true hnear⟩
  have hempty : (x.accept n now).recvSeen.isEmpty = false := by
    simpa [List.isEmpty_iff] using List.ne_nil_of_mem hmem
  have hmax : ¬ (x.accept n now).recvMax < n := Nat.not_lt.mpr (Nat.le_max_right ..)
  simp [Session.fresh, hempty, hmem, hmax]

/-- A session below the limits of its sequences stays open (14 R355). -/
theorem State.seqLimit_below {s : State} {i : Nat} {x : Session} (h : s.session? i = some x) (h1 : x.sendSeq < 281474976710656)
    (h2 : x.recvMax < 281474976710656) : s.seqLimit i = s := by
  unfold State.seqLimit
  rw [h]
  exact if_neg (by omega)

theorem State.modSession_back (s : State) (i : Nat) (f : Session → Session) : { s.modSession i f with mgmt.sessions := s.mgmt.sessions } = s := by
  unfold State.modSession
  split <;> rfl

section

variable {s : State} {h : Hdr} {src : Src} {x : Session} (hs : s.serves = true) (hh : hdrOk h 0x10 = true) (hx : s.session? h.session = some x)
  (ha : x.addr = src.addr) (hp : x.port = src.port)
include hs hh hx ha hp

theorem secureMsg_accepted (hr : x.role ≠ 0) (h1 : x.sendSeq < 281474976710656) (h2 : x.recvMax < 281474976710656) (ho : x.opens h = true)
    (hf : x.fresh h.sequence = true) (hn : h.sequence < 281474976710656) :
    (∀ j, (secureMsg h src true s).session? j = if j = h.session then some (x.accept h.sequence s.now) else s.session? j) ∧
    { (secureMsg h src true s).lessCipher with mgmt.sessions := s.mgmt.sessions } = s.lessCipher := by
  have hjob := s.cipherJob_lessCipher h.body.length true
  have hjobs (j : Nat) : (s.cipherJob h.body.length true).session? j = s.session? j := by simp
  have hnow : (s.cipherJob h.body.length true).now = s.now := by simp
  have heq : secureMsg h src true s =
      ((s.cipherJob h.body.length true).modSession h.session fun y => y.accept h.sequence s.now).seqLimit h.session := by
    rw [secureMsg_eq hs hh hx ha hp, ho, if_neg (by simp)]
    dsimp only
    rw [if_neg (by simp), if_neg (by simp [hf]), hnow]
  have hback := (s.cipherJob h.body.length true).modSession_back h.session fun y => y.accept h.sequence s.now
  have hmod := State.session_mod (s.cipherJob h.body.length true) h.session (f := fun y => y.accept h.sequence s.now) (x := x)
  rw [heq]
  generalize s.cipherJob h.body.length true = w at *
  have hsess (j : Nat) : (w.modSession h.session fun y => y.accept h.sequence s.now).session? j =
      if j = h.session then some (x.accept h.sequence s.now) else s.session? j := by
    rw [hmod j (by rw [hjobs, hx]) fun hc => hr (congrArg Session.role hc), hjobs]
  rw [State.seqLimit_below ((hsess h.session).trans (if_pos rfl)) h1 (max_lt h2 hn)]
  refine ⟨hsess, ?_⟩
  have hback' := congrArg State.lessCipher hback
  have hm : w.mgmt.sessions = s.mgmt.sessions := (congrArg (fun w : State => w.mgmt.sessions) hjob :)
  rw [hm] at hback'
  exact (hback' :).trans hjob

theorem secureMsg_counted {ok : Bool} (ho : x.opens h = ok) {i : Nat} (hi : i = if ok then 3 else 2) (hf : ok = true → x.fresh h.sequence = false) :
    { (secureMsg h src ok s).lessCipher with cnt := s.cnt } = s.lessCipher ∧
    (secureMsg h src ok s).ctr 0x9130 4 i 0 = (s.ctr 0x9130 4 i 0 + 1) % 4294967296 := by
  have hjob := s.cipherJob_lessCipher h.body.length ok
  have heq : secureMsg h src ok s = (s.cipherJob h.body.length ok).count 0x9130 4 i 0 := by
    rw [secureMsg_eq hs hh hx ha hp, ho, if_neg (by simp)]
    subst hi
    cases ok with
    | false => rfl
    | true =>
      dsimp only
      rw [if_neg (by simp), if_pos (by simp [hf])]
      rfl
  rw [heq]
  have hcnt : (s.cipherJob h.body.length ok).cnt = s.cnt := (congrArg State.cnt hjob :)
  generalize s.cipherJob h.body.length ok = w at *
  refine ⟨?_, (w.ctr_count ..).trans (by simp only [State.ctr, hcnt])⟩
  exact (congrArg (fun w : State => { w with cnt := s.cnt }) hjob :)

theorem secureMsg_mistaken {ok : Bool} (ho : x.opens h ≠ ok) : secureMsg h src ok s = s := by
  rw [secureMsg_eq hs hh hx ha hp, if_pos (by simpa using ho)]

end

/-! The close of a session. -/

/-- A session is closed: it is gone, with its hoppers, its requests and its transfers (14 R355). -/
structure Closed (id : Nat) (t : State) : Prop where
  gone : t.session? id = none
  hoppers : id ≠ 0 → ∀ h, (t.hop h).owner ≠ id
  flight : ∀ f ∈ t.mgmt.flight, f.session ≠ id
  transfers : ∀ f ∈ t.mgmt.transfers, f.session ≠ id

/-- A hopper as the close of a session leaves it (14 R355). -/
def Hopper.released (id : Nat) (x : Hopper) : Hopper :=
  { x with owner := if x.owner = id then 0 else x.owner, held := x.held.filter fun w => w.session != id }

theorem State.releaseHoppers_hop (s : State) (id h : Nat) : (s.releaseHoppers id).hop h = tget {} (tmap {} s.store.hoppers fun _ => Hopper.released id) h :=
  rfl

theorem State.releaseHoppers_owner (s : State) {id : Nat} (h0 : id ≠ 0) (h : Nat) : ((s.releaseHoppers id).hop h).owner ≠ id := by
  rw [State.releaseHoppers_hop]
  refine tget_tmap_of (d := ({} : Hopper)) (P := fun x => x.owner ≠ id) (fun hc => h0 hc.symm) (fun _ x => ?_) _ h
  unfold Hopper.released
  dsimp only
  split
  · exact h0.symm
  next hne => exact hne

theorem State.audit_hop (s : State) (r : AuditRec) (k : Nat) : (s.audit r).hop k = s.hop k :=
  (congrArg (fun w : State => w.hop k) (s.audit_lessAnswers r) :)

theorem State.dropTransfers_spec (s : State) (id : Nat) :
    (s.dropTransfers id).mgmt.flight = s.mgmt.flight ∧ ∀ f ∈ (s.dropTransfers id).mgmt.transfers, f.session ≠ id := by
  unfold State.dropTransfers
  refine ⟨State.each_keep (fun w => w.mgmt.flight) _ _ (fun x w => by simp) s, fun f hf => by simpa using (List.mem_filter.mp hf).2⟩

theorem State.closeSess_closed {s : State} {id : Nat} (h : (s.session? id).isSome = true) (c : Nat) : Closed id (s.closeSess id c) := by
  have hopen : (s.mgmt.sessions.any fun e => e.1 == id) = true := by
    simpa [State.session?, List.any_eq_true] using h
  refine ⟨?_, fun h0 k => ?_, ?_, ?_⟩
  · rw [State.session?, State.closeSess_sessions, List.find?_eq_none.mpr fun e he => ?_]
    · rfl
    · simpa using (List.mem_filter.mp he).2
  · rw [State.closeSess, if_pos hopen]
    dsimp only
    rw [State.audit_hop]
    exact State.releaseHoppers_owner _ h0 k
  · rw [State.closeSess, if_pos hopen]
    simp only [State.audit_frame, State.releaseHoppers_frame, State.dropTransfers_spec]
    exact fun f hf => by simpa using (List.mem_filter.mp hf).2
  · rw [State.closeSess, if_pos hopen]
    simp only [State.audit_frame, State.releaseHoppers_frame]
    exact (State.dropTransfers_spec ..).2

/-- A session is open as long as it was (14 R355, R358). -/
theorem State.answered_open (s : State) (op : Nat) (q : Req) (a : Ans) (j : Nat) :
    ((s.answered op q a).session? j).isSome = (s.session? j).isSome :=
  ((State.Posts.sendSecure ..).opens j).trans rfl

/-- A request that its own checks let through is answered in the session that it came in (14 R358, R364). -/
theorem run_request_answered {op : Nat} {q : Req} {x : Session} {s : State} (h : TakenUp op q x s) (hm : makerOwn op q x = false)
    {body : Session → State → Act} {a : Ans} {post : State → State}
    (hb : body x (s.quiet.heard q.session) = .done (s.quiet.heard q.session) a post) :
    run (request op q body) s = .next (s.fixed (post ((s.quiet.heard q.session).answered op q a))) := by
  have hx := TakenUp.session h.quiet
  have heq : request op q body s.quiet = post ((s.quiet.heard q.session).answered op q a) := by
    rw [request_up h.quiet hm, hb]
    obtain ⟨-, -, hr, -, -, -, -, -, hsend, hrecv⟩ := h
    exact congrArg post (State.respond_eq _ _ _ _ _ hx hr hsend hrecv)
  unfold run
  rw [heq]

theorem State.answered_answers {s : State} {op : Nat} {q : Req} {x : Session} (h : TakenUp op q x s) (hop : op < 128) (a : Ans) :
    Answered op q a.status ((s.quiet.heard q.session).answered op q a) := by
  refine ⟨respOf op q a, ?_, by simp [respOf]; omega, rfl, rfl⟩
  rw [State.answered_out _ op q a _ (TakenUp.session h.quiet) h.2.2.1]
  simp

/-- A write that closes sessions after its answer (14 R348, R355). -/
theorem run_writeOf_then {rq : Rq} {index sub el : Nat} {v : Bytes} {x : Session} {o : Obj} {s : State} (h : Writes rq index sub el v x s)
    (ho : findObj index sub = some o) (h0 : sub ≠ 0) (h1 : sub ≠ 0xFE) (hq : ¬ (index = 0x5E10 ∧ sub = 3))
    {eff : Session → List Nat → State → Act} {u : State} {post : State → State}
    (he : eff x (o.split v) (s.quiet.heard rq.session) = .done u {} post) (hm : u.mgmt = (s.quiet.heard rq.session).mgmt) :
    ∃ r, run (writeOf rq index sub el v eff) s = .next (s.fixed (post r)) ∧ Answered 2 (writeReq rq index sub el v) 0 r ∧
      r.lessAnswers = u.lessAnswers ∧ ∀ j, (r.session? j).isSome = (u.session? j).isSome := by
  have heq := writeOf_ok (s := s.quiet) h ho h0 h1 hq he rfl hm
  obtain ⟨ht, -, -⟩ := h
  have hx : u.session? rq.session = some { x with lastAt := s.now } := by
    rw [State.session?, hm]
    exact TakenUp.session ht.quiet
  obtain ⟨-, -, hr, -⟩ := ht
  unfold run
  rw [heq]
  generalize writeRec (s.quiet.heard rq.session) (writeReq rq index sub el v) x o _ = rec
  refine ⟨_, rfl, ⟨respOf 2 (writeReq rq index sub el v) {}, ?_, rfl, rfl, rfl⟩, (State.answered_lessAnswers ..).trans (State.audit_lessAnswers ..), fun j => ?_⟩
  · rw [State.answered_out _ 2 _ _ { x with lastAt := s.now } ((State.audit_reads ..).2.2.2.2.2.2.1 _ |>.trans hx) hr]
    simp
  · rw [State.answered_open]
    simp

/-- A session that is open is closed, and what it did not have stays (14 R355). -/
theorem State.closeSess_closes {s r : State} (hless : r.lessAnswers = s.lessAnswers) {id : Nat} (h : (r.session? id).isSome = true) (c : Nat) :
    (r.closeSess id c).session? id = none ∧ (id ≠ 0 → ∀ h, ((r.closeSess id c).hop h).owner ≠ id) ∧
    (∀ f ∈ (r.closeSess id c).mgmt.flight, f.session ≠ id) ∧ (∀ f ∈ (r.closeSess id c).mgmt.transfers, f.session ≠ id) ∧
    (r.closeSess id c).persist = s.persist ∧ (r.closeSess id c).lanes = s.lanes ∧ (r.closeSess id c).fab = s.fab ∧
    (r.closeSess id c).sealing = s.sealing ∧ (r.closeSess id c).lease = s.lease := by
  obtain ⟨hgone, hhop, hflight, htrans⟩ := State.closeSess_closed h c
  have hframe : (r.closeSess id c).persist = r.persist ∧ (r.closeSess id c).lanes = r.lanes ∧ (r.closeSess id c).fab = r.fab ∧
      (r.closeSess id c).sealing = r.sealing ∧ (r.closeSess id c).lease = r.lease := by simp
  obtain ⟨hp, hl, hf, hs, he⟩ := hframe
  exact ⟨hgone, hhop, hflight, htrans, hp.trans (congrArg State.persist hless :), hl.trans (congrArg State.lanes hless :),
    hf.trans (congrArg State.fab hless :), hs.trans (congrArg State.sealing hless :), he.trans (congrArg State.lease hless :)⟩

theorem State.closeSess_out (s : State) (id c : Nat) : (s.closeSess id c).out = s.out := by simp

theorem Answered.of_out {op status : Nat} {q : Req} {t u : State} (h : Answered op q status t) (ho : u.out = t.out) : Answered op q status u := by
  obtain ⟨r, hr, h⟩ := h
  exact ⟨r, ho ▸ hr, h⟩

/-- A write of an address or a port closes every session after its answer (14 R348). -/
theorem run_address {s : State} {rq : Rq} {sub : Nat} {v : Bytes} {x : Session} {o : Obj} (h : Writes rq 0x9100 sub 0 v x s)
    (ho : findObj 0x9100 sub = some o) (h0 : sub ≠ 0) (h1 : sub ≠ 0xFE) (hsub : sub < 256) (hv : o.split v ≠ []) :
    ∃ t, run (writeOf rq 0x9100 sub 0 v (effAddress sub)) s = .next t ∧ Answered 2 (writeReq rq 0x9100 sub 0 v) 0 t ∧
      t.val 0x9100 sub 0 = o.split v ∧ SetsOnly 0x9100 sub 0 s t ∧ t.mgmt.sessions = [] ∧ t.lanes = s.lanes ∧ t.fab = s.fab ∧
      t.sealing = s.sealing := by
  obtain ⟨m, hm⟩ := s.quiet_heard rq.session
  obtain ⟨r, hrun, hans, hless, -⟩ := run_writeOf_then (eff := effAddress sub) h ho h0 h1 (by simp) rfl rfl
  have hframe : (r.closeAll 6).out = r.out ∧ (r.closeAll 6).persist = r.persist ∧ (r.closeAll 6).lanes = r.lanes ∧ (r.closeAll 6).fab = r.fab ∧
      (r.closeAll 6).sealing = r.sealing := by simp
  obtain ⟨hout, hp, hl, hf, hs⟩ := hframe
  have hset : (s.fixed (r.closeAll 6)).persist = (s.setStaged 0x9100 sub 0 (o.split v)).persist := by
    rw [hm] at hless
    exact hp.trans (congrArg State.persist hless :)
  obtain ⟨hval, honly⟩ := State.val_of_stored hv (ssmOption_ne (by decide) hsub (by decide)) hset
  have hrest : r.lessAnswers.lessSettings = s.lessAnswers.lessSettings := by
    rw [hm] at hless
    exact (congrArg State.lessSettings hless :)
  exact ⟨_, hrun, hans.of_out hout, hval, honly, r.closeAll_sessions 6, hl.trans (congrArg State.lanes hrest :), hf.trans (congrArg State.fab hrest :),
    hs.trans (congrArg State.sealing hrest :)⟩

/-- A request that is taken up closes no session (14 R355). -/
theorem TakenUp.heard_open {op : Nat} {q : Req} {x : Session} {s : State} (h : TakenUp op q x s) (j : Nat) :
    ((s.quiet.heard q.session).session? j).isSome = (s.session? j).isSome := by
  obtain ⟨-, hx, hr, -⟩ := h
  rw [State.heard, State.session_mod s.quiet q.session j _ x hx fun hc => hr (congrArg Session.role hc)]
  split
  next hj =>
    rw [hj, hx]
    rfl
  · rfl

/-- A write of 9130:03 that passes its checks names an open session (14 R364). -/
theorem Writes.session_open {rq : Rq} {target : Nat} {v : Bytes} {x : Session} {s : State} (h : Writes rq 0x9130 3 target v x s) :
    (s.session? target).isSome = true := by
  have hcheck := h.check rfl (by decide) (by decide)
  obtain ⟨-, helem, -⟩ := State.writeCheck_ok hcheck
  have hsession : s.elemOf ((findObj 0x9130 3).get rfl) target = none := helem
  unfold State.elemOf at hsession
  simp only [show ((findObj 0x9130 3).get rfl).elems = .session from rfl] at hsession
  split at hsession
  · exact absurd hsession (by simp)
  · split at hsession
    next h => exact h
    · exact absurd hsession (by simp)

/-- Settles O50: a SECURE message has the one verdict that its checks leave, and every close takes what its session had. -/
theorem sessionsServeAndClose : Obligations.SessionsServeAndClose := fun s => by
  refine ⟨fun h src x hs hh hx ha hp hr h1 h2 => ⟨fun ho hf hn => ⟨_, rfl, ?_⟩, fun ho hf => ⟨_, rfl, ?_⟩, fun ho => ⟨_, rfl, ?_⟩,
    fun ok ho => ⟨_, rfl, ?_⟩⟩, fun q x h => ?_, fun id tag => ⟨_, rfl, rfl⟩, ⟨fun q x h => ?_, fun rq target arg x h => ?_, fun id x hx ho => ?_⟩,
    fun rq v x o h ho => ?_, fun rq n x hn h => ?_⟩
  · obtain ⟨hsess, hrest⟩ := secureMsg_accepted (s := s.quiet) hs hh hx ha hp hr h1 h2 ho hf hn
    refine ⟨(hsess _).trans (if_pos rfl), fun j hj => (hsess j).trans (if_neg hj), ?_, Session.accept_not_fresh hf⟩
    exact (congrArg (fun w : State => { s.fixed w with mgmt.cipher0 := s.mgmt.cipher0, mgmt.cipher1 := s.mgmt.cipher1, mgmt.cipherNext := s.mgmt.cipherNext }) hrest :)
  · obtain ⟨hrest, hctr⟩ := secureMsg_counted (s := s.quiet) hs hh hx ha hp ho (i := 3) rfl fun _ => hf
    exact ⟨(congrArg (fun w : State => { s.fixed w with mgmt.cipher0 := s.mgmt.cipher0, mgmt.cipher1 := s.mgmt.cipher1, mgmt.cipherNext := s.mgmt.cipherNext }) hrest :), hctr⟩
  · obtain ⟨hrest, hctr⟩ := secureMsg_counted (s := s.quiet) hs hh hx ha hp ho (i := 2) rfl (by simp)
    exact ⟨(congrArg (fun w : State => { s.fixed w with mgmt.cipher0 := s.mgmt.cipher0, mgmt.cipher1 := s.mgmt.cipher1, mgmt.cipherNext := s.mgmt.cipherNext }) hrest :), hctr⟩
  · rw [secureMsg_mistaken (s := s.quiet) hs hh hx ha hp ho]
    rfl
  · obtain ⟨t, hrun, hans, hless⟩ := run_request_done h (by decide) (by simp [makerOwn]) (body := fun _ s => ok s) rfl rfl
    exact ⟨_, hrun, hans, (congrArg s.fixed (hless.trans (s.quiet.heard_lessAnswers _)) :)⟩
  · have hrun := run_request_answered h (by simp [makerOwn]) (body := fun _ s => .done s {} fun s => s.closeSess q.session 1) rfl
    have hopen : (((s.quiet.heard q.session).answered 0x21 q {}).session? q.session).isSome = true := by
      rw [State.answered_open, TakenUp.session h.quiet]
      rfl
    exact ⟨_, hrun, (State.answered_answers h (by decide) {}).of_out (State.closeSess_out ..),
      State.closeSess_closes ((State.answered_lessAnswers ..).trans (s.quiet.heard_lessAnswers _)) hopen 1⟩
  · have hopen : (s.session? target).isSome = true := h.session_open
    obtain ⟨r, hrun, hans, hless, hall⟩ := run_writeOf_then (eff := effCloseSession target) h rfl (by decide) (by decide) (by decide) rfl rfl
    have hropen : (r.session? target).isSome = true :=
      (hall target).trans ((h.1.heard_open target).trans hopen)
    exact ⟨_, hrun, hans.of_out (State.closeSess_out ..), State.closeSess_closes (hless.trans (s.quiet.heard_lessAnswers _)) hropen 3⟩
  · refine ⟨_, rfl, ?_⟩
    have heq : idleEnd id s.quiet = s.quiet.closeSess id 2 := by
      unfold idleEnd
      rw [show s.quiet.session? id = some x from hx]
      exact if_pos ho
    rw [heq]
    exact State.closeSess_closes (s := s) (r := s.quiet) rfl (by rw [show s.quiet.session? id = some x from hx]; rfl) 2
  · exact run_address h ho (by decide) (by decide) (by decide) (by
      obtain rfl := Option.some.inj ho
      exact List.cons_ne_nil _ _)
  · have hsplit : (Obj.split ((findObj 0x9100 2).get rfl) (beBytes 2 n)) = [n] := by
      have hread := splitFields_joinFields (ns := [2]) (vs := [n]) (by simpa using hn)
      rwa [joinFields, joinFields, List.append_nil] at hread
    obtain ⟨t, hrun, hans, hval, hrest⟩ := run_address h (o := (findObj 0x9100 2).get rfl) rfl (by decide) (by decide) (by decide)
      (by rw [hsplit]; exact List.cons_ne_nil _ _)
    exact ⟨t, hrun, hans, by rw [State.cfg, hval, hsplit]; rfl, hrest⟩

end Sys2Proof.Machine
end

section
/-! PROOFS. Frames and datagrams are forwarded (14 R346 to R349). -/

namespace Sys2Proof.Machine

/-! The switch (14 R346, R347). -/

/-- All but what the switch learns, counts and sends. -/
def State.lessSwitch (s : State) : State := { s with mgmt.macs := [], cnt := [], out := [] }

/-- All but the counters and what is sent. -/
def State.lessReply (s : State) : State := { s with cnt := [], out := [] }

/-- All but the counters and the lanes. -/
def State.lessTraffic (s : State) : State := { s with cnt := [], lanes := [] }

theorem State.count_lessSwitch (s : State) (i b f e : Nat) : (s.count i b f e).lessSwitch = s.lessSwitch := rfl
theorem State.emit_lessSwitch (s : State) (o : Output) : (s.emit o).lessSwitch = s.lessSwitch := rfl
theorem State.flushMacs_lessSwitch (s : State) : s.flushMacs.lessSwitch = s.lessSwitch := rfl

/-- A frame goes out of each of some ports (14 R346). -/
def State.sendFrames (s : State) (ps : List Nat) (f : EthFrame) : State := s.each ps fun q s => (s.count 0x9100 6 2 q).emit (.frame q f)

theorem State.sendFrames_spec (s : State) (ps : List Nat) (f : EthFrame) :
    (s.sendFrames ps f).lessSwitch = s.lessSwitch ∧ (s.sendFrames ps f).mgmt.macs = s.mgmt.macs ∧
    (s.sendFrames ps f).out = s.out ++ ps.map fun q => .frame q f := by
  have hone (q : Nat) (w : State) : ((w.count 0x9100 6 2 q).emit (.frame q f)).lessSwitch = w.lessSwitch := rfl
  have hmacs (q : Nat) (w : State) : ((w.count 0x9100 6 2 q).emit (.frame q f)).mgmt.macs = w.mgmt.macs := rfl
  refine ⟨State.each_keep State.lessSwitch _ _ hone s, State.each_keep (fun w => w.mgmt.macs) _ _ hmacs s, ?_⟩
  unfold State.sendFrames State.each
  induction ps generalizing s with
  | nil => simp
  | cons q ps ih =>
    rw [List.foldl_cons, ih]
    simp [State.emit]

theorem State.learn_lessSwitch (s : State) (mac p : Nat) : (s.learn mac p).lessSwitch = s.lessSwitch := by
  simp only [State.learn]
  split <;> rfl

/-- A source address is learned where the table has room (14 R346). -/
theorem State.learn_mem {s : State} {mac : Nat} (hb : bit mac 40 = false) (h : s.mgmt.macs.length < 1024) (p : Nat) :
    (mac, p, s.now) ∈ (s.learn mac p).mgmt.macs := by
  simp only [State.learn]
  rw [if_neg (by simp [hb, h])]
  simp

/-- What is learned of another address does not change (14 R346). -/
theorem State.learn_find (s : State) {mac dst : Nat} (h : dst ≠ mac) (p : Nat) :
    (s.learn mac p).mgmt.macs.find? (fun e => e.1 == dst) = s.mgmt.macs.find? fun e => e.1 == dst := by
  simp only [State.learn]
  split
  · rfl
  · have hmac : (mac == dst) = false := by simpa using fun hc => h hc.symm
    rw [List.find?_append, List.find?_filter]
    simp only [List.find?_cons, hmac, List.find?_nil, Option.or_none]
    refine congrArg (fun p => s.mgmt.macs.find? p) (funext fun e => ?_)
    by_cases he : e.1 = dst <;> simp [he, h]

/-- The ports that a frame goes to where no ring is kept open (14 R346). -/
theorem State.switchPorts_eq {s : State} (hm : s.ringMaster = false) (p : Nat) (f : EthFrame) : s.switchPorts p f =
    (if bit f.dst 40 then [0, 1, 2]
     else if f.dst = Config.macAddress then [2]
     else match s.mgmt.macs.find? fun e => e.1 == f.dst with
       | some e => [e.2.1]
       | none => [0, 1, 2]).filter fun q => q != p && s.linkUp q := by
  have hblocked : s.ringBlocked = false := Bool.and_eq_false_iff.mpr (.inl hm)
  simp only [State.switchPorts, hblocked, Bool.and_false, Bool.false_and, Bool.not_false, Bool.and_true] <;> rfl

section

variable {s : State} {p : Fin 2} {f : EthFrame} (hs : s.power.supRail = true) (hl : s.linkUp p = true)
include hs hl

theorem switchFrame_passed (hm : s.ringMaster = false) (hq : f.queueFull = false) (hlen : f.length ≤ 1522) :
    switchFrame p f s = ((s.count 0x9100 6 1 p).learn f.src p).sendFrames (((s.count 0x9100 6 1 p).learn f.src p).switchPorts p f) f := by
  have hlearn : ((s.count 0x9100 6 1 p).learn f.src p).ringMaster = false :=
    (congrArg State.ringMaster ((s.count 0x9100 6 1 p).learn_lessSwitch f.src p) :).trans hm
  have hblocked : (s.count 0x9100 6 1 p).ringBlocked = false := Bool.and_eq_false_iff.mpr (.inl hm)
  unfold switchFrame
  rw [if_neg (by simp [hs, hl])]
  dsimp only
  rw [if_neg (by simp [hq, hlen, hblocked])]
  simp only [hlearn, Bool.and_false, Bool.false_and, Bool.false_eq_true, if_false]
  rfl

theorem switchFrame_dropped (h : f.queueFull = true ∨ 1522 < f.length) : switchFrame p f s = (s.count 0x9100 6 1 p).count 0x9100 6 3 p := by
  unfold switchFrame
  rw [if_neg (by simp [hs, hl])]
  dsimp only
  rw [if_pos (by rcases h with h | h <;> simp [h])]

end

/-- A frame that is let through is learned from and goes on; nothing else changes (14 R346). -/
theorem mgtFrame_passed {s : State} {p : Fin 2} {f : EthFrame} (hs : s.power.supRail = true) (hl : s.linkUp p = true) (hm : s.ringMaster = false)
    (hq : f.queueFull = false) (hlen : f.length ≤ 1522) :
    (switchFrame p f s).lessSwitch = s.lessSwitch ∧
    (bit f.src 40 = false → s.mgmt.macs.length < 1024 → (f.src, (p : Nat), s.now) ∈ (switchFrame p f s).mgmt.macs) ∧
    ∃ w : State, w.lessSwitch = s.lessSwitch ∧
      (f.dst ≠ f.src → w.mgmt.macs.find? (fun e => e.1 == f.dst) = s.mgmt.macs.find? fun e => e.1 == f.dst) ∧
      (switchFrame p f s).out = s.out ++ (w.switchPorts p f).map fun q => .frame q f := by
  rw [switchFrame_passed hs hl hm hq hlen]
  have hless : ((s.count 0x9100 6 1 p).learn f.src p).lessSwitch = s.lessSwitch := (State.learn_lessSwitch ..).trans rfl
  have hout : ((s.count 0x9100 6 1 p).learn f.src p).out = s.out := by
    simp only [State.learn]
    split <;> rfl
  have hmem := fun hb hn => State.learn_mem (s := s.count 0x9100 6 1 p) (mac := f.src) hb hn p
  have hfind := fun hne => (s.count 0x9100 6 1 p).learn_find (mac := f.src) (dst := f.dst) hne p
  generalize (s.count 0x9100 6 1 p).learn f.src p = w at *
  obtain ⟨hsent, hmacs, hsentOut⟩ := w.sendFrames_spec (w.switchPorts p f) f
  exact ⟨hsent.trans hless, fun hb hn => hmacs ▸ hmem hb hn, w, hless, hfind, hsentOut.trans (by rw [hout])⟩

/-! Datagrams (14 R348, R349). -/

theorem State.own_spec {s : State} {d : Bytes} :
    (s.icmpAnswer d = none → s.own none d = s.emit (.handled d)) ∧
    ∀ a, s.icmpAnswer d = some a → s.own none d = ((s.emit (.handled d)).count 0x9100 6 1 2).emit (.toManagement a false) := by
  have hans : (s.emit (.handled d)).icmpAnswer d = s.icmpAnswer d := rfl
  unfold State.own
  dsimp only
  rw [hans]
  exact ⟨fun h => by rw [h], fun a h => by rw [h]⟩

/-- A datagram for another address with a route goes out of its lane, or is dropped where its hop limit is spent (14 R349). -/
theorem State.datagram_routed {s : State} {l : Nat} {m : LaneId} {d : Bytes} (hd : 40 ≤ d.length) (h44 : field d 6 1 ≠ 44)
    (ho : s.ownAddr (field d 24 16) = false) (hr : s.route (field d 24 16) = some (m : Nat)) :
    s.datagram (some l) d =
      if field d 7 1 ≤ 1 then s.count 0x9110 2 4 l else s.toLane (some l) m (d.set 7 (BitVec.ofNat 8 (field d 7 1 - 1))) := by
  unfold State.datagram
  dsimp only
  rw [if_neg (by omega), if_neg (by simp [ho]), hr]
  by_cases hspent : field d 7 1 ≤ 1
  · simp only [hspent, decide_true, if_true]
    rfl
  · simp only [hspent, decide_false, Bool.false_eq_true, if_false]

theorem State.toLane_taken {s : State} {l : Nat} {m : LaneId} {b : Bytes} (hb : s.inBand m = true) (h9 : (s.lane m).bring.stage = 9)
    (hr : (s.lane m).dataRoom b.length = true) :
    s.toLane (some l) m b =
      ((s.modLane m fun x => { x with ch := { x.ch with dataTx := x.ch.dataTx ++ [1 :: b] } }).count 0x9110 2 2 m).count 0x9110 2 3 l := by
  unfold State.toLane
  dsimp only
  rw [if_neg (by simp [hb, h9, hr])]

theorem State.datagram_own {s : State} {origin : Option Nat} {d : Bytes} (hd : 40 ≤ d.length) (h44 : field d 6 1 ≠ 44)
    (ho : s.ownAddr (field d 24 16) = true) : s.datagram origin d = s.own origin d := by
  unfold State.datagram
  dsimp only
  rw [if_neg (by omega), if_pos ho]

/-- A flush frame goes out of both ports where both have a link (14 R347). -/
theorem State.flushBoth {s : State} (h0 : s.linkUp 0 = true) (h1 : s.linkUp 1 = true) :
    (s.switchSend 0 (.flush 0)).switchSend 1 (.flush 1) = (((s.count 0x9100 6 2 0).emit (.flush 0)).count 0x9100 6 2 1).emit (.flush 1) := by
  have hfirst : s.switchSend 0 (.flush 0) = (s.count 0x9100 6 2 0).emit (.flush 0) := if_pos h0
  rw [hfirst]
  exact if_pos h1

theorem State.flushed_lessSwitch (s : State) :
    ((((s.count 0x9100 6 2 0).emit (.flush 0)).count 0x9100 6 2 1).emit (.flush 1)).lessSwitch = s.lessSwitch := by
  rw [State.emit_lessSwitch, State.count_lessSwitch, State.emit_lessSwitch, State.count_lessSwitch]

theorem State.ringFlush_both {s : State} (h0 : s.linkUp 0 = true) (h1 : s.linkUp 1 = true) :
    s.ringFlush = (((s.flushMacs.count 0x9100 6 2 0).emit (.flush 0)).count 0x9100 6 2 1).emit (.flush 1) :=
  State.flushBoth (s := s.flushMacs) h0 h1

theorem frame_mem {f : EthFrame} {ps : List Nat} {k : Nat} : Output.frame k f ∈ ps.map (fun q => .frame q f) ↔ k ∈ ps := by
  simp

theorem ringTimer_eq {s : State} (hs : s.power.supRail = true) (hm : s.ringMaster = true) (hover : s.over s.mgmt.checkSent 10000000 = true)
    (hl : s.linkUp 0 = true) : ringTimer s = ({ s with mgmt.checkSent := s.now }.count 0x9100 6 2 0).emit (.ringCheck 0) := by
  unfold ringTimer
  rw [hs, hm, show s.over s.mgmt.checkSent (msecs 10) = true from hover]
  exact if_pos hl

theorem openRing_eq {s : State} (hs : s.power.supRail = true) (hm : s.ringMaster = true) (hopen : s.mgmt.ringOpen = false)
    (hat : s.over s.mgmt.checkAt 30000000 = true) (hstart : s.over s.power.startAt 30000000 = true) (hl0 : s.linkUp 0 = true)
    (hl1 : s.linkUp 1 = true) : openRing s =
      ((({ s with mgmt.ringOpen := true }.flushMacs.count 0x9100 6 2 0).emit (.flush 0)).count 0x9100 6 2 1).emit (.flush 1) := by
  have hlate : s.over (max s.mgmt.checkAt s.power.startAt) (msecs 30) = true := by
    rcases max_choice s.mgmt.checkAt s.power.startAt with h | h <;> rw [h]
    · exact hat
    · exact hstart
  unfold openRing State.ringBlocked
  rw [hs, hm, hopen, hlate]
  exact State.ringFlush_both hl0 hl1

theorem closeRing_eq {s : State} (hs : s.power.supRail = true) (hm : s.ringMaster = true) (hopen : s.mgmt.ringOpen = true)
    (hfrom : s.over s.mgmt.checkFrom 1000000000 = true) (hat : s.over s.mgmt.checkAt 20000000 = false) (hl0 : s.linkUp 0 = true)
    (hl1 : s.linkUp 1 = true) : closeRing s =
      ((({ s with mgmt.ringOpen := false }.count 0x9100 6 2 0).emit (.flush 0)).count 0x9100 6 2 1).emit (.flush 1) := by
  unfold closeRing
  rw [hs, hm, hopen, show s.over s.mgmt.checkFrom (secs 1) = true from hfrom, show s.over s.mgmt.checkAt (msecs 20) = false from hat]
  exact State.flushBoth hl0 hl1

theorem flushSeen_eq {s : State} {p : Fin 2} (hs : s.power.supRail = true) (hl : s.linkUp p = true) (hl1 : s.linkUp (1 - (p : Nat)) = true)
    (hb : s.ringBlocked = false) : flushSeen p s =
      ((s.count 0x9100 6 1 p).flushMacs.count 0x9100 6 2 (1 - (p : Nat))).emit (.flush (1 - (p : Nat))) := by
  have hblocked : (s.count 0x9100 6 1 p).flushMacs.ringBlocked = false := hb
  unfold flushSeen
  rw [hs, hl]
  dsimp only
  rw [hblocked]
  exact if_pos hl1

theorem routerKey_ne {f f' : Nat} (h : f ≠ f') (l m : LaneId) : ctrKey 0x9110 2 f l ≠ ctrKey 0x9110 2 f' m := by
  unfold ctrKey
  omega

/-- What a datagram that goes on changes: it leaves by its lane, and is counted (14 R349). -/
def State.sendOn (s : State) (l m : Nat) (b : Bytes) : State :=
  (((s.count 0x9110 2 1 l).modLane m fun x => { x with ch := { x.ch with dataTx := x.ch.dataTx ++ [b] } }).count 0x9110 2 2 m).count 0x9110 2 3 l

theorem State.sendOn_lessTraffic (s : State) (l m : Nat) (b : Bytes) : (s.sendOn l m b).lessTraffic = s.lessTraffic := by
  have hcount (w : State) (i b f e : Nat) : (w.count i b f e).lessTraffic = w.lessTraffic := rfl
  have hmod (w : State) (g : Lane → Lane) : (w.modLane m g).lessTraffic = w.lessTraffic := rfl
  unfold State.sendOn
  rw [hcount, hcount, hmod, hcount]

theorem State.sendOn_lane (s : State) (l m k : Nat) (b : Bytes) : (s.sendOn l m b).lane k =
    if k = m then { s.lane m with ch := { (s.lane m).ch with dataTx := (s.lane m).ch.dataTx ++ [b] } } else s.lane k := by
  have hcount (w : State) (i b f e : Nat) : (w.count i b f e).lane = w.lane := rfl
  unfold State.sendOn
  rw [hcount, hcount, State.lane_modLane, hcount]

theorem State.sendOn_ctr (s : State) (l m : LaneId) (b : Bytes) :
    (s.sendOn l m b).ctr 0x9110 2 3 l = (s.ctr 0x9110 2 3 l + 1) % 4294967296 := by
  unfold State.sendOn
  rw [State.ctr_count, State.ctr_count_of_ne (routerKey_ne (by decide) l m)]
  exact congrArg (fun n => (n + 1) % 4294967296) (State.ctr_count_of_ne (routerKey_ne (by decide) l l) s)

theorem laneDatagram_eq {s : State} {l : Nat} (hl : s.inBand l = true) (hup : s.sup.up = true) (d : Bytes) :
    s.laneDatagram l d = (s.count 0x9110 2 1 l).datagram (some l) d := by
  unfold State.laneDatagram
  rw [hl, hup]
  rfl

theorem laneDatagram_sent {s : State} {l m : LaneId} {d : Bytes} (hup : s.sup.up = true) (hl : s.inBand l = true) (hd : 40 ≤ d.length)
    (h44 : field d 6 1 ≠ 44) (ho : s.ownAddr (field d 24 16) = false) (hr : s.route (field d 24 16) = some (m : Nat)) (hhop : 1 < field d 7 1)
    (hm : s.inBand m = true) (h9 : (s.lane m).bring.stage = 9) (hroom : (s.lane m).dataRoom d.length = true) :
    s.laneDatagram l d = s.sendOn l m (1 :: d.set 7 (BitVec.ofNat 8 (field d 7 1 - 1))) := by
  have hroom' : ((s.count 0x9110 2 1 l).lane m).dataRoom (d.set 7 (BitVec.ofNat 8 (field d 7 1 - 1))).length = true := by
    rw [List.length_set]
    exact hroom
  rw [laneDatagram_eq hl hup, State.datagram_routed (s := s.count 0x9110 2 1 l) hd h44 ho hr, if_neg (Nat.not_le.mpr hhop), 
    State.toLane_taken (s := s.count 0x9110 2 1 l) hm h9 hroom']
  rfl

theorem laneDatagram_spent {s : State} {l m : LaneId} {d : Bytes} (hup : s.sup.up = true) (hl : s.inBand l = true) (hd : 40 ≤ d.length)
    (h44 : field d 6 1 ≠ 44) (ho : s.ownAddr (field d 24 16) = false) (hr : s.route (field d 24 16) = some (m : Nat)) (hhop : field d 7 1 ≤ 1) :
    s.laneDatagram l d = (s.count 0x9110 2 1 l).count 0x9110 2 4 l := by
  rw [laneDatagram_eq hl hup, State.datagram_routed (s := s.count 0x9110 2 1 l) hd h44 ho hr, if_pos hhop]

theorem State.own_silent {s : State} {d : Bytes} (h : s.icmpAnswer d = none) (hout : s.out = []) :
    s.own none d = { s with out := [.handled d] } := by
  rw [State.own_spec.1 h]
  simp [State.emit, hout]

theorem State.own_answers {s : State} {d a : Bytes} (h : s.icmpAnswer d = some a) (hout : s.out = []) :
    (s.own none d).out = [.handled d, .toManagement a false] ∧ (s.own none d).lessReply = s.lessReply ∧
    (s.own none d).ctr 0x9100 6 1 2 = (s.ctr 0x9100 6 1 2 + 1) % 4294967296 := by
  rw [State.own_spec.2 a h]
  have hcount (w : State) : (w.count 0x9100 6 1 2).lessReply = w.lessReply := rfl
  have hemit (w : State) (o : Output) : (w.emit o).lessReply = w.lessReply := rfl
  refine ⟨?_, by rw [hemit, hcount, hemit], State.ctr_count ..⟩
  simp [State.emit, State.count, State.countN, hout]

theorem State.count_keeps (s : State) (i b f e : Nat) : { s.count i b f e with cnt := s.cnt } = s := rfl

theorem State.datagram_drop (s : State) (l : LaneId) :
    { (s.count 0x9110 2 1 l).count 0x9110 2 4 l with cnt := s.cnt } = s ∧
    ((s.count 0x9110 2 1 l).count 0x9110 2 4 l).ctr 0x9110 2 4 l = (s.ctr 0x9110 2 4 l + 1) % 4294967296 := by
  refine ⟨?_, (State.ctr_count ..).trans ?_⟩
  · exact ((congrArg (fun w : State => { w with cnt := s.cnt }) ((s.count 0x9110 2 1 l).count_keeps 0x9110 2 4 l) :).trans (s.count_keeps 0x9110 2 1 l))
  rw [State.ctr_count_of_ne (routerKey_ne (by decide) l l)]

/-- A datagram of the module's own that comes by the management side (14 R348). -/
theorem ipv6Management_eq {s : State} {d : Bytes} (hup : s.sup.up = true) (hd : 40 ≤ d.length) (h44 : field d 6 1 ≠ 44)
    (ho : s.ownAddr (field d 24 16) = true) :
    exec (.ipv6Datagram .management d) s = .next (s.fixed (s.quiet.own none d)) := by
  have heq : (if s.quiet.sup.up || (s.quiet.serves && s.quiet.ownAddr (field d 24 16)) then s.quiet.datagram none d else s.quiet) = s.quiet.own none d := by
    rw [show s.quiet.sup.up = true from hup]
    exact State.datagram_own hd h44 ho
  exact congrArg (fun w => Host.Outcome.next (s.fixed w)) heq

/-- Settles O51: what the switch and the router do with each frame and datagram that their checks let through. -/
theorem framesAndDatagramsAreForwarded : Obligations.FramesAndDatagramsAreForwarded := fun s => by
  refine ⟨fun p f hs hl hm => ⟨fun hq hlen => ⟨_, rfl, ?_⟩, fun h => ⟨_, rfl, ?_⟩⟩, fun hs hm hover hl => ⟨_, rfl, ?_⟩,
    fun hs hm hopen hat hstart hl0 hl1 => ⟨_, rfl, ?_⟩, fun hs hm hopen hfrom hat hl0 hl1 => ⟨_, rfl, ?_⟩, fun p hs hl hl1 hb => ⟨_, rfl, ?_⟩,
    fun mac => ⟨_, rfl, rfl⟩, fun p up hs => ⟨_, rfl, ?_⟩,
    fun d hup hd h44 hown => ⟨fun h => ⟨_, ipv6Management_eq hup hd h44 hown, ?_⟩, fun a h => ⟨_, ipv6Management_eq hup hd h44 hown, ?_⟩⟩,
    fun d l m hup hl hd h44 hown hroute => ⟨fun hhop hm h9 hroom => ⟨_, rfl, ?_⟩, fun hhop => ⟨_, rfl, ?_⟩⟩⟩
  · obtain ⟨hless, hmem, w, hw, hfind, hout⟩ := mgtFrame_passed (s := s.quiet) (p := p) (f := f) hs hl hm hq hlen
    have hports := State.switchPorts_eq (s := w) ((congrArg State.ringMaster hw :).trans hm) p f
    have hlink (q : Nat) : w.linkUp q = s.linkUp q := (congrArg (fun w : State => w.linkUp q) hw :)
    simp only [hlink] at hports
    generalize switchFrame p f s.quiet = t at *
    refine ⟨(congrArg s.fixed (congrArg (fun w : State => { w with mgmt.macs := s.mgmt.macs, cnt := s.cnt }) hless) :), hmem, fun hb k => ?_,
      fun hb hd => ?_, fun e hb hd hne hf k => ?_⟩
    · rw [if_pos hb] at hports
      rw [show (s.fixed t).out = _ from hout, hports]
      refine frame_mem.trans ?_
      simp only [List.mem_filter, List.mem_cons, List.not_mem_nil, or_false, Bool.and_eq_true, bne_iff_ne]
      exact and_congr_left' (by omega)
    · rw [if_neg (by simp [hb]), if_pos hd] at hports
      refine hout.trans ?_
      rw [hports]
      have hp : (2 != (p : Nat) && s.linkUp 2) = true := by
        fin_cases p <;> rfl
      simp only [List.filter_cons, hp, if_true, List.filter_nil, List.map_cons, List.map_nil]
      rfl
    · rw [if_neg (by simp [hb]), if_neg hd, hfind hne, show s.quiet.mgmt.macs.find? (fun e => e.1 == f.dst) = some e from hf] at hports
      rw [show (s.fixed t).out = _ from hout, hports]
      refine frame_mem.trans ?_
      simp only [List.mem_filter, List.mem_cons, List.not_mem_nil, or_false, Bool.and_eq_true, bne_iff_ne]
  · rw [switchFrame_dropped (s := s.quiet) hs hl h]
    refine ⟨rfl, (State.ctr_count ..).trans ?_⟩
    rw [State.ctr_count_of_ne (by simp [ctrKey])]
    rfl
  · rw [ringTimer_eq (s := s.quiet) hs hm hover hl]
    exact ⟨rfl, rfl, rfl⟩
  · rw [openRing_eq (s := s.quiet) hs hm hopen hat hstart hl0 hl1]
    exact ⟨rfl, rfl, rfl, rfl⟩
  · rw [closeRing_eq (s := s.quiet) hs hm hopen hfrom hat hl0 hl1]
    refine ⟨rfl, rfl, ?_⟩
    exact (congrArg (fun w : State => { w with mgmt.ringOpen := s.mgmt.ringOpen, mgmt.macs := s.mgmt.macs, cnt := s.cnt })
      { s.quiet with mgmt.ringOpen := false }.flushed_lessSwitch :)
  · rw [flushSeen_eq (s := s.quiet) hs hl hl1 hb]
    refine ⟨rfl, rfl, ?_⟩
    have hless := ((s.quiet.count 0x9100 6 1 p).flushMacs.count 0x9100 6 2 (1 - (p : Nat))).emit_lessSwitch (.flush (1 - (p : Nat)))
    rw [State.count_lessSwitch, State.flushMacs_lessSwitch, State.count_lessSwitch] at hless
    exact (congrArg (fun w : State => { w with mgmt.macs := s.mgmt.macs, cnt := s.cnt }) hless :)
  · exact congrArg s.fixed (if_pos (c := s.quiet.power.supRail = true) hs)
  · exact congrArg s.fixed (State.own_silent (s := s.quiet) h rfl)
  · obtain ⟨hout, hless, hctr⟩ := State.own_answers (s := s.quiet) h rfl
    generalize s.quiet.own none d = t at *
    exact ⟨hout, (congrArg (fun w : State => { s.fixed w with cnt := s.cnt }) hless :), hctr⟩
  · dsimp only
    rw [laneDatagram_sent (s := s.quiet) hup hl hd h44 hown hroute hhop hm h9 hroom]
    generalize 1 :: d.set 7 (BitVec.ofNat 8 (field d 7 1 - 1)) = b
    have hless := s.quiet.sendOn_lessTraffic l m b
    have hlane := fun k => s.quiet.sendOn_lane l m k b
    have hctr := s.quiet.sendOn_ctr l m b
    generalize s.quiet.sendOn l m b = t at *
    refine ⟨(congrArg (fun w : State => { s.fixed w with cnt := s.cnt, lanes := s.lanes }) hless :), fun k hk => ?_, ?_, hctr⟩
    · exact (hlane k).trans (if_neg hk)
    · exact congrArg (fun x : Lane => x.ch.dataTx) ((hlane m).trans (if_pos rfl))
  · dsimp only
    rw [laneDatagram_spent (s := s.quiet) hup hl hd h44 hown hroute hhop]
    obtain ⟨hless, hctr⟩ := s.quiet.datagram_drop l
    generalize (s.quiet.count 0x9110 2 1 l).count 0x9110 2 4 l = t at *
    exact ⟨(congrArg s.fixed hless :), hctr⟩

end Sys2Proof.Machine
end

section
/-! PROOFS. How a request that is taken up is answered (14 R358, R364). -/

namespace Sys2Proof.Machine

/-- A maker's request of its own objects changes the free values alone (log entry 16). -/
theorem request_maker {op : Nat} {q : Req} {x : Session} {s : State} (h : TakenUp op q x s) (hm : makerOwn op q x = true)
    (body : Session → State → Act) : request op q body s =
      { s.heard q.session with fresh := s.fresh + 1 }.respond op q { status := Config.freeValue s.fresh % 16, value := Config.makerValue s.fresh } := by
  obtain ⟨h1, h2, hr, h3, h4, h5, h6, h7, h8, h9⟩ := h
  have hk : (s.heard q.session).keptFor op q = none := by
    unfold State.heard State.modSession; split <;> exact h4
  have hf : (s.heard q.session).mgmt.flight = s.mgmt.flight := by
    unfold State.heard State.modSession; split <;> rfl
  have hi : (s.heard q.session).inFlight q.session = s.inFlight q.session := by simp only [State.inFlight, hf]
  have hfresh : (s.heard q.session).fresh = s.fresh := by simp
  have hn : ¬ (32 ≤ s.inFlight q.session ∨ 512 ≤ s.mgmt.flight.length) := by omega
  unfold request
  rw [h1, h2]
  simp only
  rw [show (s.modSession q.session fun y => { y with lastAt := s.now }) = s.heard q.session from rfl]
  simp only [h3, Bool.not_true, Bool.false_eq_true, if_false, hk, hi, hf, hn, h7, hm, if_true, State.makerAct, State.free, id, hfresh]

theorem State.auditAccess_lessAnswers (s : State) (op : Nat) (q : Req) (x : Session) (a : Ans) :
    (s.auditAccess op q x a).lessAnswers = s.lessAnswers := by
  unfold State.auditAccess
  split
  · exact State.audit_lessAnswers ..
  · rfl

/-- An open session below its limits is sent the answer (14 R355, R358). -/
theorem State.respond_replied {op : Nat} {q : Req} {x : Session} {s w : State} (h : TakenUp op q x s)
    (hw : w.session? q.session = (s.quiet.heard q.session).session? q.session) (a : Ans) :
    Replied op q a (w.respond op q a) ∧ (w.respond op q a).lessAnswers = w.lessAnswers := by
  have hx := hw.trans (TakenUp.session h.quiet)
  obtain ⟨-, -, hr, -, -, -, -, -, hsend, hrecv⟩ := h
  rw [State.respond_eq w op q a _ hx hr hsend hrecv]
  refine ⟨?_, State.answered_lessAnswers ..⟩
  rw [Replied, State.answered_out w op q a _ hx hr]
  simp

section

variable {op : Nat} {q : Req} {x : Session} {s : State} (h : TakenUp op q x s) {body : Session → State → Act}
include h

theorem run_request_maker (hm : makerOwn op q x = true) : ∃ t a, run (request op q body) s = .next t ∧ Replied op q a t ∧
    { t.lessAnswers with fresh := s.fresh } = s.lessAnswers := by
  have heq := request_maker h.quiet hm body
  obtain ⟨hrep, hless⟩ := State.respond_replied (w := { s.quiet.heard q.session with fresh := s.fresh + 1 }) h rfl
    { status := Config.freeValue s.fresh % 16, value := Config.makerValue s.fresh }
  have hheard := congrArg (fun w : State => { s.fixed w with fresh := s.fresh }) (s.quiet.heard_lessAnswers q.session)
  unfold run
  rw [heq]
  generalize s.quiet.heard q.session = u at *
  exact ⟨_, _, rfl, hrep, ((congrArg (fun w : State => { s.fixed w with fresh := s.fresh }) hless :)).trans hheard⟩

theorem run_request_replied (hm : makerOwn op q x = false) {w : State} {a : Ans} (hb : body x (s.quiet.heard q.session) = .done w a id)
    (hw : w.session? q.session = (s.quiet.heard q.session).session? q.session) :
    ∃ t, run (request op q body) s = .next t ∧ Replied op q a t ∧ t.lessAnswers = (s.fixed w).lessAnswers := by
  have heq : request op q body s.quiet = w.respond op q a := by
    rw [request_up h.quiet hm, hb]
    rfl
  obtain ⟨hrep, hless⟩ := State.respond_replied (w := w) h hw a
  unfold run
  rw [heq]
  exact ⟨_, rfl, hrep, congrArg s.fixed hless⟩

theorem run_request_refused (hm : makerOwn op q x = false) {a : Ans} (hb : body x (s.quiet.heard q.session) = .refuse a) :
    ∃ t, run (request op q body) s = .next t ∧ Replied op q a t ∧ t.lessAnswers = s.lessAnswers := by
  have heq : request op q body s.quiet = ((s.quiet.heard q.session).auditAccess op q x a).respond op q a := by
    rw [request_up h.quiet hm, hb]
  obtain ⟨hrep, hless⟩ := State.respond_replied (w := (s.quiet.heard q.session).auditAccess op q x a) h
    ((State.auditAccess_reads ..).2.2.2.2.2.2.1 _) a
  unfold run
  rw [heq]
  refine ⟨_, rfl, hrep, State.fixed_lessAnswers ?_⟩
  rw [hless, State.auditAccess_lessAnswers, State.heard_lessAnswers]
  rfl

end

theorem objsAt_maker {index : Nat} (h : 0xF000 ≤ index) : objsAt (index / 4096) = [] := by
  have hn (k : Nat) (hk : k ≤ 10) : index / 4096 ≠ k := by omega
  simp [objsAt, hn]

/-- Every index with an object lies below the maker's range (14 Table 14-19). -/
theorem State.object?_below {s : State} {index sub : Nat} {o : Obj} (h : s.object? index sub = some o) : index < 0xF000 := by
  refine Nat.lt_of_not_le fun hc => ?_
  simp [State.object?, objsOfIndex, groupOf, findObj, objsAt_maker hc] at h

theorem makerOwn_object {s : State} {op : Nat} {q : Req} {o : Obj} (h : s.object? q.index q.sub = some o) (x : Session) :
    makerOwn op q x = false := by
  have := State.object?_below h
  simp only [makerOwn, decide_eq_false_iff_not]
  omega

/-- An object found is that of its index and subindex. -/
theorem findObj_key {index sub : Nat} {o : Obj} (h : findObj index sub = some o) : o.index = index ∧ o.sub = sub := by
  simpa using List.find?_some h

theorem State.object?_key {s : State} {index sub : Nat} {o : Obj} (h : s.object? index sub = some o) : o.index = index ∧ o.sub = sub := by
  unfold State.object? at h
  split at h
  · simp at h
  · split at h
    next h0 =>
      split at h
      · simp at h
      · cases h
        exact ⟨rfl, h0.symm⟩
    · split at h
      next h1 =>
        split at h
        · simp at h
        · cases h
          exact ⟨rfl, h1.symm⟩
      · exact findObj_key h

end Sys2Proof.Machine
end

section
/-! PROOFS. Describe returns the descriptor (14 R363). -/

namespace Sys2Proof.Machine

theorem State.heard_object? (s : State) (i index sub : Nat) : (s.heard i).object? index sub = s.object? index sub := by
  simp only [State.object?, State.heard_reachable]

theorem State.heard_sealElem (s : State) (i : Nat) (o : Obj) (el : Nat) : (s.heard i).sealElem o el = s.sealElem o el := by
  simp [State.sealElem]

/-- The descriptor of an object of the tables (14 Table 14-12). -/
theorem describeBytes_eq {o : Obj} (h0 : o.sub ≠ 0) (h1 : o.sub ≠ 0xFE) : describeBytes o =
    beBytes 1 o.ty ++ beBytes 1 o.access.code ++ beBytes 1 o.rights ++ [0] ++ beBytes 4 o.size ++ beBytes 4 (elemRange o.elems).1 ++
    beBytes 4 (elemRange o.elems).2 ++ str 32 o.name ++
    (if o.ty = 14 then beBytes 1 o.fields.length ++ o.fields.flatMap (fun f => beBytes 1 f.1 ++ beBytes 2 f.2) else [0]) := by
  rw [describeBytes, if_neg (by simp [h0, h1]), Obj.descriptor]
  by_cases ht : o.ty = 14
  · simp only [ht, if_true, List.append_assoc]
  · simp only [ht, if_false, List.append_assoc]
    rfl

section

variable {s : State} {q : Req} {x : Session} (h : TakenUp 6 q x s)
include h

theorem describe_replied {o : Obj} (ho : s.object? q.index q.sub = some o) (hs : s.sealElem o q.element = false) :
    ∃ t, exec (.describe q) s = .next t ∧ Replied 6 q { value := describeBytes o } t ∧ t.lessAnswers = s.lessAnswers := by
  have hobj : (s.quiet.heard q.session).object? q.index q.sub = some o := (State.heard_object? ..).trans ho
  have hseal : (s.quiet.heard q.session).sealElem o q.element = false := (State.heard_sealElem ..).trans hs
  obtain ⟨t, hrun, hrep, hless⟩ := run_request_replied (w := s.quiet.heard q.session) h (makerOwn_object ho x)
    (show describeObj q x (s.quiet.heard q.session) = .done _ { value := describeBytes o } id by simp only [describeObj, hobj, hseal, Bool.false_eq_true, if_false]) rfl
  exact ⟨t, hrun, hrep, hless.trans (congrArg s.fixed (s.quiet.heard_lessAnswers q.session))⟩

theorem describe_absent (hm : makerOwn 6 q x = false)
    (ha : ∀ o, s.object? q.index q.sub = some o → s.sealElem o q.element = true) :
    ∃ t, exec (.describe q) s = .next t ∧ Answered 6 q 5 t ∧ t.lessAnswers = s.lessAnswers := by
  refine run_request_absent h (by decide) hm ?_
  unfold describeObj
  rw [State.heard_object?, show s.quiet.object? q.index q.sub = s.object? q.index q.sub from rfl]
  split
  · rfl
  next o ho =>
    rw [State.heard_sealElem, if_pos]
    exact ha o ho

end

/-- Settles O52: DESCRIBE finds the object, or answers ABSENT, but of the maker's own objects, which answer a free value. -/
theorem describeReturnsTheDescriptor : Obligations.DescribeReturnsTheDescriptor := fun s q x h => by
  refine ⟨fun o ho hseal => ?_, fun ho hm => describe_absent h hm fun o hc => by simp [ho] at hc, fun hm => run_request_maker h hm,
    fun hi hsub he hord => ?_, fun hord hi => State.object?_of_sealingObj hord hi q.sub⟩
  · obtain ⟨hindex, hsub⟩ := State.object?_key ho
    have hs : s.sealElem o q.element = false := by
      simp only [State.sealElem, hindex, hsub]
      rcases hseal with hc | hc | hc | hc <;> simp [hc]
    obtain ⟨t, hrun, hrep, hless⟩ := describe_replied h ho hs
    exact ⟨t, hrun, hrep, hless, fun h0 h1 => describeBytes_eq (hsub ▸ h0) (hsub ▸ h1)⟩
  · refine describe_absent h (by simp [makerOwn, hi]) fun o ho => ?_
    obtain ⟨hindex, hsub'⟩ := State.object?_key ho
    simp [State.sealElem, hindex, hsub', hi, hsub, he, hord]

end Sys2Proof.Machine
end

section
/-! PROOFS. Reads, and the transfer of domains (14 R361, R364, R367 to R369). -/

namespace Sys2Proof.Machine

/-! What a read changes: the free values that it draws (log entry 6). -/

theorem State.measure_eq (s : State) (index sub : Nat) : ∃ n, s.measure index sub = { s with fresh := n } := by
  unfold State.measure
  split
  · exact ⟨_, rfl⟩
  · exact ⟨s.fresh, rfl⟩

theorem State.heard_lessFresh {s : State} (i : Nat) (n : Nat) :
    { (s.fixed { s.quiet.heard i with fresh := n }).lessAnswers with fresh := s.fresh } = s.lessAnswers :=
  (congrArg (fun w : State => { s.fixed w with fresh := s.fresh }) (s.quiet.heard_lessAnswers i) :)

/-- A request that draws free values, and is answered (14 R364). -/
theorem run_request_measured {op : Nat} {q : Req} {x : Session} {s : State} (h : TakenUp op q x s) (hm : makerOwn op q x = false)
    {body : Session → State → Act} {n : Nat} {a : Ans} (hb : body x (s.quiet.heard q.session) = .done { s.quiet.heard q.session with fresh := n } a id) :
    ∃ t, run (request op q body) s = .next t ∧ Replied op q a t ∧ { t.lessAnswers with fresh := s.fresh } = s.lessAnswers := by
  obtain ⟨t, hrun, hrep, hless⟩ := run_request_replied h hm hb rfl
  exact ⟨t, hrun, hrep, by rw [hless, State.heard_lessFresh]⟩

/-! READ (14 R361, R364). -/

theorem State.readCheck_object {s : State} {q : Req} {role : Nat} {o : Obj} (h : s.readCheck q role = .ok o) :
    s.object? q.index q.sub = some o := by
  unfold State.readCheck at h
  split at h
  · simp at h
  · split at h
    · simp at h
    · split at h
      · simp at h
      · cases h
        assumption

section

variable {s : State} {q : Req} {x : Session} (h : TakenUp 1 q x s)
include h

theorem read_replied {o : Obj} (ho : (s.quiet.heard q.session).readCheck q x.role = .ok o)
    (hw : (s.quiet.heard q.session).wholeCheck q.session o q.element = none) :
    ∃ t, exec (.read q) s = .next t ∧ Replied 1 q { value := (s.quiet.heard q.session).valueBytes q.session o q.element } t ∧
      { t.lessAnswers with fresh := s.fresh } = s.lessAnswers := by
  obtain ⟨n, hn⟩ := (s.quiet.heard q.session).measure_eq q.index q.sub
  exact run_request_measured h (makerOwn_object (State.readCheck_object ho) x) (n := n) (by simp only [readObj, ho, hw, hn])

theorem read_refused {a : Ans} (ha : (s.quiet.heard q.session).readCheck q x.role = .error a) (hm : makerOwn 1 q x = false) :
    ∃ t, exec (.read q) s = .next t ∧ Replied 1 q a t ∧ t.lessAnswers = s.lessAnswers :=
  run_request_refused h hm (by simp only [readObj, ha])

end

/-- The value of a setting is the one in force (14 R361, R370). -/
theorem State.valueBytes_setting {s : State} {o : Obj} (i el : Nat) (ha : o.access = .rwp) (ht : o.ty ≠ 13) (h0 : o.sub ≠ 0) (h1 : o.sub ≠ 0xFE)
    (hi : o.index ≠ 0x3840) : s.valueBytes i o el = o.join (s.val o.index o.sub el) := by
  have hfields : (s.serving i).fieldsOf o el = s.val o.index o.sub el := by
    unfold State.fieldsOf State.settingOf
    rw [if_neg h0, if_neg h1, if_neg (by simp [hi]), if_pos (.inr ha), if_neg (by simp [hi])]
    rfl
  rw [State.valueBytes, if_neg ht, hfields]

/-! READ_MULTI (14 R367). -/

theorem itemBytes_length (sub : Nat) (i : Nat × Bytes) : (itemBytes sub i).length = i.2.length + 4 := by
  simp [itemBytes]
  omega

/-- The items that fit are whole, and draw free values alone (14 R367). -/
theorem readItems_bound (q : Req) (role : Nat) : ∀ (n room sub : Nat) (s : State), (readItems q role room n sub s).1 ≤ n ∧
    (readItems q role room n sub s).2.1.length ≤ room ∧ ∃ k, (readItems q role room n sub s).2.2 = { s with fresh := k }
  | 0, room, sub, s => ⟨le_rfl, Nat.zero_le _, s.fresh, rfl⟩
  | n + 1, room, sub, s => by
    unfold readItems
    dsimp only
    split
    · exact ⟨Nat.zero_le _, Nat.zero_le _, s.fresh, rfl⟩
    next hfit =>
      obtain ⟨m, hm⟩ := s.measure_eq q.index sub
      obtain ⟨hn, hlen, k, hk⟩ := readItems_bound q role n (room - (itemBytes sub (s.readItem q role sub)).length) (sub + 1) (s.measure q.index sub)
      refine ⟨Nat.succ_le_succ hn, ?_, k, ?_⟩
      · rw [List.length_append]
        omega
      · rw [hk, hm]

/-- A first item that fits is read (14 R367). -/
theorem readItems_first {q : Req} {role room n sub : Nat} {s : State} (hn : 1 ≤ n) (hs : sub ≤ 255)
    (hfit : (itemBytes sub (s.readItem q role sub)).length ≤ room) :
    1 ≤ (readItems q role room n sub s).1 ∧ itemBytes sub (s.readItem q role sub) <+: (readItems q role room n sub s).2.1 := by
  obtain ⟨m, rfl⟩ := Nat.exists_eq_add_of_le' hn
  unfold readItems
  dsimp only
  rw [if_neg (by omega)]
  exact ⟨Nat.le_add_left .., List.prefix_append ..⟩

theorem joinFields_one (w v : Nat) : (joinFields [w] [v]).length = w := by
  simp [joinFields]

/-- The status of a group takes two bytes (12 R321). -/
theorem State.statusItem_length (s : State) (q : Req) (role : Nat) : (s.readItem q role 0xFE).2.length ≤ 2 := by
  unfold State.readItem
  split
  · exact Nat.zero_le _
  next o ho =>
    have hvalue : (s.valueBytes q.session o q.element).length ≤ 2 := by
      unfold State.object? at ho
      rw [if_neg (by decide : ¬ (0xFE = 0)), if_pos rfl] at ho
      split at ho
      · simp at ho
      · split at ho
        · simp at ho
        · cases ho
          exact Nat.le_of_eq (joinFields_one 2 _)
    split
    · exact Nat.zero_le _
    · split
      · exact Nat.zero_le _
      · split
        · exact Nat.zero_le _
        · split
          · exact Nat.zero_le _
          · exact hvalue

/-- A READ_MULTI fills its response with whole items (14 R367). -/
theorem readMultiObj_done {u : State} {q : Req} {o : Obj} (x : Session) (hlength : 1 ≤ q.length) (hsub : q.sub ≤ 255)
    (ho : u.object? q.index q.sub = some o) (he : u.elemCheck o q.element = none) :
    ∃ k n b, readMultiObj q x u = .done { u with fresh := k } { detailValue := n, value := b } id ∧ n ≤ q.length ∧ b.length ≤ 1388 ∧
      ((itemBytes q.sub (u.readItem q x.role q.sub)).length ≤ 1378 → 1 ≤ n ∧ itemBytes q.sub (u.readItem q x.role q.sub) <+: b) := by
  have hstatus : (if q.flags = 1 then itemBytes 0xFE (u.readItem q x.role 0xFE) else []).length ≤ 6 := by
    split
    · rw [itemBytes_length]
      exact Nat.add_le_add_right (State.statusItem_length ..) 4
    · exact Nat.zero_le _
  simp only [readMultiObj, ho, he]
  generalize (if q.flags = 1 then itemBytes 0xFE (u.readItem q x.role 0xFE) else []) = status at *
  have hroom : 1382 ≤ maxValue - status.length ∧ maxValue - status.length + status.length = 1388 := by
    unfold maxValue
    omega
  generalize maxValue - status.length = room at *
  obtain ⟨hn, hlen, k, hk⟩ := readItems_bound q x.role q.length room q.sub u
  refine ⟨k, _, _, by rw [hk], hn, ?_, fun hitem => ?_⟩
  · rw [List.length_append]
    omega
  · obtain ⟨hone, hprefix⟩ := readItems_first (q := q) (role := x.role) (s := u) hlength hsub (show _ ≤ room by omega)
    exact ⟨hone, hprefix.trans (List.prefix_append ..)⟩

theorem readMulti_replied {s : State} {q : Req} {x : Session} {o : Obj} (h : TakenUp 3 q x s) (hsub : q.sub ≤ 255)
    (ho : (s.quiet.heard q.session).object? q.index q.sub = some o) (he : (s.quiet.heard q.session).elemCheck o q.element = none) :
    ∃ t n b, exec (.readMulti q) s = .next t ∧ Replied 3 q { detailValue := n, value := b } t ∧ n ≤ q.length ∧ b.length ≤ 1388 ∧
      ((itemBytes q.sub ((s.quiet.heard q.session).readItem q x.role q.sub)).length ≤ 1378 →
        1 ≤ n ∧ itemBytes q.sub ((s.quiet.heard q.session).readItem q x.role q.sub) <+: b) ∧
      { t.lessAnswers with fresh := s.fresh } = s.lessAnswers := by
  have hlength : 1 ≤ q.length := by
    obtain ⟨-, -, -, hstep, -⟩ := h
    simp only [step1, lengthOk, Bool.and_eq_true, decide_eq_true_eq] at hstep
    obtain ⟨⟨-, ⟨hl, -⟩, -⟩, -⟩ := hstep
    exact hl
  obtain ⟨k, n, b, hbody, hn, hb, hfirst⟩ := readMultiObj_done x hlength hsub ho he
  obtain ⟨t, hrun, hrep, hless⟩ := run_request_measured h (makerOwn_object ho x) hbody
  exact ⟨t, n, b, hrun, hrep, hn, hb, hfirst, hless⟩

/-! Domains (14 R368, R369). -/

/-- All but the snapshots and the transfers of domains. -/
def State.lessDomains (s : State) : State := { s with mgmt.snapshots := [], mgmt.transfers := [] }

section

variable {s : State} {q : Req} {x : Session} {o : Obj} (ho : (s.quiet.heard q.session).readCheck q x.role = .ok o)
include ho

/-- A segment is served from a snapshot, which is then held anew (14 R368). -/
theorem domainRead_served (h : TakenUp 4 q x s) {y : Snapshot} {d : Bytes}
    (hb : domainReadObj q x (s.quiet.heard q.session) = .done ((s.quiet.heard q.session).holdSnapshot y) (segmentAns q d) id) :
    ∃ t, exec (.domainRead q) s = .next t ∧ Replied 4 q (segmentAns q d) t ∧ { y with readAt := s.now } ∈ t.mgmt.snapshots ∧
      { t.lessAnswers with mgmt.snapshots := s.mgmt.snapshots } = s.lessAnswers := by
  obtain ⟨t, hrun, hrep, hless⟩ := run_request_replied h (makerOwn_object (State.readCheck_object ho) x) hb rfl
  obtain ⟨m, hm⟩ := s.quiet_heard q.session
  rw [hm] at hless
  have hheld : t.mgmt.snapshots = (s.hearing m |>.holdSnapshot y).mgmt.snapshots := (congrArg (fun w : State => w.mgmt.snapshots) hless :)
  refine ⟨t, hrun, hrep, ?_, (congrArg (fun w : State => { w with mgmt.snapshots := s.mgmt.snapshots }) hless :)⟩
  rw [hheld]
  exact List.mem_append_right _ (List.mem_singleton_self _)

theorem domainReadObj_first (ht : o.ty = 13) {d : Bytes} (hoff : q.offset = 0) (hn : (s.quiet.heard q.session).notReadable q.session o q.element = none)
    (hd : (s.quiet.heard q.session).domain q.session q.index q.sub q.element = some d) (hne : d ≠ []) :
    domainReadObj q x (s.quiet.heard q.session) = .done ((s.quiet.heard q.session).holdSnapshot
      { session := q.session, index := q.index, sub := q.sub, element := q.element, data := d }) (segmentAns q d) id := by
  simp only [domainReadObj, ho, ht, ne_eq, not_true, if_false, hoff, if_true, hn, hd, Option.getD_some, hne]

theorem domainReadObj_later (ht : o.ty = 13) {y : Snapshot} (hoff : q.offset ≠ 0)
    (hy : (s.quiet.heard q.session).mgmt.snapshots.find? (fun y => y.of q.session q.index q.sub q.element) = some y)
    (hlen : q.offset < y.data.length) :
    domainReadObj q x (s.quiet.heard q.session) = .done ((s.quiet.heard q.session).holdSnapshot y) (segmentAns q y.data) id := by
  simp only [domainReadObj, ho, ht, ne_eq, not_true, if_false, hoff, hy, Nat.not_le.mpr hlen]

end

/-- The object of messages sent on a guarded channel (11 Table 11-11). -/
theorem State.object?_message {s : State} (h : s.sup.state ≠ 3) : ∃ o, s.object? 0x5E10 3 = some o ∧ o.sub = 3 ∧ o.elems = .upTo 8 ∧ o.index = 0x5E10 ∧
    o.rights = 40 ∧ o.access = .wo ∧ o.ty = 13 ∧ o.size = 1511 := by
  have hreach : s.reachable 0x5E10 = true := by
    simp [State.reachable, sealingObj, h]
  exact ⟨_, by rw [State.object?, hreach]; rfl, rfl, rfl, rfl, rfl, rfl, rfl, rfl⟩

/-- A first segment that does not complete a message is staged (14 R369). -/
theorem domainWriteObj_staged {u : State} {q : Req} {x : Session} (h3 : u.sup.state ≠ 3) (hi : q.index = 0x5E10) (hsub : q.sub = 3)
    (hel : q.element < 8) (hrole : x.role = 2 ∨ x.role = 3) (hlen : q.value.length = q.length) (h0 : 0 < q.length) (htotal : q.total ≤ 1511)
    (hpart : q.offset + q.length < q.total) (hnone : ∀ f ∈ u.mgmt.transfers, f.of 0x5E10 3 q.element = false) :
    domainWriteObj q x u = okWith
      (u.putTransfer { session := q.session, index := 0x5E10, sub := 3, element := q.element, total := q.total, segs := [(q.offset, q.value)] })
      0 (q.total - q.length) := by
  obtain ⟨o, ho, hos, hoe, hoi, hor, hoa, hot, hoz⟩ := State.object?_message h3
  have helem : u.elemCheck o q.element = none := by
    rw [State.elemCheck, if_neg (by omega), if_neg (by omega)]
    exact State.elemOf_upTo hoe hel (by omega)
  have hright : mayWrite o x.role = true := by
    rcases hrole with hr | hr <;> simp [mayWrite, hor, hr, bit]
  have hdies : u.lacksDies 0x5E10 = false := by
    simp [State.lacksDies]
  have hfind : u.mgmt.transfers.find? (fun f => f.of 0x5E10 3 q.element) = none := List.find?_eq_none.mpr fun f hf => by simp [hnone f hf]
  have hmissing : q.total - q.length ≠ 0 := by omega
  unfold domainWriteObj
  rw [hi, hsub, ho]
  simp only [helem, hright, hoa, hot, Access.writes, Bool.not_true, Bool.false_or, bne_self_eq_false, Bool.false_eq_true, if_false, hdies]
  rw [if_neg (by simp [leastSize, hoz]; omega)]
  simp only [segment, State.transferFor, hi, hsub, hfind, insSeg, Transfer.missing, List.map_cons, List.map_nil, List.sum_cons, List.sum_nil,
    Nat.add_zero, hlen, hmissing, if_false, show ¬ (0x5E10 = 0x1030) by decide]

theorem State.putTransfer_new {u : State} {t : Transfer} (h : ∀ f ∈ u.mgmt.transfers, f.of t.index t.sub t.element = false) :
    u.putTransfer t = { u with mgmt.transfers := u.mgmt.transfers ++ [{ t with lastAt := u.now }] } := by
  have hall : u.mgmt.transfers.filter (fun f => !f.of t.index t.sub t.element) = u.mgmt.transfers :=
    List.filter_eq_self.mpr fun f hf => by simp [h f hf]
  rw [State.putTransfer, hall]

theorem domainWrite_staged {s : State} {q : Req} {x : Session} (h : TakenUp 5 q x s) (h3 : s.sup.state ≠ 3) (hi : q.index = 0x5E10)
    (hsub : q.sub = 3) (hel : q.element < 8) (hrole : x.role = 2 ∨ x.role = 3) (h0 : 0 < q.length) (htotal : q.total ≤ 1511)
    (hpart : q.offset + q.length < q.total) (hnone : ∀ f ∈ s.mgmt.transfers, f.of 0x5E10 3 q.element = false) :
    ∃ t, exec (.domainWrite q) s = .next t ∧ Replied 5 q { detailValue := q.total - q.length } t ∧
      t.mgmt.transfers = s.mgmt.transfers ++
        [{ session := q.session, index := 0x5E10, sub := 3, element := q.element, total := q.total, segs := [(q.offset, q.value)], lastAt := s.now }] ∧
      { t.lessAnswers with mgmt.transfers := s.mgmt.transfers } = s.lessAnswers := by
  have hlen : q.value.length = q.length := by
    obtain ⟨-, -, -, hstep, -⟩ := h
    simp only [step1, lengthOk, Bool.and_eq_true, beq_iff_eq] at hstep
    obtain ⟨⟨-, hl⟩, -⟩ := hstep
    exact hl.symm
  obtain ⟨m, hm⟩ := s.quiet_heard q.session
  have hbody := domainWriteObj_staged (u := s.quiet.heard q.session) (x := x) (by simpa using h3) hi hsub hel hrole hlen h0 htotal hpart
    (by rw [hm]; exact hnone)
  obtain ⟨t, hrun, hrep, hless⟩ := run_request_replied h (by simp [makerOwn, hi]) hbody rfl
  rw [State.putTransfer_new (by rw [hm]; exact hnone), hm] at hless
  exact ⟨t, hrun, hrep, (congrArg (fun w : State => w.mgmt.transfers) hless :),
    (congrArg (fun w : State => { w with mgmt.transfers := s.mgmt.transfers }) hless :)⟩

/-! The end of a snapshot, and of a transfer (14 R368, R369; 15 R401). -/

theorem Snapshot.of_iff {y : Snapshot} {i index sub el : Nat} :
    y.of i index sub el = true ↔ y.session = i ∧ y.index = index ∧ y.sub = sub ∧ y.element = el := by
  simp [Snapshot.of, and_assoc]

/-- A snapshot ends 10 s after its last read (14 R368). -/
theorem snapshotEnd_mem {s : State} {y : Snapshot} (hy : y ∈ s.mgmt.snapshots) :
    y ∈ (snapshotEnd y.session y.index y.sub y.element s).mgmt.snapshots ↔ s.now - y.readAt < 10000000000 := by
  have hown : y.of y.session y.index y.sub y.element = true := Snapshot.of_iff.mpr ⟨rfl, rfl, rfl, rfl⟩
  refine List.mem_filter.trans ?_
  rw [hown, Bool.true_and, show s.over y.readAt (secs 10) = decide (y.readAt + 10000000000 ≤ s.now) from rfl]
  simp only [hy, true_and, Bool.not_eq_true', decide_eq_false_iff_not]
  omega

theorem State.modSlot_slot (s : State) (f : Slot → Slot) (e : Nat) : (s.modSlot e f).slot e = f (s.slot e) := by
  unfold State.modSlot State.slot
  split <;> rfl

theorem State.modSlot_keeps (s : State) (e : Nat) (f : Slot → Slot) :
    { s.modSlot e f with sec.slotA := s.sec.slotA, sec.slotB := s.sec.slotB } = s := by
  unfold State.modSlot
  split <;> rfl

theorem transferDrop_eq {s : State} {id i b e : Nat} {f : Transfer}
    (hf : s.mgmt.transfers.find? (fun f => f.session == id && f.of i b e && s.over f.lastAt 10000000000) = some f) :
    transferDrop id i b e s = (s.dropTransfer f).endTransfer i b e ∧ f.index = i ∧ f.element = e := by
  have hof : f.of i b e = true := by
    have := List.find?_some hf
    simp only [Bool.and_eq_true] at this
    obtain ⟨⟨-, ho⟩, -⟩ := this
    exact ho
  refine ⟨?_, ?_⟩
  · simp only [transferDrop, show secs 10 = 10000000000 from rfl, hf]
  · simp only [Transfer.of, Bool.and_eq_true, beq_iff_eq] at hof
    obtain ⟨⟨hi, -⟩, he⟩ := hof
    exact ⟨hi, he⟩

/-- A transfer that is dropped leaves an image's slot invalid, and nothing else of the module changes (15 R401). -/
theorem State.dropTransfer_spec (s : State) (f : Transfer) :
    { s.dropTransfer f with sec.slotA := s.sec.slotA, sec.slotB := s.sec.slotB } = s ∧
    (f.index = 0x1030 → (s.slot f.element).state = 3 → ((s.dropTransfer f).slot f.element).state = 2) ∧ (f.index ≠ 0x1030 → s.dropTransfer f = s) := by
  unfold State.dropTransfer
  split
  next h =>
    refine ⟨State.modSlot_keeps .., fun _ h3 => ?_, fun hn => absurd h hn⟩
    rw [State.modSlot_slot, if_pos h3]
  next h => exact ⟨rfl, fun hi => absurd hi h, fun _ => rfl⟩

/-- Settles O53: each read and transfer by the checks that it passes, and the ends of snapshots and transfers by their times. -/
theorem readsAndDomains : Obligations.ReadsAndDomains := by
  refine ⟨fun s u q x hu => ?_, fun s u q x hu => ?_⟩
  · subst hu
    refine ⟨fun o h ho hw => ?_, fun a h ha hm => read_refused h ha hm, fun h hm => run_request_maker h hm, fun o h hsub ho he => ?_⟩
    · obtain ⟨t, hrun, hrep, hless⟩ := read_replied h ho hw
      obtain ⟨hindex, hsub⟩ := State.object?_key (State.readCheck_object ho)
      refine ⟨t, hrun, hrep, hless, fun ha ht h0 h1 hi => ?_⟩
      rw [State.valueBytes_setting _ _ ha ht (hsub ▸ h0) (hsub ▸ h1) (hindex ▸ hi), hindex, hsub]
      simp
    · obtain ⟨t, n, b, hrun, hrep, hn, hb, hfirst, hless⟩ := readMulti_replied h hsub ho he
      exact ⟨t, n, b, hrun, hrep, hn, hb, fun hitem _ => hfirst hitem, hless⟩
  · subst hu
    refine ⟨fun o d h ho ht hoff hn hd hne => ?_, fun o y h ho ht hoff hy hlen => ?_,
      fun h h3 hi hsub hel hrole h0 htotal hpart hnone => domainWrite_staged h h3 hi hsub hel hrole h0 htotal hpart hnone,
      fun id i b e => ⟨_, rfl, rfl⟩, fun y hy hone => ⟨_, rfl, rfl, snapshotEnd_mem (s := s.quiet) hy, fun z hz hne => ?_⟩,
      fun id i b e f hf => ?_⟩
    · obtain ⟨t, hrun, hrep, hheld, hless⟩ := domainRead_served ho h (domainReadObj_first ho ht hoff hn hd hne)
      refine ⟨t, hrun, ?_, hheld, hless⟩
      simpa [segmentAns, hoff, maxValue] using hrep
    · have hy' : (s.quiet.heard q.session).mgmt.snapshots.find? (fun y => y.of q.session q.index q.sub q.element) = some y := by
        obtain ⟨m, hm⟩ := s.quiet_heard q.session
        rw [hm]
        exact hy
      exact domainRead_served ho h (domainReadObj_later ho ht hoff hy' hlen)
    · refine List.mem_filter.mpr ⟨hz, ?_⟩
      by_cases hz' : z.of y.session y.index y.sub y.element = true
      · exact absurd (hone z hz hz') hne
      · simp [hz']
    · obtain ⟨heq, hi, he⟩ := transferDrop_eq (s := s.quiet) hf
      obtain ⟨hkeep, hslot, hsame⟩ := s.quiet.dropTransfer_spec f
      refine ⟨_, rfl, ?_⟩
      dsimp only
      rw [heq]
      subst hi he
      have htransfers : (s.quiet.dropTransfer f).mgmt.transfers = s.mgmt.transfers := (congrArg (fun w : State => w.mgmt.transfers) hkeep :)
      generalize s.quiet.dropTransfer f = w at *
      refine ⟨congrArg (List.filter fun g : Transfer => !g.of f.index b f.element) htransfers, ?_, hslot, fun hne => ?_⟩
      · exact (congrArg (fun w : State => { s.fixed w with mgmt.transfers := s.mgmt.transfers }) hkeep :)
      · rw [hsame hne]
        rfl

end Sys2Proof.Machine
end

section
/-! PROOFS. What a WRITE does to an object that only stores its value, and to one that has a command of its own (14 R361, R370). -/

namespace Sys2Proof.Machine

theorem mem_insKey (k : Nat) (l : List Nat) : k ∈ insKey k l := by
  induction l with
  | nil => exact List.mem_singleton_self k
  | cons x xs ih =>
    unfold insKey
    split
    · exact List.mem_cons_self
    · split
      next h => exact h ▸ List.mem_cons_self
      · exact List.mem_cons_of_mem x ih

/-- Subindices take one byte (14 R360). -/
theorem findObj_sub {index sub : Nat} {o : Obj} (h : findObj index sub = some o) : sub < 256 := by
  have hall : ∀ k ≤ 10, ∀ o ∈ objsAt k, o.sub < 256 := by decide
  have hk : index / 4096 ≤ 10 := by
    refine Nat.le_of_not_lt fun hc => ?_
    have hn (k : Nat) (hk : k ≤ 10) : index / 4096 ≠ k := by omega
    simp [findObj, objsAt, hn] at h
  exact (findObj_key h).2 ▸ hall _ hk o (List.mem_of_find?_eq_some h)

/-- A WRITE of an object that is no DOMAIN runs its effect (14 R361). -/
theorem exec_write_eq {rq : Rq} {index sub el : Nat} {v : Bytes} (h0 : sub ≠ 0) (h1 : sub ≠ 0xFE)
    (hty : ∀ o, findObj index sub = some o → o.ty ≠ 13) {eff : Session → List Nat → State → Act}
    (heff : effWrite (writeReq rq index sub el v) = eff) (s : State) :
    exec (.write (writeReq rq index sub el v)) s = run (writeOf rq index sub el v eff) s := by
  have hbody : writeObj (writeReq rq index sub el v) = writeBody (writeReq rq index sub el v) eff := by
    funext x u
    unfold writeObj writeBody
    cases hc : u.writeCheck (writeReq rq index sub el v) x.role with
    | error a => rfl
    | ok o =>
      have ho : findObj index sub = some o := State.object_find (State.writeCheck_ok hc).1 h0 h1
      dsimp only
      rw [if_neg (hty o ho), heff]
  show run (request 2 (writeReq rq index sub el v) (writeObj (writeReq rq index sub el v))) s = _
  rw [hbody]
  rfl

/-- An object that is not among those that act only stores its value (14 R370). -/
theorem effAny_store {session tag index sub el : Nat} {v : Bytes} (h : index * 256 + sub ∉ actingObjs) :
    effAny session tag index sub el v = effStore index sub el := by
  simp only [actingObjs, List.mem_cons, List.not_mem_nil, or_false, not_or] at h
  unfold effAny
  split
  · simp only [effLow, h, if_false]
  · split
    · funext x vs s
      simp only [effMid, h, if_false]
    · simp only [effHigh, h, if_false]

theorem effWrite_low {q : Req} (h : q.index < 0x4000) : effWrite q = effLow q.session q.tag q.index q.sub q.element := by
  rw [effWrite, if_neg (by omega), effAny, if_pos h]

theorem effWrite_mid {q : Req} (h : 0x4000 ≤ q.index) (h' : q.index < 0x6000) : effWrite q = effMid q.index q.sub q.element q.value := by
  rw [effWrite, if_neg (by omega), effAny, if_neg (by omega), if_pos h']

theorem effWrite_high {q : Req} (h : 0x6000 ≤ q.index) (h' : ¬ (q.index = 0x9120 ∧ q.sub = 2)) :
    effWrite q = effHigh q.session q.index q.sub q.element q.value := by
  rw [effWrite, if_neg h', effAny, if_neg (by omega), if_neg (by omega)]

theorem effStore_plain {index sub el : Nat} {o : Obj} {vs : List Nat} {s : State} (ho : findObj index sub = some o) (ha : o.access = .rwp)
    (h1 : index ≠ 0x2010) (h2 : index ≠ 0x5400) (h3 : index ≠ 0x5420) (hc : s.storeCheck index sub el vs = none) (x : Session) :
    effStore index sub el x vs s = ok (s.setStaged index sub el vs) := by
  obtain ⟨hi, hs⟩ := findObj_key ho
  simp only [effStore, hc, ho, State.store_, ha, if_true, h1, h2, h3, if_false, or_self, hi, hs]

/-- A setting written is in force and staged, and no other setting changes (14 R370). -/
theorem Wrote.stored {q : Req} {index sub el : Nat} {v : List Nat} {s t u : State} (hw : Wrote q 0 s u t) (hv : v ≠ [])
    (hk : objKey 0x5400 1 0 ≠ objKey index sub el) (hu : u.persist = (s.setStaged index sub el v).persist) :
    t.val index sub el = v ∧ SetsOnly index sub el s t ∧ objKey index sub el ∈ t.persist.staged := by
  have hp : t.persist = (s.setStaged index sub el v).persist := hw.persist.trans hu
  obtain ⟨hval, honly⟩ := State.val_of_stored hv hk hp
  refine ⟨hval, honly, ?_⟩
  rw [hp]
  exact mem_insKey ..

theorem Obj.split_ne_nil {o : Obj} (h : o.fields ≠ []) (v : Bytes) : o.split v ≠ [] := by
  unfold Obj.split
  cases hf : o.fields with
  | nil => exact absurd hf h
  | cons f fs => simp [splitFields]

theorem write_stores {s : State} {rq : Rq} {index sub el : Nat} {v : Bytes} {x : Session} {o : Obj} (h : Writes rq index sub el v x s)
    (ho : findObj index sub = some o) (h0 : sub ≠ 0) (h1 : sub ≠ 0xFE) (hel : el < 4294967296) (hty : o.ty ≠ 13) (hf : o.fields ≠ [])
    (ha : o.access = .rwp) (hi1 : index ≠ 0x2010) (hi2 : index ≠ 0x5400) (hi3 : index ≠ 0x5420) (hi4 : index ≠ 0x9120)
    (hkey : index * 256 + sub ∉ actingObjs) (hc : s.storeCheck index sub el (o.split v) = none) :
    ∃ t, exec (.write (writeReq rq index sub el v)) s = .next t ∧ Answered 2 (writeReq rq index sub el v) 0 t ∧
      t.val index sub el = o.split v ∧ SetsOnly index sub el s t ∧ objKey index sub el ∈ t.persist.staged ∧
      t.lessAnswers.lessSettings = s.lessAnswers.lessSettings := by
  have hsend : ¬ (index = 0x5E10 ∧ sub = 3) := fun ⟨hi, hs⟩ => hkey (by subst hi hs; decide)
  have heff : effWrite (writeReq rq index sub el v) = effStore index sub el := (if_neg fun hh => hi4 hh.1).trans (effAny_store hkey)
  obtain ⟨t, u, hrun, hw, m, hu⟩ := run_writeOf_wrote (P := fun u => ∃ m, u = (s.hearing m).setStaged index sub el (o.split v)) h ho h0 h1 hsend
    fun m => ⟨_, effStore_plain (s := s.hearing m) ho ha hi1 hi2 hi3 hc x, rfl, m, rfl⟩
  obtain ⟨hval, honly, hstaged⟩ := hw.stored (Obj.split_ne_nil hf v) (ssmOption_ne hi2 (findObj_sub ho) hel) (by rw [hu]; rfl)
  refine ⟨t, (exec_write_eq h0 h1 (fun o' ho' => ?_) heff s).trans hrun, hw.answered, hval, honly, hstaged, ?_⟩
  · cases ho.symm.trans ho'
    exact hty
  · rw [hw.less, hu]
    rfl

end Sys2Proof.Machine
end

section
/-! PROOFS. Fixed coefficients and start presets that take effect at once (03 R80, R81, R93). -/

namespace Sys2Proof.Machine

/-- What fixed coefficients that act at once change: the coefficients of the lane that uses them (03 R80, R93). -/
theorem State.refreshTaps_spec (s : State) (l : Nat) : (s.refreshTaps l).lessLaneTable = s.lessLaneTable ∧
    (s.enabled l = true → s.usesFixedTaps l = true → ((s.refreshTaps l).lane l).tr.taps = s.fixedTaps l) ∧
    ∀ k, k ≠ l → (s.refreshTaps l).lane k = s.lane k := by
  unfold State.refreshTaps
  split
  next h =>
    refine ⟨rfl, fun _ _ => ?_, fun k hk => (State.lane_modLane ..).trans (if_neg hk)⟩
    rw [State.lane_modLane_same]
    rfl
  next h => exact ⟨rfl, fun he hf => absurd (by rw [he, hf]; rfl) h, fun _ _ => rfl⟩

/-- A start preset written is taken by a lane that sends training frames in stage 1 or 2 (03 R81). -/
theorem effPreset_spec (s : State) (l : Nat) (x : Session) (n : Nat) : ∃ u, effPreset l x [n] s = ok u ∧
    u.lessLaneTable = (s.setStaged 0x2000 5 l [n]).lessLaneTable ∧
    ((s.lane l).bring.txMode = .training → 1 ≤ (s.lane l).bring.stage → (s.lane l).bring.stage ≤ 2 →
      (u.lane l).tr.taps = presetTaps ((s.setStaged 0x2000 5 l [n]).cfg 0x2000 5 l)) ∧
    (3 ≤ (s.lane l).bring.stage → u.lane l = s.lane l) ∧ ∀ k, k ≠ l → u.lane k = s.lane k := by
  have hlane (k : Nat) : (s.setStaged 0x2000 5 l [n]).lane k = s.lane k := by simp
  unfold effPreset
  dsimp only
  rw [← hlane l]
  generalize s.setStaged 0x2000 5 l [n] = w at *
  split
  next h =>
    refine ⟨_, rfl, rfl, fun _ _ _ => ?_, fun h3 => by omega, fun k hk => ((State.lane_modLane ..).trans (if_neg hk)).trans (hlane k)⟩
    rw [State.lane_modLane_same]
    rfl
  next h => exact ⟨_, rfl, rfl, fun h1 h2 h3 => absurd ⟨h1, h2, h3⟩ h, fun _ => rfl, fun k _ => hlane k⟩

/-- A written setting that may change lanes is in force and staged; only lanes and settings differ (14 R370). -/
theorem Wrote.lanes {q : Req} {index sub el : Nat} {v : List Nat} {s t u : State} {m : Tab Session} (hw : Wrote q 0 s u t)
    (hu : u.lessLaneTable = ((s.hearing m).setStaged index sub el v).lessLaneTable) :
    { t.lessAnswers.lessSettings with lanes := s.lanes } = s.lessAnswers.lessSettings ∧ (∀ k, t.lane k = u.lane k) ∧
    u.persist = (s.setStaged index sub el v).persist := by
  refine ⟨?_, fun k => (congrArg (fun w : State => w.lane k) hw.less :), (congrArg State.persist hu :)⟩
  rw [hw.less]
  exact (congrArg (fun w : State => { (s.fixed w).lessAnswers.lessSettings with lanes := s.lanes }) hu :)

section

variable {s : State} {rq : Rq} {x : Session} {l : LaneId}

/-- The objects of 2010 that can be written are settings (03 Table 3-13). -/
theorem Writes.tapsObj {sub : Nat} {v : Bytes} {o : Obj} (h : Writes rq 0x2010 sub l v x s) (ho : findObj 0x2010 sub = some o) (h1 : 1 ≤ sub)
    (h5 : sub ≤ 5) : o.access = .rwp ∧ o.ty ≠ 13 ∧ o.fields ≠ [] := by
  have hcheck := h.check ho (by omega) (by omega)
  obtain ⟨-, -, -, hwrites, -⟩ := State.writeCheck_ok hcheck
  interval_cases sub <;> cases ho
  · exact absurd hwrites (by decide)
  · exact absurd hwrites (by decide)
  · exact absurd hwrites (by decide)
  · exact ⟨rfl, by decide, by decide⟩
  · exact ⟨rfl, by decide, by decide⟩

theorem write_taps {sub : Nat} {v : Bytes} {o : Obj} (h : Writes rq 0x2010 sub l v x s) (ho : findObj 0x2010 sub = some o) (h1 : 1 ≤ sub)
    (h5 : sub ≤ 5) (hc : s.storeCheck 0x2010 sub l (o.split v) = none) :
    ∃ t, exec (.write (writeReq rq 0x2010 sub l v)) s = .next t ∧ Answered 2 (writeReq rq 0x2010 sub l v) 0 t ∧
      t.val 0x2010 sub l = o.split v ∧ SetsOnly 0x2010 sub l s t ∧ objKey 0x2010 sub l ∈ t.persist.staged ∧
      (s.enabled l = true → t.fixedMode l = true → (t.lane l).tr.taps = t.fixedTaps l) ∧ (∀ k, k ≠ (l : Nat) → t.lane k = s.lane k) ∧
      { t.lessAnswers.lessSettings with lanes := s.lanes } = s.lessAnswers.lessSettings := by
  obtain ⟨ha, hty, hf⟩ := h.tapsObj ho h1 h5
  have hkey : 0x2010 * 256 + sub ∉ actingObjs := by
    interval_cases sub <;> decide
  have heff : effWrite (writeReq rq 0x2010 sub l v) = effStore 0x2010 sub l := (if_neg (by simp [writeReq])).trans (effAny_store hkey)
  have heffect (m : Tab Session) : effStore 0x2010 sub l x (o.split v) (s.hearing m) =
      ok (((s.hearing m).setStaged 0x2010 sub l (o.split v)).refreshTaps l) := by
    obtain ⟨hi, hs⟩ := findObj_key ho
    have hc' : (s.hearing m).storeCheck 0x2010 sub l (o.split v) = none := hc
    simp only [effStore, hc', ho, State.store_, ha, if_true, hi, hs]
  obtain ⟨t, u, hrun, hw, m, hu⟩ := run_writeOf_wrote
    (P := fun u => ∃ m, u = ((s.hearing m).setStaged 0x2010 sub l (o.split v)).refreshTaps l) h ho (by omega) (by omega) (by simp)
    fun m => ⟨_, heffect m, by simp [State.refreshTaps]; split <;> rfl, m, rfl⟩
  obtain ⟨hless, htaps, hothers⟩ := ((s.hearing m).setStaged 0x2010 sub l (o.split v)).refreshTaps_spec l
  rw [← hu] at hless htaps hothers
  obtain ⟨hmask, hlane, hp⟩ := hw.lanes hless
  obtain ⟨hval, honly, hstaged⟩ := hw.stored (Obj.split_ne_nil hf v) (ssmOption_ne (by decide) (findObj_sub ho) (by omega)) hp
  have hset (i b e : Nat) : ((s.hearing m).setStaged 0x2010 sub l (o.split v)).val i b e = t.val i b e := by
    simp only [State.val, hw.persist.trans hp]
    rfl
  have hreads : ((s.hearing m).setStaged 0x2010 sub l (o.split v)).fixedTaps l = t.fixedTaps l ∧
      ((s.hearing m).setStaged 0x2010 sub l (o.split v)).fixedMode l = t.fixedMode l := by
    simp only [State.fixedTaps, State.fixedMode, State.cfgF, State.cfg, hset, and_self]
  have henabled : ((s.hearing m).setStaged 0x2010 sub l (o.split v)).enabled l = s.enabled l := by
    have hv := (hset 0x2000 1 l).trans (honly 0x2000 1 l (by unfold objKey; omega))
    simp only [State.enabled, State.cfg, hv]
    rfl
  obtain ⟨hfixed, hmode⟩ := hreads
  refine ⟨t, (exec_write_eq (by omega) (by omega) (fun o' ho' => ?_) heff s).trans hrun, hw.answered, hval, honly, hstaged, fun he hm => ?_,
    fun k hk => (hlane k).trans (hothers k hk), hmask⟩
  · cases ho.symm.trans ho'
    exact hty
  · rw [hlane, ← hfixed]
    exact htaps (henabled.trans he) (by rw [State.usesFixedTaps, hmode, hm]; rfl)

theorem effWrite_preset (rq : Rq) (l : Nat) (v : Bytes) : effWrite (writeReq rq 0x2000 5 l v) = effPreset l := by
  have hkey (index sub : Nat) (h : index * 256 + sub = 0x200005) : effLow rq.session rq.tag index sub l = effPreset l := by
    simp [effLow, h]
  exact (effWrite_low (show 0x2000 < 0x4000 by decide)).trans (hkey 0x2000 5 (by decide))

theorem presetObj_split {n : Nat} (hn : n < 8) : ∃ o, findObj 0x2000 5 = some o ∧ o.split (u8 n) = [n] :=
  ⟨_, rfl, splitFields_joinFields (.cons (show n < 256 by omega) .nil)⟩

theorem write_preset {n : Nat} (hn : n < 8) (h : Writes rq 0x2000 5 l (u8 n) x s) :
    ∃ t, exec (.write (writeReq rq 0x2000 5 l (u8 n))) s = .next t ∧ Answered 2 (writeReq rq 0x2000 5 l (u8 n)) 0 t ∧
      t.cfg 0x2000 5 l = n ∧ SetsOnly 0x2000 5 l s t ∧ objKey 0x2000 5 l ∈ t.persist.staged ∧
      ((s.lane l).bring.txMode = .training → 1 ≤ (s.lane l).bring.stage → (s.lane l).bring.stage ≤ 2 → (t.lane l).tr.taps = presetTaps n) ∧
      (3 ≤ (s.lane l).bring.stage → t.lane l = s.lane l) ∧ (∀ k, k ≠ (l : Nat) → t.lane k = s.lane k) ∧
      { t.lessAnswers.lessSettings with lanes := s.lanes } = s.lessAnswers.lessSettings := by
  obtain ⟨o, ho, hsplit⟩ := presetObj_split hn
  obtain ⟨t, u, hrun, hw, m, hless, htaps, hsame, hothers⟩ := run_writeOf_wrote (eff := effPreset l)
    (P := fun u => ∃ m, u.lessLaneTable = ((s.hearing m).setStaged 0x2000 5 l [n]).lessLaneTable ∧
      ((s.lane l).bring.txMode = .training → 1 ≤ (s.lane l).bring.stage → (s.lane l).bring.stage ≤ 2 →
        (u.lane l).tr.taps = presetTaps (((s.hearing m).setStaged 0x2000 5 l [n]).cfg 0x2000 5 l)) ∧
      (3 ≤ (s.lane l).bring.stage → u.lane l = s.lane l) ∧ ∀ k, k ≠ (l : Nat) → u.lane k = s.lane k) h ho (by decide) (by decide) (by decide)
    fun m => by
      obtain ⟨u, heff, hless, hrest⟩ := effPreset_spec (s.hearing m) l x n
      exact ⟨u, by rw [hsplit]; exact heff, (congrArg (fun w : State => w.mgmt.sessions) hless :), m, hless, hrest⟩
  obtain ⟨hmask, hlane, hp⟩ := hw.lanes hless
  obtain ⟨hval, honly, hstaged⟩ := hw.stored (by simp) (ssmOption_ne (by decide) (by decide) (by omega)) hp
  have hcfg : t.cfg 0x2000 5 l = n := by rw [State.cfg, hval, List.headD_cons]
  have hset : ((s.hearing m).setStaged 0x2000 5 l [n]).cfg 0x2000 5 l = t.cfg 0x2000 5 l := by
    simp only [State.cfg, State.val, hw.persist.trans hp]
    rfl
  exact ⟨t, (exec_write_eq (by decide) (by decide) (fun o ho => by cases ho; decide) (effWrite_preset ..) s).trans hrun, hw.answered, hcfg, honly, hstaged,
    fun h1 h2 h3 => by rw [hlane, htaps h1 h2 h3, hset, hcfg], fun h3 => (hlane l).trans (hsame h3), fun k hk => (hlane k).trans (hothers k hk), hmask⟩

end

end Sys2Proof.Machine
end

section
/-! PROOFS. DISCARD_STAGED (14 R372). -/

namespace Sys2Proof.Machine

/-- A staged failure severity without a committed copy goes back to its default (14 R372, R373). -/
theorem discardOne_severity {u : State} {l : LaneId} (hr : u.sup.state ≠ 3) (hp : u.portUp = true) (i : Nat) (x : Session) :
    u.discardOne i x [] (objKey 0x3000 3 l) = some ({ u.setStaged 0x3000 3 l [2] with
      persist.staged := (u.setStaged 0x3000 3 l [2]).persist.staged.filter (· != objKey 0x3000 3 l) }, id) := by
  have hindex : objKey 0x3000 3 l / 4294967296 / 256 = 0x3000 := by unfold objKey; omega
  have hsub : objKey 0x3000 3 l / 4294967296 % 256 = 3 := by unfold objKey; omega
  have hel : objKey 0x3000 3 l % 4294967296 = l := by unfold objKey; omega
  have hobj : u.object? 0x3000 3 = findObj 0x3000 3 := by
    have hreach : u.reachable 0x3000 = true := by simp [State.reachable, sealingObj, hr]
    rw [State.object?, hreach]
    rfl
  obtain ⟨o, ho, hoi, hos, hoe, hor, hoj, hoa⟩ : ∃ o, findObj 0x3000 3 = some o ∧ o.index = 0x3000 ∧ o.sub = 3 ∧ o.elems = .upTo 48 ∧
      fieldsOk o.ranges [2] = true ∧ o.fields = [(2, 1)] ∧ o.access = .rwp := ⟨_, rfl, rfl, rfl, rfl, rfl, rfl, rfl⟩
  have helem : u.elemCheck o l = none := by
    rw [State.elemCheck, if_neg (by omega), if_neg (by omega)]
    exact State.elemOf_upTo hoe l.isLt (by omega)
  have hcheck : u.storeCheck 0x3000 3 l [2] = none := by simp [State.storeCheck]
  have heff : effAny i noTag 0x3000 3 l (o.join [2]) x [2] u = ok (u.setStaged 0x3000 3 l [2]) := by
    rw [effAny_store (by decide)]
    exact effStore_plain ho hoa (by decide) (by decide) (by decide) hcheck x
  have hdies : u.lacksDies 0x3000 = false := by simp [State.lacksDies, hp]
  have hvalue : dictVal [] 0x3000 3 l = [2] := rfl
  unfold State.discardOne
  dsimp only
  rw [hindex, hsub, hel, hobj, hvalue, ho]
  dsimp only
  rw [helem, hor, hdies, heff]
  rfl

theorem effDiscard_done {s : State} {i : Nat} {x : Session} (hc : s.persist.committing = false) {u : State}
    (h : discardAll i x s.committed s.persist.staged s = (u, id, [])) (vs : List Nat) : effDiscard i x vs s = .done u {} id := by
  simp only [effDiscard, hc, Bool.false_eq_true, if_false, h]

theorem effDiscard_busy {s : State} {i : Nat} {x : Session} (hc : s.persist.committing = true) (vs : List Nat) :
    effDiscard i x vs s = .refuse (refusal stBusy 0x48) := by
  simp only [effDiscard, hc, if_true]

theorem insKey_filter (k : Nat) : (insKey k [k]).filter (· != k) = [] := by
  simp [insKey]

/-- What DISCARD_STAGED does to one staged failure severity (14 R372). -/
theorem effDiscard_severity {u : State} {l : LaneId} (hr : u.sup.state ≠ 3) (hp : u.portUp = true) (hc : u.persist.committing = false)
    (hs : u.persist.staged = [objKey 0x3000 3 l]) (hn : u.newestCopy = none) (i : Nat) (x : Session) (vs : List Nat) :
    effDiscard i x vs u = .done { u.setStaged 0x3000 3 l [2] with persist.staged := [] } {} id := by
  have hcommitted : u.committed = [] := by simp only [State.committed, hn]
  have hstaged : (u.setStaged 0x3000 3 l [2]).persist.staged = insKey (objKey 0x3000 3 l) [objKey 0x3000 3 l] :=
    congrArg (insKey (objKey 0x3000 3 l)) hs
  refine effDiscard_done hc ?_ vs
  rw [hcommitted, hs, discardAll, discardOne_severity hr hp, hstaged, insKey_filter]
  rfl

/-! The commands that have an instruction of their own. -/

theorem exec_write_laneEnable (rq : Rq) (l : LaneId) (s : State) : exec (.write (writeReq rq 0x2000 1 l (u8 1))) s = exec (.laneEnable rq l) s := by
  have hkey (index sub : Nat) (h : index * 256 + sub = 0x200001) : effLow rq.session rq.tag index sub l = effEnable l := by
    simp [effLow, h]
  exact exec_write_eq (by decide) (by decide) (fun o ho => by cases ho; decide)
    ((effWrite_low (show 0x2000 < 0x4000 by decide)).trans (hkey 0x2000 1 (by decide))) s

theorem exec_write_retrain (rq : Rq) (l : LaneId) (arg : Byte) (s : State) :
    exec (.write (writeReq rq 0x2000 9 l [arg])) s = exec (.retrain rq l arg) s := by
  have hkey (index sub : Nat) (h : index * 256 + sub = 0x200009) : effLow rq.session rq.tag index sub l = effRetrain l := by
    simp [effLow, h]
  exact exec_write_eq (by decide) (by decide) (fun o ho => by cases ho; decide)
    ((effWrite_low (show 0x2000 < 0x4000 by decide)).trans (hkey 0x2000 9 (by decide))) s

theorem exec_write_revert (rq : Rq) (arg : Byte) (s : State) : exec (.write (writeReq rq 0x4010 1 0 [arg])) s = exec (.revertShadow rq arg) s := by
  have hkey (index sub : Nat) (h : index * 256 + sub = 0x401001) : effMid index sub 0 [arg] = effRevert := by
    funext x vs u
    simp [effMid, h]
  exact exec_write_eq (by decide) (by decide) (fun o ho => by cases ho; decide)
    ((effWrite_mid (show 0x4000 ≤ 0x4010 by decide) (show 0x4010 < 0x6000 by decide)).trans (hkey 0x4010 1 (by decide))) s

theorem exec_write_eraseAll (rq : Rq) (arg : Byte) (s : State) : exec (.write (writeReq rq 0x5C40 1 0 [arg])) s = exec (.eraseAllKeys rq arg) s := by
  have hkey (index sub : Nat) (h : index * 256 + sub = 0x5C4001) : effMid index sub 0 [arg] = effEraseAll := by
    funext x vs u
    simp [effMid, h]
  exact exec_write_eq (by decide) (by decide) (fun o ho => by cases ho; decide)
    ((effWrite_mid (show 0x4000 ≤ 0x5C40 by decide) (show 0x5C40 < 0x6000 by decide)).trans (hkey 0x5C40 1 (by decide))) s

theorem exec_write_commit (rq : Rq) (arg : Byte) (s : State) : exec (.write (writeReq rq 0x9120 1 0 [arg])) s = exec (.commit rq arg) s := by
  have hkey (index sub : Nat) (h : index * 256 + sub = 0x912001) : effHigh rq.session index sub 0 [arg] = effCommit := by
    simp [effHigh, h]
  exact exec_write_eq (by decide) (by decide) (fun o ho => by cases ho; decide)
    ((effWrite_high (show 0x6000 ≤ 0x9120 by decide) (by simp [writeReq])).trans (hkey 0x9120 1 (by decide))) s

theorem exec_write_discard (rq : Rq) (arg : Byte) (s : State) : exec (.write (writeReq rq 0x9120 2 0 [arg])) s = exec (.discardStaged rq arg) s :=
  exec_write_eq (by decide) (by decide) (fun o ho => by cases ho; decide) (if_pos ⟨rfl, rfl⟩) s

/-- Settles O54: each write by the effect of its object, and the discard by the committed value that it writes back. -/
theorem writesAreAppliedAndDiscarded : Obligations.WritesAreAppliedAndDiscarded := fun s => by
  refine ⟨fun rq index sub el v x o h ho h0 h1 hel hty hf ha hi1 hi2 hi3 hi4 hkey hc =>
      write_stores h ho h0 h1 hel hty hf ha hi1 hi2 hi3 hi4 hkey hc,
    fun rq sub l v x o h ho h1 h5 hc => write_taps h ho h1 h5 hc, fun rq l n x hn h => write_preset hn h,
    fun rq l arg => ⟨exec_write_laneEnable rq l s, exec_write_retrain rq l arg s, exec_write_revert rq arg s, exec_write_eraseAll rq arg s,
      exec_write_commit rq arg s, exec_write_discard rq arg s⟩,
    fun rq arg x h hc hs => ?_, fun rq arg x l h hc hp hr hs hn => ?_, fun rq arg x h hc => ?_⟩
  · obtain ⟨t, u, hrun, hw, m, hu⟩ := run_writeOf_wrote (P := fun u => ∃ m, u = s.hearing m) h rfl (by decide) (by decide) (by decide)
      fun m => ⟨s.hearing m, effDiscard_done (s := s.hearing m) hc (by rw [show (s.hearing m).persist.staged = [] from hs]; rfl) _, rfl, m, rfl⟩
    refine ⟨t, hrun, hw.answered, ?_⟩
    rw [hw.less, hu]
    rfl
  · obtain ⟨t, u, hrun, hw, m, hu⟩ := run_writeOf_wrote
      (P := fun u => ∃ m, u = { (s.hearing m).setStaged 0x3000 3 l [2] with persist.staged := [] }) h rfl (by decide) (by decide) (by decide)
      fun m => ⟨_, effDiscard_severity (u := s.hearing m) hr hp hc hs hn rq.session x _, rfl, m, rfl⟩
    have hp : t.persist = { (s.setStaged 0x3000 3 l [2]).persist with staged := [] } := by
      rw [hw.persist, hu]
      rfl
    have hval (i b e : Nat) : t.val i b e = (s.setStaged 0x3000 3 l [2]).val i b e := by simp only [State.val, hp]
    have hk := ssmOption_ne (index := 0x3000) (sub := 3) (el := l) (by decide) (by decide) (by omega)
    refine ⟨t, hrun, hw.answered, by rw [hp], ?_, fun i b e hne => (hval i b e).trans (State.val_setStaged_other _ _ _ _ _ _ _ _ _ hk hne), ?_⟩
    · rw [State.cfg, hval, State.val_setStaged _ _ _ _ _ _ (by simp) hk]
      rfl
    · rw [hw.less, hu]
      rfl
  · obtain ⟨t, hrun, hans, -, hp⟩ := run_writeOf_refused h rfl (by decide) (by decide)
      (effDiscard_busy (s := s.quiet.heard rq.session) (i := rq.session) (x := x) (by simpa using hc) _)
    exact ⟨t, hrun, hans, hp⟩

end Sys2Proof.Machine
end

section
/-! PROOFS. A write of a hopper that is held, under an op that is none (14 R379, Table 14-8). -/

namespace Sys2Proof.Machine

/-- A request in flight whose op no request has. -/
def oddFlight : Flight := { session := 1, op := 128, req := ⟨1, 5, 0, 0, 0, 0, 0, 0, 0, 0, []⟩ }

/-- A write that has been held for 1 s. -/
def oddHeld : Held := { session := 1, tag := 5 }

/-- A session owns a hopper of edits, where a write is held whose request is in flight under an op that is none. -/
def oddState : State :=
  { ({} : State) with
    now := 1000000000
    mgmt.sessions := [(1, { role := 1 })]
    mgmt.flight := [oddFlight]
    store.hoppers := [(0, { owner := 1, held := [oddHeld] })]
    persist.dict := [(objKey 0x7000 1 0, [1, 16, 2, 0, 0, 0])] }

/-- The ops of the responses that are sent. -/
def responseOps (o : List Output) : List Nat := o.filterMap fun x => match x with
  | .response _ r => some r.op
  | _ => none

theorem mem_responseOps {i : Nat} {r : Resp} {o : List Output} (h : Output.response i r ∈ o) : r.op ∈ responseOps o :=
  List.mem_filterMap.mpr ⟨_, h, rfl⟩

theorem oddState_ops : responseOps (heldEnd 1 5 oddState.quiet).out = [128] := by decide

/-- Refutes O55: a request in flight under op 128, which is none, is answered under op 128 and not under 256, as the statement has it. -/
theorem not_hoppersCarryEntriesToTheirOwners : ¬ Obligations.HoppersCarryEntriesToTheirOwners := by
  intro h
  obtain ⟨hops, -⟩ := h
  obtain ⟨-, -, -, htimeout⟩ := hops oddState oddFlight.req { role := 1 } (by decide) (by decide) (by decide) rfl
  obtain ⟨t, ht, ⟨r, hr, hop, -⟩, -⟩ := htimeout 0 oddHeld oddFlight { role := 1 } rfl rfl rfl (by decide) (by decide) (by decide) rfl rfl
  have hout : t.out = (heldEnd 1 5 oddState.quiet).out := by
    obtain rfl : oddState.fixed (heldEnd 1 5 oddState.quiet) = t := by injection ht
    rfl
  have hmem := mem_responseOps hr
  rw [hout, oddState_ops, hop] at hmem
  exact absurd hmem (by decide)

end Sys2Proof.Machine
end

section
/-! PROOFS. Certificates, the maker's access, and the audit journal (15 R389 to R393, R396, R397). -/

namespace Sys2Proof.Machine

/-! Sessions that a test picks are closed (14 R355). -/

theorem State.dropTransfer_certs (s : State) (f : Transfer) :
    (s.dropTransfer f).sec.certs = s.sec.certs ∧ (s.dropTransfer f).sec.mark = s.sec.mark := by
  have h := (s.dropTransfer_spec f).1
  exact ⟨(congrArg (fun w : State => w.sec.certs) h :), (congrArg (fun w : State => w.sec.mark) h :)⟩

theorem State.closeSess_certs (s : State) (i c : Nat) :
    (s.closeSess i c).sec.certs = s.sec.certs ∧ (s.closeSess i c).sec.mark = s.sec.mark := by
  have hdrops (w : State) : (w.dropTransfers i).sec.certs = w.sec.certs ∧ (w.dropTransfers i).sec.mark = w.sec.mark :=
    ⟨State.each_keep (fun w => w.sec.certs) _ _ (fun f w => (w.dropTransfer_certs f).1) w,
      State.each_keep (fun w => w.sec.mark) _ _ (fun f w => (w.dropTransfer_certs f).2) w⟩
  have haudit (w : State) (r : AuditRec) : (w.audit r).sec.certs = w.sec.certs ∧ (w.audit r).sec.mark = w.sec.mark :=
    ⟨(congrArg (fun w : State => w.sec.certs) (w.audit_lessAnswers r) :), (congrArg (fun w : State => w.sec.mark) (w.audit_lessAnswers r) :)⟩
  unfold State.closeSess
  split
  · exact ⟨(haudit ..).1.trans (hdrops _).1, (haudit ..).2.trans (hdrops _).2⟩
  · exact ⟨rfl, rfl⟩

/-- No session that the test picks is left, and the settings, the lanes and the certificates stay (14 R355). -/
theorem State.closeWhere_spec (s : State) (c : Nat) (p : Session → Bool) :
    (∀ e ∈ (s.closeWhere c p).mgmt.sessions, p e.2 = false) ∧ (s.closeWhere c p).out = s.out ∧ (s.closeWhere c p).persist = s.persist ∧
    (s.closeWhere c p).lanes = s.lanes ∧ (s.closeWhere c p).sec.certs = s.sec.certs ∧ (s.closeWhere c p).sec.mark = s.sec.mark := by
  refine ⟨fun e he => ?_, State.each_keep State.out _ _ (fun i w => by simp) s, State.each_keep State.persist _ _ (fun i w => by simp) s,
    State.each_keep State.lanes _ _ (fun i w => by simp) s, State.each_keep (fun w => w.sec.certs) _ _ (fun i w => (w.closeSess_certs i c).1) s,
    State.each_keep (fun w => w.sec.mark) _ _ (fun i w => (w.closeSess_certs i c).2) s⟩
  rw [State.closeWhere, State.eachClose_sessions] at he
  obtain ⟨hmem, hopen⟩ := List.mem_filter.mp he
  refine Bool.eq_false_iff.mpr fun hp => ?_
  have hid : e.1 ∈ (s.mgmt.sessions.filter fun e => p e.2).map Prod.fst := List.mem_map_of_mem (List.mem_filter.mpr ⟨hmem, hp⟩)
  simp [hid] at hopen

/-! Certificates (15 R390 to R393). -/

theorem State.enrolCheck_passed {s : State} {b : Bytes} (hr : recordOk b = true) (hm : s.sec.mark < field b 0 8)
    (hl : s.sec.certs.length < 128) (he : s.persist.enrolOk = true) : s.enrolCheck b true = none := by
  simp only [State.enrolCheck, hr, he, Bool.not_true, Bool.false_eq_true, if_false, Nat.not_le.mpr hm, Nat.not_le.mpr hl]

theorem enrol_accepted {s : State} {rq : Rq} {b : Bytes} {x : Session} (h : Writes rq 0x9010 1 0 b x s) (hr : recordOk b = true)
    (hmay : x.role = 3 ∨ field b 8 1 ≠ 3) (hm : s.sec.mark < field b 0 8) (hl : s.sec.certs.length < 128) (he : s.persist.enrolOk = true) :
    ∃ t, exec (.enrolCertificate rq b) s = .next t ∧ Answered 2 (writeReq rq 0x9010 1 0 b) 0 t ∧
      t.sec.certs = s.sec.certs ++ [certOf b s.stamp] ∧ t.sec.mark = field b 0 8 ∧
      { t.lessAnswers with sec.certs := s.sec.certs, sec.mark := s.sec.mark } = s.lessAnswers := by
  have hright : (x.role == 3 || field b 8 1 != 3) = true := by simpa using hmay
  obtain ⟨t, u, hrun, hw, m, hu⟩ := run_writeOf_wrote (eff := effEnrol b) (P := fun u => ∃ m, u = (s.hearing m).enrol b) h rfl (by decide)
    (by decide) (by decide) fun m => ⟨_, by
      unfold effEnrol
      rw [hright, State.enrolCheck_passed (s := s.hearing m) hr hm hl he]
      rfl, rfl, m, rfl⟩
  have hless : t.lessAnswers = ((s.hearing m).enrol b).lessAnswers := by
    rw [hw.less, hu]
    rfl
  exact ⟨t, hrun, hw.answered, (congrArg (fun w : State => w.sec.certs) hless :), (congrArg (fun w : State => w.sec.mark) hless :),
    (congrArg (fun w : State => { w with sec.certs := s.sec.certs, sec.mark := s.sec.mark }) hless :)⟩

/-- A frame that begins with its mark is taken whole (15 R393). -/
theorem frameStart_eq {b : Bytes} (h : field b 0 2 = 0x434D) (hl : b.length = 438) : frameStart b = b := by
  cases b with
  | nil => simp at hl
  | cons x xs => exact if_pos h

theorem commissioning_eq {s : State} {b : Bytes} (hup : s.sup.up = true) (h2 : s.certsOf 2 = 0) (hlen : b.length = 438)
    (hmark : field b 0 2 = 0x434D) (hsize : field b 2 2 = 432) (hcrc : field b 436 2 = crc16 (b.take 436))
    (hr : recordOk ((b.drop 4).take 432) = true) (hrole : field ((b.drop 4).take 432) 8 1 = 2)
    (hm : s.sec.mark < field ((b.drop 4).take 432) 0 8) (hl : s.sec.certs.length < 128) (he : s.persist.enrolOk = true)
    (hb : s.sec.buffer.length < 256) : commissioning b s =
      ((s.enrol ((b.drop 4).take 432)).audit
        { kind := 1, role := 4, index := 0x9010, sub := 1, newVal := (b.drop 4).take 432, length := 432 }).emit (.uart 0) := by
  have hne : b.isEmpty = false := by
    cases b with
    | nil => simp at hlen
    | cons => rfl
  have hcheck := State.enrolCheck_passed hr hm hl he
  unfold commissioning
  rw [frameStart_eq hmark hlen]
  dsimp only
  rw [if_neg (by simp [hup, hne, h2]), if_neg (by simp [hsize, hlen, hcrc]), show (field ((b.drop 4).take 432) 8 1 == 2) = true by simp [hrole], hcheck]
  exact if_neg (Nat.not_le.mpr hb)

/-- An enrolment on the debug port writes the certificates and the journal alone (15 R393). -/
theorem State.commissioned_spec (s : State) (r : Bytes) (a : AuditRec) : let t := ((s.enrol r).audit a).emit (.uart 0)
    t.out = s.out ++ [.uart 0] ∧ t.sec.certs = s.sec.certs ++ [certOf r s.stamp] ∧ t.sec.mark = field r 0 8 ∧ t.mgmt = s.mgmt ∧ t.lanes = s.lanes ∧
    t.persist = s.persist := by
  have hless := (s.enrol r).audit_lessAnswers a
  have hframe : ((s.enrol r).audit a).out = s.out ∧ ((s.enrol r).audit a).mgmt = s.mgmt ∧ ((s.enrol r).audit a).lanes = s.lanes ∧
      ((s.enrol r).audit a).persist = s.persist := by simp [State.enrol]
  obtain ⟨hout, hmgmt, hlanes, hpersist⟩ := hframe
  generalize (s.enrol r).audit a = w at *
  exact ⟨congrArg (· ++ [Output.uart 0]) hout, (congrArg (fun w : State => w.sec.certs) hless :), (congrArg (fun w : State => w.sec.mark) hless :),
    hmgmt, hlanes, hpersist⟩

theorem revoke_accepted {s : State} {rq : Rq} {n : Nat} {x : Session} {c : Cert} (hn : n < 18446744073709551616)
    (h : Writes rq 0x9010 2 0 (beBytes 8 n) x s) (hc : s.sec.certs.find? (fun c => c.serial == n) = some c) (h3 : c.role = 3 → x.role = 3)
    (h2 : c.role = 2 → s.certsOf 2 ≠ 1) :
    ∃ t, exec (.revokeCertificate rq n) s = .next t ∧ Answered 2 (writeReq rq 0x9010 2 0 (beBytes 8 n)) 0 t ∧
      t.sec.certs = (s.sec.certs.filter fun d => d.serial != c.serial) ∧ (∀ e ∈ t.mgmt.sessions, e.2.cert ≠ c.serial) ∧
      t.sec.mark = s.sec.mark ∧ t.lanes = s.lanes ∧ t.persist = s.persist := by
  obtain ⟨o, ho, hsplit⟩ : ∃ o, findObj 0x9010 2 = some o ∧ o.split (beBytes 8 n) = [n] :=
    ⟨_, rfl, splitFields_joinFields (.cons (show n < 256 ^ 8 by omega) .nil)⟩
  obtain ⟨m, hm⟩ := s.quiet_heard rq.session
  have heff : effRevokeCert x (o.split (beBytes 8 n)) (s.quiet.heard rq.session) =
      .done { s.quiet.heard rq.session with sec.certs := s.sec.certs.filter fun d => d.serial != c.serial } {}
        fun s => s.closeWhere 4 fun y => y.cert == c.serial := by
    have hcerts : (s.hearing m).sec.certs.find? (fun c => c.serial == n) = some c := hc
    rw [hsplit, hm]
    simp only [effRevokeCert, List.headD_cons, hcerts]
    rw [if_neg fun hh => hh.2 (h3 hh.1), if_neg fun hh => h2 hh.1 hh.2]
    rfl
  obtain ⟨r, hrun, hans, hless, -⟩ := run_writeOf_then h ho (by decide) (by decide) (by decide) heff rfl
  obtain ⟨hsess, hout, hp, hlanes, hcerts, hmark⟩ := r.closeWhere_spec 4 fun y => y.cert == c.serial
  rw [hm] at hless
  exact ⟨_, hrun, hans.of_out hout, hcerts.trans (congrArg (fun w : State => w.sec.certs) hless :), fun e he => by simpa using hsess e he,
    hmark.trans (congrArg (fun w : State => w.sec.mark) hless :), hlanes.trans (congrArg State.lanes hless :),
    hp.trans (congrArg State.persist hless :)⟩

/-! The maker's access (15 R389). -/

theorem makerAccess_written {s : State} {rq : Rq} {v : Byte} {x : Session} (h : Writes rq 0x9000 1 0 [v] x s) :
    ∃ t, exec (.makerAccessWrite rq v) s = .next t ∧ Answered 2 (writeReq rq 0x9000 1 0 [v]) 0 t ∧ t.cfg 0x9000 1 0 = v.toNat ∧
      SetsOnly 0x9000 1 0 s t ∧ (v = 0 → s.sup.state ≠ 3 → ∀ e ∈ t.mgmt.sessions, e.2.role ≠ 3) ∧
      (v ≠ 0 → t.lessAnswers.lessSettings = s.lessAnswers.lessSettings) := by
  obtain ⟨o, ho, hsplit⟩ : ∃ o, findObj 0x9000 1 = some o ∧ o.split [v] = [v.toNat] := ⟨_, rfl, by simp [Obj.split, splitFields, beNat]⟩
  obtain ⟨m, hm⟩ := s.quiet_heard rq.session
  obtain ⟨r, hrun, hans, hless, -⟩ := run_writeOf_then (eff := effMakerAccess) h ho (by decide) (by decide) (by decide) rfl rfl
  rw [hsplit, hm] at hless
  rw [hsplit] at hrun
  have hsup : r.sup = s.sup := (congrArg State.sup hless :)
  have hstored : r.persist = (s.setStaged 0x9000 1 0 [v.toNat]).persist := (congrArg State.persist hless :)
  have hk := ssmOption_ne (index := 0x9000) (sub := 1) (el := 0) (by decide) (by decide) (by decide)
  have hend {t : State} (hp : t.persist = r.persist) : t.cfg 0x9000 1 0 = v.toNat ∧ SetsOnly 0x9000 1 0 s t := by
    obtain ⟨hval, honly⟩ := State.val_of_stored (s := s) (t := t) (by simp) hk (hp.trans hstored)
    exact ⟨by rw [State.cfg, hval, List.headD_cons], honly⟩
  by_cases hv : v = 0 ∧ s.sup.state ≠ 3
  · obtain ⟨hsess, hout, hp, -⟩ := r.closeWhere_spec 3 fun y => y.role == 3
    rw [if_pos (by rw [hsup]; exact ⟨by simp [hv.1], hv.2⟩)] at hrun
    obtain ⟨hcfg, honly⟩ := hend (t := s.fixed (r.closeWhere 3 fun y => y.role == 3)) hp
    exact ⟨_, hrun, hans.of_out hout, hcfg, honly, fun _ _ e he => by simpa using hsess e he, fun hc => absurd hv.1 hc⟩
  · rw [if_neg fun hc => hv ⟨BitVec.eq_of_toNat_eq hc.1, hsup ▸ hc.2⟩] at hrun
    obtain ⟨hcfg, honly⟩ := hend (t := s.fixed r) rfl
    exact ⟨_, hrun, hans, hcfg, honly, fun h0 h3 => absurd ⟨h0, h3⟩ hv, fun _ => (congrArg (fun w : State => (s.fixed w).lessSettings) hless :)⟩

/-! The audit journal (15 R396, R397). -/

theorem State.auditCond_keeps (s : State) : { s.auditCond with store.conds := s.store.conds } = s := by
  unfold State.auditCond
  dsimp only
  split
  · exact State.noteCond_keeps ..
  · split
    · exact State.noteCond_keeps ..
    · rfl

/-- The audit buffer that reaches flash, before the condition of unread records is settled (15 R396). -/
def State.flushed (s : State) : State := { s with sec.buffer := [], sec.flushBad := false }.auditWrite s.sec.buffer.reverse

theorem flushAudit_good {s : State} (hb : s.sec.buffer ≠ []) (hs : s.power.supRail = true) : flushAudit true s = s.flushed.auditCond := by
  unfold flushAudit
  rw [if_neg (by simp [hb, hs])]
  rfl

theorem flushAudit_bad {s : State} (hb : s.sec.buffer ≠ []) (hs : s.power.supRail = true) :
    flushAudit false s = { s with sec.flushBad := true }.count 0x9030 1 5 0 := by
  unfold flushAudit
  rw [if_neg (by simp [hb, hs])]
  rfl

theorem State.flushed_spec (s : State) : s.flushed.sec.buffer = [] ∧ s.flushed.sec.audit = (s.sec.buffer ++ s.sec.audit).take 16384 ∧
    { s.flushed.lessAnswers.sec with flushBad := s.sec.flushBad } = s.lessAnswers.sec ∧ s.flushed.sec.flushBad = false ∧
    { s.flushed with sec := s.sec, cnt := s.cnt } = s := by
  refine ⟨rfl, ?_, rfl, rfl, rfl⟩
  show (s.sec.buffer.reverse.reverse ++ s.sec.audit).take 16384 = _
  rw [List.reverse_reverse]

theorem markRead_written {s : State} {rq : Rq} {n : Nat} {x : Session} (hn : n < 18446744073709551616)
    (h : Writes rq 0x9030 3 0 (beBytes 8 n) x s) :
    ∃ t, exec (.markRead rq n) s = .next t ∧ Answered 2 (writeReq rq 0x9030 3 0 (beBytes 8 n)) 0 t ∧
      t.sec.readTo = max s.sec.readTo (min n (s.sec.nextSeq - 1)) ∧ { t.lessAnswers with sec.readTo := s.sec.readTo } = s.lessAnswers := by
  obtain ⟨o, ho, hsplit⟩ : ∃ o, findObj 0x9030 3 = some o ∧ o.split (beBytes 8 n) = [n] :=
    ⟨_, rfl, splitFields_joinFields (.cons (show n < 256 ^ 8 by omega) .nil)⟩
  obtain ⟨t, u, hrun, hw, hu⟩ := run_writeOf_wrote (eff := effMarkRead)
    (P := fun u => u.lessAnswers = { s.lessAnswers with sec.readTo := max s.sec.readTo (min n (s.sec.nextSeq - 1)) }) h ho (by decide)
    (by decide) (by decide) fun m => by
      rw [hsplit]
      refine ⟨_, rfl, ?_, ?_⟩
      · exact (congrArg (fun w : State => w.mgmt.sessions) (State.auditCond_keeps _) :)
      · exact (congrArg State.lessAnswers (State.auditCond_keeps _) :)
  have hless : t.lessAnswers = { s.lessAnswers with sec.readTo := max s.sec.readTo (min n (s.sec.nextSeq - 1)) } :=
    hw.less.trans (congrArg s.fixed hu :)
  exact ⟨t, hrun, hw.answered, (congrArg (fun w : State => w.sec.readTo) hless :),
    (congrArg (fun w : State => { w with sec.readTo := s.sec.readTo }) hless :)⟩

/-- Settles O39: each command by the certificates, the sessions, or the records that it writes. -/
theorem certificatesMakersAndTheJournal : Obligations.CertificatesMakersAndTheJournal := by
  refine ⟨fun s => ⟨fun rq b x h hr hmay hm hl he => enrol_accepted h hr hmay hm hl he,
      fun b hup h2 hlen hmark hsize hcrc hr hrole hm hl he hb => ?_, fun rq n x c hn h hc h3 h2 => revoke_accepted hn h hc h3 h2⟩,
    fun s => ⟨fun rq v x h => makerAccess_written h, fun hb hs => ⟨_, rfl, ?_⟩, fun hb hs => ⟨_, rfl, ?_⟩,
      fun rq n x hn h => markRead_written hn h⟩⟩
  · have heq := commissioning_eq (s := s.quiet) hup h2 hlen hmark hsize hcrc hr hrole hm hl he hb
    have hspec := s.quiet.commissioned_spec ((b.drop 4).take 432)
      { kind := 1, role := 4, index := 0x9010, sub := 1, newVal := (b.drop 4).take 432, length := 432 }
    rw [← heq] at hspec
    exact ⟨_, rfl, hspec⟩
  · rw [flushAudit_good (s := s.quiet) hb hs]
    obtain ⟨hbuf, haudit, hsec, hbad, hkeep⟩ := s.quiet.flushed_spec
    have hcond := s.quiet.flushed.auditCond_keeps
    generalize s.quiet.flushed = w at *
    have hwsec : w.auditCond.sec = w.sec := (congrArg State.sec hcond :)
    generalize w.auditCond = t at *
    refine ⟨(congrArg Security.buffer hwsec :).trans hbuf, (congrArg Security.audit hwsec :).trans haudit, ?_, (congrArg Security.flushBad hwsec :).trans hbad, ?_⟩
    · exact (congrArg (fun v : State => { v.lessAnswers.sec with flushBad := s.sec.flushBad }) hcond :).trans hsec
    · have hboth := (congrArg (fun v : State => { s.fixed v with sec := s.sec, cnt := s.cnt, store.conds := s.store.conds }) hcond :)
      exact hboth.trans (congrArg (fun v : State => { s.fixed v with store.conds := s.store.conds }) hkeep :)
  · rw [flushAudit_bad (s := s.quiet) hb hs]
    exact ⟨rfl, rfl, State.ctr_count ..⟩

end Sys2Proof.Machine
end

section
/-! PROOFS. Flash areas: which is written next, what an erase writes, and what is erased in advance (16 R424, R425, R427). -/

namespace Sys2Proof.Machine

/-- Once an area holds a greater sequence than both, the next write goes to the other (16 R424). -/
theorem older_written {v0 v1 : Bool} {q0 q1 q : Nat} (h : max q0 q1 < q) :
    (older v0 q0 v1 q1 = 0 → older true q v1 q1 = 1) ∧ (older v0 q0 v1 q1 ≠ 0 → older v0 q0 v1 q1 = 1 ∧ older v0 q0 true q = 0) := by
  have h0 : q0 < q := lt_of_le_of_lt (le_max_left ..) h
  have h1 : q1 < q := lt_of_le_of_lt (le_max_right ..) h
  refine ⟨fun _ => ?_, fun hne => ?_⟩
  · cases v1 <;> simp [older, h1]
  · cases v0
    · simp [older] at hne
    · cases v1
      · simp [older, h0.le]
      · have hlt : q1 < q0 := by simpa [older] using hne
        simp [older, hlt, h0.le]

theorem older_lt (v0 : Bool) (q0 : Nat) (v1 : Bool) (q1 : Nat) : older v0 q0 v1 q1 < 2 := by
  unfold older
  repeat' split
  all_goals decide

theorem State.nextCopy_lt (s : State) : s.nextCopy < 2 := older_lt ..

theorem State.nextMap_bounds (s : State) : 2 ≤ s.nextMap ∧ s.nextMap < 4 := by
  have h := older_lt s.persist.map0.valid s.persist.map0.seq s.persist.map1.valid s.persist.map1.seq
  unfold State.nextMap
  omega

/-- All but what an erase writes when it begins. -/
def State.lessErases (s : State) : State :=
  { s with
    store.conds := [], persist.budget := [], persist.eraseAt := [], persist.erases := [], persist.copy0 := {}, persist.copy1 := {}
    persist.map0 := {}, persist.map1 := {} }

theorem State.countErase_keeps (s : State) (n : Fin 14) :
    { s.countErase n with persist.erases := s.persist.erases, store.conds := s.store.conds } = s := by
  unfold State.countErase
  dsimp only
  split
  · exact (congrArg (fun w : State => { w with persist.erases := s.persist.erases, store.conds := s.store.conds }) (State.noteCond_keeps ..) :)
  · rfl

theorem State.startErase_erased {s : State} {a : Nat} (h : s.erasedArea a = true) : s.startErase a = s := by
  rw [State.startErase, h]
  rfl

theorem State.startErase_lessErases (s : State) (a : Nat) : (s.startErase a).lessErases = s.lessErases := by
  unfold State.startErase
  split
  · rfl
  · have h := (congrArg State.lessErases (State.countErase_keeps
      { s with persist.budget := s.persist.budget.set a (s.budgetOf a - 1), persist.eraseAt := s.persist.eraseAt.set a (some s.now) } (flashArea a)) :)
    dsimp only
    generalize State.countErase _ _ = w at *
    split
    · unfold State.setCopy
      split <;> exact h
    · unfold State.setMap
      split <;> exact h

theorem State.setCopy_copy (s : State) (a : Nat) (c : DictCopy) :
    (s.setCopy a c).copy a = c ∧ (∀ b, a < 2 → b < 2 → b ≠ a → (s.setCopy a c).copy b = s.copy b) ∧ ∀ b, (s.setCopy a c).map b = s.map b := by
  unfold State.setCopy State.copy
  split
  next h => exact ⟨rfl, fun b _ _ hne => (if_neg (by omega)).trans (if_neg (by omega)).symm, fun _ => rfl⟩
  next h => exact ⟨rfl, fun b _ _ hne => (if_pos (by omega)).trans (if_pos (by omega)).symm, fun _ => rfl⟩

theorem State.setMap_map (s : State) (a : Nat) (i : Image) :
    (s.setMap a i).map a = i ∧ (∀ b, 2 ≤ a → a < 4 → 2 ≤ b → b < 4 → b ≠ a → (s.setMap a i).map b = s.map b) ∧
    ∀ b, (s.setMap a i).copy b = s.copy b := by
  unfold State.setMap State.map
  split
  next h => exact ⟨rfl, fun b _ _ _ _ hne => (if_neg (by omega)).trans (if_neg (by omega)).symm, fun _ => rfl⟩
  next h => exact ⟨rfl, fun b _ _ _ _ hne => (if_pos (by omega)).trans (if_pos (by omega)).symm, fun _ => rfl⟩

/-- An erase makes its own area alone invalid (16 R425). -/
theorem State.startErase_others (s : State) (a b : Nat) (hne : b ≠ a) :
    (b < 2 → (s.startErase a).copy b = s.copy b) ∧ (2 ≤ b → b < 4 → a < 4 → (s.startErase a).map b = s.map b) := by
  unfold State.startErase
  split
  · exact ⟨fun _ => rfl, fun _ _ _ => rfl⟩
  · have hkeep := State.countErase_keeps
      { s with persist.budget := s.persist.budget.set a (s.budgetOf a - 1), persist.eraseAt := s.persist.eraseAt.set a (some s.now) } (flashArea a)
    dsimp only
    generalize State.countErase _ _ = w at *
    have hc (c : Nat) : w.copy c = s.copy c := (congrArg (fun w : State => State.copy w c) hkeep :)
    have hm (c : Nat) : w.map c = s.map c := (congrArg (fun w : State => State.map w c) hkeep :)
    split
    next ha =>
      obtain ⟨-, hother, hmap⟩ := w.setCopy_copy a { w.copy a with valid := false }
      exact ⟨fun hb => (hother b ha hb hne).trans (hc b), fun _ _ _ => (hmap b).trans (hm b)⟩
    next ha =>
      obtain ⟨-, hother, hcopy⟩ := w.setMap_map a { w.map a with valid := false }
      exact ⟨fun _ => (hcopy b).trans (hc b), fun h2 h4 ha4 => (hother b (by omega) ha4 h2 h4 hne).trans (hm b)⟩

theorem State.nextMap_of_maps {s t : State} (h2 : t.map 2 = s.map 2) (h3 : t.map 3 = s.map 3) : t.nextMap = s.nextMap := by
  have h0 : t.persist.map0 = s.persist.map0 := h2
  have h1 : t.persist.map1 = s.persist.map1 := h3
  rw [State.nextMap, State.nextMap, h0, h1]

/-- Erases in advance take the areas written next alone (16 R425). -/
theorem State.eraseAhead_spec (s : State) : s.eraseAhead.lessErases = s.lessErases ∧
    (∀ b < 2, b ≠ s.nextCopy → s.eraseAhead.copy b = s.copy b) ∧ ∀ b, 2 ≤ b → b < 4 → b ≠ s.nextMap → s.eraseAhead.map b = s.map b := by
  have hfirst : ∃ w : State, (if s.persist.committing then s else s.startErase s.nextCopy) = w ∧ w.lessErases = s.lessErases ∧
      (∀ b < 2, b ≠ s.nextCopy → w.copy b = s.copy b) ∧ ∀ b, 2 ≤ b → b < 4 → w.map b = s.map b := by
    have hlt := s.nextCopy_lt
    split
    · exact ⟨_, rfl, rfl, fun _ _ _ => rfl, fun _ _ _ => rfl⟩
    · exact ⟨_, rfl, s.startErase_lessErases _, fun b hb hne => (s.startErase_others _ b hne).1 hb,
        fun b h2 h4 => (s.startErase_others _ b (by omega)).2 h2 h4 (by omega)⟩
  obtain ⟨w, hw, hless, hcopy, hmap⟩ := hfirst
  have hnext : w.nextMap = s.nextMap := State.nextMap_of_maps (hmap 2 (by decide) (by decide)) (hmap 3 (by decide) (by decide))
  have hb := s.nextMap_bounds
  unfold State.eraseAhead
  rw [hw]
  dsimp only
  split
  · exact ⟨hless, hcopy, fun b h2 h4 _ => hmap b h2 h4⟩
  · rw [hnext]
    exact ⟨(w.startErase_lessErases _).trans hless, fun b hb' hne => ((w.startErase_others _ b (by omega)).1 hb').trans (hcopy b hb' hne),
      fun b h2 h4 hne => ((w.startErase_others _ b hne).2 h2 h4 hb.2).trans (hmap b h2 h4)⟩

/-- With both next areas erased there is nothing to erase in advance (16 R425). -/
theorem State.eraseAhead_erased {s : State} (hc : s.erasedArea s.nextCopy = true) (hm : s.erasedArea s.nextMap = true) : s.eraseAhead = s := by
  unfold State.eraseAhead
  rw [State.startErase_erased hc]
  dsimp only
  rw [ite_self, State.startErase_erased hm, ite_self]

end Sys2Proof.Machine
end

section
/-! PROOFS. COMMIT and its end, and RESTORE_DEFAULTS (14 R371; 16 R425, R427, R429). -/

namespace Sys2Proof.Machine

theorem State.ctr_of_cnt {s t : State} (h : t.cnt = s.cnt) (i b f e : Nat) : t.ctr i b f e = s.ctr i b f e := by rw [State.ctr, State.ctr, h]

theorem effCommit_captures {s : State} (hc : s.persist.committing = false) (hs : s.persist.staged ≠ []) (he : s.erasedArea s.nextCopy = true)
    (x : Session) (vs : List Nat) : effCommit x vs s = .hold { s with
      persist.committing := true, persist.staged := [], persist.captureKeys := s.persist.staged
      persist.capture := s.persist.dict.filter fun e => s.persist.staged.contains e.1 } := by
  unfold effCommit
  dsimp only
  rw [if_neg (by simp [hc]), if_neg (by simpa using hs), if_pos he]

theorem commit_captures {s : State} {rq : Rq} {arg : Byte} {x : Session} (h : Writes rq 0x9120 1 0 [arg] x s)
    (hc : s.persist.committing = false) (hs : s.persist.staged ≠ []) (he : s.erasedArea s.nextCopy = true) :
    ∃ t, exec (.commit rq arg) s = .next t ∧ t.persist.committing = true ∧ t.persist.staged = [] ∧ t.persist.captureKeys = s.persist.staged ∧
      t.persist.dict = s.persist.dict ∧ t.mgmt.flight = s.mgmt.flight ++ [⟨rq.session, 2, writeReq rq 0x9120 1 0 [arg], s.now⟩] ∧
      { t.lessAnswers with persist := s.persist, mgmt.flight := s.mgmt.flight } = s.lessAnswers := by
  obtain ⟨o, ho⟩ : ∃ o, findObj 0x9120 1 = some o := ⟨_, rfl⟩
  obtain ⟨m, hm⟩ := s.quiet_heard rq.session
  have heff := effCommit_captures (s := s.hearing m) hc hs he x (o.split [arg])
  rw [← hm] at heff
  obtain ⟨r, hrun, hless, -⟩ := run_writeOf_held h ho (by decide) (by decide) heff
  rw [hm] at hless
  have hp : r.persist = _ := (congrArg State.persist hless :)
  have hf : r.mgmt.flight = s.mgmt.flight := (congrArg (fun w : State => w.mgmt.flight) hless :)
  have hn : r.now = s.now := (congrArg State.now hless :)
  refine ⟨_, hrun, (congrArg Persist.committing hp :), (congrArg Persist.staged hp :), (congrArg Persist.captureKeys hp :),
    (congrArg Persist.dict hp :), ?_, (congrArg (fun w : State => { s.fixed w with persist := s.persist, mgmt.flight := s.mgmt.flight }) hless :)⟩
  show r.mgmt.flight ++ [⟨rq.session, 2, writeReq rq 0x9120 1 0 [arg], r.now⟩] = _
  rw [hf, hn]

/-- The answer to a commit changes no setting, no counter, no lane and no page (14 R358). -/
theorem State.answerCommit_keeps (s : State) (a : Ans) : (s.answerCommit a).persist = s.persist ∧ (s.answerCommit a).cnt = s.cnt ∧
    (s.answerCommit a).lanes = s.lanes ∧ (s.answerCommit a).fab = s.fab := by
  unfold State.answerCommit
  split
  next f _ =>
    have hcnt : (s.answerHeld f.session f.req.tag a).cnt = s.cnt := by
      unfold State.answerHeld
      split
      · exact State.respond_cnt ..
      · rfl
    exact ⟨by simp, hcnt, by simp, by simp⟩
  · exact ⟨rfl, rfl, rfl, rfl⟩

/-- The state in which a commit's end has been noted (14 R371). -/
def State.commitOver (s : State) (result : Nat) : State :=
  { s with persist.committing := false, persist.erased := s.persist.erased.set s.nextCopy false, persist.lastResult := result }

/-- The state with a commit's copy written (14 R371; 16 R424). -/
def State.commitWritten (s : State) : State :=
  let w := ((s.commitOver stOk).setCopy s.nextCopy (copyOf (max s.persist.copy0.seq s.persist.copy1.seq + 1) s.merged)).badArea (8 + s.nextCopy) false
  { w with persist.lastCommit := w.stamp, persist.captureKeys := [], persist.capture := [] }

theorem commitEnd_good {s : State} (h : s.persist.committing = true) :
    commitEnd true s = ((s.commitWritten.count 0x9120 3 5 0).noteCond .settingsNotRestored false).eraseAhead.answerCommit {} := by
  unfold commitEnd
  rw [if_neg (by simp [h])]
  rfl

theorem commitEnd_bad {s : State} (h : s.persist.committing = true) :
    commitEnd false s = (((((s.commitOver stInternal).recommit stInternal).count 0xA020 3 1 0).badArea (8 + s.nextCopy) true).eraseAhead).answerCommit
      (refusal stInternal) := by
  unfold commitEnd
  rw [if_neg (by simp [h])]
  rfl

/-- The copy just written stays when the next areas are erased: the next commit goes to the other one (16 R424, R425). -/
theorem State.commitWritten_spec (s : State) (w : State) (hp : w.persist = s.commitWritten.persist) :
    w.eraseAhead.copy s.nextCopy = copyOf (max s.persist.copy0.seq s.persist.copy1.seq + 1) s.merged := by
  have hcopy : w.copy s.nextCopy = copyOf (max s.persist.copy0.seq s.persist.copy1.seq + 1) s.merged := by
    have hw : w.copy s.nextCopy = s.commitWritten.copy s.nextCopy := by rw [State.copy, State.copy, hp]
    exact hw.trans ((s.commitOver stOk).setCopy_copy s.nextCopy _).1
  have hother (b : Nat) (hb : b < 2) (hne : b ≠ s.nextCopy) : w.copy b = s.copy b := by
    have hw : w.copy b = s.commitWritten.copy b := by rw [State.copy, State.copy, hp]
    exact hw.trans (((s.commitOver stOk).setCopy_copy s.nextCopy _).2.1 b s.nextCopy_lt hb hne)
  have hne : s.nextCopy ≠ w.nextCopy := by
    have hold := older_written (v0 := s.persist.copy0.valid) (v1 := s.persist.copy1.valid) (Nat.lt_succ_self (max s.persist.copy0.seq s.persist.copy1.seq))
    by_cases h0 : s.nextCopy = 0
    · rw [h0] at hcopy hother
      have h0' : w.persist.copy0 = _ := hcopy
      have h1' : w.persist.copy1 = s.persist.copy1 := hother 1 (by decide) (by decide)
      rw [h0, State.nextCopy, h0', h1']
      exact fun hc => absurd (hc.trans (hold.1 h0)) (by decide)
    · obtain ⟨h1, hnext⟩ := hold.2 h0
      rw [show s.nextCopy = 1 from h1] at hcopy hother
      have h1' : w.persist.copy1 = _ := hcopy
      have h0' : w.persist.copy0 = s.persist.copy0 := hother 0 (by decide) (by decide)
      rw [show s.nextCopy = 1 from h1, State.nextCopy, h0', h1']
      exact fun hc => absurd (hc.trans hnext) (by decide)
  exact (w.eraseAhead_spec.2.1 _ s.nextCopy_lt hne).trans hcopy

theorem commit_completes {s : State} (h : s.persist.committing = true) :
    ∃ t, exec (.commitComplete true) s = .next t ∧ t.persist.committing = false ∧ t.persist.lastResult = 0 ∧ t.persist.lastCommit = s.stamp ∧
      t.copy s.nextCopy = copyOf (max s.persist.copy0.seq s.persist.copy1.seq + 1) s.merged ∧ t.persist.dict = s.persist.dict ∧
      t.persist.staged = s.persist.staged ∧ t.ctr 0x9120 3 5 0 = (s.ctr 0x9120 3 5 0 + 1) % 4294967296 ∧ t.lanes = s.lanes ∧ t.fab = s.fab := by
  refine ⟨_, rfl, ?_⟩
  rw [commitEnd_good (s := s.quiet) h]
  have hwritten : s.quiet.commitWritten.persist.committing = false ∧ s.quiet.commitWritten.persist.lastResult = 0 ∧
      s.quiet.commitWritten.persist.lastCommit = s.stamp ∧ s.quiet.commitWritten.persist.dict = s.persist.dict ∧
      s.quiet.commitWritten.persist.staged = s.persist.staged ∧ s.quiet.commitWritten.cnt = s.cnt ∧ s.quiet.commitWritten.lanes = s.lanes ∧
      s.quiet.commitWritten.fab = s.fab := by
    unfold State.commitWritten State.setCopy
    split <;> exact ⟨rfl, rfl, rfl, rfl, rfl, rfl, rfl, rfl⟩
  have hcopy := s.quiet.commitWritten_spec ((s.quiet.commitWritten.count 0x9120 3 5 0).noteCond .settingsNotRestored false) (by simp)
  have hctr : ((s.quiet.commitWritten.count 0x9120 3 5 0).noteCond .settingsNotRestored false).ctr 0x9120 3 5 0 =
      (s.ctr 0x9120 3 5 0 + 1) % 4294967296 := by
    rw [(State.noteCond_reads ..).2.2.2.2.2.2.2.2, State.ctr_count, State.ctr, hwritten.2.2.2.2.2.1]
    rfl
  have hparts : ((s.quiet.commitWritten.count 0x9120 3 5 0).noteCond .settingsNotRestored false).persist = s.quiet.commitWritten.persist ∧
      ((s.quiet.commitWritten.count 0x9120 3 5 0).noteCond .settingsNotRestored false).lanes = s.quiet.commitWritten.lanes ∧
      ((s.quiet.commitWritten.count 0x9120 3 5 0).noteCond .settingsNotRestored false).fab = s.quiet.commitWritten.fab := by simp
  generalize (s.quiet.commitWritten.count 0x9120 3 5 0).noteCond .settingsNotRestored false = w at *
  generalize s.quiet.commitWritten = v at *
  obtain ⟨hcom, hres, hlast, hdict, hstaged, -, hlanes, hfab⟩ := hwritten
  obtain ⟨hwp, hwl, hwf⟩ := hparts
  have herase := w.eraseAhead_spec.1
  obtain ⟨hp, hcnt, hl, hf⟩ := w.eraseAhead.answerCommit_keeps {}
  generalize w.eraseAhead.answerCommit {} = t at *
  generalize w.eraseAhead = u at *
  have hpart {α : Type} (π : Persist → α) (hπ : ∀ v : State, π v.lessErases.persist = π v.persist) : π t.persist = π v.persist := by
    rw [hp, ← hπ u, herase, hπ w, hwp]
  exact ⟨(hpart Persist.committing fun _ => rfl).trans hcom, (hpart Persist.lastResult fun _ => rfl).trans hres,
    (hpart Persist.lastCommit fun _ => rfl).trans hlast, (congrArg (fun p : Persist => if s.nextCopy = 0 then p.copy0 else p.copy1) hp :).trans hcopy,
    (hpart Persist.dict fun _ => rfl).trans hdict, (hpart Persist.staged fun _ => rfl).trans hstaged,
    (State.ctr_of_cnt (hcnt.trans (congrArg State.cnt herase :)) ..).trans hctr,
    (hl.trans (congrArg State.lanes herase :)).trans (hwl.trans hlanes), (hf.trans (congrArg State.fab herase :)).trans (hwf.trans hfab)⟩

theorem mem_insKey_iff (k j : Nat) (l : List Nat) : j ∈ insKey k l ↔ j = k ∨ j ∈ l := by
  induction l with
  | nil => simp [insKey]
  | cons x xs ih =>
    unfold insKey
    split
    · simp
    · split
      next h => simp [h]
      · simp [ih, or_left_comm]

theorem mem_insKeys_iff (ks : List Nat) (j : Nat) (l : List Nat) : j ∈ ks.foldl (fun l k => insKey k l) l ↔ j ∈ l ∨ j ∈ ks := by
  induction ks generalizing l with
  | nil => simp
  | cons k ks ih => rw [List.foldl_cons, ih, mem_insKey_iff, List.mem_cons, or_assoc, or_left_comm]

theorem commit_fails {s : State} (h : s.persist.committing = true) :
    ∃ t, exec (.commitComplete false) s = .next t ∧ t.persist.committing = false ∧ t.persist.lastResult = 15 ∧
      (∀ k, k ∈ t.persist.staged ↔ k ∈ s.persist.staged ∨ k ∈ s.persist.captureKeys) ∧ t.persist.dict = s.persist.dict ∧
      t.ctr 0xA020 3 1 0 = (s.ctr 0xA020 3 1 0 + 1) % 4294967296 ∧ t.lanes = s.lanes ∧ t.fab = s.fab := by
  refine ⟨_, rfl, ?_⟩
  rw [commitEnd_bad (s := s.quiet) h]
  have hkeep : ((((s.quiet.commitOver stInternal).recommit stInternal).count 0xA020 3 1 0).badArea (8 + s.quiet.nextCopy) true).persist.committing = false ∧
      ((((s.quiet.commitOver stInternal).recommit stInternal).count 0xA020 3 1 0).badArea (8 + s.quiet.nextCopy) true).persist.lastResult = 15 ∧
      ((((s.quiet.commitOver stInternal).recommit stInternal).count 0xA020 3 1 0).badArea (8 + s.quiet.nextCopy) true).persist.staged =
        s.persist.captureKeys.foldl (fun l k => insKey k l) s.persist.staged ∧
      ((((s.quiet.commitOver stInternal).recommit stInternal).count 0xA020 3 1 0).badArea (8 + s.quiet.nextCopy) true).persist.dict = s.persist.dict ∧
      ((((s.quiet.commitOver stInternal).recommit stInternal).count 0xA020 3 1 0).badArea (8 + s.quiet.nextCopy) true).lanes = s.lanes ∧
      ((((s.quiet.commitOver stInternal).recommit stInternal).count 0xA020 3 1 0).badArea (8 + s.quiet.nextCopy) true).fab = s.fab :=
    ⟨rfl, rfl, rfl, rfl, rfl, rfl⟩
  have hctr : ((((s.quiet.commitOver stInternal).recommit stInternal).count 0xA020 3 1 0).badArea (8 + s.quiet.nextCopy) true).ctr 0xA020 3 1 0 =
      (s.ctr 0xA020 3 1 0 + 1) % 4294967296 := State.ctr_count ((s.quiet.commitOver stInternal).recommit stInternal) ..
  generalize (((s.quiet.commitOver stInternal).recommit stInternal).count 0xA020 3 1 0).badArea (8 + s.quiet.nextCopy) true = w at *
  obtain ⟨hcom, hres, hstaged, hdict, hlanes, hfab⟩ := hkeep
  have herase := w.eraseAhead_spec.1
  obtain ⟨hp, hcnt, hl, hf⟩ := w.eraseAhead.answerCommit_keeps (refusal stInternal)
  generalize w.eraseAhead.answerCommit (refusal stInternal) = t at *
  generalize w.eraseAhead = u at *
  have hpart {α : Type} (π : Persist → α) (hπ : ∀ v : State, π v.lessErases.persist = π v.persist) : π t.persist = π w.persist := by
    rw [hp, ← hπ u, herase, hπ w]
  refine ⟨(hpart Persist.committing fun _ => rfl).trans hcom, (hpart Persist.lastResult fun _ => rfl).trans hres, fun k => ?_,
    (hpart Persist.dict fun _ => rfl).trans hdict, (State.ctr_of_cnt (hcnt.trans (congrArg State.cnt herase :)) ..).trans hctr,
    (hl.trans (congrArg State.lanes herase :)).trans hlanes, (hf.trans (congrArg State.fab herase :)).trans hfab⟩
  show k ∈ t.persist.staged ↔ _
  rw [show t.persist.staged = _ from (hpart Persist.staged fun _ => rfl).trans hstaged]
  exact mem_insKeys_iff ..

theorem defaults_restored {s : State} {rq : Rq} {x : Session} (h : Writes rq 0xA010 2 0 [0x5A] x s) (hc : s.persist.committing = false) :
    ∃ t, exec (.restoreDefaults rq 0x5A) s = .next t ∧ Answered 2 (writeReq rq 0xA010 2 0 [0x5A]) 0 t ∧ t.power.internal = true ∧
      t.power.cause = 5 ∧ t.persist.restored = true ∧ t.persist.map0.valid = false ∧ t.persist.map1.valid = false ∧ t.persist.dict = [] ∧
      t.lanes = [] ∧ t.mgmt.sessions = [] := by
  obtain ⟨o, ho, hsplit⟩ : ∃ o, findObj 0xA010 2 = some o ∧ o.split [0x5A] = [0x5A] := ⟨_, rfl, by simp [Obj.split, splitFields, beNat]⟩
  obtain ⟨m, hm⟩ := s.quiet_heard rq.session
  have heff : effDefaults x (o.split [0x5A]) (s.quiet.heard rq.session) =
      .done (s.quiet.heard rq.session) {} fun s => s.writeDefaults.internalReset 5 (msecs 10) := by
    have hc' : (s.hearing m).persist.committing = false := hc
    rw [hsplit, hm]
    simp only [effDefaults, List.headD_cons, hc']
    rfl
  obtain ⟨r, hrun, hans, -⟩ := run_writeOf_then h ho (by decide) (by decide) (by decide) heff rfl
  have hout : r.writeDefaults.out = r.out := by
    unfold State.writeDefaults State.setCopy
    dsimp only
    split <;> rfl
  exact ⟨_, hrun, hans.of_out hout, rfl, rfl, rfl, rfl, rfl, rfl, rfl, rfl⟩

end Sys2Proof.Machine
end

section
/-! PROOFS. Map checkpoints, erases and their budgets (16 R424 to R427). -/

namespace Sys2Proof.Machine

theorem mapStart_due {s : State} (hup : s.sup.up = true) (hdue : s.persist.mapDueAt.isSome = true) (hw : s.persist.mapWriting = none)
    (hadm : s.lease.admitted = true) (he : s.erasedArea s.nextMap = true) (hb : s.fab.copyBusy = false) (ho : s.over s.persist.mapAt 10000000000 = true) :
    mapStart s = { s with
      persist.mapWriting := some s.nextMap, persist.mapAt := s.now
      persist.mapImage := s.imageNow (max s.persist.map0.seq s.persist.map1.seq + 1) } :=
  if_pos (by simp [hup, hdue, hw, hadm, he, hb, secs, ho])

/-- The state in which a checkpoint's end has been noted (16 R424). -/
def State.mapOver (s : State) (a : Nat) : State := { s with persist.mapWriting := none, persist.erased := s.persist.erased.set a false }

/-- The state with a checkpoint written (16 R424). -/
def State.mapWritten (s : State) (a : Nat) : State :=
  { (s.mapOver a).setMap a s.persist.mapImage.described with persist.mapDueAt := none, edit.reconciled := false }.badArea (8 + a) false

theorem mapEnd_good {s : State} {a : Nat} (h : s.persist.mapWriting = some a) :
    mapEnd true s = (((s.mapWritten a).count 0xA020 2 7 0).noteCond .checkpointDue false).pruneJournal.eraseAhead := by
  unfold mapEnd
  rw [h]
  rfl

theorem mapEnd_bad {s : State} {a : Nat} (h : s.persist.mapWriting = some a) :
    mapEnd false s = (((s.mapOver a).count 0xA020 3 1 0).badArea (8 + a) true).eraseAhead := by
  unfold mapEnd
  rw [h]
  rfl

/-- The checkpoint just written stays when the next areas are erased: the next one goes to the other area (16 R424, R425). -/
theorem State.mapWritten_spec (s w : State) (hp : w.persist = (s.mapWritten s.nextMap).persist)
    (hq : max s.persist.map0.seq s.persist.map1.seq < s.persist.mapImage.seq) (hv : s.persist.mapImage.valid = true) :
    w.eraseAhead.map s.nextMap = s.persist.mapImage.described := by
  have hb := s.nextMap_bounds
  have hmap : w.map s.nextMap = s.persist.mapImage.described := by
    have hw : w.map s.nextMap = (s.mapWritten s.nextMap).map s.nextMap := by rw [State.map, State.map, hp]
    exact hw.trans ((s.mapOver s.nextMap).setMap_map s.nextMap _).1
  have hother (b : Nat) (h2 : 2 ≤ b) (h4 : b < 4) (hne : b ≠ s.nextMap) : w.map b = s.map b := by
    have hw : w.map b = (s.mapWritten s.nextMap).map b := by rw [State.map, State.map, hp]
    exact hw.trans (((s.mapOver s.nextMap).setMap_map s.nextMap _).2.1 b hb.1 hb.2 h2 h4 hne)
  have hne : s.nextMap ≠ w.nextMap := by
    have hold := older_written (v0 := s.persist.map0.valid) (v1 := s.persist.map1.valid) hq
    have hvalid : s.persist.mapImage.described.valid = true := hv
    have hseq : s.persist.mapImage.described.seq = s.persist.mapImage.seq := rfl
    by_cases h0 : older s.persist.map0.valid s.persist.map0.seq s.persist.map1.valid s.persist.map1.seq = 0
    · have hn : s.nextMap = 2 := congrArg (2 + ·) h0
      rw [hn] at hmap hother
      have h0' : w.persist.map0 = _ := hmap
      have h1' : w.persist.map1 = s.persist.map1 := hother 3 (by decide) (by decide) (by decide)
      rw [hn, State.nextMap, h0', h1', hvalid, hseq, hold.1 h0]
      decide
    · obtain ⟨h1, hnext⟩ := hold.2 h0
      have hn : s.nextMap = 3 := congrArg (2 + ·) h1
      rw [hn] at hmap hother
      have h1' : w.persist.map1 = _ := hmap
      have h0' : w.persist.map0 = s.persist.map0 := hother 2 (by decide) (by decide) (by decide)
      rw [hn, State.nextMap, h0', h1', hvalid, hseq, hnext]
      decide
  exact (w.eraseAhead_spec.2.2 _ hb.1 hb.2 hne).trans hmap

theorem mapCheckpoint_completes {s : State} (h : s.persist.mapWriting = some s.nextMap)
    (hq : max s.persist.map0.seq s.persist.map1.seq < s.persist.mapImage.seq) (hv : s.persist.mapImage.valid = true) :
    ∃ t, exec (.mapCheckpointComplete true) s = .next t ∧ t.persist.mapWriting = none ∧ t.persist.mapDueAt = none ∧
      t.map s.nextMap = s.persist.mapImage.described ∧ t.ctr 0xA020 2 7 0 = (s.ctr 0xA020 2 7 0 + 1) % 4294967296 ∧ t.fab = s.fab ∧ t.lanes = s.lanes := by
  refine ⟨_, rfl, ?_⟩
  rw [mapEnd_good (s := s.quiet) h]
  have hwritten : (s.quiet.mapWritten s.nextMap).persist.mapWriting = none ∧ (s.quiet.mapWritten s.nextMap).persist.mapDueAt = none ∧
      (s.quiet.mapWritten s.nextMap).cnt = s.cnt ∧ (s.quiet.mapWritten s.nextMap).lanes = s.lanes ∧ (s.quiet.mapWritten s.nextMap).fab = s.fab := by
    unfold State.mapWritten State.setMap
    split <;> exact ⟨rfl, rfl, rfl, rfl, rfl⟩
  have hmap := s.quiet.mapWritten_spec (((s.quiet.mapWritten s.nextMap).count 0xA020 2 7 0).noteCond .checkpointDue false).pruneJournal
    (by simp [State.pruneJournal]; rfl) hq hv
  have hparts : (((s.quiet.mapWritten s.nextMap).count 0xA020 2 7 0).noteCond .checkpointDue false).persist = (s.quiet.mapWritten s.nextMap).persist ∧
      (((s.quiet.mapWritten s.nextMap).count 0xA020 2 7 0).noteCond .checkpointDue false).lanes = (s.quiet.mapWritten s.nextMap).lanes ∧
      (((s.quiet.mapWritten s.nextMap).count 0xA020 2 7 0).noteCond .checkpointDue false).fab = (s.quiet.mapWritten s.nextMap).fab := by simp
  have hctr : (((s.quiet.mapWritten s.nextMap).count 0xA020 2 7 0).noteCond .checkpointDue false).ctr 0xA020 2 7 0 = (s.ctr 0xA020 2 7 0 + 1) % 4294967296 := by
    rw [(State.noteCond_reads ..).2.2.2.2.2.2.2.2, State.ctr_count, State.ctr, hwritten.2.2.1]
    rfl
  generalize ((s.quiet.mapWritten s.nextMap).count 0xA020 2 7 0).noteCond .checkpointDue false = w at *
  generalize s.quiet.mapWritten s.nextMap = v at *
  obtain ⟨hwriting, hdue, -, hlanes, hfab⟩ := hwritten
  obtain ⟨hwp, hwl, hwf⟩ := hparts
  have herase := w.pruneJournal.eraseAhead_spec.1
  generalize w.pruneJournal.eraseAhead = t at *
  exact ⟨(congrArg (fun v : State => v.persist.mapWriting) herase :).trans ((congrArg Persist.mapWriting hwp :).trans hwriting),
    (congrArg (fun v : State => v.persist.mapDueAt) herase :).trans ((congrArg Persist.mapDueAt hwp :).trans hdue), hmap,
    (congrArg (fun v : State => v.ctr 0xA020 2 7 0) herase :).trans hctr, (congrArg State.fab herase :).trans (hwf.trans hfab),
    (congrArg State.lanes herase :).trans (hwl.trans hlanes)⟩

theorem mapCheckpoint_fails {s : State} {a : Nat} (h : s.persist.mapWriting = some a) :
    ∃ t, exec (.mapCheckpointComplete false) s = .next t ∧ t.persist.mapWriting = none ∧ t.persist.mapDueAt = s.persist.mapDueAt ∧
      t.ctr 0xA020 3 1 0 = (s.ctr 0xA020 3 1 0 + 1) % 4294967296 ∧ t.fab = s.fab ∧ t.lanes = s.lanes := by
  refine ⟨_, rfl, ?_⟩
  rw [mapEnd_bad (s := s.quiet) h]
  have hkeep : (((s.quiet.mapOver a).count 0xA020 3 1 0).badArea (8 + a) true).persist.mapWriting = none ∧
      (((s.quiet.mapOver a).count 0xA020 3 1 0).badArea (8 + a) true).persist.mapDueAt = s.persist.mapDueAt ∧
      (((s.quiet.mapOver a).count 0xA020 3 1 0).badArea (8 + a) true).fab = s.fab ∧
      (((s.quiet.mapOver a).count 0xA020 3 1 0).badArea (8 + a) true).lanes = s.lanes := ⟨rfl, rfl, rfl, rfl⟩
  have hctr : (((s.quiet.mapOver a).count 0xA020 3 1 0).badArea (8 + a) true).ctr 0xA020 3 1 0 = (s.ctr 0xA020 3 1 0 + 1) % 4294967296 :=
    State.ctr_count (s.quiet.mapOver a) ..
  generalize ((s.quiet.mapOver a).count 0xA020 3 1 0).badArea (8 + a) true = w at *
  obtain ⟨hwriting, hdue, hfab, hlanes⟩ := hkeep
  have herase := w.eraseAhead_spec.1
  generalize w.eraseAhead = t at *
  exact ⟨(congrArg (fun v : State => v.persist.mapWriting) herase :).trans hwriting, (congrArg (fun v : State => v.persist.mapDueAt) herase :).trans hdue,
    (congrArg (fun v : State => v.ctr 0xA020 3 1 0) herase :).trans hctr, (congrArg State.fab herase :).trans hfab, (congrArg State.lanes herase :).trans hlanes⟩

theorem mem_insKey_filter (n : Nat) (l : List Nat) (bad : Bool) :
    (if bad then insKey n (l.filter fun x => x != n) else l.filter fun x => x != n).contains n = bad := by
  cases bad
  · simp
  · simp [mem_insKey]

/-- The state in which an erase has ended (16 R425). -/
def State.eraseOver (s : State) (a : Nat) (ok : Bool) : State :=
  { s with persist.eraseAt := s.persist.eraseAt.set (a - 8) none, persist.erased := s.persist.erased.set (a - 8) ok }.badArea a !ok

theorem eraseEnd_area {s : State} {a : Fin 14} {ok : Bool} (h8 : 8 ≤ (a : Nat)) (h11 : (a : Nat) ≤ 11) (he : (s.erasingArea (a - 8)).isSome = true) :
    eraseEnd a ok s = (if ok then s else s.count 0xA020 3 2 0).eraseOver a ok := by
  unfold eraseEnd
  dsimp only
  rw [if_pos ⟨h8, h11⟩]
  have hnone (w : State) (hw : w.persist = s.persist) : ¬ (w.erasingArea (a - 8)).isNone = true := by
    rw [State.erasingArea, hw]
    simpa [State.erasingArea, Option.isSome_iff_ne_none] using he
  cases ok
  · exact if_neg (hnone (s.count 0xA020 3 2 0) rfl)
  · exact if_neg (hnone s rfl)

theorem erase_completes {s : State} {a : Fin 14} {ok : Bool} (hs : s.power.supRail = true) (h8 : 8 ≤ (a : Nat)) (h11 : (a : Nat) ≤ 11)
    (he : (s.erasingArea (a - 8)).isSome = true) :
    ∃ t, exec (.flashEraseComplete a ok) s = .next t ∧ t.persist.eraseAt = s.persist.eraseAt.set (a - 8) none ∧
      t.persist.erased = s.persist.erased.set (a - 8) ok ∧ (t.persist.badArea.contains (a : Nat) = !ok) ∧
      { t with persist := s.persist, cnt := s.cnt } = s.quiet := by
  refine ⟨s.fixed (eraseEnd a ok s.quiet), congrArg (fun w => Host.Outcome.next (s.fixed w)) (if_pos hs), ?_⟩
  rw [eraseEnd_area (s := s.quiet) h8 h11 he]
  have hw : ∃ w : State, (if ok then s.quiet else s.quiet.count 0xA020 3 2 0) = w ∧ w.persist = s.persist ∧ { w with cnt := s.cnt } = s.quiet := by
    cases ok
    · exact ⟨_, rfl, rfl, rfl⟩
    · exact ⟨_, rfl, rfl, rfl⟩
  obtain ⟨w, hw, hp, hkeep⟩ := hw
  rw [hw]
  refine ⟨?_, ?_, mem_insKey_filter .., (congrArg (fun v : State => { s.fixed v with persist := s.persist }) hkeep :)⟩
  · exact congrArg (fun p : Persist => p.eraseAt.set (a - 8) none) hp
  · exact congrArg (fun p : Persist => p.erased.set (a - 8) ok) hp

theorem budgetUnit_due {s : State} (hs : s.power.supRail = true) (ho : s.over s.persist.budgetAt 7200000000000 = true)
    (hc : s.erasedArea s.nextCopy = true) (hm : s.erasedArea s.nextMap = true) :
    budgetUnit s = { s with persist.budget := s.persist.budget.map fun b => min 24 (b + 1), persist.budgetAt := s.now } := by
  unfold budgetUnit
  rw [if_pos (by simp [hs, secs, ho])]
  exact State.eraseAhead_erased (s := { s with persist.budget := s.persist.budget.map fun b => min 24 (b + 1), persist.budgetAt := s.now }) hc hm

/-- Settles O59: the copy and the checkpoint just written outlive the erases in advance, since the next write goes to the other area. -/
theorem settingsAndMapsAreKeptInFlash : Obligations.SettingsAndMapsAreKeptInFlash := by
  refine ⟨fun s => ⟨fun rq arg x h hc hs he => commit_captures h hc hs he, commit_completes, commit_fails, fun rq x h hc => defaults_restored h hc⟩,
    fun s => ⟨fun hup hdue hw hadm he hb ho => ⟨_, rfl, ?_⟩, mapCheckpoint_completes, fun a => mapCheckpoint_fails, fun a ok hs h8 h11 he => erase_completes hs h8 h11 he,
      fun hs ho hc hm => ⟨_, rfl, congrArg s.fixed (budgetUnit_due (s := s.quiet) hs ho hc hm)⟩⟩⟩
  rw [mapStart_due (s := s.quiet) hup hdue hw hadm he hb ho]
  exact ⟨rfl, rfl, rfl, rfl⟩

end Sys2Proof.Machine
end

section
/-! PROOFS. Trials, the confirmation of an image, recovery and attestation (15 R402, R403, R405). -/

namespace Sys2Proof.Machine

/-! Headers (16 R423). -/

theorem Header.pend_setTrial (h : Header) (t : Nat) (p : Bool) (n : Nat) : (h.setTrial t p n).pend t = p := by
  unfold Header.setTrial Header.pend
  split <;> rfl

/-- All but what a write of the flash header changes. -/
def State.lessHeader (s : State) : State :=
  { s with sec.header := {}, sec.hdr0 := [], sec.hdr1 := [], persist.erases := [], persist.badArea := [], store.conds := [] }

theorem State.writeHeader_lessHeader (s : State) (f : Header → Header) : (s.writeHeader f).lessHeader = s.lessHeader := by
  unfold State.writeHeader State.putHeader
  dsimp only
  split
  all_goals exact (congrArg State.lessHeader (State.countErase_keeps _ _) :)

/-- A header goes to the copy that was not in force, and comes into force (16 R423). -/
theorem State.writeHeader_header (s : State) (f : Header → Header) :
    (s.writeHeader f).sec.header = { f s.sec.header with seq := (s.sec.header.seq + 1) % 4294967296, copy := if s.sec.header.copy = 0 then 1 else 0 } ∧
    (if s.sec.header.copy = 0 then (s.writeHeader f).sec.hdr1 = (s.writeHeader f).sec.header.bytes ∧ (s.writeHeader f).sec.hdr0 = s.sec.hdr0
      else (s.writeHeader f).sec.hdr0 = (s.writeHeader f).sec.header.bytes ∧ (s.writeHeader f).sec.hdr1 = s.sec.hdr1) := by
  have hsec (w : State) (c : Fin 14) : ((w.countErase c).badArea c false).sec = w.sec := (congrArg State.sec (w.countErase_keeps c) :)
  unfold State.writeHeader
  dsimp only
  rw [hsec]
  by_cases h : s.sec.header.copy = 0
  · simp [h, State.putHeader]
  · simp [h, State.putHeader]

/-! A supervisor restart, into the firmware or into recovery (15 R402, R403). -/

/-- A restart shuts the supervisor down in the same way whether it then boots or enters recovery (01 R16; 15 R403). -/
theorem State.supRestart_shuts {s : State} (hr : s.power.supRail = true) (hs : s.power.seated = true) (c : Nat) :
    (s.supRestart c true).Restarted c (s.count 0x8000 1 3 0).traffic ∧ ∃ w : State, s.supRestart c true = w.recovery := by
  obtain ⟨htraffic, hsessions⟩ := s.cutOff_spec
  have hmon {β : Type} (π : State → β) (hπ : ∀ t e f, π (t.modMon e f) = π t) (es : List Entity) (f : Entity → Mon → Mon) (t : State) :
      π (t.each es fun e u => u.modMon e (f e)) = π t := State.each_keep π es _ (fun e u => hπ u e (f e)) t
  simp only [State.supRestart, hr, hs, Bool.not_true, Bool.or_self, Bool.false_eq_true, if_false, if_true]
  refine ⟨.recovery (.checkSealed (.eachPair ?_ _ _)), _, rfl⟩
  refine ⟨rfl, rfl, ?_, rfl, rfl, ?_⟩
  · exact (hmon (·.mgmt.sessions) (fun t e f => congrArg Mgmt.sessions (t.modMon_frame e f).2.2) _ _ _).trans hsessions
  · exact (hmon State.traffic (fun t e f => (t.modMon_frame e f).1) _ _ _).trans htraffic

/-- In recovery no firmware runs (15 R403). -/
theorem State.recovery_stops (s : State) : s.recovery.sup.state = 3 ∧ s.recovery.sec.running = 255 := by
  have h := { s with sec.running := 255, sup.state := 3, sup.up := false, sup.restarting := false }.audit_lessAnswers (moduleRec 8 0x1020 1 0 (255 * 256 + 3))
  exact ⟨(congrArg (fun w : State => w.sup.state) h :), (congrArg (fun w : State => w.sec.running) h :)⟩

/-! The commands. -/

/-- A write of the header with its record leaves what is neither an answer's nor the header's (15 R394; 16 R423). -/
theorem State.writeHeader_audited (s : State) (f : Header → Header) (r : AuditRec) :
    ((s.writeHeader f).audit r).lessAnswers.lessHeader = s.lessAnswers.lessHeader :=
  (congrArg State.lessHeader ((s.writeHeader f).audit_lessAnswers r)).trans (congrArg State.lessAnswers (s.writeHeader_lessHeader f) :)

theorem State.auditImage_mgmt (s : State) (sub t : Nat) : (s.auditImage sub t).mgmt = s.mgmt := by simp [State.auditImage]

theorem State.writeHeader_mgmt (s : State) (f : Header → Header) (sub t : Nat) : ((s.writeHeader f).auditImage sub t).mgmt = s.mgmt :=
  (State.auditImage_mgmt ..).trans (s.writeHeader_frame f).2.2

theorem effTrial_valid {s : State} {n : Nat} (h : s.imageValid n = true) (x : Session) :
    effTrial x [n] s = .done ((s.writeHeader fun h => h.setTrial n true 0).auditImage 2 n) {} State.startTrialBoot := by
  simp only [effTrial, List.headD_cons, guardAct, h, Bool.not_true, Bool.false_eq_true, if_false]

theorem trial_starts {s : State} {rq : Rq} {n : Nat} {x : Session} (hn : n < 2) (h : Writes rq 0x1030 2 0 (u8 n) x s)
    (hv : s.imageValid n = true) (hr : s.power.supRail = true) (hs : s.power.seated = true) (hport : s.power.portRail = true) :
    ∃ t, exec (.startTrial rq n) s = .next t ∧ Answered 2 (writeReq rq 0x1030 2 0 (u8 n)) 0 t ∧ t.sup.up = false ∧ t.sup.lastCause = 4 ∧
      t.mgmt.sessions = [] ∧ t.lanes = s.lanes ∧ t.lease = s.lease ∧ t.fab.active = s.fab.active ∧ t.persist.dict = s.persist.dict := by
  obtain ⟨o, ho, hsplit⟩ : ∃ o, findObj 0x1030 2 = some o ∧ o.split (u8 n) = [n] :=
    ⟨_, rfl, splitFields_joinFields (.cons (show n < 256 ^ 1 by omega) .nil)⟩
  obtain ⟨m, hm⟩ := s.quiet_heard rq.session
  have heff := effTrial_valid (s := s.hearing m) hv x
  have hmgmt := (s.hearing m).writeHeader_mgmt (fun h => h.setTrial n true 0) 2 n
  rw [← hsplit, ← hm] at heff
  rw [← hm] at hmgmt
  obtain ⟨r, hrun, hans, hless, -⟩ := run_writeOf_then h ho (by decide) (by decide) (by decide) heff hmgmt
  rw [hm] at hless
  have hkeep : r.lessAnswers.lessHeader = s.lessAnswers.lessHeader :=
    (congrArg State.lessHeader hless).trans ((s.hearing m).writeHeader_audited _ _)
  have hpower : r.power = s.power := (congrArg State.power hkeep :)
  have hdown : (r.supRestart 4).Restarted 4 (r.count 0x8000 1 3 0).traffic :=
    State.supRestart_restarted (by rw [hpower]; exact hr) (by rw [hpower]; exact hs) 4
  have hboot : r.startTrialBoot = r.supRestart 4 := if_neg fun hc => by simp [hpower, hport] at hc
  rw [hboot] at hrun
  have hgoing := hdown.traffic
  exact ⟨_, hrun, hans.of_out (congrArg Traffic.out hgoing), hdown.up, hdown.cause, hdown.sessions,
    (congrArg Traffic.lanes hgoing :).trans (congrArg State.lanes hkeep :), (congrArg Traffic.lease hgoing :).trans (congrArg State.lease hkeep :),
    (congrArg Traffic.active hgoing :).trans (congrArg (fun w : State => w.fab.active) hkeep :),
    (congrArg Traffic.dict hgoing :).trans (congrArg (fun w : State => w.persist.dict) hkeep :)⟩

/-- The state with the running image confirmed, before its record (15 R402). -/
def State.confirmed (s : State) : State :=
  { s.writeHeader fun h => { h.setTrial s.sec.running false 0 with preferred := s.sec.running } with
    sec.floor := max s.sec.floor (s.slot s.sec.running).secVersion }

theorem effConfirm_running {s : State} (hrun : s.sec.running < 2) (hp : s.sec.header.pend s.sec.running = true) (x : Session) (vs : List Nat) :
    effConfirm x vs s = ok (s.confirmed.auditImage 3 s.sec.running) := by
  have hless := s.writeHeader_lessHeader fun h => { h.setTrial s.sec.running false 0 with preferred := s.sec.running }
  have hfloor : ∀ w : State, w.lessHeader = s.lessHeader →
      { w with sec.floor := max w.sec.floor (w.slot s.sec.running).secVersion } = { w with sec.floor := max s.sec.floor (s.slot s.sec.running).secVersion } := by
    intro w hw
    have hf : w.sec.floor = s.sec.floor := (congrArg (fun w : State => w.sec.floor) hw :)
    have hslot : w.slot s.sec.running = s.slot s.sec.running := (congrArg (fun w : State => State.slot w s.sec.running) hw :)
    rw [hf, hslot]
  simp only [effConfirm, guardAct, hrun, hp, decide_true, Bool.and_true, Bool.not_true, Bool.false_eq_true, if_false]
  rw [hfloor _ hless]
  rfl

theorem State.confirmed_spec (s : State) : s.confirmed.sec.header.preferred = s.sec.running ∧ s.confirmed.sec.header.pend s.sec.running = false ∧
    s.confirmed.sec.floor = max s.sec.floor (s.slot s.sec.running).secVersion ∧
    (if s.sec.header.copy = 0 then s.confirmed.sec.hdr1 = s.confirmed.sec.header.bytes ∧ s.confirmed.sec.hdr0 = s.sec.hdr0
      else s.confirmed.sec.hdr0 = s.confirmed.sec.header.bytes ∧ s.confirmed.sec.hdr1 = s.sec.hdr1) ∧
    { s.confirmed.lessHeader with sec.floor := 0 } = { s.lessHeader with sec.floor := 0 } := by
  obtain ⟨hheader, hcopies⟩ := s.writeHeader_header fun h => { h.setTrial s.sec.running false 0 with preferred := s.sec.running }
  have hless := s.writeHeader_lessHeader fun h => { h.setTrial s.sec.running false 0 with preferred := s.sec.running }
  unfold State.confirmed
  generalize s.writeHeader _ = w at *
  refine ⟨(congrArg Header.preferred hheader :), ?_, rfl, hcopies, (congrArg (fun w : State => { w with sec.floor := 0 }) hless :)⟩
  show w.sec.header.pend s.sec.running = false
  rw [hheader]
  exact s.sec.header.pend_setTrial s.sec.running false 0

theorem State.confirmed_mgmt (s : State) : s.confirmed.mgmt = s.mgmt := by
  obtain ⟨-, -, -, -, hkeep⟩ := s.confirmed_spec
  generalize s.confirmed = w at *
  exact (congrArg State.mgmt hkeep :)

theorem image_confirmed {s : State} {rq : Rq} {arg : Byte} {x : Session} (h : Writes rq 0x1030 3 0 [arg] x s) (hrun : s.sec.running < 2)
    (hp : s.sec.header.pend s.sec.running = true) :
    ∃ t, exec (.confirmImage rq arg) s = .next t ∧ Answered 2 (writeReq rq 0x1030 3 0 [arg]) 0 t ∧
      t.sec.header.preferred = s.sec.running ∧ t.sec.header.pend s.sec.running = false ∧
      t.sec.floor = max s.sec.floor (s.slot s.sec.running).secVersion ∧
      (if s.sec.header.copy = 0 then t.sec.hdr1 = t.sec.header.bytes ∧ t.sec.hdr0 = s.sec.hdr0
        else t.sec.hdr0 = t.sec.header.bytes ∧ t.sec.hdr1 = s.sec.hdr1) ∧
      { t.lessAnswers with sec.header := s.sec.header, sec.hdr0 := s.sec.hdr0, sec.hdr1 := s.sec.hdr1, sec.floor := s.sec.floor, persist.erases := s.persist.erases, persist.badArea := s.persist.badArea } = s.lessAnswers := by
  obtain ⟨o, ho⟩ : ∃ o, findObj 0x1030 3 = some o := ⟨_, rfl⟩
  obtain ⟨t, u, hexec, hw, m, hu⟩ := run_writeOf_wrote (eff := effConfirm) (P := fun u => ∃ m, u.lessAnswers = (s.hearing m).confirmed.lessAnswers) h ho
    (by decide) (by decide) (by decide) fun m => by
      refine ⟨_, effConfirm_running (s := s.hearing m) hrun hp x _, ?_, m, State.audit_lessAnswers ..⟩
      rw [State.auditImage_mgmt, State.confirmed_mgmt]
      rfl
  obtain ⟨hpref, hpend, hfloor, hcopies, hkeep⟩ := (s.hearing m).confirmed_spec
  have hless : t.lessAnswers = s.fixed (s.hearing m).confirmed.lessAnswers := hw.less.trans (congrArg s.fixed hu :)
  generalize (s.hearing m).confirmed = w at *
  have hheader : t.sec.header = w.sec.header := (congrArg (fun w : State => w.sec.header) hless :)
  have h0 : t.sec.hdr0 = w.sec.hdr0 := (congrArg (fun w : State => w.sec.hdr0) hless :)
  have h1 : t.sec.hdr1 = w.sec.hdr1 := (congrArg (fun w : State => w.sec.hdr1) hless :)
  refine ⟨t, hexec, hw.answered, hheader ▸ hpref, hheader ▸ hpend, (congrArg (fun w : State => w.sec.floor) hless :).trans hfloor, ?_, ?_⟩
  · rw [hheader, h0, h1]
    exact hcopies
  · refine (congrArg (fun w : State => { w with sec.header := s.sec.header, sec.hdr0 := s.sec.hdr0, sec.hdr1 := s.sec.hdr1, sec.floor := s.sec.floor, persist.erases := s.persist.erases, persist.badArea := s.persist.badArea }) hless :).trans ?_
    exact (congrArg (fun w : State => { s.fixed w.lessAnswers with sec.header := s.sec.header, sec.hdr0 := s.sec.hdr0, sec.hdr1 := s.sec.hdr1, sec.floor := s.sec.floor, persist.erases := s.persist.erases, persist.badArea := s.persist.badArea }) hkeep :)

theorem recovery_entered {s : State} {rq : Rq} {arg : Byte} {x : Session} (h : Writes rq 0x1030 4 0 [arg] x s) (hr : s.power.supRail = true)
    (hs : s.power.seated = true) :
    ∃ t, exec (.enterRecovery rq arg) s = .next t ∧ Answered 2 (writeReq rq 0x1030 4 0 [arg]) 0 t ∧ t.sup.state = 3 ∧ t.sup.up = false ∧
      t.sec.running = 255 ∧ t.mgmt.sessions = [] ∧ t.lanes = s.lanes ∧ t.lease = s.lease ∧ t.fab.active = s.fab.active := by
  obtain ⟨o, ho⟩ : ∃ o, findObj 0x1030 4 = some o := ⟨_, rfl⟩
  obtain ⟨r, hrun, hans, hless, -⟩ := run_writeOf_then (eff := effRecovery) h ho (by decide) (by decide) (by decide) rfl rfl
  obtain ⟨m, hm⟩ := s.quiet_heard rq.session
  rw [hm] at hless
  have hpower : r.power = s.power := (congrArg State.power hless :)
  obtain ⟨hdown, w, hw⟩ := State.supRestart_shuts (s := r) (by rw [hpower]; exact hr) (by rw [hpower]; exact hs) 4
  obtain ⟨hstate, hrunning⟩ := w.recovery_stops
  have hwhole := hdown.traffic
  refine ⟨_, hrun, hans.of_out (congrArg Traffic.out hwhole), ?_, hdown.up, ?_, hdown.sessions,
    (congrArg Traffic.lanes hwhole :).trans (congrArg State.lanes hless :), (congrArg Traffic.lease hwhole :).trans (congrArg State.lease hless :),
    (congrArg Traffic.active hwhole :).trans (congrArg (fun w : State => w.fab.active) hless :)⟩
  · exact (congrArg (fun w : State => w.sup.state) hw :).trans hstate
  · exact (congrArg (fun w : State => w.sec.running) hw :).trans hrunning

theorem nonce_taken {s : State} {rq : Rq} {b : Bytes} {x : Session} (h : Writes rq 0x9040 1 0 b x s) :
    ∃ t, exec (.attestationNonce rq b) s = .next t ∧ Answered 2 (writeReq rq 0x9040 1 0 b) 0 t ∧
      (∀ j, tget {} t.sec.reports j = if j = rq.session then { nonce := b, since := s.now } else tget {} s.sec.reports j) ∧
      { t.lessAnswers with sec.reports := s.sec.reports } = s.lessAnswers := by
  obtain ⟨o, ho⟩ : ∃ o, findObj 0x9040 1 = some o := ⟨_, rfl⟩
  obtain ⟨t, u, hrun, hw, m, hu⟩ := run_writeOf_wrote (eff := effNonce rq.session b)
    (P := fun u => ∃ m, u = { s.hearing m with sec.reports := tput {} s.sec.reports rq.session { nonce := b, since := s.now } }) h ho (by decide)
    (by decide) (by decide) fun m => ⟨_, rfl, rfl, m, rfl⟩
  have hless := hw.less
  rw [hu] at hless
  refine ⟨t, hrun, hw.answered, fun j => ?_, (congrArg (fun w : State => { w with sec.reports := s.sec.reports }) hless :)⟩
  rw [show t.sec.reports = _ from (congrArg (fun w : State => w.sec.reports) hless :)]
  exact tget_tput ..

/-- The report on a nonce, with its signature (15 R405). -/
theorem reportReady_eq {s : State} {id : Nat} (hs : s.serves = true) (hx : (s.session? id).isSome = true)
    (hn : (tget {} s.sec.reports id).nonce ≠ []) (hr : (tget {} s.sec.reports id).report = none) :
    reportReady id s = { s with sec.reports := tput {} s.sec.reports id { tget {} s.sec.reports id with
      report := some (s.reportBytes (tget {} s.sec.reports id).nonce ++
        padTo 384 (Config.identitySignature (s.reportBytes (tget {} s.sec.reports id).nonce))) } } := by
  unfold reportReady
  rw [if_neg (by simpa [hs, Option.isSome_iff_ne_none] using hx)]
  dsimp only
  rw [if_neg (by simp [hn, hr])]

/-- Settles O40: each command by the header, the restart, or the report that it makes. -/
theorem imagesTrialsAndReports : Obligations.ImagesTrialsAndReports := fun s => by
  refine ⟨fun rq n x hn h hv hr hs hp => trial_starts hn h hv hr hs hp, fun rq arg x h hrun hp => image_confirmed h hrun hp,
    fun rq arg x h hr hs => recovery_entered h hr hs, fun rq b x h => nonce_taken h, fun id hs hx hn hr => ⟨_, rfl, ?_⟩⟩
  rw [reportReady_eq (s := s.quiet) hs hx hn hr]
  exact ⟨congrArg Attest.report (tget_tput_same ..), rfl⟩

end Sys2Proof.Machine
end

section
/-! PROOFS. What a start-up leaves of the feeds, the presence and the resets (16 R414 to R421). -/

namespace Sys2Proof.Machine

@[simp] theorem State.each_power {α : Type} {f : α → State → State} (h : ∀ a s, (f a s).power = s.power) (s : State) (l : List α) :
    (s.each l f).power = s.power := State.each_keep State.power l f h s

@[simp] theorem State.ite_power (c : Prop) [Decidable c] (s t : State) : (if c then s else t).power = if c then s.power else t.power :=
  apply_ite State.power c s t

@[simp] theorem State.modStream_power (s : State) (k : Nat) (f : Raw → Raw) : (s.modStream k f).power = s.power := rfl

@[simp] theorem State.modRx_power (s : State) (k : Nat) (f : RxStream → RxStream) : (s.modRx k f).power = s.power := rfl

@[simp] theorem State.modTx_power (s : State) (k : Nat) (f : TxStream → TxStream) : (s.modTx k f).power = s.power := rfl

@[simp] theorem State.settleTx_power (s : State) (k : Nat) : (s.settleTx k).power = s.power := by simp [State.settleTx]

@[simp] theorem State.settleRx_power (s : State) (k : Nat) : (s.settleRx k).power = s.power := by simp [State.settleRx]

@[simp] theorem State.orphanStreams_power (s : State) : s.orphanStreams.power = s.power := by simp [State.orphanStreams]

@[simp] theorem State.reloadStreams_power (s : State) : s.reloadStreams.power = s.power := by
  unfold State.reloadStreams
  extract_lets a b c d
  calc _ = d.power := State.each_power (fun _ _ => State.modTx_power ..) d _
    _ = c.power := State.each_power (fun _ _ => by simp) c _
    _ = b.power := State.each_power (fun _ _ => State.modRx_power ..) b _
    _ = a.power := State.each_power (fun _ _ => by simp) a _
    _ = s.power := State.orphanStreams_power s

@[simp] theorem State.mapDue_power (s : State) : s.mapDue.power = s.power := by simp [State.mapDue]

/-! Tamper, as the detectors that get power find it (15 R406). -/

@[simp] theorem State.emptyRecords_power (s : State) : s.emptyRecords.power = s.power := by simp [State.emptyRecords]

@[simp] theorem State.dropDataKeys_power (s : State) : s.dropDataKeys.power = s.power := by
  unfold State.dropDataKeys
  extract_lets _ a _ b _ c _ d e _ f
  have ha : a.power = s.power := State.emptyRecords_power _
  clear_value a
  have he : e.power = a.power := State.each_power (fun k t => t.settleTx_power k) d _
  clear_value e
  exact (State.each_power (fun _ _ => by simp) f _).trans (he.trans ha)

@[simp] theorem State.eraseKeys_power (s : State) (cause : Nat) : (s.eraseKeys cause).power = s.power := by simp [State.eraseKeys]

@[simp] theorem State.tamper_power (s : State) : s.tamper.power = s.power := by simp [State.tamper]

@[simp] theorem State.senseTamper_power (s : State) : s.senseTamper.power = s.power := by
  simp only [State.senseTamper]
  repeat' split
  all_goals simp

/-! The boot ROM (15 R400; 16 R423). -/

theorem State.countErase_power (s : State) (n : Fin 14) : (s.countErase n).power = s.power := (congrArg State.power (s.countErase_keeps n) :)

@[simp] theorem State.writeHeader_power (s : State) (f : Header → Header) : (s.writeHeader f).power = s.power :=
  (congrArg State.power (s.writeHeader_lessHeader f) :)

theorem State.takeHeader_power (s : State) : s.takeHeader.power = s.power := by
  have hcount (w : State) : ((w.countErase 0).badArea 0 false).power = w.power := w.countErase_power 0
  unfold State.takeHeader
  split
  · rfl
  · rfl
  · rfl
  · exact hcount _

@[simp] theorem State.auditBoot_power (s : State) (slot result : Nat) : (s.auditBoot slot result).power = s.power := by
  unfold State.auditBoot
  split <;> simp

@[simp] theorem State.recovery_power (s : State) : s.recovery.power = s.power := by simp [State.recovery]

@[simp] theorem State.bootSlot_power (s : State) : s.bootSlot.power = s.power := by
  have hite (b : Bool) (w : State) (f : Header → Header) : (if b then w.writeHeader f else w).power = w.power := by cases b <;> simp
  simp only [State.bootSlot]
  split <;> simp [hite]

@[simp] theorem State.modSlot_power (s : State) (t : Nat) (f : Slot → Slot) : (s.modSlot t f).power = s.power := by
  unfold State.modSlot
  split <;> rfl

theorem State.failTags_power (s : State) (a b : Bool) : (s.failTags a b).power = s.power := by
  unfold State.failTags State.spoilSlot
  cases a <;> cases b <;> simp

theorem State.damage_power (s : State) (areas : List (Fin 14)) : (s.damage areas).power = s.power := by
  refine State.each_power (fun a t => ?_) s areas
  have hcopy (n : Nat) (c : DictCopy) : (t.setCopy n c).power = t.power := by unfold State.setCopy; split <;> rfl
  have hmap (n : Nat) (i : Image) : (t.setMap n i).power = t.power := by unfold State.setMap; split <;> rfl
  split <;> simp [State.badArea, State.spoilSlot, hcopy, hmap]

theorem State.noteWear_power (s : State) : s.noteWear.power = s.power := State.each_power (fun _ t => by simp) _ _

theorem State.eraseAhead_power (s : State) : s.eraseAhead.power = s.power := (congrArg State.power s.eraseAhead_spec.1 :)

theorem State.restoreDict_power (s : State) : s.restoreDict.power = s.power := by
  unfold State.restoreDict
  split <;> simp [State.restorePairs]

theorem State.restoreMap_power (s : State) : s.restoreMap.power = s.power := by simp [State.restoreMap]

/-! The traffic (16 R418, R420, R421). -/

/-- The supply without the progress of start-up: what start-up only reads. -/
def Power.still (p : Power) : Power := { p with portRail := false, portFault := false, toTraffic := 0, removed := [], step := 0, fail := false }

theorem State.startPortDie_power (s : State) : s.startPortDie.power = { s.power with portRail := true, portFault := false } := by
  simp only [State.startPortDie]
  rw [(State.watchTiming_frame _).1]
  simp only [State.evalRefs_frame]
  refine State.each_keep State.power _ _ (fun l t => ?_) _
  split <;> simp

theorem State.loadMap_still (s : State) : s.loadMap.power.still = s.power.still := by
  unfold State.loadMap
  extract_lets i _ _ _
  split
  next a b _ =>
    extract_lets gone a' b' t u v w
    have hu : u.power = t.power := by simp [u]
    clear_value u
    have hw : w.power = u.power := by simp [w, v]
    clear_value w
    rw [State.ite_power, State.mapDue_power, ite_self, hw, hu]
    rfl

theorem State.startEngine_power (s : State) (e : EngId) (bad : List (Fin 640)) (good : Bool) : (s.startEngine e bad good).power = s.power := by
  unfold State.startEngine State.unusableEngine State.recordFail
  dsimp only
  split
  · simp
  · cases good <;> simp

theorem State.startTraffic_still (s : State) (o : BootObs) : (s.startTraffic o).power.still = s.power.still := by
  unfold State.startTraffic
  rw [(State.watchEngines_frame _).2.1]
  show (State.power (State.startEngine _ _ _ _)).still = _
  rw [State.startEngine_power, State.startEngine_power, State.loadMap_still, State.startPortDie_power]
  rfl

/-! Start-up as a whole (16 R418). -/

/-- The supervisor's part of a start-up, from rails that are good to the boot slot (16 R418). -/
def State.bootRails (s : State) (o : BootObs) : State :=
  let s := { s with power.supRail := true, sup.startedAt := s.now, sup.windowAt := s.now, sup.passAt := s.now, sup.banks := startBanks o.badBanks }
  let s := ((s.damage o.damaged).failTags o.tagA o.tagB).takeHeader
  { s with persist.headerTaken := s.sec.header.copy }.bootSlot.noteWear

theorem State.bootRails_power (s : State) (o : BootObs) : (s.bootRails o).power = { s.power with supRail := true } := by
  unfold State.bootRails
  dsimp only
  rw [State.noteWear_power, State.bootSlot_power]
  dsimp only
  rw [State.takeHeader_power, State.failTags_power, State.damage_power]

/-- The state in which a start-up begins (16 R418). -/
def State.starting (s : State) (cause : Nat) : State :=
  { s.volatileLost with
    power.cause := cause, power.startAt := s.now, power.retryAt := none
    tim.ocxoOn := s.tim.ocxoOn.orElse fun _ => some s.now }

theorem State.startUp_bad {s : State} {o : BootObs} (h : o.railsGood = false) (cause : Nat) :
    s.startUp o cause = (s.starting cause).internalReset 2 1000000000 := by
  unfold State.startUp
  dsimp only
  rw [if_pos (by simp [h])]
  rfl

/-- What follows the boot slot: recovery, a scratchpad that is not good enough, or the traffic (15 R403; 16 R418). -/
def State.booted (s : State) (o : BootObs) : State :=
  if s.sup.state = 3 then { s with power.step := 3 }.senseTamper
  else if 9 ≤ o.badBanks.eraseDups.length then { s.recovery with power.step := 4 }.senseTamper
  else
    let s := { s with sup.up := true }.restoreDict
    ({ s.restoreMap with pm.offset := s.cfg 0x6000 2 0 }.startTraffic o).eraseAhead.senseTamper

theorem State.booted_still (s : State) (o : BootObs) : (s.booted o).power.still = s.power.still := by
  unfold State.booted
  split
  · rw [State.senseTamper_power]
    rfl
  · split
    · rw [State.senseTamper_power]
      exact (congrArg Power.still s.recovery_power :)
    · dsimp only
      rw [State.senseTamper_power, State.eraseAhead_power, State.startTraffic_still]
      dsimp only
      rw [State.restoreMap_power, State.restoreDict_power]

theorem State.startUp_good {s : State} {o : BootObs} (h : o.railsGood = true) (cause : Nat) :
    s.startUp o cause = ((s.starting cause).bootRails o).booted o := by
  unfold State.startUp State.booted State.bootRails State.starting
  dsimp only
  exact if_neg (by simp [h])

/-- With good rails the supervisor starts, under the cause given, and nothing that starts it changes (16 R414, R418). -/
theorem State.startUp_still {s : State} {o : BootObs} (h : o.railsGood = true) (cause : Nat) :
    (s.startUp o cause).power.still = { s.power.still with supRail := true, cause := cause, startAt := s.now, retryAt := none } := by
  rw [State.startUp_good h, State.booted_still, State.bootRails_power]
  rfl

end Sys2Proof.Machine
end

section
/-! PROOFS. Resets, start-up and its end, and power-fail (16 R414 to R418, R430, R431). -/

namespace Sys2Proof.Machine

/-! What a reset leaves of the key store (11 R294; 16 R415). -/

theorem State.volatileLost_keySlot (s : State) (k : Nat) : (s.volatileLost.keySlot k).cur = none :=
  tget_tmap_of (P := fun x : KeySlot => x.cur = none) (f := fun _ x => { mark := x.mark }) rfl (fun _ _ => rfl) s.sealing.slots k

theorem State.volatileLost_mark {s : State} (h : twf {} s.sealing.slots) (k : Nat) : (s.volatileLost.keySlot k).mark = (s.keySlot k).mark :=
  (congrArg KeySlot.mark (tget_tmap (d := {}) (f := fun _ x => ({ mark := x.mark } : KeySlot)) (fun _ => rfl) h k) :)

/-! Start-up after a reset condition (16 R414, R415). -/

theorem releaseReset_idle {s : State} (o : BootObs) (h : s.power.resetN = false) (hs : { s with power.resetN := true }.startable = false) :
    releaseReset o s = { s with power.resetN := true } := by
  unfold releaseReset
  rw [if_neg (by simp [h])]
  exact if_neg (by simp [hs])

theorem releaseReset_starts {s : State} (o : BootObs) (h : s.power.resetN = false) (hs : { s with power.resetN := true }.startable = true) :
    releaseReset o s = { s with power.resetN := true }.startUp o 1 := by
  unfold releaseReset
  rw [if_neg (by simp [h])]
  exact if_pos hs

theorem seat_idle {s : State} (o : BootObs) (h : s.power.seated = false)
    (hs : { s with power.present := [false, false], power.seated := true }.startable = false) :
    seat o s = { s with power.present := [false, false], power.seated := true } := by
  unfold seat
  rw [if_neg (by simp [h])]
  exact if_neg (by simp [hs])

theorem seat_starts {s : State} (o : BootObs) (h : s.power.seated = false)
    (hs : { s with power.present := [false, false], power.seated := true }.startable = true) :
    seat o s = { s with power.present := [false, false], power.seated := true }.startUp o 3 := by
  unfold seat
  rw [if_neg (by simp [h])]
  exact if_pos hs

theorem startAgain_starts {s : State} (o : BootObs) {b : Nat} (ht : s.power.retryAt = some b) (hi : s.power.internal = true) (hb : b ≤ s.now)
    (hth : s.power.thermal = false) (hs : { s with power.internal := false, power.retryAt := none }.startable = true) :
    startAgain o s = { s with power.internal := false, power.retryAt := none }.startUp o s.power.cause := by
  have hp : s.powered = true := by
    simp only [State.startable, Bool.and_eq_true] at hs
    exact hs.2
  unfold startAgain
  rw [ht]
  exact (if_pos (by simp [hi, hb, hth, hp])).trans (if_pos hs)

/-- Of a start-up with good rails: what it shows, and what it only reads (16 R418). -/
theorem State.startUp_power {s : State} {o : BootObs} (h : o.railsGood = true) (cause : Nat) :
    (s.startUp o cause).power.supRail = true ∧ (s.startUp o cause).power.cause = cause ∧ (s.startUp o cause).power.startAt = s.now ∧
    (s.startUp o cause).power.resetN = s.power.resetN ∧ (s.startUp o cause).power.seated = s.power.seated ∧
    (s.startUp o cause).power.internal = s.power.internal ∧ (s.startUp o cause).power.valid = s.power.valid := by
  have hstill := s.startUp_still h cause
  generalize s.startUp o cause = t at *
  exact ⟨(congrArg Power.supRail hstill :), (congrArg Power.cause hstill :), (congrArg Power.startAt hstill :), (congrArg Power.resetN hstill :),
    (congrArg Power.seated hstill :), (congrArg Power.internal hstill :), (congrArg Power.valid hstill :)⟩

/-! STARTUP_COMPLETE (16 R416). -/

theorem startupEnd_spec {s : State} (h : (s.power.step = 8 ∧ s.lease.admitted = true) ∨
      ((s.power.step = 3 ∨ s.power.step = 4 ∨ s.power.step = 8) ∧ s.powered = true ∧ s.over s.power.startAt 30000000000 = true)) :
    (startupEnd s).power.step = 9 ∧ (s.sup.state = 0 → s.sup.restarting = false → (startupEnd s).sup.state = 1) ∧
    (startupEnd s).lanes = s.lanes ∧ (startupEnd s).persist = s.persist ∧ (startupEnd s).fab = s.fab := by
  unfold startupEnd
  rw [if_pos (by simpa [secs] using h)]
  simp only [State.watchEngines_frame, State.watchEngines_lanes]
  exact ⟨trivial, fun h0 hr => if_pos ⟨h0, hr⟩, trivial, trivial, trivial⟩

/-! Power-fail (16 R430, R431). -/

/-- What both engines, the fabric's active page, the seal, the pair writes and the armed activation are. -/
structure Outage where
  power : Power
  engA : Engine
  engB : Engine
  active : List Entry
  kwk : Option (BitVec 256)
  writes : List PairWrite
  armed : Option Armed

def State.outage (s : State) : Outage := ⟨s.power, s.engA, s.engB, s.fab.active, s.sealing.kwk, s.prot.writes, s.edit.armed⟩

theorem State.postUnit_outage (s : State) (h : Nat) (es : List Bytes) (q : Bool) : (s.postUnit h es q).outage = s.outage := by simp [State.outage]

theorem State.failTrans_outage (s : State) (t : Trans) : (s.failTrans t).outage = s.outage := by
  unfold State.failTrans
  dsimp only
  generalize hw : (if s.misdirected _ = true then _ else s) = w
  have hwo : w.outage = s.outage := by
    rw [← hw]
    split <;> rfl
  split
  · exact hwo
  · split
    · exact hwo
    · exact (State.postUnit_outage ..).trans hwo

theorem State.failFlight_outage (s : State) : s.failFlight.outage = s.outage := by
  unfold State.failFlight
  exact State.each_keep State.outage _ _ (fun t w => w.failTrans_outage t) _

theorem State.failWrites_outage (s : State) : s.failWrites.outage = { s.outage with writes := [] } := by
  unfold State.failWrites
  exact State.each_keep State.outage _ _ (fun w t => by simp [State.outage]) _

theorem State.audit_outage (s : State) (r : AuditRec) : (s.audit r).outage = s.outage := by simp [State.outage]

theorem State.activationOut_outage (s : State) (a : Armed) (e : Bytes) : (s.activationOut a e).outage = s.outage := by
  have hone (b : Prop) [Decidable b] (w : State) : (if b then w.postUnit a.hopper [e] else w).outage = w.outage := by
    split
    · exact State.postUnit_outage ..
    · rfl
  unfold State.activationOut
  refine (State.each_keep State.outage _ _ (fun h w => w.postUnit_outage h [e] true) _).trans ((hone ..).trans ?_)
  exact State.audit_outage { s with edit.lastEntry := e } _

theorem State.cancelArmed_outage (s : State) (status detail : Nat) : (s.cancelArmed status detail).outage = { s.outage with armed := none } := by
  unfold State.cancelArmed
  split
  next h => simp [State.outage, h]
  next a h => exact State.activationOut_outage ..

theorem State.abandonMap_outage (s : State) : s.abandonMap.outage = s.outage := by
  unfold State.abandonMap
  split <;> rfl

theorem State.modEngine_outage (s : State) (e : EngId) (f : Engine → Engine) :
    { (s.modEngine e f).outage with engA := s.engA, engB := s.engB } = s.outage := by
  unfold State.modEngine
  split <;> rfl

/-- A failure of an engine concerns nothing but the engine (08 R216). -/
theorem State.failEngine_outage (s : State) (e : EngId) (cause : Nat) :
    { (s.failEngine e cause).outage with engA := s.engA, engB := s.engB } = s.outage := by
  have hevent (w : State) (a b c d : Nat) (p : Bytes) : (w.event a b c d p).outage = w.outage := by simp [State.outage]
  unfold State.failEngine State.recordFail
  dsimp only
  generalize hw : State.event _ _ _ _ _ _ = w
  have hwo : { w.outage with engA := s.engA, engB := s.engB } = s.outage := by
    rw [← hw, hevent]
    exact s.modEngine_outage e _
  exact (congrArg (fun x : Outage => { x with engA := s.engA, engB := s.engB }) (w.modEngine_outage e _) :).trans hwo

theorem State.revoke_outage (s : State) (cause : Nat) : { (s.revoke cause).outage with engA := s.engA, engB := s.engB } = s.outage := by
  unfold State.revoke
  split
  · rfl
  next e h =>
    dsimp only
    rw [State.abandonMap_outage]
    exact s.failEngine_outage e cause

/-- Whatever an engine held is kept when it loses power, and nothing but the engine is concerned (08 R210; 16 R430). -/
structure EngineLost (e : EngId) (s t : State) : Prop where
  down : (t.engine e).state = .down
  area0 : (t.engine e).area0 = (s.engine e).area0
  area1 : (t.engine e).area1 = (s.engine e).area1
  hbLost : (t.engine e).hbLost = (s.engine e).hbLost
  other : ∀ k, k ≠ e → t.engine k = s.engine k
  keeps : { t.outage with engA := s.engA, engB := s.engB } = s.outage

theorem State.engineDown_lost (s : State) (e : EngId) (cause : Nat) : EngineLost e s (s.engineDown e cause) := by
  have hrevoked : ∃ w : State, (if s.lease.holder = some e then s.revoke cause else s) = w ∧ (w.engine e).area0 = (s.engine e).area0 ∧
      (w.engine e).area1 = (s.engine e).area1 ∧ (w.engine e).hbLost = (s.engine e).hbLost ∧ (∀ k, k ≠ e → w.engine k = s.engine k) ∧
      { w.outage with engA := s.engA, engB := s.engB } = s.outage := by
    split
    next h =>
      have heng := State.revoke_engine h cause
      have hself := heng e
      rw [if_pos rfl] at hself
      exact ⟨_, rfl, (congrArg Engine.area0 hself :), (congrArg Engine.area1 hself :), (congrArg Engine.hbLost hself :),
        fun k hk => (heng k).trans (if_neg hk), s.revoke_outage cause⟩
    next h => exact ⟨_, rfl, rfl, rfl, rfl, fun _ _ => rfl, rfl⟩
  obtain ⟨w, hw, h0, h1, hlost, hother, hkeep⟩ := hrevoked
  unfold State.engineDown
  rw [hw]
  dsimp only
  generalize w.restartCount e :: w.checkpointFields e = held
  have hself := State.modEngine_engine w e e fun x => { x with state := .down, held := held, switching := false }
  rw [if_pos rfl] at hself
  exact ⟨congrArg Engine.state hself, (congrArg Engine.area0 hself).trans h0, (congrArg Engine.area1 hself).trans h1,
    (congrArg Engine.hbLost hself).trans hlost, fun k hk => (State.modEngine_engine ..).trans ((if_neg hk).trans (hother k hk)),
    (congrArg (fun x : Outage => { x with engA := s.engA, engB := s.engB }) (w.modEngine_outage e _) :).trans hkeep⟩

/-- The state in which the traffic has been given up at a power-fail, with KEEP (16 R431). -/
def State.trafficFailed (s : State) : State :=
  ((({ s with power.holdUp := false }.count 0xA000 3 3 0).failFlight.failWrites.cancelArmed stState 0x28).abandonMap.engineDown 0 5).engineDown 1 5

theorem powerFail_keep {s : State} (hp : s.powered = false) (hr : s.power.supRail = true) (hf : s.power.fail = false) (hk : s.power.keep = true) :
    powerFail s = { s.trafficFailed with
      persist.eraseAt := [none, none, none, none], power.portRail := false, power.fail := true, power.step := 6 }.portLost.watchTiming := by
  unfold powerFail
  rw [if_neg (by simp [hp, hf]), if_neg (by simp [hr])]
  exact if_pos (c := (s.power.keep && s.power.supRail) = true) (by simp [hk, hr])

/-- What a power-fail with KEEP leaves of the engines, the pages, the seal, the pair writes and the activation (16 R430, R431). -/
theorem State.trafficFailed_spec (s : State) :
    (∀ e : EngId, (s.trafficFailed.engine e).state = .down ∧ (s.trafficFailed.engine e).area0 = (s.engine e).area0 ∧
      (s.trafficFailed.engine e).area1 = (s.engine e).area1 ∧ (s.trafficFailed.engine e).hbLost = (s.engine e).hbLost) ∧
    s.trafficFailed.power = { s.power with holdUp := false } ∧ s.trafficFailed.fab.active = s.fab.active ∧
    s.trafficFailed.sealing.kwk = s.sealing.kwk ∧ s.trafficFailed.prot.writes = [] ∧ s.trafficFailed.edit.armed = none := by
  have hgiven : ((({ s with power.holdUp := false }.count 0xA000 3 3 0).failFlight.failWrites.cancelArmed stState 0x28).abandonMap).outage =
      { s.outage with power := { s.power with holdUp := false }, writes := [], armed := none } := by
    rw [State.abandonMap_outage, State.cancelArmed_outage, State.failWrites_outage, State.failFlight_outage]
    rfl
  unfold State.trafficFailed
  generalize ((({ s with power.holdUp := false }.count 0xA000 3 3 0).failFlight.failWrites.cancelArmed stState 0x28).abandonMap) = w at *
  have ha := w.engineDown_lost 0 5
  have hb := (w.engineDown 0 5).engineDown_lost 1 5
  generalize w.engineDown 0 5 = u at *
  generalize u.engineDown 1 5 = t at *
  have hweng (e : EngId) : w.engine e = s.engine e := by
    have h0 : w.engA = s.engA := (congrArg Outage.engA hgiven :)
    have h1 : w.engB = s.engB := (congrArg Outage.engB hgiven :)
    rw [State.engine, State.engine, h0, h1]
  have hkeep {α : Type} (π : Outage → α) (hπ : ∀ (x : Outage) (a b : Engine), π { x with engA := a, engB := b } = π x) : π t.outage = π w.outage := by
    rw [← hπ t.outage u.engA u.engB, hb.keeps, ← hπ u.outage w.engA w.engB, ha.keeps]
  refine ⟨fun e => ?_, (hkeep Outage.power fun _ _ _ => rfl).trans (congrArg Outage.power hgiven :),
    (hkeep Outage.active fun _ _ _ => rfl).trans (congrArg Outage.active hgiven :), (hkeep Outage.kwk fun _ _ _ => rfl).trans (congrArg Outage.kwk hgiven :),
    (hkeep Outage.writes fun _ _ _ => rfl).trans (congrArg Outage.writes hgiven :), (hkeep Outage.armed fun _ _ _ => rfl).trans (congrArg Outage.armed hgiven :)⟩
  rw [← hweng e]
  obtain rfl | rfl : e = 1 ∨ e = 0 := (by decide : ∀ e : EngId, e = 1 ∨ e = 0) e
  · have hu := ha.other 1 (by decide)
    exact ⟨hb.down, hb.area0.trans (congrArg Engine.area0 hu), hb.area1.trans (congrArg Engine.area1 hu), hb.hbLost.trans (congrArg Engine.hbLost hu)⟩
  · rw [hb.other 0 (by decide)]
    exact ⟨ha.down, ha.area0, ha.area1, ha.hbLost⟩

/-- All of the traffic's volatile state goes with the port die (01 R18). -/
theorem State.portLost_spec (s : State) : s.portLost.power = s.power ∧ s.portLost.lanes = [] ∧ s.portLost.engA = s.engA ∧ s.portLost.engB = s.engB ∧
    s.portLost.lease = {} ∧ s.portLost.fab.active = s.fab.active ∧ s.portLost.sealing.kwk = s.sealing.kwk ∧
    s.portLost.prot.writes = s.prot.writes ∧ s.portLost.edit = s.edit := ⟨rfl, rfl, rfl, rfl, rfl, rfl, rfl, rfl, rfl⟩

theorem powerFail_idle {s : State} (h : s.powered = true ∨ s.power.fail = true) : powerFail s = s := if_pos (by simpa using h)

theorem powerFail_dark {s : State} (hp : s.powered = false) (hr : s.power.portRail = true ∨ s.power.supRail = true) (hf : s.power.fail = false)
    (hk : s.power.keep = false) : powerFail s = ({ s with power.holdUp := false }.count 0xA000 3 3 0).volatileLost.ocxoOff := by
  unfold powerFail
  rw [if_neg (by simp [hp, hf]), if_neg (by rcases hr with h | h <;> simp [h])]
  exact if_neg (c := (s.power.keep && s.power.supRail) = true) (by simp [hk])

theorem powerFail_unpowered {s : State} (hp : s.powered = false) (hport : s.power.portRail = false) (hsup : s.power.supRail = false)
    (hf : s.power.fail = false) : powerFail s = (if s.power.keep then { s with power.holdUp := false }
      else { s with power.holdUp := false, tim.ocxoOn := none, tim.warm := false }) := by
  unfold powerFail
  rw [if_neg (by simp [hp, hf]), if_pos (by simp [hport, hsup])]
  rfl

/-- Settles O57: start-up by the supply that it leaves, power-fail by what each of its parts leaves of the engines and the pages. -/
theorem resetsStartupAndPowerFail : Obligations.ResetsStartupAndPowerFail := by
  refine ⟨fun s => ⟨⟨_, rfl, rfl, rfl, rfl, rfl, rfl, rfl, rfl, rfl, rfl, ?_, ?_⟩, fun p => ⟨_, rfl, rfl, rfl, rfl, rfl, rfl, rfl⟩,
      fun o h hs => ⟨_, rfl, congrArg s.fixed (releaseReset_idle (s := s.quiet) o h hs)⟩, fun o h hs hb => ⟨_, rfl, ?_⟩, fun o h hs hg => ⟨_, rfl, ?_⟩,
      fun o h hs => ⟨_, rfl, congrArg s.fixed (seat_idle (s := s.quiet) o h hs)⟩, fun o h hs hg => ⟨_, rfl, ?_⟩,
      fun o b ht hi hb hth hs hg => ⟨_, rfl, ?_⟩⟩,
    fun s => ⟨fun h => ⟨_, rfl, startupEnd_spec (s := s.quiet) h⟩, fun h => ⟨_, rfl, congrArg s.fixed (powerFail_idle (s := s.quiet) h)⟩,
      fun hp hr hf hk => ⟨_, rfl, ?_⟩, fun hp hr hf hk => ⟨_, rfl, ?_⟩, fun hp hport hsup hf => ⟨_, rfl, ?_⟩⟩⟩
  · exact State.volatileLost_keySlot _
  · exact State.volatileLost_mark (s := { s.quiet with power.resetN := false })
  · rw [releaseReset_starts (s := s.quiet) o h hs, State.startUp_bad hb]
    exact ⟨rfl, rfl, rfl, rfl, rfl⟩
  · rw [releaseReset_starts (s := s.quiet) o h hs]
    obtain ⟨hrail, hcause, hat, hreset, -⟩ := State.startUp_power (s := { s.quiet with power.resetN := true }) hg 1
    exact ⟨hreset, hrail, hcause, hat⟩
  · rw [seat_starts (s := s.quiet) o h hs]
    obtain ⟨hrail, hcause, hat, -, hseated, -⟩ := State.startUp_power (s := { s.quiet with power.present := [false, false], power.seated := true }) hg 3
    exact ⟨hseated, hrail, hcause, hat⟩
  · rw [startAgain_starts (s := s.quiet) o ht hi hb hth hs]
    obtain ⟨hrail, hcause, hat, -, -, hinternal, -⟩ := State.startUp_power (s := { s.quiet with power.internal := false, power.retryAt := none }) hg s.power.cause
    exact ⟨hinternal, hrail, hcause, hat⟩
  · rw [powerFail_dark (s := s.quiet) hp hr hf hk]
    exact ⟨rfl, rfl, rfl, rfl, rfl, rfl, rfl⟩
  · rw [powerFail_keep (s := s.quiet) hp hr hf hk]
    obtain ⟨heng, hpower, hactive, hkwk, hwrites, harmed⟩ := s.quiet.trafficFailed_spec
    generalize s.quiet.trafficFailed = w at *
    have hlost := State.portLost_spec { w with
      persist.eraseAt := [none, none, none, none], power.portRail := false, power.fail := true, power.step := 6 }
    generalize State.portLost _ = u at *
    obtain ⟨hup, hlanes, ha, hb, hlease, hact, hk', hw', hedit⟩ := hlost
    have hwatch := u.watchTiming_lessConds
    generalize u.watchTiming = t at *
    have htp : t.power = u.power := (congrArg State.power hwatch :)
    refine ⟨?_, ?_, ?_, (congrArg State.lanes hwatch :).trans hlanes, fun e => ?_, (congrArg State.lease hwatch :).trans hlease,
      (congrArg (fun w : State => w.fab.active) hwatch :).trans (hact.trans hactive), (congrArg (fun w : State => w.sealing.kwk) hwatch :).trans (hk'.trans hkwk),
      (congrArg (fun w : State => w.prot.writes) hwatch :).trans (hw'.trans hwrites),
      (congrArg (fun w : State => w.edit.armed) hwatch :).trans ((congrArg Edit.armed hedit).trans harmed)⟩
    · exact (congrArg Power.supRail (htp.trans hup) :).trans ((congrArg Power.supRail hpower :).trans hr)
    · exact (congrArg Power.portRail (htp.trans hup) :)
    · exact (congrArg Power.fail (htp.trans hup) :)
    · have hte : t.engine e = w.engine e := by
        have hta : t.engA = w.engA := (congrArg State.engA hwatch :).trans ha
        have htb : t.engB = w.engB := (congrArg State.engB hwatch :).trans hb
        rw [State.engine, State.engine, hta, htb]
      have h := heng e
      rw [← hte] at h
      exact h
  · rw [powerFail_unpowered (s := s.quiet) hp hport hsup hf]
    exact (apply_ite s.fixed ..).trans rfl

end Sys2Proof.Machine
end

section
/-! PROOFS. Feeds, KEEP, the hold-up store and the hot-swap switches (16 R410 to R412). -/

namespace Sys2Proof.Machine

/-- The choice of a feed, and the conditions of the feeds, write nothing else (16 R410, Table 16-8). -/
theorem State.watchFeeds_keeps (s : State) :
    { s.watchFeeds with power.inUse := s.power.inUse, store.conds := s.store.conds, fresh := s.fresh } = s := by
  have hchoose (w : State) : { w.chooseFeed with power.inUse := s.power.inUse, fresh := s.fresh } = { w with power.inUse := s.power.inUse, fresh := s.fresh } := by
    unfold State.chooseFeed
    dsimp only
    repeat' split
    all_goals rfl
  have hcond (w : State) (c : AlarmCond) (b : Bool) : { w.noteCond c b with store.conds := s.store.conds } = { w with store.conds := s.store.conds } := by
    unfold State.noteCond
    repeat' split
    all_goals rfl
  unfold State.watchFeeds
  dsimp only
  refine (congrArg (fun w : State => { w with store.conds := s.store.conds }) (hchoose _) :).trans ?_
  exact (congrArg (fun w : State => { w with power.inUse := s.power.inUse, fresh := s.fresh }) ((hcond ..).trans (hcond ..)) :)

/-- What a feed that becomes valid leaves before any start (16 R410, R411). -/
def State.feedIn (s : State) (f : FeedId) (volts : Nat) : State :=
  let clear := s.power.locked.getD f false && s.over (s.power.invalidAt.getD f 0) (secs 1)
  let locked := s.power.locked.getD f false && !clear
  { s with
    power.volts := s.power.volts.set f volts, power.valid := s.power.valid.set f true
    power.locked := s.power.locked.set f locked, power.hsOpen := s.power.hsOpen.set f locked
    power.trips := if clear then s.power.trips.set f [] else s.power.trips
    tim.ocxoOn := if locked then s.tim.ocxoOn else s.tim.ocxoOn.orElse fun _ => some s.now }

theorem feedUp_eq (f : FeedId) (volts : Nat) (o : BootObs) (s : State) : feedUp f volts o s =
    (if s.powered || !(s.feedIn f volts).watchFeeds.startable || (s.feedIn f volts).watchFeeds.power.portRail then (s.feedIn f volts).watchFeeds
      else if (s.feedIn f volts).watchFeeds.power.supRail then
        (if (s.feedIn f volts).watchFeeds.sup.state = 3 then (s.feedIn f volts).watchFeeds else (s.feedIn f volts).watchFeeds.resume o)
      else (s.feedIn f volts).watchFeeds.startUp o 0) := rfl

theorem feedUp_powered {s : State} (f : FeedId) (v : Nat) (o : BootObs) (h : s.powered = true) : feedUp f v o s = (s.feedIn f v).watchFeeds := by
  rw [feedUp_eq, if_pos (by simp [h])]

/-- All of the supply but the feed in use is as the feed's arrival left it (16 R410). -/
theorem State.watchFeeds_power (s : State) : { s.watchFeeds.power with inUse := s.power.inUse } = s.power := (congrArg State.power s.watchFeeds_keeps :)

theorem feedUp_recovery {s : State} (f : FeedId) (v : Nat) (o : BootObs) (hr : s.power.supRail = true) (h3 : s.sup.state = 3) :
    feedUp f v o s = (s.feedIn f v).watchFeeds := by
  have hrail : (s.feedIn f v).watchFeeds.power.supRail = true := (congrArg Power.supRail (s.feedIn f v).watchFeeds_power :).trans hr
  have hstate : (s.feedIn f v).watchFeeds.sup.state = 3 := (congrArg (fun w : State => w.sup.state) (s.feedIn f v).watchFeeds_keeps :).trans h3
  rw [feedUp_eq, if_pos hrail, if_pos hstate, ite_self]

/-- What a feed's arrival alone writes (16 R410, R411). -/
theorem State.feedIn_spec (s : State) (f : FeedId) (v : Nat) : let t := (s.feedIn f v).watchFeeds
    t.power.valid = s.power.valid.set f true ∧ t.power.volts = s.power.volts.set f v ∧ t.power.portRail = s.power.portRail ∧
    { t with power := s.power, store.conds := s.store.conds, fresh := s.fresh, tim.ocxoOn := s.tim.ocxoOn } = s := by
  have hp := (s.feedIn f v).watchFeeds_power
  have hkeep := (s.feedIn f v).watchFeeds_keeps
  generalize (s.feedIn f v).watchFeeds = w at *
  exact ⟨(congrArg Power.valid hp :), (congrArg Power.volts hp :), (congrArg Power.portRail hp :),
    (congrArg (fun w : State => { w with power := s.power, store.conds := s.store.conds, fresh := s.fresh, tim.ocxoOn := s.tim.ocxoOn }) hkeep :)⟩

/-- A feed whose switch nothing holds open supplies the module as it becomes valid (16 R410, R411). -/
theorem State.feedIn_startable {s : State} {f : FeedId} (v : Nat) (hs : s.power.seated = true) (hr : s.inReset = false) (hv : s.power.valid.length = 2)
    (ho : s.power.hsOpen.length = 2) (hl : s.power.locked.getD f false = false) : (s.feedIn f v).startable = true := by
  have hlt : (f : Nat) < 2 := f.isLt
  have hfeeds : (s.feedIn f v).feeds f = true := by
    simp only [State.feeds, State.feedIn, hl, Bool.false_and, List.getD_eq_getElem?_getD]
    rw [List.getElem?_set_self (by omega), List.getElem?_set_self (by omega)]
    rfl
  have hpowered : (s.feedIn f v).powered = true := by
    obtain rfl | rfl : f = 0 ∨ f = 1 := (by decide : ∀ f : FeedId, f = 0 ∨ f = 1) f
    · exact Bool.or_eq_true_iff.mpr (.inl hfeeds)
    · exact Bool.or_eq_true_iff.mpr (.inr hfeeds)
  have hreset : (s.feedIn f v).inReset = false := hr
  have hseated : (s.feedIn f v).power.seated = true := hs
  rw [State.startable, hseated, hreset, hpowered]
  rfl

theorem feedUp_starts {s : State} {f : FeedId} (v : Nat) (o : BootObs) (hp : s.powered = false) (hs : s.power.seated = true) (hr : s.inReset = false)
    (hsup : s.power.supRail = false) (hport : s.power.portRail = false) (hv : s.power.valid.length = 2) (ho : s.power.hsOpen.length = 2)
    (hl : s.power.locked.getD f false = false) : feedUp f v o s = (s.feedIn f v).watchFeeds.startUp o 0 := by
  have hkeep := (s.feedIn f v).watchFeeds_power
  have hstart : (s.feedIn f v).watchFeeds.startable = true :=
    (congrArg (fun p : Power => ({ s with power := p } : State).startable) hkeep :).trans (State.feedIn_startable v hs hr hv ho hl)
  have hp' : (s.feedIn f v).watchFeeds.power.portRail = false := (congrArg Power.portRail hkeep :).trans hport
  have hs' : (s.feedIn f v).watchFeeds.power.supRail = false := (congrArg Power.supRail hkeep :).trans hsup
  rw [feedUp_eq, hp, hstart, hp', hs']
  rfl

theorem feedDown_eq {s : State} {f : FeedId} (v : Nat) (h : s.power.valid.getD f false = true) : feedDown f v s =
    ({ s.count 0xA000 3 (f + 1) 0 with
      power.invalidAt := s.power.invalidAt.set f s.now, power.volts := s.power.volts.set f v, power.valid := s.power.valid.set f false }).watchFeeds := by
  unfold feedDown
  rw [if_pos h]
  rfl

theorem State.feedOut_spec (s : State) (f : FeedId) (v : Nat) : let t := ({ s.count 0xA000 3 (f + 1) 0 with
      power.invalidAt := s.power.invalidAt.set f s.now, power.volts := s.power.volts.set f v, power.valid := s.power.valid.set f false }).watchFeeds
    t.power.valid = s.power.valid.set f false ∧ t.power.volts = s.power.volts.set f v ∧ t.power.invalidAt = s.power.invalidAt.set f s.now ∧
    t.ctr 0xA000 3 (f + 1) 0 = (s.ctr 0xA000 3 (f + 1) 0 + 1) % 4294967296 ∧
    { t with power := s.power, cnt := s.cnt, store.conds := s.store.conds, fresh := s.fresh } = s := by
  have hkeep := State.watchFeeds_keeps { s.count 0xA000 3 (f + 1) 0 with
    power.invalidAt := s.power.invalidAt.set f s.now, power.volts := s.power.volts.set f v, power.valid := s.power.valid.set f false }
  have hctr := s.ctr_count 0xA000 3 (f + 1) 0
  generalize State.watchFeeds _ = w at *
  exact ⟨(congrArg (fun w : State => w.power.valid) hkeep :), (congrArg (fun w : State => w.power.volts) hkeep :),
    (congrArg (fun w : State => w.power.invalidAt) hkeep :), (congrArg (fun w : State => w.ctr 0xA000 3 (f + 1) 0) hkeep :).trans hctr,
    (congrArg (fun w : State => { w with power := s.power, cnt := s.cnt, store.conds := s.store.conds, fresh := s.fresh }) hkeep :)⟩

theorem keepGone_last {s : State} (hk : s.power.keep = true) (hp : s.powered = false) (hport : s.power.portRail = false) :
    keepGone s = ({ s with power.keep := false }.count 0xA000 3 5 0).volatileLost.ocxoOff := by
  unfold keepGone
  rw [if_neg (by simp [hk])]
  exact if_pos (c := (!s.powered && !s.power.portRail) = true) (by simp [hp, hport])

theorem keepGone_fed {s : State} (hk : s.power.keep = true) (h : s.powered = true ∨ s.power.portRail = true) :
    keepGone s = { s with power.keep := false }.count 0xA000 3 5 0 := by
  unfold keepGone
  rw [if_neg (by simp [hk])]
  refine if_neg (c := (!s.powered && !s.power.portRail) = true) ?_
  rcases h with h | h <;> simp [h]

/-- With the other feed in use, an overcurrent opens the switch and is counted (16 R411). -/
theorem trip_fed {s : State} {f g : FeedId} (hg : g ≠ f) (hf : s.feeds f = true) (hgf : s.feeds g = true) :
    trip f s = { s with
      power.hsOpen := s.power.hsOpen.set f true
      power.trips := s.power.trips.set f (s.now :: (s.power.trips.getD f []).filter fun t => !s.over t (secs 60))
      power.locked := s.power.locked.set f (decide (3 ≤ (s.now :: (s.power.trips.getD f []).filter fun t => !s.over t (secs 60)).length)) }.count
        0xA000 3 4 0 := by
  have hne : (f : Nat) ≠ g := fun h => hg (Fin.ext h.symm)
  unfold trip
  rw [if_neg (by simp [hf])]
  dsimp only
  refine if_pos ?_
  generalize hw : State.count _ _ _ _ _ = w
  have hopen : w.power.hsOpen = s.power.hsOpen.set f true := by rw [← hw]; rfl
  have hvalid : w.power.valid = s.power.valid := by rw [← hw]; rfl
  have hfeeds : w.feeds g = true := by
    rw [State.feeds, hopen, hvalid, List.getD_eq_getElem?_getD, List.getD_eq_getElem?_getD, List.getElem?_set_ne hne,
      ← List.getD_eq_getElem?_getD, ← List.getD_eq_getElem?_getD]
    exact hgf
  obtain rfl | rfl : g = 0 ∨ g = 1 := (by decide : ∀ f : FeedId, f = 0 ∨ f = 1) g
  · exact Bool.or_eq_true_iff.mpr (.inl hfeeds)
  · exact Bool.or_eq_true_iff.mpr (.inr hfeeds)

theorem retrySwitch_due {s : State} {f : FeedId} {b : Nat} {bs : List Nat} (ht : s.power.trips.getD f [] = b :: bs)
    (hv : s.power.valid.getD f false = true) (ho : s.power.hsOpen.getD f false = true) (hl : s.power.locked.getD f false = false)
    (hb : s.over b 1000000000 = true) :
    retrySwitch f s = { s with power.hsOpen := s.power.hsOpen.set f false, tim.ocxoOn := s.tim.ocxoOn.orElse fun _ => some s.now } := by
  unfold retrySwitch
  rw [ht]
  exact if_pos (by simp only [hv, ho, hl, secs, hb]; rfl)

/-- Settles O58: a feed by what it writes and the start it begins, KEEP and the switches by the feeds that are left. -/
theorem feedsAndHotSwapSwitches : Obligations.FeedsAndHotSwapSwitches := by
  refine ⟨fun s => ⟨fun f v o h => ⟨_, rfl, ?_⟩, fun f v o hp hs hr hsup hport hv ho hl hg => ⟨_, rfl, ?_⟩, fun f v o hr h3 => ⟨_, rfl, ?_⟩,
      fun f v h => ⟨_, rfl, ?_⟩, ⟨_, rfl, rfl, ?_⟩, fun hk hp hport => ⟨_, rfl, ?_⟩, fun hk h => ⟨_, rfl, ?_⟩, fun h => ⟨_, rfl, ?_⟩⟩,
    fun s f => ⟨fun g hg hf hgf => ⟨_, rfl, ?_⟩, fun b bs ht hv ho hl hb => ⟨_, rfl, ?_⟩⟩⟩
  · rw [feedUp_powered (s := s.quiet) f v o h]
    obtain ⟨hvalid, hvolts, -, hkeep⟩ := s.quiet.feedIn_spec f v
    exact ⟨hvalid, hvolts, (congrArg (fun w : State => { s.fixed w with power := s.power }) hkeep :)⟩
  · rw [feedUp_starts (s := s.quiet) v o hp hs hr hsup hport hv ho hl]
    obtain ⟨hvalid, -⟩ := s.quiet.feedIn_spec f v
    have hnow : (s.quiet.feedIn f v).watchFeeds.now = s.now := (congrArg State.now (s.quiet.feedIn f v).watchFeeds_keeps :)
    obtain ⟨hrail, hcause, hat, -, -, -, hkept⟩ := (s.quiet.feedIn f v).watchFeeds.startUp_power hg 0
    exact ⟨hkept.trans hvalid, hrail, hcause, hat.trans hnow⟩
  · rw [feedUp_recovery (s := s.quiet) f v o hr h3]
    obtain ⟨hvalid, -, hport, hkeep⟩ := s.quiet.feedIn_spec f v
    exact ⟨hvalid, hport, (congrArg (fun w : State => { s.fixed w with power := s.power }) hkeep :)⟩
  · rw [feedDown_eq (s := s.quiet) v h]
    obtain ⟨hvalid, hvolts, hat, hctr, hkeep⟩ := s.quiet.feedOut_spec f v
    exact ⟨hvalid, hvolts, hat, hctr, (congrArg (fun w : State => { s.fixed w with power := s.power }) hkeep :)⟩
  · cases h : s.tim.ocxoOn with
    | none => exact congrArg (fun x : Option Nat => x.orElse fun _ => some s.now) h
    | some a => exact congrArg (fun x : Option Nat => x.orElse fun _ => some s.now) h
  · rw [keepGone_last (s := s.quiet) hk hp hport]
    exact ⟨rfl, rfl, rfl, rfl, rfl, rfl⟩
  · rw [keepGone_fed (s := s.quiet) hk h]
    exact ⟨rfl, State.ctr_count { s.quiet with power.keep := false } ..⟩
  · exact congrArg s.fixed (if_neg (c := s.quiet.noFeed = true) (by rw [show s.quiet.noFeed = false from h]; decide))
  · rw [trip_fed (s := s.quiet) hg hf hgf]
    exact ⟨rfl, rfl, State.ctr_count _ .., rfl⟩
  · rw [retrySwitch_due (s := s.quiet) ht hv ho hl hb]
    exact ⟨rfl, rfl⟩

end Sys2Proof.Machine
end

section
/-! PROOFS. The canonical form of the tables, and what keeps it (log entry 8; 14 R370). -/

namespace Sys2Proof.Machine

/-- The settings in force and in both dictionary copies, the counters and the lanes are tables in canonical form. -/
structure State.Canon (s : State) : Prop where
  dict : twf [] s.persist.dict
  copy0 : twf [] s.persist.copy0.values
  copy1 : twf [] s.persist.copy1.values
  cnt : twf {} s.cnt
  lanes : twf {} s.lanes

theorem State.wf_iff_canon (s : State) : s.wf ↔ s.Canon :=
  ⟨fun ⟨hd, h0, h1, hc, hl⟩ => ⟨hd, h0, h1, hc, hl⟩, fun ⟨hd, h0, h1, hc, hl⟩ => ⟨hd, h0, h1, hc, hl⟩⟩

/-- However a request ends, the tables are in canonical form, and what follows its response keeps them so. -/
inductive Act.Canon : Act → Prop
  | done {s : State} {a : Ans} {post : State → State} (hs : s.Canon) (hpost : ∀ u : State, u.Canon → (post u).Canon) : Act.Canon (.done s a post)
  | refuse {a : Ans} : Act.Canon (.refuse a)
  | hold {s : State} (hs : s.Canon) : Act.Canon (.hold s)

/-- The effect of a write keeps the canonical form. -/
abbrev Effect.Canon (e : Session → List Nat → State → Act) : Prop := ∀ x vs s, s.Canon → (e x vs s).Canon

section
variable {t : State} {pending : List Instr} {now fresh : Nat} {out : List Output} {power : Power} {sup : Sup} {mgmt : Mgmt} {store : Store}
  {restarted : Tab Bool} {ports : Tab Port} {fab : Fabric} {edit : Edit} {prot : Protection} {ending : Option Ending} {engA engB : Engine}
  {lease : Lease} {tim : Timing} {tod : Tod} {sealing : Sealing} {pm : Pm} {sec : Security}

/-- A write of other parts of the state keeps the canonical form. -/
theorem State.canon_with (ht : t.Canon) :
    (State.mk pending now fresh out power sup mgmt store t.persist t.cnt restarted t.lanes ports fab edit prot ending engA engB lease tim tod sealing
      pm sec).Canon :=
  ⟨ht.dict, ht.copy0, ht.copy1, ht.cnt, ht.lanes⟩

/-- So does a write of what is kept in flash apart from the settings and their copies. -/
theorem State.canon_withPersist {persist : Persist} (ht : t.Canon) (hd : persist.dict = t.persist.dict) (h0 : persist.copy0 = t.persist.copy0)
    (h1 : persist.copy1 = t.persist.copy1) :
    (State.mk pending now fresh out power sup mgmt store persist t.cnt restarted t.lanes ports fab edit prot ending engA engB lease tim tod sealing
      pm sec).Canon :=
  ⟨hd ▸ ht.dict, h0 ▸ ht.copy0, h1 ▸ ht.copy1, ht.cnt, ht.lanes⟩

end

theorem canon_ite {c : Prop} [Decidable c] {s t : State} (hs : s.Canon) (ht : t.Canon) : (if c then s else t).Canon := by
  split <;> assumption

theorem Act.canon_ite {c : Prop} [Decidable c] {a b : Act} (ha : a.Canon) (hb : b.Canon) : (if c then a else b).Canon := by
  split <;> assumption

theorem Effect.canon_ite {c : Prop} [Decidable c] {e f : Session → List Nat → State → Act} (he : Effect.Canon e) (hf : Effect.Canon f) :
    Effect.Canon (if c then e else f) := by
  split <;> assumption

theorem twf_foldl {α β : Type} {d : α} {f : Tab α → β → Tab α} (hf : ∀ t b, twf d t → twf d (f t b)) (l : List β) {t : Tab α} (ht : twf d t) :
    twf d (l.foldl f t) := by
  induction l generalizing t with
  | nil => exact ht
  | cons b l ih => exact ih (hf t b ht)

theorem twf_filter {α : Type} {d : α} (p : Nat × α → Bool) {t : Tab α} (ht : twf d t) : twf d (t.filter p) :=
  ⟨ht.1.filter p, fun e he => ht.2 e (List.mem_of_mem_filter he)⟩

end Sys2Proof.Machine
end


section
/-! PROOFS. What the functions of Machine/Ops.lean leave of the canonical form (log entry 8). -/

namespace Sys2Proof.Machine

theorem State.free_canon {s : State} (hs : s.Canon) : s.free.2.Canon := State.canon_with hs

theorem State.quiet_canon {s : State} (hs : s.Canon) : s.quiet.Canon := by
  unfold State.quiet
  exact State.canon_with hs

theorem State.fixed_canon {s t : State} (hs2 : t.Canon) : (s.fixed t).Canon := by
  unfold State.fixed
  exact State.canon_with hs2

theorem State.emit_canon {s : State} {o : Output} (hs : s.Canon) : (s.emit o).Canon := by
  unfold State.emit
  exact State.canon_with hs

theorem State.emits_canon {s : State} {os : List Output} (hs : s.Canon) : (s.emits os).Canon := by
  unfold State.emits
  exact State.canon_with hs

theorem State.each_canon {α : Type} {s : State} {l : List α} {f : α → State → State} (hs : s.Canon) (hf : ∀ a t, t.Canon → (f a t).Canon) :
    (s.each l f).Canon := by
  unfold State.each
  induction l generalizing s with
  | nil => exact hs
  | cons a l ih => exact ih (hf a s hs)

theorem State.when_canon {s : State} {b : Bool} {f : State → State} (hs : s.Canon) (hf : ∀ x1 : State, x1.Canon → (f x1).Canon) :
    (s.when b f).Canon := by
  unfold State.when
  exact canon_ite (hf _ hs) hs

theorem State.setLane_canon {s : State} {l : Nat} {x : Lane} (hs : s.Canon) : (s.setLane l x).Canon :=
  ⟨hs.dict, hs.copy0, hs.copy1, hs.cnt, twf_tput _ _ _ _ hs.lanes⟩

theorem State.modLane_canon {s : State} {l : Nat} {f : Lane → Lane} (hs : s.Canon) : (s.modLane l f).Canon := by
  unfold State.modLane
  exact State.setLane_canon hs

theorem State.modPort_canon {s : State} {p : Nat} {f : Port → Port} (hs : s.Canon) : (s.modPort p f).Canon := by
  unfold State.modPort
  exact State.canon_with hs

theorem State.modEngine_canon {s : State} {e : EngId} {f : Engine → Engine} (hs : s.Canon) : (s.modEngine e f).Canon := by
  unfold State.modEngine
  exact canon_ite (State.canon_with hs) (State.canon_with hs)

theorem State.setVal_canon {s : State} {index sub el : Nat} {v : List Nat} (hs : s.Canon) : (s.setVal index sub el v).Canon :=
  ⟨twf_tput _ _ _ _ hs.dict, hs.copy0, hs.copy1, hs.cnt, hs.lanes⟩

theorem State.stage_canon {s : State} {index sub el : Nat} (hs : s.Canon) : (s.stage index sub el).Canon := by
  unfold State.stage
  exact State.canon_withPersist hs rfl rfl rfl

theorem State.countN_canon {s : State} {index sub fld el n : Nat} (hs : s.Canon) : (s.countN index sub fld el n).Canon := by
  unfold State.countN
  exact ⟨hs.dict, hs.copy0, hs.copy1, twf_tput _ _ _ _ hs.cnt, hs.lanes⟩

theorem State.count_canon {s : State} {index sub : Nat} {fld el : Nat} (hs : s.Canon) : (s.count index sub fld el).Canon := by
  unfold State.count
  exact State.countN_canon hs

theorem State.clearGroup_canon {s : State} {index el : Nat} (hs : s.Canon) : (s.clearGroup index el).Canon :=
  ⟨hs.dict, hs.copy0, hs.copy1, twf_foldl (fun _ _ h => twf_tput _ _ _ _ h) _ hs.cnt, hs.lanes⟩

theorem State.restartGroup_canon {s : State} {index el : Nat} (hs : s.Canon) : (s.restartGroup index el).Canon := by
  unfold State.restartGroup
  extract_lets +onlyGivenNames u
  have hu : u.Canon := State.clearGroup_canon hs
  exact State.canon_with hu

theorem State.modSession_canon {s : State} {id : Nat} {f : Session → Session} (hs : s.Canon) : (s.modSession id f).Canon := by
  unfold State.modSession
  exact canon_ite (State.canon_with hs) hs

theorem State.sentTo_canon {s : State} {id : Nat} (hs : s.Canon) : (s.sentTo id).Canon := by
  unfold State.sentTo
  exact State.modSession_canon hs

theorem State.modHop_canon {s : State} {h : Nat} {f : Hopper → Hopper} (hs : s.Canon) : (s.modHop h f).Canon := by
  unfold State.modHop
  exact State.canon_with hs

theorem State.cipherJob_canon {s : State} {bytes : Nat} {good : Bool} (hs : s.Canon) : (s.cipherJob bytes good).Canon := by
  unfold State.cipherJob
  exact canon_ite (State.canon_with hs) (State.canon_with hs)

theorem State.sendSecure_canon {s : State} {id : Nat} {shown : Output} {r : Resp} (hs : s.Canon) : (s.sendSecure id shown r).Canon := by
  unfold State.sendSecure
  split
  · exact State.emit_canon (State.emit_canon (State.sentTo_canon (State.cipherJob_canon hs)))
  · exact State.emit_canon hs

theorem State.notifyOwner_canon {s : State} {h : Nat} (hs : s.Canon) : (s.notifyOwner h).Canon := by
  unfold State.notifyOwner
  extract_lets +onlyGivenNames x
  exact canon_ite (State.sendSecure_canon (State.modHop_canon hs)) hs

theorem State.writeUnit_canon {s : State} {h : Nat} {es : List Bytes} (hs : s.Canon) : (s.writeUnit h es).Canon := by
  unfold State.writeUnit
  extract_lets +onlyGivenNames u
  have hu : u.Canon := State.modHop_canon hs
  exact State.notifyOwner_canon (State.countN_canon hu)

theorem State.postUnit_canon {s : State} {h : Nat} {es : List Bytes} {queued : Bool} (hs : s.Canon) : (s.postUnit h es queued).Canon := by
  unfold State.postUnit
  extract_lets +onlyGivenNames n x
  refine canon_ite (State.writeUnit_canon hs) <| canon_ite ?_ (canon_ite (canon_ite (State.modHop_canon hs) (State.countN_canon hs))
    (State.countN_canon hs))
  refine canon_ite ?_ (State.countN_canon hs)
  extract_lets +onlyGivenNames kept u
  have hu : u.Canon := State.countN_canon hs
  exact State.writeUnit_canon (State.modHop_canon hu)

theorem State.drainOverflow_canon {h n : Nat} {s : State} (hs : s.Canon) : (State.drainOverflow h n s).Canon := by
  induction n generalizing s with
  | zero => exact hs
  | succ n ih =>
    unfold State.drainOverflow
    split
    · exact hs
    · exact canon_ite (ih (State.writeUnit_canon (State.modHop_canon hs))) hs

theorem State.eventAt_canon {s : State} {cls index : Nat} {sub el : Nat} {stamp kind : Nat} {payload : Bytes} (hs : s.Canon) :
    (s.eventAt cls index sub el stamp kind payload).Canon := by
  unfold State.eventAt
  extract_lets +onlyGivenNames n u v u1
  have hu1 : u1.Canon := State.canon_with hs
  exact State.each_canon hu1 (fun _ _ h => State.postUnit_canon h)

theorem State.event_canon {s : State} {cls index : Nat} {sub el : Nat} {payload : Bytes} (hs : s.Canon) :
    (s.event cls index sub el payload).Canon := by
  unfold State.event
  exact State.eventAt_canon hs

theorem State.alarmOut_canon {s : State} {action : Nat} {ay : Alarm} {session : Nat} (hs : s.Canon) :
    (s.alarmOut action ay session).Canon := by
  unfold State.alarmOut
  extract_lets +onlyGivenNames e
  exact State.each_canon hs (fun _ _ h => State.postUnit_canon h)

theorem State.raiseAlarm_canon {s : State} {cond : Option AlarmCond} {severity index : Nat} {sub bitNo el : Nat} (hs : s.Canon) :
    (s.raiseAlarm cond severity index sub bitNo el).Canon := by
  unfold State.raiseAlarm
  extract_lets +onlyGivenNames n a v u
  have hu : u.Canon := State.canon_with hs
  exact State.alarmOut_canon hu

theorem State.clearAlarm_canon {s : State} {ay : Alarm} (hs : s.Canon) : (s.clearAlarm ay).Canon := by
  unfold State.clearAlarm
  exact State.alarmOut_canon (State.canon_with hs)

theorem State.raiseOnce_canon {s : State} {severity index : Nat} {sub bitNo el : Nat} (hs : s.Canon) :
    (s.raiseOnce severity index sub bitNo el).Canon := by
  unfold State.raiseOnce
  exact canon_ite hs (State.raiseAlarm_canon hs)

theorem State.clearIf_canon {s : State} {index sub : Nat} {bitNo el : Nat} (hs : s.Canon) : (s.clearIf index sub bitNo el).Canon := by
  unfold State.clearIf
  split
  · exact State.clearAlarm_canon hs
  · exact hs

theorem State.noteCond_canon {s : State} {c : AlarmCond} {present : Bool} (hs : s.Canon) : (s.noteCond c present).Canon := by
  unfold State.noteCond
  split
  · exact canon_ite hs <| canon_ite (State.canon_with hs) (State.canon_with hs)
  · exact canon_ite (State.canon_with hs) hs

theorem State.auditWrite_canon {s : State} {rs : List AuditRec} (hs : s.Canon) : (s.auditWrite rs).Canon := by
  unfold State.auditWrite
  extract_lets +onlyGivenNames all gone lost
  exact State.countN_canon (State.canon_with hs)

theorem State.auditCond_canon {s : State} (hs : s.Canon) : s.auditCond.Canon := by
  unfold State.auditCond
  extract_lets +onlyGivenNames n
  exact canon_ite (State.noteCond_canon hs) <| canon_ite (State.noteCond_canon hs) hs

theorem State.audit_canon {s : State} {r : AuditRec} (hs : s.Canon) : (s.audit r).Canon := by
  unfold State.audit
  extract_lets +onlyGivenNames now
  refine canon_ite hs ?_
  extract_lets +onlyGivenNames r1 v u
  have hu : u.Canon := State.canon_with hs
  exact canon_ite (State.auditCond_canon (State.auditWrite_canon (State.canon_with hu))) (State.auditCond_canon (State.canon_with hu))

theorem State.auditObj_canon {s : State} {index sub el : Nat} (hs : s.Canon) : (s.auditObj index sub el).Canon := by
  unfold State.auditObj
  exact State.audit_canon hs

theorem State.releaseHoppers_canon {s : State} {id : Nat} (hs : s.Canon) : (s.releaseHoppers id).Canon := by
  unfold State.releaseHoppers
  exact State.canon_with hs

theorem State.modSlot_canon {s : State} {t : Nat} {f : Slot → Slot} (hs : s.Canon) : (s.modSlot t f).Canon := by
  unfold State.modSlot
  exact canon_ite (State.canon_with hs) (State.canon_with hs)

theorem State.spoilSlot_canon {s : State} {t : Nat} (hs : s.Canon) : (s.spoilSlot t).Canon := by
  unfold State.spoilSlot
  exact State.modSlot_canon hs

theorem State.dropTransfer_canon {s : State} {x : Transfer} (hs : s.Canon) : (s.dropTransfer x).Canon := by
  unfold State.dropTransfer
  exact canon_ite (State.modSlot_canon hs) hs

theorem State.dropTransfers_canon {s : State} {id : Nat} (hs : s.Canon) : (s.dropTransfers id).Canon := by
  unfold State.dropTransfers
  extract_lets +onlyGivenNames u
  have hu : u.Canon := State.each_canon hs (fun _ _ h => State.dropTransfer_canon h)
  exact State.canon_with hu

theorem State.closeSess_canon {s : State} {id cause : Nat} (hs : s.Canon) : (s.closeSess id cause).Canon := by
  unfold State.closeSess
  refine canon_ite ?_ hs
  extract_lets +onlyGivenNames x v v1 u
  have hu : u.Canon := State.canon_with hs
  exact State.audit_canon (State.releaseHoppers_canon (State.dropTransfers_canon hu))

theorem State.closeAll_canon {s : State} {cause : Nat} (hs : s.Canon) : (s.closeAll cause).Canon := by
  unfold State.closeAll
  exact State.each_canon hs (fun _ _ h => State.closeSess_canon h)

end Sys2Proof.Machine
end

section
/-! PROOFS. What the functions of Machine/Requests.lean leave of the canonical form (log entry 8). -/

namespace Sys2Proof.Machine

theorem ok_canon {s : State} (hs : s.Canon) : (ok s).Canon := by
  unfold ok
  exact .done hs (fun _ h => h)

theorem okWith_canon {s : State} {detail detailValue : Nat} (hs : s.Canon) : (okWith s detail detailValue).Canon := by
  unfold okWith
  exact .done hs (fun _ h => h)

theorem guardAct_canon {b : Bool} {a : Ans} {k : Act} (ha : k.Canon) : (guardAct b a k).Canon :=
  Act.canon_ite .refuse ha

theorem State.seqLimit_canon {s : State} {id : Nat} (hs : s.Canon) : (s.seqLimit id).Canon := by
  unfold State.seqLimit
  split
  · exact canon_ite (State.closeSess_canon hs) hs
  · exact hs

theorem State.respond_canon {s : State} {op : Nat} {q : Req} {ay : Ans} (hs : s.Canon) : (s.respond op q ay).Canon := by
  unfold State.respond
  refine canon_ite ?_ hs
  extract_lets +onlyGivenNames r v u
  have hu : u.Canon := State.canon_with hs
  exact State.seqLimit_canon (State.sendSecure_canon hu)

theorem State.answerHeld_canon {s : State} {session tag : Nat} {ay : Ans} (hs : s.Canon) : (s.answerHeld session tag ay).Canon := by
  unfold State.answerHeld
  split
  · extract_lets +onlyGivenNames v u
    have hu : u.Canon := State.canon_with hs
    exact State.respond_canon hu
  · exact hs

theorem State.auditAccess_canon {s : State} {op : Nat} {q : Req} {x : Session} {ay : Ans} (hs : s.Canon) :
    (s.auditAccess op q x ay).Canon := by
  unfold State.auditAccess
  exact canon_ite (State.audit_canon hs) hs

theorem State.makerAct_canon {s : State} (hs : s.Canon) : s.makerAct.Canon := by
  unfold State.makerAct
  exact .done (State.free_canon hs) (fun _ h => h)

/-- A request whose body keeps the canonical form keeps it: so does what comes before and after it. -/
theorem request_canon {op : Nat} {q : Req} {body : Session → State → Act} {s : State} (hb : ∀ x s, s.Canon → (body x s).Canon) (hs : s.Canon) :
    (request op q body s).Canon := by
  unfold request
  split
  next x _ _ =>
    have hm : (s.modSession q.session fun y => { y with lastAt := s.now }).Canon := State.modSession_canon hs
    generalize (s.modSession q.session fun y => { y with lastAt := s.now }) = u at hm
    have ha : (if makerOwn op q x then u.makerAct else body x u).Canon := Act.canon_ite (State.makerAct_canon hm) (hb x u hm)
    dsimp only
    refine canon_ite (State.respond_canon hm) ?_
    split
    · exact State.seqLimit_canon (State.sendSecure_canon hm)
    · refine canon_ite (State.respond_canon (State.count_canon hm)) (canon_ite (State.respond_canon hm) ?_)
      generalize (if makerOwn op q x then u.makerAct else body x u) = act at ha
      cases ha with
      | done hs hpost => exact hpost _ (State.respond_canon hs)
      | refuse => exact State.respond_canon (State.auditAccess_canon hm)
      | hold hs => exact State.canon_with hs
  next => exact hs

theorem audited_canon {q : Req} {x : Session} {o : Obj} {s : State} {act : Act} (ha : act.Canon) : (audited q x o s act).Canon := by
  cases ha with
  | done hs hpost => exact Act.canon_ite (.done hs hpost) <| Act.canon_ite .refuse <| .done (State.audit_canon hs) hpost
  | refuse => exact .refuse
  | hold hs => exact Act.canon_ite .refuse <| .hold (State.audit_canon hs)

theorem writeBody_canon {q : Req} {eff : Session → List Nat → State → Act} {x : Session} {s : State} (hf : ∀ x1 : Session, ∀ x2 : List Nat,
    ∀ x3 : State, x3.Canon → (eff x1 x2 x3).Canon) (hs : s.Canon) :
    (writeBody q eff x s).Canon := by
  unfold writeBody
  split
  · exact .refuse
  · exact audited_canon (hf _ _ _ hs)

theorem writeOf_canon {rq : Rq} {index sub el : Nat} {value : Bytes} {eff : Session → List Nat → State → Act} {s : State} (hf : ∀ x1 :
    Session, ∀ x2 : List Nat, ∀ x3 : State, x3.Canon → (eff x1 x2 x3).Canon) (hs : s.Canon) :
    (writeOf rq index sub el value eff s).Canon := by
  unfold writeOf
  exact request_canon (fun _ _ h => writeBody_canon hf h) hs

theorem State.setStaged_canon {s : State} {index sub el : Nat} {v : List Nat} {persist : Bool} (hs : s.Canon) :
    (s.setStaged index sub el v persist).Canon := by
  unfold State.setStaged
  extract_lets +onlyGivenNames u
  have hu : u.Canon := State.setVal_canon hs
  exact canon_ite (State.stage_canon hu) hu

end Sys2Proof.Machine
end

section
/-! PROOFS. What the functions of Machine/LaneOps.lean leave of the canonical form (log entry 8). -/

namespace Sys2Proof.Machine

theorem State.noteLane_canon {s : State} {l : LaneId} (hs : s.Canon) : (s.noteLane l).Canon := by
  unfold State.noteLane
  exact State.each_canon hs (fun _ _ h => State.noteCond_canon h)

theorem State.modRef_canon {s : State} {r : Nat} {f : Ref → Ref} (hs : s.Canon) : (s.modRef r f).Canon := by
  unfold State.modRef
  exact State.canon_with hs

theorem State.evalRef_canon {s : State} {r : RefId} (hs : s.Canon) : (s.evalRef r).Canon := by
  unfold State.evalRef
  extract_lets +onlyGivenNames q x u
  have hu : u.Canon := canon_ite (State.modRef_canon hs) (canon_ite (State.modRef_canon (canon_ite (State.count_canon hs) hs)) hs)
  exact State.noteCond_canon hu

theorem State.evalRefs_canon {s : State} (hs : s.Canon) : s.evalRefs.Canon := by
  unfold State.evalRefs
  exact State.each_canon hs (fun _ _ h => State.evalRef_canon h)

theorem State.watchPort_canon {s : State} {p : Nat} (hs : s.Canon) : (s.watchPort p).Canon := by
  unfold State.watchPort
  extract_lets +onlyGivenNames ls u q
  have hu : u.Canon := canon_ite hs (State.modPort_canon hs)
  exact canon_ite hu <| canon_ite hu <| canon_ite hu <| canon_ite (State.modPort_canon hu) hu

theorem State.modNear_canon {s : State} {l : Nat} {f : Raw → Raw} (hs : s.Canon) : (s.modNear l f).Canon := by
  unfold State.modNear
  exact State.canon_with hs

theorem State.modFar_canon {s : State} {l : Nat} {f : Raw → Raw} (hs : s.Canon) : (s.modFar l f).Canon := by
  unfold State.modFar
  exact State.canon_with hs

theorem State.modStream_canon {s : State} {k : Nat} {f : Raw → Raw} (hs : s.Canon) : (s.modStream k f).Canon := by
  unfold State.modStream
  exact State.canon_with hs

theorem State.markBins_canon {s : State} {flags : Nat} (hs : s.Canon) : (s.markBins flags).Canon := by
  unfold State.markBins
  exact State.canon_with hs

theorem State.lanePartly_canon {s : State} {l : Nat} (hs : s.Canon) : (s.lanePartly l).Canon := by
  unfold State.lanePartly
  exact State.modFar_canon (State.modNear_canon hs)

theorem State.cutPayload_canon {s : State} {l : LaneId} (hs : s.Canon) : (s.cutPayload l).Canon := by
  unfold State.cutPayload
  extract_lets +onlyGivenNames b u
  have hu : u.Canon := State.modLane_canon hs
  split
  · extract_lets +onlyGivenNames n
    exact canon_ite (State.canon_with hu) (State.canon_with hu)
  · exact hu

theorem State.followEq_canon {s : State} {l : LaneId} (hs : s.Canon) : (s.followEq l).Canon := by
  unfold State.followEq
  extract_lets +onlyGivenNames a
  exact State.modLane_canon hs

theorem State.settle_canon {s : State} {l : LaneId} (hs : s.Canon) : (s.settle l).Canon := by
  unfold State.settle
  extract_lets +onlyGivenNames u x u1 u2 u3 u4
  have hu : u.Canon := State.followEq_canon (State.modLane_canon hs)
  have hu1 : u1.Canon := canon_ite (State.modLane_canon (State.countN_canon hu)) hu
  have hu2 : u2.Canon := canon_ite (State.cutPayload_canon hu1) hu1
  have hu3 : u3.Canon := canon_ite (State.modLane_canon (State.modNear_canon hu2)) hu1
  have hu4 : u4.Canon := canon_ite (State.modFar_canon hu3) hu3
  exact State.watchPort_canon (State.evalRefs_canon (State.noteLane_canon hu4))

theorem State.change_canon {s : State} {l : LaneId} {f : Lane → Lane} (hs : s.Canon) : (s.change l f).Canon := by
  unfold State.change
  exact State.settle_canon (State.modLane_canon hs)

theorem State.laneRestart_canon {s : State} {l : LaneId} {counted : Bool} (hs : s.Canon) : (s.laneRestart l counted).Canon := by
  unfold State.laneRestart
  refine canon_ite ?_ hs
  extract_lets +onlyGivenNames u
  have hu : u.Canon := canon_ite (State.count_canon hs) hs
  exact State.change_canon hu

theorem State.fallHold_canon {s : State} {l : LaneId} {st : Nat} (hs : s.Canon) : (s.fallHold l st).Canon := by
  unfold State.fallHold
  exact State.change_canon hs

theorem State.placeSet_canon {s : State} {p : Nat} {ls : List LaneId} (hs : s.Canon) : (s.placeSet p ls).Canon := by
  unfold State.placeSet
  extract_lets +onlyGivenNames arr first ds u
  have hu : u.Canon := State.each_canon hs (fun _ _ h => State.change_canon h)
  exact State.modPort_canon hu

theorem State.tryPlace_canon {s : State} {l : LaneId} (hs : s.Canon) : (s.tryPlace l).Canon := by
  unfold State.tryPlace
  extract_lets +onlyGivenNames p x
  refine canon_ite hs <| canon_ite (State.placeSet_canon hs) ?_
  split
  · extract_lets +onlyGivenNames d
    refine canon_ite ?_ hs
    refine canon_ite ?_ (State.change_canon hs)
    extract_lets +onlyGivenNames k0
    exact State.change_canon hs
  · extract_lets +onlyGivenNames set
    exact canon_ite (State.placeSet_canon hs) hs

end Sys2Proof.Machine
end

section
/-! PROOFS. What the functions of Machine/Lanes.lean leave of the canonical form (log entry 8). -/

namespace Sys2Proof.Machine

theorem State.laneOff_canon {s : State} {l : LaneId} (hs : s.Canon) : (s.laneOff l).Canon := by
  unfold State.laneOff
  exact State.settle_canon (State.setLane_canon hs)

theorem effEnable_canon {el : Nat} {x : Session} {vs : List Nat} {s : State} (hs : s.Canon) : (effEnable el x vs s).Canon := by
  unfold effEnable
  extract_lets +onlyGivenNames l was u
  have hu : u.Canon := State.setStaged_canon hs
  exact Act.canon_ite (ok_canon hu) <| Act.canon_ite (Act.canon_ite (ok_canon hu) (ok_canon (State.settle_canon (State.lanePartly_canon
    (State.setLane_canon (State.clearGroup_canon hu)))))) <| Act.canon_ite (ok_canon (State.laneOff_canon (State.lanePartly_canon hu)))
    (ok_canon hu)

theorem effTrainMode_canon {el : Nat} {x : Session} {vs : List Nat} {s : State} (hs : s.Canon) : (effTrainMode el x vs s).Canon := by
  unfold effTrainMode
  extract_lets +onlyGivenNames l old u st
  have hu : u.Canon := State.setStaged_canon hs
  exact Act.canon_ite (ok_canon hu) <| Act.canon_ite (ok_canon (State.change_canon hu)) <| Act.canon_ite (ok_canon (State.modLane_canon hu))
    (ok_canon hu)

theorem effPreset_canon {el : Nat} {x : Session} {vs : List Nat} {s : State} (hs : s.Canon) : (effPreset el x vs s).Canon := by
  unfold effPreset
  extract_lets +onlyGivenNames u x1
  have hu : u.Canon := State.setStaged_canon hs
  exact Act.canon_ite (ok_canon (State.modLane_canon hu)) (ok_canon hu)

theorem sdAssert_canon {l : LaneId} {s : State} (hs : s.Canon) : (sdAssert l s).Canon := by
  unfold sdAssert
  exact canon_ite (State.change_canon hs) hs

theorem sdDeassert_canon {l : LaneId} {s : State} (hs : s.Canon) : (sdDeassert l s).Canon := by
  unfold sdDeassert
  refine canon_ite ?_ hs
  extract_lets +onlyGivenNames st u
  have hu : u.Canon := State.modLane_canon hs
  exact canon_ite (State.fallHold_canon hu) <| canon_ite (State.laneRestart_canon hu) (State.settle_canon hu)

theorem sdStable_canon {l : LaneId} {s : State} (hs : s.Canon) : (sdStable l s).Canon := by
  unfold sdStable
  extract_lets +onlyGivenNames x
  exact canon_ite (State.change_canon hs) hs

theorem declareLos_canon {l : LaneId} {s : State} (hs : s.Canon) : (declareLos l s).Canon := by
  unfold declareLos
  extract_lets +onlyGivenNames x
  exact canon_ite (State.change_canon hs) hs

theorem clearLos_canon {l : LaneId} {s : State} (hs : s.Canon) : (clearLos l s).Canon := by
  unfold clearLos
  extract_lets +onlyGivenNames x
  exact canon_ite (State.change_canon hs) hs

theorem cdrStable_canon {l : LaneId} {s : State} (hs : s.Canon) : (cdrStable l s).Canon := by
  unfold cdrStable
  extract_lets +onlyGivenNames x
  refine canon_ite ?_ hs
  extract_lets +onlyGivenNames skip
  exact State.change_canon hs

theorem cdrTimeout_canon {l : LaneId} {s : State} (hs : s.Canon) : (cdrTimeout l s).Canon := by
  unfold cdrTimeout
  extract_lets +onlyGivenNames x
  exact canon_ite (State.change_canon (State.count_canon hs)) hs

theorem cdrLost_canon {l : LaneId} {s : State} (hs : s.Canon) : (cdrLost l s).Canon := by
  unfold cdrLost
  extract_lets +onlyGivenNames x
  refine canon_ite hs ?_
  extract_lets +onlyGivenNames u
  have hu : u.Canon := State.modLane_canon hs
  exact canon_ite (State.change_canon (State.fallHold_canon hu)) <| canon_ite (State.laneRestart_canon hu) hu

theorem recvTraining_canon {l : LaneId} {w : BitVec 304} {e : EyeObs} {s : State} (hs : s.Canon) : (recvTraining l w e s).Canon := by
  unfold recvTraining
  extract_lets +onlyGivenNames x
  refine canon_ite hs ?_
  split
  · extract_lets +onlyGivenNames u
    have hu : u.Canon := State.modLane_canon hs
    split
    · extract_lets +onlyGivenNames u1
      have hu1 : u1.Canon := State.change_canon hu
      exact State.emit_canon hu1
    · exact State.modLane_canon hu
  · refine canon_ite ?_ hs
    refine canon_ite ?_ (State.modLane_canon hs)
    extract_lets +onlyGivenNames n u
    have hu : u.Canon := State.modLane_canon hs
    exact canon_ite (State.laneRestart_canon hu) hu

theorem responseTime_canon {l : LaneId} {s : State} (hs : s.Canon) : (responseTime l s).Canon := by
  unfold responseTime
  extract_lets +onlyGivenNames x
  split
  · exact canon_ite (State.modLane_canon hs) hs
  · exact hs

theorem State.trainingFrame_canon {s : State} {l : LaneId} (hs : s.Canon) : (s.trainingFrame l).Canon := by
  unfold State.trainingFrame
  extract_lets +onlyGivenNames x f
  exact State.emit_canon (State.modLane_canon hs)

theorem State.tickTraining_canon {s : State} {l : LaneId} (hs : s.Canon) : (s.tickTraining l).Canon := by
  unfold State.tickTraining
  extract_lets +onlyGivenNames n
  exact canon_ite (State.modLane_canon hs) (State.modLane_canon (State.trainingFrame_canon hs))

theorem trainingTimer_canon {l : LaneId} {s : State} (hs : s.Canon) : (trainingTimer l s).Canon := by
  unfold trainingTimer
  extract_lets +onlyGivenNames x
  split
  · exact canon_ite (canon_ite (State.laneRestart_canon (State.modLane_canon (State.count_canon hs))) (State.change_canon (State.count_canon
      hs))) hs
  · exact hs

theorem trailingEnd_canon {l : LaneId} {s : State} (hs : s.Canon) : (trailingEnd l s).Canon := by
  unfold trailingEnd
  extract_lets +onlyGivenNames x
  split
  · exact canon_ite (State.change_canon hs) hs
  · exact hs

theorem blockLockTimeout_canon {l : LaneId} {s : State} (hs : s.Canon) : (blockLockTimeout l s).Canon := by
  unfold blockLockTimeout
  extract_lets +onlyGivenNames x
  exact canon_ite (State.laneRestart_canon hs) hs

theorem holdExpiry_canon {l : LaneId} {s : State} (hs : s.Canon) : (holdExpiry l s).Canon := by
  unfold holdExpiry
  split
  · exact canon_ite (State.laneRestart_canon hs) hs
  · exact hs

theorem effRetrain_canon {el : Nat} {x : Session} {vs : List Nat} {s : State} (hs : s.Canon) : (effRetrain el x vs s).Canon := by
  unfold effRetrain
  extract_lets +onlyGivenNames l
  exact Act.canon_ite (ok_canon hs) <| Act.canon_ite (ok_canon (State.modLane_canon hs)) (ok_canon (State.laneRestart_canon hs))

theorem rtrEnd_canon {l : LaneId} {s : State} (hs : s.Canon) : (rtrEnd l s).Canon := by
  unfold rtrEnd
  split
  · exact canon_ite (State.laneRestart_canon hs) hs
  · exact hs

theorem gatherEnd_canon {p : LaneId} {s : State} (hs : s.Canon) : (gatherEnd p s).Canon := by
  unfold gatherEnd
  split
  · refine canon_ite ?_ hs
    extract_lets +onlyGivenNames waiting set u u1
    have hu : u.Canon := State.modPort_canon hs
    have hu1 : u1.Canon := State.each_canon hu (fun _ _ h => canon_ite h (State.modLane_canon h))
    clear_value set
    split
    · exact State.tryPlace_canon hu1
    · exact hu1
  · exact hs

theorem effLoopback_canon {el : Nat} {x : Session} {vs : List Nat} {s : State} (hs : s.Canon) : (effLoopback el x vs s).Canon := by
  unfold effLoopback
  extract_lets +onlyGivenNames l v cur
  refine Act.canon_ite .refuse ?_
  extract_lets +onlyGivenNames t
  have ht : t.Canon := State.setVal_canon hs
  exact Act.canon_ite (ok_canon ht) <| Act.canon_ite (ok_canon (State.change_canon ht)) <| Act.canon_ite (ok_canon (State.change_canon ht))
    <| Act.canon_ite (ok_canon (State.modLane_canon ht)) <| Act.canon_ite (ok_canon (State.modLane_canon ht)) (ok_canon
    (State.laneRestart_canon (State.modLane_canon ht)))

theorem effFreeze_canon {el : Nat} {x : Session} {vs : List Nat} {s : State} (hs : s.Canon) : (effFreeze el x vs s).Canon := by
  unfold effFreeze
  exact ok_canon (State.followEq_canon (State.setVal_canon hs))

theorem State.portDefaults_canon {s : State} {p : Nat} (hs : s.Canon) : (s.portDefaults p).Canon := by
  unfold State.portDefaults
  exact State.each_canon hs (fun _ _ h => State.setStaged_canon h)

theorem effWidth_canon {el : Nat} {x : Session} {vs : List Nat} {s : State} (hs : s.Canon) : (effWidth el x vs s).Canon := by
  unfold effWidth
  extract_lets +onlyGivenNames w old range ports across
  refine Act.canon_ite .refuse <| Act.canon_ite .refuse ?_
  split
  · exact .refuse
  · split
    · exact .refuse
    · extract_lets +onlyGivenNames u u1 u2 u3
      have hu : u.Canon := State.each_canon hs (fun _ _ h => State.portDefaults_canon h)
      have hu1 : u1.Canon := State.setStaged_canon hu
      have hu2 : u2.Canon := State.each_canon hu1 (fun _ _ h => canon_ite (State.portDefaults_canon h) h)
      have hu3 : u3.Canon := State.each_canon hu2 (fun _ _ h => State.modPort_canon h)
      exact ok_canon (State.each_canon hu3 (fun _ _ h => State.laneRestart_canon h))

theorem State.evalTim_canon {s : State} {l : LaneId} (hs : s.Canon) : (s.evalTim l).Canon := by
  unfold State.evalTim
  exact State.change_canon hs

theorem effExpectedTrace_canon {el : Nat} {x : Session} {vs : List Nat} {s : State} (hs : s.Canon) :
    (effExpectedTrace el x vs s).Canon := by
  unfold effExpectedTrace
  exact guardAct_canon (ok_canon (State.evalTim_canon (State.setStaged_canon hs)))

theorem effTimMode_canon {el : Nat} {x : Session} {vs : List Nat} {s : State} (hs : s.Canon) : (effTimMode el x vs s).Canon := by
  unfold effTimMode
  exact ok_canon (State.evalTim_canon (State.setStaged_canon hs))

theorem slipEnd_canon {l : LaneId} {s : State} (hs : s.Canon) : (slipEnd l s).Canon := by
  unfold slipEnd
  extract_lets +onlyGivenNames x
  exact canon_ite (State.change_canon hs) hs

theorem txQueueFault_canon {l : LaneId} {s : State} (hs : s.Canon) : (txQueueFault l s).Canon := by
  unfold txQueueFault
  extract_lets +onlyGivenNames u
  have hu : u.Canon := State.auditObj_canon hs
  exact canon_ite (State.modLane_canon hu) hu

theorem overheadQueueFault_canon {l : LaneId} {s : State} (hs : s.Canon) : (overheadQueueFault l s).Canon := by
  unfold overheadQueueFault
  extract_lets +onlyGivenNames u
  have hu : u.Canon := State.auditObj_canon hs
  exact canon_ite (State.change_canon hu) hu

end Sys2Proof.Machine
end

section
/-! PROOFS. What the functions of Machine/SealOps.lean leave of the canonical form (log entry 8). -/

namespace Sys2Proof.Machine

theorem State.modTx_canon {s : State} {k : Nat} {f : TxStream → TxStream} (hs : s.Canon) : (s.modTx k f).Canon := by
  unfold State.modTx
  exact State.canon_with hs

theorem State.modRx_canon {s : State} {k : Nat} {f : RxStream → RxStream} (hs : s.Canon) : (s.modRx k f).Canon := by
  unfold State.modRx
  exact State.canon_with hs

theorem State.settleRx_canon {s : State} {k : Nat} (hs : s.Canon) : (s.settleRx k).Canon := by
  unfold State.settleRx
  extract_lets +onlyGivenNames x i u
  have hu : u.Canon := State.noteCond_canon (State.noteCond_canon hs)
  exact canon_ite (State.modStream_canon hu) hu

theorem State.settleTx_canon {s : State} {k : Nat} (hs : s.Canon) : (s.settleTx k).Canon := by
  unfold State.settleTx
  extract_lets +onlyGivenNames x i
  exact State.noteCond_canon (State.noteCond_canon hs)

theorem State.checkRxKey_canon {s : State} {k : Nat} (hs : s.Canon) : (s.checkRxKey k).Canon := by
  unfold State.checkRxKey
  extract_lets +onlyGivenNames x u
  have hu : u.Canon := canon_ite (State.modRx_canon hs) hs
  exact State.settleRx_canon hu

theorem State.orphanStreams_canon {s : State} (hs : s.Canon) : s.orphanStreams.Canon := by
  unfold State.orphanStreams
  exact State.each_canon hs (fun _ _ h => State.modStream_canon h)

theorem State.reloadStreams_canon {s : State} (hs : s.Canon) : s.reloadStreams.Canon := by
  unfold State.reloadStreams
  extract_lets +onlyGivenNames u u1 u2 u3
  have hu : u.Canon := State.orphanStreams_canon hs
  have hu1 : u1.Canon := State.each_canon hu (fun _ _ h => State.settleRx_canon (State.modRx_canon (canon_ite (State.count_canon h) h)))
  have hu2 : u2.Canon := State.each_canon hu1 (fun _ _ h => State.modRx_canon h)
  have hu3 : u3.Canon := State.each_canon hu2 (fun _ _ h => State.settleTx_canon (State.modTx_canon h))
  exact State.each_canon hu3 (fun _ _ h => State.modTx_canon h)

theorem State.verdictFail_canon {s : State} {k kind : Nat} (hs : s.Canon) : (s.verdictFail k kind).Canon := by
  unfold State.verdictFail
  extract_lets +onlyGivenNames h hold u u1 u2
  have hu : u.Canon := State.count_canon hs
  have hu1 : u1.Canon := State.modStream_canon hu
  have hu2 : u2.Canon := State.modRx_canon hu1
  exact State.settleRx_canon hu2

theorem State.verdictOk_canon {s : State} {k c : Nat} (hs : s.Canon) : (s.verdictOk k c).Canon := by
  unfold State.verdictOk
  extract_lets +onlyGivenNames hold multi stuck key u u1 u2
  have hu : u.Canon := State.count_canon hs
  have hu1 : u1.Canon := State.modStream_canon hu
  have hu2 : u2.Canon := State.modRx_canon hu1
  exact State.settleRx_canon hu2

theorem State.verdictNone_canon {s : State} {k : Nat} (hs : s.Canon) : (s.verdictNone k).Canon := by
  unfold State.verdictNone
  exact State.modRx_canon (State.count_canon hs)

theorem State.judge_canon {s : State} {k at_y : Nat} {r : SealRec} (hs : s.Canon) : (s.judge k at_y r).Canon := by
  unfold State.judge
  extract_lets +onlyGivenNames x last fresh due inTurn keyOk
  exact canon_ite (State.verdictNone_canon hs) <| canon_ite (State.verdictFail_canon hs) <| canon_ite (State.verdictFail_canon hs) <|
    canon_ite (State.verdictFail_canon hs) <| canon_ite (State.verdictFail_canon hs) (State.verdictOk_canon hs)

theorem State.takeRecord_canon {s : State} {l : LaneId} {at_y : Nat} {r : SealRec} (hs : s.Canon) : (s.takeRecord l at_y r).Canon := by
  unfold State.takeRecord
  extract_lets +onlyGivenNames x
  refine canon_ite hs <| canon_ite (State.count_canon hs) <| canon_ite (State.count_canon hs) ?_
  extract_lets +onlyGivenNames u
  have hu : u.Canon := State.modLane_canon hs
  split
  · exact State.count_canon hu
  · extract_lets +onlyGivenNames y
    exact canon_ite (State.judge_canon hu) hu

theorem State.noRecord_canon {s : State} {k : Nat} (hs : s.Canon) : (s.noRecord k).Canon := by
  unfold State.noRecord
  exact canon_ite (State.verdictNone_canon hs) (State.verdictFail_canon hs)

theorem State.closeInterval_canon {s : State} {l : LaneId} (hs : s.Canon) : (s.closeInterval l).Canon := by
  unfold State.closeInterval
  extract_lets +onlyGivenNames ch u u1
  have hu : u.Canon := State.modLane_canon hs
  have hu1 : u1.Canon := State.each_canon hu (fun _ _ h => State.takeRecord_canon h)
  exact State.each_canon hu1 (fun _ _ h => State.noRecord_canon h)

theorem State.rxMultiframe_canon {s : State} {l : LaneId} (hs : s.Canon) : (s.rxMultiframe l).Canon := by
  unfold State.rxMultiframe
  extract_lets +onlyGivenNames u failed now u1
  have hu : u.Canon := State.closeInterval_canon hs
  have hu1 : u1.Canon := State.modLane_canon hu
  exact State.each_canon hu1 (fun _ _ h => State.checkRxKey_canon (State.modRx_canon h))

theorem State.rxFrameBase_canon {s : State} {l : LaneId} (hs : s.Canon) : (s.rxFrameBase l).Canon := by
  unfold State.rxFrameBase
  exact State.each_canon hs (fun _ _ h => State.modRx_canon h)

theorem State.emptyRecords_canon {s : State} (hs : s.Canon) : s.emptyRecords.Canon := by
  unfold State.emptyRecords
  extract_lets +onlyGivenNames gone v u
  have hu : u.Canon := State.canon_with hs
  exact State.each_canon hu (fun _ _ h => State.modLane_canon h)

theorem State.dropDataKeys_canon {s : State} (hs : s.Canon) : s.dropDataKeys.Canon := by
  unfold State.dropDataKeys
  extract_lets +onlyGivenNames v u v1 u1 v2 u2 v3 u3 u4 v4 u5
  have hu : u.Canon := State.emptyRecords_canon (State.canon_with hs)
  have hu1 : u1.Canon := State.canon_with hu
  have hu2 : u2.Canon := State.canon_with hu1
  have hu3 : u3.Canon := State.canon_with hu2
  have hu4 : u4.Canon := State.each_canon hu3 (fun _ _ h => State.settleTx_canon h)
  have hu5 : u5.Canon := State.canon_with hu4
  exact State.each_canon hu5 (fun _ _ h => State.modStream_canon h)

theorem State.eraseKeys_canon {s : State} {cause : Nat} (hs : s.Canon) : (s.eraseKeys cause).Canon := by
  unfold State.eraseKeys
  extract_lets +onlyGivenNames u u1 v v1 u2 u3 u4 u5
  have hu : u.Canon := State.audit_canon hs
  have hu1 : u1.Canon := State.dropDataKeys_canon hu
  have hu2 : u2.Canon := State.canon_with hu1
  have hu3 : u3.Canon := State.count_canon hu2
  have hu4 : u4.Canon := State.closeAll_canon hu3
  have hu5 : u5.Canon := State.event_canon hu4
  exact State.raiseAlarm_canon hu5

theorem State.keyInstalled_canon {s : State} (hs : s.Canon) : s.keyInstalled.Canon := by
  unfold State.keyInstalled
  refine canon_ite ?_ hs
  extract_lets +onlyGivenNames v u o
  have hu : u.Canon := State.canon_with hs
  exact State.each_canon hu (fun _ _ h => State.clearAlarm_canon h)

theorem State.authFail_canon {s : State} (hs : s.Canon) : s.authFail.Canon := by
  unfold State.authFail
  extract_lets +onlyGivenNames u v u1 limit
  have hu : u.Canon := State.count_canon hs
  have hu1 : u1.Canon := State.canon_with hu
  exact canon_ite (State.eraseKeys_canon (State.canon_with hu1)) hu1

end Sys2Proof.Machine
end

section
/-! PROOFS. What the functions of Machine/Deframer.lean leave of the canonical form (log entry 8). -/

namespace Sys2Proof.Machine

theorem State.blockLocked_canon {s : State} {l : LaneId} (hs : s.Canon) : (s.blockLocked l).Canon := by
  unfold State.blockLocked
  extract_lets +onlyGivenNames u
  have hu : u.Canon := canon_ite (State.count_canon hs) hs
  exact State.change_canon hu

theorem State.searchBlock_canon {s : State} {l : LaneId} {valid : Bool} (hs : s.Canon) : (s.searchBlock l valid).Canon := by
  unfold State.searchBlock
  extract_lets +onlyGivenNames x
  exact canon_ite (canon_ite (State.blockLocked_canon hs) (State.modLane_canon hs)) (State.modLane_canon hs)

theorem State.payload_canon {s : State} {l : LaneId} {row blk : Nat} {w : BitVec 64} (hs : s.Canon) : (s.payload l row blk w).Canon := by
  unfold State.payload
  extract_lets +onlyGivenNames q raw plain ring v u
  have hu : u.Canon := by
    unfold u
    split
    · exact canon_ite (State.canon_with hs) hs
    · exact hs
  exact State.modLane_canon hu

theorem State.deliver_canon {s : State} {l : LaneId} {pos : Nat} {h : BitVec 2} {w : BitVec 64} (hs : s.Canon) :
    (s.deliver l pos h w).Canon := by
  unfold State.deliver
  extract_lets +onlyGivenNames k
  refine canon_ite hs ?_
  extract_lets +onlyGivenNames u
  have hu : u.Canon := canon_ite hs (State.count_canon hs)
  exact State.payload_canon hu

theorem State.startCand_canon {s : State} {l : LaneId} {pos : Nat} {h : BitVec 2} {w : BitVec 64} (hs : s.Canon) :
    (s.startCand l pos h w).Canon := by
  unfold State.startCand
  extract_lets +onlyGivenNames x
  split
  · exact hs
  · extract_lets +onlyGivenNames u
    have hu : u.Canon := State.modLane_canon hs
    refine canon_ite hu <| canon_ite (State.count_canon hu) ?_
    extract_lets +onlyGivenNames c u1
    have hu1 : u1.Canon := State.modLane_canon hu
    exact canon_ite (State.change_canon hu1) hu1

theorem recvBlock_canon {l : LaneId} {header : BitVec 2} {payload : BitVec 64} {s : State} (hs : s.Canon) :
    (recvBlock l header payload s).Canon := by
  unfold recvBlock
  extract_lets +onlyGivenNames x
  refine canon_ite ?_ hs
  extract_lets +onlyGivenNames inv h r clear u
  have hu : u.Canon := State.modLane_canon hs
  refine canon_ite (State.searchBlock_canon hu) ?_
  extract_lets +onlyGivenNames heads
  refine canon_ite (State.change_canon (State.fallHold_canon hu)) ?_
  extract_lets +onlyGivenNames pos u1
  have hu1 : u1.Canon := State.modLane_canon hu
  refine canon_ite hu1 ?_
  extract_lets +onlyGivenNames u2
  have hu2 : u2.Canon := canon_ite (State.modLane_canon (State.deliver_canon hu1)) hu1
  exact State.startCand_canon hu2

theorem State.identify_canon {s : State} {l : LaneId} {tag : Nat} (hs : s.Canon) : (s.identify l tag).Canon := by
  unfold State.identify
  extract_lets +onlyGivenNames p wide group dup
  exact State.change_canon hs

theorem State.tryIdentify_canon {s : State} {l : LaneId} (hs : s.Canon) : (s.tryIdentify l).Canon := by
  unfold State.tryIdentify
  exact canon_ite (State.identify_canon hs) hs

theorem State.multiframeAt_canon {s : State} {l : LaneId} {mfi : Nat} (hs : s.Canon) : (s.multiframeAt l mfi).Canon := by
  unfold State.multiframeAt
  exact canon_ite (State.rxMultiframe_canon hs) hs

theorem State.frameLocked_canon {s : State} {l : LaneId} {c : Cand} (hs : s.Canon) : (s.frameLocked l c).Canon := by
  unfold State.frameLocked
  extract_lets +onlyGivenNames t
  have ht : t.Canon := State.change_canon hs
  exact State.tryIdentify_canon (State.multiframeAt_canon ht)

theorem State.timeRow_canon {s : State} {l : LaneId} {row : Nat} {b : Option Bytes} (hs : s.Canon) : (s.timeRow l row b).Canon := by
  unfold State.timeRow
  exact State.modLane_canon hs

theorem State.dataRow_canon {s : State} {l : LaneId} {row : Nat} {b : Option Bytes} (hs : s.Canon) : (s.dataRow l row b).Canon := by
  unfold State.dataRow
  extract_lets +onlyGivenNames x old c r
  exact State.modLane_canon (State.countN_canon hs)

theorem State.channelRow_canon {s : State} {l : LaneId} {row : Nat} {b : Option Bytes} (hs : s.Canon) : (s.channelRow l row b).Canon := by
  unfold State.channelRow
  exact canon_ite (State.timeRow_canon hs) (State.dataRow_canon hs)

theorem State.closeFrame_canon {s : State} {l : LaneId} {keep : Bool} (hs : s.Canon) : (s.closeFrame l keep).Canon := by
  unfold State.closeFrame
  exact State.modLane_canon (State.rxFrameBase_canon hs)

theorem State.voidStart_canon {s : State} {l : LaneId} {starts : Bool} (hs : s.Canon) : (s.voidStart l starts).Canon := by
  unfold State.voidStart
  exact State.each_canon hs (fun _ _ h => State.modRx_canon h)

theorem State.frameMoved_canon {s : State} {l : LaneId} {old c : Cand} (hs : s.Canon) : (s.frameMoved l old c).Canon := by
  unfold State.frameMoved
  extract_lets +onlyGivenNames fly u v u1 u2 u3 u4 u5 u6
  have hu : u.Canon := State.count_canon hs
  have hu1 : u1.Canon := by
    unfold u1
    split
    · exact canon_ite (canon_ite (State.canon_with hu) (State.canon_with hu)) hu
    · exact hu
  have hu2 : u2.Canon := State.modLane_canon hu1
  have hu3 : u3.Canon := canon_ite (State.voidStart_canon hu2) (State.multiframeAt_canon hu2)
  have hu4 : u4.Canon := State.modLane_canon hu3
  have hu5 : u5.Canon := State.each_canon hu4 (fun _ _ h => State.channelRow_canon h)
  have hu6 : u6.Canon := State.modLane_canon (State.closeFrame_canon hu5)
  exact State.settle_canon (State.multiframeAt_canon hu6)

theorem candAt_canon {l : LaneId} {pos : Nat} {header : BitVec 2} {content : BitVec 64} {s : State} (hs : s.Canon) :
    (candAt l pos header content s).Canon := by
  unfold candAt
  extract_lets +onlyGivenNames x
  split
  · exact hs
  · split
    · exact State.modLane_canon hs
    · extract_lets +onlyGivenNames c' u
      have hu : u.Canon := State.modLane_canon hs
      refine canon_ite (canon_ite (State.frameMoved_canon hu) hu) ?_
      extract_lets +onlyGivenNames u1
      have hu1 : u1.Canon := canon_ite (State.change_canon hu) hu
      exact canon_ite (State.frameLocked_canon hu1) hu1

theorem State.tagSeen_canon {s : State} {l : LaneId} {tag : Nat} (hs : s.Canon) : (s.tagSeen l tag).Canon := by
  unfold State.tagSeen
  extract_lets +onlyGivenNames x
  split
  · extract_lets +onlyGivenNames n
    exact State.tryIdentify_canon (State.modLane_canon hs)
  · refine canon_ite ?_ hs
    extract_lets +onlyGivenNames n
    refine canon_ite (State.change_canon hs) ?_
    extract_lets +onlyGivenNames u
    have hu : u.Canon := State.modLane_canon hs
    exact canon_ite (State.tryPlace_canon (State.modLane_canon hu)) hu

theorem State.fabMissing_canon {s : State} {l : LaneId} (hs : s.Canon) : (s.fabMissing l).Canon := by
  unfold State.fabMissing
  exact State.modLane_canon (State.count_canon hs)

theorem State.frameTurn_canon {s : State} {l : LaneId} {keep : Bool} (hs : s.Canon) : (s.frameTurn l keep).Canon := by
  unfold State.frameTurn
  extract_lets +onlyGivenNames t n a
  exact State.multiframeAt_canon (State.modLane_canon (State.closeFrame_canon hs))

theorem fabAt_canon {l : LaneId} {header : BitVec 2} {content : BitVec 64} {s : State} (hs : s.Canon) :
    (fabAt l header content s).Canon := by
  unfold fabAt
  extract_lets +onlyGivenNames x
  refine canon_ite ?_ hs
  extract_lets +onlyGivenNames e u u1 u2
  have hu : u.Canon := State.modLane_canon hs
  have hu1 : u1.Canon := State.fabMissing_canon hu
  have hu2 : u2.Canon := by
    unfold u2
    split
    · exact canon_ite (State.change_canon hu1) hu1
    · extract_lets +onlyGivenNames now agrees follows u3 u4
      have hu3 : u3.Canon := canon_ite hu (State.count_canon hu)
      have hu4 : u4.Canon := State.change_canon hu3
      exact State.tagSeen_canon hu4
  exact canon_ite (State.frameTurn_canon hu2) hu2

theorem State.checkBip_canon {s : State} {l : LaneId} {sent : BitVec 16} (hs : s.Canon) : (s.checkBip l sent).Canon := by
  unfold State.checkBip
  extract_lets +onlyGivenNames u
  have hu : u.Canon := State.modLane_canon hs
  split
  · extract_lets +onlyGivenNames n u1 u2
    have hu1 : u1.Canon := State.countN_canon hu
    have hu2 : u2.Canon := State.modNear_canon hu1
    exact State.modLane_canon hu2
  · exact State.modLane_canon hu
  · exact hu

theorem State.takeRei_canon {s : State} {l : LaneId} {v : Nat} (hs : s.Canon) : (s.takeRei l v).Canon := by
  unfold State.takeRei
  exact canon_ite hs <| canon_ite (State.count_canon hs) (State.modFar_canon (State.countN_canon hs))

theorem State.row1_canon {s : State} {l : LaneId} {b : Bytes} (hs : s.Canon) : (s.row1 l b).Canon := by
  unfold State.row1
  extract_lets +onlyGivenNames u f
  have hu : u.Canon := State.takeRei_canon (State.checkBip_canon hs)
  exact State.change_canon hu

theorem State.ssmAccepted_canon {s : State} {l : LaneId} {code : Nat} (hs : s.Canon) : (s.ssmAccepted l code).Canon := by
  unfold State.ssmAccepted
  exact canon_ite hs (State.each_canon hs (fun _ _ h => State.count_canon h))

theorem State.row2_canon {s : State} {l : LaneId} {b : Bytes} (hs : s.Canon) : (s.row2 l b).Canon := by
  unfold State.row2
  extract_lets +onlyGivenNames failed x aps code g u o new
  have hu : u.Canon := State.modLane_canon hs
  exact State.tryIdentify_canon (State.evalTim_canon (canon_ite (State.ssmAccepted_canon hu) hu))

theorem State.row3_canon {s : State} {l : LaneId} {b : Bytes} (hs : s.Canon) : (s.row3 l b).Canon := by
  unfold State.row3
  extract_lets +onlyGivenNames st u
  have hu : u.Canon := State.modLane_canon hs
  exact canon_ite (State.laneRestart_canon hu) hu

theorem State.erroredRow_canon {s : State} {l : LaneId} {row : Nat} (hs : s.Canon) : (s.erroredRow l row).Canon := by
  unfold State.erroredRow
  extract_lets +onlyGivenNames u
  have hu : u.Canon := State.count_canon hs
  exact State.modLane_canon hu

theorem State.sealRow_canon {s : State} {l : LaneId} {row : Nat} {b : Bytes} (hs : s.Canon) : (s.sealRow l row b).Canon := by
  unfold State.sealRow
  extract_lets +onlyGivenNames i go
  exact State.modLane_canon hs

theorem recvOverhead_canon {l : LaneId} {row : Fin 1000} {header : BitVec 2} {content : BitVec 64} {s : State} (hs : s.Canon) :
    (recvOverhead l row header content s).Canon := by
  unfold recvOverhead
  extract_lets +onlyGivenNames r
  refine canon_ite ?_ hs
  extract_lets +onlyGivenNames b u
  have hu : u.Canon := canon_ite (State.erroredRow_canon hs) hs
  refine canon_ite (State.channelRow_canon hu) ?_
  clear_value b
  split
  · exact canon_ite (State.row1_canon hu) <| canon_ite (State.row2_canon hu) <| canon_ite (State.row3_canon hu) <| canon_ite
      (State.sealRow_canon hu) hu
  · exact hu

end Sys2Proof.Machine
end

section
/-! PROOFS. What the functions of Machine/Sealing.lean leave of the canonical form (log entry 8). -/

namespace Sys2Proof.Machine

theorem sealRecord_canon {l : LaneId} {r : SealRec} {tagOk : Bool} {s : State} (hs : s.Canon) : (sealRecord l r tagOk s).Canon := by
  unfold sealRecord
  split
  · exact hs
  · exact canon_ite (State.takeRecord_canon (State.modLane_canon hs)) hs

theorem sealDeadline_canon {k : Fin 65536} {s : State} (hs : s.Canon) : (sealDeadline k s).Canon := by
  unfold sealDeadline
  extract_lets +onlyGivenNames y
  exact canon_ite (State.noRecord_canon hs) hs

theorem holdEnd_canon {k : Fin 65536} {s : State} (hs : s.Canon) : (holdEnd k s).Canon := by
  unfold holdEnd
  exact canon_ite (State.modRx_canon hs) hs

theorem State.beginStreams_canon {s : State} {slot : Nat} (hs : s.Canon) : (s.beginStreams slot).Canon := by
  unfold State.beginStreams
  extract_lets +onlyGivenNames u
  have hu : u.Canon := State.each_canon hs (fun _ _ h => State.settleTx_canon (State.modTx_canon h))
  exact State.each_canon hu (fun _ _ h => State.settleRx_canon (State.modRx_canon h))

theorem badUnwrap_canon {s : State} (hs : s.Canon) : (badUnwrap s).Canon := by
  unfold badUnwrap
  exact .done (State.authFail_canon hs) (fun _ h => h)

theorem effInstallKey_canon {slot : Nat} {plain : Option KeyPlain} {switchAt : Nat} {x : Session} {vs : List Nat} {s : State} (hs : s.Canon)
    :
    (effInstallKey slot plain switchAt x vs s).Canon := by
  unfold effInstallKey
  refine Act.canon_ite .refuse <| Act.canon_ite .refuse ?_
  split
  · exact badUnwrap_canon (State.cipherJob_canon hs)
  · extract_lets +onlyGivenNames x1
    refine Act.canon_ite .refuse <| Act.canon_ite .refuse <| Act.canon_ite .refuse <| Act.canon_ite .refuse <| Act.canon_ite .refuse <|
      Act.canon_ite .refuse <| Act.canon_ite .refuse <| Act.canon_ite .refuse ?_
    extract_lets +onlyGivenNames key v t v1 t1 t2
    have ht : t.Canon := State.canon_with hs
    have ht1 : t1.Canon := State.keyInstalled_canon (State.canon_withPersist ht rfl rfl rfl)
    have ht2 : t2.Canon := State.cipherJob_canon (canon_ite (State.beginStreams_canon ht1) ht1)
    exact .done ht2 (fun _ h => h)

theorem switchKey_canon {slot : Nat} {s : State} (hs : s.Canon) : (switchKey slot s).Canon := by
  unfold switchKey
  extract_lets +onlyGivenNames x
  refine canon_ite ?_ hs
  extract_lets +onlyGivenNames v u u1
  have hu : u.Canon := State.canon_with hs
  have hu1 : u1.Canon := State.each_canon hu (fun _ _ h => State.settleTx_canon (State.modTx_canon h))
  exact State.each_canon hu1 (fun _ _ h => State.settleRx_canon (State.modRx_canon h))

theorem effEraseSlot_canon {slot : Nat} {x : Session} {vs : List Nat} {s : State} (hs : s.Canon) : (effEraseSlot slot x vs s).Canon := by
  unfold effEraseSlot
  refine Act.canon_ite (ok_canon (State.canon_with hs)) ?_
  extract_lets +onlyGivenNames v u u1
  have hu : u.Canon := State.canon_with hs
  have hu1 : u1.Canon := State.beginStreams_canon hu
  exact ok_canon (State.each_canon hu1 (fun _ _ h => State.checkRxKey_canon (State.modRx_canon h)))

theorem effEraseAll_canon {x : Session} {vs : List Nat} {s : State} (hs : s.Canon) : (effEraseAll x vs s).Canon := by
  unfold effEraseAll
  exact ok_canon (State.eraseKeys_canon hs)

theorem effInstallKwk_canon {plain : Option (BitVec 256)} {x : Session} {vs : List Nat} {s : State} (hs : s.Canon) :
    (effInstallKwk plain x vs s).Canon := by
  unfold effInstallKwk
  refine Act.canon_ite .refuse ?_
  split
  · exact badUnwrap_canon hs
  · exact ok_canon (State.canon_with hs)

theorem effTxStream_canon {k : Nat} {x : Session} {vs : List Nat} {s : State} (hs : s.Canon) : (effTxStream k x vs s).Canon := by
  unfold effTxStream
  split
  · extract_lets +onlyGivenNames others old moves
    refine Act.canon_ite .refuse <| Act.canon_ite .refuse <| Act.canon_ite .refuse <| Act.canon_ite .refuse ?_
    split
    · refine Act.canon_ite .refuse ?_
      extract_lets +onlyGivenNames fresh t
      have ht : t.Canon := State.setStaged_canon hs
      exact ok_canon (canon_ite (State.settleTx_canon (State.modTx_canon ht)) ht)
    · extract_lets +onlyGivenNames t
      have ht : t.Canon := State.modTx_canon (State.setStaged_canon hs)
      exact ok_canon (canon_ite (State.clearGroup_canon ht) ht)
  · exact .refuse

theorem effRxStream_canon {k : Nat} {x : Session} {vs : List Nat} {s : State} (hs : s.Canon) : (effRxStream k x vs s).Canon := by
  unfold effRxStream
  split
  · extract_lets +onlyGivenNames others moves prompt t full
    have ht : t.Canon := State.setStaged_canon hs
    refine Act.canon_ite .refuse <| Act.canon_ite .refuse <| Act.canon_ite .refuse <| Act.canon_ite .refuse <| Act.canon_ite .refuse <|
      Act.canon_ite .refuse <| Act.canon_ite .refuse ?_
    extract_lets +onlyGivenNames t1
    have ht1 : t1.Canon := State.modRx_canon ht
    dsimp only
    exact ok_canon (canon_ite (State.modStream_canon (State.canon_with (State.clearGroup_canon ht1))) (canon_ite (State.modStream_canon ht1)
      ht1))
  · exact .refuse

theorem effBinding_canon {slot : Nat} {x : Session} {vs : List Nat} {s : State} (hs : s.Canon) : (effBinding slot x vs s).Canon := by
  unfold effBinding
  extract_lets +onlyGivenNames x1 named
  exact Act.canon_ite (ok_canon (State.setStaged_canon hs)) (guardAct_canon (ok_canon (State.setStaged_canon hs)))

theorem State.modChan_canon {s : State} {ch : Nat} {f : Channel → Channel} (hs : s.Canon) : (s.modChan ch f).Canon := by
  unfold State.modChan
  exact State.canon_with hs

theorem effChannelKey_canon {ch : Nat} {plain : Option KeyPlain} {x : Session} {vs : List Nat} {s : State} (hs : s.Canon) :
    (effChannelKey ch plain x vs s).Canon := by
  unfold effChannelKey
  refine Act.canon_ite .refuse <| Act.canon_ite .refuse ?_
  split
  · exact badUnwrap_canon (State.cipherJob_canon hs)
  · refine Act.canon_ite .refuse <| Act.canon_ite .refuse <| Act.canon_ite .refuse <| Act.canon_ite .refuse ?_
    extract_lets +onlyGivenNames v v1 t t1
    have ht : t.Canon := State.canon_withPersist hs rfl rfl rfl
    have ht1 : t1.Canon := State.cipherJob_canon (State.keyInstalled_canon (State.modChan_canon ht))
    exact .done ht1 (fun _ h => h)

theorem effSend_canon {ch : Nat} {m : Bytes} {x : Session} {vs : List Nat} {s : State} (hs : s.Canon) : (effSend ch m x vs s).Canon := by
  unfold effSend
  extract_lets +onlyGivenNames x1 lane
  split
  · exact .refuse
  · refine Act.canon_ite .refuse <| Act.canon_ite .refuse <| Act.canon_ite .refuse ?_
    extract_lets +onlyGivenNames d
    exact ok_canon (State.modChan_canon (State.cipherJob_canon hs))

theorem State.guardedIn_canon {s : State} {l : LaneId} {ch : Nat} {body : Bytes} (hs : s.Canon) : (s.guardedIn l ch body).Canon := by
  unfold State.guardedIn
  extract_lets +onlyGivenNames x
  refine canon_ite (State.count_canon hs) ?_
  split
  · exact State.count_canon hs
  · extract_lets +onlyGivenNames seq
    refine canon_ite (State.count_canon hs) ?_
    split
    · exact State.count_canon (State.cipherJob_canon hs)
    · extract_lets +onlyGivenNames u u1 h es
      have hu : u.Canon := State.cipherJob_canon hs
      have hu1 : u1.Canon := State.modChan_canon (State.count_canon hu)
      exact canon_ite (State.each_canon hu1 (fun _ _ h => State.postUnit_canon h)) hu1

end Sys2Proof.Machine
end

section
/-! PROOFS. What the functions of Machine/EventOps.lean leave of the canonical form (log entry 8). -/

namespace Sys2Proof.Machine

theorem State.drainHeld_canon {h n : Nat} {s : State} (hs : s.Canon) : (State.drainHeld h n s).Canon := by
  induction n generalizing s with
  | zero => exact hs
  | succ n ih =>
    unfold State.drainHeld
    dsimp only
    split
    · exact hs
    · exact canon_ite (ih (State.answerHeld_canon (State.modHop_canon hs)))
        (canon_ite (ih (State.answerHeld_canon (State.writeUnit_canon (State.modHop_canon hs)))) hs)

theorem State.transDone_canon {s : State} {t : Trans} (hs : s.Canon) : (s.transDone t).Canon := by
  unfold State.transDone
  extract_lets +onlyGivenNames v u
  have hu : u.Canon := State.canon_with hs
  exact canon_ite (State.count_canon hu) <| canon_ite hu (State.count_canon hu)

theorem State.drainDone_canon {h n : Nat} {s : State} (hs : s.Canon) : (State.drainDone h n s).Canon := by
  induction n generalizing s with
  | zero => exact hs
  | succ n ih =>
    unfold State.drainDone
    split
    · exact canon_ite (ih (State.transDone_canon (State.writeUnit_canon hs))) hs
    · exact hs

theorem State.journal_canon {s : State} {kind : Nat} {e : Entry} {number acc : Nat} (hs : s.Canon) :
    (s.journal kind e number acc).Canon := by
  unfold State.journal
  extract_lets +onlyGivenNames n m v u
  have hu : u.Canon := State.canon_with hs
  exact canon_ite (State.canon_with hu) hu

theorem State.journalTrans_canon {s : State} {removed inserted : List Entry} {acc : Nat} (hs : s.Canon) :
    (s.journalTrans removed inserted acc).Canon := by
  unfold State.journalTrans
  extract_lets +onlyGivenNames u
  have hu : u.Canon := State.each_canon hs (fun _ _ h => State.journal_canon h)
  exact State.each_canon hu (fun _ _ h => State.journal_canon h)

theorem State.journalUpTo_canon {s : State} {t : Trans} (hs : s.Canon) : (s.journalUpTo t).Canon := by
  unfold State.journalUpTo
  extract_lets +onlyGivenNames upto u
  have hu : u.Canon := State.each_canon hs (fun _ _ h => State.journalTrans_canon h)
  exact State.canon_with hu

theorem State.putTrans_canon {s : State} {t : Trans} (hs : s.Canon) : (s.putTrans t).Canon := by
  unfold State.putTrans
  exact State.canon_with hs

theorem State.include_canon {s : State} {acc : Nat} {page : List Entry} (hs : s.Canon) : (s.include acc page).Canon := by
  unfold State.include
  exact State.orphanStreams_canon (State.canon_with hs)

theorem State.activationOut_canon {s : State} {ay : Armed} {e : Bytes} (hs : s.Canon) : (s.activationOut ay e).Canon := by
  unfold State.activationOut
  extract_lets +onlyGivenNames v u u1
  have hu : u.Canon := State.audit_canon (State.canon_with hs)
  have hu1 : u1.Canon := canon_ite (State.postUnit_canon hu) hu
  exact State.each_canon hu1 (fun _ _ h => State.postUnit_canon h)

theorem State.accept_canon {s : State} (hs : s.Canon) : s.accept.2.Canon := State.canon_with hs

theorem State.cancelArmed_canon {s : State} {status detail : Nat} (hs : s.Canon) : (s.cancelArmed status detail).Canon := by
  unfold State.cancelArmed
  split
  · exact hs
  · extract_lets +onlyGivenNames v u
    have hu : u.Canon := State.count_canon (State.canon_with hs)
    exact State.activationOut_canon hu

theorem State.modArmed_canon {s : State} {f : Armed → Armed} (hs : s.Canon) : (s.modArmed f).Canon := by
  unfold State.modArmed
  exact State.canon_with hs

theorem State.undoFlight_canon {s : State} (hs : s.Canon) : s.undoFlight.Canon := by
  unfold State.undoFlight
  extract_lets +onlyGivenNames ts
  exact State.canon_with hs

theorem State.setTarget_canon {s : State} (hs : s.Canon) : s.setTarget.Canon := by
  unfold State.setTarget
  extract_lets +onlyGivenNames c id
  exact State.modArmed_canon hs

theorem State.checkSealed_canon {s : State} (hs : s.Canon) : s.checkSealed.Canon := by
  unfold State.checkSealed
  split
  · refine canon_ite ?_ hs
    extract_lets +onlyGivenNames u
    have hu : u.Canon := State.modArmed_canon hs
    exact canon_ite (State.setTarget_canon hu) hu
  · exact hs

theorem State.sealNow_canon {s : State} (hs : s.Canon) : s.sealNow.Canon := by
  unfold State.sealNow
  split
  · exact canon_ite (State.checkSealed_canon (State.modArmed_canon hs)) hs
  · exact hs

theorem State.swapPages_canon {s : State} {number : Nat} (hs : s.Canon) : (s.swapPages number).Canon := by
  unfold State.swapPages
  extract_lets +onlyGivenNames u page sel revs gone v v1 v2 u1 u2
  have hu : u.Canon := State.journal_canon hs
  have hu1 : u1.Canon := State.canon_with hu
  have hu2 : u2.Canon := State.each_canon hu1 (fun _ _ h => State.clearIf_canon (State.clearIf_canon h))
  exact State.reloadStreams_canon hu2

theorem State.abandonMap_canon {s : State} (hs : s.Canon) : s.abandonMap.Canon := by
  unfold State.abandonMap
  split
  · extract_lets +onlyGivenNames v u
    have hu : u.Canon := State.canon_withPersist hs rfl rfl rfl
    exact State.count_canon hu
  · exact hs

theorem State.mapDue_canon {s : State} (hs : s.Canon) : s.mapDue.Canon := by
  unfold State.mapDue
  exact canon_ite hs (State.noteCond_canon (State.canon_withPersist hs rfl rfl rfl))

theorem State.executeArmed_canon {s : State} {snapshot : Nat} (hs : s.Canon) : (s.executeArmed snapshot).Canon := by
  unfold State.executeArmed
  split
  · exact hs
  · extract_lets +onlyGivenNames trans last id u
    have hu : u.Canon := State.noteCond_canon (State.mapDue_canon (State.abandonMap_canon (State.count_canon (State.swapPages_canon hs))))
    exact State.activationOut_canon hu

theorem State.dueActivation_canon {s : State} {count snapshot : Nat} (hs : s.Canon) : (s.dueActivation count snapshot).Canon := by
  unfold State.dueActivation
  split
  · exact canon_ite (canon_ite (State.executeArmed_canon hs) <| canon_ite (State.modArmed_canon hs) (State.cancelArmed_canon hs)) hs
  · exact hs

theorem State.makeRoom_canon {s : State} {h : Nat} (hs : s.Canon) : (s.makeRoom h).Canon := by
  unfold State.makeRoom
  extract_lets +onlyGivenNames u u1 u2
  have hu : u.Canon := State.modHop_canon hs
  have hu1 : u1.Canon := State.drainOverflow_canon hu
  have hu2 : u2.Canon := State.drainDone_canon hu1
  exact State.checkSealed_canon (State.drainHeld_canon hu2)

theorem State.consume_canon {s : State} {h n : Nat} (hs : s.Canon) : (s.consume h n).Canon := by
  unfold State.consume
  exact State.makeRoom_canon (State.modHop_canon hs)

theorem State.discardFlight_canon {s : State} (hs : s.Canon) : s.discardFlight.Canon := by
  unfold State.discardFlight
  extract_lets +onlyGivenNames u
  have hu : u.Canon := State.undoFlight_canon hs
  exact State.canon_with hu

end Sys2Proof.Machine
end

section
/-! PROOFS. What the functions of Machine/FabricOps.lean leave of the canonical form (log entry 8). -/

namespace Sys2Proof.Machine

theorem State.evalRun_canon {s : State} {p : Entry × Companion} {tick : Bool} (hs : s.Canon) : (s.evalRun p tick).Canon := by
  unfold State.evalRun
  extract_lets +onlyGivenNames old new v u
  have hu : u.Canon := State.canon_with hs
  exact canon_ite (State.canon_with hu) hu

theorem State.evalSels_canon {s : State} (hs : s.Canon) : s.evalSels.Canon := by
  unfold State.evalSels
  extract_lets +onlyGivenNames tick u
  have hu : u.Canon := State.each_canon hs (fun _ _ h => State.evalRun_canon h)
  exact State.canon_with hu

theorem State.keepEnding_canon {s : State} (hs : s.Canon) : s.keepEnding.Canon := by
  unfold State.keepEnding
  exact State.canon_with hs

theorem State.ended_canon {s : State} (hs : s.Canon) : s.ended.Canon := by
  unfold State.ended
  split
  · exact State.canon_with hs
  · exact hs

theorem State.modPair_canon {s : State} {p : Nat} {f : Pair → Pair} (hs : s.Canon) : (s.modPair p f).Canon := by
  unfold State.modPair
  exact State.canon_with hs

theorem State.runPair_canon {s : State} {p : Nat} (hs : s.Canon) : (s.runPair p).Canon := by
  unfold State.runPair
  extract_lets +onlyGivenNames x y u
  have hu : u.Canon := State.modPair_canon hs
  exact canon_ite (State.count_canon hu) hu

end Sys2Proof.Machine
end

section
/-! PROOFS. What the functions of Machine/Edits.lean leave of the canonical form (log entry 8). -/

namespace Sys2Proof.Machine

theorem State.admitTrans_canon {s : State} {t : Trans} {ops : List EditOp} (hs : s.Canon) : (s.admitTrans t ops).Canon := by
  unfold State.admitTrans
  extract_lets +onlyGivenNames acc u t1
  have hu : u.Canon := State.accept_canon hs
  refine canon_ite (State.putTrans_canon hu) ?_
  split
  · exact State.putTrans_canon hu
  · refine canon_ite (State.putTrans_canon hu) ?_
    extract_lets +onlyGivenNames old
    exact State.putTrans_canon (State.include_canon hu)

theorem State.takeHead_canon {s : State} {h : Nat} {b : Bytes} {bs : List Bytes} (hs : s.Canon) : (s.takeHead h b bs).Canon := by
  unfold State.takeHead
  extract_lets +onlyGivenNames t
  refine canon_ite (State.putTrans_canon (State.consume_canon hs)) ?_
  extract_lets +onlyGivenNames n u
  have hu : u.Canon := State.consume_canon hs
  split
  · exact State.putTrans_canon hu
  · split
    · exact State.putTrans_canon hu
    · exact State.admitTrans_canon hu

theorem takeTrans_canon {h : Nat} {s : State} (hs : s.Canon) : (takeTrans h s).Canon := by
  unfold takeTrans
  refine canon_ite ?_ hs
  extract_lets +onlyGivenNames n u
  have hu : u.Canon := canon_ite hs (State.consume_canon (State.countN_canon hs))
  split
  · exact hu
  · refine canon_ite ?_ hu
    extract_lets +onlyGivenNames u1
    have hu1 : u1.Canon := State.takeHead_canon hu
    exact State.canon_with hu1

theorem completeTrans_canon {acceptance : Nat} {s : State} (hs : s.Canon) : (completeTrans acceptance s).Canon := by
  unfold completeTrans
  extract_lets +onlyGivenNames key
  split
  · exact hs
  · extract_lets +onlyGivenNames u t u1
    have hu : u.Canon := State.journalUpTo_canon hs
    have hu1 : u1.Canon := canon_ite (State.count_canon hu) hu
    split
    · exact State.checkSealed_canon (State.transDone_canon hu1)
    · exact canon_ite (State.canon_with hu1) (State.checkSealed_canon (State.postUnit_canon (State.transDone_canon hu1)))

theorem State.revertPairs_canon {s : State} (hs : s.Canon) : s.revertPairs.Canon := by
  unfold State.revertPairs
  exact State.each_canon hs (fun _ _ h => State.setStaged_canon (State.modPair_canon h))

theorem effRevert_canon {x : Session} {vs : List Nat} {s : State} (hs : s.Canon) : (effRevert x vs s).Canon := by
  unfold effRevert
  split
  · exact .refuse
  · refine Act.canon_ite .refuse ?_
    extract_lets +onlyGivenNames u
    have hu : u.Canon := State.revertPairs_canon (State.journal_canon hs)
    exact ok_canon (State.orphanStreams_canon (State.canon_with hu))

theorem copyEnd_canon {s : State} (hs : s.Canon) : (copyEnd s).Canon := by
  unfold copyEnd
  exact State.canon_with hs

theorem effArm_canon {mode : Nat} {r : ArmRec} {s : State} (hs : s.Canon) : (effArm mode r s).Canon := by
  unfold effArm
  extract_lets +onlyGivenNames target count lead
  refine Act.canon_ite .refuse <| Act.canon_ite .refuse ?_
  split
  · exact .refuse
  · refine Act.canon_ite .refuse <| Act.canon_ite .refuse <| Act.canon_ite .refuse <| Act.canon_ite .refuse <| Act.canon_ite .refuse <|
      Act.canon_ite .refuse ?_
    extract_lets +onlyGivenNames id a v u
    have hu : u.Canon := State.canon_with hs
    exact ok_canon (canon_ite (State.sealNow_canon hu) hu)

theorem effArmWrite_canon {x : Session} {vs : List Nat} {s : State} (hs : s.Canon) : (effArmWrite x vs s).Canon := by
  unfold effArmWrite
  exact effArm_canon hs

theorem sealPoint_canon {s : State} (hs : s.Canon) : (sealPoint s).Canon := by
  unfold sealPoint
  split
  · exact canon_ite (State.sealNow_canon hs) hs
  · exact hs

theorem commitPoint_canon {s : State} (hs : s.Canon) : (commitPoint s).Canon := by
  unfold commitPoint
  split
  next a0 _ =>
    refine canon_ite ?_ hs
    extract_lets +onlyGivenNames u
    have hu : u.Canon := State.sealNow_canon hs
    split
    · exact canon_ite (State.cancelArmed_canon hu) <| canon_ite (State.cancelArmed_canon hu) <| canon_ite (State.cancelArmed_canon hu)
        (State.modArmed_canon hu)
    · exact hu
  next => exact hs

theorem activation_canon {s : State} (hs : s.Canon) : (activation s).Canon := by
  unfold activation
  extract_lets +onlyGivenNames t
  have ht : t.Canon := State.dueActivation_canon hs
  exact canon_ite (State.canon_with ht) ht

theorem effCancel_canon {x : Session} {vs : List Nat} {s : State} (hs : s.Canon) : (effCancel x vs s).Canon := by
  unfold effCancel
  split
  · exact Act.canon_ite .refuse <| Act.canon_ite .refuse (ok_canon (State.cancelArmed_canon hs))
  · exact .refuse

end Sys2Proof.Machine
end

section
/-! PROOFS. What the functions of Machine/Engines.lean leave of the canonical form (log entry 8). -/

namespace Sys2Proof.Machine

theorem State.recordFail_canon {s : State} {e : EngId} {cause : Nat} (hs : s.Canon) : (s.recordFail e cause).Canon := by
  unfold State.recordFail
  extract_lets +onlyGivenNames u
  have hu : u.Canon := State.modEngine_canon hs
  exact State.event_canon hu

theorem State.failEngine_canon {s : State} {e : EngId} {cause : Nat} (hs : s.Canon) : (s.failEngine e cause).Canon := by
  unfold State.failEngine
  exact State.modEngine_canon (State.recordFail_canon hs)

theorem State.revoke_canon {s : State} {cause : Nat} (hs : s.Canon) : (s.revoke cause).Canon := by
  unfold State.revoke
  split
  · exact hs
  · extract_lets +onlyGivenNames u rows
    have hu : u.Canon := State.failEngine_canon hs
    exact State.abandonMap_canon (State.canon_with hu)

theorem State.watchEngines_canon {s : State} (hs : s.Canon) : s.watchEngines.Canon := by
  unfold State.watchEngines
  extract_lets +onlyGivenNames up es standby u u1 u2 u3
  have hu : u.Canon := State.noteCond_canon hs
  have hu1 : u1.Canon := State.noteCond_canon hu
  have hu2 : u2.Canon := State.noteCond_canon hu1
  have hu3 : u3.Canon := State.noteCond_canon hu2
  exact State.noteCond_canon (State.noteCond_canon hu3)

theorem State.tell_canon {s : State} {e : EngId} {granted : Bool} (hs : s.Canon) : (s.tell e granted).Canon := by
  unfold State.tell
  exact State.emit_canon hs

theorem State.freshSelectors_canon {s : State} (hs : s.Canon) : s.freshSelectors.Canon := by
  unfold State.freshSelectors
  extract_lets +onlyGivenNames u
  have hu : u.Canon := State.keepEnding_canon hs
  exact State.canon_with hu

theorem State.pruneJournal_canon {s : State} (hs : s.Canon) : s.pruneJournal.Canon := by
  unfold State.pruneJournal
  extract_lets +onlyGivenNames f
  exact State.canon_with hs

theorem leaseState_canon {e : EngId} {s : State} (hs : s.Canon) : (leaseState e s).Canon := by
  unfold leaseState
  extract_lets +onlyGivenNames x next
  exact State.watchEngines_canon (State.modEngine_canon hs)

theorem State.loadPages_canon {s : State} {i : Image} (hs : s.Canon) : (s.loadPages i).Canon := by
  unfold State.loadPages
  extract_lets +onlyGivenNames r
  exact State.canon_with hs

theorem State.newerBad_canon {s : State} {e : EngId} (hs : s.Canon) : (s.newerBad e).Canon := by
  unfold State.newerBad
  exact State.recordFail_canon (State.modEngine_canon hs)

theorem wakeEnd_canon {e : EngId} {r : WakeResult} {s : State} (hs : s.Canon) : (wakeEnd e r s).Canon := by
  unfold wakeEnd
  refine canon_ite ?_ hs
  extract_lets +onlyGivenNames u
  have hu : u.Canon := canon_ite (State.newerBad_canon hs) hs
  split
  · extract_lets +onlyGivenNames u1
    have hu1 : u1.Canon := State.modEngine_canon hu
    exact State.watchEngines_canon (canon_ite (State.loadPages_canon hu1) hu1)
  · exact State.watchEngines_canon (State.failEngine_canon hu)

theorem coreRail_canon {e : EngId} {s : State} (hs : s.Canon) : (coreRail e s).Canon := by
  unfold coreRail
  extract_lets +onlyGivenNames x
  exact canon_ite hs <| canon_ite (State.watchEngines_canon (State.revoke_canon hs)) (State.watchEngines_canon (State.failEngine_canon hs))

theorem State.engineDown_canon {s : State} {e : EngId} {cause : Nat} (hs : s.Canon) : (s.engineDown e cause).Canon := by
  unfold State.engineDown
  extract_lets +onlyGivenNames u h
  have hu : u.Canon := canon_ite (State.revoke_canon hs) hs
  exact State.modEngine_canon hu

theorem islandLost_canon {e : EngId} {s : State} (hs : s.Canon) : (islandLost e s).Canon := by
  unfold islandLost
  exact State.watchEngines_canon (State.engineDown_canon hs)

theorem linkFlit_canon {e : EngId} {c : FlitCheck} {s : State} (hs : s.Canon) : (linkFlit e c s).Canon := by
  unfold linkFlit
  refine canon_ite ?_ hs
  split
  · exact hs
  · exact State.count_canon hs
  · exact State.count_canon hs

theorem State.engineFault_canon {s : State} {e : EngId} {cause : Nat} (hs : s.Canon) : (s.engineFault e cause).Canon := by
  unfold State.engineFault
  refine canon_ite (State.revoke_canon hs) ?_
  split
  · exact State.failEngine_canon hs
  · exact State.failEngine_canon hs
  · exact hs

theorem linkLoss_canon {e : EngId} {xy : LinkFault} {s : State} (hs : s.Canon) : (linkLoss e xy s).Canon := by
  unfold linkLoss
  exact canon_ite (State.watchEngines_canon (State.engineFault_canon hs)) hs

theorem State.unusableEngine_canon {s : State} {e : EngId} (hs : s.Canon) : (s.unusableEngine e).Canon := by
  unfold State.unusableEngine
  exact State.modEngine_canon (State.recordFail_canon hs)

theorem State.startRefresh_canon {s : State} (hs : s.Canon) : s.startRefresh.Canon := by
  unfold State.startRefresh
  split
  · exact State.modEngine_canon hs
  · exact hs

theorem refreshDue_canon {s : State} (hs : s.Canon) : (refreshDue s).Canon := by
  unfold refreshDue
  split
  · extract_lets +onlyGivenNames x
    exact canon_ite (State.startRefresh_canon hs) hs
  · exact hs

theorem effRefresh_canon {x : Session} {vs : List Nat} {s : State} (hs : s.Canon) : (effRefresh x vs s).Canon := by
  unfold effRefresh
  exact ok_canon (State.startRefresh_canon hs)

theorem State.endRefresh_canon {s : State} {e : EngId} {imageOk keptOk : Bool} (hs : s.Canon) : (s.endRefresh e imageOk keptOk).Canon := by
  unfold State.endRefresh
  extract_lets +onlyGivenNames i u u1
  have hu : u.Canon := canon_ite hs (State.recordFail_canon (State.modEngine_canon hs))
  have hu1 : u1.Canon := State.modEngine_canon hu
  refine canon_ite ?_ (State.recordFail_canon hu1)
  extract_lets +onlyGivenNames u2
  have hu2 : u2.Canon := State.pruneJournal_canon (State.modEngine_canon hu1)
  exact State.event_canon hu2

theorem refreshEnd_canon {e : EngId} {o : RefreshObs} {s : State} (hs : s.Canon) : (refreshEnd e o s).Canon := by
  unfold refreshEnd
  extract_lets +onlyGivenNames x
  refine canon_ite ?_ hs
  extract_lets +onlyGivenNames r u
  have hu : u.Canon := State.modEngine_canon hs
  exact State.watchEngines_canon (canon_ite (State.endRefresh_canon hu) (State.unusableEngine_canon hu))

theorem heartbeat_canon {sender : EngId} {s : State} (hs : s.Canon) : (heartbeat sender s).Canon := by
  unfold heartbeat
  exact State.modEngine_canon hs

theorem State.missBeat_canon {s : State} {e : EngId} (hs : s.Canon) : (s.missBeat e).Canon := by
  unfold State.missBeat
  extract_lets +onlyGivenNames x t
  exact canon_ite (State.count_canon hs) hs

theorem heartLost_canon {e : EngId} {s : State} (hs : s.Canon) : (heartLost e s).Canon := by
  unfold heartLost
  extract_lets +onlyGivenNames x
  refine canon_ite ?_ hs
  extract_lets +onlyGivenNames u
  have hu : u.Canon := State.modEngine_canon hs
  exact State.event_canon hu

theorem effManualSwitch_canon {x : Session} {vs : List Nat} {s : State} (hs : s.Canon) : (effManualSwitch x vs s).Canon := by
  unfold effManualSwitch
  split
  · exact .refuse
  · extract_lets +onlyGivenNames e
    exact Act.canon_ite (ok_canon (State.modEngine_canon hs)) .refuse

theorem handOver_canon {s : State} (hs : s.Canon) : (handOver s).Canon := by
  unfold handOver
  split
  · exact hs
  · extract_lets +onlyGivenNames e x
    refine canon_ite ?_ hs
    extract_lets +onlyGivenNames u u1 u2 v u3
    have hu : u.Canon := State.recordFail_canon hs
    have hu1 : u1.Canon := State.modEngine_canon hu
    have hu2 : u2.Canon := State.modEngine_canon hu1
    have hu3 : u3.Canon := State.freshSelectors_canon (State.canon_with hu2)
    exact State.watchEngines_canon (State.tell_canon (State.count_canon hu3))

theorem State.startRestart_canon {s : State} {e : EngId} (hs : s.Canon) : (s.startRestart e).Canon := by
  unfold State.startRestart
  exact State.modEngine_canon hs

theorem autoRestart_canon {e : EngId} {s : State} (hs : s.Canon) : (autoRestart e s).Canon := by
  unfold autoRestart
  extract_lets +onlyGivenNames x recent
  exact canon_ite (State.watchEngines_canon (State.modEngine_canon (State.startRestart_canon hs))) hs

theorem effRestartEngine_canon {x : Session} {vs : List Nat} {s : State} (hs : s.Canon) : (effRestartEngine x vs s).Canon := by
  unfold effRestartEngine
  extract_lets +onlyGivenNames e
  exact Act.canon_ite (ok_canon (State.watchEngines_canon (State.startRestart_canon hs))) .refuse

theorem marchEnd_canon {e : EngId} {bad : List (Fin 640)} {s : State} (hs : s.Canon) : (marchEnd e bad s).Canon := by
  unfold marchEnd
  extract_lets +onlyGivenNames x
  refine canon_ite ?_ hs
  extract_lets +onlyGivenNames r u
  have hu : u.Canon := State.modEngine_canon hs
  dsimp only
  exact State.watchEngines_canon (canon_ite (State.unusableEngine_canon hu) (by split <;> exact State.modEngine_canon hu))

theorem effTallyRevocation_canon {x : Session} {vs : List Nat} {s : State} (hs : s.Canon) : (effTallyRevocation x vs s).Canon := by
  unfold effTallyRevocation
  extract_lets +onlyGivenNames u
  have hu : u.Canon := State.setVal_canon hs
  exact Act.canon_ite (ok_canon (State.watchEngines_canon (State.canon_with hu))) (ok_canon hu)

end Sys2Proof.Machine
end

section
/-! PROOFS. What the functions of Machine/Tally.lean leave of the canonical form (log entry 8). -/

namespace Sys2Proof.Machine

theorem State.alterWord_canon {s : State} {ring : Bool} {w : Nat} {f : Nat → Byte → Byte} (hs : s.Canon) :
    (s.alterWord ring w f).Canon := by
  unfold State.alterWord
  extract_lets +onlyGivenNames alter
  exact canon_ite (State.canon_with hs) <| canon_ite (State.canon_with hs) (State.canon_with hs)

theorem State.flipWord_canon {s : State} {ring : Bool} {w : Nat} {flips : BitVec 80} (hs : s.Canon) : (s.flipWord ring w flips).Canon := by
  unfold State.flipWord
  exact canon_ite hs (State.alterWord_canon hs)

theorem State.strayWord_canon {s o : State} {ring : Bool} {w q v : Nat} (hs : s.Canon) : (s.strayWord o ring w q v).Canon := by
  unfold State.strayWord
  extract_lets +onlyGivenNames d
  exact State.alterWord_canon hs

theorem State.foldl_canon {α : Type} {f : State → α → State} {l : List α} {s : State} (hs : s.Canon) (hf : ∀ t a, t.Canon → (f t a).Canon) :
    (l.foldl f s).Canon := by
  induction l generalizing s with
  | nil => exact hs
  | cons a l ih => exact ih (hf s a hs)

theorem State.readState_canon {s : State} {us : List Upset} (hs : s.Canon) : (s.readState us).Canon := by
  have he : s.ended.Canon := State.ended_canon hs
  refine State.foldl_canon he fun t u ht => ?_
  split
  · exact canon_ite (State.flipWord_canon ht) ht
  · exact canon_ite (State.strayWord_canon ht) ht
  · exact ht

end Sys2Proof.Machine
end

section
/-! PROOFS. What the functions of Machine/Sluice.lean leave of the canonical form (log entry 8). -/

namespace Sys2Proof.Machine

theorem State.declareTally_canon {s : State} (hs : s.Canon) : s.declareTally.Canon := by
  unfold State.declareTally
  refine canon_ite hs ?_
  split
  · exact canon_ite (State.revoke_canon hs) (State.setVal_canon (State.canon_with hs))
  · exact State.revoke_canon hs

theorem compareTally_canon {checkFault : Option (BitVec 32)} {portFault : BitVec 32} {loop : Bool} {s : State} (hs : s.Canon) :
    (compareTally checkFault portFault loop s).Canon := by
  unfold compareTally
  extract_lets +onlyGivenNames arrived sum measured bad shown p u le v w
  have hu : u.Canon := canon_ite hs (State.free_canon hs)
  have hv : v.Canon := State.canon_with hu
  have hw : w.Canon := canon_ite (State.count_canon hv) hv
  exact canon_ite (State.watchEngines_canon (canon_ite (State.declareTally_canon hw) hw)) (State.count_canon hs)

theorem State.depose_canon {s : State} {e : EngId} {late : Bool} (hs : s.Canon) : (s.depose e late).Canon := by
  unfold State.depose
  extract_lets +onlyGivenNames x
  exact canon_ite (canon_ite hs (State.revoke_canon hs)) <| canon_ite (State.failEngine_canon hs) <| canon_ite (State.recordFail_canon hs)
    hs

theorem renew_canon {e : EngId} {epoch : Nat} {s : State} (hs : s.Canon) : (renew e epoch s).Canon := by
  unfold renew
  refine canon_ite (State.tell_canon (State.canon_with hs)) ?_
  extract_lets +onlyGivenNames late u u1 u2
  have hu : u.Canon := canon_ite (State.revoke_canon hs) hs
  have hu1 : u1.Canon := State.count_canon hu
  have hu2 : u2.Canon := State.event_canon hu1
  exact State.watchEngines_canon (State.tell_canon (State.depose_canon hu2))

theorem leaseLapse_canon {s : State} (hs : s.Canon) : (leaseLapse s).Canon := by
  unfold leaseLapse
  exact canon_ite (State.watchEngines_canon (State.revoke_canon hs)) hs

theorem State.grant_canon {s : State} {e : EngId} (hs : s.Canon) : (s.grant e).Canon := by
  unfold State.grant
  extract_lets +onlyGivenNames v u u1 u2
  have hu : u.Canon := State.canon_with hs
  have hu1 : u1.Canon := State.modEngine_canon hu
  have hu2 : u2.Canon := State.modEngine_canon hu1
  exact State.watchEngines_canon (State.tell_canon (State.count_canon hu2))

theorem claimLease_canon {e : EngId} {epoch : Nat} {s : State} (hs : s.Canon) : (claimLease e epoch s).Canon := by
  unfold claimLease
  extract_lets +onlyGivenNames u
  have hu : u.Canon := leaseLapse_canon hs
  exact canon_ite (State.grant_canon hu) (State.tell_canon (State.count_canon hu))

theorem admitHolder_canon {s : State} (hs : s.Canon) : (admitHolder s).Canon := by
  unfold admitHolder
  refine canon_ite ?_ hs
  extract_lets +onlyGivenNames took v u v1 u1 u2
  have hu : u.Canon := State.freshSelectors_canon (State.canon_with hs)
  have hu1 : u1.Canon := by
    unfold u1
    clear_value took
    split
    · extract_lets +onlyGivenNames u2
      have hu2 : u2.Canon := State.count_canon (State.canon_with hu)
      exact State.auditObj_canon (State.event_canon hu2)
    · exact hu
  have hu2 : u2.Canon := by
    unfold u2
    split
    · exact canon_ite (State.setTarget_canon hu1) hu1
    · exact hu1
  exact State.watchEngines_canon hu2

end Sys2Proof.Machine
end

section
/-! PROOFS. What the functions of Machine/Timing.lean leave of the canonical form (log entry 8). -/

namespace Sys2Proof.Machine

theorem State.modGov_canon {s : State} {g : GovId} {f : Gov → Gov} (hs : s.Canon) : (s.modGov g f).Canon := by
  unfold State.modGov
  exact canon_ite (State.canon_with hs) (State.canon_with hs)

theorem State.loseGov_canon {s : State} {g : GovId} (hs : s.Canon) : (s.loseGov g).Canon := by
  unfold State.loseGov
  extract_lets +onlyGivenNames l
  exact State.modGov_canon hs

theorem State.correctRate_canon {s : State} {x : Int} (hs : s.Canon) : (s.correctRate x).Canon := by
  unfold State.correctRate
  exact State.canon_with (State.free_canon hs)

theorem State.watchTiming_canon {s : State} (hs : s.Canon) : s.watchTiming.Canon := by
  unfold State.watchTiming
  extract_lets +onlyGivenNames st u u1 u2 u3 set u4 u5
  have hu : u.Canon := State.noteCond_canon hs
  have hu1 : u1.Canon := State.noteCond_canon hu
  have hu2 : u2.Canon := State.noteCond_canon hu1
  have hu3 : u3.Canon := State.noteCond_canon hu2
  have hu4 : u4.Canon := State.noteCond_canon hu3
  have hu5 : u5.Canon := State.noteCond_canon hu4
  exact State.noteCond_canon hu5

theorem State.watchRank_canon {s : State} (hs : s.Canon) : s.watchRank.Canon := by
  unfold State.watchRank
  extract_lets +onlyGivenNames one
  exact State.canon_with hs

theorem State.selectRef_canon {s : State} (hs : s.Canon) : s.selectRef.Canon := by
  unfold State.selectRef
  refine canon_ite hs ?_
  extract_lets +onlyGivenNames u tm v want old tm1 w fr x y
  have hu : u.Canon := State.evalRefs_canon hs
  have hv : v.Canon := canon_ite (State.canon_with hu) hu
  have hw : w.Canon := State.canon_with hv
  have hx : x.Canon := by
    unfold x
    clear_value want
    split
    · exact canon_ite hw (State.modGov_canon (State.free_canon hw))
    · exact canon_ite (canon_ite hw (State.modGov_canon hw)) <| canon_ite hw <| canon_ite hw <| canon_ite hw (State.loseGov_canon hw)
  have hy : y.Canon := canon_ite hx (State.event_canon (State.count_canon hx))
  exact State.watchTiming_canon (State.watchRank_canon hy)

theorem edgeMissing_canon {r : RefId} {s : State} (hs : s.Canon) : (edgeMissing r s).Canon := by
  unfold edgeMissing
  exact canon_ite (State.evalRef_canon (State.modRef_canon hs)) hs

theorem activityBack_canon {r : RefId} {s : State} (hs : s.Canon) : (activityBack r s).Canon := by
  unfold activityBack
  exact canon_ite (State.evalRef_canon (State.modRef_canon hs)) hs

theorem State.comparePair_canon {s : State} {ay b : RefId} (hs : s.Canon) : (s.comparePair ay b).Canon := by
  unfold State.comparePair
  extract_lets +onlyGivenNames limit far k on since
  exact State.canon_with hs

theorem freqResult_canon {r : RefId} {offset : Int} {s : State} (hs : s.Canon) : (freqResult r offset s).Canon := by
  unfold freqResult
  refine canon_ite hs ?_
  extract_lets +onlyGivenNames u u1
  have hu : u.Canon := State.modRef_canon hs
  have hu1 : u1.Canon := State.each_canon hu (fun _ _ h => State.comparePair_canon h)
  exact State.evalRef_canon hu1

theorem State.cutHistory_canon {s : State} (hs : s.Canon) : s.cutHistory.Canon := by
  unfold State.cutHistory
  exact State.modGov_canon hs

theorem State.softStops_canon {s : State} (hs : s.Canon) : s.softStops.Canon := by
  unfold State.softStops
  split
  · exact canon_ite (State.cutHistory_canon hs) hs
  · exact hs

theorem hardLimit_canon {r : RefId} {s : State} (hs : s.Canon) : (hardLimit r s).Canon := by
  unfold hardLimit
  refine canon_ite ?_ hs
  extract_lets +onlyGivenNames u
  have hu : u.Canon := canon_ite (State.cutHistory_canon hs) hs
  exact State.evalRef_canon (State.modRef_canon hu)

theorem softLimit_canon {r : RefId} {s : State} (hs : s.Canon) : (softLimit r s).Canon := by
  unfold softLimit
  refine canon_ite ?_ hs
  extract_lets +onlyGivenNames stops u u1
  have hu : u.Canon := canon_ite (State.cutHistory_canon hs) hs
  have hu1 : u1.Canon := State.evalRef_canon (State.modRef_canon hu)
  exact State.event_canon hu1

theorem refWtrEnd_canon {r : RefId} {s : State} (hs : s.Canon) : (refWtrEnd r s).Canon := by
  unfold refWtrEnd
  split
  · refine canon_ite ?_ hs
    extract_lets +onlyGivenNames u u1
    have hu : u.Canon := State.modRef_canon hs
    have hu1 : u1.Canon := canon_ite (State.modRef_canon hu) hu
    exact State.evalRef_canon hu1
  · exact hs

theorem disagreeSet_canon {ay b : RefId} {s : State} (hs : s.Canon) : (disagreeSet ay b s).Canon := by
  unfold disagreeSet
  extract_lets +onlyGivenNames t
  exact canon_ite (State.watchTiming_canon (State.canon_with hs)) hs

theorem disagreeClear_canon {ay b : RefId} {s : State} (hs : s.Canon) : (disagreeClear ay b s).Canon := by
  unfold disagreeClear
  extract_lets +onlyGivenNames t
  exact canon_ite (State.watchTiming_canon (State.canon_with hs)) hs

theorem effSelect_canon {x : Session} {vs : List Nat} {s : State} (hs : s.Canon) : (effSelect x vs s).Canon := by
  unfold effSelect
  extract_lets +onlyGivenNames c r v keep
  have hkeep : keep.Canon := State.canon_with hs
  exact Act.canon_ite .refuse <| Act.canon_ite .refuse <| Act.canon_ite .refuse (ok_canon (State.selectRef_canon hkeep))

theorem govLocked_canon {g : GovId} {s : State} (hs : s.Canon) : (govLocked g s).Canon := by
  unfold govLocked
  extract_lets +onlyGivenNames x
  exact canon_ite (State.watchTiming_canon (State.watchRank_canon (State.modGov_canon hs))) hs

theorem noLock_canon {s : State} (hs : s.Canon) : (noLock s).Canon := by
  unfold noLock
  split
  · refine canon_ite ?_ hs
    extract_lets +onlyGivenNames u
    have hu : u.Canon := State.evalRef_canon (State.modRef_canon hs)
    exact State.selectRef_canon (State.modRef_canon hu)
  · exact hs

theorem historyMinute_canon {g : GovId} {mean : Int} {s : State} (hs : s.Canon) : (historyMinute g mean s).Canon := by
  unfold historyMinute
  extract_lets +onlyGivenNames x start
  exact canon_ite (State.modGov_canon hs) hs

theorem calibrate_canon {mean : Int} {s : State} (hs : s.Canon) : (calibrate mean s).Canon := by
  unfold calibrate
  extract_lets +onlyGivenNames u
  have hu : u.Canon := State.watchRank_canon hs
  split
  · exact canon_ite (State.canon_with hu) hu
  · exact hu

theorem ocxoWarm_canon {s : State} (hs : s.Canon) : (ocxoWarm s).Canon := by
  unfold ocxoWarm
  split
  · refine canon_ite ?_ hs
    extract_lets +onlyGivenNames v u
    have hu : u.Canon := State.evalRefs_canon (State.softStops_canon (State.canon_with hs))
    exact State.watchTiming_canon (State.event_canon hu)
  · exact hs

theorem State.toDefault_canon {s : State} {index sub el : Nat} (hs : s.Canon) : (s.toDefault index sub el).Canon := by
  unfold State.toDefault
  exact State.setStaged_canon hs

theorem effSsmOption_canon {x : Session} {vs : List Nat} {s : State} (hs : s.Canon) : (effSsmOption x vs s).Canon := by
  unfold effSsmOption
  extract_lets +onlyGivenNames u u1
  have hu : u.Canon := State.toDefault_canon (State.setStaged_canon hs)
  have hu1 : u1.Canon := State.each_canon hu (fun _ _ h => State.toDefault_canon h)
  exact ok_canon (State.evalRefs_canon (State.each_canon hu1 (fun _ _ h => State.toDefault_canon h)))

theorem effRealign_canon {x : Session} {vs : List Nat} {s : State} (hs : s.Canon) : (effRealign x vs s).Canon := by
  unfold effRealign
  refine Act.canon_ite .refuse <| Act.canon_ite .refuse ?_
  extract_lets +onlyGivenNames t u
  have hu : u.Canon := by
    unfold u
    split
    · exact canon_ite (State.cancelArmed_canon hs) hs
    · exact hs
  exact ok_canon (State.canon_with hu)

theorem State.setAligned_canon {s : State} {b : Bool} (hs : s.Canon) : (s.setAligned b).Canon := by
  unfold State.setAligned
  exact canon_ite hs (State.event_canon (State.canon_with hs))

theorem State.cancelPending_canon {s : State} (hs : s.Canon) : s.cancelPending.Canon := by
  unfold State.cancelPending
  extract_lets +onlyGivenNames slots
  refine canon_ite hs ?_
  extract_lets +onlyGivenNames v u
  have hu : u.Canon := State.canon_with hs
  exact State.event_canon hu

theorem alignmentLost_canon {s : State} (hs : s.Canon) : (alignmentLost s).Canon := by
  unfold alignmentLost
  refine canon_ite ?_ hs
  dsimp only
  exact State.cancelPending_canon (State.canon_with (State.setAligned_canon hs))

end Sys2Proof.Machine
end

section
/-! PROOFS. What the functions of Machine/Time.lean leave of the canonical form (log entry 8). -/

namespace Sys2Proof.Machine

theorem State.modTrig_canon {s : State} {t : Nat} {f : Trig → Trig} (hs : s.Canon) : (s.modTrig t f).Canon := by
  unfold State.modTrig
  exact State.canon_with hs

theorem State.trigEvent_canon {s : State} {t : Nat} (hs : s.Canon) : (s.trigEvent t).Canon := by
  unfold State.trigEvent
  exact State.event_canon hs

theorem fireTrigger_canon {t : TrigId} {s : State} (hs : s.Canon) : (fireTrigger t s).Canon := by
  unfold fireTrigger
  extract_lets +onlyGivenNames x
  refine canon_ite ?_ hs
  extract_lets +onlyGivenNames u u1 u2
  have hu : u.Canon := State.emit_canon (State.count_canon hs)
  have hu1 : u1.Canon := State.modTrig_canon hu
  have hu2 : u2.Canon := canon_ite (State.trigEvent_canon hu1) hu1
  refine canon_ite (State.modTrig_canon hu2) ?_
  extract_lets +onlyGivenNames next n u3
  have hu3 : u3.Canon := State.modTrig_canon hu2
  exact State.each_canon hu3 (fun _ _ h => State.trigEvent_canon (State.count_canon h))

theorem pulseEnd_canon {t : TrigId} {s : State} (hs : s.Canon) : (pulseEnd t s).Canon := by
  unfold pulseEnd
  extract_lets +onlyGivenNames x
  exact canon_ite (State.emit_canon (State.modTrig_canon hs)) hs

theorem effArmTrigger_canon {t : Nat} {x : Session} {vs : List Nat} {s : State} (hs : s.Canon) : (effArmTrigger t x vs s).Canon := by
  unfold effArmTrigger
  extract_lets +onlyGivenNames mode target period lead
  exact Act.canon_ite .refuse <| Act.canon_ite .refuse (ok_canon (State.modTrig_canon hs))

theorem effDisarm_canon {t : Nat} {x : Session} {vs : List Nat} {s : State} (hs : s.Canon) : (effDisarm t x vs s).Canon := by
  unfold effDisarm
  exact ok_canon (State.modTrig_canon hs)

theorem State.moveTime_canon {s : State} {d : Int} (hs : s.Canon) : (s.moveTime d).Canon := by
  unfold State.moveTime
  extract_lets +onlyGivenNames mv
  exact State.canon_with hs

theorem State.stepTime_canon {s : State} {d : Int} {kind : Nat} (hs : s.Canon) : (s.stepTime d kind).Canon := by
  unfold State.stepTime
  extract_lets +onlyGivenNames old armed u v u1 u2 u3
  have hu : u.Canon := State.markBins_canon (State.moveTime_canon hs)
  have hu1 : u1.Canon := State.canon_with hu
  have hu2 : u2.Canon := State.count_canon hu1
  have hu3 : u3.Canon := State.auditObj_canon (State.event_canon hu2)
  exact canon_ite (State.each_canon hu3 (fun _ _ h => State.trigEvent_canon (State.modTrig_canon h))) (State.each_canon hu3 (fun _ _ h =>
    State.modTrig_canon h))

theorem State.timeAcquire_canon {s : State} (hs : s.Canon) : s.timeAcquire.Canon := by
  unfold State.timeAcquire
  exact State.watchTiming_canon (State.modGov_canon (State.canon_with hs))

theorem State.timeHold_canon {s : State} (hs : s.Canon) : s.timeHold.Canon := by
  unfold State.timeHold
  exact State.watchTiming_canon (State.loseGov_canon (State.canon_with hs))

theorem State.raiseTjr_canon {s : State} (hs : s.Canon) : s.raiseTjr.Canon := by
  unfold State.raiseTjr
  extract_lets +onlyGivenNames v u v1 u1
  have hu : u.Canon := State.canon_with hs
  have hu1 : u1.Canon := canon_ite (State.watchTiming_canon (State.canon_with hu)) (State.timeHold_canon hu)
  split
  · exact canon_ite (State.cancelArmed_canon hu1) hu1
  · exact hu1

theorem State.applyPermit_canon {s : State} {m : Int} (hs : s.Canon) : (s.applyPermit m).Canon := by
  unfold State.applyPermit
  extract_lets +onlyGivenNames kind u
  have hu : u.Canon := State.timeAcquire_canon hs
  exact canon_ite (State.stepTime_canon hu) (State.canon_with hu)

theorem State.sampleRunning_canon {s : State} {x : Int} {outlier : Bool} (hs : s.Canon) : (s.sampleRunning x outlier).Canon := by
  unfold State.sampleRunning
  refine canon_ite (State.canon_with hs) ?_
  split
  · extract_lets +onlyGivenNames u v u1
    have hu : u.Canon := State.count_canon hs
    have hu1 : u1.Canon := State.canon_with hu
    exact canon_ite (State.raiseTjr_canon hu1) hu1
  · extract_lets +onlyGivenNames w v u
    have hu : u.Canon := State.correctRate_canon (State.canon_with hs)
    exact canon_ite (State.watchTiming_canon (State.modGov_canon (State.canon_with hu))) hu

theorem State.sampleHold_canon {s : State} {x : Int} {outlier newly : Bool} {m : Int} {limit : Nat} (hs : s.Canon) :
    (s.sampleHold x outlier newly m limit).Canon := by
  unfold State.sampleHold
  refine canon_ite ?_ (canon_ite (canon_ite (State.correctRate_canon (State.timeAcquire_canon hs)) (State.raiseTjr_canon hs)) hs)
  extract_lets +onlyGivenNames ps v u
  have hu : u.Canon := State.canon_with hs
  exact canon_ite (State.applyPermit_canon hu) <| canon_ite (State.timeAcquire_canon hu) hu

theorem State.takeSample_canon {s : State} {x : Int} (hs : s.Canon) : (s.takeSample x).Canon := by
  unfold State.takeSample
  extract_lets +onlyGivenNames limit outlier u v u1 newly m v1 u2
  have hu : u.Canon := State.count_canon hs
  have hu1 : u1.Canon := State.canon_with hu
  have hu2 : u2.Canon := State.canon_with hu1
  split
  · exact canon_ite (State.stepTime_canon (State.timeAcquire_canon hu2)) hu2
  · exact State.sampleHold_canon hu2
  · exact State.sampleRunning_canon hu2

theorem State.breakRun_canon {s : State} (hs : s.Canon) : s.breakRun.Canon := by
  unfold State.breakRun
  exact State.canon_with hs

theorem State.loseSource_canon {s : State} (hs : s.Canon) : s.loseSource.Canon := by
  unfold State.loseSource
  extract_lets +onlyGivenNames st u v u1
  have hu : u.Canon := State.breakRun_canon hs
  have hu1 : u1.Canon := State.canon_with hu
  exact canon_ite (State.timeHold_canon hu1) hu1

theorem sourceLost_canon {s : State} (hs : s.Canon) : (sourceLost s).Canon := by
  unfold sourceLost
  refine canon_ite ?_ hs
  extract_lets +onlyGivenNames gone u
  have hu : u.Canon := State.loseSource_canon hs
  exact canon_ite (State.canon_with hu) hu

theorem effPermit_canon {x : Session} {vs : List Nat} {s : State} (hs : s.Canon) : (effPermit x vs s).Canon := by
  unfold effPermit
  extract_lets +onlyGivenNames v
  exact Act.canon_ite .refuse (ok_canon (State.canon_with hs))

theorem slewEnd_canon {s : State} (hs : s.Canon) : (slewEnd s).Canon := by
  unfold slewEnd
  exact canon_ite (State.canon_with hs) hs

theorem effTimeSource_canon {x : Session} {vs : List Nat} {s : State} (hs : s.Canon) : (effTimeSource x vs s).Canon := by
  unfold effTimeSource
  extract_lets +onlyGivenNames old u
  have hu : u.Canon := State.setStaged_canon hs
  dsimp only
  exact ok_canon (canon_ite hu (State.watchTiming_canon (State.canon_with (State.loseSource_canon hu))))

theorem effPtpLane_canon {x : Session} {vs : List Nat} {s : State} (hs : s.Canon) : (effPtpLane x vs s).Canon := by
  unfold effPtpLane
  extract_lets +onlyGivenNames old u
  have hu : u.Canon := State.setStaged_canon hs
  dsimp only
  exact ok_canon (canon_ite hu (State.watchTiming_canon (State.canon_with (canon_ite (State.loseSource_canon hu) hu))))

theorem ppsEdge_canon {s : State} (hs : s.Canon) : (ppsEdge s).Canon := by
  unfold ppsEdge
  refine canon_ite hs <| canon_ite (State.count_canon hs) ?_
  extract_lets +onlyGivenNames comp broken onTime v u
  have hu : u.Canon := State.canon_with hs
  refine canon_ite ?_ hu
  extract_lets +onlyGivenNames u1
  have hu1 : u1.Canon := State.breakRun_canon hu
  exact State.canon_with hu1

theorem todIn_canon {m : Bytes} {s : State} (hs : s.Canon) : (todIn m s).Canon := by
  unfold todIn
  split
  · refine canon_ite ?_ hs
    extract_lets +onlyGivenNames follows u x
    have hu : u.Canon := canon_ite hs (State.breakRun_canon hs)
    exact State.takeSample_canon (State.canon_with hu)
  · exact hs

theorem todSend_canon {s : State} (hs : s.Canon) : (todSend s).Canon := by
  unfold todSend
  exact canon_ite (State.emit_canon (State.canon_with hs)) hs

theorem State.ptpAnnounce_canon {s : State} {m : Bytes} (hs : s.Canon) : (s.ptpAnnounce m).Canon := by
  unfold State.ptpAnnounce
  extract_lets +onlyGivenNames id
  refine canon_ite hs ?_
  extract_lets +onlyGivenNames old f v u
  have hu : u.Canon := State.canon_with hs
  split
  · extract_lets +onlyGivenNames u1 v1 u2
    have hu1 : u1.Canon := State.breakRun_canon hu
    have hu2 : u2.Canon := canon_ite hu (State.canon_with hu1)
    exact State.canon_with hu2
  · exact hu

theorem State.ptpSample_canon {s : State} (hs : s.Canon) : s.ptpSample.Canon := by
  unfold State.ptpSample
  exact canon_ite (State.breakRun_canon hs) <| canon_ite (State.count_canon (State.canon_with hs)) (State.takeSample_canon hs)

theorem State.ptpSync_canon {s : State} {m : Bytes} {ingress : Int} (hs : s.Canon) : (s.ptpSync m ingress).Canon := by
  unfold State.ptpSync
  extract_lets +onlyGivenNames v u v1 u1
  have hu : u.Canon := canon_ite (State.canon_with hs) hs
  have hu1 : u1.Canon := State.canon_with hu
  exact canon_ite (State.canon_with hu1) (State.ptpSample_canon (State.canon_with hu1))

theorem State.ptpFollowUp_canon {s : State} {m : Bytes} (hs : s.Canon) : (s.ptpFollowUp m).Canon := by
  unfold State.ptpFollowUp
  exact canon_ite (State.ptpSample_canon (State.canon_with hs)) hs

theorem State.ptpDelayResp_canon {s : State} {m : Bytes} (hs : s.Canon) : (s.ptpDelayResp m).Canon := by
  unfold State.ptpDelayResp
  split
  · refine canon_ite ?_ hs
    extract_lets +onlyGivenNames v u d path
    have hu : u.Canon := State.canon_with hs
    exact State.canon_with hu
  · exact hs

theorem State.ptpReceive_canon {s : State} {l : Nat} {m : Bytes} {ingress : Int} (hs : s.Canon) : (s.ptpReceive l m ingress).Canon := by
  unfold State.ptpReceive
  refine canon_ite hs ?_
  extract_lets +onlyGivenNames fromMaster
  split
  · exact State.ptpAnnounce_canon hs
  · exact canon_ite (State.ptpSync_canon hs) hs
  · exact canon_ite (State.ptpFollowUp_canon hs) hs
  · exact canon_ite (State.ptpDelayResp_canon hs) hs
  · exact hs

theorem State.queueTime_canon {s : State} {l : Nat} {p : TxPkt} (hs : s.Canon) : (s.queueTime l p).Canon := by
  unfold State.queueTime
  extract_lets +onlyGivenNames x
  exact canon_ite (State.modLane_canon hs) (State.count_canon hs)

theorem delayInterval_canon {s : State} (hs : s.Canon) : (delayInterval s).Canon := by
  unfold delayInterval
  split
  · refine canon_ite ?_ hs
    extract_lets +onlyGivenNames n m
    exact State.queueTime_canon (State.canon_with hs)
  · exact hs

theorem State.ptpPacket_canon {s : State} {l : LaneId} {data : Bytes} {ingress : Int} (hs : s.Canon) :
    (s.ptpPacket l data ingress).Canon := by
  unfold State.ptpPacket
  extract_lets +onlyGivenNames m ty
  refine canon_ite (State.count_canon hs) ?_
  extract_lets +onlyGivenNames mine u
  have hu : u.Canon := State.ptpReceive_canon hs
  refine canon_ite hu ?_
  extract_lets +onlyGivenNames timed outs
  dsimp only
  exact State.each_canon hu (fun _ _ h => canon_ite (State.queueTime_canon h) (canon_ite (State.count_canon (State.count_canon
    (State.queueTime_canon h))) (State.count_canon (State.queueTime_canon h))))

end Sys2Proof.Machine
end

section
/-! PROOFS. What the functions of Machine/Boundary.lean leave of the canonical form (log entry 8). -/

namespace Sys2Proof.Machine

theorem State.txEnd_canon {s o : State} {fill : List (Nat × Nat)} {rows : Nat} {l : LaneId} (hs : s.Canon) :
    (s.txEnd o fill rows l).Canon := by
  unfold State.txEnd
  refine canon_ite ?_ hs
  extract_lets +onlyGivenNames p lost t b
  have ht : t.Canon := State.each_canon hs (fun _ _ h => State.modTx_canon h)
  exact State.emit_canon (State.emit_canon (State.modLane_canon ht))

theorem State.sendTime_canon {s : State} {l : LaneId} (hs : s.Canon) : (s.sendTime l).Canon := by
  unfold State.sendTime
  extract_lets +onlyGivenNames x r sent u
  have hu : u.Canon := State.modLane_canon hs
  dsimp only
  exact State.each_canon hu (fun _ _ h => State.emit_canon (canon_ite (State.canon_with h) h))

theorem State.sendData_canon {s : State} {l : LaneId} (hs : s.Canon) : (s.sendData l).Canon := by
  unfold State.sendData
  extract_lets +onlyGivenNames x all r n u was v u1 u2
  have hu : u.Canon := State.modLane_canon hs
  have hu1 : u1.Canon := State.canon_with hu
  have hu2 : u2.Canon := State.each_canon hu1 (fun _ _ h => State.countN_canon h)
  exact State.emits_canon hu2

theorem State.nearEvent_canon {s : State} {k n : Nat} (hs : s.Canon) : (s.nearEvent k n).Canon := by
  unfold State.nearEvent
  exact canon_ite (State.event_canon hs) hs

theorem State.txInterval_canon {s : State} {k : Nat} (hs : s.Canon) : (s.txInterval k).Canon := by
  unfold State.txInterval
  extract_lets +onlyGivenNames x key
  split
  · extract_lets +onlyGivenNames n u
    have hu : u.Canon := State.modTx_canon hs
    exact State.settleTx_canon (State.nearEvent_canon hu)
  · refine canon_ite ?_ hs
    extract_lets +onlyGivenNames n
    exact State.settleTx_canon (State.nearEvent_canon (State.modTx_canon hs))

theorem State.txMultiframe_canon {s : State} {l : LaneId} (hs : s.Canon) : (s.txMultiframe l).Canon := by
  unfold State.txMultiframe
  extract_lets +onlyGivenNames gone ks recs out u v u1 u2
  have hu : u.Canon := State.each_canon hs (fun _ _ h => canon_ite (State.count_canon h) h)
  have hu1 : u1.Canon := State.canon_with hu
  have hu2 : u2.Canon := State.each_canon hu1 (fun _ _ h => State.modTx_canon h)
  exact State.emit_canon (State.each_canon hu2 (fun _ _ h => State.txInterval_canon h))

theorem State.dropRecords_canon {s : State} {l : LaneId} (hs : s.Canon) : (s.dropRecords l).Canon := by
  unfold State.dropRecords
  exact State.canon_with hs

theorem State.txStart_canon {s : State} {l : LaneId} {num : Nat × Nat} (hs : s.Canon) : (s.txStart l num).Canon := by
  unfold State.txStart
  extract_lets +onlyGivenNames first runsOn u u1 u2 loop recs u3 fab so u4
  have hu : u.Canon := State.modLane_canon hs
  have hu1 : u1.Canon := canon_ite (State.each_canon hu (fun _ _ h => State.modTx_canon h)) hu
  have hu2 : u2.Canon := canon_ite (State.txMultiframe_canon hu1) (canon_ite hu1 (State.dropRecords_canon hu1))
  have hu3 : u3.Canon := State.modLane_canon hu2
  have hu4 : u4.Canon := State.emit_canon (State.modLane_canon hu3)
  exact State.sendData_canon (State.sendTime_canon hu4)

theorem State.txStarts_canon {s : State} (hs : s.Canon) : s.txStarts.Canon := by
  unfold State.txStarts
  exact State.each_canon hs (fun _ _ h => State.txStart_canon h)

theorem State.takeLanePhase_canon {s : State} {o : LanePhase} (hs : s.Canon) : (s.takeLanePhase o).Canon := by
  unfold State.takeLanePhase
  extract_lets +onlyGivenNames l
  exact canon_ite (State.modLane_canon hs) hs

theorem State.placeMoved_canon {s : State} {p : Nat} (hs : s.Canon) : (s.placeMoved p).Canon := by
  unfold State.placeMoved
  extract_lets +onlyGivenNames ms
  split
  · exact canon_ite hs (State.placeSet_canon hs)
  · extract_lets +onlyGivenNames k0
    exact State.each_canon hs (fun _ _ h => State.modLane_canon h)

theorem State.checkWander_canon {s : State} {l : LaneId} (hs : s.Canon) : (s.checkWander l).Canon := by
  unfold State.checkWander
  extract_lets +onlyGivenNames x p late
  exact canon_ite (State.change_canon hs) hs

theorem State.followSkew_canon {s : State} {p : Nat} (hs : s.Canon) : (s.followSkew p).Canon := by
  unfold State.followSkew
  refine canon_ite hs ?_
  extract_lets +onlyGivenNames w t
  have ht : t.Canon := State.each_canon hs (fun _ _ h => State.modLane_canon h)
  exact State.modPort_canon ht

theorem State.slipLane_canon {s : State} {l : LaneId} {add : Bool} (hs : s.Canon) : (s.slipLane l add).Canon := by
  unfold State.slipLane
  extract_lets +onlyGivenNames u u1
  have hu : u.Canon := State.count_canon hs
  have hu1 : u1.Canon := State.modNear_canon hu
  exact State.change_canon hu1

theorem State.slipPort_canon {s : State} {p : Nat} (hs : s.Canon) : (s.slipPort p).Canon := by
  unfold State.slipPort
  extract_lets +onlyGivenNames ls hold least
  exact canon_ite (State.each_canon hs (fun _ _ h => State.slipLane_canon h)) <| canon_ite (State.each_canon hs (fun _ _ h =>
    State.slipLane_canon h)) hs

theorem State.putBuffer_canon {s : State} {n p : Nat} {bytes : Tab Byte} (hs : s.Canon) : (s.putBuffer n p bytes).Canon := by
  unfold State.putBuffer
  exact canon_ite (State.canon_with hs) (State.canon_with hs)

theorem State.setOnes_canon {s : State} {n p v : Nat} (hs : s.Canon) : (s.setOnes n p v).Canon := by
  unfold State.setOnes
  exact canon_ite (State.canon_with hs) (State.canon_with hs)

theorem State.readLane_canon {s : State} {n : Nat} {l : LaneId} (hs : s.Canon) : (s.readLane n l).Canon := by
  unfold State.readLane
  extract_lets +onlyGivenNames x
  split
  · refine canon_ite ?_ (State.modLane_canon hs)
    extract_lets +onlyGivenNames fs had f u
    have hu : u.Canon := State.modLane_canon hs
    refine canon_ite (State.setOnes_canon (State.modLane_canon hu)) ?_
    extract_lets +onlyGivenNames u1 x1
    have hu1 : u1.Canon := State.modLane_canon hu
    exact State.putBuffer_canon hu1
  · exact State.modLane_canon hs

theorem State.restoreLane_canon {s : State} {l : LaneId} (hs : s.Canon) : (s.restoreLane l).Canon := by
  unfold State.restoreLane
  extract_lets +onlyGivenNames ok
  exact State.modLane_canon hs

theorem State.freshOnes_canon {s : State} {n : Nat} (hs : s.Canon) : (s.freshOnes n).Canon := by
  unfold State.freshOnes
  exact State.each_canon hs (fun _ _ h => State.setOnes_canon h)

theorem State.readyFrame_canon {s : State} {n : Nat} (hs : s.Canon) : (s.readyFrame n).Canon := by
  unfold State.readyFrame
  extract_lets +onlyGivenNames u u1
  have hu : u.Canon := State.each_canon hs (fun _ _ h => State.modRx_canon h)
  have hu1 : u1.Canon := State.each_canon hu (fun _ _ h => State.restoreLane_canon h)
  exact State.freshOnes_canon hu1

theorem State.forebay_canon {s : State} {n : Nat} {phases : List LanePhase} (hs : s.Canon) : (s.forebay n phases).Canon := by
  unfold State.forebay
  extract_lets +onlyGivenNames u u1 u2 u3 u4
  have hu : u.Canon := State.each_canon hs (fun _ _ h => State.takeLanePhase_canon h)
  have hu1 : u1.Canon := State.each_canon hu (fun _ _ h => State.placeMoved_canon h)
  have hu2 : u2.Canon := State.each_canon hu1 (fun _ _ h => State.checkWander_canon h)
  have hu3 : u3.Canon := State.each_canon hu2 (fun _ _ h => State.slipPort_canon (State.followSkew_canon h))
  have hu4 : u4.Canon := State.each_canon hu3 (fun _ _ h => State.readLane_canon h)
  exact State.readyFrame_canon hu4

theorem State.hardSwitch_canon {s : State} {l : LaneId} (hs : s.Canon) : (s.hardSwitch l).Canon := by
  unfold State.hardSwitch
  extract_lets +onlyGivenNames p x
  refine canon_ite ?_ hs
  extract_lets +onlyGivenNames v u
  have hu : u.Canon := State.canon_with hs
  exact canon_ite hu (State.count_canon (State.modPair_canon hu))

theorem State.pulse_canon {s : State} {ls : List LaneId} (hs : s.Canon) : (s.pulse ls).Canon := by
  unfold State.pulse
  refine canon_ite hs ?_
  extract_lets +onlyGivenNames u v u1
  have hu : u.Canon := State.emits_canon (State.countN_canon hs)
  have hu1 : u1.Canon := State.canon_with hu
  exact State.each_canon hu1 (fun _ _ h => State.hardSwitch_canon h)

theorem State.loadLineSels_canon {s : State} (hs : s.Canon) : s.loadLineSels.Canon := by
  unfold State.loadLineSels
  exact canon_ite hs (State.each_canon hs (fun _ _ h => State.canon_with h))

theorem State.followPairs_canon {s : State} (hs : s.Canon) : s.followPairs.Canon := by
  unfold State.followPairs
  exact canon_ite hs (State.each_canon hs (fun _ _ h => State.modPair_canon h))

theorem State.latchFails_canon {s : State} (hs : s.Canon) : s.latchFails.Canon := by
  unfold State.latchFails
  extract_lets +onlyGivenNames news u v u1
  have hu : u.Canon := State.each_canon hs (fun _ _ h => State.modLane_canon h)
  have hu1 : u1.Canon := State.canon_with hu
  exact State.followPairs_canon (State.loadLineSels_canon (State.pulse_canon hu1))

theorem State.engineReport_canon {s : State} {e : EngId} {r : ReadReport} (hs : s.Canon) : (s.engineReport e r).Canon := by
  unfold State.engineReport
  refine canon_ite ?_ hs
  extract_lets +onlyGivenNames u u1 u2 v u3 u4
  have hu : u.Canon := State.countN_canon (State.countN_canon hs)
  have hu1 : u1.Canon := State.countN_canon (State.countN_canon hu)
  have hu2 : u2.Canon := State.countN_canon (State.countN_canon hu1)
  have hu3 : u3.Canon := canon_ite (State.canon_with hu2) hu2
  have hu4 : u4.Canon := canon_ite (State.engineFault_canon hu3) hu3
  exact State.watchEngines_canon (canon_ite hu4 (State.engineFault_canon hu4))

theorem State.nextIdentity_canon {s : State} (hs : s.Canon) : s.nextIdentity.Canon := by
  unfold State.nextIdentity
  extract_lets +onlyGivenNames i wrap
  exact State.canon_with hs

theorem State.measurePhase_canon {s : State} (hs : s.Canon) : s.measurePhase.Canon := by
  unfold State.measurePhase
  extract_lets +onlyGivenNames d
  exact State.canon_with hs

theorem State.ppsOut_canon {s : State} (hs : s.Canon) : s.ppsOut.Canon := by
  unfold State.ppsOut
  exact canon_ite (State.emit_canon (State.canon_with hs)) hs

theorem State.endFrame_canon {s : State} {us : List Upset} {rows : Nat} (hs : s.Canon) : (s.endFrame us rows).Canon := by
  unfold State.endFrame
  extract_lets +onlyGivenNames o fill v u u1
  have ho : o.Canon := State.readState_canon hs
  have hu : u.Canon := State.canon_with hs
  have hu1 : u1.Canon := State.each_canon hu (fun _ _ h => State.txEnd_canon h)
  exact State.canon_with hu1

theorem State.openRows_canon {s : State} (hs : s.Canon) : s.openRows.Canon := by
  unfold State.openRows
  exact State.canon_with hs

theorem State.tableSteps_canon {s : State} {n : Nat} {before : Tab Bool} (hs : s.Canon) : (s.tableSteps n before).Canon := by
  unfold State.tableSteps
  extract_lets +onlyGivenNames v u u1 u2 m
  have hu : u.Canon := State.canon_with hs
  have hu1 : u1.Canon := State.dueActivation_canon hu
  have hu2 : u2.Canon := State.evalSels_canon (State.latchFails_canon hu1)
  exact State.openRows_canon (State.canon_with hu2)

theorem State.startFrame_canon {s : State} (hs : s.Canon) : s.startFrame.Canon := by
  unfold State.startFrame
  extract_lets +onlyGivenNames u v u1
  have hu : u.Canon := State.measurePhase_canon hs
  have hu1 : u1.Canon := State.txStarts_canon (State.ppsOut_canon (State.emit_canon (State.canon_with hu)))
  exact State.each_canon hu1 (fun _ _ h => State.checkRxKey_canon h)

theorem State.snapFabs_canon {s : State} (hs : s.Canon) : s.snapFabs.Canon := by
  unfold State.snapFabs
  exact State.each_canon hs (fun _ _ h => State.modLane_canon h)

theorem frameBoundary_canon {o : BoundaryObs} {s : State} (hs : s.Canon) : (frameBoundary o s).Canon := by
  unfold frameBoundary
  refine canon_ite hs ?_
  extract_lets +onlyGivenNames n sels a b u u1 v u2 u3 u4
  have hu : u.Canon := State.endFrame_canon hs
  have hu1 : u1.Canon := State.nextIdentity_canon hu
  have hu2 : u2.Canon := State.snapFabs_canon (State.canon_with hu1)
  have hu3 : u3.Canon := State.tableSteps_canon (State.forebay_canon hu2)
  have hu4 : u4.Canon := State.startFrame_canon (State.openRows_canon (State.engineReport_canon (State.engineReport_canon hu3)))
  exact State.canon_with hu4

theorem State.replaceLanes_canon {s : State} {n : Nat} {phases : List LanePhase} (hs : s.Canon) : (s.replaceLanes n phases).Canon := by
  unfold State.replaceLanes
  extract_lets +onlyGivenNames u u1
  have hu : u.Canon := State.each_canon hs (fun _ _ h => State.takeLanePhase_canon h)
  have hu1 : u1.Canon := State.each_canon hu (fun _ _ h => canon_ite h (State.placeSet_canon (State.each_canon h (fun _ _ h2 =>
    State.modLane_canon h2))))
  exact State.each_canon hu1 (fun _ _ h => State.setOnes_canon h)

theorem State.taiIdentity_canon {s : State} {t : Nat} (hs : s.Canon) : (s.taiIdentity t).Canon := by
  unfold State.taiIdentity
  exact State.canon_with hs

theorem State.cutStreams_canon {s : State} {near : Bool} (hs : s.Canon) : (s.cutStreams near).Canon := by
  unfold State.cutStreams
  dsimp only
  exact State.each_canon hs (fun _ _ h => canon_ite h (State.each_canon h (fun _ _ h2 => State.modTx_canon h2)))

theorem realign_canon {phases : List LanePhase} {s : State} (hs : s.Canon) : (realign phases s).Canon := by
  unfold realign
  split
  · exact hs
  · refine canon_ite hs ?_
    extract_lets +onlyGivenNames n sels near age u u1 v u2 u3 v1 u4 v2 v3 v4 u5 u6
    have hu : u.Canon := State.cutStreams_canon (State.endFrame_canon hs)
    have hu1 : u1.Canon := State.taiIdentity_canon hu
    have hu2 : u2.Canon := State.snapFabs_canon (State.canon_with hu1)
    have hu3 : u3.Canon := State.forebay_canon hu2
    have hu4 : u4.Canon := State.readyFrame_canon (State.replaceLanes_canon hu2)
    have hu5 : u5.Canon := canon_ite (State.canon_with hu3) (State.canon_with hu4)
    have hu6 : u6.Canon := State.auditObj_canon (State.cancelPending_canon (State.setAligned_canon (State.count_canon hu5)))
    exact State.startFrame_canon (State.tableSteps_canon hu6)

end Sys2Proof.Machine
end

section
/-! PROOFS. What the functions of Machine/Pm.lean leave of the canonical form (log entry 8). -/

namespace Sys2Proof.Machine

theorem State.modMon_canon {s : State} {e : Entity} {f : Mon → Mon} (hs : s.Canon) : (s.modMon e f).Canon := by
  unfold State.modMon
  split <;> exact State.canon_with hs

theorem secondEnd_canon {s : State} (hs : s.Canon) : (secondEnd s).Canon := by
  unfold secondEnd
  refine canon_ite hs ?_
  extract_lets +onlyGivenNames start latch u u1 u2
  have hlatch : ∀ x1 : Entity, ∀ x2 : Bool, ∀ x3 : Raw, ∀ t : State, t.Canon → (latch x1 x2 x3 t).Canon := fun _ _ _ _ h =>
    State.modMon_canon h
  have hu : u.Canon := State.each_canon hs (fun _ _ h => hlatch _ _ _ _ (hlatch _ _ _ _ h))
  have hu1 : u1.Canon := State.orphanStreams_canon hu
  have hu2 : u2.Canon := State.each_canon hu1 (fun _ _ h => hlatch _ _ _ _ h)
  exact State.orphanStreams_canon (State.canon_with hu2)

theorem classify_canon {e : Entity} {s : State} (hs : s.Canon) : (classify e s).Canon := by
  unfold classify
  split
  · refine canon_ite ?_ hs
    extract_lets +onlyGivenNames cls
    exact State.modMon_canon hs
  · exact hs

theorem State.cross_canon {s : State} {e : Entity} {len : Nat} {old new : Bin} {sec : Nat} (hs : s.Canon) :
    (s.cross e len old new sec).Canon := by
  unfold State.cross
  extract_lets +onlyGivenNames ts cs u
  have hu : u.Canon := State.each_canon hs (fun _ _ h => State.each_canon h (fun _ _ h2 => canon_ite (State.postUnit_canon h2)
    (State.count_canon (State.postUnit_canon h2))))
  exact canon_ite hu (State.modMon_canon hu)

theorem State.commitOne_canon {s : State} {e : Entity} (hs : s.Canon) : (s.commitOne e).Canon := by
  unfold State.commitOne
  extract_lets +onlyGivenNames m
  split
  · exact hs
  · refine canon_ite hs ?_
    extract_lets +onlyGivenNames turn flips un a d c15 c24 b15 b24 n15 n24 u v u1
    have hu : u.Canon := State.modMon_canon hs
    have hu1 : u1.Canon := canon_ite hu (State.canon_with hu)
    exact State.cross_canon (State.cross_canon hu1)

theorem State.checkOffset_canon {s : State} (hs : s.Canon) : s.checkOffset.Canon := by
  unfold State.checkOffset
  split
  · exact hs
  · extract_lets +onlyGivenNames q
    refine canon_ite hs ?_
    extract_lets +onlyGivenNames off v u
    have hu : u.Canon := State.canon_with hs
    refine canon_ite hu ?_
    extract_lets +onlyGivenNames mk
    exact State.canon_with hu

theorem commitSecond_canon {s : State} (hs : s.Canon) : (commitSecond s).Canon := by
  unfold commitSecond
  refine canon_ite hs ?_
  extract_lets +onlyGivenNames u
  have hu : u.Canon := State.checkOffset_canon hs
  exact State.each_canon hu (fun _ _ h => State.commitOne_canon h)

theorem State.exportBin_canon {s : State} {x : Bytes} (hs : s.Canon) : (s.exportBin x).Canon := by
  unfold State.exportBin
  dsimp only
  exact State.each_canon hs (fun _ _ h => canon_ite (State.count_canon (State.postUnit_canon h)) (State.count_canon (State.postUnit_canon
    h)))

theorem State.drainEntity_canon {s : State} {e : Entity} (hs : s.Canon) : (s.drainEntity e).Canon := by
  unfold State.drainEntity
  extract_lets +onlyGivenNames m u u1
  have hu : u.Canon := State.each_canon hs (fun _ _ h => State.exportBin_canon h)
  have hu1 : u1.Canon := State.each_canon hu (fun _ _ h => State.exportBin_canon h)
  exact State.modMon_canon hu1

theorem drainWheel_canon {w : WheelId} {s : State} (hs : s.Canon) : (drainWheel w s).Canon := by
  unfold drainWheel
  refine canon_ite ?_ hs
  extract_lets +onlyGivenNames u v u1
  have hu : u.Canon := State.each_canon hs (fun _ _ h => State.drainEntity_canon h)
  have hu1 : u1.Canon := State.canon_with hu
  exact canon_ite (State.count_canon (State.canon_with hu1)) hu1

theorem State.clearMon_canon {s : State} {e : Entity} (hs : s.Canon) : (s.clearMon e).Canon := by
  unfold State.clearMon
  exact State.modMon_canon hs

theorem effClear_canon {x : Session} {vs : List Nat} {s : State} (hs : s.Canon) : (effClear x vs s).Canon := by
  unfold effClear
  extract_lets +onlyGivenNames index el bins
  refine Act.canon_ite .refuse ?_
  extract_lets +onlyGivenNames objs
  refine Act.canon_ite .refuse ?_
  split
  · exact .done (State.count_canon (State.count_canon hs)) (fun _ h => h)
  · extract_lets +onlyGivenNames u v u1 v1 u2
    have hu : u.Canon := State.each_canon hs (fun _ _ h => State.clearMon_canon h)
    have hu1 : u1.Canon := canon_ite (State.canon_with hu) hu
    have hu2 : u2.Canon := canon_ite (canon_ite (State.canon_with hu1) (State.canon_with hu1)) hu1
    exact ok_canon (State.clearGroup_canon hu2)

end Sys2Proof.Machine
end

section
/-! PROOFS. What the functions of Machine/Protection.lean leave of the canonical form (log entry 8). -/

namespace Sys2Proof.Machine

theorem effProtectPort_canon {session tag p : Nat} {x : Session} {vs : List Nat} {s : State} (hs : s.Canon) :
    (effProtectPort session tag p x vs s).Canon := by
  unfold effProtectPort
  extract_lets +onlyGivenNames v x1 cur
  refine Act.canon_ite .refuse ?_
  split
  · split
    · exact .refuse
    · exact ok_canon hs
  · split
    · exact .refuse
    · exact .hold (State.canon_with hs)

theorem State.journalFlight_canon {s : State} (hs : s.Canon) : s.journalFlight.Canon := by
  unfold State.journalFlight
  split
  · exact State.journalUpTo_canon hs
  · exact hs

theorem takePair_canon {port : LaneId} {s : State} (hs : s.Canon) : (takePair port s).Canon := by
  unfold takePair
  split
  · exact hs
  · refine canon_ite hs ?_
    extract_lets +onlyGivenNames v u
    have hu : u.Canon := State.canon_with hs
    split
    · exact State.answerHeld_canon hu
    · extract_lets +onlyGivenNames page acc u1 t
      have hu1 : u1.Canon := State.accept_canon hu
      have ht : t.Canon := State.modPair_canon hu1
      split
      · exact State.answerHeld_canon hu1
      · extract_lets +onlyGivenNames t1 t2
        have ht1 : t1.Canon := State.journalTrans_canon (State.journalFlight_canon ht)
        have ht2 : t2.Canon := State.setStaged_canon (State.include_canon ht1)
        exact State.answerHeld_canon ht2

theorem pairTimeout_canon {port : LaneId} {s : State} (hs : s.Canon) : (pairTimeout port s).Canon := by
  unfold pairTimeout
  split
  · exact hs
  · exact State.answerHeld_canon (State.canon_with hs)

theorem effPairMode_canon {p : Nat} {x : Session} {vs : List Nat} {s : State} (hs : s.Canon) : (effPairMode p x vs s).Canon := by
  unfold effPairMode
  extract_lets +onlyGivenNames x1
  exact guardAct_canon (ok_canon (State.setStaged_canon hs))

theorem holdOffEnd_canon {p : LaneId} {side : PairSide} {s : State} (hs : s.Canon) : (holdOffEnd p side s).Canon := by
  unfold holdOffEnd
  extract_lets +onlyGivenNames x dur
  refine canon_ite hs ?_
  split
  · split
    · exact canon_ite (State.modPair_canon hs) hs
    · exact hs
  · split
    · exact canon_ite (State.modPair_canon hs) hs
    · exact hs

theorem evalPairs_canon {s : State} (hs : s.Canon) : (evalPairs s).Canon := by
  unfold evalPairs
  exact canon_ite (State.each_canon hs (fun _ _ h => State.runPair_canon h)) hs

theorem lineWtrEnd_canon {p : LaneId} {s : State} (hs : s.Canon) : (lineWtrEnd p s).Canon := by
  unfold lineWtrEnd
  extract_lets +onlyGivenNames x
  split
  · refine canon_ite ?_ hs
    extract_lets +onlyGivenNames y u
    have hu : u.Canon := State.modPair_canon hs
    exact canon_ite (State.count_canon hu) hu
  · exact hs

theorem effLine_canon {p : Nat} {x : Session} {vs : List Nat} {s : State} (hs : s.Canon) : (effLine p x vs s).Canon := by
  unfold effLine
  extract_lets +onlyGivenNames v x1
  exact Act.canon_ite .refuse <| Act.canon_ite .refuse (ok_canon (State.modPair_canon hs))

theorem modeMismatch_canon {p : LaneId} {up : Bool} {s : State} (hs : s.Canon) : (modeMismatch p up s).Canon := by
  unfold modeMismatch
  extract_lets +onlyGivenNames x
  refine canon_ite ?_ hs
  extract_lets +onlyGivenNames u
  have hu : u.Canon := State.modPair_canon hs
  exact canon_ite (State.raiseOnce_canon hu) (State.clearIf_canon hu)

theorem selectorMismatch_canon {p : LaneId} {up : Bool} {s : State} (hs : s.Canon) : (selectorMismatch p up s).Canon := by
  unfold selectorMismatch
  extract_lets +onlyGivenNames x
  refine canon_ite ?_ hs
  extract_lets +onlyGivenNames u
  have hu : u.Canon := State.modPair_canon hs
  exact canon_ite (State.raiseOnce_canon hu) (State.clearIf_canon hu)

theorem wtrTick_canon {s : State} (hs : s.Canon) : (wtrTick s).Canon := by
  unfold wtrTick
  exact canon_ite (State.canon_with hs) hs

theorem wtrReached_canon {i : Fin 262144} {s : State} (hs : s.Canon) : (wtrReached i s).Canon := by
  unfold wtrReached
  split
  · refine canon_ite ?_ hs
    extract_lets +onlyGivenNames u
    have hu : u.Canon := State.evalRun_canon hs
    exact State.canon_with hu
  · exact hs

theorem State.modSels_canon {s : State} {h : Nat} {f : Sel → Sel} (hs : s.Canon) : (s.modSels h f).Canon := by
  unfold State.modSels
  exact State.each_canon hs (fun _ _ h => State.canon_with h)

theorem effCircuitCmd_canon {h : Nat} {x : Session} {vs : List Nat} {s : State} (hs : s.Canon) : (effCircuitCmd h x vs s).Canon := by
  unfold effCircuitCmd
  extract_lets +onlyGivenNames v v1 u
  have hu : u.Canon := State.canon_with hs
  exact ok_canon (canon_ite (State.modSels_canon hu) hu)

theorem effRevertive_canon {h : Nat} {x : Session} {vs : List Nat} {s : State} (hs : s.Canon) : (effRevertive h x vs s).Canon := by
  unfold effRevertive
  extract_lets +onlyGivenNames v u u1
  have hu : u.Canon := State.canon_with hs
  have hu1 : u1.Canon := State.each_canon hu (fun _ _ h => State.canon_with h)
  exact ok_canon (State.modSels_canon hu1)

theorem State.writeCopies_canon {s : State} {some_y : Nat → Bool} (hs : s.Canon) : (s.writeCopies some_y).Canon := by
  unfold State.writeCopies
  exact State.each_canon hs (fun _ _ h => State.canon_with h)

theorem writeBackSels_canon {s : State} (hs : s.Canon) : (writeBackSels s).Canon := by
  unfold writeBackSels
  exact canon_ite (State.writeCopies_canon (State.canon_with hs)) hs

end Sys2Proof.Machine
end

section
/-! PROOFS. What the functions of Machine/Supervisor.lean leave of the canonical form (log entry 8). -/

namespace Sys2Proof.Machine

theorem State.countErase_canon {s : State} {area : Fin 14} (hs : s.Canon) : (s.countErase area).Canon := by
  unfold State.countErase
  extract_lets +onlyGivenNames v u
  have hu : u.Canon := State.canon_withPersist hs rfl rfl rfl
  exact canon_ite (State.noteCond_canon hu) hu

theorem State.badArea_canon {s : State} {n : Nat} {bad : Bool} (hs : s.Canon) : (s.badArea n bad).Canon := by
  unfold State.badArea
  extract_lets +onlyGivenNames l
  exact State.canon_withPersist hs rfl rfl rfl

theorem State.putHeader_canon {s : State} {h : Header} (hs : s.Canon) : (s.putHeader h).Canon := by
  unfold State.putHeader
  exact canon_ite (State.canon_with hs) (State.canon_with hs)

theorem State.takeHeader_canon {s : State} (hs : s.Canon) : s.takeHeader.Canon := by
  unfold State.takeHeader
  split
  · exact State.canon_with hs
  · exact State.canon_with hs
  · exact State.canon_with hs
  · exact State.badArea_canon (State.countErase_canon (State.putHeader_canon hs))

theorem State.writeHeader_canon {s : State} {f : Header → Header} (hs : s.Canon) : (s.writeHeader f).Canon := by
  unfold State.writeHeader
  extract_lets +onlyGivenNames h c
  exact State.badArea_canon (State.countErase_canon (State.putHeader_canon hs))

theorem State.auditBoot_canon {s : State} {slot result : Nat} (hs : s.Canon) : (s.auditBoot slot result).Canon := by
  unfold State.auditBoot
  exact canon_ite (State.canon_with hs) (State.audit_canon hs)

theorem State.recovery_canon {s : State} (hs : s.Canon) : s.recovery.Canon := by
  unfold State.recovery
  exact State.auditBoot_canon (State.canon_with hs)

theorem State.bootSlot_canon {s : State} (hs : s.Canon) : s.bootSlot.Canon := by
  unfold State.bootSlot
  extract_lets +onlyGivenNames h ok trial stale u first
  have hu : u.Canon := canon_ite (State.writeHeader_canon hs) hs
  split
  · exact State.recovery_canon hu
  · extract_lets +onlyGivenNames p u1
    have hu1 : u1.Canon := canon_ite (State.writeHeader_canon hu) hu
    exact State.auditBoot_canon (State.canon_with hu1)

theorem State.recommit_canon {s : State} {result : Nat} (hs : s.Canon) : (s.recommit result).Canon := by
  unfold State.recommit
  exact State.canon_withPersist hs rfl rfl rfl

theorem State.dropFlash_canon {s : State} (hs : s.Canon) : s.dropFlash.Canon := by
  unfold State.dropFlash
  extract_lets +onlyGivenNames u
  have hu : u.Canon := canon_ite (State.recommit_canon hs) hs
  split
  · exact State.canon_withPersist hu rfl rfl rfl
  · exact hu

theorem State.supRestart_canon {s : State} {cause : Nat} {recover : Bool} (hs : s.Canon) : (s.supRestart cause recover).Canon := by
  unfold State.supRestart
  refine canon_ite hs ?_
  extract_lets +onlyGivenNames held u u1 u2 v v1 v2 v3 u3 u4
  have hu : u.Canon := State.auditObj_canon (State.count_canon hs)
  have hu1 : u1.Canon := State.dropFlash_canon (State.discardFlight_canon (State.closeAll_canon hu))
  have hu2 : u2.Canon := State.each_canon hu1 (fun _ _ h => State.modMon_canon h)
  have hu3 : u3.Canon := State.canon_with hu2
  have hu4 : u4.Canon := State.checkSealed_canon (State.each_canon hu3 (fun _ _ h => State.modPair_canon h))
  exact canon_ite (State.recovery_canon hu4) (State.bootSlot_canon hu4)

theorem effRestartSup_canon {x : Session} {vs : List Nat} {s : State} (hs : s.Canon) : (effRestartSup x vs s).Canon := by
  unfold effRestartSup
  exact .done hs (fun _ h => State.supRestart_canon h)

theorem lockstep_canon {s : State} (hs : s.Canon) : (lockstep s).Canon := by
  unfold lockstep
  exact canon_ite (State.supRestart_canon (State.count_canon hs)) hs

theorem State.rebuildShadow_canon {s : State} (hs : s.Canon) : s.rebuildShadow.Canon := by
  unfold State.rebuildShadow
  refine canon_ite hs ?_
  extract_lets +onlyGivenNames u
  have hu : u.Canon := State.revertPairs_canon (canon_ite hs (State.journal_canon hs))
  exact State.orphanStreams_canon (State.canon_with hu)

theorem State.restartWtr_canon {s : State} {p : Nat} (hs : s.Canon) : (s.restartWtr p).Canon := by
  unfold State.restartWtr
  exact State.modPair_canon hs

theorem State.clearGone_canon {s : State} (hs : s.Canon) : s.clearGone.Canon := by
  unfold State.clearGone
  exact State.each_canon hs (fun _ _ h => State.clearAlarm_canon h)

theorem State.lateBootRec_canon {s : State} (hs : s.Canon) : s.lateBootRec.Canon := by
  unfold State.lateBootRec
  split
  · exact State.audit_canon (State.canon_with hs)
  · exact hs

theorem State.heardAgain_canon {s : State} (hs : s.Canon) : s.heardAgain.Canon := by
  unfold State.heardAgain
  exact State.canon_with hs

theorem restartEnd_canon {s : State} (hs : s.Canon) : (restartEnd s).Canon := by
  unfold restartEnd
  refine canon_ite ?_ hs
  extract_lets +onlyGivenNames v u u1 u2
  have hu : u.Canon := State.rebuildShadow_canon (State.heardAgain_canon (State.lateBootRec_canon (State.canon_with hs)))
  have hu1 : u1.Canon := State.each_canon (State.markBins_canon hu) (fun _ _ h => State.restartWtr_canon h)
  have hu2 : u2.Canon := State.each_canon hu1 (fun _ _ h => State.noteCond_canon h)
  exact State.clearGone_canon hu2

theorem State.portLost_canon {s : State} (hs : s.Canon) : s.portLost.Canon :=
  ⟨twf_filter _ hs.dict, hs.copy0, hs.copy1, hs.cnt, twf_nil _⟩

theorem portFault_canon {s : State} (hs : s.Canon) : (portFault s).Canon := by
  unfold portFault
  refine canon_ite hs ?_
  extract_lets +onlyGivenNames linked v u u1
  have hu : u.Canon := State.watchTiming_canon (State.portLost_canon (State.canon_with hs))
  have hu1 : u1.Canon := canon_ite (State.failEngine_canon hu) hu
  exact State.watchEngines_canon (canon_ite (State.failEngine_canon hu1) hu1)

theorem State.modCog_canon {s : State} {c : Nat} {f : Cog → Cog} (hs : s.Canon) : (s.modCog c f).Canon := by
  unfold State.modCog
  exact State.canon_with hs

theorem cogFaulted_canon {c : CogId} {kind : Nat} {s : State} (hs : s.Canon) : (cogFaulted c kind s).Canon := by
  unfold cogFaulted
  refine canon_ite hs ?_
  extract_lets +onlyGivenNames recent u u1
  have hu : u.Canon := State.modCog_canon (State.count_canon hs)
  have hu1 : u1.Canon := canon_ite (State.count_canon hu) hu
  exact canon_ite (canon_ite (State.noteCond_canon (State.modCog_canon hu1)) (State.supRestart_canon (State.modCog_canon hu1)))
    (State.restartWtr_canon hu1)

theorem cogBack_canon {c : CogId} {s : State} (hs : s.Canon) : (cogBack c s).Canon := by
  unfold cogBack
  refine canon_ite ?_ hs
  extract_lets +onlyGivenNames u
  have hu : u.Canon := State.writeCopies_canon (State.modCog_canon hs)
  exact State.each_canon hu (fun _ _ h => State.modMon_canon h)

theorem auditPass_canon {bad : List Nat} {ms : Nat} {s : State} (hs : s.Canon) : (auditPass bad ms s).Canon := by
  unfold auditPass
  refine canon_ite hs ?_
  extract_lets +onlyGivenNames v u u1
  have hu : u.Canon := State.count_canon (State.canon_with hs)
  have hu1 : u1.Canon := State.each_canon hu (fun _ _ h => State.event_canon (State.count_canon (State.canon_with h)))
  exact canon_ite (State.clearIf_canon (State.canon_with hu1)) (State.raiseOnce_canon hu1)

theorem State.starve_canon {s : State} {g : Nat} (hs : s.Canon) : (s.starve g).Canon := by
  unfold State.starve
  extract_lets +onlyGivenNames b u
  have hu : u.Canon := State.countN_canon (State.free_canon hs)
  exact State.canon_with hu

theorem State.errorResponse_canon {s : State} {m t : Nat} (hs : s.Canon) : (s.errorResponse m t).Canon := by
  unfold State.errorResponse
  exact State.count_canon (State.count_canon hs)

theorem matrixTimeout_canon {m : MasterId} {t : TargetId} {s : State} (hs : s.Canon) : (matrixTimeout m t s).Canon := by
  unfold matrixTimeout
  refine canon_ite hs <| canon_ite (State.errorResponse_canon hs) ?_
  extract_lets +onlyGivenNames u u1
  have hu : u.Canon := State.errorResponse_canon (State.count_canon hs)
  have hu1 : u1.Canon := canon_ite (State.starve_canon hu) hu
  exact canon_ite hu1 (State.canon_with hu1)

theorem State.resetWheel_canon {s : State} {w : Nat} (hs : s.Canon) : (s.resetWheel w).Canon := by
  unfold State.resetWheel
  extract_lets +onlyGivenNames u
  have hu : u.Canon := State.each_canon hs (fun _ _ h => State.restartWtr_canon (State.modCog_canon h))
  exact State.each_canon hu (fun _ _ h => State.modMon_canon h)

theorem masterReset_canon {m : MasterId} {o : ResetObs} {s : State} (hs : s.Canon) : (masterReset m o s).Canon := by
  unfold masterReset
  refine canon_ite hs ?_
  extract_lets +onlyGivenNames u lost rec_ v u1 u2
  have hu : u.Canon := State.count_canon hs
  have hu1 : u1.Canon := State.canon_with hu
  have hu2 : u2.Canon := State.event_canon hu1
  exact canon_ite (State.resetWheel_canon hu2) hu2

theorem State.modBank_canon {s : State} {b : Nat} {f : Bank → Bank} (hs : s.Canon) : (s.modBank b f).Canon := by
  unfold State.modBank
  exact State.canon_with hs

theorem State.freshSlices_canon {s : State} (hs : s.Canon) : s.freshSlices.Canon := by
  unfold State.freshSlices
  exact State.canon_with hs

theorem State.startPass_canon {s : State} (hs : s.Canon) : s.startPass.Canon := by
  unfold State.startPass
  split
  · extract_lets +onlyGivenNames u
    have hu : u.Canon := State.freshSlices_canon hs
    exact State.canon_with hu
  · exact State.count_canon (State.canon_with hs)

theorem State.endPass_canon {s : State} (hs : s.Canon) : s.endPass.Canon := by
  unfold State.endPass
  extract_lets +onlyGivenNames v u
  have hu : u.Canon := State.count_canon (State.canon_with hs)
  exact canon_ite (State.startPass_canon (State.canon_with hu)) hu

theorem State.advanceBank_canon {s : State} {b : Nat} (hs : s.Canon) : (s.advanceBank b).Canon := by
  unfold State.advanceBank
  split
  · exact State.canon_with hs
  · exact State.endPass_canon hs

theorem State.advance_canon {s : State} (hs : s.Canon) : s.advance.Canon := by
  unfold State.advance
  extract_lets +onlyGivenNames b u v u1
  have hu : u.Canon := State.modBank_canon hs
  have hu1 : u1.Canon := State.canon_with hu
  exact canon_ite (State.canon_with hu1) (State.advanceBank_canon hu1)

theorem State.retireBank_canon {s : State} {b : Nat} (hs : s.Canon) : (s.retireBank b).Canon := by
  unfold State.retireBank
  extract_lets +onlyGivenNames u
  have hu : u.Canon := State.modBank_canon hs
  exact canon_ite (State.supRestart_canon hu) <| canon_ite (State.supRestart_canon hu) hu

theorem marchSlice_canon {b : BankId} {k : Fin 64} {r : SliceResult} {s : State} (hs : s.Canon) : (marchSlice b k r s).Canon := by
  unfold marchSlice
  refine canon_ite hs ?_
  split
  · exact State.advance_canon hs
  · exact State.retireBank_canon (State.advanceBank_canon hs)
  · extract_lets +onlyGivenNames u
    have hu : u.Canon := State.modBank_canon (State.count_canon hs)
    exact canon_ite (State.advance_canon (State.count_canon hu)) (State.canon_with hu)

theorem sliceAgain_canon {s : State} (hs : s.Canon) : (sliceAgain s).Canon := by
  unfold sliceAgain
  split
  · exact canon_ite (State.canon_with hs) hs
  · exact hs

theorem passDue_canon {s : State} (hs : s.Canon) : (passDue s).Canon := by
  unfold passDue
  exact canon_ite hs <| canon_ite (State.startPass_canon hs) <| canon_ite hs (State.count_canon (State.canon_with hs))

theorem effStartPass_canon {x : Session} {vs : List Nat} {s : State} (hs : s.Canon) : (effStartPass x vs s).Canon := by
  unfold effStartPass
  exact guardAct_canon (ok_canon (State.startPass_canon hs))

theorem scratchError_canon {b : BankId} {use : ScratchUse} {s : State} (hs : s.Canon) : (scratchError b use s).Canon := by
  unfold scratchError
  refine canon_ite hs ?_
  extract_lets +onlyGivenNames u
  have hu : u.Canon := State.count_canon (State.count_canon hs)
  split
  · exact hu
  · exact State.supRestart_canon hu
  · exact State.supRestart_canon hu
  · exact State.supRestart_canon hu

theorem windowEnd_canon {cs : List PortCounts} {s : State} (hs : s.Canon) : (windowEnd cs s).Canon := by
  unfold windowEnd
  split
  · exact hs
  · exact ⟨hs.dict, hs.copy0, hs.copy1, twf_foldl (fun _ _ h => twf_tmod _ _ _ _ (twf_tmod _ _ _ _ (twf_tmod _ _ _ _ (twf_tmod _ _ _ _ h)))) _ hs.cnt,
      hs.lanes⟩

theorem effWindow_canon {x : Session} {vs : List Nat} {s : State} (hs : s.Canon) : (effWindow x vs s).Canon := by
  unfold effWindow
  extract_lets +onlyGivenNames u v u1
  have hu : u.Canon := State.setStaged_canon hs
  have hu1 : u1.Canon := State.canon_with hu
  exact ok_canon (State.each_canon hu1 (fun _ _ h => State.clearGroup_canon h))

end Sys2Proof.Machine
end

section
/-! PROOFS. What the functions of Machine/Power.lean leave of the canonical form (log entry 8). -/

namespace Sys2Proof.Machine

theorem State.setCopy_canon {s : State} {a : Nat} {c : DictCopy} (hs : s.Canon) (hc : twf [] c.values) : (s.setCopy a c).Canon := by
  unfold State.setCopy
  split
  · exact ⟨hs.dict, hc, hs.copy1, hs.cnt, hs.lanes⟩
  · exact ⟨hs.dict, hs.copy0, hc, hs.cnt, hs.lanes⟩

theorem State.copy_canon {s : State} {a : Nat} (hs : s.Canon) : twf [] (s.copy a).values := by
  unfold State.copy
  split
  · exact hs.copy0
  · exact hs.copy1

theorem State.setMap_canon {s : State} {ay : Nat} {i : Image} (hs : s.Canon) : (s.setMap ay i).Canon := by
  unfold State.setMap
  exact canon_ite (State.canon_withPersist hs rfl rfl rfl) (State.canon_withPersist hs rfl rfl rfl)

theorem State.startErase_canon {s : State} {ay : Nat} (hs : s.Canon) : (s.startErase ay).Canon := by
  unfold State.startErase
  refine canon_ite hs ?_
  extract_lets +onlyGivenNames v u
  have hu : u.Canon := State.countErase_canon (State.canon_withPersist hs rfl rfl rfl)
  exact canon_ite (State.setCopy_canon hu (State.copy_canon hu)) (State.setMap_canon hu)

theorem State.eraseAhead_canon {s : State} (hs : s.Canon) : s.eraseAhead.Canon := by
  unfold State.eraseAhead
  extract_lets +onlyGivenNames u
  have hu : u.Canon := canon_ite hs (State.startErase_canon hs)
  exact canon_ite hu (State.startErase_canon hu)

theorem eraseEnd_canon {n : Fin 14} {ok : Bool} {s : State} (hs : s.Canon) : (eraseEnd n ok s).Canon := by
  unfold eraseEnd
  extract_lets +onlyGivenNames u k
  have hu : u.Canon := canon_ite hs (State.count_canon hs)
  split
  · refine canon_ite hu ?_
    extract_lets +onlyGivenNames v u1
    have hu1 : u1.Canon := State.canon_withPersist hu rfl rfl rfl
    exact State.badArea_canon hu1
  · extract_lets +onlyGivenNames u1
    have hu1 : u1.Canon := State.countErase_canon hu
    exact canon_ite (State.canon_withPersist hu1 rfl rfl rfl) <| canon_ite (State.canon_withPersist hu1 rfl rfl rfl) <| canon_ite
      (State.modSlot_canon hu1) (State.badArea_canon hu1)

theorem budgetUnit_canon {s : State} (hs : s.Canon) : (budgetUnit s).Canon := by
  unfold budgetUnit
  exact canon_ite (State.eraseAhead_canon (State.canon_withPersist hs rfl rfl rfl)) hs

theorem effCommit_canon {x : Session} {vs : List Nat} {s : State} (hs : s.Canon) : (effCommit x vs s).Canon := by
  unfold effCommit
  extract_lets +onlyGivenNames a
  refine Act.canon_ite .refuse <| Act.canon_ite (ok_canon hs) <| Act.canon_ite (.hold (State.canon_withPersist hs rfl rfl rfl)) ?_
  split
  · exact .refuse
  · exact Act.canon_ite (.done (State.count_canon hs) (fun _ h => h)) .refuse

theorem State.answerCommit_canon {s : State} {ay : Ans} (hs : s.Canon) : (s.answerCommit ay).Canon := by
  unfold State.answerCommit
  split
  · exact State.answerHeld_canon hs
  · exact hs

/-- What a commit writes is in canonical form: the captured values are put into a table that is. -/
theorem State.merged_canon {s : State} (hs : s.Canon) : twf [] s.merged := by
  unfold State.merged
  refine twf_foldl (fun _ _ h => twf_tput _ _ _ _ h) _ ?_
  split
  · exact State.copy_canon hs
  · exact twf_nil _

theorem commitEnd_canon {verified : Bool} {s : State} (hs : s.Canon) : (commitEnd verified s).Canon := by
  unfold commitEnd
  extract_lets +onlyGivenNames a seq vals pers u v pers1 w
  have hu : u.Canon := State.canon_withPersist hs rfl rfl rfl
  have hv : v.Canon := State.badArea_canon (State.setCopy_canon hu (State.merged_canon hs))
  have hw : w.Canon := State.count_canon (State.canon_withPersist hv rfl rfl rfl)
  exact canon_ite hs <| canon_ite (State.answerCommit_canon (State.eraseAhead_canon (State.noteCond_canon hw)))
    (State.answerCommit_canon (State.eraseAhead_canon (State.badArea_canon (State.count_canon (State.recommit_canon hu)))))

theorem mapStart_canon {s : State} (hs : s.Canon) : (mapStart s).Canon := by
  unfold mapStart
  extract_lets +onlyGivenNames a
  exact canon_ite (State.canon_withPersist hs rfl rfl rfl) hs

theorem mapEnd_canon {verified : Bool} {s : State} (hs : s.Canon) : (mapEnd verified s).Canon := by
  unfold mapEnd
  split
  · exact hs
  · extract_lets +onlyGivenNames v u
    have hu : u.Canon := State.canon_withPersist hs rfl rfl rfl
    refine canon_ite ?_ (State.eraseAhead_canon (State.badArea_canon (State.count_canon hu)))
    extract_lets +onlyGivenNames u1 v1 v2 u2
    have hu1 : u1.Canon := State.setMap_canon hu
    have hu2 : u2.Canon := State.count_canon (State.badArea_canon (State.canon_withPersist hu1 rfl rfl rfl))
    exact State.eraseAhead_canon (State.pruneJournal_canon (State.noteCond_canon hu2))

theorem State.volatileLost_canon {s : State} (hs : s.Canon) : s.volatileLost.Canon := ⟨twf_nil _, hs.copy0, hs.copy1, twf_nil _, twf_nil _⟩

theorem State.ocxoOff_canon {s : State} (hs : s.Canon) : s.ocxoOff.Canon := by
  unfold State.ocxoOff
  exact State.canon_with hs

theorem State.internalReset_canon {s : State} {cause dur : Nat} (hs : s.Canon) : (s.internalReset cause dur).Canon := by
  unfold State.internalReset
  extract_lets +onlyGivenNames u
  have hu : u.Canon := State.volatileLost_canon hs
  exact State.canon_with hu

theorem State.restorePairs_canon {s : State} (hs : s.Canon) : s.restorePairs.Canon := by
  unfold State.restorePairs
  exact State.canon_with hs

theorem State.startPortDie_canon {s : State} (hs : s.Canon) : s.startPortDie.Canon := by
  unfold State.startPortDie
  extract_lets +onlyGivenNames v u u1
  have hu : u.Canon := State.canon_with hs
  have hu1 : u1.Canon := State.each_canon hu (fun _ _ h => canon_ite (State.settle_canon (State.setLane_canon h)) h)
  exact State.watchTiming_canon (State.evalRefs_canon hu1)

theorem State.loadMap_canon {s : State} (hs : s.Canon) : s.loadMap.Canon := by
  unfold State.loadMap
  extract_lets +onlyGivenNames i
  split
  · extract_lets +onlyGivenNames gone a' b' v v1 v2 u u1 u2 u3
    have hu : u.Canon := State.canon_with hs
    have hu1 : u1.Canon := State.each_canon hu (fun _ _ h => State.canon_with h)
    have hu2 : u2.Canon := canon_ite hu1 (State.event_canon hu1)
    have hu3 : u3.Canon := State.reloadStreams_canon hu2
    exact canon_ite (State.mapDue_canon hu3) hu3

theorem State.startEngine_canon {s : State} {e : EngId} {bad : List (Fin 640)} {good : Bool} (hs : s.Canon) :
    (s.startEngine e bad good).Canon := by
  unfold State.startEngine
  extract_lets +onlyGivenNames v i r u
  have hu : u.Canon := State.modEngine_canon hs
  exact canon_ite (State.unusableEngine_canon hu) <| canon_ite (State.modEngine_canon hu) (State.failEngine_canon hu)

theorem State.startTraffic_canon {s : State} {o : BootObs} (hs : s.Canon) : (s.startTraffic o).Canon := by
  unfold State.startTraffic
  extract_lets +onlyGivenNames u u1
  have hu : u.Canon := State.loadMap_canon (State.startPortDie_canon hs)
  have hu1 : u1.Canon := State.startEngine_canon (State.startEngine_canon hu)
  exact State.watchEngines_canon (State.canon_with hu1)

theorem State.restoreDict_canon {s : State} (hs : s.Canon) : s.restoreDict.Canon := by
  unfold State.restoreDict
  split
  · exact State.restorePairs_canon ⟨State.copy_canon hs, hs.copy0, hs.copy1, hs.cnt, hs.lanes⟩
  · exact State.restorePairs_canon (State.noteCond_canon ⟨twf_nil _, hs.copy0, hs.copy1, hs.cnt, hs.lanes⟩)

theorem State.restoreMap_canon {s : State} (hs : s.Canon) : s.restoreMap.Canon := by
  unfold State.restoreMap
  extract_lets +onlyGivenNames i any u
  have hu : u.Canon := State.noteCond_canon hs
  exact State.canon_withPersist hu rfl rfl rfl

theorem State.noteWear_canon {s : State} (hs : s.Canon) : s.noteWear.Canon := by
  unfold State.noteWear
  exact State.each_canon hs (fun _ _ h => State.noteCond_canon h)

theorem State.damage_canon {s : State} {areas : List (Fin 14)} (hs : s.Canon) : (s.damage areas).Canon := by
  unfold State.damage
  refine State.each_canon hs fun a t ht => ?_
  split
  · exact State.badArea_canon (State.canon_with ht)
  · exact State.badArea_canon (State.canon_with ht)
  · exact State.spoilSlot_canon ht
  · exact State.spoilSlot_canon ht
  · exact State.badArea_canon (State.setCopy_canon ht (State.copy_canon ht))
  · exact State.badArea_canon (State.setCopy_canon ht (State.copy_canon ht))
  · exact State.badArea_canon (State.setMap_canon ht)
  · exact State.badArea_canon (State.setMap_canon ht)
  · exact ht

theorem State.failTags_canon {s : State} {tagA tagB : Bool} (hs : s.Canon) : (s.failTags tagA tagB).Canon := by
  unfold State.failTags
  extract_lets +onlyGivenNames u
  have hu : u.Canon := canon_ite hs (State.spoilSlot_canon hs)
  exact canon_ite hu (State.spoilSlot_canon hu)

theorem State.tamper_canon {s : State} (hs : s.Canon) : s.tamper.Canon := by
  unfold State.tamper
  exact State.eraseKeys_canon (State.count_canon (State.audit_canon (State.canon_with hs)))

theorem State.senseTamper_canon {s : State} (hs : s.Canon) : s.senseTamper.Canon := by
  unfold State.senseTamper
  extract_lets +onlyGivenNames u
  have hu : u.Canon := canon_ite (State.tamper_canon hs) hs
  exact canon_ite (State.tamper_canon hu) hu

theorem State.startUp_canon {s : State} {o : BootObs} {cause : Nat} (hs : s.Canon) : (s.startUp o cause).Canon := by
  unfold State.startUp
  extract_lets +onlyGivenNames u v v1 u1
  have hu : u.Canon := State.volatileLost_canon hs
  have hu1 : u1.Canon := State.canon_with hu
  refine canon_ite (State.internalReset_canon hu1) ?_
  extract_lets +onlyGivenNames v2 v3 u2 u3 v4 u4
  have hu2 : u2.Canon := State.canon_with hu1
  have hu3 : u3.Canon := State.takeHeader_canon (State.failTags_canon (State.damage_canon hu2))
  have hu4 : u4.Canon := State.noteWear_canon (State.bootSlot_canon (State.canon_withPersist hu3 rfl rfl rfl))
  refine canon_ite (State.senseTamper_canon (State.canon_with hu4)) ?_
  split
  · dsimp only
    exact State.senseTamper_canon (State.canon_with (State.recovery_canon hu4))
  · extract_lets +onlyGivenNames v5 u5
    have hu5 : u5.Canon := State.restoreDict_canon (State.canon_with hu4)
    dsimp only
    exact State.senseTamper_canon (State.eraseAhead_canon (State.startTraffic_canon (State.canon_with (State.restoreMap_canon hu5))))

theorem State.restartCounters_canon {s : State} (hs : s.Canon) : s.restartCounters.Canon := by
  unfold State.restartCounters
  extract_lets +onlyGivenNames u
  have hu : u.Canon := State.each_canon hs (fun _ _ h => State.each_canon h (fun _ _ h2 => State.restartGroup_canon h2))
  exact State.each_canon (State.each_canon hu (fun _ _ h => State.restartGroup_canon h)) (fun _ _ h => State.restartGroup_canon h)

theorem State.resume_canon {s : State} {o : BootObs} (hs : s.Canon) : (s.resume o).Canon := by
  unfold State.resume
  extract_lets +onlyGivenNames v u
  have hu : u.Canon := State.damage_canon (State.canon_with hs)
  exact State.eraseAhead_canon (State.startTraffic_canon (State.restartCounters_canon hu))

theorem startupEnd_canon {s : State} (hs : s.Canon) : (startupEnd s).Canon := by
  unfold startupEnd
  exact canon_ite (State.watchEngines_canon (State.canon_with hs)) hs

theorem State.chooseFeed_canon {s : State} (hs : s.Canon) : s.chooseFeed.Canon := by
  unfold State.chooseFeed State.free
  dsimp only
  exact canon_ite (canon_ite (State.canon_with hs) (State.canon_with hs)) (State.canon_with hs)

theorem State.watchFeeds_canon {s : State} (hs : s.Canon) : s.watchFeeds.Canon := by
  unfold State.watchFeeds
  extract_lets +onlyGivenNames a b
  exact State.chooseFeed_canon (State.noteCond_canon (State.noteCond_canon hs))

theorem feedUp_canon {f : FeedId} {volts : Nat} {o : BootObs} {s : State} (hs : s.Canon) : (feedUp f volts o s).Canon := by
  unfold feedUp
  extract_lets +onlyGivenNames clear had locked v v1 u
  have hu : u.Canon := State.watchFeeds_canon (State.canon_with hs)
  exact canon_ite hu <| canon_ite (canon_ite hu (State.resume_canon hu)) (State.startUp_canon hu)

theorem feedDown_canon {f : FeedId} {volts : Nat} {s : State} (hs : s.Canon) : (feedDown f volts s).Canon := by
  unfold feedDown
  extract_lets +onlyGivenNames v u
  have hu : u.Canon := canon_ite (State.count_canon (State.canon_with hs)) hs
  exact State.watchFeeds_canon (State.canon_with hu)

theorem keepGone_canon {s : State} (hs : s.Canon) : (keepGone s).Canon := by
  unfold keepGone
  refine canon_ite hs ?_
  extract_lets +onlyGivenNames v u
  have hu : u.Canon := State.count_canon (State.canon_with hs)
  exact canon_ite (State.ocxoOff_canon (State.volatileLost_canon hu)) hu

theorem trip_canon {f : FeedId} {s : State} (hs : s.Canon) : (trip f s).Canon := by
  unfold trip
  refine canon_ite hs ?_
  extract_lets +onlyGivenNames ts v u
  have hu : u.Canon := State.count_canon (State.canon_with hs)
  exact canon_ite hu <| canon_ite (State.internalReset_canon hu) (State.ocxoOff_canon (State.internalReset_canon hu))

theorem retrySwitch_canon {f : FeedId} {s : State} (hs : s.Canon) : (retrySwitch f s).Canon := by
  unfold retrySwitch
  split
  · exact canon_ite (State.canon_with hs) hs
  · exact hs

theorem seat_canon {o : BootObs} {s : State} (hs : s.Canon) : (seat o s).Canon := by
  unfold seat
  refine canon_ite hs ?_
  extract_lets +onlyGivenNames v u
  have hu : u.Canon := State.canon_with hs
  exact canon_ite (State.startUp_canon hu) hu

theorem unseat_canon {p : Fin 2} {s : State} (hs : s.Canon) : (unseat p s).Canon := by
  unfold unseat
  exact State.volatileLost_canon (State.canon_with hs)

theorem releaseReset_canon {o : BootObs} {s : State} (hs : s.Canon) : (releaseReset o s).Canon := by
  unfold releaseReset
  refine canon_ite hs ?_
  extract_lets +onlyGivenNames v u
  have hu : u.Canon := State.canon_with hs
  exact canon_ite (State.startUp_canon hu) hu

theorem startAgain_canon {o : BootObs} {s : State} (hs : s.Canon) : (startAgain o s).Canon := by
  unfold startAgain
  split
  · refine canon_ite ?_ hs
    extract_lets +onlyGivenNames v u
    have hu : u.Canon := State.canon_with hs
    exact canon_ite (State.startUp_canon hu) hu
  · exact hs

theorem State.failTrans_canon {s : State} {t : Trans} (hs : s.Canon) : (s.failTrans t).Canon := by
  unfold State.failTrans
  extract_lets +onlyGivenNames t' u
  have hu : u.Canon := canon_ite (State.count_canon hs) hs
  split
  · exact State.count_canon hu
  · exact canon_ite (State.canon_with hu) (State.postUnit_canon (State.count_canon hu))

theorem State.failFlight_canon {s : State} (hs : s.Canon) : s.failFlight.Canon := by
  unfold State.failFlight
  extract_lets +onlyGivenNames run_ done u v u1
  have hu : u.Canon := State.undoFlight_canon hs
  have hu1 : u1.Canon := State.canon_with hu
  exact State.each_canon hu1 (fun _ _ h => State.failTrans_canon h)

theorem State.failWrites_canon {s : State} (hs : s.Canon) : s.failWrites.Canon := by
  unfold State.failWrites
  extract_lets +onlyGivenNames ws
  exact State.each_canon (State.canon_with hs) (fun _ _ h => State.answerHeld_canon h)

theorem powerFail_canon {s : State} (hs : s.Canon) : (powerFail s).Canon := by
  unfold powerFail
  refine canon_ite hs ?_
  split
  · extract_lets +onlyGivenNames v u
    have hu : u.Canon := State.canon_with hs
    exact canon_ite hu (State.ocxoOff_canon hu)
  · extract_lets +onlyGivenNames v u
    have hu : u.Canon := State.count_canon (State.canon_with hs)
    refine canon_ite ?_ (State.ocxoOff_canon (State.volatileLost_canon hu))
    extract_lets +onlyGivenNames u1 u2 v1 u3
    have hu1 : u1.Canon := State.abandonMap_canon (State.cancelArmed_canon (State.failWrites_canon (State.failFlight_canon hu)))
    have hu2 : u2.Canon := State.engineDown_canon (State.engineDown_canon hu1)
    have hu3 : u3.Canon := State.canon_withPersist hu2 rfl rfl rfl
    exact State.watchTiming_canon (State.portLost_canon (State.canon_with hu3))

theorem State.writeDefaults_canon {s : State} (hs : s.Canon) : s.writeDefaults.Canon := by
  unfold State.writeDefaults
  extract_lets +onlyGivenNames a old keep u
  have hold : twf [] old := by
    unfold old
    split
    · exact State.copy_canon hs
    · exact twf_nil _
  have hu : u.Canon := State.badArea_canon (State.setCopy_canon hs (twf_filter _ hold))
  exact State.canon_withPersist hu rfl rfl rfl

theorem effDefaults_canon {x : Session} {vs : List Nat} {s : State} (hs : s.Canon) : (effDefaults x vs s).Canon := by
  unfold effDefaults
  exact Act.canon_ite .refuse <| Act.canon_ite .refuse (.done hs (fun _ h => State.internalReset_canon (State.writeDefaults_canon h)))

end Sys2Proof.Machine
end

section
/-! PROOFS. What the functions of Machine/Security.lean leave of the canonical form (log entry 8). -/

namespace Sys2Proof.Machine

theorem State.enrol_canon {s : State} {b : Bytes} (hs : s.Canon) : (s.enrol b).Canon := by
  unfold State.enrol
  exact State.canon_with hs

theorem effEnrol_canon {b : Bytes} {x : Session} {vs : List Nat} {s : State} (hs : s.Canon) : (effEnrol b x vs s).Canon := by
  unfold effEnrol
  split
  · exact .refuse
  · exact ok_canon (State.enrol_canon hs)

theorem State.closeWhere_canon {s : State} {cause : Nat} {p : Session → Bool} (hs : s.Canon) : (s.closeWhere cause p).Canon := by
  unfold State.closeWhere
  exact State.each_canon hs (fun _ _ h => State.closeSess_canon h)

theorem effRevokeCert_canon {x : Session} {vs : List Nat} {s : State} (hs : s.Canon) : (effRevokeCert x vs s).Canon := by
  unfold effRevokeCert
  split
  · exact .refuse
  · exact Act.canon_ite .refuse <| Act.canon_ite .refuse (.done (State.canon_with hs) (fun _ h => State.closeWhere_canon h))

theorem commissioning_canon {bytes : Bytes} {s : State} (hs : s.Canon) : (commissioning bytes s).Canon := by
  unfold commissioning
  extract_lets +onlyGivenNames b
  refine canon_ite hs ?_
  extract_lets +onlyGivenNames r
  refine canon_ite (State.emit_canon hs) ?_
  split
  · exact State.emit_canon hs
  · exact canon_ite (State.emit_canon hs) (State.emit_canon (State.audit_canon (State.enrol_canon hs)))

theorem effMakerAccess_canon {x : Session} {vs : List Nat} {s : State} (hs : s.Canon) : (effMakerAccess x vs s).Canon := by
  unfold effMakerAccess
  exact .done (State.setStaged_canon hs) (fun _ h => canon_ite (State.closeWhere_canon h) h)

theorem flushAudit_canon {good : Bool} {s : State} (hs : s.Canon) : (flushAudit good s).Canon := by
  unfold flushAudit
  exact canon_ite hs <| canon_ite (State.auditCond_canon (State.auditWrite_canon (State.canon_with hs))) (State.count_canon
    (State.canon_with hs))

theorem effMarkRead_canon {x : Session} {vs : List Nat} {s : State} (hs : s.Canon) : (effMarkRead x vs s).Canon := by
  unfold effMarkRead
  exact ok_canon (State.auditCond_canon (State.canon_with hs))

theorem State.auditImage_canon {s : State} {sub t : Nat} (hs : s.Canon) : (s.auditImage sub t).Canon := by
  unfold State.auditImage
  exact State.audit_canon hs

theorem State.startTrialBoot_canon {s : State} (hs : s.Canon) : s.startTrialBoot.Canon := by
  unfold State.startTrialBoot
  exact canon_ite (State.internalReset_canon hs) (State.supRestart_canon hs)

theorem effTrial_canon {x : Session} {vs : List Nat} {s : State} (hs : s.Canon) : (effTrial x vs s).Canon := by
  unfold effTrial
  extract_lets +onlyGivenNames t
  exact guardAct_canon (.done (State.auditImage_canon (State.writeHeader_canon hs)) (fun _ h => State.startTrialBoot_canon h))

theorem effConfirm_canon {x : Session} {vs : List Nat} {s : State} (hs : s.Canon) : (effConfirm x vs s).Canon := by
  unfold effConfirm
  extract_lets +onlyGivenNames t
  dsimp only
  exact guardAct_canon (ok_canon (State.auditImage_canon (State.canon_with (State.writeHeader_canon hs))))

theorem effRecovery_canon {x : Session} {vs : List Nat} {s : State} (hs : s.Canon) : (effRecovery x vs s).Canon := by
  unfold effRecovery
  exact .done hs (fun _ h => State.supRestart_canon h)

theorem effNonce_canon {session : Nat} {nonce : Bytes} {x : Session} {vs : List Nat} {s : State} (hs : s.Canon) :
    (effNonce session nonce x vs s).Canon := by
  unfold effNonce
  exact ok_canon (State.canon_with hs)

theorem reportReady_canon {session : Nat} {s : State} (hs : s.Canon) : (reportReady session s).Canon := by
  unfold reportReady
  refine canon_ite hs ?_
  extract_lets +onlyGivenNames x
  refine canon_ite hs ?_
  extract_lets +onlyGivenNames b
  exact State.canon_with hs

theorem tamperSeen_canon {i : TamperInput} {s : State} (hs : s.Canon) : (tamperSeen i s).Canon := by
  unfold tamperSeen
  split <;> exact canon_ite hs (State.when_canon (State.canon_with hs) (fun _ h => State.tamper_canon h))

theorem effTamperEnable_canon {x : Session} {vs : List Nat} {s : State} (hs : s.Canon) : (effTamperEnable x vs s).Canon := by
  unfold effTamperEnable
  extract_lets +onlyGivenNames was u
  have hu : u.Canon := State.setStaged_canon hs
  exact .done hu (fun _ h => canon_ite (State.tamper_canon h) h)

theorem effClearTamper_canon {x : Session} {vs : List Nat} {s : State} (hs : s.Canon) : (effClearTamper x vs s).Canon := by
  unfold effClearTamper
  exact guardAct_canon (ok_canon (canon_ite (State.audit_canon (State.canon_with hs)) hs))

theorem State.environment_canon {s : State} {cause : Nat} (hs : s.Canon) : (s.environment cause).Canon := by
  unfold State.environment
  exact State.eraseKeys_canon (State.count_canon hs)

theorem tempSample_canon {t : Temps} {s : State} (hs : s.Canon) : (tempSample t s).Canon := by
  unfold tempSample
  extract_lets +onlyGivenNames m out was v v1 u u1 u2
  have hu : u.Canon := State.canon_with hs
  have hu1 : u1.Canon := State.when_canon hu (fun _ h => State.environment_canon h)
  have hu2 : u2.Canon := canon_ite (State.noteCond_canon hu1) (canon_ite (State.noteCond_canon hu1) hu1)
  refine canon_ite ?_ (canon_ite (State.canon_with hu2) hu2)
  extract_lets +onlyGivenNames u3
  have hu3 : u3.Canon := State.internalReset_canon hu2
  exact State.canon_with hu3

theorem railOut_canon {r : Rail} {s : State} (hs : s.Canon) : (railOut r s).Canon := by
  unfold railOut
  exact canon_ite hs (State.environment_canon (State.canon_with hs))

theorem glitch_canon {k : GlitchKind} {s : State} (hs : s.Canon) : (glitch k s).Canon := by
  unfold glitch
  exact State.when_canon hs (fun _ h => State.eraseKeys_canon (State.count_canon h))

theorem authDecay_canon {s : State} (hs : s.Canon) : (authDecay s).Canon := by
  unfold authDecay
  exact canon_ite (State.canon_with hs) hs

end Sys2Proof.Machine
end

section
/-! PROOFS. What the functions of Machine/Mgmt.lean leave of the canonical form (log entry 8). -/

namespace Sys2Proof.Machine

theorem State.setRate_canon {s : State} {r : Rate} (hs : s.Canon) : (s.setRate r).Canon := by
  unfold State.setRate
  exact State.canon_with hs

theorem State.malformed_canon {s : State} (hs : s.Canon) : s.malformed.Canon := by
  unfold State.malformed
  exact State.count_canon hs

theorem State.sendReject_canon {s : State} {id status detail : Nat} (hs : s.Canon) : (s.sendReject id status detail).Canon := by
  unfold State.sendReject
  exact State.emit_canon (State.count_canon hs)

theorem identityMsg_canon {h : Hdr} {src : Src} {op : Nat} {q : Req} {s : State} (hs : s.Canon) : (identityMsg h src op q s).Canon := by
  unfold identityMsg
  refine canon_ite hs <| canon_ite (State.malformed_canon hs) ?_
  extract_lets +onlyGivenNames r
  exact canon_ite (State.count_canon hs) (State.emit_canon (State.setRate_canon hs))

theorem helloMsg_canon {h : Hdr} {src : Src} {s : State} (hs : s.Canon) : (helloMsg h src s).Canon := by
  unfold helloMsg
  refine canon_ite hs <| canon_ite (State.malformed_canon hs) ?_
  extract_lets +onlyGivenNames i
  refine canon_ite (State.sendReject_canon (State.count_canon hs)) ?_
  extract_lets +onlyGivenNames n
  exact State.emit_canon (State.canon_with hs)

theorem State.refuseOpen_canon {s : State} {id serial : Nat} {status detail : Nat} {counted : Bool} (hs : s.Canon) :
    (s.refuseOpen id serial status detail counted).Canon := by
  unfold State.refuseOpen
  extract_lets +onlyGivenNames u
  have hu : u.Canon := State.audit_canon hs
  exact State.sendReject_canon (State.when_canon hu (fun _ h => State.authFail_canon h))

theorem State.opened_canon {s : State} {id : Nat} {src : Src} {c : Cert} {key : BitVec 256} (hs : s.Canon) :
    (s.opened id src c key).Canon := by
  unfold State.opened
  extract_lets +onlyGivenNames x v u idle
  have hu : u.Canon := State.canon_with hs
  exact State.sendSecure_canon (State.audit_canon hu)

theorem openMsg_canon {h : Hdr} {src : Src} {serial : Nat} {signatureOk transportOk : Bool} {key : BitVec 256} {s : State} (hs : s.Canon) :
    (openMsg h src serial signatureOk transportOk key s).Canon := by
  unfold openMsg
  refine canon_ite hs <| canon_ite (State.malformed_canon hs) <| canon_ite (State.refuseOpen_canon hs) ?_
  extract_lets +onlyGivenNames v u
  have hu : u.Canon := State.canon_with hs
  split
  · exact State.refuseOpen_canon hu
  · exact canon_ite (State.refuseOpen_canon hu) <| canon_ite (State.refuseOpen_canon (State.count_canon hu)) (State.opened_canon hu)

theorem lapse_canon {id : Nat} {s : State} (hs : s.Canon) : (lapse id s).Canon := by
  unfold lapse
  exact State.canon_with hs

theorem secureMsg_canon {h : Hdr} {src : Src} {tagOk : Bool} {s : State} (hs : s.Canon) : (secureMsg h src tagOk s).Canon := by
  unfold secureMsg
  refine canon_ite hs <| canon_ite (State.malformed_canon hs) ?_
  split
  · extract_lets +onlyGivenNames r
    exact canon_ite hs (State.sendReject_canon (State.setRate_canon hs))
  · refine canon_ite hs ?_
    extract_lets +onlyGivenNames u
    have hu : u.Canon := State.cipherJob_canon hs
    exact canon_ite (State.count_canon hu) <| canon_ite (State.count_canon hu) (State.seqLimit_canon (State.modSession_canon hu))

theorem keptEnd_canon {id tag : Nat} {s : State} (hs : s.Canon) : (keptEnd id tag s).Canon := by
  unfold keptEnd
  exact State.canon_with hs

theorem idleEnd_canon {id : Nat} {s : State} (hs : s.Canon) : (idleEnd id s).Canon := by
  unfold idleEnd
  split
  · exact canon_ite (State.closeSess_canon hs) hs
  · exact hs

theorem effCloseSession_canon {target : Nat} {x : Session} {vs : List Nat} {s : State} (hs : s.Canon) :
    (effCloseSession target x vs s).Canon := by
  unfold effCloseSession
  exact .done hs (fun _ h => State.closeSess_canon h)

theorem effAddress_canon {sub : Nat} {x : Session} {vs : List Nat} {s : State} (hs : s.Canon) : (effAddress sub x vs s).Canon := by
  unfold effAddress
  exact .done (State.setStaged_canon hs) (fun _ h => State.closeAll_canon h)

theorem effRingMaster_canon {x : Session} {vs : List Nat} {s : State} (hs : s.Canon) : (effRingMaster x vs s).Canon := by
  unfold effRingMaster
  extract_lets +onlyGivenNames was u
  have hu : u.Canon := State.setStaged_canon hs
  exact ok_canon (canon_ite (State.canon_with hu) hu)

theorem State.learn_canon {s : State} {mac p : Nat} (hs : s.Canon) : (s.learn mac p).Canon := by
  unfold State.learn
  extract_lets +onlyGivenNames known
  exact canon_ite hs (State.canon_with hs)

theorem State.checkSeen_canon {s : State} (hs : s.Canon) : s.checkSeen.Canon := by
  unfold State.checkSeen
  exact State.canon_with hs

theorem switchFrame_canon {p : Fin 2} {f : EthFrame} {s : State} (hs : s.Canon) : (switchFrame p f s).Canon := by
  unfold switchFrame
  refine canon_ite hs ?_
  extract_lets +onlyGivenNames u check
  have hu : u.Canon := State.count_canon hs
  refine canon_ite (State.count_canon hu) ?_
  extract_lets +onlyGivenNames u1 u2
  have hu1 : u1.Canon := State.learn_canon hu
  have hu2 : u2.Canon := canon_ite (State.checkSeen_canon hu1) hu1
  exact canon_ite hu2 (State.each_canon hu2 (fun _ _ h => State.emit_canon (State.count_canon h)))

theorem State.switchSend_canon {s : State} {p : Nat} {o : Output} (hs : s.Canon) : (s.switchSend p o).Canon := by
  unfold State.switchSend
  exact canon_ite (State.emit_canon (State.count_canon hs)) hs

theorem State.flushMacs_canon {s : State} (hs : s.Canon) : s.flushMacs.Canon := by
  unfold State.flushMacs
  exact State.canon_with hs

theorem ringTimer_canon {s : State} (hs : s.Canon) : (ringTimer s).Canon := by
  unfold ringTimer
  exact canon_ite (State.switchSend_canon (State.canon_with hs)) hs

theorem State.ringFlush_canon {s : State} (hs : s.Canon) : s.ringFlush.Canon := by
  unfold State.ringFlush
  exact State.switchSend_canon (State.switchSend_canon (State.flushMacs_canon hs))

theorem openRing_canon {s : State} (hs : s.Canon) : (openRing s).Canon := by
  unfold openRing
  exact canon_ite (State.ringFlush_canon (State.canon_with hs)) hs

theorem closeRing_canon {s : State} (hs : s.Canon) : (closeRing s).Canon := by
  unfold closeRing
  exact canon_ite (State.switchSend_canon (State.switchSend_canon (State.canon_with hs))) hs

theorem flushSeen_canon {p : Fin 2} {s : State} (hs : s.Canon) : (flushSeen p s).Canon := by
  unfold flushSeen
  refine canon_ite hs ?_
  extract_lets +onlyGivenNames u
  have hu : u.Canon := State.flushMacs_canon (State.count_canon hs)
  exact canon_ite hu (State.switchSend_canon hu)

theorem ageMac_canon {mac : Nat} {s : State} (hs : s.Canon) : (ageMac mac s).Canon := by
  unfold ageMac
  exact State.canon_with hs

theorem State.dropAt_canon {l : Option Nat} {s : State} (hs : s.Canon) : (State.dropAt l s).Canon := by
  cases l with
  | none => exact hs
  | some l => exact State.count_canon hs

theorem State.toLane_canon {s : State} {origin : Option Nat} {l : Nat} {b : Bytes} (hs : s.Canon) : (s.toLane origin l b).Canon := by
  unfold State.toLane
  extract_lets +onlyGivenNames x
  refine canon_ite (State.dropAt_canon hs) ?_
  extract_lets +onlyGivenNames u u1
  have hu : u.Canon := State.modLane_canon hs
  have hu1 : u1.Canon := State.count_canon hu
  split
  · exact State.count_canon hu1
  · exact hu1

theorem State.own_canon {s : State} {origin : Option Nat} {b : Bytes} (hs : s.Canon) : (s.own origin b).Canon := by
  unfold State.own
  extract_lets +onlyGivenNames u
  have hu : u.Canon := State.emit_canon hs
  split
  · exact State.toLane_canon hu
  · exact State.emit_canon (State.count_canon hu)
  · exact hu

theorem State.datagram_canon {s : State} {origin : Option Nat} {b : Bytes} (hs : s.Canon) : (s.datagram origin b).Canon := by
  unfold State.datagram
  extract_lets +onlyGivenNames dst
  refine canon_ite (State.dropAt_canon hs) <| canon_ite (State.own_canon hs) ?_
  extract_lets +onlyGivenNames out spent
  split
  · exact canon_ite (State.dropAt_canon hs) (State.toLane_canon hs)
  · extract_lets +onlyGivenNames near
    exact canon_ite (State.dropAt_canon hs) (State.emit_canon (State.count_canon (State.count_canon hs)))
  · exact hs

theorem State.laneDatagram_canon {s : State} {l : Nat} {b : Bytes} (hs : s.Canon) : (s.laneDatagram l b).Canon := by
  unfold State.laneDatagram
  exact canon_ite (State.datagram_canon (State.count_canon hs)) hs

end Sys2Proof.Machine
end

section
/-! PROOFS. What the functions of Machine/Hoppers.lean leave of the canonical form (log entry 8). -/

namespace Sys2Proof.Machine

theorem hopperOp_canon {q : Req} {k : Hopper → Act} {s : State} (hk : ∀ x, (k x).Canon) : (hopperOp q k s).Canon := by
  unfold hopperOp
  exact Act.canon_ite .refuse <| Act.canon_ite .refuse <| Act.canon_ite .refuse (hk _)

theorem readBody_canon {q : Req} {s : State} (hs : s.Canon) : (readBody q s).Canon := by
  unfold readBody
  dsimp only
  exact hopperOp_canon (fun _ => Act.canon_ite .refuse (Act.canon_ite .refuse (.done hs (fun _ h => h))))

theorem ackBody_canon {q : Req} {s : State} (hs : s.Canon) : (ackBody q s).Canon := by
  unfold ackBody
  dsimp only
  exact hopperOp_canon (fun _ => Act.canon_ite .refuse (Act.canon_ite .refuse (ok_canon (State.consume_canon hs))))

theorem hopperWriteBody_canon {q : Req} {s : State} (hs : s.Canon) : (hopperWriteBody q s).Canon := by
  unfold hopperWriteBody
  dsimp only
  exact hopperOp_canon (fun _ => Act.canon_ite .refuse (Act.canon_ite .refuse (Act.canon_ite .refuse (Act.canon_ite (.done
    (State.writeUnit_canon hs) (fun _ h => h)) (Act.canon_ite (.hold (State.modHop_canon hs)) (.done (State.countN_canon hs) (fun _ h =>
    h)))))))

theorem State.heldOut_canon {s : State} {h : Nat} {w : Held} (hs : s.Canon) : (s.heldOut h w).Canon := by
  unfold State.heldOut
  extract_lets +onlyGivenNames u x r u1
  have hu : u.Canon := State.answerHeld_canon (State.modHop_canon hs)
  have hu1 : u1.Canon := State.modHop_canon hu
  exact State.each_canon hu1 (fun _ _ h => State.answerHeld_canon h)

theorem heldEnd_canon {id tag : Nat} {s : State} (hs : s.Canon) : (heldEnd id tag s).Canon := by
  unfold heldEnd
  extract_lets +onlyGivenNames due
  split
  · split
    · exact State.heldOut_canon hs
    · exact hs
  · exact hs

theorem State.claimHopper_canon {s : State} {h id : Nat} (hs : s.Canon) : (s.claimHopper h id).Canon := by
  unfold State.claimHopper
  extract_lets +onlyGivenNames greet u
  have hu : u.Canon := State.modHop_canon hs
  exact canon_ite (State.postUnit_canon hu) hu

theorem subscribeBody_canon {q : Req} {role : Nat} {s : State} (hs : s.Canon) : (subscribeBody q role s).Canon := by
  unfold subscribeBody
  exact Act.canon_ite (hopperOp_canon (fun _ => Act.canon_ite .refuse (Act.canon_ite .refuse (Act.canon_ite (ok_canon hs) (ok_canon
    (State.claimHopper_canon hs)))))) <| Act.canon_ite (hopperOp_canon (fun _ => Act.canon_ite .refuse (ok_canon (State.modHop_canon hs))))
    .refuse

theorem effHopper_canon {h : Nat} {x : Session} {vs : List Nat} {s : State} (hs : s.Canon) : (effHopper h x vs s).Canon := by
  unfold effHopper
  extract_lets +onlyGivenNames kind depth x1 change
  refine Act.canon_ite .refuse <| Act.canon_ite .refuse <| Act.canon_ite .refuse <| Act.canon_ite .refuse <| Act.canon_ite .refuse ?_
  extract_lets +onlyGivenNames fresh u
  have hu : u.Canon := State.setStaged_canon hs
  refine Act.canon_ite ?_ (ok_canon (State.makeRoom_canon hu))
  extract_lets +onlyGivenNames u1
  have hu1 : u1.Canon := State.modHop_canon hu
  exact ok_canon (State.each_canon hu1 (fun _ _ h => State.answerHeld_canon h))

end Sys2Proof.Machine
end

section
/-! PROOFS. What the functions of Machine/Channels.lean leave of the canonical form (log entry 8). -/

namespace Sys2Proof.Machine

theorem State.oddPacket_canon {s : State} {l : LaneId} (hs : s.Canon) : (s.oddPacket l).Canon := by
  unfold State.oddPacket
  exact State.modLane_canon hs

theorem State.badPacket_canon {s : State} {l : LaneId} (hs : s.Canon) : (s.badPacket l).Canon := by
  unfold State.badPacket
  exact State.count_canon hs

theorem timePacketIn_canon {l : LaneId} {s : State} (hs : s.Canon) : (timePacketIn l s).Canon := by
  unfold timePacketIn
  split
  · exact hs
  · extract_lets +onlyGivenNames u
    have hu : u.Canon := State.modLane_canon hs
    split
    · exact State.badPacket_canon hu
    · exact canon_ite (State.ptpPacket_canon hu) (State.oddPacket_canon hu)

theorem dataPacketIn_canon {l : LaneId} {s : State} (hs : s.Canon) : (dataPacketIn l s).Canon := by
  unfold dataPacketIn
  split
  · extract_lets +onlyGivenNames u
    have hu : u.Canon := State.modLane_canon hs
    split
    · exact State.badPacket_canon hu
    · extract_lets +onlyGivenNames u1 type
      have hu1 : u1.Canon := State.modLane_canon hu
      exact canon_ite (State.laneDatagram_canon hu1) <| canon_ite (State.guardedIn_canon hu1) (State.oddPacket_canon hu1)
  · exact hs

end Sys2Proof.Machine
end

section
/-! PROOFS. What the functions of Machine/Alarms.lean leave of the canonical form (log entry 8). -/

namespace Sys2Proof.Machine

theorem failureRaised_canon {c : AlarmCond} {s : State} (hs : s.Canon) : (failureRaised c s).Canon := by
  unfold failureRaised
  extract_lets +onlyGivenNames r
  refine canon_ite ?_ hs
  extract_lets +onlyGivenNames v u
  have hu : u.Canon := State.canon_with hs
  exact canon_ite hu (State.raiseAlarm_canon hu)

theorem failureCleared_canon {c : AlarmCond} {s : State} (hs : s.Canon) : (failureCleared c s).Canon := by
  unfold failureCleared
  extract_lets +onlyGivenNames r
  refine canon_ite ?_ hs
  extract_lets +onlyGivenNames v u
  have hu : u.Canon := State.canon_with hs
  split
  · exact State.clearAlarm_canon hu
  · exact hu

theorem effAck_canon {session : Nat} {x : Session} {vs : List Nat} {s : State} (hs : s.Canon) : (effAck session x vs s).Canon := by
  unfold effAck
  extract_lets +onlyGivenNames n
  split
  · extract_lets +onlyGivenNames v u
    have hu : u.Canon := State.canon_with hs
    exact ok_canon (State.alarmOut_canon hu)
  · split
    · exact .refuse
    · refine Act.canon_ite (ok_canon hs) ?_
      extract_lets +onlyGivenNames v u
      have hu : u.Canon := State.canon_with hs
      exact ok_canon (State.alarmOut_canon hu)

end Sys2Proof.Machine
end

section
/-! PROOFS. What the functions of Machine/Values.lean leave of the canonical form (log entry 8). -/

namespace Sys2Proof.Machine

theorem State.measure_canon {s : State} {index sub : Nat} (hs : s.Canon) : (s.measure index sub).Canon := by
  unfold State.measure
  exact canon_ite (State.canon_with hs) hs

theorem State.serving_canon {s : State} {session : Nat} (hs : s.Canon) : (s.serving session).Canon := by
  unfold State.serving
  exact State.canon_with hs

end Sys2Proof.Machine
end

section
/-! PROOFS. What the functions of Machine/Access.lean leave of the canonical form (log entry 8). -/

namespace Sys2Proof.Machine

theorem readObj_canon {q : Req} {x : Session} {s : State} (hs : s.Canon) : (readObj q x s).Canon := by
  unfold readObj
  split
  · exact .refuse
  · split
    · exact .refuse
    · exact .done (State.measure_canon hs) (fun _ h => h)

theorem readItems_canon {q : Req} {role room n sub : Nat} {s : State} (hs : s.Canon) : (readItems q role room n sub s).2.2.Canon := by
  induction n generalizing room sub s with
  | zero => exact hs
  | succ n ih =>
    unfold readItems
    dsimp only
    split
    · exact hs
    · exact ih (State.measure_canon hs)

theorem readMultiObj_canon {q : Req} {x : Session} {s : State} (hs : s.Canon) : (readMultiObj q x s).Canon := by
  unfold readMultiObj
  split
  · exact .refuse
  · split
    · exact .refuse
    · exact .done (readItems_canon hs) fun _ h => h

theorem describeObj_canon {q : Req} {x : Session} {s : State} (hs : s.Canon) : (describeObj q x s).Canon := by
  unfold describeObj
  split
  · exact .refuse
  · exact Act.canon_ite .refuse (.done hs (fun _ h => h))

theorem State.holdSnapshot_canon {s : State} {x : Snapshot} (hs : s.Canon) : (s.holdSnapshot x).Canon := by
  unfold State.holdSnapshot
  exact State.canon_with hs

theorem domainReadObj_canon {q : Req} {x : Session} {s : State} (hs : s.Canon) : (domainReadObj q x s).Canon := by
  unfold domainReadObj
  split
  · exact .refuse
  · refine Act.canon_ite .refuse ?_
    split
    · split
      · exact .refuse
      · extract_lets +onlyGivenNames d
        exact Act.canon_ite .refuse (.done (State.holdSnapshot_canon hs) (fun _ h => h))
    · split
      · exact .refuse
      · exact Act.canon_ite .refuse (.done (State.holdSnapshot_canon hs) (fun _ h => h))

theorem snapshotEnd_canon {session index : Nat} {sub el : Nat} {s : State} (hs : s.Canon) : (snapshotEnd session index sub el s).Canon := by
  unfold snapshotEnd
  exact State.canon_with hs

theorem State.store_canon {s : State} {o : Obj} {el : Nat} {vs : List Nat} (hs : s.Canon) : (s.store_ o el vs).Canon := by
  unfold State.store_
  exact canon_ite (State.setStaged_canon hs) (State.setVal_canon hs)

theorem State.refreshTaps_canon {s : State} {l : Nat} (hs : s.Canon) : (s.refreshTaps l).Canon := by
  unfold State.refreshTaps
  exact canon_ite (State.modLane_canon hs) hs

theorem effStore_canon {index sub el : Nat} {x : Session} {vs : List Nat} {s : State} (hs : s.Canon) :
    (effStore index sub el x vs s).Canon := by
  unfold effStore
  split
  · exact .refuse
  · extract_lets +onlyGivenNames u
    have hu : u.Canon := State.store_canon hs
    exact ok_canon (canon_ite (State.refreshTaps_canon hu) (canon_ite (State.evalRefs_canon (State.softStops_canon hu)) hu))
  · exact .refuse

theorem effLow_canon {session tag : Nat} {index sub el : Nat} {x : Session} {vs : List Nat} {s : State} (hs : s.Canon) :
    (effLow session tag index sub el x vs s).Canon := by
  refine (?_ : Effect.Canon (effLow session tag index sub el)) _ _ _ hs
  unfold effLow
  extract_lets +onlyGivenNames key
  exact Effect.canon_ite (fun _ _ _ h => effTrial_canon h) <|
    Effect.canon_ite (fun _ _ _ h => effConfirm_canon h) <|
    Effect.canon_ite (fun _ _ _ h => effRecovery_canon h) <|
    Effect.canon_ite (fun _ _ _ h => effEnable_canon h) <|
    Effect.canon_ite (fun _ _ _ h => effTrainMode_canon h) <|
    Effect.canon_ite (fun _ _ _ h => effPreset_canon h) <|
    Effect.canon_ite (fun _ _ _ h => effLoopback_canon h) <|
    Effect.canon_ite (fun _ _ _ h => effRetrain_canon h) <|
    Effect.canon_ite (fun _ _ _ h => effFreeze_canon h) <|
    Effect.canon_ite (fun _ _ _ h => effWidth_canon h) <|
    Effect.canon_ite (fun _ _ _ h => effExpectedTrace_canon h) <|
    Effect.canon_ite (fun _ _ _ h => effTimMode_canon h) <|
    Effect.canon_ite (fun _ _ _ h => effProtectPort_canon h) <|
    Effect.canon_ite (fun _ _ _ h => effPairMode_canon h) <|
    Effect.canon_ite (fun _ _ _ h => effLine_canon h) <|
    Effect.canon_ite (fun _ _ _ h => effCircuitCmd_canon h) <|
    Effect.canon_ite (fun _ _ _ h => effRevertive_canon h) <|
    fun _ _ _ h => effStore_canon h

theorem effMid_canon {index sub el : Nat} {value : Bytes} {x : Session} {vs : List Nat} {s : State} (hs : s.Canon) :
    (effMid index sub el value x vs s).Canon := by
  unfold effMid
  extract_lets +onlyGivenNames key
  exact Act.canon_ite (effRevert_canon hs) <| Act.canon_ite (effArmWrite_canon hs) <| Act.canon_ite (effCancel_canon hs) <| Act.canon_ite
    (effManualSwitch_canon hs) <| Act.canon_ite (effRestartEngine_canon hs) <| Act.canon_ite (effRefresh_canon hs) <| Act.canon_ite
    (effTallyRevocation_canon hs) <| Act.canon_ite (effSsmOption_canon hs) <| Act.canon_ite (effSelect_canon hs) <| Act.canon_ite
    (effRealign_canon hs) <| Act.canon_ite (effTimeSource_canon hs) <| Act.canon_ite (effPermit_canon hs) <| Act.canon_ite (effPtpLane_canon
    hs) <| Act.canon_ite (effArmTrigger_canon hs) <| Act.canon_ite (effDisarm_canon hs) <| Act.canon_ite (effInstallKey_canon hs) <|
    Act.canon_ite (effBinding_canon hs) <| Act.canon_ite (effEraseSlot_canon hs) <| Act.canon_ite (effTxStream_canon hs) <| Act.canon_ite
    (effRxStream_canon hs) <| Act.canon_ite (effEraseAll_canon hs) <| Act.canon_ite (effInstallKwk_canon hs) <| Act.canon_ite
    (effChannelKey_canon hs) <| Act.canon_ite (effSend_canon hs) (effStore_canon hs)

theorem effHigh_canon {session index : Nat} {sub el : Nat} {value : Bytes} {x : Session} {vs : List Nat} {s : State} (hs : s.Canon) :
    (effHigh session index sub el value x vs s).Canon := by
  refine (?_ : Effect.Canon (effHigh session index sub el value)) _ _ _ hs
  unfold effHigh
  extract_lets +onlyGivenNames key
  exact Effect.canon_ite (fun _ _ _ h => effClear_canon h) <|
    Effect.canon_ite (fun _ _ _ h => effHopper_canon h) <|
    Effect.canon_ite (fun _ _ _ h => effAck_canon h) <|
    Effect.canon_ite (fun _ _ _ h => effRestartSup_canon h) <|
    Effect.canon_ite (fun _ _ _ h => effStartPass_canon h) <|
    Effect.canon_ite (fun _ _ _ h => effWindow_canon h) <|
    Effect.canon_ite (fun _ _ _ h => effMakerAccess_canon h) <|
    Effect.canon_ite (fun _ _ _ h => effEnrol_canon h) <|
    Effect.canon_ite (fun _ _ _ h => effRevokeCert_canon h) <|
    Effect.canon_ite (fun _ _ _ h => effTamperEnable_canon h) <|
    Effect.canon_ite (fun _ _ _ h => effClearTamper_canon h) <|
    Effect.canon_ite (fun _ _ _ h => effMarkRead_canon h) <|
    Effect.canon_ite (fun _ _ _ h => effNonce_canon h) <|
    Effect.canon_ite (fun _ _ _ h => effAddress_canon h) <|
    Effect.canon_ite (fun _ _ _ h => effAddress_canon h) <|
    Effect.canon_ite (fun _ _ _ h => effRingMaster_canon h) <|
    Effect.canon_ite (fun _ _ _ h => effCommit_canon h) <|
    Effect.canon_ite (fun _ _ _ h => effCloseSession_canon h) <|
    Effect.canon_ite (fun _ _ _ h => effDefaults_canon h) <|
    fun _ _ _ h => effStore_canon h

theorem effAny_canon {session tag : Nat} {index sub el : Nat} {value : Bytes} {x : Session} {vs : List Nat} {s : State} (hs : s.Canon) :
    (effAny session tag index sub el value x vs s).Canon := by
  refine (?_ : Effect.Canon (effAny session tag index sub el value)) _ _ _ hs
  unfold effAny
  exact Effect.canon_ite (fun _ _ _ h => effLow_canon h) <|
    Effect.canon_ite (fun _ _ _ h => effMid_canon h) <|
    fun _ _ _ h => effHigh_canon h

/-- What one discarded element leaves, and what follows its response, is in canonical form. -/
theorem State.discardOne_canon {s : State} (hs : s.Canon) {session : Nat} {x : Session} {committed : Tab (List Nat)} {k : Nat}
    {r : State × (State → State)} (h : s.discardOne session x committed k = some r) : r.1.Canon ∧ ∀ u : State, u.Canon → (r.2 u).Canon := by
  unfold State.discardOne at h
  extract_lets +onlyGivenNames index sub el vs drop at h
  split at h
  · cases h
  next o _ =>
    have ha : (effAny session noTag index sub el (o.join vs) x vs s).Canon := effAny_canon hs
    have hdrop (t : State) (ht : t.Canon) : (drop t).Canon := State.canon_withPersist ht rfl rfl rfl
    clear_value drop
    split at h
    · cases h
    · split at h <;> rename_i he <;> rw [he] at ha
      · cases ha with
        | done ht hpost =>
          split at h
          · cases h
            exact ⟨hdrop _ ht, hpost⟩
          · cases h
      · cases ha with
        | hold ht =>
          cases h
          exact ⟨hdrop _ ht, fun _ hu => hu⟩
      · cases h

theorem discardAll_canon {s : State} (hs : s.Canon) {session : Nat} {x : Session} {committed : Tab (List Nat)} {ks : List Nat} :
    (discardAll session x committed ks s).1.Canon ∧ ∀ u : State, u.Canon → ((discardAll session x committed ks s).2.1 u).Canon := by
  induction ks generalizing s with
  | nil => exact ⟨hs, fun _ hu => hu⟩
  | cons k ks ih =>
    unfold discardAll
    split
    next t post hk =>
      obtain ⟨ht, hpost⟩ := State.discardOne_canon hs hk
      exact ⟨(ih ht).1, fun u hu => (ih ht).2 _ (hpost u hu)⟩
    next => exact ih hs

theorem effDiscard_canon {session : Nat} {x : Session} {vs : List Nat} {s : State} (hs : s.Canon) : (effDiscard session x vs s).Canon := by
  unfold effDiscard
  extract_lets +onlyGivenNames r
  have h : r.1.Canon ∧ ∀ u : State, u.Canon → (r.2.1 u).Canon := discardAll_canon hs
  split
  · exact .refuse
  · split <;> exact .done h.1 h.2

theorem State.putTransfer_canon {s : State} {t : Transfer} (hs : s.Canon) : (s.putTransfer t).Canon := by
  unfold State.putTransfer
  exact State.canon_with hs

theorem State.endTransfer_canon {s : State} {index sub el : Nat} (hs : s.Canon) : (s.endTransfer index sub el).Canon := by
  unfold State.endTransfer
  exact State.canon_with hs

theorem State.applyImage_canon {s : State} {t : Nat} {b : Bytes} (hs : s.Canon) : (s.applyImage t b).Canon := by
  unfold State.applyImage
  split
  · exact .done (State.modSlot_canon hs) (fun _ h => h)
  · exact ok_canon (State.auditImage_canon (State.modSlot_canon (State.cipherJob_canon hs)))

theorem State.beginImage_canon {s : State} {t total : Nat} {first : Bool} (hs : s.Canon) : (s.beginImage t total first).Canon := by
  unfold State.beginImage
  exact canon_ite (State.modSlot_canon hs) hs

theorem State.applyDomain_canon {s : State} {q : Req} {x : Session} {v : Bytes} (hs : s.Canon) : (s.applyDomain q x v).Canon := by
  unfold State.applyDomain
  extract_lets +onlyGivenNames t
  have ht : t.Canon := State.endTransfer_canon hs
  exact Act.canon_ite (State.applyImage_canon ht) (effSend_canon ht)

theorem segment_canon {q : Req} {total offset : Nat} {o : Obj} {x : Session} {s : State} (hs : s.Canon) :
    (segment q total offset o x s).Canon := by
  unfold segment
  split
  · exact .refuse
  · split
    · exact .refuse
    · extract_lets +onlyGivenNames u s1
      have hs1 : s1.Canon := canon_ite (State.beginImage_canon hs) hs
      exact Act.canon_ite (audited_canon (State.applyDomain_canon hs1)) (okWith_canon (State.putTransfer_canon hs1))

theorem domainWriteObj_canon {q : Req} {x : Session} {s : State} (hs : s.Canon) : (domainWriteObj q x s).Canon := by
  unfold domainWriteObj
  split
  · exact .refuse
  · split
    · exact .refuse
    · exact Act.canon_ite .refuse <| Act.canon_ite .refuse <| Act.canon_ite .refuse (segment_canon hs)

theorem transferDrop_canon {session index : Nat} {sub el : Nat} {s : State} (hs : s.Canon) :
    (transferDrop session index sub el s).Canon := by
  unfold transferDrop
  split
  · exact State.endTransfer_canon (State.dropTransfer_canon hs)
  · exact hs

theorem effWrite_canon {q : Req} {x : Session} {vs : List Nat} {s : State} (hs : s.Canon) : (effWrite q x vs s).Canon := by
  refine (?_ : Effect.Canon (effWrite q)) _ _ _ hs
  unfold effWrite
  exact Effect.canon_ite (fun _ _ _ h => effDiscard_canon h) <|
    fun _ _ _ h => effAny_canon h

theorem writeObj_canon {q : Req} {x : Session} {s : State} (hs : s.Canon) : (writeObj q x s).Canon := by
  unfold writeObj
  split
  · exact .refuse
  · exact Act.canon_ite (segment_canon hs) (audited_canon (effWrite_canon hs))

end Sys2Proof.Machine
end

section
/-! PROOFS. What the functions of Machine/Tick.lean leave of the canonical form (log entry 8). -/

namespace Sys2Proof.Machine

theorem State.countTime_canon {s : State} (hs : s.Canon) : s.countTime.Canon := by
  unfold State.countTime
  extract_lets +onlyGivenNames g f
  exact State.canon_with hs

theorem State.slewStep_canon {s : State} (hs : s.Canon) : s.slewStep.Canon := by
  unfold State.slewStep
  extract_lets +onlyGivenNames f d
  exact State.canon_with hs

theorem State.tickTime_canon {s : State} (hs : s.Canon) : s.tickTime.Canon := by
  unfold State.tickTime
  exact canon_ite (canon_ite (State.slewStep_canon (State.countTime_canon hs)) (State.countTime_canon hs)) hs

theorem State.closeSpent_canon {s : State} (hs : s.Canon) : s.closeSpent.Canon := by
  unfold State.closeSpent
  exact State.each_canon hs (fun _ _ h => State.seqLimit_canon h)

theorem State.tick_canon {s : State} (hs : s.Canon) : s.tick.Canon := by
  unfold State.tick
  extract_lets +onlyGivenNames u u1 u2
  have hu : u.Canon := State.tickTime_canon hs
  have hu1 : u1.Canon := State.canon_with hu
  have hu2 : u2.Canon := State.each_canon hu1 (fun _ _ h => State.tickTraining_canon h)
  exact State.closeSpent_canon (State.missBeat_canon (State.missBeat_canon hu2))

end Sys2Proof.Machine
end

section
/-! PROOFS. Every step keeps the canonical form of the tables (log entry 8; 14 R370). -/

namespace Sys2Proof.Machine

theorem execSendMessage_canon {rq : Rq} {channel : Nat} {message : Bytes} {s : State} (hs : s.Canon) :
    ∃ u, execSendMessage rq channel message s = .next (s.fixed u) ∧ u.Canon := by
  have hq : s.quiet.Canon := State.quiet_canon hs
  unfold execSendMessage
  split
  · exact ⟨_, rfl, writeOf_canon (fun _ _ _ h => effSend_canon h) hq⟩
  · exact ⟨_, rfl, request_canon (fun _ _ h => writeBody_canon (fun _ _ _ h2 => effSend_canon h2) h) hq⟩

/-- A command leaves the tables in canonical form. -/
theorem exec_canon (c : Instr) {s : State} (hs : s.Canon) : ∃ u, exec c s = .next (s.fixed u) ∧ u.Canon := by
  have hq : s.quiet.Canon := State.quiet_canon hs
  cases c with
  | identity => exact ⟨_, rfl, identityMsg_canon hq⟩
  | commissioningFrame => exact ⟨_, rfl, commissioning_canon hq⟩
  | hello => exact ⟨_, rfl, helloMsg_canon hq⟩
  | openSession => exact ⟨_, rfl, openMsg_canon hq⟩
  | secure => exact ⟨_, rfl, secureMsg_canon hq⟩
  | handshakeLapse => exact ⟨_, rfl, lapse_canon hq⟩
  | sessionIdleTimeout => exact ⟨_, rfl, idleEnd_canon hq⟩
  | read => exact ⟨_, rfl, request_canon (fun _ _ h => readObj_canon h) hq⟩
  | write => exact ⟨_, rfl, request_canon (fun _ _ h => writeObj_canon h) hq⟩
  | readMulti => exact ⟨_, rfl, request_canon (fun _ _ h => readMultiObj_canon h) hq⟩
  | domainRead => exact ⟨_, rfl, request_canon (fun _ _ h => domainReadObj_canon h) hq⟩
  | domainWrite => exact ⟨_, rfl, request_canon (fun _ _ h => domainWriteObj_canon h) hq⟩
  | describe => exact ⟨_, rfl, request_canon (fun _ _ h => describeObj_canon h) hq⟩
  | hopperRead => exact ⟨_, rfl, request_canon (fun _ _ h => readBody_canon h) hq⟩
  | hopperWrite => exact ⟨_, rfl, request_canon (fun _ _ h => hopperWriteBody_canon h) hq⟩
  | hopperAck => exact ⟨_, rfl, request_canon (fun _ _ h => ackBody_canon h) hq⟩
  | subscribe => exact ⟨_, rfl, request_canon (fun _ _ h => subscribeBody_canon h) hq⟩
  | release => exact ⟨_, rfl, request_canon (fun _ _ h => subscribeBody_canon h) hq⟩
  | nop => exact ⟨_, rfl, request_canon (fun _ _ h => ok_canon h) hq⟩
  | close => exact ⟨_, rfl, request_canon (fun _ _ h => .done h (fun _ h2 => State.closeSess_canon h2)) hq⟩
  | domainSnapshotExpiry => exact ⟨_, rfl, snapshotEnd_canon hq⟩
  | domainTransferDrop => exact ⟨_, rfl, transferDrop_canon hq⟩
  | hopperWriteTimeout => exact ⟨_, rfl, heldEnd_canon hq⟩
  | hopperConfiguration => exact ⟨_, rfl, writeOf_canon (fun _ _ _ h => effHopper_canon h) hq⟩
  | acknowledgeAlarm => exact ⟨_, rfl, writeOf_canon (fun _ _ _ h => effAck_canon h) hq⟩
  | acknowledgeAll => exact ⟨_, rfl, writeOf_canon (fun _ _ _ h => effAck_canon h) hq⟩
  | commit => exact ⟨_, rfl, writeOf_canon (fun _ _ _ h => effCommit_canon h) hq⟩
  | commitComplete => exact ⟨_, rfl, commitEnd_canon hq⟩
  | discardStaged => exact ⟨_, rfl, writeOf_canon (fun _ _ _ h => effDiscard_canon h) hq⟩
  | closeSession => exact ⟨_, rfl, writeOf_canon (fun _ _ _ h => effCloseSession_canon h) hq⟩
  | managementAddressWrite => exact ⟨_, rfl, writeOf_canon (fun _ _ _ h => effAddress_canon h) hq⟩
  | unrynPortWrite => exact ⟨_, rfl, writeOf_canon (fun _ _ _ h => effAddress_canon h) hq⟩
  | mgtFrame => exact ⟨_, rfl, switchFrame_canon hq⟩
  | ringCheckTimer => exact ⟨_, rfl, ringTimer_canon hq⟩
  | ringOpen => exact ⟨_, rfl, openRing_canon hq⟩
  | ringClose => exact ⟨_, rfl, closeRing_canon hq⟩
  | flushFrame => exact ⟨_, rfl, flushSeen_canon hq⟩
  | ipv6Datagram => exact ⟨_, rfl, by split <;> [exact State.laneDatagram_canon hq; exact canon_ite (State.datagram_canon hq) hq]⟩
  | supervisorRestart => exact ⟨_, rfl, State.supRestart_canon hq⟩
  | restartSupervisor => exact ⟨_, rfl, writeOf_canon (fun _ _ _ h => effRestartSup_canon h) hq⟩
  | supervisorRestartComplete => exact ⟨_, rfl, restartEnd_canon hq⟩
  | lockstepMismatch => exact ⟨_, rfl, lockstep_canon hq⟩
  | headWatchdog => exact ⟨_, rfl, canon_ite (State.supRestart_canon hq) hq⟩
  | portDieFault => exact ⟨_, rfl, portFault_canon hq⟩
  | txQueueFault => exact ⟨_, rfl, txQueueFault_canon hq⟩
  | linkFlit => exact ⟨_, rfl, linkFlit_canon hq⟩
  | linkFramingLoss => exact ⟨_, rfl, linkLoss_canon hq⟩
  | blockReceived => exact ⟨_, rfl, recvBlock_canon hq⟩
  | overheadBlockReceived => exact ⟨_, rfl, recvOverhead_canon hq⟩
  | channelPacket => exact ⟨_, rfl, by split <;> [exact timePacketIn_canon hq; exact dataPacketIn_canon hq]⟩
  | sealRecord => exact ⟨_, rfl, sealRecord_canon hq⟩
  | sealRecordDeadline => exact ⟨_, rfl, sealDeadline_canon hq⟩
  | aisHoldEnd => exact ⟨_, rfl, holdEnd_canon hq⟩
  | candidateExpectedPosition => exact ⟨_, rfl, candAt_canon hq⟩
  | expectedFabPosition => exact ⟨_, rfl, fabAt_canon hq⟩
  | internalFrameBoundary => exact ⟨_, rfl, frameBoundary_canon hq⟩
  | framePhaseAlignmentLost => exact ⟨_, rfl, alignmentLost_canon hq⟩
  | laneEnable => exact ⟨_, rfl, writeOf_canon (fun _ _ _ h => effEnable_canon h) hq⟩
  | laneDisable => exact ⟨_, rfl, writeOf_canon (fun _ _ _ h => effEnable_canon h) hq⟩
  | signalDetectAssert => exact ⟨_, rfl, sdAssert_canon hq⟩
  | signalDetectDeassert => exact ⟨_, rfl, sdDeassert_canon hq⟩
  | signalDetectStable => exact ⟨_, rfl, sdStable_canon hq⟩
  | losDeclared => exact ⟨_, rfl, declareLos_canon hq⟩
  | losCleared => exact ⟨_, rfl, clearLos_canon hq⟩
  | cdrLockStable => exact ⟨_, rfl, cdrStable_canon hq⟩
  | cdrLockTimeout => exact ⟨_, rfl, cdrTimeout_canon hq⟩
  | cdrLockLost => exact ⟨_, rfl, cdrLost_canon hq⟩
  | trainingMessage => exact ⟨_, rfl, recvTraining_canon hq⟩
  | responseTimeExpiry => exact ⟨_, rfl, responseTime_canon hq⟩
  | trainingTimerExpiry => exact ⟨_, rfl, trainingTimer_canon hq⟩
  | trailingFramesEnd => exact ⟨_, rfl, trailingEnd_canon hq⟩
  | blockLockTimeout => exact ⟨_, rfl, blockLockTimeout_canon hq⟩
  | restartHoldExpiry => exact ⟨_, rfl, holdExpiry_canon hq⟩
  | retrain => exact ⟨_, rfl, writeOf_canon (fun _ _ _ h => effRetrain_canon h) hq⟩
  | rtrPeriodEnd => exact ⟨_, rfl, rtrEnd_canon hq⟩
  | gatherEnd => exact ⟨_, rfl, gatherEnd_canon hq⟩
  | loopbackOff => exact ⟨_, rfl, writeOf_canon (fun _ _ _ h => effLoopback_canon h) hq⟩
  | loopbackSerial => exact ⟨_, rfl, writeOf_canon (fun _ _ _ h => effLoopback_canon h) hq⟩
  | loopbackParallel => exact ⟨_, rfl, writeOf_canon (fun _ _ _ h => effLoopback_canon h) hq⟩
  | loopbackFarEnd => exact ⟨_, rfl, writeOf_canon (fun _ _ _ h => effLoopback_canon h) hq⟩
  | equaliserFreeze => exact ⟨_, rfl, writeOf_canon (fun _ _ _ h => effFreeze_canon h) hq⟩
  | equaliserUnfreeze => exact ⟨_, rfl, writeOf_canon (fun _ _ _ h => effFreeze_canon h) hq⟩
  | portWidthWrite => exact ⟨_, rfl, writeOf_canon (fun _ _ _ h => effWidth_canon h) hq⟩
  | expectedTraceWrite => exact ⟨_, rfl, writeOf_canon (fun _ _ _ h => effExpectedTrace_canon h) hq⟩
  | timModeWrite => exact ⟨_, rfl, writeOf_canon (fun _ _ _ h => effTimMode_canon h) hq⟩
  | failureRaised => exact ⟨_, rfl, failureRaised_canon hq⟩
  | failureCleared => exact ⟨_, rfl, failureCleared_canon hq⟩
  | slipCleared => exact ⟨_, rfl, slipEnd_canon hq⟩
  | transactionTaken => exact ⟨_, rfl, takeTrans_canon hq⟩
  | transactionComplete => exact ⟨_, rfl, completeTrans_canon hq⟩
  | revertShadow => exact ⟨_, rfl, writeOf_canon (fun _ _ _ h => effRevert_canon h) hq⟩
  | pageCopyEnd => exact ⟨_, rfl, copyEnd_canon hq⟩
  | armNextFrame => exact ⟨_, rfl, writeOf_canon (fun _ _ _ h => effArmWrite_canon h) hq⟩
  | armNamedMultiframe => exact ⟨_, rfl, writeOf_canon (fun _ _ _ h => effArmWrite_canon h) hq⟩
  | armTaiInstant => exact ⟨_, rfl, writeOf_canon (fun _ _ _ h => effArmWrite_canon h) hq⟩
  | sealPoint => exact ⟨_, rfl, sealPoint_canon hq⟩
  | commitPoint => exact ⟨_, rfl, commitPoint_canon hq⟩
  | activation => exact ⟨_, rfl, activation_canon hq⟩
  | cancelActivation => exact ⟨_, rfl, writeOf_canon (fun _ _ _ h => effCancel_canon h) hq⟩
  | protectPortWrite => exact ⟨_, rfl, writeOf_canon (fun _ _ _ h => effProtectPort_canon h) hq⟩
  | pairWriteTaken => exact ⟨_, rfl, takePair_canon hq⟩
  | pairWriteTimeout => exact ⟨_, rfl, pairTimeout_canon hq⟩
  | pairModeWrite => exact ⟨_, rfl, writeOf_canon (fun _ _ _ h => effPairMode_canon h) hq⟩
  | holdOffExpiry => exact ⟨_, rfl, holdOffEnd_canon hq⟩
  | pairEvaluation => exact ⟨_, rfl, evalPairs_canon hq⟩
  | wtrExpiry => exact ⟨_, rfl, lineWtrEnd_canon hq⟩
  | lineClear => exact ⟨_, rfl, writeOf_canon (fun _ _ _ h => effLine_canon h) hq⟩
  | lockoutOfProtection => exact ⟨_, rfl, writeOf_canon (fun _ _ _ h => effLine_canon h) hq⟩
  | forcedSwitch => exact ⟨_, rfl, writeOf_canon (fun _ _ _ h => effLine_canon h) hq⟩
  | manualSwitchToProtect => exact ⟨_, rfl, writeOf_canon (fun _ _ _ h => effLine_canon h) hq⟩
  | manualSwitchToWorking => exact ⟨_, rfl, writeOf_canon (fun _ _ _ h => effLine_canon h) hq⟩
  | modeMismatchDeclared => exact ⟨_, rfl, modeMismatch_canon hq⟩
  | modeMismatchCleared => exact ⟨_, rfl, modeMismatch_canon hq⟩
  | selectorMismatchDeclared => exact ⟨_, rfl, selectorMismatch_canon hq⟩
  | selectorMismatchCleared => exact ⟨_, rfl, selectorMismatch_canon hq⟩
  | circuitWtrTick => exact ⟨_, rfl, wtrTick_canon hq⟩
  | circuitWtrExpiry => exact ⟨_, rfl, wtrReached_canon hq⟩
  | circuitCommandNone => exact ⟨_, rfl, writeOf_canon (fun _ _ _ h => effCircuitCmd_canon h) hq⟩
  | circuitLockout => exact ⟨_, rfl, writeOf_canon (fun _ _ _ h => effCircuitCmd_canon h) hq⟩
  | circuitForced => exact ⟨_, rfl, writeOf_canon (fun _ _ _ h => effCircuitCmd_canon h) hq⟩
  | circuitManual => exact ⟨_, rfl, writeOf_canon (fun _ _ _ h => effCircuitCmd_canon h) hq⟩
  | circuitRevertiveWrite => exact ⟨_, rfl, writeOf_canon (fun _ _ _ h => effRevertive_canon h) hq⟩
  | selectorWriteBack => exact ⟨_, rfl, writeBackSels_canon hq⟩
  | perFrameLeaseState => exact ⟨_, rfl, leaseState_canon hq⟩
  | wakeComplete => exact ⟨_, rfl, wakeEnd_canon hq⟩
  | renewal => exact ⟨_, rfl, renew_canon hq⟩
  | claim => exact ⟨_, rfl, claimLease_canon hq⟩
  | leaseExpiry => exact ⟨_, rfl, leaseLapse_canon hq⟩
  | admission => exact ⟨_, rfl, admitHolder_canon hq⟩
  | tallyComparison => exact ⟨_, rfl, compareTally_canon hq⟩
  | coreRailFault => exact ⟨_, rfl, coreRail_canon hq⟩
  | islandRailLoss => exact ⟨_, rfl, islandLost_canon hq⟩
  | refreshDue => exact ⟨_, rfl, refreshDue_canon hq⟩
  | refreshCheckpoint => exact ⟨_, rfl, writeOf_canon (fun _ _ _ h => effRefresh_canon h) hq⟩
  | refreshComplete => exact ⟨_, rfl, refreshEnd_canon hq⟩
  | heartbeat => exact ⟨_, rfl, heartbeat_canon hq⟩
  | heartbeatLost => exact ⟨_, rfl, heartLost_canon hq⟩
  | manualSwitch => exact ⟨_, rfl, writeOf_canon (fun _ _ _ h => effManualSwitch_canon h) hq⟩
  | handover => exact ⟨_, rfl, handOver_canon hq⟩
  | automaticRestart => exact ⟨_, rfl, autoRestart_canon hq⟩
  | restartEngine => exact ⟨_, rfl, writeOf_canon (fun _ _ _ h => effRestartEngine_canon h) hq⟩
  | restartMarchComplete => exact ⟨_, rfl, marchEnd_canon hq⟩
  | tallyRevocationWrite => exact ⟨_, rfl, writeOf_canon (fun _ _ _ h => effTallyRevocation_canon h) hq⟩
  | referenceEdgeMissing => exact ⟨_, rfl, edgeMissing_canon hq⟩
  | frequencyMeasurement => exact ⟨_, rfl, freqResult_canon hq⟩
  | hardLimitExceeded => exact ⟨_, rfl, hardLimit_canon hq⟩
  | softLimitFlag => exact ⟨_, rfl, softLimit_canon hq⟩
  | referenceWtrExpiry => exact ⟨_, rfl, refWtrEnd_canon hq⟩
  | referenceSelection => exact ⟨_, rfl, State.selectRef_canon hq⟩
  | disagreementSet => exact ⟨_, rfl, disagreeSet_canon hq⟩
  | disagreementCleared => exact ⟨_, rfl, disagreeClear_canon hq⟩
  | selectClear => exact ⟨_, rfl, writeOf_canon (fun _ _ _ h => effSelect_canon h) hq⟩
  | selectForced => exact ⟨_, rfl, writeOf_canon (fun _ _ _ h => effSelect_canon h) hq⟩
  | selectManual => exact ⟨_, rfl, writeOf_canon (fun _ _ _ h => effSelect_canon h) hq⟩
  | selectHoldover => exact ⟨_, rfl, writeOf_canon (fun _ _ _ h => effSelect_canon h) hq⟩
  | selectFreeRun => exact ⟨_, rfl, writeOf_canon (fun _ _ _ h => effSelect_canon h) hq⟩
  | governorLocked => exact ⟨_, rfl, govLocked_canon hq⟩
  | noLockTimeout => exact ⟨_, rfl, noLock_canon hq⟩
  | historyEntry => exact ⟨_, rfl, historyMinute_canon hq⟩
  | calibrationUpdate => exact ⟨_, rfl, calibrate_canon hq⟩
  | ocxoWarm => exact ⟨_, rfl, ocxoWarm_canon hq⟩
  | ssmOptionWrite => exact ⟨_, rfl, writeOf_canon (fun _ _ _ h => effSsmOption_canon h) hq⟩
  | realignFramePhase => exact ⟨_, rfl, writeOf_canon (fun _ _ _ h => effRealign_canon h) hq⟩
  | realignment => exact ⟨_, rfl, realign_canon hq⟩
  | ppsInEdge => exact ⟨_, rfl, ppsEdge_canon hq⟩
  | todMessage => exact ⟨_, rfl, todIn_canon hq⟩
  | todOut => exact ⟨_, rfl, todSend_canon hq⟩
  | delayReqInterval => exact ⟨_, rfl, delayInterval_canon hq⟩
  | sourceLost => exact ⟨_, rfl, sourceLost_canon hq⟩
  | permitStep => exact ⟨_, rfl, writeOf_canon (fun _ _ _ h => effPermit_canon h) hq⟩
  | permitSlew => exact ⟨_, rfl, writeOf_canon (fun _ _ _ h => effPermit_canon h) hq⟩
  | timeSourceWrite => exact ⟨_, rfl, writeOf_canon (fun _ _ _ h => effTimeSource_canon h) hq⟩
  | ptpSourceLaneWrite => exact ⟨_, rfl, writeOf_canon (fun _ _ _ h => effPtpLane_canon h) hq⟩
  | armOneShot => exact ⟨_, rfl, writeOf_canon (fun _ _ _ h => effArmTrigger_canon h) hq⟩
  | armPeriodic => exact ⟨_, rfl, writeOf_canon (fun _ _ _ h => effArmTrigger_canon h) hq⟩
  | disarmTrigger => exact ⟨_, rfl, writeOf_canon (fun _ _ _ h => effDisarm_canon h) hq⟩
  | triggerFire => exact ⟨_, rfl, fireTrigger_canon hq⟩
  | triggerPulseEnd => exact ⟨_, rfl, pulseEnd_canon hq⟩
  | transmitStreamWrite => exact ⟨_, rfl, writeOf_canon (fun _ _ _ h => effTxStream_canon h) hq⟩
  | receiveStreamWrite => exact ⟨_, rfl, writeOf_canon (fun _ _ _ h => effRxStream_canon h) hq⟩
  | installKey => exact ⟨_, rfl, writeOf_canon (fun _ _ _ h => effInstallKey_canon h) hq⟩
  | keySwitch => exact ⟨_, rfl, switchKey_canon hq⟩
  | erasePendingKey => exact ⟨_, rfl, writeOf_canon (fun _ _ _ h => effEraseSlot_canon h) hq⟩
  | eraseSlotKey => exact ⟨_, rfl, writeOf_canon (fun _ _ _ h => effEraseSlot_canon h) hq⟩
  | eraseAllKeys => exact ⟨_, rfl, writeOf_canon (fun _ _ _ h => effEraseAll_canon h) hq⟩
  | installKwk => exact ⟨_, rfl, writeOf_canon (fun _ _ _ h => effInstallKwk_canon h) hq⟩
  | installChannelKey => exact ⟨_, rfl, writeOf_canon (fun _ _ _ h => effChannelKey_canon h) hq⟩
  | sendMessage => exact execSendMessage_canon hs
  | tamperDetected => exact ⟨_, rfl, tamperSeen_canon hq⟩
  | temperatureSample => exact ⟨_, rfl, tempSample_canon hq⟩
  | voltageExcursion => exact ⟨_, rfl, railOut_canon hq⟩
  | glitchDetected => exact ⟨_, rfl, glitch_canon hq⟩
  | clearTamper => exact ⟨_, rfl, writeOf_canon (fun _ _ _ h => effClearTamper_canon h) hq⟩
  | authCountDecay => exact ⟨_, rfl, authDecay_canon hq⟩
  | secondBoundary => exact ⟨_, rfl, secondEnd_canon hq⟩
  | secondClassify => exact ⟨_, rfl, classify_canon hq⟩
  | secondCommit => exact ⟨_, rfl, commitSecond_canon hq⟩
  | wheelDrain => exact ⟨_, rfl, drainWheel_canon hq⟩
  | clearCounters => exact ⟨_, rfl, writeOf_canon (fun _ _ _ h => effClear_canon h) hq⟩
  | cogWatchdogExpiry => exact ⟨_, rfl, cogFaulted_canon hq⟩
  | cogFault => exact ⟨_, rfl, cogFaulted_canon hq⟩
  | cogReloaded => exact ⟨_, rfl, cogBack_canon hq⟩
  | mapAuditPass => exact ⟨_, rfl, auditPass_canon hq⟩
  | matrixTimeout => exact ⟨_, rfl, matrixTimeout_canon hq⟩
  | masterReset => exact ⟨_, rfl, masterReset_canon hq⟩
  | marchSlice => exact ⟨_, rfl, marchSlice_canon hq⟩
  | sliceResume => exact ⟨_, rfl, sliceAgain_canon hq⟩
  | marchPassDue => exact ⟨_, rfl, passDue_canon hq⟩
  | startMarchPass => exact ⟨_, rfl, writeOf_canon (fun _ _ _ h => effStartPass_canon h) hq⟩
  | bandwidthWindowEnd => exact ⟨_, rfl, windowEnd_canon hq⟩
  | bandwidthWindowWrite => exact ⟨_, rfl, writeOf_canon (fun _ _ _ h => effWindow_canon h) hq⟩
  | enrolCertificate => exact ⟨_, rfl, writeOf_canon (fun _ _ _ h => effEnrol_canon h) hq⟩
  | revokeCertificate => exact ⟨_, rfl, writeOf_canon (fun _ _ _ h => effRevokeCert_canon h) hq⟩
  | makerAccessWrite => exact ⟨_, rfl, writeOf_canon (fun _ _ _ h => effMakerAccess_canon h) hq⟩
  | auditFlush => exact ⟨_, rfl, flushAudit_canon hq⟩
  | markRead => exact ⟨_, rfl, writeOf_canon (fun _ _ _ h => effMarkRead_canon h) hq⟩
  | startTrial => exact ⟨_, rfl, writeOf_canon (fun _ _ _ h => effTrial_canon h) hq⟩
  | confirmImage => exact ⟨_, rfl, writeOf_canon (fun _ _ _ h => effConfirm_canon h) hq⟩
  | enterRecovery => exact ⟨_, rfl, writeOf_canon (fun _ _ _ h => effRecovery_canon h) hq⟩
  | attestationNonce => exact ⟨_, rfl, writeOf_canon (fun _ _ _ h => effNonce_canon h) hq⟩
  | attestationReportReady => exact ⟨_, rfl, reportReady_canon hq⟩
  | flashEraseComplete => exact ⟨_, rfl, canon_ite (eraseEnd_canon hq) hq⟩
  | feedValid => exact ⟨_, rfl, feedUp_canon hq⟩
  | feedInvalid => exact ⟨_, rfl, feedDown_canon hq⟩
  | keepPresent => exact ⟨_, rfl, State.canon_with hq⟩
  | keepLost => exact ⟨_, rfl, keepGone_canon hq⟩
  | hotSwapTrip => exact ⟨_, rfl, trip_canon hq⟩
  | hotSwapRetry => exact ⟨_, rfl, retrySwitch_canon hq⟩
  | holdUpCharged => exact ⟨_, rfl, canon_ite hq (State.canon_with hq)⟩
  | seated => exact ⟨_, rfl, seat_canon hq⟩
  | presentLost => exact ⟨_, rfl, unseat_canon hq⟩
  | resetAssert => exact ⟨_, rfl, State.volatileLost_canon (State.canon_with hq)⟩
  | resetRelease => exact ⟨_, rfl, releaseReset_canon hq⟩
  | startupRetry => exact ⟨_, rfl, startAgain_canon hq⟩
  | startupComplete => exact ⟨_, rfl, startupEnd_canon hq⟩
  | mapCheckpointStart => exact ⟨_, rfl, mapStart_canon hq⟩
  | mapCheckpointComplete => exact ⟨_, rfl, mapEnd_canon hq⟩
  | eraseBudgetUnit => exact ⟨_, rfl, budgetUnit_canon hq⟩
  | restoreDefaults => exact ⟨_, rfl, writeOf_canon (fun _ _ _ h => effDefaults_canon h) hq⟩
  | powerFail => exact ⟨_, rfl, powerFail_canon hq⟩
  | referenceActivityRestored => exact ⟨_, rfl, activityBack_canon hq⟩
  | tamperConditionEnded => exact ⟨_, rfl, by split <;> exact State.canon_with hq⟩
  | voltageConditionEnded => exact ⟨_, rfl, State.canon_with hq⟩
  | macAddressAgeing => exact ⟨_, rfl, ageMac_canon hq⟩
  | mgtLinkChange => exact ⟨_, rfl, canon_ite (State.canon_with hq) hq⟩
  | keptResponseExpiry => exact ⟨_, rfl, keptEnd_canon hq⟩
  | overheadQueueFault => exact ⟨_, rfl, overheadQueueFault_canon hq⟩
  | scratchpadEccUncorrectable => exact ⟨_, rfl, scratchError_canon hq⟩
  | slewComplete => exact ⟨_, rfl, slewEnd_canon hq⟩

theorem Steps.canon {s t : State} (h : Steps s t) (hs : s.Canon) : t.Canon := by
  unfold Steps step at h
  split at h
  next =>
    cases h
    exact State.tick_canon hs
  next c rest _ =>
    obtain ⟨u, hu, hc⟩ := exec_canon c (s := { s with pending := rest }) (State.canon_with hs)
    cases hu.symm.trans h
    exact State.fixed_canon hc

/-- Settles O4: each function of the model keeps the tables of settings, dictionary copies, counters and lanes in canonical form, since it writes them
only by `tput`, `tmod` and their folds, by a filter, by a copy of another such table or by the empty table; so every command and the tick do. -/
theorem tablesStayCanonical : Obligations.TablesStayCanonical := by
  unfold Obligations.TablesStayCanonical
  intro s t hs hst
  exact t.wf_iff_canon.mpr (Steps.canon hst (s.wf_iff_canon.mp hs))

end Sys2Proof.Machine
end
